-- ==== Sys2Proof/Word.lean ====
section
/-! DEFINITION. The word types of the DZ8128 model: bytes, the 32-bit register words, and the 64-bit values that the
manual exposes as a LO and a HI word (00_scope, Notation). -/

namespace Sys2Proof

/-- One byte of memory. -/
abbrev Byte := BitVec 8

/-- A 16-bit field of a memory structure. -/
abbrev W16 := BitVec 16

/-- A register word. -/
abbrev W32 := BitVec 32

/-- A 64-bit value: an internal address, an LBC, a LO and HI pair. -/
abbrev W64 := BitVec 64

end Sys2Proof
end

