-- ==== Sys2Proof/Syntax.lean ====
section
/-! DEFINITION. The commands of the DZ8128 block: one constructor of `Instr` per row of spec/opcode_table.json, in the
table's order. A numbered instance (a channel, a thread, a port) is a `Fin`; an argument that a descriptor or a register
write carries as bits is a bit vector of that width; what the outside presents (a measured value, a received frame, a
level at a ball) is an operand too. -/

namespace Sys2Proof

/-- Who issued a Sesame command: the mailbox (0 to 15, 16 the version 1 mailbox), the tag of its descriptor (R49), its
NOWAIT flag, and whether a reserved field of its descriptor is not 0 (R10). -/
structure Issuer where
  mb : Fin 17
  tag : W32
  nowait : Bool
  reserved : Bool
  deriving DecidableEq, Repr

/-- The paths that keep snapshots of their own (R41, R473): PCI Express, the I2C target, each Hazel core, HST_REG_READ. -/
inductive Path where
  | pcie
  | i2c
  | hazel (k : Fin 8)
  | sesame
  deriving DecidableEq, Repr

/-- Who writes a register word directly: the host over the fast page, or a Hazel core (0 and 1 firmware). -/
inductive Writer where
  | host
  | hazel (k : Fin 8)
  deriving DecidableEq, Repr

/-- What a register write carries: a word and, of an 8-byte write, the upper half too (R41). -/
structure Written where
  value : W32
  wide : Option W32 := none
  deriving DecidableEq, Repr

/-- A read of a register: the path over which it comes, and whether it is of eight bytes (R41, R274). -/
structure Reading where
  path : Path
  wide : Bool := false
  deriving DecidableEq, Repr

/-- What the peak comparator of a supply is given: ISP minus ISN, in nV, `ofs` fs after the start of the present beat (R300). -/
structure PeakSense where
  sense : Int
  ofs : Fin 1250000
  deriving DecidableEq, Repr

/-- What the comparator of a window monitor is given: VSP minus VSN, or ISP minus ISN for OC, in uV (R303). -/
structure MonitorInput where
  monitor : Fin 4
  input : Int
  deriving DecidableEq, Repr

/-- What the monitors of a supply sense: VSP minus VSN and ISP minus ISN, in uV (R303). -/
structure Sensed where
  volts : Int
  amps : Int
  deriving DecidableEq, Repr

/-- Where and when a frame crosses: the port, and the fs after the start of the present beat (R363). -/
structure Crossing where
  port : Fin 8
  ofs : Nat
  deriving DecidableEq, Repr

/-- A KelorLink frame (R333): the header fields and the payload bytes. `crcOk` says whether its CRC matches. -/
structure Frame where
  aux : BitVec 12
  ttl : BitVec 6
  src : BitVec 11
  dest : BitVec 11
  seq : BitVec 12
  len : Nat
  type : Nat
  payload : List Byte
  crcOk : Bool
  deriving DecidableEq, Repr

/-- What reaches a KelorLink receiver (R327 to R333, R343): a frame that its line code delivered, with the place of its first word
in its block (version 1: after its alignment marker), or the line bits of each active lane, ascending: of one alignment block, or
on a version 1 port any number of them. -/
inductive Wire where
  | frame (f : Frame) (place : Nat)
  | block (lines : List (List Bool))
  deriving DecidableEq, Repr

/-- The level at a compare receiver (R88, R261): below the hysteresis band, inside it, above it. -/
inductive Level where
  | low
  | band
  | high
  deriving DecidableEq, Repr

/-- What a partner presents in NEGOTIATE (R344). -/
structure Partner where
  offersV2 : Bool
  v1Only : Bool
  id : BitVec 11
  idValid : Bool
  lanes : BitVec 4
  session : BitVec 16
  deriving DecidableEq, Repr

/-- The session that a partner presents in CREDIT_INIT (R345): its own session number, and the module ID and session number of this
side that it agreed last on its port. -/
structure Presented where
  own : BitVec 16
  agreed : Option (BitVec 11 × BitVec 16)
  deriving DecidableEq, Repr

/-- The messages of IEEE 1588-2019 that R371 lists. -/
inductive PtpKind where
  | sync
  | delayReq
  | pdelayReq
  | pdelayResp
  | followUp
  | delayResp
  | pdelayRespFollowUp
  | announce
  | signaling
  | management
  deriving DecidableEq, Repr

/-- An IEEE 1588 message: its transport (as NTU_PTP_CFG.TRANSPORT), domain, sequence number, the port identities of its sender and of
the requester that it answers, the two-step flag, the correction and the timestamp that it carries in 2^-16 ns, and the data set
of an Announce in the order of its comparison (PRESUMED, log entry 96). -/
structure PtpMessage where
  kind : PtpKind
  transport : Nat
  domain : Nat
  seq : Nat
  source : Nat
  target : Nat
  twoStep : Bool
  correction : Int
  time : Int
  dataset : List Nat
  deriving DecidableEq, Repr

/-- What PTP_MESSAGE handles (R371): a message received, one that firmware begins, or the oldest of the messages that firmware has
handed to the port, which meets the medium. -/
inductive PtpEvent where
  | received (m : PtpMessage)
  | begun (kind : PtpKind)
  | sent
  deriving DecidableEq, Repr

/-- An access of the board management balls (R473): a read over I2C of fast-page word `w`, a cycle of TCK with the levels at TMS and
TDI, or TRST_N pulled low. -/
inductive BoardAccess where
  | i2c (w : W16)
  | tck (tms tdi : Bool)
  | trst
  deriving DecidableEq, Repr

/-- One calibrated quantity that a step measured: its byte offset in one temperature set of its instance's body (R411),
its size in bytes and the value. -/
structure Measured where
  offset : Nat
  size : Nat
  value : Int
  deriving DecidableEq, Repr

/-- What the edge step measures of one timing path of one pip of its pod (R402): the delay of every tap code in fs, tap code 0
first, and for requested time 0 the ideal and the measured time at the ball in fs. -/
structure Sweep where
  pip : Fin 8
  path : Fin 7
  delays : List Int
  ideal : Int
  measured : Int
  deriving DecidableEq, Repr

/-- What a calibration step measured: the sweeps of the edge step, and the quantities of the other steps. -/
structure StepData where
  sweeps : List Sweep
  others : List Measured
  deriving DecidableEq, Repr

/-- What the checks and procedures outside the manual's arithmetic found while a deferred command ran: whether the
read-back of what it wrote matched (R413, R464), VDD_IO at the store in mV (R415), and the copies of the control
store whose read-back differs (R165). -/
structure RunFacts where
  readBackOk : Bool
  vddIo : Nat
  badCopies : Byte
  deriving DecidableEq, Repr

/-- The service class of a GDDR6 request (R223); bulk DMA is of the fourth class with the other background work, but pauses by a rule
of its own (R428). -/
inductive MemClass where
  | stream
  | capture
  | host
  | dma
  | background
  deriving DecidableEq, Repr

/-- The rail that the on-die monitor found low (R456). -/
inductive Rail where
  | vddCore
  | vddIo
  deriving DecidableEq, Repr

/-- The factors a self-calibration of one converter measured (R292, R293): ADC_CALF[0] to ADC_CALF[13]. -/
structure AdcFactors where
  offset : Int
  gain : Nat
  stages : List Int
  referenceOk : Bool
  deriving DecidableEq, Repr

/-- The commands. Rows of Sesame commands carry their issuer and the arguments of the command table. -/
inductive Instr where
  | hstMbOpen (iss : Issuer) (mailbox sqLog2 cqLog2 vector countM1 : Byte) (time : W16)
  | hstMbClose (iss : Issuer) (mailbox : Byte)
  | hstMbReset (iss : Issuer) (mailbox : Byte)
  | hstWinSet (iss : Issuer) (base : W64)
  | hstRegWrite (iss : Issuer) (addr : W64) (value mask : W32)
  | hstRegRead (iss : Issuer) (addr : W64)
  | sysHello (iss : Issuer) (feat0 feat1 feat2 feat3 : W32)
  | sysAgree (iss : Issuer)
  | cfgBegin (iss : Issuer)
  | cfgCommit (iss : Issuer) (mode : Byte) (lbc : W64) (sites : W32)
  | cfgRollback (iss : Issuer)
  | sysProfileSelect (iss : Issuer) (profile : Byte)
  | sysProfileStore (iss : Issuer) (profile : Byte)
  | sysShutdownLogRead (iss : Issuer) (dest : W64) (first count : W16)
  | sysShutdownLogClear (iss : Issuer)
  | ledgerSnap (iss : Issuer)
  | tmgTsetLoad (iss : Issuer) (source : W64) (site first : Byte) (count : W16)
  | tmgTsetRead (iss : Issuer) (dest : W64) (site tset : Byte)
  | tmgEdgeQuery (iss : Issuer) (channel tset path : Byte)
  | vstDirWrite (iss : Issuer) (source : W64) (first : W16) (count : W32)
  | vstDirRead (iss : Issuer) (dest : W64) (first : W16) (count : W32)
  | vstSegVerify (iss : Issuer) (segment : W16)
  | vstMktabLoad (iss : Issuer) (source : W64) (site first : Byte) (count : W16)
  | seqUcodeLoad (iss : Issuer) (source : W64) (clusters : Byte)
  | seqUcodeVerify (iss : Issuer) (clusters : Byte)
  | seqProgLoad (iss : Issuer) (source : W64) (program : Byte) (countM1 : W16)
  | seqProgFree (iss : Issuer) (program : Byte)
  | seqBurstStart (iss : Issuer) (sites : W32) (program mode : Byte) (entry : W16) (when : W64) (nanos : W32)
  | seqBurstStop (iss : Issuer) (sites : W32) (mode : Byte)
  | seqThrRead (iss : Issuer) (dest : W64) (thread : Byte)
  | seqCslSet (iss : Issuer) (sites : W32) (slot op : Byte)
  | capAqArm (iss : Issuer) (units : W16)
  | capAqDisarm (iss : Issuer) (units : W16)
  | capAqTrig (iss : Issuer) (units : W16)
  | capAqRead (iss : Issuer) (dest : W64) (unit slot : Byte)
  | capAqMaskLoad (iss : Issuer) (source : W64) (unit : Byte) (bins : W16)
  | tiaStart (iss : Issuer) (mask0 mask1 : W64) (mode : Byte) (lbc : W64)
  | tiaStop (iss : Issuer) (mask0 mask1 : W64)
  | tiaStatRead (iss : Issuer) (dest : W64) (channel : Byte)
  | adcSelfcal (iss : Issuer) (converters : Byte)
  | adcArm (iss : Issuer) (converters : Byte)
  | adcStop (iss : Issuer) (converters mode : Byte)
  | adcTrig (iss : Issuer) (converters : Byte)
  | adcOpenwire (iss : Issuer) (dest inputs : W64) (converter current : Byte) (settle thresh : W16)
  | supSet (iss : Issuer) (controllers : W32) (op : Byte) (vset : W16)
  | supSelftest (iss : Issuer) (controller comparators : Byte)
  | klkPortCtl (iss : Issuer) (ports op : Byte)
  | klkPrbs (iss : Issuer) (lanes : W64) (op pattern rate flags exponent : Byte)
  | klkTrigSend (iss : Issuer) (number : Byte)
  | ntuTodRead (iss : Issuer)
  | ntuTodStep (iss : Issuer) (mode : Byte) (lbc value : W64) (nanos : W32)
  | ntuAlmArm (iss : Issuer) (alarm flags line number : Byte) (seconds : W64) (nanos period : W32)
  | ntuAlmDisarm (iss : Issuer) (alarms : W32)
  | ntuTxTimed (iss : Issuer) (source : W64) (length : W16) (port queue : Byte) (seconds : W64) (nanos : W32)
  | mgtAppletLoad (iss : Issuer) (image : W64) (core threads engines queues : Byte) (sites quota : W32)
  | mgtAppletStop (iss : Issuer) (core : Byte)
  | mgtDmaHost (iss : Issuer) (bus phys : W64) (length : W32) (direction : Byte)
  | mgtCoreDump (iss : Issuer) (dest : W64) (core : Byte)
  /-- MGT_DEQ_RESUME is a firmware operation (R395): resume the faulted descriptor, or cancel it. -/
  | mgtDeqResume (engine : Fin 16) (queue : Fin 4) (cancel : Bool)
  | calRun (iss : Issuer) (scope mode set flags : Byte) (instances : W32)
  | calStore (iss : Issuer) (sets : W32)
  | calRestore (iss : Issuer) (sets : W32) (source : Byte)
  | hskRecRead (iss : Issuer) (dest : W64) (first : W32) (count : W16)
  | hstFwStore (iss : Issuer) (source : W64) (length : W32)
  /-- A write to word 0x3020 with GO set (R75, R76). -/
  | v1Go
  | sqTailWrite (mb : Fin 16) (value : W32)
  | cqHeadWrite (mb : Fin 16) (value : W32)
  | hskAckWrite (high : Bool) (value : W32)
  | hskInjectWrite (who : Writer) (value : W32)
  | seqGrWrite (index : Fin 512) (value : W32)
  | ntuIncWrite (who : Writer) (high : Bool) (value : Written)
  | supLatchClear (controller : Fin 32) (value : W32)
  | mgtRxqRelWrite (queue : Fin 8) (value : W32)
  | dmaDoorbellWrite (engine : Fin 16) (queue : Fin 4) (value : W32)
  /-- A write of a fast-page word (host: the offset in the fast page) or of a register word (a core: the internal
  address). -/
  | registerWrite (who : Writer) (addr : W64) (value : Written)
  /-- A read of a LO word of a 64-bit register at an internal address or, over PCI Express, of a fast-page LO word. -/
  | loWordRead (read : Reading) (addr : W64)
  | readClearRead (path : Path) (addr : W64)
  | todNsRead (path : Path)
  | tiaCntLoRead (read : Reading) (channel : Fin 128)
  | i2cRead (access : BoardAccess)
  /-- A host access to BAR2: the offset, and the bytes written, or the number of bytes read. -/
  | bar2Access (offset : BitVec 28) (write : Option (List Byte)) (readLen : Nat)
  | functionLevelReset
  | perstNAssert
  | perstNRise
  /-- The link settles at a rate (0 2.5, 1 5.0, 2 8.0, 3 16.0, 4 32.0 GT/s) and a width in lanes. -/
  | pcieLinkSettle (rate : Fin 5) (lanes : Nat)
  | porstNRise (prof : BitVec 2)
  | porstNFall
  | powerMonitorReset (rail : Rail)
  /-- A 10 us window ended with this many REFCLK cycles counted (1,000 at 100 MHz), in thousandths of a cycle. -/
  | refWindow (milliCycles : Nat)
  | beatPllLock
  | beatLockTimeout
  | refclkLoss
  | holdoverRelock
  | podPllLock (pod : Fin 16)
  | podLockTimeout
  | podPllUnlock (pod : Fin 16)
  | beatBoundary
  | bootRomLoad
  /-- What boot finds: the devices that fail training, the factory copies that are invalid (sets 0 to 18), and the
  factors of the boot self-calibration of both converters. -/
  | firmwareBoot (failedDevices : W32) (factoryBad : BitVec 19) (adc0 adc1 : AdcFactors)
  | firmwareRestart
  | descriptorStart (mb : Fin 16)
  | completionPost (mb : Fin 17)
  | deferredCompletion (index : Nat) (facts : RunFacts)
  | deferredStart (index : Nat)
  | msixCoalesceTimeout (mb : Fin 16)
  | msixSend (vector : Fin 64)
  | cfgApply (mb : Fin 17)
  | burstStartBeat (index : Nat)
  | nop (thr : Fin 32)
  | fetch (thr : Fin 32)
  | park (thr : Fin 32)
  | lsDecb (thr : Fin 32)
  | bgZero (thr : Fin 32)
  | bflag (thr : Fin 32)
  | pqPush (thr : Fin 32)
  | lsPush (thr : Fin 32)
  | lsBack (thr : Fin 32)
  | lsPop (thr : Fin 32)
  | csPush (thr : Fin 32)
  | csPop (thr : Fin 32)
  | pcImm (thr : Fin 32)
  | pcExit (thr : Fin 32)
  | grSet (thr : Fin 32)
  | grAdd (thr : Fin 32)
  | arm (thr : Fin 32)
  | armTo (thr : Fin 32)
  | mkSet (thr : Fin 32)
  | sofSet (thr : Fin 32)
  | haltQ (thr : Fin 32)
  | ibufRefill (thr : Fin 32)
  | vectorIssue (thr : Fin 32)
  | mkPulseEnd (ball : Fin 16)
  | tsetEmptyDetect (thr : Fin 32)
  | outputPipeSchedule (thr : Fin 32)
  | calOffsetUpdate
  /-- The oldest strobe of the channel is judged: the receiver outputs seen at it, or at the first wrong moment of a
  window (`ofs` fs after its opening). -/
  | compareResult (ch : Fin 128) (cph cpl : Bool) (ofs : Nat)
  /-- Input CPH (false) or CPL (true) has been outside its band for 2 ns at this level. -/
  | compareInputResolve (ch : Fin 128) (low : Bool) (level : Bool)
  | conditionSlotSet (thr : Fin 32) (slot : Fin 16)
  | branchDecision (thr : Fin 32)
  | branchEffect (thr : Fin 32)
  | padReady (thr : Fin 32) (pad : Fin 8)
  | padExpire (thr : Fin 32) (pad : Fin 8)
  | waitTimeout (thr : Fin 32)
  | joinRelease (group : Fin 8)
  | joinTimeout (thr : Fin 32)
  | spansyncRelease
  | spansyncTimeout
  | spanKeepalive
  | spanLinkLate (member : BitVec 11)
  | siteAbort (site : Fin 32)
  | quietStateEntry (ch : Fin 128)
  | streamFetchRequest (thr : Fin 32)
  | streamGranuleArrive (thr : Fin 32)
  | blockAllocate (pool : Fin 7)
  | blockFree (pool : Fin 7) (block : Fin 65536)
  /-- A read of the 64-bit word `word` of the store, whose check found `flipped` bits in error. -/
  | cstRead (word : Nat) (flipped : Fin 3)
  /-- One access of granule `granule`: class, the data and byte mask written or a read, and how many attempts in a row
  mismatched their EDC. -/
  | memGranuleAccess (cls : MemClass) (granule : Nat) (write : Option (List (Option Byte))) (mismatches : Nat)
  | edcWindowEnd (mc : Fin 16)
  /-- The readings of both devices in 1/4 °C, none where the readout failed or is marked invalid. -/
  | gddr6TempRead (mc : Fin 16) (a b : Option Int)
  | deviceLost (device : Fin 32)
  | failBitCapture (site : Fin 32)
  | failRecordTimeout (site : Fin 32)
  | failLogFlush (site : Fin 32)
  | captureSample (unit : Fin 16)
  | aqSample (unit : Fin 16)
  | aqMonitorTimeout (unit : Fin 16)
  | aqHoldoffEnd (unit : Fin 16)
  | toPulseEnd (out : Fin 8)
  /-- A transition of the channel's TDC input to `level`, `ofs` fs after the start of the present beat. -/
  | tdcEdge (ch : Fin 128) (level : Bool) (ofs : Nat)
  | tdcHoldoffEnd (ch : Fin 128) (level : Bool)
  | tdcMeasure (ch : Fin 128)
  | tdcRunEnd (ch : Fin 128)
  | freqGateEnd (ch : Fin 128)
  /-- A trigger of the configured source is taken at this boundary. -/
  | adcTriggerTake (adc : Fin 2)
  /-- A conversion with the pipeline's stage-corrected code before OFFSET and GAIN (R292). -/
  | adcConversion (adc : Fin 2) (raw : Int)
  | adcResultWrite (adc : Fin 2)
  | adcSelfcalEnd (adc : Fin 2) (factors : AdcFactors)
  /-- The open-wire test of a converter ends: per named input, in ascending order, the values V0, VuP, VdP, VuN, VdN. -/
  | adcOpenwireEnd (adc : Fin 2) (values : List (List Int))
  /-- The loop converter's sample of VSP minus VSN (R302). -/
  | supPeriodStart (sc : Fin 32) (sample : BitVec 12)
  | peakComparatorTrip (sc : Fin 32) (sensed : PeakSense)
  /-- The input of a monitor's comparator takes a value. -/
  | supComparatorTrip (sc : Fin 32) (sensed : MonitorInput)
  | softStartStep (sc : Fin 32)
  | rampDownDone (sc : Fin 32)
  /-- Blanking ends: which comparators lie inside their band, and what they sense. -/
  | enableBlankingEnd (sc : Fin 32) (peakBand : Bool) (sensed : Sensed)
  | supSelftestEnd (index : Nat) (failed : BitVec 4)
  /-- The 48 raw counts of a conversion, and the activity counters' estimates of the four deferrable classes in mW. -/
  | thmConversion (counts estimates : List Nat)
  | throttleTick
  /-- Whether the record's page program finished within 1 ms. -/
  | shutdownRecordWrite (programmed : Bool)
  | coreWatchdogExpiry (core : Fin 8)
  | watchdogRestart (core : Fin 8)
  | coreTrap (core : Fin 8) (cause : W16)
  /-- A request of the applet on a core: write (value and mask) or read of an internal address. -/
  | appletRegRequest (core : Fin 8) (addr : W64) (write : Option (W32 × W32))
  | expect (thread : Fin 1024) (tokens : W16)
  | post (poster target : Fin 1024) (value : W32)
  /-- A running thread yields, having taken this many entries off its completion ring. -/
  | threadYield (thread : Fin 1024) (taken : Nat)
  /-- A thread (or, from core boot, the range's first) creates a thread: its core, priority, flow, and completion ring. -/
  | threadCreate (creator thread : Fin 1024) (core : Fin 8) (prio : Fin 32) (flow : Option (Fin 256)) (ringVa : W64) (ringLen : Nat)
  | threadRelease (releaser thread : Fin 1024)
  | completionDelivery
  /-- A refused producer retries: a DMA engine (0 to 15) or receive queue (16 to 23). -/
  | cqRefuseRetry (producer : Fin 24)
  | dmaDescriptorStart (engine : Fin 16)
  /-- One granule, with the bytes that a host source supplied. -/
  | dmaGranuleMove (engine : Fin 16) (hostData : List Byte)
  | faultLatch
  | faultRecordWrite
  | klFrameReceive (port : Fin 8) (wire : Wire)
  | condReceive (port : Fin 8)
  | trigReceive (port : Fin 8)
  | noticeReceive (port : Fin 8)
  /-- A TIME frame is consumed; `ofs` is the time of its header crossing, in fs after the start of the beat `b`. -/
  | timeReceive (port : Fin 8) (ofs : Nat)
  | dataReceive (port : Fin 8)
  | ctrlReceive (port : Fin 8)
  | linkReceive (port : Fin 8) (frame : Frame)
  /-- A frame boundary, and when what goes next crosses the serialiser. -/
  | frameTransmit (crossing : Crossing)
  | replayTimeout (port : Fin 8)
  | refuseReplay (port : Fin 8)
  | signalDetect (port : Fin 8) (lanes : BitVec 4)
  | laneLock (port : Fin 8) (lanes : BitVec 4)
  | eqAgreed (port : Fin 8)
  | negotiateExchange (port : Fin 8) (partner : Partner)
  /-- The partner's side of CREDIT_INIT: the module ID and session it presents, and the totals it advertises (VC3 to VC0
  from bit 31). -/
  | creditInit (port : Fin 8) (partnerId : BitVec 11) (partnerSession : Presented) (partnerCredits : W32)
  | trainingTimeout (port : Fin 8)
  | lossOfSignal (port : Fin 8) (lanes : BitVec 4)
  | noPartnerRetry (port : Fin 8)
  /-- Lock is lost on a lane; the block errors of the four lanes in the last 1 ms. -/
  | laneLoss (port : Fin 8) (lane : Fin 4) (errors : List Nat)
  | prbsCheck (lane : Fin 42) (received : Bool)
  /-- `ofs` fs after the start of the present beat. -/
  | dreqSend (port : Fin 8) (ofs : Nat)
  | syncSend (port : Fin 8) (ofs : Nat)
  | syncLoss
  /-- A PTP message on an Ethernet port; it meets the medium `ofs` fs after the start of the present beat. -/
  | ptpMessage (eth : Fin 2) (ofs : Nat) (event : PtpEvent)
  | ethernetLinkDown (eth : Fin 2)
  | todStepApply
  | alarmFire (alarm : Fin 32)
  | timedFrameLaunch (port : Fin 10) (queue : Fin 8)
  /-- The run starts: CALCLK cycles counted over 1 ms, the beat-derived REFCLK error in 0.001 ppm, CAL_VREF_SNS in uV. -/
  | calRunBegin (calclkCount : Nat) (refErrPpb : Int) (vrefUv : Int)
  /-- One step of the run ended: the integral errors of the pod's TDCs over the CALCLK periods, in thousandths of an LSB, which the
  TDC step measures, and what else it measured. -/
  | calStepEnd (integral : List Int) (measured : StepData)
  | c3Recalibration
  /-- The next phase of the store write in progress, with the conditions found. -/
  | storeWrite (facts : RunFacts)
  /-- An edge at a TI ball, at a coarse step of the present beat. -/
  | tiEdge (input : Fin 16) (rising : Bool) (coarse : Fin 8)
  | tdcStartBeat (ch : Fin 128)
  | threadPreempt (core : Fin 8)
  | supComparatorResolve (sc : Fin 32) (monitor : Fin 4) (input : Int)
  | alignmentMarkerReceive (port : Fin 8) (position width : Nat)
  | periodicReadRetraining (mc : Fin 16)
  | refreshInterval (mc : Fin 16)
  | pBaseRecompute (milliwatts : Nat)
  | ethernetLinkUp (eth : Fin 2)
  deriving DecidableEq, Repr

end Sys2Proof
end

