-- ==== Sys2Proof/WellFormed.lean ====
section
/-! DEFINITION. Which commands are well formed: what the types of the operands leave open and the manual or the
interface fixes. -/

namespace Sys2Proof

/-- A version 1 command has no tag, no NOWAIT flag and no reserved field of a descriptor (R75). -/
def Issuer.ok (i : Issuer) : Bool := i.mb != 16 || (i.tag == 0 && !i.nowait && !i.reserved)

/-- A frame carries LEN units of 8 bytes, both as the header has them (R333). -/
def Frame.ok (f : Frame) : Bool := decide (f.len < 64) && f.payload.length == 8 * f.len && decide (f.type < 16)

/-- What reaches a receiver is a frame, or the line bits of at most four lanes. -/
def Wire.ok (w : Wire) : Bool := match w with | .frame f _ => Frame.ok f | .block lines => decide (lines.length ≤ 4)

/-- A converter has twelve stage factors (R292). -/
def AdcFactors.ok (f : AdcFactors) : Bool := f.stages.length == 12

/-- A measured quantity is held in 1, 2 or 4 bytes (R411). -/
def Measured.ok (m : Measured) : Bool := [1, 2, 4].contains m.size

/-- A delay line has 1,024 taps (R402). -/
def Sweep.ok (w : Sweep) : Bool := w.delays.length == 1024

/-- A BAR2 access is of 1 to 64 bytes within the BAR of 256 MiB (R43). -/
def accessOk (offset : BitVec 28) (write : Option (List Byte)) (readLen : Nat) : Bool :=
  let n := match write with | some l => l.length | none => readLen
  decide (1 ≤ n) && decide (n ≤ 64) && decide (offset.toNat + n ≤ 0x10000000)

/-- A path over which eight bytes can be read at once: a word is 4 bytes over I2C and for HST_REG_READ (R41, R60, R473). -/
def Path.eight (p : Path) : Bool := match p with | .pcie => true | .hazel _ => true | .i2c => false | .sesame => false

/-- A read is of a word, or of eight bytes over a path that carries them. -/
def Reading.ok (r : Reading) : Bool := !r.wide || r.path.eight

/-- The well-formed commands. -/
def Instr.ok (i : Instr) : Bool :=
  match i with
  | .hstMbOpen iss .. => iss.ok
  | .hstMbClose iss .. => iss.ok
  | .hstMbReset iss .. => iss.ok
  | .hstWinSet iss .. => iss.ok
  | .hstRegWrite iss .. => iss.ok
  | .hstRegRead iss .. => iss.ok
  | .sysHello iss .. => iss.ok
  | .sysAgree iss .. => iss.ok
  | .cfgBegin iss .. => iss.ok
  | .cfgCommit iss .. => iss.ok
  | .cfgRollback iss .. => iss.ok
  | .sysProfileSelect iss .. => iss.ok
  | .sysProfileStore iss .. => iss.ok
  | .sysShutdownLogRead iss .. => iss.ok
  | .sysShutdownLogClear iss .. => iss.ok
  | .ledgerSnap iss .. => iss.ok
  | .tmgTsetLoad iss .. => iss.ok
  | .tmgTsetRead iss .. => iss.ok
  | .tmgEdgeQuery iss .. => iss.ok
  | .vstDirWrite iss .. => iss.ok
  | .vstDirRead iss .. => iss.ok
  | .vstSegVerify iss .. => iss.ok
  | .vstMktabLoad iss .. => iss.ok
  | .seqUcodeLoad iss .. => iss.ok
  | .seqUcodeVerify iss .. => iss.ok
  | .seqProgLoad iss .. => iss.ok
  | .seqProgFree iss .. => iss.ok
  | .seqBurstStart iss .. => iss.ok
  | .seqBurstStop iss .. => iss.ok
  | .seqThrRead iss .. => iss.ok
  | .seqCslSet iss .. => iss.ok
  | .capAqArm iss .. => iss.ok
  | .capAqDisarm iss .. => iss.ok
  | .capAqTrig iss .. => iss.ok
  | .capAqRead iss .. => iss.ok
  | .capAqMaskLoad iss .. => iss.ok
  | .tiaStart iss .. => iss.ok
  | .tiaStop iss .. => iss.ok
  | .tiaStatRead iss .. => iss.ok
  | .adcSelfcal iss .. => iss.ok
  | .adcArm iss .. => iss.ok
  | .adcStop iss .. => iss.ok
  | .adcTrig iss .. => iss.ok
  | .adcOpenwire iss .. => iss.ok
  | .supSet iss .. => iss.ok
  | .supSelftest iss .. => iss.ok
  | .klkPortCtl iss .. => iss.ok
  | .klkPrbs iss .. => iss.ok
  | .klkTrigSend iss .. => iss.ok
  | .ntuTodRead iss .. => iss.ok
  | .ntuTodStep iss .. => iss.ok
  | .ntuAlmArm iss .. => iss.ok
  | .ntuAlmDisarm iss .. => iss.ok
  | .ntuTxTimed iss .. => iss.ok
  | .mgtAppletLoad iss .. => iss.ok
  | .mgtAppletStop iss .. => iss.ok
  | .mgtDmaHost iss .. => iss.ok
  | .mgtCoreDump iss .. => iss.ok
  | .mgtDeqResume _ _ _ => true
  | .calRun iss .. => iss.ok
  | .calStore iss .. => iss.ok
  | .calRestore iss .. => iss.ok
  | .hskRecRead iss .. => iss.ok
  | .hstFwStore iss .. => iss.ok
  | .v1Go => true
  | .sqTailWrite _ _ => true
  | .cqHeadWrite _ _ => true
  | .hskAckWrite _ _ => true
  | .hskInjectWrite _ _ => true
  | .seqGrWrite _ _ => true
  | .ntuIncWrite _ high value => value.wide.isNone || !high
  | .supLatchClear _ _ => true
  | .mgtRxqRelWrite _ _ => true
  | .dmaDoorbellWrite _ _ _ => true
  | .registerWrite _ addr value => decide (addr.toNat % (if value.wide.isSome then 8 else 4) = 0)
  | .loWordRead read addr => decide (addr.toNat % (if read.wide then 8 else 4) = 0) && read.ok
  | .readClearRead _ addr => decide (addr.toNat % 4 = 0)
  | .todNsRead _ => true
  | .tiaCntLoRead read _ => read.ok
  | .i2cRead _ => true
  | .bar2Access offset write readLen => accessOk offset write readLen
  | .functionLevelReset => true
  | .perstNAssert => true
  | .perstNRise => true
  | .pcieLinkSettle _ lanes => [1, 2, 4, 8].contains lanes
  | .porstNRise _ => true
  | .porstNFall => true
  | .powerMonitorReset _ => true
  | .refWindow _ => true
  | .beatPllLock => true
  | .beatLockTimeout => true
  | .refclkLoss => true
  | .holdoverRelock => true
  | .podPllLock _ => true
  | .podLockTimeout => true
  | .podPllUnlock _ => true
  | .beatBoundary => true
  | .bootRomLoad => true
  | .firmwareBoot _ _ adc0 adc1 => adc0.ok && adc1.ok
  | .firmwareRestart => true
  | .descriptorStart _ => true
  | .completionPost _ => true
  | .deferredCompletion _ _ => true
  | .deferredStart _ => true
  | .msixCoalesceTimeout _ => true
  | .msixSend _ => true
  | .cfgApply _ => true
  | .burstStartBeat _ => true
  | .nop _ => true
  | .fetch _ => true
  | .park _ => true
  | .lsDecb _ => true
  | .bgZero _ => true
  | .bflag _ => true
  | .pqPush _ => true
  | .lsPush _ => true
  | .lsBack _ => true
  | .lsPop _ => true
  | .csPush _ => true
  | .csPop _ => true
  | .pcImm _ => true
  | .pcExit _ => true
  | .grSet _ => true
  | .grAdd _ => true
  | .arm _ => true
  | .armTo _ => true
  | .mkSet _ => true
  | .sofSet _ => true
  | .haltQ _ => true
  | .ibufRefill _ => true
  | .vectorIssue _ => true
  | .mkPulseEnd _ => true
  | .tsetEmptyDetect _ => true
  | .outputPipeSchedule _ => true
  | .calOffsetUpdate => true
  | .compareResult _ _ _ _ => true
  | .compareInputResolve _ _ _ => true
  | .conditionSlotSet _ _ => true
  | .branchDecision _ => true
  | .branchEffect _ => true
  | .padReady _ _ => true
  | .padExpire _ _ => true
  | .waitTimeout _ => true
  | .joinRelease _ => true
  | .joinTimeout _ => true
  | .spansyncRelease => true
  | .spansyncTimeout => true
  | .spanKeepalive => true
  | .spanLinkLate _ => true
  | .siteAbort _ => true
  | .quietStateEntry _ => true
  | .streamFetchRequest _ => true
  | .streamGranuleArrive _ => true
  | .blockAllocate _ => true
  | .blockFree _ _ => true
  | .cstRead word _ => decide (word < 0x1000000)
  | .memGranuleAccess _ _ write _ => (match write with | some l => l.length == 128 | none => true)
  | .edcWindowEnd _ => true
  | .gddr6TempRead _ _ _ => true
  | .deviceLost _ => true
  | .failBitCapture _ => true
  | .failRecordTimeout _ => true
  | .failLogFlush _ => true
  | .captureSample _ => true
  | .aqSample _ => true
  | .aqMonitorTimeout _ => true
  | .aqHoldoffEnd _ => true
  | .toPulseEnd _ => true
  | .tdcEdge _ _ ofs => decide (ofs < 1250000)
  | .tdcHoldoffEnd _ _ => true
  | .tdcMeasure _ => true
  | .tdcRunEnd _ => true
  | .freqGateEnd _ => true
  | .adcTriggerTake _ => true
  | .adcConversion _ _ => true
  | .adcResultWrite _ => true
  | .adcSelfcalEnd _ factors => factors.ok
  | .adcOpenwireEnd _ values => values.all (fun v => v.length == 5)
  | .supPeriodStart _ _ => true
  | .peakComparatorTrip _ _ => true
  | .supComparatorTrip _ _ => true
  | .softStartStep _ => true
  | .rampDownDone _ => true
  | .enableBlankingEnd _ _ _ => true
  | .supSelftestEnd _ _ => true
  | .thmConversion counts estimates => counts.length == 48 && estimates.length == 4
  | .throttleTick => true
  | .shutdownRecordWrite _ => true
  | .coreWatchdogExpiry _ => true
  | .watchdogRestart _ => true
  | .coreTrap _ _ => true
  | .appletRegRequest _ _ _ => true
  | .expect _ _ => true
  | .post _ _ _ => true
  | .threadYield _ _ => true
  | .threadCreate _ _ _ _ _ _ ringLen => decide (ringLen ≤ 65536)
  | .threadRelease _ _ => true
  | .completionDelivery => true
  | .cqRefuseRetry _ => true
  | .dmaDescriptorStart _ => true
  | .dmaGranuleMove _ hostData => decide (hostData.length ≤ 256)
  | .faultLatch => true
  | .faultRecordWrite => true
  | .klFrameReceive _ wire => Sys2Proof.Wire.ok wire
  | .condReceive _ => true
  | .trigReceive _ => true
  | .noticeReceive _ => true
  | .timeReceive _ ofs => decide (ofs < 1250000)
  | .dataReceive _ => true
  | .ctrlReceive _ => true
  | .linkReceive _ frame => Sys2Proof.Frame.ok frame
  | .frameTransmit crossing => decide (crossing.ofs < 1250000)
  | .replayTimeout _ => true
  | .refuseReplay _ => true
  | .signalDetect _ _ => true
  | .laneLock _ _ => true
  | .eqAgreed _ => true
  | .negotiateExchange _ _ => true
  | .creditInit _ _ _ _ => true
  | .trainingTimeout _ => true
  | .lossOfSignal _ _ => true
  | .noPartnerRetry _ => true
  | .laneLoss _ _ errors => errors.length == 4
  | .prbsCheck _ _ => true
  | .dreqSend _ ofs => decide (ofs < 1250000)
  | .syncSend _ ofs => decide (ofs < 1250000)
  | .syncLoss => true
  | .ptpMessage _ ofs _ => decide (ofs < 1250000)
  | .ethernetLinkDown _ => true
  | .todStepApply => true
  | .alarmFire _ => true
  | .timedFrameLaunch _ _ => true
  | .calRunBegin _ _ _ => true
  | .calStepEnd _ measured => measured.others.all Measured.ok && measured.sweeps.all Sweep.ok
  | .c3Recalibration => true
  | .storeWrite _ => true
  | .tiEdge _ _ _ => true
  | .tdcStartBeat _ => true
  | .threadPreempt _ => true
  | .supComparatorResolve _ _ _ => true
  | .alignmentMarkerReceive _ _ _ => true
  | .periodicReadRetraining _ => true
  | .refreshInterval _ => true
  | .pBaseRecompute _ => true
  | .ethernetLinkUp _ => true

end Sys2Proof
end

