-- ==== Sys2Proof/Decode.lean ====
section
/-! DEFINITION. The commands that a word spells by the bits of spec/opcode_table.json: the table gives none of its rows
any bits, so no word spells a command. (The descriptors of Sesame, which do carry bits, are decoded by `commandOf` in
Machine/Desc.lean.) -/

namespace Sys2Proof

/-- The command that a word spells by the table's bits: none. -/
def decodeTableWord (_nbits _w : Nat) : Option Instr := none

end Sys2Proof
end

