-- ==== Sys2Proof/Machine/Bits.lean ====
section
/-! DEFINITION. Bit fields, byte order, sign and rounding: the helpers that every meaning uses. -/

namespace Sys2Proof.Machine

/-- Bits `hi` to `lo` of a word, both included (R6, R7). -/
def bits {n : Nat} (w : BitVec n) (hi lo : Nat) : Nat := (w.toNat / 2 ^ lo) % 2 ^ (hi + 1 - lo)

/-- Bit `i` of a word. -/
def bit {n : Nat} (w : BitVec n) (i : Nat) : Bool := w.getLsbD i

/-- `v` placed with its bit 0 at bit `lo`, cut to the field `hi` to `lo`. -/
def fld (hi lo v : Nat) : Nat := (v % 2 ^ (hi + 1 - lo)) * 2 ^ lo

/-- A Bool as the value of a one-bit field at bit `i`. -/
def flag (i : Nat) (b : Bool) : Nat := if b then 2 ^ i else 0

/-- The field `hi` to `lo` of `w` replaced by `v`, every other bit kept. -/
def setBits {n : Nat} (w : BitVec n) (hi lo v : Nat) : BitVec n :=
  BitVec.ofNat n (w.toNat - bits w hi lo * 2 ^ lo + fld hi lo v)

/-- The mask with the bits `hi` to `lo` set. -/
def maskOf (hi lo : Nat) : Nat := (2 ^ (hi + 1 - lo) - 1) * 2 ^ lo

/-- A field of `width` bits read as two's complement. -/
def signed (width v : Nat) : Int := if v % 2 ^ width < 2 ^ (width - 1) then (v % 2 ^ width : Nat) else (v % 2 ^ width : Nat) - (2 ^ width : Nat)

/-- An integer as a two's complement field of `width` bits. -/
def twos (width : Nat) (i : Int) : Nat := (i % (2 ^ width : Nat)).toNat

/-- Division rounding up; 0 where the divisor is 0. -/
def ceilDiv (a b : Nat) : Nat := if b = 0 then 0 else (a + b - 1) / b

/-- Division rounding to the nearest, ties away from zero (R292, R407, R420). -/
def roundDiv (a b : Int) : Int :=
  if b = 0 then 0
  else
    let n := if b < 0 then -a else a
    let d := b.natAbs
    if 0 ≤ n then ((2 * n.natAbs + d) / (2 * d) : Nat) else -(((2 * n.natAbs + d) / (2 * d) : Nat) : Int)

/-- A count that stays at its largest value (a saturating counter of `width` bits). -/
def satAdd (width a b : Nat) : Nat := min (a + b) (2 ^ width - 1)

/-- The low half of a 64-bit value. -/
def lo32 (v : W64) : W32 := v.truncate 32

/-- The high half of a 64-bit value. -/
def hi32 (v : W64) : W32 := (v >>> 32).truncate 32

/-- A 64-bit value from its halves. -/
def join64 (lo hi : W32) : W64 := (hi.zeroExtend 64 <<< 32) ||| lo.zeroExtend 64

/-- The `k` bytes of `v`, least significant first (R7). -/
def leBytes : Nat → Nat → List Byte
  | 0, _ => []
  | k + 1, v => BitVec.ofNat 8 v :: leBytes k (v / 256)

/-- The number that bytes spell, least significant first (R7). -/
def ofLE : List Byte → Nat
  | [] => 0
  | b :: r => b.toNat + 256 * ofLE r

/-- The field of `k` bytes at byte offset `o` of a structure (R7). -/
def leAt (l : List Byte) (o k : Nat) : Nat := ofLE ((l.drop o).take k)

/-- Whether every byte of `k` at offset `o` is 0, as a reserved field must be (R10). -/
def zeroAt (l : List Byte) (o k : Nat) : Bool := ((l.drop o).take k).all (· == 0)

/-- The numbers below `n` whose bit is set in a mask, ascending. -/
def maskList {w : Nat} (m : BitVec w) (n : Nat) : List Nat := (List.range n).filter (fun i => m.getLsbD i)

/-- The mask with the bits of a list set. -/
def listMask (l : List Nat) : Nat := l.foldl (fun a i => a ||| 2 ^ i) 0

/-- `n` rounded up to the next multiple of `m`. -/
def roundUp (n m : Nat) : Nat := ceilDiv n m * m

/-- One bit step of the reflected CRC-32 (R128). -/
def crcBit (c : W32) : W32 := if c.getLsbD 0 then (c >>> 1) ^^^ 0xEDB88320#32 else c >>> 1

/-- One byte through the CRC-32 of IEEE 802.3 (R128). -/
def crcByte (c : W32) (b : Byte) : W32 :=
  let c := c ^^^ b.zeroExtend 32
  crcBit (crcBit (crcBit (crcBit (crcBit (crcBit (crcBit (crcBit c)))))))

/-- The CRC-32 of a byte string: initial value and final XOR all ones (R128). -/
def crc32 (l : List Byte) : W32 := ~~~ (l.foldl crcByte 0xFFFFFFFF#32)

/-- The XOR of the bits `hi` to `lo` of a word, an even-parity bit over them (R148). -/
def parity {n : Nat} (w : BitVec n) (hi lo : Nat) : Bool :=
  ((List.range (hi + 1 - lo)).filter (fun i => w.getLsbD (lo + i))).length % 2 == 1

/-- The integer square root of `n`, found by halving, for `n` below 2 ^ (2 k) (R273). -/
def isqrtBits (n : Nat) : Nat → Nat → Nat
  | 0, r => r
  | k + 1, r => let t := r + 2 ^ k; if t * t ≤ n then isqrtBits n k t else isqrtBits n k r

/-- floor(sqrt n) for the widths of R273. -/
def isqrt (n : Nat) : Nat := isqrtBits n 96 0

end Sys2Proof.Machine
end

