-- ==== Sys2Proof/Machine/Tab.lean ====
section
/-! DEFINITION. A table from numbers to values, as plain data in ONE canonical form: the keys rise strictly and no
entry equals what an unlisted key reads as. Memories, register files and the numbered instances of a subsystem are held
so; the value `d i` that an unlisted key `i` reads as is the reset value of that byte, register or instance. -/

namespace Sys2Proof.Machine

/-- A table: entries (key, value), keys strictly rising, no entry equal to its default. -/
abbrev Tab (α : Type) := List (Nat × α)

/-- The value at key `i`; `d i` where the table lists none. -/
def Tab.get {α : Type} (d : Nat → α) : Tab α → Nat → α
  | [], i => d i
  | (k, v) :: r, i => if k = i then v else Tab.get d r i

/-- The entries of every key but `i`. -/
def Tab.without {α : Type} (t : Tab α) (i : Nat) : Tab α := t.filter (fun p => decide (p.1 ≠ i))

/-- An entry put in front of the first one with a greater key. -/
def Tab.insert {α : Type} : Tab α → Nat → α → Tab α
  | [], i, x => [(i, x)]
  | (k, v) :: r, i, x => if i < k then (i, x) :: (k, v) :: r else (k, v) :: Tab.insert r i x

/-- The table with key `i` holding `x`: the canonical form is kept. -/
def Tab.set {α : Type} [DecidableEq α] (d : Nat → α) (t : Tab α) (i : Nat) (x : α) : Tab α :=
  if x = d i then Tab.without t i else Tab.insert (Tab.without t i) i x

/-- Every key of the table is at least `b`, in strictly rising order, and no value is its default. -/
def Tab.wfAbove {α : Type} [DecidableEq α] (d : Nat → α) : Tab α → Nat → Bool
  | [], _ => true
  | (k, v) :: r, b => decide (b ≤ k) && decide (v ≠ d k) && Tab.wfAbove d r (k + 1)

/-- The canonical form. -/
def Tab.wf {α : Type} [DecidableEq α] (d : Nat → α) (t : Tab α) : Bool := Tab.wfAbove d t 0

/-- The values written one after another from key `i` on. -/
def Tab.setList {α : Type} [DecidableEq α] (d : Nat → α) : Tab α → Nat → List α → Tab α
  | t, _, [] => t
  | t, i, x :: r => Tab.setList d (Tab.set d t i x) (i + 1) r

/-- The `n` values from key `i` on. -/
def Tab.getList {α : Type} (d : Nat → α) (t : Tab α) : Nat → Nat → List α
  | _, 0 => []
  | i, n + 1 => Tab.get d t i :: Tab.getList d t (i + 1) n

/-- The entries below key `b` and those at or above key `e`: what is between reads as its default again. -/
def Tab.clear {α : Type} (t : Tab α) (b e : Nat) : Tab α := t.filter (fun p => decide (p.1 < b) || decide (e ≤ p.1))

end Sys2Proof.Machine
end

