-- ==== Sys2Proof/Machine/RegMap.lean ====
section
/-! DEFINITION. The register map: the stems of R477 in the order of its table, the words each stem has, and for every
word its access codes (R9) and its reset value, as the register tables of the chapters give them. -/

namespace Sys2Proof.Machine

/-- The register stems of R477, one constructor each, under the manual's own names. -/
inductive Stem where
  | TMG_CH_CFG
  | TMG_SITE_CFG
  | TMG_FX_STB
  | TMG_CH_TIM
  | TMG_DSK_DRV
  | TMG_DSK_CMP
  | TMG_CH_STAT
  | TMG_SITE_STAT
  | SEQ_THR_STAT
  | SEQ_THR_END
  | SEQ_THR_PC
  | SEQ_THR_VN
  | SEQ_GR
  | SEQ_CS_STAT
  | SEQ_CS_CRC
  | SEQ_CS_VER
  | SEQ_CS_ERR
  | SEQ_CSL_CFG
  | SEQ_BR_STAT
  | SEQ_LS_MASK
  | SEQ_LS_CFG
  | SEQ_SPAN_CFG
  | SEQ_SPAN_LAT
  | VST_SYMMAP
  | VST_MK_CFG
  | VST_SITE_STAT
  | VST_IM_COLL
  | VST_POS
  | VST_WIN_CFG
  | VST_WIN_STAT
  | VST_PAD_ALLOW
  | VST_STALL_BEATS
  | VST_STALL_EVTS
  | VST_ADM_BUDGET
  | VST_ADM_USED
  | VST_ADM_CHG
  | CAP_FLOG_BASE
  | CAP_FLOG_LEN
  | CAP_FLOG_CFG
  | CAP_FLOG_STAT
  | CAP_FLOG_WP
  | CAP_FAIL_VEC
  | CAP_FIRST_VN
  | CAP_FLOG_LOST
  | CAP_CH_FCNT
  | CAP_AQ_SRC
  | CAP_AQ_CFG
  | CAP_AQ_PRE
  | CAP_AQ_HOLD
  | CAP_AQ_TMO
  | CAP_AQ_TRIG
  | CAP_AQ_LEVEL
  | CAP_AQ_HYST
  | CAP_AQ_MASK
  | CAP_AQ_STAT
  | CAP_AQ_IGN
  | CAP_AQ_MASKV
  | CAP_TO_CFG
  | TIA_CH_CFG
  | TIA_RX_CFG
  | TIA_N
  | TIA_GATE
  | TIA_STAT
  | TIA_LOST
  | TIA_ERR
  | TIA_LAST
  | TIA_CNT
  | TIA_SUM
  | TIA_SSQ
  | TIA_MIN
  | TIA_MAX
  | TIA_MEAN
  | TIA_SDEV
  | TIA_IVL
  | ADC_CFG
  | ADC_SEQ
  | ADC_RES
  | ADC_STAT
  | ADC_OVR
  | ADC_PASS
  | ADC_CALF
  | SUP_GLB_CFG
  | SUP_CFG
  | SUP_VSET
  | SUP_COMP_A
  | SUP_COMP_B
  | SUP_THR_V
  | SUP_THR_I
  | SUP_MON_CFG
  | SUP_STAT
  | SUP_LOOP
  | CST_POOL_CFG
  | CST_FREE
  | CST_HOLD
  | CST_LEDGER_STAT
  | MEM_CTL_STAT
  | MEM_IL
  | MEM_TEMP
  | MEM_NR_CFG
  | MEM_NR_SEED
  | MEM_EDC_CFG
  | MEM_EDC_CNT
  | KLK_MOD_ID
  | KLK_PORT_CFG
  | KLK_VC_CFG
  | KLK_ROUTE
  | KLK_PORT_STAT
  | KLK_CRED
  | KLK_HOP
  | KLK_CRC_ERR
  | KLK_REPLAY
  | KLK_REFUSE
  | KLK_DROP
  | KLK_PRBS_STAT
  | KLK_PRBS_ERR
  | HST_ID
  | HST_FW_VERSION
  | HST_STATE
  | HST_G_FAILED
  | HST_FEAT
  | NTU_BEAT_STAT
  | NTU_LBC
  | NTU_INC
  | NTU_ROLE
  | NTU_PTP_CFG
  | NTU_DLY_TX
  | NTU_DLY_RX
  | NTU_SERVO_STAT
  | NTU_KL_OFS
  | NTU_ALM_STAT
  | MGT_CORE_STAT
  | MGT_SPR_THR
  | MGT_SPR_FLOW
  | MGT_SPR_POSTED
  | MGT_SPR_CONSUMED
  | MGT_CQ_STAT
  | MGT_ASID_ROOT
  | MGT_DEQ_CFG
  | MGT_DE_STAT
  | MGT_RXQ_CFG
  | MGT_RXQ_STAT
  | MGT_RXQ_REL
  | CAL_CFG
  | CAL_STAT
  | CAL_REF_ERR
  | CAL_SET_STAT
  | CAL_SET_SEQ
  | THM_PLIM_CFG
  | THM_CFG
  | THM_TEMP
  | THM_HOT
  | THM_G_TEMP
  | THM_PLIM_STAT
  | THM_SNS_FAIL
  | THM_SNS_ACK
  | THM_P_BASE
  | THM_P_RT
  | THM_P_NRT
  | THM_REFUSED
  | THM_STAT
  | HSK_STATUS
  | HSK_ACK
  | HSK_CFG
  | HSK_INJECT
  | HSK_EVT_ROUTE
  | HSK_EVT_PEND
  | HSK_REC_SEQ
  | HSK_REC_LOST
  deriving DecidableEq, Repr

/-- Where a stem lies and how it may be written: the subsystem's number, its slot in the window (R477), its instances,
the words of an instance, whether it is transaction-only (R60), and whether only firmware writes it. -/
structure StemInfo where
  sub : Nat
  slot : Nat
  count : Nat
  words : Nat
  txn : Bool
  fwOnly : Bool
  deriving DecidableEq, Repr

/-- The access masks of one word (R9): read-write bits, write-1-to-clear bits, bits cleared by a read, and the reset
value. Every other bit is RO or RSV. -/
structure WordInfo where
  rw : Nat
  w1c : Nat
  rc : Nat
  reset : Nat
  deriving DecidableEq, Repr

/-- The place of each stem (R477) and how the chapters let it be written. -/
def Stem.info : Stem → StemInfo
  | .TMG_CH_CFG => ⟨0, 0, 128, 1, true, false⟩
  | .TMG_SITE_CFG => ⟨0, 1, 32, 1, true, false⟩
  | .TMG_FX_STB => ⟨0, 2, 32, 1, true, false⟩
  | .TMG_CH_TIM => ⟨0, 3, 128, 1, true, false⟩
  | .TMG_DSK_DRV => ⟨0, 4, 128, 1, true, false⟩
  | .TMG_DSK_CMP => ⟨0, 5, 128, 1, true, false⟩
  | .TMG_CH_STAT => ⟨0, 6, 128, 1, false, false⟩
  | .TMG_SITE_STAT => ⟨0, 7, 32, 1, false, false⟩
  | .SEQ_THR_STAT => ⟨1, 0, 32, 1, false, false⟩
  | .SEQ_THR_END => ⟨1, 1, 32, 1, false, false⟩
  | .SEQ_THR_PC => ⟨1, 2, 32, 1, false, false⟩
  | .SEQ_THR_VN => ⟨1, 3, 32, 2, false, false⟩
  | .SEQ_GR => ⟨1, 4, 512, 1, false, false⟩
  | .SEQ_CS_STAT => ⟨1, 5, 8, 1, false, false⟩
  | .SEQ_CS_CRC => ⟨1, 6, 8, 1, false, false⟩
  | .SEQ_CS_VER => ⟨1, 7, 8, 1, false, false⟩
  | .SEQ_CS_ERR => ⟨1, 8, 8, 1, false, false⟩
  | .SEQ_CSL_CFG => ⟨1, 9, 512, 1, true, false⟩
  | .SEQ_BR_STAT => ⟨1, 10, 32, 1, false, false⟩
  | .SEQ_LS_MASK => ⟨1, 11, 8, 1, true, false⟩
  | .SEQ_LS_CFG => ⟨1, 12, 8, 1, true, false⟩
  | .SEQ_SPAN_CFG => ⟨1, 13, 1, 1, true, false⟩
  | .SEQ_SPAN_LAT => ⟨1, 14, 1, 1, true, false⟩
  | .VST_SYMMAP => ⟨2, 0, 32, 1, true, false⟩
  | .VST_MK_CFG => ⟨2, 1, 16, 1, true, false⟩
  | .VST_SITE_STAT => ⟨2, 2, 32, 1, false, false⟩
  | .VST_IM_COLL => ⟨2, 3, 1, 1, false, false⟩
  | .VST_POS => ⟨2, 4, 32, 2, false, false⟩
  | .VST_WIN_CFG => ⟨2, 5, 32, 1, true, false⟩
  | .VST_WIN_STAT => ⟨2, 6, 32, 1, false, false⟩
  | .VST_PAD_ALLOW => ⟨2, 7, 32, 1, false, false⟩
  | .VST_STALL_BEATS => ⟨2, 8, 32, 1, false, false⟩
  | .VST_STALL_EVTS => ⟨2, 9, 32, 1, false, false⟩
  | .VST_ADM_BUDGET => ⟨2, 10, 1, 1, false, false⟩
  | .VST_ADM_USED => ⟨2, 11, 1, 1, false, false⟩
  | .VST_ADM_CHG => ⟨2, 12, 32, 1, false, false⟩
  | .CAP_FLOG_BASE => ⟨3, 0, 32, 1, true, false⟩
  | .CAP_FLOG_LEN => ⟨3, 1, 32, 1, true, false⟩
  | .CAP_FLOG_CFG => ⟨3, 2, 32, 1, true, false⟩
  | .CAP_FLOG_STAT => ⟨3, 3, 32, 1, false, false⟩
  | .CAP_FLOG_WP => ⟨3, 4, 32, 2, false, false⟩
  | .CAP_FAIL_VEC => ⟨3, 5, 32, 2, false, false⟩
  | .CAP_FIRST_VN => ⟨3, 6, 32, 2, false, false⟩
  | .CAP_FLOG_LOST => ⟨3, 7, 32, 1, false, false⟩
  | .CAP_CH_FCNT => ⟨3, 8, 128, 1, false, false⟩
  | .CAP_AQ_SRC => ⟨3, 9, 16, 1, true, false⟩
  | .CAP_AQ_CFG => ⟨3, 10, 16, 1, true, false⟩
  | .CAP_AQ_PRE => ⟨3, 11, 16, 1, true, false⟩
  | .CAP_AQ_HOLD => ⟨3, 12, 16, 1, true, false⟩
  | .CAP_AQ_TMO => ⟨3, 13, 16, 1, true, false⟩
  | .CAP_AQ_TRIG => ⟨3, 14, 16, 1, true, false⟩
  | .CAP_AQ_LEVEL => ⟨3, 15, 16, 1, true, false⟩
  | .CAP_AQ_HYST => ⟨3, 16, 16, 1, true, false⟩
  | .CAP_AQ_MASK => ⟨3, 17, 16, 1, true, false⟩
  | .CAP_AQ_STAT => ⟨3, 18, 16, 1, false, false⟩
  | .CAP_AQ_IGN => ⟨3, 19, 16, 1, false, false⟩
  | .CAP_AQ_MASKV => ⟨3, 20, 16, 1, false, false⟩
  | .CAP_TO_CFG => ⟨3, 21, 8, 1, true, false⟩
  | .TIA_CH_CFG => ⟨4, 0, 128, 1, true, false⟩
  | .TIA_RX_CFG => ⟨4, 1, 128, 1, true, false⟩
  | .TIA_N => ⟨4, 2, 128, 1, true, false⟩
  | .TIA_GATE => ⟨4, 3, 128, 1, true, false⟩
  | .TIA_STAT => ⟨4, 4, 128, 1, false, false⟩
  | .TIA_LOST => ⟨4, 5, 128, 1, false, false⟩
  | .TIA_ERR => ⟨4, 6, 128, 1, false, false⟩
  | .TIA_LAST => ⟨4, 7, 128, 1, false, false⟩
  | .TIA_CNT => ⟨4, 8, 128, 2, false, false⟩
  | .TIA_SUM => ⟨4, 9, 128, 2, false, false⟩
  | .TIA_SSQ => ⟨4, 10, 128, 3, false, false⟩
  | .TIA_MIN => ⟨4, 11, 128, 1, false, false⟩
  | .TIA_MAX => ⟨4, 12, 128, 1, false, false⟩
  | .TIA_MEAN => ⟨4, 13, 128, 2, false, false⟩
  | .TIA_SDEV => ⟨4, 14, 128, 2, false, false⟩
  | .TIA_IVL => ⟨4, 15, 128, 2, false, false⟩
  | .ADC_CFG => ⟨5, 0, 1, 1, true, false⟩
  | .ADC_SEQ => ⟨5, 1, 64, 1, true, false⟩
  | .ADC_RES => ⟨5, 2, 64, 2, false, false⟩
  | .ADC_STAT => ⟨5, 3, 1, 1, false, false⟩
  | .ADC_OVR => ⟨5, 4, 1, 1, false, false⟩
  | .ADC_PASS => ⟨5, 5, 1, 2, false, false⟩
  | .ADC_CALF => ⟨5, 6, 14, 1, false, false⟩
  | .SUP_GLB_CFG => ⟨6, 0, 1, 1, true, false⟩
  | .SUP_CFG => ⟨6, 1, 32, 1, true, false⟩
  | .SUP_VSET => ⟨6, 2, 32, 1, true, false⟩
  | .SUP_COMP_A => ⟨6, 3, 32, 1, true, false⟩
  | .SUP_COMP_B => ⟨6, 4, 32, 1, true, false⟩
  | .SUP_THR_V => ⟨6, 5, 32, 1, true, false⟩
  | .SUP_THR_I => ⟨6, 6, 32, 1, true, false⟩
  | .SUP_MON_CFG => ⟨6, 7, 32, 1, true, false⟩
  | .SUP_STAT => ⟨6, 8, 32, 1, false, false⟩
  | .SUP_LOOP => ⟨6, 9, 32, 1, false, false⟩
  | .CST_POOL_CFG => ⟨7, 0, 7, 1, true, false⟩
  | .CST_FREE => ⟨7, 1, 1, 1, false, false⟩
  | .CST_HOLD => ⟨7, 2, 7, 1, false, false⟩
  | .CST_LEDGER_STAT => ⟨7, 3, 1, 1, false, false⟩
  | .MEM_CTL_STAT => ⟨8, 0, 16, 1, false, false⟩
  | .MEM_IL => ⟨8, 1, 1, 1, false, false⟩
  | .MEM_TEMP => ⟨8, 2, 16, 1, false, false⟩
  | .MEM_NR_CFG => ⟨8, 3, 16, 1, true, false⟩
  | .MEM_NR_SEED => ⟨8, 4, 16, 1, true, false⟩
  | .MEM_EDC_CFG => ⟨8, 5, 1, 1, true, false⟩
  | .MEM_EDC_CNT => ⟨8, 6, 16, 2, false, false⟩
  | .KLK_MOD_ID => ⟨9, 0, 1, 1, true, false⟩
  | .KLK_PORT_CFG => ⟨9, 1, 8, 1, true, false⟩
  | .KLK_VC_CFG => ⟨9, 2, 8, 1, true, false⟩
  | .KLK_ROUTE => ⟨9, 3, 2048, 1, true, false⟩
  | .KLK_PORT_STAT => ⟨9, 4, 8, 1, false, false⟩
  | .KLK_CRED => ⟨9, 5, 8, 1, false, false⟩
  | .KLK_HOP => ⟨9, 6, 8, 1, false, false⟩
  | .KLK_CRC_ERR => ⟨9, 7, 8, 1, false, false⟩
  | .KLK_REPLAY => ⟨9, 8, 8, 1, false, false⟩
  | .KLK_REFUSE => ⟨9, 9, 8, 1, false, false⟩
  | .KLK_DROP => ⟨9, 10, 8, 1, false, false⟩
  | .KLK_PRBS_STAT => ⟨9, 11, 42, 1, false, false⟩
  | .KLK_PRBS_ERR => ⟨9, 12, 42, 1, false, false⟩
  | .HST_ID => ⟨10, 0, 1, 1, false, false⟩
  | .HST_FW_VERSION => ⟨10, 1, 1, 1, false, false⟩
  | .HST_STATE => ⟨10, 2, 1, 1, false, false⟩
  | .HST_G_FAILED => ⟨10, 3, 1, 1, false, false⟩
  | .HST_FEAT => ⟨10, 4, 4, 1, false, false⟩
  | .NTU_BEAT_STAT => ⟨11, 0, 1, 1, false, false⟩
  | .NTU_LBC => ⟨11, 1, 1, 2, false, false⟩
  | .NTU_INC => ⟨11, 2, 1, 2, false, false⟩
  | .NTU_ROLE => ⟨11, 3, 1, 1, true, false⟩
  | .NTU_PTP_CFG => ⟨11, 4, 1, 1, true, false⟩
  | .NTU_DLY_TX => ⟨11, 5, 42, 1, true, false⟩
  | .NTU_DLY_RX => ⟨11, 6, 42, 1, true, false⟩
  | .NTU_SERVO_STAT => ⟨11, 7, 1, 1, false, false⟩
  | .NTU_KL_OFS => ⟨11, 8, 1, 2, false, false⟩
  | .NTU_ALM_STAT => ⟨11, 9, 32, 1, false, false⟩
  | .MGT_CORE_STAT => ⟨12, 0, 8, 1, false, false⟩
  | .MGT_SPR_THR => ⟨12, 1, 1024, 1, false, false⟩
  | .MGT_SPR_FLOW => ⟨12, 2, 1024, 1, false, false⟩
  | .MGT_SPR_POSTED => ⟨12, 3, 1, 2, false, false⟩
  | .MGT_SPR_CONSUMED => ⟨12, 4, 1, 2, false, false⟩
  | .MGT_CQ_STAT => ⟨12, 5, 1, 1, false, false⟩
  | .MGT_ASID_ROOT => ⟨12, 6, 8, 2, false, true⟩
  | .MGT_DEQ_CFG => ⟨12, 7, 64, 1, false, true⟩
  | .MGT_DE_STAT => ⟨12, 8, 16, 1, false, false⟩
  | .MGT_RXQ_CFG => ⟨12, 9, 8, 1, false, true⟩
  | .MGT_RXQ_STAT => ⟨12, 10, 8, 1, false, false⟩
  | .MGT_RXQ_REL => ⟨12, 11, 8, 1, false, false⟩
  | .CAL_CFG => ⟨13, 0, 1, 1, true, false⟩
  | .CAL_STAT => ⟨13, 1, 1, 1, false, false⟩
  | .CAL_REF_ERR => ⟨13, 2, 1, 1, false, false⟩
  | .CAL_SET_STAT => ⟨13, 3, 19, 1, false, false⟩
  | .CAL_SET_SEQ => ⟨13, 4, 19, 1, false, false⟩
  | .THM_PLIM_CFG => ⟨14, 0, 1, 1, true, false⟩
  | .THM_CFG => ⟨14, 1, 1, 1, true, false⟩
  | .THM_TEMP => ⟨14, 2, 48, 1, false, false⟩
  | .THM_HOT => ⟨14, 3, 1, 1, false, false⟩
  | .THM_G_TEMP => ⟨14, 4, 32, 1, false, false⟩
  | .THM_PLIM_STAT => ⟨14, 5, 1, 1, false, false⟩
  | .THM_SNS_FAIL => ⟨14, 6, 1, 2, false, false⟩
  | .THM_SNS_ACK => ⟨14, 7, 1, 2, false, false⟩
  | .THM_P_BASE => ⟨14, 8, 1, 1, false, false⟩
  | .THM_P_RT => ⟨14, 9, 1, 1, false, false⟩
  | .THM_P_NRT => ⟨14, 10, 1, 1, false, false⟩
  | .THM_REFUSED => ⟨14, 11, 1, 1, false, false⟩
  | .THM_STAT => ⟨14, 12, 1, 1, false, false⟩
  | .HSK_STATUS => ⟨15, 0, 1, 2, false, false⟩
  | .HSK_ACK => ⟨15, 1, 1, 2, false, false⟩
  | .HSK_CFG => ⟨15, 2, 1, 1, true, false⟩
  | .HSK_INJECT => ⟨15, 3, 1, 1, false, false⟩
  | .HSK_EVT_ROUTE => ⟨15, 4, 1168, 1, true, false⟩
  | .HSK_EVT_PEND => ⟨15, 5, 37, 1, false, false⟩
  | .HSK_REC_SEQ => ⟨15, 6, 1, 1, false, false⟩
  | .HSK_REC_LOST => ⟨15, 7, 1, 1, false, false⟩

/-- The access masks and the reset value of word `w` (0 LO, 1 HI) of instance `i` of a stem, before the three stems
whose reset depends on the instance (`Stem.word`). -/
def Stem.wordBase : Stem → Nat → WordInfo
  | .TMG_CH_CFG, _ => ⟨0x9F30, 0, 0, 1⟩
  | .TMG_SITE_CFG, _ => ⟨0x800FFFFF, 0, 0, 0⟩
  | .TMG_FX_STB, _ => ⟨0x1FFFFF, 0, 0, 0⟩
  | .TMG_CH_TIM, _ => ⟨0xC01FFFFF, 0, 0, 0⟩
  | .TMG_DSK_DRV, _ => ⟨0x1FFFFFF, 0, 0, 0⟩
  | .TMG_DSK_CMP, _ => ⟨0x1FFFFFF, 0, 0, 0⟩
  | .TMG_CH_STAT, _ => ⟨0, 7, 0xFFFF0000, 0x30⟩
  | .TMG_SITE_STAT, _ => ⟨0, 0, 0, 0⟩
  | .SEQ_THR_STAT, _ => ⟨0, 0, 0, 1⟩
  | .SEQ_THR_END, _ => ⟨0, 0, 0, 0⟩
  | .SEQ_THR_PC, _ => ⟨0, 0, 0, 0⟩
  | .SEQ_THR_VN, _ => ⟨0, 0, 0, 0⟩
  | .SEQ_GR, _ => ⟨0xFFFFFFFF, 0, 0, 0⟩
  | .SEQ_CS_STAT, _ => ⟨0, 0, 0, 0⟩
  | .SEQ_CS_CRC, _ => ⟨0, 0, 0, 0⟩
  | .SEQ_CS_VER, _ => ⟨0, 0, 0, 0⟩
  | .SEQ_CS_ERR, _ => ⟨0, 0, 0, 0⟩
  | .SEQ_CSL_CFG, _ => ⟨0xFE00007F, 0, 0, 0⟩
  | .SEQ_BR_STAT, _ => ⟨0, 0xC0000000, 0, 0⟩
  | .SEQ_LS_MASK, _ => ⟨0xFFFFFFFF, 0, 0, 0⟩
  | .SEQ_LS_CFG, _ => ⟨0x8000001F, 0, 0, 0⟩
  | .SEQ_SPAN_CFG, _ => ⟨0x801FFFFF, 0, 0, 0⟩
  | .SEQ_SPAN_LAT, _ => ⟨0x7FF07FF, 0, 0, 0x20⟩
  | .VST_SYMMAP, _ => ⟨0xFFFFF, 0, 0, 0x77777⟩
  | .VST_MK_CFG, _ => ⟨0xDF00FFFF, 0, 0, 8⟩
  | .VST_SITE_STAT, _ => ⟨0, 0xF, 0, 0⟩
  | .VST_IM_COLL, _ => ⟨0, 0, 0xFFFFFFFF, 0⟩
  | .VST_POS, _ => ⟨0, 0, 0, 0⟩
  | .VST_WIN_CFG, _ => ⟨0xFFF, 0, 0, 0x10⟩
  | .VST_WIN_STAT, _ => ⟨0, 0, 0, 0xFFFF0000⟩
  | .VST_PAD_ALLOW, _ => ⟨0, 0, 0, 0⟩
  | .VST_STALL_BEATS, _ => ⟨0, 0, 0xFFFFFFFF, 0⟩
  | .VST_STALL_EVTS, _ => ⟨0, 0, 0xFFFF, 0⟩
  | .VST_ADM_BUDGET, _ => ⟨0, 0, 0, 0⟩
  | .VST_ADM_USED, _ => ⟨0, 0, 0, 0⟩
  | .VST_ADM_CHG, _ => ⟨0, 0, 0, 0⟩
  | .CAP_FLOG_BASE, _ => ⟨0x3FFFFFFF, 0, 0, 0⟩
  | .CAP_FLOG_LEN, _ => ⟨0xFFFFFF, 0, 0, 0⟩
  | .CAP_FLOG_CFG, _ => ⟨0xE0FFFFFF, 0, 0, 0x80000000⟩
  | .CAP_FLOG_STAT, _ => ⟨0, 0, 0, 0⟩
  | .CAP_FLOG_WP, _ => ⟨0, 0, 0, 0⟩
  | .CAP_FAIL_VEC, _ => ⟨0, 0, 0, 0⟩
  | .CAP_FIRST_VN, _ => ⟨0, 0, 0, 0⟩
  | .CAP_FLOG_LOST, _ => ⟨0, 0, 0xFFFFFFFF, 0⟩
  | .CAP_CH_FCNT, _ => ⟨0, 0, 0, 0⟩
  | .CAP_AQ_SRC, _ => ⟨0x801F077F, 0, 0, 0⟩
  | .CAP_AQ_CFG, _ => ⟨0xFFFFF0FF, 0, 0, 0⟩
  | .CAP_AQ_PRE, _ => ⟨0x3FFFF, 0, 0, 0⟩
  | .CAP_AQ_HOLD, _ => ⟨0xFFFFFF, 0, 0, 0⟩
  | .CAP_AQ_TMO, _ => ⟨0xFFFFFF, 0, 0, 0⟩
  | .CAP_AQ_TRIG, _ => ⟨0xF80001FF, 0, 0, 0⟩
  | .CAP_AQ_LEVEL, _ => ⟨0xFFFFFFFF, 0, 0, 0⟩
  | .CAP_AQ_HYST, _ => ⟨0xFFFF, 0, 0, 0⟩
  | .CAP_AQ_MASK, _ => ⟨0xFFFFFFFF, 0, 0, 0⟩
  | .CAP_AQ_STAT, _ => ⟨0, 0, 0, 0⟩
  | .CAP_AQ_IGN, _ => ⟨0, 0, 0xFFFFFFFF, 0⟩
  | .CAP_AQ_MASKV, _ => ⟨0, 0, 0, 0⟩
  | .CAP_TO_CFG, _ => ⟨0x800FFFFF, 0, 0, 8⟩
  | .TIA_CH_CFG, _ => ⟨0xFFC0007F, 0, 0, 0⟩
  | .TIA_RX_CFG, _ => ⟨0x7F33, 0, 0, 0x11⟩
  | .TIA_N, _ => ⟨0xFFFFFFFF, 0, 0, 0⟩
  | .TIA_GATE, _ => ⟨0xFFFFF, 0, 0, 0x320⟩
  | .TIA_STAT, _ => ⟨0, 0, 0, 0⟩
  | .TIA_LOST, _ => ⟨0, 0, 0xFFFFFFFF, 0⟩
  | .TIA_ERR, _ => ⟨0, 0, 0xFFFFFFFF, 0⟩
  | .TIA_LAST, _ => ⟨0, 0, 0, 0⟩
  | .TIA_CNT, _ => ⟨0, 0, 0, 0⟩
  | .TIA_SUM, _ => ⟨0, 0, 0, 0⟩
  | .TIA_SSQ, _ => ⟨0, 0, 0, 0⟩
  | .TIA_MIN, _ => ⟨0, 0, 0, 0x7FFFFFFF⟩
  | .TIA_MAX, _ => ⟨0, 0, 0, 0x80000000⟩
  | .TIA_MEAN, _ => ⟨0, 0, 0, 0⟩
  | .TIA_SDEV, _ => ⟨0, 0, 0, 0⟩
  | .TIA_IVL, _ => ⟨0, 0, 0, 0⟩
  | .ADC_CFG, _ => ⟨0xF800FF3F, 0, 0, 0⟩
  | .ADC_SEQ, _ => ⟨0x98FFF03F, 0, 0, 0x40027⟩
  | .ADC_RES, _ => ⟨0, 0, 0, 0⟩
  | .ADC_STAT, _ => ⟨0, 0xC000000, 0, 0⟩
  | .ADC_OVR, _ => ⟨0, 0, 0xFFFFFFFF, 0⟩
  | .ADC_PASS, _ => ⟨0, 0, 0, 0⟩
  | .ADC_CALF, _ => ⟨0, 0, 0, 0⟩
  | .SUP_GLB_CFG, _ => ⟨0x3FF, 0, 0, 0x190⟩
  | .SUP_CFG, _ => ⟨0xFE0FFFFF, 0, 0, 0x3E8⟩
  | .SUP_VSET, _ => ⟨0xFFF, 0, 0, 0⟩
  | .SUP_COMP_A, _ => ⟨0xFFFFFFFF, 0, 0, 0⟩
  | .SUP_COMP_B, _ => ⟨0xFFFF, 0, 0, 0⟩
  | .SUP_THR_V, _ => ⟨0x3FF03FF, 0, 0, 0x3FF0000⟩
  | .SUP_THR_I, _ => ⟨0xFFF03FF, 0, 0, 0x3FF⟩
  | .SUP_MON_CFG, _ => ⟨0x7777, 0, 0, 0x656⟩
  | .SUP_STAT, _ => ⟨0, 0xF, 0, 0xF00⟩
  | .SUP_LOOP, _ => ⟨0, 0, 0, 0⟩
  | .CST_POOL_CFG, _ => ⟨0xFFFFFFFF, 0, 0, 0⟩
  | .CST_FREE, _ => ⟨0, 0, 0, 0⟩
  | .CST_HOLD, _ => ⟨0, 0, 0, 0⟩
  | .CST_LEDGER_STAT, _ => ⟨0, 3, 0, 0⟩
  | .MEM_CTL_STAT, _ => ⟨0, 0, 0, 0⟩
  | .MEM_IL, _ => ⟨0, 0, 0, 0⟩
  | .MEM_TEMP, _ => ⟨0, 0, 0, 0x80008000⟩
  | .MEM_NR_CFG, _ => ⟨0x1F, 0, 0, 0xA⟩
  | .MEM_NR_SEED, _ => ⟨0xFFFFFFFF, 0, 0, 0x5EED0001⟩
  | .MEM_EDC_CFG, _ => ⟨0xFFFF, 0, 0, 0x400⟩
  | .MEM_EDC_CNT, _ => ⟨0, 0, 0, 0⟩
  | .KLK_MOD_ID, _ => ⟨0x803F07FF, 0, 0, 0x200000⟩
  | .KLK_PORT_CFG, _ => ⟨0xF0000000, 0, 0, 0x40000000⟩
  | .KLK_VC_CFG, _ => ⟨0xFFFFFFFF, 0, 0, 0x10C01020⟩
  | .KLK_ROUTE, _ => ⟨0xF, 0, 0, 0⟩
  | .KLK_PORT_STAT, _ => ⟨0, 0, 0, 0⟩
  | .KLK_CRED, _ => ⟨0, 0, 0, 0⟩
  | .KLK_HOP, _ => ⟨0, 0, 0, 0⟩
  | .KLK_CRC_ERR, _ => ⟨0, 0, 0xFFFFFFFF, 0⟩
  | .KLK_REPLAY, _ => ⟨0, 0, 0xFFFFFFFF, 0⟩
  | .KLK_REFUSE, _ => ⟨0, 0, 0xFFFFFFFF, 0⟩
  | .KLK_DROP, _ => ⟨0, 0, 0xFFFFFFFF, 0⟩
  | .KLK_PRBS_STAT, _ => ⟨0, 0, 0, 0⟩
  | .KLK_PRBS_ERR, _ => ⟨0, 0, 0xFFFFFFFF, 0⟩
  | .HST_ID, _ => ⟨0, 0, 0, 0x81281000⟩
  | .HST_FW_VERSION, _ => ⟨0, 0, 0, 0⟩
  | .HST_STATE, _ => ⟨0, 0, 0, 0⟩
  | .HST_G_FAILED, _ => ⟨0, 0, 0, 0⟩
  | .HST_FEAT, _ => ⟨0, 0, 0, 0⟩
  | .NTU_BEAT_STAT, _ => ⟨0, 8, 0, 0⟩
  | .NTU_LBC, _ => ⟨0, 0, 0, 0⟩
  | .NTU_INC, 0 => ⟨0xFFFFFFFF, 0, 0, 0x40000000⟩
  | .NTU_INC, _ => ⟨0xFFFFFFFF, 0, 0, 1⟩
  | .NTU_ROLE, _ => ⟨0xF00700FF, 0, 0, 0⟩
  | .NTU_PTP_CFG, _ => ⟨0xFE0000FF, 0, 0, 0⟩
  | .NTU_DLY_TX, _ => ⟨0xFFFFFFFF, 0, 0, 0⟩
  | .NTU_DLY_RX, _ => ⟨0xFFFFFFFF, 0, 0, 0⟩
  | .NTU_SERVO_STAT, _ => ⟨0, 0, 0, 0⟩
  | .NTU_KL_OFS, _ => ⟨0, 0, 0, 0⟩
  | .NTU_ALM_STAT, _ => ⟨0, 0x20000000, 0, 0⟩
  | .MGT_CORE_STAT, _ => ⟨0, 0, 0, 0⟩
  | .MGT_SPR_THR, _ => ⟨0, 0, 0, 0⟩
  | .MGT_SPR_FLOW, _ => ⟨0, 0, 0, 0⟩
  | .MGT_SPR_POSTED, _ => ⟨0, 0, 0, 0⟩
  | .MGT_SPR_CONSUMED, _ => ⟨0, 0, 0, 0⟩
  | .MGT_CQ_STAT, _ => ⟨0, 0, 0xFFFF0000, 0⟩
  | .MGT_ASID_ROOT, _ => ⟨0xFFFFFFFF, 0, 0, 0⟩
  | .MGT_DEQ_CFG, _ => ⟨0xFFFFFFFF, 0, 0, 2⟩
  | .MGT_DE_STAT, _ => ⟨0, 0, 0, 0⟩
  | .MGT_RXQ_CFG, _ => ⟨0x80001FFF, 0, 0, 0⟩
  | .MGT_RXQ_STAT, _ => ⟨0, 0, 0xFFFF0000, 0⟩
  | .MGT_RXQ_REL, _ => ⟨0, 0, 0, 0⟩
  | .CAL_CFG, _ => ⟨3, 0, 0, 1⟩
  | .CAL_STAT, _ => ⟨0, 0, 0, 0⟩
  | .CAL_REF_ERR, _ => ⟨0, 0, 0, 0⟩
  | .CAL_SET_STAT, _ => ⟨0, 0x8000000, 0, 0⟩
  | .CAL_SET_SEQ, _ => ⟨0, 0, 0, 0⟩
  | .THM_PLIM_CFG, _ => ⟨0xF, 0, 0, 0⟩
  | .THM_CFG, _ => ⟨0xFF, 0, 0, 0x73⟩
  | .THM_TEMP, _ => ⟨0, 0, 0, 0x8000⟩
  | .THM_HOT, _ => ⟨0, 0, 0, 0x8000⟩
  | .THM_G_TEMP, _ => ⟨0, 0, 0, 0x8000⟩
  | .THM_PLIM_STAT, _ => ⟨0, 0, 0, 0⟩
  | .THM_SNS_FAIL, _ => ⟨0, 0, 0, 0⟩
  | .THM_SNS_ACK, _ => ⟨0, 0xFFFFFFFF, 0, 0⟩
  | .THM_P_BASE, _ => ⟨0, 0, 0, 0⟩
  | .THM_P_RT, _ => ⟨0, 0, 0, 0⟩
  | .THM_P_NRT, _ => ⟨0, 0, 0, 0⟩
  | .THM_REFUSED, _ => ⟨0, 0, 0xFFFFFFFF, 0⟩
  | .THM_STAT, _ => ⟨0, 0, 0, 0⟩
  | .HSK_STATUS, _ => ⟨0, 0, 0, 0⟩
  | .HSK_ACK, _ => ⟨0, 0xFFFFFFFF, 0, 0⟩
  | .HSK_CFG, _ => ⟨1, 0, 0, 0⟩
  | .HSK_INJECT, _ => ⟨0xCF00FF00, 0, 0, 0⟩
  | .HSK_EVT_ROUTE, _ => ⟨0xC000FFFF, 0, 0, 0⟩
  | .HSK_EVT_PEND, _ => ⟨0, 0xFFFFFFFF, 0, 0⟩
  | .HSK_REC_SEQ, _ => ⟨0, 0, 0, 0⟩
  | .HSK_REC_LOST, _ => ⟨0, 0, 0xFFFFFFFF, 0⟩

/-- The reset value of CST_POOL_CFG[p]: MIN and MAX_M1 of R205. -/
def poolReset : Nat → Nat
  | 2 => 2048 * 65536 + 65535
  | 3 => 3 * 65536 + 8191
  | 4 => 512 * 65536 + 8191
  | 5 => 4096 * 65536 + 16383
  | 6 => 1024 * 65536 + 16383
  | _ => 65535

/-- The access masks and the reset value of word `w` of instance `i`. -/
def Stem.word (st : Stem) (i w : Nat) : WordInfo :=
  match st with
  | .CST_POOL_CFG => { st.wordBase w with reset := poolReset i }
  | .MEM_NR_SEED => { st.wordBase w with reset := 0x5EED0001 + i }
  | .ADC_CALF => { st.wordBase w with reset := if i % 64 = 1 then 0x40000 else 0 }
  | .CST_FREE => { st.wordBase w with reset := 65469 }
  | .CST_HOLD => { st.wordBase w with reset := if i = 3 then 3 else if i = 6 then 64 else 0 }
  | .HST_FEAT => { st.wordBase w with reset := if i = 0 then 0x3FF else 0 }
  | _ => st.wordBase w

/-- The offset of a word from 0x41_0000_0000 (R477): LO and HI words 8 bytes apart by instance, TIA_SSQ 16, the blocks of
the two converters 0x10_0000 apart, with converter `a`'s entry `e` numbered `64 a + e`. -/
def Stem.offset (st : Stem) (i w : Nat) : Nat :=
  let f := st.info
  let base := f.sub * 0x1000000 + f.slot * 0x4000
  if f.sub = 5 then
    base + (i / 64) * 0x100000 + (if f.words = 2 then 8 * (i % 64) + 4 * w else 4 * (i % 64))
  else if f.words = 3 then base + 16 * i + 4 * w
  else if f.words = 2 then base + 8 * i + 4 * w
  else base + 4 * i

/-- Every stem, in the order of R477. -/
def Stem.all : List Stem := List.flatten
  [[.TMG_CH_CFG, .TMG_SITE_CFG, .TMG_FX_STB, .TMG_CH_TIM, .TMG_DSK_DRV, .TMG_DSK_CMP, .TMG_CH_STAT, .TMG_SITE_STAT, .SEQ_THR_STAT, .SEQ_THR_END, .SEQ_THR_PC, .SEQ_THR_VN],
   [.SEQ_GR, .SEQ_CS_STAT, .SEQ_CS_CRC, .SEQ_CS_VER, .SEQ_CS_ERR, .SEQ_CSL_CFG, .SEQ_BR_STAT, .SEQ_LS_MASK, .SEQ_LS_CFG, .SEQ_SPAN_CFG, .SEQ_SPAN_LAT, .VST_SYMMAP],
   [.VST_MK_CFG, .VST_SITE_STAT, .VST_IM_COLL, .VST_POS, .VST_WIN_CFG, .VST_WIN_STAT, .VST_PAD_ALLOW, .VST_STALL_BEATS, .VST_STALL_EVTS, .VST_ADM_BUDGET, .VST_ADM_USED, .VST_ADM_CHG],
   [.CAP_FLOG_BASE, .CAP_FLOG_LEN, .CAP_FLOG_CFG, .CAP_FLOG_STAT, .CAP_FLOG_WP, .CAP_FAIL_VEC, .CAP_FIRST_VN, .CAP_FLOG_LOST, .CAP_CH_FCNT, .CAP_AQ_SRC, .CAP_AQ_CFG, .CAP_AQ_PRE],
   [.CAP_AQ_HOLD, .CAP_AQ_TMO, .CAP_AQ_TRIG, .CAP_AQ_LEVEL, .CAP_AQ_HYST, .CAP_AQ_MASK, .CAP_AQ_STAT, .CAP_AQ_IGN, .CAP_AQ_MASKV, .CAP_TO_CFG, .TIA_CH_CFG, .TIA_RX_CFG],
   [.TIA_N, .TIA_GATE, .TIA_STAT, .TIA_LOST, .TIA_ERR, .TIA_LAST, .TIA_CNT, .TIA_SUM, .TIA_SSQ, .TIA_MIN, .TIA_MAX, .TIA_MEAN],
   [.TIA_SDEV, .TIA_IVL, .ADC_CFG, .ADC_SEQ, .ADC_RES, .ADC_STAT, .ADC_OVR, .ADC_PASS, .ADC_CALF, .SUP_GLB_CFG, .SUP_CFG, .SUP_VSET],
   [.SUP_COMP_A, .SUP_COMP_B, .SUP_THR_V, .SUP_THR_I, .SUP_MON_CFG, .SUP_STAT, .SUP_LOOP, .CST_POOL_CFG, .CST_FREE, .CST_HOLD, .CST_LEDGER_STAT, .MEM_CTL_STAT],
   [.MEM_IL, .MEM_TEMP, .MEM_NR_CFG, .MEM_NR_SEED, .MEM_EDC_CFG, .MEM_EDC_CNT, .KLK_MOD_ID, .KLK_PORT_CFG, .KLK_VC_CFG, .KLK_ROUTE, .KLK_PORT_STAT, .KLK_CRED],
   [.KLK_HOP, .KLK_CRC_ERR, .KLK_REPLAY, .KLK_REFUSE, .KLK_DROP, .KLK_PRBS_STAT, .KLK_PRBS_ERR, .HST_ID, .HST_FW_VERSION, .HST_STATE, .HST_G_FAILED, .HST_FEAT],
   [.NTU_BEAT_STAT, .NTU_LBC, .NTU_INC, .NTU_ROLE, .NTU_PTP_CFG, .NTU_DLY_TX, .NTU_DLY_RX, .NTU_SERVO_STAT, .NTU_KL_OFS, .NTU_ALM_STAT, .MGT_CORE_STAT, .MGT_SPR_THR],
   [.MGT_SPR_FLOW, .MGT_SPR_POSTED, .MGT_SPR_CONSUMED, .MGT_CQ_STAT, .MGT_ASID_ROOT, .MGT_DEQ_CFG, .MGT_DE_STAT, .MGT_RXQ_CFG, .MGT_RXQ_STAT, .MGT_RXQ_REL, .CAL_CFG, .CAL_STAT],
   [.CAL_REF_ERR, .CAL_SET_STAT, .CAL_SET_SEQ, .THM_PLIM_CFG, .THM_CFG, .THM_TEMP, .THM_HOT, .THM_G_TEMP, .THM_PLIM_STAT, .THM_SNS_FAIL, .THM_SNS_ACK, .THM_P_BASE],
   [.THM_P_RT, .THM_P_NRT, .THM_REFUSED, .THM_STAT, .HSK_STATUS, .HSK_ACK, .HSK_CFG, .HSK_INJECT, .HSK_EVT_ROUTE, .HSK_EVT_PEND, .HSK_REC_SEQ, .HSK_REC_LOST]]

/-- A register word: a stem, its instance, and which of its words (0 LO, 1 HI). -/
structure Reg where
  stem : Stem
  inst : Nat
  word : Nat
  deriving DecidableEq, Repr

/-- The stem that owns the 16 KiB slot at an offset from 0x41_0000_0000, with its converter block for ADC. -/
def Stem.ofSlot (sub slot : Nat) : Option Stem := Stem.all.find? (fun st => st.info.sub == sub && st.info.slot == slot)

/-- The register word at an offset from 0x41_0000_0000; none for a word that R477 does not assign (R478). The word at +12 of
TIA_SSQ, which R477 has read 0, counts as unassigned (DEDUCED, log entry 111). -/
def Reg.ofOffset (off : Nat) : Option Reg :=
  let sub := off / 0x1000000
  let r := off % 0x1000000
  let blk := if sub = 5 then r / 0x100000 else 0
  let r := if sub = 5 then r % 0x100000 else r
  match Stem.ofSlot sub (r / 0x4000) with
  | none => none
  | some st =>
    let f := st.info
    let o := r % 0x4000
    let unit := if f.words = 3 then 16 else if f.words = 2 then 8 else 4
    let i := o / unit
    let w := (o % unit) / 4
    if off % 4 = 0 ∧ i < f.count ∧ w < f.words ∧ blk < 2 then
      some ⟨st, if sub = 5 then 64 * blk + i else i, w⟩
    else none

/-- The offset of a register word. -/
def Reg.offset (r : Reg) : Nat := r.stem.offset r.inst r.word

/-- The reset value of the word at an offset; 0 where R477 assigns none (R478). -/
def Reg.resetAt (off : Nat) : W32 :=
  match Reg.ofOffset off with
  | none => 0
  | some r => BitVec.ofNat 32 (r.stem.word r.inst r.word).reset

/-- A named field: the word of its stem and its bits. -/
structure Field where
  stem : Stem
  word : Nat
  hi : Nat
  lo : Nat
  deriving DecidableEq, Repr

end Sys2Proof.Machine
end

