-- ==== Sys2Proof/Machine/Fields.lean ====
section
/-! DEFINITION. The fields of the registers, under the names and bits that the register tables give them. -/

namespace Sys2Proof.Machine

def TMG_CH_CFG_ASSIGNED : Field := ⟨.TMG_CH_CFG, 0, 15, 15⟩
def TMG_CH_CFG_SITE : Field := ⟨.TMG_CH_CFG, 0, 12, 8⟩
def TMG_CH_CFG_QUIET : Field := ⟨.TMG_CH_CFG, 0, 5, 4⟩
def TMG_CH_CFG_IN_QUIET : Field := ⟨.TMG_CH_CFG, 0, 0, 0⟩
def TMG_SITE_CFG_MODE : Field := ⟨.TMG_SITE_CFG, 0, 31, 31⟩
def TMG_SITE_CFG_FX_PERIOD : Field := ⟨.TMG_SITE_CFG, 0, 19, 0⟩
def TMG_FX_STB_STB_EN : Field := ⟨.TMG_FX_STB, 0, 20, 20⟩
def TMG_FX_STB_STB_OFS : Field := ⟨.TMG_FX_STB, 0, 19, 0⟩
def TMG_CH_TIM_CPH_INV : Field := ⟨.TMG_CH_TIM, 0, 31, 31⟩
def TMG_CH_TIM_CPL_INV : Field := ⟨.TMG_CH_TIM, 0, 30, 30⟩
def TMG_CH_TIM_FX_SKEW : Field := ⟨.TMG_CH_TIM, 0, 20, 0⟩
def TMG_DSK_DRV_OFFSET : Field := ⟨.TMG_DSK_DRV, 0, 24, 0⟩
def TMG_DSK_CMP_OFFSET : Field := ⟨.TMG_DSK_CMP, 0, 24, 0⟩
def TMG_CH_STAT_DROP_CNT : Field := ⟨.TMG_CH_STAT, 0, 31, 16⟩
def TMG_CH_STAT_CPL_UNRES : Field := ⟨.TMG_CH_STAT, 0, 5, 5⟩
def TMG_CH_STAT_CPH_UNRES : Field := ⟨.TMG_CH_STAT, 0, 4, 4⟩
def TMG_CH_STAT_STB_DROP : Field := ⟨.TMG_CH_STAT, 0, 2, 2⟩
def TMG_CH_STAT_PULSE_DROP : Field := ⟨.TMG_CH_STAT, 0, 1, 1⟩
def TMG_CH_STAT_ORDER_DROP : Field := ⟨.TMG_CH_STAT, 0, 0, 0⟩
def TMG_SITE_STAT_TIMING_DROP : Field := ⟨.TMG_SITE_STAT, 0, 0, 0⟩
def SEQ_THR_STAT_STATE : Field := ⟨.SEQ_THR_STAT, 0, 31, 29⟩
def SEQ_THR_STAT_LS_DEPTH : Field := ⟨.SEQ_THR_STAT, 0, 28, 24⟩
def SEQ_THR_STAT_CS_DEPTH : Field := ⟨.SEQ_THR_STAT, 0, 23, 19⟩
def SEQ_THR_STAT_PQ_DEPTH : Field := ⟨.SEQ_THR_STAT, 0, 18, 15⟩
def SEQ_THR_STAT_PADS : Field := ⟨.SEQ_THR_STAT, 0, 14, 11⟩
def SEQ_THR_STAT_PROG : Field := ⟨.SEQ_THR_STAT, 0, 10, 6⟩
def SEQ_THR_STAT_PARKED : Field := ⟨.SEQ_THR_STAT, 0, 0, 0⟩
def SEQ_THR_END_REASON : Field := ⟨.SEQ_THR_END, 0, 31, 28⟩
def SEQ_THR_END_CODE : Field := ⟨.SEQ_THR_END, 0, 15, 0⟩
def SEQ_THR_PC_PC : Field := ⟨.SEQ_THR_PC, 0, 15, 0⟩
def SEQ_THR_VN_VN_LO : Field := ⟨.SEQ_THR_VN, 0, 31, 0⟩
def SEQ_THR_VN_VN_HI : Field := ⟨.SEQ_THR_VN, 1, 15, 0⟩
def SEQ_GR_VALUE : Field := ⟨.SEQ_GR, 0, 31, 0⟩
def SEQ_CS_STAT_SUSPECT : Field := ⟨.SEQ_CS_STAT, 0, 31, 31⟩
def SEQ_CS_STAT_LOADED : Field := ⟨.SEQ_CS_STAT, 0, 30, 30⟩
def SEQ_CS_CRC_CRC : Field := ⟨.SEQ_CS_CRC, 0, 31, 0⟩
def SEQ_CS_VER_VERSION : Field := ⟨.SEQ_CS_VER, 0, 31, 0⟩
def SEQ_CS_ERR_GROUPS : Field := ⟨.SEQ_CS_ERR, 0, 31, 28⟩
def SEQ_CS_ERR_ADDR : Field := ⟨.SEQ_CS_ERR, 0, 13, 0⟩
def SEQ_CSL_CFG_SRC : Field := ⟨.SEQ_CSL_CFG, 0, 31, 28⟩
def SEQ_CSL_CFG_STICKY : Field := ⟨.SEQ_CSL_CFG, 0, 27, 27⟩
def SEQ_CSL_CFG_SPAN : Field := ⟨.SEQ_CSL_CFG, 0, 26, 26⟩
def SEQ_CSL_CFG_SPAN_AND : Field := ⟨.SEQ_CSL_CFG, 0, 25, 25⟩
def SEQ_CSL_CFG_ARG : Field := ⟨.SEQ_CSL_CFG, 0, 6, 0⟩
def SEQ_BR_STAT_JUMP_DEFERRED : Field := ⟨.SEQ_BR_STAT, 0, 31, 31⟩
def SEQ_BR_STAT_JUMP_LATE : Field := ⟨.SEQ_BR_STAT, 0, 30, 30⟩
def SEQ_BR_STAT_SPLIT : Field := ⟨.SEQ_BR_STAT, 0, 29, 29⟩
def SEQ_BR_STAT_GROUPED : Field := ⟨.SEQ_BR_STAT, 0, 28, 28⟩
def SEQ_BR_STAT_BRANCHES : Field := ⟨.SEQ_BR_STAT, 0, 23, 16⟩
def SEQ_BR_STAT_SHADOW : Field := ⟨.SEQ_BR_STAT, 0, 15, 0⟩
def SEQ_LS_MASK_SITES : Field := ⟨.SEQ_LS_MASK, 0, 31, 0⟩
def SEQ_LS_CFG_EN : Field := ⟨.SEQ_LS_CFG, 0, 31, 31⟩
def SEQ_LS_CFG_MAX_SPLIT : Field := ⟨.SEQ_LS_CFG, 0, 4, 0⟩
def SEQ_SPAN_CFG_EN : Field := ⟨.SEQ_SPAN_CFG, 0, 31, 31⟩
def SEQ_SPAN_CFG_SITE : Field := ⟨.SEQ_SPAN_CFG, 0, 20, 16⟩
def SEQ_SPAN_CFG_SPAN : Field := ⟨.SEQ_SPAN_CFG, 0, 15, 0⟩
def SEQ_SPAN_LAT_MEMBERS_M1 : Field := ⟨.SEQ_SPAN_LAT, 0, 26, 16⟩
def SEQ_SPAN_LAT_L_SPAN : Field := ⟨.SEQ_SPAN_LAT, 0, 10, 0⟩
def VST_SYMMAP_MAP_E : Field := ⟨.VST_SYMMAP, 0, 19, 16⟩
def VST_SYMMAP_MAP_D : Field := ⟨.VST_SYMMAP, 0, 15, 12⟩
def VST_SYMMAP_MAP_C : Field := ⟨.VST_SYMMAP, 0, 11, 8⟩
def VST_SYMMAP_MAP_B : Field := ⟨.VST_SYMMAP, 0, 7, 4⟩
def VST_SYMMAP_MAP_A : Field := ⟨.VST_SYMMAP, 0, 3, 0⟩
def VST_MK_CFG_EN : Field := ⟨.VST_MK_CFG, 0, 31, 31⟩
def VST_MK_CFG_INV : Field := ⟨.VST_MK_CFG, 0, 30, 30⟩
def VST_MK_CFG_SITE : Field := ⟨.VST_MK_CFG, 0, 28, 24⟩
def VST_MK_CFG_PW : Field := ⟨.VST_MK_CFG, 0, 15, 0⟩
def VST_SITE_STAT_VN_WRAP : Field := ⟨.VST_SITE_STAT, 0, 3, 3⟩
def VST_SITE_STAT_MK_DENIED : Field := ⟨.VST_SITE_STAT, 0, 2, 2⟩
def VST_SITE_STAT_MK_CLAMP : Field := ⟨.VST_SITE_STAT, 0, 1, 1⟩
def VST_SITE_STAT_CRC_FAIL : Field := ⟨.VST_SITE_STAT, 0, 0, 0⟩
def VST_IM_COLL_COUNT : Field := ⟨.VST_IM_COLL, 0, 31, 0⟩
def VST_POS_ROW : Field := ⟨.VST_POS, 0, 31, 0⟩
def VST_POS_SEG : Field := ⟨.VST_POS, 1, 15, 0⟩
def VST_WIN_CFG_WIN_EXTRA : Field := ⟨.VST_WIN_CFG, 0, 11, 0⟩
def VST_WIN_STAT_MIN_LEAD : Field := ⟨.VST_WIN_STAT, 0, 31, 16⟩
def VST_WIN_STAT_LEAD : Field := ⟨.VST_WIN_STAT, 0, 15, 0⟩
def VST_PAD_ALLOW_ALLOWANCE : Field := ⟨.VST_PAD_ALLOW, 0, 24, 0⟩
def VST_STALL_BEATS_BEATS : Field := ⟨.VST_STALL_BEATS, 0, 31, 0⟩
def VST_STALL_EVTS_COUNT : Field := ⟨.VST_STALL_EVTS, 0, 15, 0⟩
def VST_ADM_BUDGET_GROUP : Field := ⟨.VST_ADM_BUDGET, 0, 31, 31⟩
def VST_ADM_BUDGET_MBPS : Field := ⟨.VST_ADM_BUDGET, 0, 19, 0⟩
def VST_ADM_USED_GROUP : Field := ⟨.VST_ADM_USED, 0, 31, 31⟩
def VST_ADM_USED_MBPS : Field := ⟨.VST_ADM_USED, 0, 19, 0⟩
def VST_ADM_CHG_GROUP : Field := ⟨.VST_ADM_CHG, 0, 31, 31⟩
def VST_ADM_CHG_MBPS : Field := ⟨.VST_ADM_CHG, 0, 19, 0⟩
def CAP_FLOG_BASE_BASE : Field := ⟨.CAP_FLOG_BASE, 0, 29, 0⟩
def CAP_FLOG_LEN_LEN_M1 : Field := ⟨.CAP_FLOG_LEN, 0, 23, 0⟩
def CAP_FLOG_CFG_POLICY : Field := ⟨.CAP_FLOG_CFG, 0, 31, 30⟩
def CAP_FLOG_CFG_WRAP : Field := ⟨.CAP_FLOG_CFG, 0, 29, 29⟩
def CAP_FLOG_CFG_N : Field := ⟨.CAP_FLOG_CFG, 0, 23, 0⟩
def CAP_FLOG_STAT_FLUSHED : Field := ⟨.CAP_FLOG_STAT, 0, 3, 3⟩
def CAP_FLOG_STAT_WRAPPED : Field := ⟨.CAP_FLOG_STAT, 0, 2, 2⟩
def CAP_FLOG_STAT_FULL : Field := ⟨.CAP_FLOG_STAT, 0, 1, 1⟩
def CAP_FLOG_STAT_LOST : Field := ⟨.CAP_FLOG_STAT, 0, 0, 0⟩
def CAP_FIRST_VN_VN_LO : Field := ⟨.CAP_FIRST_VN, 0, 31, 0⟩
def CAP_FIRST_VN_VALID : Field := ⟨.CAP_FIRST_VN, 1, 31, 31⟩
def CAP_FIRST_VN_VN_HI : Field := ⟨.CAP_FIRST_VN, 1, 15, 0⟩
def CAP_FLOG_LOST_COUNT : Field := ⟨.CAP_FLOG_LOST, 0, 31, 0⟩
def CAP_CH_FCNT_COUNT : Field := ⟨.CAP_CH_FCNT, 0, 31, 0⟩
def CAP_AQ_SRC_TYPE : Field := ⟨.CAP_AQ_SRC, 0, 31, 31⟩
def CAP_AQ_SRC_SITE : Field := ⟨.CAP_AQ_SRC, 0, 20, 16⟩
def CAP_AQ_SRC_WIN : Field := ⟨.CAP_AQ_SRC, 0, 10, 8⟩
def CAP_AQ_SRC_CONV : Field := ⟨.CAP_AQ_SRC, 0, 6, 6⟩
def CAP_AQ_SRC_ENTRY : Field := ⟨.CAP_AQ_SRC, 0, 5, 0⟩
def CAP_AQ_CFG_CLASS : Field := ⟨.CAP_AQ_CFG, 0, 31, 31⟩
def CAP_AQ_CFG_HOLD_EV : Field := ⟨.CAP_AQ_CFG, 0, 30, 30⟩
def CAP_AQ_CFG_TX_EN : Field := ⟨.CAP_AQ_CFG, 0, 29, 29⟩
def CAP_AQ_CFG_SLOTS_M1 : Field := ⟨.CAP_AQ_CFG, 0, 28, 25⟩
def CAP_AQ_CFG_AVG_K : Field := ⟨.CAP_AQ_CFG, 0, 24, 21⟩
def CAP_AQ_CFG_LEN_M1 : Field := ⟨.CAP_AQ_CFG, 0, 20, 12⟩
def CAP_AQ_CFG_TX_NUM : Field := ⟨.CAP_AQ_CFG, 0, 7, 0⟩
def CAP_AQ_PRE_PRE : Field := ⟨.CAP_AQ_PRE, 0, 17, 0⟩
def CAP_AQ_HOLD_HOLD : Field := ⟨.CAP_AQ_HOLD, 0, 23, 0⟩
def CAP_AQ_TMO_TIMEOUT : Field := ⟨.CAP_AQ_TMO, 0, 23, 0⟩
def CAP_AQ_TRIG_SRC : Field := ⟨.CAP_AQ_TRIG, 0, 31, 28⟩
def CAP_AQ_TRIG_POL : Field := ⟨.CAP_AQ_TRIG, 0, 27, 27⟩
def CAP_AQ_TRIG_ARG : Field := ⟨.CAP_AQ_TRIG, 0, 8, 0⟩
def CAP_AQ_LEVEL_LEVEL : Field := ⟨.CAP_AQ_LEVEL, 0, 31, 0⟩
def CAP_AQ_HYST_HYST : Field := ⟨.CAP_AQ_HYST, 0, 15, 0⟩
def CAP_AQ_MASK_EN : Field := ⟨.CAP_AQ_MASK, 0, 31, 31⟩
def CAP_AQ_MASK_LEN_M1 : Field := ⟨.CAP_AQ_MASK, 0, 30, 19⟩
def CAP_AQ_MASK_OFS : Field := ⟨.CAP_AQ_MASK, 0, 18, 0⟩
def CAP_AQ_STAT_STATE : Field := ⟨.CAP_AQ_STAT, 0, 31, 29⟩
def CAP_AQ_STAT_SLOTS_DONE : Field := ⟨.CAP_AQ_STAT, 0, 28, 24⟩
def CAP_AQ_IGN_COUNT : Field := ⟨.CAP_AQ_IGN, 0, 31, 0⟩
def CAP_AQ_MASKV_VIOL : Field := ⟨.CAP_AQ_MASKV, 0, 31, 31⟩
def CAP_AQ_MASKV_BIN : Field := ⟨.CAP_AQ_MASKV, 0, 11, 0⟩
def CAP_TO_CFG_EN : Field := ⟨.CAP_TO_CFG, 0, 31, 31⟩
def CAP_TO_CFG_UNIT : Field := ⟨.CAP_TO_CFG, 0, 19, 16⟩
def CAP_TO_CFG_PW : Field := ⟨.CAP_TO_CFG, 0, 15, 0⟩
def TIA_CH_CFG_MODE : Field := ⟨.TIA_CH_CFG, 0, 31, 30⟩
def TIA_CH_CFG_GATE : Field := ⟨.TIA_CH_CFG, 0, 29, 29⟩
def TIA_CH_CFG_IN : Field := ⟨.TIA_CH_CFG, 0, 28, 28⟩
def TIA_CH_CFG_START_POL : Field := ⟨.TIA_CH_CFG, 0, 27, 26⟩
def TIA_CH_CFG_STOP_POL : Field := ⟨.TIA_CH_CFG, 0, 25, 24⟩
def TIA_CH_CFG_REF : Field := ⟨.TIA_CH_CFG, 0, 23, 23⟩
def TIA_CH_CFG_FIRST : Field := ⟨.TIA_CH_CFG, 0, 22, 22⟩
def TIA_CH_CFG_REF_CH : Field := ⟨.TIA_CH_CFG, 0, 6, 0⟩
def TIA_RX_CFG_HOLDOFF : Field := ⟨.TIA_RX_CFG, 0, 14, 8⟩
def TIA_RX_CFG_HYST_CPL : Field := ⟨.TIA_RX_CFG, 0, 5, 4⟩
def TIA_RX_CFG_HYST_CPH : Field := ⟨.TIA_RX_CFG, 0, 1, 0⟩
def TIA_N_N_M1 : Field := ⟨.TIA_N, 0, 31, 0⟩
def TIA_GATE_GATE : Field := ⟨.TIA_GATE, 0, 19, 0⟩
def TIA_STAT_STATE : Field := ⟨.TIA_STAT, 0, 31, 30⟩
def TIA_STAT_PARTIAL : Field := ⟨.TIA_STAT, 0, 29, 29⟩
def TIA_LOST_COUNT : Field := ⟨.TIA_LOST, 0, 31, 0⟩
def TIA_ERR_MISS : Field := ⟨.TIA_ERR, 0, 31, 16⟩
def TIA_ERR_GLITCH : Field := ⟨.TIA_ERR, 0, 15, 0⟩
def TIA_LAST_VALUE : Field := ⟨.TIA_LAST, 0, 31, 0⟩
def TIA_MIN_MIN : Field := ⟨.TIA_MIN, 0, 31, 0⟩
def TIA_MAX_MAX : Field := ⟨.TIA_MAX, 0, 31, 0⟩
def ADC_CFG_MODE : Field := ⟨.ADC_CFG, 0, 31, 31⟩
def ADC_CFG_SRC : Field := ⟨.ADC_CFG, 0, 30, 28⟩
def ADC_CFG_POL : Field := ⟨.ADC_CFG, 0, 27, 27⟩
def ADC_CFG_ARG : Field := ⟨.ADC_CFG, 0, 15, 8⟩
def ADC_CFG_LEN_M1 : Field := ⟨.ADC_CFG, 0, 5, 0⟩
def ADC_SEQ_EVT : Field := ⟨.ADC_SEQ, 0, 31, 31⟩
def ADC_SEQ_GAIN : Field := ⟨.ADC_SEQ, 0, 28, 27⟩
def ADC_SEQ_SETTLE : Field := ⟨.ADC_SEQ, 0, 23, 16⟩
def ADC_SEQ_K : Field := ⟨.ADC_SEQ, 0, 15, 12⟩
def ADC_SEQ_INPUT : Field := ⟨.ADC_SEQ, 0, 5, 0⟩
def ADC_RES_VALUE : Field := ⟨.ADC_RES, 0, 31, 0⟩
def ADC_RES_SEQNO : Field := ⟨.ADC_RES, 1, 31, 16⟩
def ADC_RES_CLIP : Field := ⟨.ADC_RES, 1, 15, 15⟩
def ADC_RES_K : Field := ⟨.ADC_RES, 1, 3, 0⟩
def ADC_STAT_STATE : Field := ⟨.ADC_STAT, 0, 31, 29⟩
def ADC_STAT_PENDING : Field := ⟨.ADC_STAT, 0, 28, 28⟩
def ADC_STAT_TRIG_OVERRUN : Field := ⟨.ADC_STAT, 0, 27, 27⟩
def ADC_STAT_CLIP : Field := ⟨.ADC_STAT, 0, 26, 26⟩
def ADC_STAT_ENTRY : Field := ⟨.ADC_STAT, 0, 5, 0⟩
def ADC_OVR_COUNT : Field := ⟨.ADC_OVR, 0, 31, 0⟩
def SUP_GLB_CFG_DIV : Field := ⟨.SUP_GLB_CFG, 0, 9, 0⟩
def SUP_CFG_OWNED : Field := ⟨.SUP_CFG, 0, 31, 31⟩
def SUP_CFG_SITE : Field := ⟨.SUP_CFG, 0, 30, 26⟩
def SUP_CFG_REQ_PG : Field := ⟨.SUP_CFG, 0, 25, 25⟩
def SUP_CFG_RAMP : Field := ⟨.SUP_CFG, 0, 19, 16⟩
def SUP_CFG_SS_DIV : Field := ⟨.SUP_CFG, 0, 15, 0⟩
def SUP_VSET_VSET : Field := ⟨.SUP_VSET, 0, 11, 0⟩
def SUP_COMP_A_A1 : Field := ⟨.SUP_COMP_A, 0, 31, 16⟩
def SUP_COMP_A_A0 : Field := ⟨.SUP_COMP_A, 0, 15, 0⟩
def SUP_COMP_B_A2 : Field := ⟨.SUP_COMP_B, 0, 15, 0⟩
def SUP_THR_V_OV : Field := ⟨.SUP_THR_V, 0, 25, 16⟩
def SUP_THR_V_UV : Field := ⟨.SUP_THR_V, 0, 9, 0⟩
def SUP_THR_I_ILIM : Field := ⟨.SUP_THR_I, 0, 27, 16⟩
def SUP_THR_I_OC : Field := ⟨.SUP_THR_I, 0, 9, 0⟩
def SUP_STAT_STATE : Field := ⟨.SUP_STAT, 0, 31, 29⟩
def SUP_STAT_SUSPECT : Field := ⟨.SUP_STAT, 0, 28, 28⟩
def SUP_STAT_UNRES : Field := ⟨.SUP_STAT, 0, 11, 8⟩
def SUP_STAT_INBAND : Field := ⟨.SUP_STAT, 0, 7, 4⟩
def SUP_STAT_LATCH : Field := ⟨.SUP_STAT, 0, 3, 0⟩
def SUP_LOOP_SAMPLE : Field := ⟨.SUP_LOOP, 0, 27, 16⟩
def SUP_LOOP_CMD : Field := ⟨.SUP_LOOP, 0, 11, 0⟩
def CST_POOL_CFG_MIN : Field := ⟨.CST_POOL_CFG, 0, 31, 16⟩
def CST_POOL_CFG_MAX_M1 : Field := ⟨.CST_POOL_CFG, 0, 15, 0⟩
def CST_FREE_COUNT : Field := ⟨.CST_FREE, 0, 16, 0⟩
def CST_HOLD_COUNT : Field := ⟨.CST_HOLD, 0, 16, 0⟩
def CST_LEDGER_STAT_ECC_CORR : Field := ⟨.CST_LEDGER_STAT, 0, 1, 1⟩
def CST_LEDGER_STAT_BAD_FREE : Field := ⟨.CST_LEDGER_STAT, 0, 0, 0⟩
def MEM_CTL_STAT_STATE : Field := ⟨.MEM_CTL_STAT, 0, 31, 30⟩
def MEM_CTL_STAT_IN_IL : Field := ⟨.MEM_CTL_STAT, 0, 29, 29⟩
def MEM_CTL_STAT_DBL_B : Field := ⟨.MEM_CTL_STAT, 0, 5, 5⟩
def MEM_CTL_STAT_DBL_A : Field := ⟨.MEM_CTL_STAT, 0, 4, 4⟩
def MEM_CTL_STAT_FAIL_B : Field := ⟨.MEM_CTL_STAT, 0, 1, 1⟩
def MEM_CTL_STAT_FAIL_A : Field := ⟨.MEM_CTL_STAT, 0, 0, 0⟩
def MEM_IL_MASK : Field := ⟨.MEM_IL, 0, 31, 16⟩
def MEM_IL_C : Field := ⟨.MEM_IL, 0, 4, 0⟩
def MEM_TEMP_TEMP_B : Field := ⟨.MEM_TEMP, 0, 31, 16⟩
def MEM_TEMP_TEMP_A : Field := ⟨.MEM_TEMP, 0, 15, 0⟩
def MEM_NR_CFG_K : Field := ⟨.MEM_NR_CFG, 0, 4, 0⟩
def MEM_NR_SEED_SEED : Field := ⟨.MEM_NR_SEED, 0, 31, 0⟩
def MEM_EDC_CFG_THRESH : Field := ⟨.MEM_EDC_CFG, 0, 15, 0⟩
def KLK_MOD_ID_VALID : Field := ⟨.KLK_MOD_ID, 0, 31, 31⟩
def KLK_MOD_ID_TTL : Field := ⟨.KLK_MOD_ID, 0, 21, 16⟩
def KLK_MOD_ID_ID : Field := ⟨.KLK_MOD_ID, 0, 10, 0⟩
def KLK_PORT_CFG_EN : Field := ⟨.KLK_PORT_CFG, 0, 31, 31⟩
def KLK_PORT_CFG_AUTO_RETRY : Field := ⟨.KLK_PORT_CFG, 0, 30, 30⟩
def KLK_PORT_CFG_V1_ONLY : Field := ⟨.KLK_PORT_CFG, 0, 29, 29⟩
def KLK_PORT_CFG_FLOOD : Field := ⟨.KLK_PORT_CFG, 0, 28, 28⟩
def KLK_VC_CFG_VC3 : Field := ⟨.KLK_VC_CFG, 0, 31, 24⟩
def KLK_VC_CFG_VC2 : Field := ⟨.KLK_VC_CFG, 0, 23, 16⟩
def KLK_VC_CFG_VC1 : Field := ⟨.KLK_VC_CFG, 0, 15, 8⟩
def KLK_VC_CFG_VC0 : Field := ⟨.KLK_VC_CFG, 0, 7, 0⟩
def KLK_ROUTE_VALID : Field := ⟨.KLK_ROUTE, 0, 3, 3⟩
def KLK_ROUTE_PORT : Field := ⟨.KLK_ROUTE, 0, 2, 0⟩
def KLK_PORT_STAT_STATE : Field := ⟨.KLK_PORT_STAT, 0, 31, 29⟩
def KLK_PORT_STAT_VER : Field := ⟨.KLK_PORT_STAT, 0, 28, 28⟩
def KLK_PORT_STAT_WIDTH : Field := ⟨.KLK_PORT_STAT, 0, 27, 26⟩
def KLK_PORT_STAT_LANES : Field := ⟨.KLK_PORT_STAT, 0, 25, 22⟩
def KLK_PORT_STAT_ATTEMPTS : Field := ⟨.KLK_PORT_STAT, 0, 21, 20⟩
def KLK_PORT_STAT_DEGRADED : Field := ⟨.KLK_PORT_STAT, 0, 19, 19⟩
def KLK_PORT_STAT_RESUMED : Field := ⟨.KLK_PORT_STAT, 0, 18, 18⟩
def KLK_PORT_STAT_PARTNER : Field := ⟨.KLK_PORT_STAT, 0, 10, 0⟩
def KLK_HOP_HOP_BEATS : Field := ⟨.KLK_HOP, 0, 31, 24⟩
def KLK_HOP_DELAY_PS : Field := ⟨.KLK_HOP, 0, 23, 0⟩
def KLK_CRC_ERR_COUNT : Field := ⟨.KLK_CRC_ERR, 0, 31, 0⟩
def KLK_REPLAY_COUNT : Field := ⟨.KLK_REPLAY, 0, 31, 0⟩
def KLK_REFUSE_COUNT : Field := ⟨.KLK_REFUSE, 0, 31, 0⟩
def KLK_DROP_COUNT : Field := ⟨.KLK_DROP, 0, 31, 0⟩
def KLK_PRBS_STAT_LOCKED : Field := ⟨.KLK_PRBS_STAT, 0, 31, 31⟩
def KLK_PRBS_ERR_COUNT : Field := ⟨.KLK_PRBS_ERR, 0, 31, 0⟩
def HST_ID_DEVICE : Field := ⟨.HST_ID, 0, 31, 16⟩
def HST_ID_CODE : Field := ⟨.HST_ID, 0, 15, 12⟩
def HST_ID_DIE_REV : Field := ⟨.HST_ID, 0, 7, 0⟩
def HST_STATE_AGREED : Field := ⟨.HST_STATE, 0, 31, 31⟩
def HST_STATE_SESAME : Field := ⟨.HST_STATE, 0, 30, 29⟩
def HST_STATE_CQ_REFUSE : Field := ⟨.HST_STATE, 0, 28, 28⟩
def HST_STATE_PROFILE : Field := ⟨.HST_STATE, 0, 19, 18⟩
def HST_STATE_PROF_BALLS : Field := ⟨.HST_STATE, 0, 17, 16⟩
def HST_STATE_FW_STATE : Field := ⟨.HST_STATE, 0, 7, 0⟩
def NTU_BEAT_STAT_POD_LOCK : Field := ⟨.NTU_BEAT_STAT, 0, 31, 16⟩
def NTU_BEAT_STAT_REF_LOSS : Field := ⟨.NTU_BEAT_STAT, 0, 3, 3⟩
def NTU_BEAT_STAT_HOLDOVER : Field := ⟨.NTU_BEAT_STAT, 0, 2, 2⟩
def NTU_BEAT_STAT_BEAT_LOCK : Field := ⟨.NTU_BEAT_STAT, 0, 1, 1⟩
def NTU_BEAT_STAT_REF_OK : Field := ⟨.NTU_BEAT_STAT, 0, 0, 0⟩
def NTU_INC_FRAC : Field := ⟨.NTU_INC, 0, 31, 0⟩
def NTU_INC_NS : Field := ⟨.NTU_INC, 1, 31, 0⟩
def NTU_ROLE_ROLE : Field := ⟨.NTU_ROLE, 0, 31, 30⟩
def NTU_ROLE_SRC : Field := ⟨.NTU_ROLE, 0, 29, 29⟩
def NTU_ROLE_SERVO_HOST : Field := ⟨.NTU_ROLE, 0, 28, 28⟩
def NTU_ROLE_UP_PORT : Field := ⟨.NTU_ROLE, 0, 18, 16⟩
def NTU_ROLE_DOWN : Field := ⟨.NTU_ROLE, 0, 7, 0⟩
def NTU_PTP_CFG_ROLE : Field := ⟨.NTU_PTP_CFG, 0, 31, 30⟩
def NTU_PTP_CFG_PROFILE : Field := ⟨.NTU_PTP_CFG, 0, 29, 29⟩
def NTU_PTP_CFG_TRANSPORT : Field := ⟨.NTU_PTP_CFG, 0, 28, 27⟩
def NTU_PTP_CFG_PORTS : Field := ⟨.NTU_PTP_CFG, 0, 26, 25⟩
def NTU_PTP_CFG_DOMAIN : Field := ⟨.NTU_PTP_CFG, 0, 7, 0⟩
def NTU_DLY_TX_DELAY : Field := ⟨.NTU_DLY_TX, 0, 31, 0⟩
def NTU_DLY_RX_DELAY : Field := ⟨.NTU_DLY_RX, 0, 31, 0⟩
def NTU_SERVO_STAT_LOCKED : Field := ⟨.NTU_SERVO_STAT, 0, 31, 31⟩
def NTU_SERVO_STAT_UP_LOST : Field := ⟨.NTU_SERVO_STAT, 0, 30, 30⟩
def NTU_SERVO_STAT_SLEWING : Field := ⟨.NTU_SERVO_STAT, 0, 29, 29⟩
def NTU_SERVO_STAT_EPOCH : Field := ⟨.NTU_SERVO_STAT, 0, 7, 0⟩
def NTU_ALM_STAT_STATE : Field := ⟨.NTU_ALM_STAT, 0, 31, 30⟩
def NTU_ALM_STAT_CANCELLED : Field := ⟨.NTU_ALM_STAT, 0, 29, 29⟩
def MGT_CORE_STAT_STATE : Field := ⟨.MGT_CORE_STAT, 0, 31, 30⟩
def MGT_CORE_STAT_TRAPS : Field := ⟨.MGT_CORE_STAT, 0, 15, 0⟩
def MGT_SPR_THR_STATE : Field := ⟨.MGT_SPR_THR, 0, 31, 29⟩
def MGT_SPR_THR_PRIO : Field := ⟨.MGT_SPR_THR, 0, 28, 24⟩
def MGT_SPR_THR_CORE : Field := ⟨.MGT_SPR_THR, 0, 23, 21⟩
def MGT_SPR_THR_FLOW_EN : Field := ⟨.MGT_SPR_THR, 0, 20, 20⟩
def MGT_SPR_THR_BLOCKED : Field := ⟨.MGT_SPR_THR, 0, 19, 16⟩
def MGT_SPR_THR_C : Field := ⟨.MGT_SPR_THR, 0, 15, 0⟩
def MGT_SPR_FLOW_FLOW : Field := ⟨.MGT_SPR_FLOW, 0, 7, 0⟩
def MGT_CQ_STAT_REFUSED : Field := ⟨.MGT_CQ_STAT, 0, 31, 16⟩
def MGT_CQ_STAT_OUTSTANDING : Field := ⟨.MGT_CQ_STAT, 0, 12, 0⟩
def MGT_DEQ_CFG_BASE : Field := ⟨.MGT_DEQ_CFG, 0, 31, 8⟩
def MGT_DEQ_CFG_ASID : Field := ⟨.MGT_DEQ_CFG, 0, 7, 5⟩
def MGT_DEQ_CFG_EN : Field := ⟨.MGT_DEQ_CFG, 0, 4, 4⟩
def MGT_DEQ_CFG_LOG2 : Field := ⟨.MGT_DEQ_CFG, 0, 3, 0⟩
def MGT_DE_STAT_STATE : Field := ⟨.MGT_DE_STAT, 0, 31, 29⟩
def MGT_DE_STAT_QUEUE : Field := ⟨.MGT_DE_STAT, 0, 28, 27⟩
def MGT_DE_STAT_FAULTED : Field := ⟨.MGT_DE_STAT, 0, 3, 0⟩
def MGT_RXQ_CFG_EN : Field := ⟨.MGT_RXQ_CFG, 0, 31, 31⟩
def MGT_RXQ_CFG_ASID : Field := ⟨.MGT_RXQ_CFG, 0, 12, 10⟩
def MGT_RXQ_CFG_THREAD : Field := ⟨.MGT_RXQ_CFG, 0, 9, 0⟩
def MGT_RXQ_STAT_DISCARD : Field := ⟨.MGT_RXQ_STAT, 0, 31, 16⟩
def MGT_RXQ_STAT_HELD : Field := ⟨.MGT_RXQ_STAT, 0, 15, 0⟩
def CAL_CFG_C3_RECAL : Field := ⟨.CAL_CFG, 0, 1, 1⟩
def CAL_CFG_CALCLK_100 : Field := ⟨.CAL_CFG, 0, 0, 0⟩
def CAL_STAT_RUN : Field := ⟨.CAL_STAT, 0, 31, 29⟩
def CAL_STAT_STORE_BUSY : Field := ⟨.CAL_STAT, 0, 28, 28⟩
def CAL_STAT_VREF_OK : Field := ⟨.CAL_STAT, 0, 27, 27⟩
def CAL_STAT_CALCLK_OK : Field := ⟨.CAL_STAT, 0, 26, 26⟩
def CAL_REF_ERR_PPB : Field := ⟨.CAL_REF_ERR, 0, 31, 0⟩
def CAL_SET_STAT_SOURCE : Field := ⟨.CAL_SET_STAT, 0, 31, 30⟩
def CAL_SET_STAT_DIRTY : Field := ⟨.CAL_SET_STAT, 0, 29, 29⟩
def CAL_SET_STAT_SLOT : Field := ⟨.CAL_SET_STAT, 0, 28, 28⟩
def CAL_SET_STAT_FAILED : Field := ⟨.CAL_SET_STAT, 0, 27, 27⟩
def CAL_SET_STAT_RANGE : Field := ⟨.CAL_SET_STAT, 0, 26, 26⟩
def CAL_SET_STAT_VALID_T : Field := ⟨.CAL_SET_STAT, 0, 4, 0⟩
def CAL_SET_SEQ_SEQ : Field := ⟨.CAL_SET_SEQ, 0, 31, 0⟩
def THM_PLIM_CFG_USER : Field := ⟨.THM_PLIM_CFG, 0, 3, 0⟩
def THM_CFG_WARN : Field := ⟨.THM_CFG, 0, 7, 0⟩
def THM_TEMP_FAILED : Field := ⟨.THM_TEMP, 0, 31, 31⟩
def THM_TEMP_TEMP : Field := ⟨.THM_TEMP, 0, 15, 0⟩
def THM_HOT_SENSOR : Field := ⟨.THM_HOT, 0, 21, 16⟩
def THM_HOT_TEMP : Field := ⟨.THM_HOT, 0, 15, 0⟩
def THM_G_TEMP_TEMP : Field := ⟨.THM_G_TEMP, 0, 15, 0⟩
def THM_PLIM_STAT_PLIM : Field := ⟨.THM_PLIM_STAT, 0, 31, 28⟩
def THM_PLIM_STAT_THR : Field := ⟨.THM_PLIM_STAT, 0, 27, 24⟩
def THM_PLIM_STAT_FORCED : Field := ⟨.THM_PLIM_STAT, 0, 23, 23⟩
def THM_PLIM_STAT_UP_BLOCKED : Field := ⟨.THM_PLIM_STAT, 0, 22, 22⟩
def THM_PLIM_STAT_DEFER : Field := ⟨.THM_PLIM_STAT, 0, 21, 18⟩
def THM_P_BASE_MW : Field := ⟨.THM_P_BASE, 0, 19, 0⟩
def THM_P_RT_MW : Field := ⟨.THM_P_RT, 0, 19, 0⟩
def THM_P_NRT_MW : Field := ⟨.THM_P_NRT, 0, 19, 0⟩
def THM_REFUSED_COUNT : Field := ⟨.THM_REFUSED, 0, 31, 0⟩
def THM_STAT_SD_LOG : Field := ⟨.THM_STAT, 0, 31, 31⟩
def THM_STAT_RECORDS : Field := ⟨.THM_STAT, 0, 12, 0⟩
def HSK_CFG_FN_C1 : Field := ⟨.HSK_CFG, 0, 0, 0⟩
def HSK_INJECT_EN : Field := ⟨.HSK_INJECT, 0, 31, 31⟩
def HSK_INJECT_CONT : Field := ⟨.HSK_INJECT, 0, 30, 30⟩
def HSK_INJECT_CHK : Field := ⟨.HSK_INJECT, 0, 27, 24⟩
def HSK_INJECT_INST : Field := ⟨.HSK_INJECT, 0, 15, 8⟩
def HSK_EVT_ROUTE_TARGET : Field := ⟨.HSK_EVT_ROUTE, 0, 31, 30⟩
def HSK_EVT_ROUTE_VECTOR : Field := ⟨.HSK_EVT_ROUTE, 0, 15, 10⟩
def HSK_EVT_ROUTE_THREAD : Field := ⟨.HSK_EVT_ROUTE, 0, 9, 0⟩
def HSK_EVT_PEND_PEND : Field := ⟨.HSK_EVT_PEND, 0, 31, 0⟩
def HSK_REC_SEQ_NEXT : Field := ⟨.HSK_REC_SEQ, 0, 31, 0⟩
def HSK_REC_LOST_COUNT : Field := ⟨.HSK_REC_LOST, 0, 31, 0⟩

end Sys2Proof.Machine
end

