-- ==== Sys2Proof/Config.lean ====
section
/-! DEFINITION. What the manual leaves open. Every name here is an opaque constant: no proof can see its value, so a
claim about the model holds for every value. The counter that makes each draw fresh is `State.free`. -/

namespace Sys2Proof

/-- The value of the `n`-th draw of an open value (log entry 5; entries 17, 28, 36, 41, 43, 46 to 48, 52
to 54, 69 and 99 name the uses: session numbers, the content of a granule whose write failed, a count beyond its field, ...). -/
opaque Config.freeValue : Nat → W64

/-- The byte that a poisoned read of internal address `a` returns (R204, R320, R323: the manual gives no value;
log entry 13). -/
opaque Config.poisonByte : Nat → Byte

/-- The number of bytes of an applet core's register state, laid out by the Hazel Instruction Set Reference (R374;
log entry 14). -/
opaque Config.coreDumpLength : Nat → Fin 4096

/-- Byte `i` of the register state with key `n` of a trapped applet core, whose layout is not in this manual
(MGT_CORE_DUMP; log entry 14). -/
opaque Config.coreDumpByte : Nat → Nat → Byte

/-- Whether the ECDSA signature of the firmware header held in these bytes verifies under the fused key (R462;
log entry 15). -/
opaque Config.signatureVerifies : List Byte → Bool

/-- Whether these bytes have the SHA-384 digest that the second list holds (R462; FIPS 180-4 is outside the manual;
log entry 15). -/
opaque Config.digestMatches : List Byte → List Byte → Bool

/-- The minimum security version number programmed into the fuses (R462; log entry 15). -/
opaque Config.minimumSvn : W32

/-- The Vendor ID assigned to Apsodan, the revision that the configuration space shows (R35,
R36; log entry 57), and the module's serial number, which the factory area of the store holds (R36, R410; log entry 19). -/
opaque Config.vendorId : W16
opaque Config.revisionId : Byte
opaque Config.serialNumber : W64
/-- The manufacturer identity assigned to Apsodan, in the JTAG IDCODE (R473). -/
opaque Config.manufacturer : BitVec 11

/-- The clock's own port identity on an Ethernet port, and its own data set in the order of the comparison (R371; IEEE 1588 forms
the one from an address that the manual does not give, and the manual gives no values of the other; log entry 96). -/
opaque Config.ptpIdentity : Nat → Nat
opaque Config.ptpDataset : List Nat

/-- A signal ball: DRV, DEN, CPH or CPL (`x` from 0) of a channel (R466), a lane's transmit or receive pair (R467), each its P or
its N ball, or the signal at a position of R468. -/
inductive Ball where
  | channel (n x : Nat) (neg : Bool)
  | lane (l : Nat) (receive neg : Bool)
  | place (p : Nat)
  deriving DecidableEq, Repr

/-- What a boundary-scan cell does at its ball: it captures the level, it drives the ball while the control cell that it names, if
any, does not hold the value that releases the ball, or it is such a control cell (IEEE 1149.1). -/
inductive ScanPart where
  | input
  | output (control : Option (Nat × Bool))
  | control
  deriving DecidableEq, Repr

/-- A cell of the boundary-scan register. -/
structure ScanCell where
  part : ScanPart
  ball : Option Ball := none
  deriving DecidableEq, Repr

/-- What an instruction of the JTAG port does: it selects the boundary-scan register, it selects IDCODE, its cells drive the balls, and
it sends the test pulse or the test train of IEEE 1149.6; the manual gives no codes (R473; log entry 99). -/
opaque Config.jtagScans : Byte → Bool
opaque Config.jtagIdcode : Byte → Bool
opaque Config.jtagDrives : Byte → Bool
opaque Config.jtagPulses : Byte → Bool
opaque Config.jtagTrains : Byte → Bool
/-- The cells of the boundary-scan register from TDO on, whose order and parts the manual does not give; a signal ball that the list
leaves out has an input cell after it (R473: every signal ball; log entry 99). -/
opaque Config.scanOrder : List ScanCell

/-- How far the vendor servo steers NTU_INC for an offset (R368 names the servo and not its law; log entry 16). -/
opaque Config.servoIncrement : Int → W64 → W64

/-- The median of an even number of readings, given its two middle readings in 1/4 °C: the manual does not say which
of the values between them it takes (R421; log entry 18). -/
opaque Config.evenMedian : Int → Int → Int

end Sys2Proof
end

