-- ==== Sys2Proof/Machine/State.lean ====
section
/-! DEFINITION. The state of the DZ8128 as plain data: the register file, the memories, and for every subsystem what its
chapter gives it beside its registers. Every default value is the value at reset. -/

namespace Sys2Proof.Machine

/-- Why the block stops with a fault. -/
inductive Fault where
  deriving DecidableEq, Repr

/-- Why a command has no meaning here. -/
inductive Refusal where
  /-- The command has no meaning in the model yet. SAFE: the model stops. Nothing raises it once every arm has one. -/
  | notModelled (mnemonic : String)
  deriving DecidableEq, Repr

/-- The states of the beat generator (R16), with `held` while PORST_N is low. -/
inductive Phase where
  | held
  | refWait
  | beatLock
  | run
  deriving DecidableEq, Repr

/-- A general-purpose ball of board management (R472): its direction and the level it drives as an output, which firmware and
applets granted it set; and the level that the board drives it to, `none` where it leaves it open. -/
structure Gpio where
  out : Bool := false
  drive : Bool := false
  pin : Option Bool := none
  deriving DecidableEq, Repr

/-- The states of the test access port (IEEE 1149.1, which R473 names; PRESUMED, log entry 99). -/
inductive TapState where
  | reset
  | idle
  | selectDr
  | captureDr
  | shiftDr
  | exit1Dr
  | pauseDr
  | exit2Dr
  | updateDr
  | selectIr
  | captureIr
  | shiftIr
  | exit1Ir
  | pauseIr
  | exit2Ir
  | updateIr
  deriving DecidableEq, Repr

/-- The JTAG port (R473): its state, the instruction, none after its reset, where IDCODE is selected, the register being shifted with
the bit nearest TDO first, the boundary-scan cells as updated last, and the level of the test train of IEEE 1149.6. -/
structure Tap where
  st : TapState := .reset
  ir : Option Byte := none
  shift : List Bool := []
  cells : List Bool := []
  train : Bool := false
  deriving DecidableEq, Repr

/-- The beat generator and the reset logic (01_beat, 19_module). -/
structure Beat where
  phase : Phase := .held
  /-- the Local Beat Count (R20) -/
  lbc : Nat := 0
  /-- the pods found unlocked 1 ms after RUN have been judged (R17) -/
  podsJudged : Bool := false
  /-- the image slot that the boot ROM started, none while it has not (R462) -/
  image : Option Nat := none
  /-- the boot ROM found no valid slot (R462) -/
  noImage : Bool := false
  /-- a REFCLK window has passed since holdover was entered (R18) -/
  regained : Bool := false
  /-- boot has been completed since reset (R463) -/
  booted : Bool := false
  /-- GPIO0 to GPIO15, inputs from reset (R472), and the JTAG port (R473) -/
  gpio : List Gpio := List.replicate 16 {}
  tap : Tap := { }
  deriving DecidableEq, Repr

/-- A fault on its way to Husk (R435): `cls` is the class raised; `vn` is the VN, row offset and segment (R443). -/
structure FaultRec where
  sub : Nat
  cls : Nat
  code : Nat
  detail : Nat
  mask : W32
  inj : Bool
  vn : Option (Nat × Nat × Nat)
  deriving DecidableEq, Repr

/-- A latched fault, waiting in Husk's queue or held in its ring (R443). -/
structure Record where
  fault : FaultRec
  recorded : Nat
  escalated : Bool
  stop : Bool
  lbc : Nat
  sec : Nat
  frac : Nat
  ns : Nat
  epoch : Nat
  deriving DecidableEq, Repr

/-- Husk (18_husk). -/
structure Hsk where
  /-- the error lines: the faults raised and not latched yet, oldest first, each with the beat in which it is presented and
  latched (R435) -/
  lines : List (Nat × FaultRec) := []
  /-- the queue of at most 64 records, oldest first (R444) -/
  queue : List Record := []
  /-- the ring of the 256 most recent records, oldest first, each with its SEQNO (R443) -/
  ring : List (Nat × Record) := []
  /-- records lost and not yet reported by code 0x0F01 (R444) -/
  lost : Nat := 0
  /-- the records moved into the ring in one beat, and that beat (R444) -/
  moved : Nat := 0
  movedAt : Nat := 0
  /-- the events that occurred, with their beat, and are not exchanged yet (R448) -/
  occ : List (Nat × Nat) := []
  /-- a value written to HSK_INJECT that takes effect at the next beat boundary (R445) -/
  inject : Option W32 := none
  /-- the status bits that faults set, or found set, at the present boundary (R441), and that boundary -/
  fresh : W64 := 0
  freshBeat : Nat := 0
  /-- the status word as it stood before that boundary (R438) -/
  before : W64 := 0
  deriving DecidableEq, Repr

/-- A Sesame mailbox (R47, R55): indices, ring places in units of 256 bytes of BAR2, STATE, and coalescing. -/
structure Mailbox where
  sqTail : Nat := 0
  cqHead : Nat := 0
  sqHead : Nat := 0
  cqTail : Nat := 0
  sqBase : Nat := 0
  sqLog : Nat := 0
  cqBase : Nat := 0
  cqLog : Nat := 0
  /-- STATE: 0 CLOSED, 1 OPEN, 2 ERROR, 3 ROLLED -/
  st : Nat := 0
  vector : Nat := 0
  count : Nat := 1
  time : Nat := 0
  /-- the PHASE of the next entry (R51) -/
  phase : Bool := true
  /-- new entries not signalled yet, and the beat the oldest of them was posted (R55) -/
  fresh : Nat := 0
  oldest : Nat := 0
  deriving DecidableEq, Repr

/-- A mailbox after reset: MB0 is open with its reset layout (R46). -/
def Mailbox.reset (m : Nat) : Mailbox :=
  if m = 0 then { sqLog := 6, cqBase := 0x10, cqLog := 6, st := 1 } else { }

/-- A completion (R50). -/
structure Completion where
  mb : Nat
  tag : W32
  status : Nat
  res : List Nat
  deriving DecidableEq, Repr

/-- One entry of a transaction's shadow (R65): a register write, or a shadowed command with the bytes it read when it
was taken. -/
inductive Shadow where
  | reg (off : Nat) (value mask : W32)
  | load (cmd : Instr) (data : List Byte)
  deriving DecidableEq, Repr

/-- A commit that waits for its application beat (R66). -/
structure Commit where
  iss : Issuer
  mode : Nat
  lbc : Nat
  sites : W32
  /-- the mailbox was reset or closed: its completion is discarded (R38, R59) -/
  muted : Bool := false
  deriving DecidableEq, Repr

/-- An open transaction (R64, R70). -/
structure Txn where
  mb : Nat
  tag : W32
  rolled : Bool
  entries : List Shadow
  pending : Option Commit
  deriving DecidableEq, Repr

/-- A command that was accepted and runs later (R53). -/
structure Deferred where
  iss : Issuer
  cmd : Instr
  /-- it has begun to run -/
  started : Bool
  /-- the mailbox was reset or closed: its completion is discarded (R38, R59) -/
  muted : Bool
  /-- the beat it was taken, and the beat at which it is due where its rule names one -/
  taken : Nat
  due : Nat
  /-- the bytes or numbers it took with it -/
  data : List Nat
  /-- the final status and results, once what it does has ended -/
  outcome : Option (Nat × List Nat) := none
  deriving DecidableEq, Repr

/-- A move of the BAR2 window that HST_WIN_SET has begun (R44): the new base, and the completion owed. -/
structure WinMove where
  iss : Issuer
  base : Nat
  muted : Bool
  deriving DecidableEq, Repr

/-- What the configuration space of the endpoint holds beside what never changes (R35 to R37). No row of the table writes it:
its defaults are those of an enumerated endpoint (PRESUMED, log entry 57). -/
structure Endpoint where
  /-- PCI Power Management: D3hot, else D0 -/
  d3hot : Bool := false
  /-- MSI-X: enabled, and every vector masked -/
  msixEnable : Bool := true
  msixMask : Bool := false
  /-- PCI Express: Max_Payload_Size and Max_Read_Request_Size in bytes, 10-bit tags, relaxed ordering, no-snoop -/
  maxPayload : Nat := 128
  maxRead : Nat := 512
  tags10 : Bool := false
  relaxed : Bool := true
  noSnoop : Bool := true
  /-- Advanced Error Reporting: the status, mask and severity words of uncorrectable errors, and the status and mask words of
  correctable ones -/
  aerUncorrectable : W32 := 0
  aerUncorrectableMask : W32 := 0x00400000
  aerUncorrectableSeverity : W32 := 0x00462030
  aerCorrectable : W32 := 0
  aerCorrectableMask : W32 := 0xE000
  /-- Lane Margining at the Receiver: the control and status word of each lane -/
  margins : List W32 := List.replicate 8 0x9C38
  /-- the addresses that BAR0 and BAR2 hold -/
  bar0 : W64 := 0
  bar2 : W64 := 0
  deriving DecidableEq, Repr

/-- The host interface (02_sesame): mailboxes, transactions, deferred commands, the endpoint. -/
structure Hst where
  boxes : Tab Mailbox := []
  hello : Option (List W32) := none
  txns : List Txn := []
  deferred : List Deferred := []
  /-- completions held for lack of space (R54) -/
  held : List Completion := []
  /-- the mailbox served last, and the beat in which a descriptor was started last (R479); that the first round begins at MB0
  is a DESIGN CHOICE (log entry 70) -/
  last : Nat := 15
  startedAt : Option Nat := none
  /-- a command of the version 1 mailbox, BUSY with it, waits for its start (R75, R479) -/
  v1Wait : Bool := false
  /-- the words of the version 1 mailbox, from 0x3000 (R75) -/
  v1 : Tab W32 := []
  winBase : Nat := 0
  winMove : Option WinMove := none
  /-- the STATE of MB0 while version 1 closes it (R74) -/
  state0 : Nat := 1
  /-- the snapshots of every path (R41, R42), one word each -/
  snaps : Tab W32 := []
  /-- the LO halves written and held (R41) -/
  heldLo : Tab W32 := []
  /-- the word that the last read over each path returned; the bytes that the last read of BAR2 returned -/
  answers : Tab W64 := []
  bar2Read : List Byte := []
  /-- the words of the MSI-X table; its pending bits; the vectors owed a message (R36, R450) -/
  msix : Tab W32 := []
  msixPend : W64 := 0
  msixOwed : W64 := 0
  /-- the link: none while down, else rate and width (R35); the level of PERST_N -/
  link : Option (Nat × Nat) := none
  perst : Bool := false
  config : Endpoint := { }
  deriving DecidableEq, Repr

/-- The Central Store's allocator (07_streaming): the owner of each block, 0 free, p + 1 pool p. -/
structure Cst where
  owner : Tab Nat := []
  deriving DecidableEq, Repr

/-- The owner of a block at reset: MB0's rings are blocks 0 to 2, and firmware holds 64 blocks in SYS (R207; which ones
is a DESIGN CHOICE, log entry 21). -/
def Cst.ownerReset (b : Nat) : Nat := if b < 3 then 4 else if 8192 ≤ b ∧ b < 8256 then 7 else 0

/-- An armed time alarm (R361); its state is NTU_ALM_STAT.STATE. -/
structure Alarm where
  /-- by time: the next firing time in ns; BEAT_ANCHOR: the next firing beat -/
  next : Nat := 0
  /-- the period, in ns or in beats; 0 for one-shot -/
  period : Nat := 0
  im : Option Nat := none
  trig : Option Nat := none
  /-- the firings, and the LBC of the last -/
  fired : Nat := 0
  last : Nat := 0
  deriving DecidableEq, Repr

/-- The link-delay measurement of a port (R368). -/
structure Delay where
  /-- the last 16 delays measured, newest first, in 2^-16 ns -/
  last : List Int := []
  /-- the beat of the last DREQ, whether one is outstanding, and its transmit time in 2^-16 ns once it has been sent -/
  sentAt : Option Nat := none
  asked : Bool := false
  t1 : Option Int := none
  /-- exchanges since the port became DEGRADED -/
  since : Nat := 0
  deriving DecidableEq, Repr

/-- IEEE 1588 on an Ethernet port (R371). -/
structure PtpPort where
  /-- the best master heard: its data set and its port identity -/
  master : Option (List Nat × Nat) := none
  /-- a Sync whose Follow_Up is awaited: its number, and its receive time less its correction -/
  synced : Option (Nat × Int) := none
  /-- by how much the last Sync was received after its transmit time -/
  behind : Int := 0
  /-- the Delay_Req or Pdelay_Req sent last: its number and transmit time -/
  asked : Option (Nat × Int) := none
  /-- a Pdelay_Resp whose follow-up is awaited: its number, the request's receive time, its own receive time less its correction -/
  answered : Option (Nat × Int × Int) := none
  /-- the mean path or link delay -/
  delay : Int := 0
  /-- the number of the next message begun -/
  seq : Nat := 0
  /-- the messages that firmware has handed to the port, oldest first -/
  out : List PtpMessage := []
  deriving DecidableEq, Repr

/-- Time-of-day and what steers it (14_time). -/
structure Ntu where
  sec : Nat := 0
  ns : Nat := 0
  /-- the fraction of a nanosecond in 2^-32 ns -/
  frac : Nat := 0
  epoch : Nat := 0
  /-- a value written to NTU_INC that takes effect at the next boundary (R356) -/
  inc : Option W64 := none
  /-- what a running slew has still to add, in 2^-32 ns; 0 where none runs (R357) -/
  slew : Int := 0
  /-- the numbers of the TRIG frames of the alarms that fired in the present beat (R362) -/
  trigs : List Nat := []
  /-- a step of the vendor servo that is due at the next boundary: its offset in 2^-16 ns (R368) -/
  servoStep : Option Int := none
  /-- consecutive offsets within 1 ns, and the beat of the last SYNC from upstream -/
  good : Nat := 0
  lastSync : Nat := 0
  /-- the beat of the last SYNC sent on each port -/
  syncAt : Tab (Option Nat) := []
  delays : Tab Delay := []
  alarms : Tab Alarm := []
  /-- the number of the next launch of a timed frame (R365) -/
  launches : Nat := 0
  ptp : Tab PtpPort := []
  /-- Ethernet links that are up -/
  eth : List Bool := [false, false]
  deriving DecidableEq, Repr

/-! ### The pattern engine (03 to 07) -/

/-- A level change of an output that is still to be placed at the balls (R99): DEN or DRV, its requested time A of R98 at
the balls and its time on the vector grid, in fs, and the beat its row was issued. -/
structure Change where
  den : Bool
  level : Bool
  time : Int
  grid : Int
  issued : Nat
  /-- a quiet-state transition, which is never dropped -/
  quiet : Bool
  /-- R99 does not apply: a fixed-edge transition (R95) -/
  exempt : Bool
  /-- its edge path, and the number of its vector -/
  path : Nat
  vec : Nat
  deriving DecidableEq, Repr

/-- A strobe still to be judged (R85): the vector it belongs to, its window and its symbol. -/
structure Strobe where
  thr : Nat
  vec : Nat
  idx : Nat
  sym : Nat
  opens : Int
  closes : Int
  window : Bool
  dropped : Bool
  grid : Int
  issued : Nat
  deriving DecidableEq, Repr

/-- A T window of a pip (R267): its vector and that vector's start and STB_OPEN time, its ends at the balls, the end on the
vector grid, and the beat its row was issued. -/
structure TWin where
  vec : Nat
  start : Nat
  stb : Nat
  opens : Int
  closes : Int
  grid : Int
  issued : Nat
  deriving DecidableEq, Repr

/-- An edge placed on a path of a pip (R99): its time at the balls, its time on the vector grid, in fs, the beat its row was
issued, and the number of its vector. -/
structure Edge where
  time : Int
  grid : Int
  issued : Nat
  vec : Nat
  deriving DecidableEq, Repr

/-- One pip (R81 to R103). -/
structure Pip where
  drv : Bool := false
  den : Bool := false
  queue : List Change := []
  /-- the last edges placed on each of the seven paths, newest first: those that a cut or a release may still take away, and the one
  before them (R26, R99, R103, R192) -/
  lastEdge : List (List Edge) := [[], [], [], [], [], [], []]
  /-- the end of the last strobe window opened, at the balls and on the vector grid (R100) -/
  windowEnd : Option (Int × Int) := none
  /-- the previous resolved symbol of the burst (R117) -/
  prevSym : Option Nat := none
  strobes : List Strobe := []
  /-- the windows of T symbols that have not closed (R267) -/
  tWindows : List TWin := []
  /-- the vector start at which the quiet state is due (R103) -/
  quietAt : Option Int := none
  /-- the cut of an abort or a halt: nothing of the burst's vectors is placed from there on (R26, R103) -/
  cutAt : Option Int := none
  /-- CPH and CPL have raised the event of their present unresolved period (R88) -/
  unresH : Bool := false
  unresL : Bool := false
  deriving DecidableEq, Repr

/-- A vector that has been issued and is not fully judged (R119, R120). -/
structure Vec where
  no : Nat
  start : Nat
  period : Nat
  issued : Nat
  vn : Nat
  /-- a row of a segment: it advances the VN, compares and captures; idle and hold rows do not -/
  counts : Bool
  seg : Nat
  row : Nat
  pass : Nat
  tset : Nat
  fixed : Bool
  dirMask : Nat
  /-- the resolved symbols in site-local order -/
  syms : List Nat
  scheduled : Bool
  /-- CAP has taken its fail bits -/
  taken : Bool
  /-- channels whose compare result is still to come; those that failed; those that read invalid; those compared -/
  todo : List Nat
  fails : List Nat
  invalid : List Nat
  compared : List Nat
  /-- the beat of the last compare result so far -/
  lastBeat : Nat
  /-- the window strobes that have failed before their end: channel, STB_CLOSE on the vector grid, and the beat of STB_CLOSE at the
  balls (R26, R87) -/
  early : List (Nat × Int × Nat) := []
  /-- fail bits on their way to CAP: channel, and the beat of its result (R230) -/
  bitsDue : List (Nat × Nat) := []
  /-- it is counted among the failing vectors -/
  counted : Bool := false
  /-- the site-local channels that carry C, and the channels whose capture sample is still to come (R241) -/
  caps : List Nat := []
  capTodo : List Nat := []
  /-- the acquisition units that have this vector's digital sample, or are not to have it (R241) -/
  given : List Nat := []
  /-- capture samples: channel, and CPH and CPL, none where invalid -/
  samples : List (Nat × Option (Bool × Bool))
  /-- the beat in which each channel's strobe ends (R241) -/
  strobeEnds : List (Nat × Nat) := []
  /-- the site's channels in site-local order, as stage 1 of the output pipe resolved them -/
  chs : List Nat := []
  /-- what stage 2 read: the image of the timing set, and STB_EN and STB_OFS of a fixed-edge vector; what stage 3 summed: the
  drive and compare deskew of each channel (R102); none until then -/
  img : Option (List Byte) := none
  fxStb : Option (Bool × Nat) := none
  dsk : Option (List (Int × Int)) := none
  /-- the calibration offsets in force at its start, by 7 ch + path (R97, R408) -/
  offs : Tab Int := []
  /-- the channels that were in their quiet state at its issue and ignore it (R33) -/
  quiet : List Nat := []
  /-- a hold vector that a release ended early: its edges at or after this time are not placed (R192) -/
  cut : Option Nat := none
  deriving DecidableEq, Repr

inductive ItemKind where
  | play
  | playn
  | wait
  | matchPass
  | join
  | spansync
  | halt
  deriving DecidableEq, Repr

/-- A play-queue item (R144). -/
structure Item where
  id : Nat
  kind : ItemKind
  seg : Nat
  first : Nat
  passes : Nat
  /-- WAIT, JOIN and SPANSYNC: the timeout in units of 1,024 beats; MATCH: the pass limit -/
  limit : Nat
  slot : Nat
  neg : Bool
  code : Nat
  pi : Nat
  marker : Nat
  sof : Option Nat
  timeoutPad : Option Nat
  /-- the beat in which the microword pushed it (R149) -/
  pushed : Nat
  deriving DecidableEq, Repr

/-- A pass through a segment: the latched entry, what of its rows is held, and how far it is issued (R126, R211). -/
structure Pass where
  no : Nat
  item : Nat
  seg : Nat
  entry : List Byte
  row : Nat
  rep : Nat
  passNo : Nat
  linked : Bool
  /-- all its rows are issued -/
  ended : Bool
  /-- the first row has been checked (R127) -/
  checked : Bool
  /-- the row it starts at -/
  first : Nat
  /-- its rows are served from the window, which holds them from an earlier pass (R213) -/
  replay : Bool
  /-- some of its rows were served so, and the rest fetched: its CRC is not checked (R128, R214) -/
  mixed : Bool
  /-- granules of the segment that GDDR6 has answered as uncorrectable: they never come (R320) -/
  gone : List Nat
  /-- the next granule of the segment to request -/
  ask : Nat
  data : Tab (List Byte)
  /-- the CRC over the rows issued so far (R128) -/
  crc : W32
  /-- the next sparse marker entry -/
  mkNext : Nat
  /-- the pad of a recorded AT_END jump; the reason of a halt at its end -/
  atEnd : Option Nat
  stopEnd : Option Nat
  deriving DecidableEq, Repr

/-- An interval of vectors: of a pad that is live, or of an item (R179). The first vector by its number, the beat that issued it
and its start; the last vector issued by its number, the beat that issued it, and the start that follows it. -/
structure Live where
  no : Nat
  beat : Nat
  start : Nat
  last : Option (Nat × Nat × Nat) := none
  deriving DecidableEq, Repr

/-- The vector that a compare happening belongs to: one of this thread by its number, or, of another member of its span, the one
whose result arrived in a beat (R179, R196). -/
inductive Origin where
  | vector (no : Nat)
  | result (beat : Nat)
  deriving DecidableEq, Repr

/-- A landing pad (R175 to R180). -/
structure Pad where
  armed : Bool := false
  /-- the rows that it still delivers to the stream, which took it before it was READY (R178) -/
  feed : List Pass := []
  timeout : Bool := false
  ready : Bool := false
  target : Nat := 0
  slot : Nat := 0
  neg : Bool := false
  atEnd : Bool := false
  cover : Nat := 0
  serial : Nat := 0
  grs : List W32 := []
  ls : List (Nat × Nat) := []
  cs : List Nat := []
  marker : Nat := 0
  sof : Option Nat := none
  /-- the landing item, none for a PLAYN of no pass -/
  landing : Option Item := none
  /-- the rows it holds, and the beat of arming -/
  rows : List Pass := []
  armedAt : Nat := 0
  /-- the interval in which it is live, and the beat of the latest compare result of a vector of it (R179) -/
  live : Option Live := none
  judged : Nat := 0
  /-- the PIs from the target on, 32 at most (R175) -/
  pis : List W64 := []
  deriving DecidableEq, Repr

/-- A happening of a condition slot (R170): slot 16 stands for the site fail summary (R185); `of_` is the vector of a compare
source. -/
structure Hap where
  slot : Nat
  beat : Nat
  of_ : Option Origin
  deriving DecidableEq, Repr

/-- A condition slot's value: the beat since which it is held in STICKY mode, and the vectors of the happenings whose
slot-set beat was `beat` (R172). -/
structure Slot where
  sticky : Option Nat := none
  beat : Option Nat := none
  of_ : List (Option Origin) := []
  deriving DecidableEq, Repr

/-- A halt that is due at the first vector start at or after a beat, its reason, and whether a decision after a branch shadow
brings it (R181, R185). -/
structure Stop where
  beat : Nat
  reason : Nat
  shadowed : Bool
  deriving DecidableEq, Repr

/-- A fetch that a window has asked for: the item and which of its passes, the granule of the segment, and the beat. -/
structure Ask where
  item : Nat
  passNo : Nat
  granule : Nat
  beat : Nat
  deriving DecidableEq, Repr

/-- A thread (R138), with its microcode engine, issue unit and stream window. -/
structure Thread where
  /-- STATE: 0 IDLE, 1 ARMED, 2 RUNNING, 3 WAITING, 4 STALLED, 5 HALTED, 6 ABORTED -/
  st : Nat := 0
  back : Nat := 2
  prog : Nat := 0
  startBeat : Nat := 0
  /-- the beat in which the site was aborted last (R23) -/
  abortedAt : Option Nat := none
  -- the microcode engine
  parked : Bool := true
  pc : Nat := 0
  ir : W64 := 0
  ua : Nat := 0x100
  ubeat : Option Nat := none
  ls : List (Nat × Nat) := []
  cs : List Nat := []
  /-- the instruction buffer: the PC it was last filled at, its PIs by their indexes, and the beat a refill ends (R152) -/
  ibFrom : Nat := 0
  ib : List (Nat × W64) := []
  refill : Option Nat := none
  pendMark : Nat := 0
  pendSof : Option Nat := none
  pendPad : Option Nat := none
  /-- the next identity of an item, and of an armed pad -/
  serial : Nat := 1
  padSerial : Nat := 1
  -- the issue unit
  queue : List Item := []
  pads : Tab Pad := []
  next : Nat := 0
  lastStart : Nat := 0
  lastPeriod : Nat := 0
  issueBeat : Option Nat := none
  vn : Nat := 0
  nextVn : Nat := 0
  sof : Nat := 0
  /-- the head item has begun: its first beat, the number and the start of its first vector, and whether its marker has acted -/
  began : Option Nat := none
  beganNo : Nat := 0
  beganAt : Nat := 0
  marked : Bool := false
  /-- issue is stopped until the abort: by a fault of this beat, or by a row that selects an empty timing set (DESIGN CHOICE, log entry
  100) -/
  blocked : Bool := false
  /-- an abort is due: its beat 1 and the reason for SEQ_THR_END (R25) -/
  abortAt : Option (Nat × Nat) := none
  /-- a halt that is due (R185), and the reason of one due at the end of the pass whose first vector is the next to be issued -/
  stopAt : Option Stop := none
  stopNext : Option Nat := none
  /-- a taken pad and its effect beat (R180); AT_END requests and their effect beats (R183) -/
  taken : Option (Nat × Nat) := none
  atEnds : List (Nat × Nat) := []
  /-- the effect beat at which a WAIT or MATCH ends (R186) -/
  waitEnd : Option Nat := none
  /-- the vector on which the pending decision was made, none where it has none (R181) -/
  shadow : Option Origin := none
  /-- the number of the last vector issued before a landing item was placed, until a JOIN or SPANSYNC is left (R190, R214) -/
  landed : Option Nat := none
  -- conditions
  slots : Tab Slot := []
  haps : List Hap := []
  -- vectors, and the signature of what was issued in the present beat (R190)
  vecNo : Nat := 0
  /-- the number of the last vector of the bursts that are over (R246) -/
  overNo : Nat := 0
  pipe : List Vec := []
  sig : List Nat := []
  -- the stream window (R211 to R216)
  stream : List Pass := []
  flight : List Ask := []
  passNo : Nat := 0
  /-- the passes whose rows are pinned for replay, the latest first (R213) -/
  pinned : List Pass := []
  /-- W, WIN_EXTRA as it stood at the burst start, and the blocks held for the window and the pads (R211, R221) -/
  window : Nat := 0
  winExtra : Nat := 0
  windowBlocks : List Nat := []
  padBlocks : List Nat := []
  pMin : Nat := 0
  rowSize : Nat := 0
  /-- the pad-fill allowance: its ceiling, and the fraction of a byte gained, in parts of P_min (R215) -/
  padTop : Nat := 0
  padFrac : Nat := 0
  locks : List Nat := []
  /-- arrival of this thread's SPANSYNC or JOIN item: the beat it first issued -/
  arrived : Option Nat := none
  deriving DecidableEq, Repr

/-- A loaded sequence program (R167): its PI count, 0 while not loaded, and its SYS blocks. -/
structure Prog where
  count : Nat := 0
  blocks : List Nat := []
  deriving DecidableEq, Repr

/-- A lockstep group while its burst runs (R188 to R193). -/
structure Group where
  /-- the members now, and those of them that are split -/
  members : List Nat := []
  splits : List Nat := []
  /-- the blocks of its windows: of the group stream's first, then of each permitted split's; and which of them each site that
  has not left the burst issues from (R214, R221) -/
  windows : List (List Nat) := []
  users : List (Nat × Nat) := []
  /-- the JOINs of the beat that were met with no member split: PI and vector start (R192) -/
  skips : List (Nat × Nat) := []
  /-- the rows that the group stream has not had at a vector start of the beat: PI, segment, pass, row and vector start (R226) -/
  short : List (List Nat) := []
  deriving DecidableEq, Repr

/-- A COND frame being collected for one burst beat (R335), and what other members sent. -/
structure Cond where
  member : Nat
  beat : Nat
  slots : Nat
  flags : Nat
  pi : Nat
  /-- of this module's own frames: slots and the numbers of the vectors of their compare happenings -/
  nos : List (Nat × Nat) := []
  deriving DecidableEq, Repr

/-- The span's run state on this module (R194 to R199). -/
structure Span where
  /-- the frames collected, one for each burst beat, and not sent yet -/
  out : List Cond := []
  /-- what members, this module included, have sent -/
  heard : List Cond := []
  /-- the local beat at which each other member was last heard -/
  last : List (Nat × Nat) := []
  sentAt : Nat := 0
  /-- the burst beat at which a SPANSYNC of a PI was last over: what was sent for it before belongs to that visit (R198, R199) -/
  left : List (Nat × Nat) := []
  deriving DecidableEq, Repr

/-- A marker action on its way to a ball (R130, R131): thread, number of the vector, beat issued, ball, action, coarse step
at the balls. -/
structure MkAct where
  thr : Nat
  vec : Nat
  issued : Nat
  ball : Nat
  action : Nat
  coarse : Nat
  deriving DecidableEq, Repr

/-- A marker ball: its logical state, and the coarse step at which a pulse ends. -/
structure Mk where
  on : Bool := false
  ends : Option Nat := none
  deriving DecidableEq, Repr

/-- The pattern engine. -/
structure Pattern where
  pips : Tab Pip := []
  /-- the timing sets as their images (R89), by site * 256 + set; empty after reset -/
  tsets : Tab (List Byte) := []
  /-- the Segment Directory (R121) and the marker tables by site * 256 + entry (R129) -/
  dir : Tab (List Byte) := []
  mktab : Tab (List Byte) := []
  marks : Tab Mk := []
  mkActs : List MkAct := []
  /-- internal marker events on their way: line, thread, beat issued, coarse step (R132) -/
  imActs : List (Nat × Nat × Nat × Nat) := []
  /-- internal marker events of the beat that ended: line and coarse step -/
  imNow : List (Nat × Nat) := []
  thr : Tab Thread := []
  progs : Tab Prog := []
  /-- the control stores: the stored word of address a in copy c at 16,384 c + a -/
  ucode : Tab Nat := []
  /-- the thread whose word an injection left good, its P0 being wrong already, and that beat (R445) -/
  spared : Option (Nat × Nat) := none
  groups : Tab Group := []
  /-- the power estimates held: the threads of a burst that have not left it, and its estimate in mW (R427) -/
  bursts : List (List Nat × Nat) := []
  span : Span := { }
  /-- the ranges of GDDR6 whose pages firmware has pinned: the first byte, and the byte after the last (R228) -/
  pins : List (Nat × Nat) := []
  /-- the drops of the present beat: channel, kind (0 ORDER, 1 PULSE, 2 STB) and site (R482) -/
  drops : List (Nat × Nat × Nat) := []
  deriving DecidableEq, Repr

/-- A KelorLink frame waiting in a port, or sent and not acknowledged (R333). -/
structure Sent where
  vc : Nat
  frame : Frame
  /-- the port of arrival of a forwarded frame, 8 for an own frame, and that port's number of the arrival -/
  origin : Nat
  no : Nat
  /-- a timed frame: the number of its launch (R365) -/
  timed : Option Nat := none
  deriving DecidableEq, Repr

/-- A frame that a port accepted and that waits to be consumed: its virtual channel, its number (R337), and the lane of the port that
carried its first word (R331, R343). -/
structure Arrival where
  vc : Nat
  frame : Frame
  no : Nat
  lane : Nat
  deriving DecidableEq, Repr

/-- The word stream that a port sends (R331, R332, R343): the words since the block or marker began, those of the block sent last,
the beat of the last LINK frame, and the version 1 scrambler of lanes 0 to 3 as the block sent last found it. -/
structure WordStream where
  words : List Nat := []
  last : List Nat := []
  linkAt : Nat := 0
  scr : List (BitVec 58) := []
  deriving DecidableEq, Repr

/-- What a 66-bit block of a version 1 lane says (R343): an alignment marker, with the lane and the width that it carries, or the two
words of a data block; none for a block that is neither. -/
inductive RxItem where
  | marker (lane width : Nat)
  | pair (words : Option (Nat × Nat))
  deriving DecidableEq, Repr

/-- A version 1 receive lane (R342, R343): the bits of the block under way, the descrambler, the blocks of the present window of 64 and
those of them with an invalid sync header, block lock lost, and the blocks that the port has not taken yet, oldest first. -/
structure RxLane where
  bits : List Bool := []
  scr : BitVec 58 := 0
  seen : Nat := 0
  bad : Nat := 0
  lost : Bool := false
  fifo : List RxItem := []
  deriving DecidableEq, Repr

/-- The version 1 receiver of a port (R343): its lanes, that they are deskewed on a marker, the data blocks of a lane since the last
marker, and the words of the frame under way, each with the lane that carried it. -/
structure Receiver where
  lanes : Tab RxLane := []
  aligned : Bool := false
  rows : Nat := 0
  words : List (Nat × Option Nat) := []
  deriving DecidableEq, Repr

/-- A KelorLink port (13_kelorlink) beside its registers. -/
structure Port where
  /-- the VC queues, in order of queueing -/
  queue : List Sent := []
  /-- the retry buffer: frames sent and not acknowledged, in order; and those of them that a replay has still to send -/
  retry : List Sent := []
  replay : List Sent := []
  /-- the SEQ of the next frame sent; the SEQ last accepted; the last ACK_SEQ of the partner and the beat it advanced -/
  seq : Nat := 0
  ack : Nat := 4095
  acked : Nat := 4095
  ackedAt : Nat := 0
  /-- consecutive replays without an advance; the ACK_SEQ of the last NAK acted on; an injected frame is among them -/
  replays : Nat := 0
  naked : Option Nat := none
  injected : Bool := false
  /-- NAK is to be set in the next LINK frame; version 1: REFUSE; the beat of a REFUSE received -/
  nak : Bool := false
  refuse : Bool := false
  refusedAt : Option Nat := none
  /-- version 1: frame boundaries are lost until the next marker (R343) -/
  lost : Bool := false
  /-- sender credits, receive buffers that hold frames, RET counters, the partner's last RET counters, and the advertised
  totals in force, each for VC0 to VC3 (R340) -/
  credits : List Nat := [0, 0, 0, 0]
  held : List Nat := [0, 0, 0, 0]
  ret : List Nat := [0, 0, 0, 0]
  retSeen : List Nat := [0, 0, 0, 0]
  total : List Nat := [0, 0, 0, 0]
  /-- frames accepted and not consumed, oldest first, and the number of the next arrival -/
  inbox : List Arrival := []
  arrivals : Nat := 0
  /-- the port's FABRIC blocks -/
  blocks : List Nat := []
  /-- the session number, where it is no longer the random one of reset (R345, `Klk.seed`); the partner's module ID and session
  number and the own session number agreed last; a fresh start is asked for -/
  session : Option Nat := none
  agreed : Option (Nat × Nat × Nat) := none
  fresh : Bool := false
  /-- training: the final rate has been chosen, the lanes in use, the beat the state was entered -/
  fast : Bool := false
  set : Nat := 0
  since : Nat := 0
  /-- the beats of the frames dropped in the last 1 ms, and the beat the drop was last reported (R349) -/
  drops : List Nat := []
  dropsAt : Option Nat := none
  /-- KLK_MOD_ID as the port's last NEGOTIATE found it (R354) -/
  id : W32 := 0
  /-- the word stream sent, and the version 1 receiver -/
  out : WordStream := {}
  rx : Receiver := {}
  /-- receiving: consecutive missing or misplaced commas or alignment markers of each lane, and the block errors as (lane, beat) (R330, R347) -/
  missed : List Nat := [0, 0, 0, 0]
  errors : List (Nat × Nat) := []
  /-- a width change: the beat it began, the lanes before it and those lost in it (R347) -/
  changeAt : Option Nat := none
  before : Nat := 0
  gone : Nat := 0
  deriving DecidableEq, Repr

/-- A lane under PRBS test (R352). -/
structure Lane where
  on : Bool := false
  pattern : Nat := 0
  rate : Nat := 0
  loop : Bool := false
  /-- the generator, its bit count, and injection: one bit asked for, or an exponent -/
  gen : W32 := 0x7FFFFFFF
  count : Nat := 0
  once : Bool := false
  exp : Nat := 0
  /-- the checker: the bits held, how many, and the consecutive error-free bits; the first error has been seen -/
  sr : W32 := 0
  have_ : Nat := 0
  good : Nat := 0
  seen : Bool := false
  deriving DecidableEq, Repr

/-- KelorLink. -/
structure Klk where
  /-- the draw of the random session number that port 0 had at reset; those of the other ports follow it (R345) -/
  seed : Nat := 0
  ports : Tab Port := []
  lanes : Tab Lane := []
  deriving DecidableEq, Repr

/-- One step of a store write (R413, R464): a block erased, a page programmed, the read-back, the slot entering force, or
the shutdown log counted anew. -/
inductive StoreOp where
  | erase
  | program
  | verify
  | inForce
  | recount
  deriving DecidableEq, Repr

/-- A step of a store write: the set, profile (0x21 to 0x23) or firmware slot (0x100, 0x101) it belongs to, its address,
and what it programs. -/
structure StoreStep where
  op : StoreOp
  id : Nat
  addr : Nat
  data : List Byte
  deriving DecidableEq, Repr

/-- A store write that is running (R417): its command, the steps left, whether anything has been written, its results. -/
structure StoreJob where
  cmd : Instr
  steps : List StoreStep
  written : Bool
  res : List Nat
  deriving DecidableEq, Repr

/-- What one instance of a run measured, kept until it is applied: pod, controller (64 and up) or REF (128). -/
structure Finished where
  inst : Nat
  measured : List Measured
  deriving DecidableEq, Repr

/-- A live set as it stood: its bytes that are not nominal, by their places in `Cal.live`, its valid temperature sets, and DIRTY. -/
structure SetCopy where
  id : Nat
  cells : Tab Byte
  validT : Nat
  dirty : Bool
  deriving DecidableEq, Repr

/-- A calibration run of scope POD, DEVICE or SUP (R401 to R409). -/
structure Run where
  scope : Nat
  /-- SET j, none for TRIM -/
  setTo : Option Nat
  store : Bool
  /-- the steps left, by the order of R401 (0 REF to 7 SUP), with their pod or controller; the beat the first began -/
  steps : List (Nat × Nat)
  stepAt : Nat
  passed : Nat
  failed : Nat
  /-- what the present instance measured -/
  acc : List Measured
  /-- the sets of its instances, and the temperatures of the pods at its start -/
  ids : List Nat
  temps : List (Option Int)
  /-- finished instances of a SET run; the pods' sets as they were before a TRIM run changed them -/
  finished : List Finished
  saved : List SetCopy
  skipped : Bool
  /-- the ADC step has begun -/
  adcOn : Bool
  /-- pods whose PLL lost lock during the run -/
  lost : List Nat
  changed : List Nat
  deriving DecidableEq, Repr

/-- Calibration (16_calibration). -/
structure Cal where
  /-- the offset in force of each timing path in fs, by 7 ch + path (R97, R407) -/
  offs : Tab Int := []
  /-- the bodies of the live sets (R411): byte o of set i at 0x40000 i + o; the factory copies that boot found invalid -/
  live : Tab Byte := []
  factoryBad : BitVec 19 := 0
  /-- in force: the other quantities of a pip record by 8,192 ch + byte offset, the trims of a controller by 8 c + j, the
  reference correction (R407, R408); the beat of the last update -/
  force : Tab Int := []
  supForce : Tab Int := []
  refForce : Int := 0
  updated : Option Nat := none
  run : Option Run := none
  /-- ADC0's input 39 is switched from analogue ground to CAL_VREF_SNS (R400) -/
  vrefSwitch : Bool := false
  /-- a recovery run waits for the supplies (R406) -/
  recal : Bool := false
  /-- the store write that runs; the blocks whose erase was abandoned (R416); the sets that a run changed since it was
  taken (R418) -/
  store : Option StoreJob := none
  abandoned : List Nat := []
  touched : List Nat := []
  deriving DecidableEq, Repr

/-- The fail record that CAP holds open for a site (R235). -/
structure OpenRec where
  vn : Nat
  seg : Nat
  row : Nat
  pass : Nat
  run : Nat
  fails : List Nat
  invalid : Bool
  gap : Bool
  /-- the site's channel count -/
  width : Nat
  /-- the beat of the last merge -/
  last : Nat
  deriving DecidableEq, Repr

/-- A staged record: its bytes not yet written, its failing vectors, where its bytes lie in the burst's record stream, and
whether a part of it has been written. -/
structure Staged where
  bytes : List Byte
  vecs : Nat
  at_ : Nat
  begun : Bool := false
  deriving DecidableEq, Repr

/-- A site's fail log (R235 to R240). -/
structure FailLog where
  record : Option OpenRec := none
  /-- the records staged and not yet written to GDDR6, and all the record bytes of the burst -/
  staged : List Staged := []
  total : Nat := 0
  gap : Bool := false
  logged : Nat := 0
  /-- the channels whose first fail of the burst has been seen, and the number of the first failing vector so far -/
  seen : List Nat := []
  firstNo : Option Nat := none
  /-- the records of the burst are not all written yet (R240) -/
  unflushed : Bool := false
  /-- a granule of it was lost on its way to GDDR6: the log is void (R320) -/
  void : Bool := false
  /-- the four staging blocks that firmware holds (R239) -/
  blocks : List Nat := []
  deriving DecidableEq, Repr

/-- A sample on its way to an acquisition unit, which it reaches in beat `reach`, or held by it. -/
structure Sample where
  value : Int
  reach : Nat
  /-- its sample time in fs, its VN, the spacing of its stream, and whether its sequence has at most 4 entries (R249) -/
  time : Nat
  vn : Nat
  spacing : Nat
  short : Bool
  deriving DecidableEq, Repr

/-- A slot of an acquisition unit (R257). -/
structure AqSlot where
  /-- samples written since the slot began; the trigger sample among them -/
  n : Nat := 0
  trig : Option Nat := none
  frac : Nat := 0
  /-- the slot index that TRIG_IDX names is that of x0 (R249); samples valid at the end -/
  samples : Nat := 0
  forced : Bool := false
  interp : Bool := false
  maskFail : Bool := false
  short : Bool := false
  poison : Bool := false
  ignored : Nat := 0
  maskBin : Option Nat := none
  lbc : Nat := 0
  vn : Nat := 0
  complete : Bool := false
  deriving DecidableEq, Repr

/-- An acquisition unit (R242 to R255). -/
structure Aq where
  /-- STATE: 0 IDLE, 1 FILL, 2 READY, 3 POST, 4 HOLDOFF, 5 DONE, 6 FROZEN -/
  st : Nat := 0
  slot : Nat := 0
  slots : Tab AqSlot := []
  blocks : List Nat := []
  /-- samples that have reached the unit and are not taken yet, oldest first -/
  input : List Sample := []
  /-- the samples of the current slot, newest first, without their values -/
  held : List Sample := []
  /-- trigger times that wait for their trigger sample -/
  trigs : List Nat := []
  /-- the sums of averaging: how many inputs, and their sum (R253) -/
  avgN : Nat := 0
  avgSum : Int := 0
  /-- the stream has been beyond the hysteresis since the last crossing; the value and the sample time of its last sample (R249) -/
  levelArmed : Bool := false
  prev : Option (Int × Nat) := none
  /-- the sample time of the sample before those held, and the beat in which the last one was written (R248, R251) -/
  before : Option Nat := none
  written : Nat := 0
  /-- the beat hold-off began, the triggers counted in it, the beat READY was entered, a forced trigger waits -/
  since : Nat := 0
  holdCount : Nat := 0
  readySince : Nat := 0
  forceNext : Bool := false
  /-- the mask bounds: lower in the low half, upper in the high half (R258) -/
  mask : Tab W64 := []
  deriving DecidableEq, Repr

/-- Capture, acquisition and triggers (08_capture). -/
structure Capture where
  logs : Tab FailLog := []
  units : Tab Aq := []
  /-- the trigger outputs, and pulses that have yet to begin: output and coarse step -/
  tos : Tab Mk := []
  toActs : List (Nat × Nat) := []
  /-- fail-log writes: the bytes of the shared rate not used yet, and the site served last (R239) -/
  credit : Nat := 0
  served : Nat := 31
  /-- the levels of the TI balls -/
  ti : List Bool := List.replicate 16 false
  deriving DecidableEq, Repr

/-- A timestamp in a TDC's buffer (R265): its time in LSB and polarity, the T window it lies in, whether it comes from
the CH_CH reference channel, whether pairing restarts at it, and in FREQ mode the edges of the gate it closes. -/
structure Stamp where
  time : Int
  rising : Bool
  win : Option TWin := none
  stop : Bool := false
  fresh : Bool := false
  edges : Nat := 0
  deriving DecidableEq, Repr

/-- A channel's TDC (09_tdc). -/
structure Tdc where
  /-- the start beat of a TIA_START (R269) -/
  startAt : Option Nat := none
  /-- the start beat of the present run, and whether it has ended and waits for its statistics (R270) -/
  began : Nat := 0
  ended : Bool := false
  /-- the edge detector: its accepted level, none while it has yet to see one (R260, R262), and the end of its dead time with
  the level then set (R263) -/
  level : Option Bool := none
  hold : Option (Nat × Bool) := none
  buffer : List Stamp := []
  /-- a loss has been reported since the buffer was last empty; the next timestamp restarts pairing (R265) -/
  lossSeen : Bool := false
  breakNext : Bool := false
  /-- the measurement stage: the open start, the starts and stops of CH_CH without their mates, and the beat of its last
  timestamp -/
  start : Option Stamp := none
  halves : List Stamp := []
  lastMeasure : Option Nat := none
  /-- FREQ: the first beat of the gate under CONT; the gates in progress, each with its window's vector (under CONT its first beat), its
  edges, and the first and the last of them -/
  gate : Nat := 0
  gates : List (Nat × Nat × Int × Int) := []
  /-- the window that made the last value, and the statistics as they stood before its first (R267) -/
  undo : Option (Nat × List W32) := none
  /-- the windows that have used an edge: by vector, as a start and as a stop -/
  usedStart : List Nat := []
  usedStop : List Nat := []
  deriving DecidableEq, Repr

/-- A result of a converter that is not written yet: its entry, value, CLIP, K, and the instant of its last conversion
(R279, R284). -/
structure AdcOut where
  entry : Nat
  value : Int
  clip : Bool
  k : Nat
  last : Nat
  deriving DecidableEq, Repr

/-- An analogue converter (10_adc); its state is ADC_STAT.STATE. -/
structure Adc where
  /-- triggers of the configured source or of ADC_TRIG on their way: the beat at which each is taken, and its source -/
  trigs : List (Nat × Nat) := []
  /-- the instant from which the present stretch counts, its entry and its next conversion (R282, R283) -/
  base : Nat := 0
  entry : Nat := 0
  conv : Nat := 0
  /-- the sums of the results in progress, and the entries of which a conversion clipped -/
  sums : Tab Int := []
  clips : List Nat := []
  out : List AdcOut := []
  /-- the end instant of a pass whose conversions are all done -/
  ends : Option Nat := none
  /-- ADC_STOP END_OF_PASS is in effect -/
  stopping : Bool := false
  /-- a trigger was dropped, and a result clipped, since ADC_ARM -/
  dropSeen : Bool := false
  clipSeen : Bool := false
  /-- the beat at which the procedure of a BUSY converter ends, and the converter's state before it -/
  busyTill : Nat := 0
  was : Nat := 0
  deriving DecidableEq, Repr

/-- A site supply controller (11_supplies); its state, latches and command in force are in its registers. -/
structure Sup where
  /-- VSET_ACT; it waits for the first loop sample after OFF (R306) -/
  act : Nat := 0
  fresh : Bool := false
  /-- the beat of the last soft-start step; the beat VSET_ACT reached 0; the beat EN last rose -/
  stepAt : Nat := 0
  zeroAt : Option Nat := none
  enAt : Option Nat := none
  /-- the monitors that are blanked; the comparators whose input reads tripped; the latches that a clear of a comparator still
  tripped sets again in the next beat; the comparator ended the present period with the command at ILIM (R303 to R305) -/
  blank : Nat := 0
  tripped : Nat := 0
  again : Nat := 0
  limited : Bool := false
  /-- the compensator: u, e[k-1] and e[k-2] (R302) -/
  u : Int := 0
  e1 : Int := 0
  e2 : Int := 0
  /-- the PWM output, and the beat of the present period's start -/
  pwm : Bool := false
  period : Option Nat := none
  /-- monitors that tripped in the present period, and latches that a period in which they tripped released (R304) -/
  cur : Nat := 0
  prev : Nat := 0
  /-- the monitors that tripped in the beat `tripBeat` -/
  tripBeat : Nat := 0
  trips : Nat := 0
  /-- the thermal shutdown takes SS_DIV as 1 (R430) -/
  fast : Bool := false
  deriving DecidableEq, Repr

/-- How a GDDR6 access was answered: with data, poisoned (R320, R323), written, lost on its way (R320), or by the address-map
fault of an address outside the backed range (R3). -/
inductive MemAnswer where
  | data (l : List Byte)
  | poisoned
  | written
  | failed
  | mapFault
  deriving DecidableEq, Repr

/-- A request at a GDDR6 controller (R315): its class and granule, the bytes that a write selects, how many attempts mismatch,
the bytes that a read is to return, and whether a read has promoted this write. -/
structure MemReq where
  cls : MemClass
  granule : Nat
  write : Option (List (Option Byte))
  mismatches : Nat
  data : List Byte
  promoted : Bool
  deriving DecidableEq, Repr

/-- The times, in fifths of a beat, from which a channel owes capture writes and host traffic their next access (R223). -/
structure Owed where
  capture : Nat := 0
  host : Nat := 0
  deriving DecidableEq, Repr

/-- A GDDR6 controller (12_gddr6) beside its registers. -/
structure Ctl where
  /-- the LFSR of neighbour refresh (R317); 0 stands for its reset seed, which the LFSR itself never holds -/
  lfsr : W32 := 0
  /-- neighbour refreshes scheduled and not performed: channel, bank, the row to refresh, beat -/
  nr : List (Nat × Nat × Nat × Nat) := []
  /-- requests not yet performed, in their order of arrival, at most 64 of them writes; the producers held at their ports with
  a write (R315) -/
  queue : List MemReq := []
  held : List MemReq := []
  /-- the beat from which channel A and channel B may take their next activate (R314) -/
  freeA : Nat := 0
  freeB : Nat := 0
  /-- what each channel owes the classes that have a rate (R223) -/
  owedA : Owed := { }
  owedB : Owed := { }
  /-- the repeats of the present 1 ms window, those of them that an injection caused, and the beat that window began (R319, R446) -/
  edc : Nat := 0
  edcInjected : Nat := 0
  window : Nat := 0
  /-- a read retraining is scheduled -/
  retrain : Bool := false
  /-- the beat of the last temperature readout; whether each device is to be refreshed at the doubled rate (R316) -/
  readAt : Option Nat := none
  wantA : Bool := false
  wantB : Bool := false
  deriving DecidableEq, Repr

/-- The measuring units beside the pattern engine, and the supplies they watch. -/
structure Meas where
  tdcs : Tab Tdc := []
  adcs : Tab Adc := []
  sups : Tab Sup := []
  /-- the GDDR6 controllers; a device in service has been lost since reset (R323) -/
  ctls : Tab Ctl := []
  lost : Bool := false
  /-- the granule answered last, and how -/
  answer : Option (Nat × MemAnswer) := none
  deriving DecidableEq, Repr

/-! ### Hazel, Sprout and DMA (15_hazel) -/

/-- An entry of Sprout's completion queue (R384). -/
structure Entry where
  thread : Nat
  kind : Nat
  flags : Nat
  source : Nat
  count : Nat
  tag : Nat
  lbc : Nat := 0
  deriving DecidableEq, Repr

/-- A Sprout thread beside its registers: its completion ring (R380, R388), the BLOCKED count that its register shows up
to 15 (R395), and the beat it became READY (R382). -/
structure Sprout where
  /-- its last POST was refused (R387) -/
  refused : Bool := false
  ringVa : Nat := 0
  ringLen : Nat := 0
  /-- the ring place of the next entry, and the entries that the thread has not taken -/
  next : Nat := 0
  fill : Nat := 0
  overflowed : Bool := false
  blocked : Nat := 0
  since : Nat := 0
  deriving DecidableEq, Repr

/-- A DMA descriptor as its engine took it (R393). -/
structure Desc where
  op : Nat
  flags : Nat
  thread : Nat
  tag : Nat
  src : Nat
  dst : Nat
  len : Nat
  deriving DecidableEq, Repr

/-- A DMA queue (R392 to R395): its indices, its started descriptor with the bytes moved, and whether a fault stopped it. -/
structure DmaQ where
  head : Nat := 0
  tail : Nat := 0
  cur : Option Desc := none
  prog : Nat := 0
  faulted : Bool := false
  deriving DecidableEq, Repr

/-- A transfer of MGT_DMA_HOST (R389). -/
structure Job where
  iss : Issuer
  bus : Nat
  phys : Nat
  len : Nat
  toHost : Bool
  moved : Nat
  deriving DecidableEq, Repr

/-- A DMA engine: its queues, the one in service (4 for a transfer of MGT_DMA_HOST), the SEND whose frame is queued, the
completions that the full completion queue holds up, and the beat of the next try of a refused one. -/
structure Engine where
  queues : Tab DmaQ := []
  serving : Option Nat := none
  sent : Bool := false
  owed : List Entry := []
  retryAt : Option Nat := none
  jobs : List Job := []
  deriving DecidableEq, Repr

/-- A DATA frame that a receive queue holds in place (R398): the port, VC and buffers it occupies, and the Central Store
offset of its header. -/
structure RxFrame where
  port : Nat
  vc : Nat
  buffers : Nat
  tag : Nat
  deriving DecidableEq, Repr

/-- A receive queue: frames delivered and not released, frames whose completion is held up, and the beat of the next try. -/
structure RxQ where
  frames : List RxFrame := []
  wait : List RxFrame := []
  retryAt : Option Nat := none
  deriving DecidableEq, Repr

/-- An applet's grant, by its core (R379); none where `count` is 0. -/
structure Grant where
  first : Nat := 0
  count : Nat := 0
  engines : Nat := 0
  queues : Nat := 0
  sites : W32 := 0
  quota : Nat := 0
  entry : Nat := 0
  deriving DecidableEq, Repr

/-- A cached translation (R391): a page of one address space, its physical address and its attribute bits [6:0]. -/
structure Trans where
  asid : Nat
  va : Nat
  size : Nat
  pa : Nat
  attr : Nat
  deriving DecidableEq, Repr

/-- The cores, Sprout, the address-map unit and the DMA engines. -/
structure Mgt where
  queue : List Entry := []
  /-- occurrences held at their event source, with their threads (R387) -/
  heldEvents : List (Nat × Nat) := []
  /-- POST operations that wait, with the posting thread -/
  posts : List (Nat × Entry) := []
  /-- the threads in FLOW_WAIT in order of arrival (R383) -/
  flowQ : List Nat := []
  threads : Tab Sprout := []
  /-- the cores to which a switch request is raised (R382) -/
  switches : List Nat := []
  /-- the beat of the last delivery -/
  delivered : Option Nat := none
  engines : Tab Engine := []
  rx : Tab RxQ := []
  grants : Tab Grant := []
  /-- the beat each core's watchdog was restarted; the model's key of each trapped core's register state -/
  dogs : Tab Nat := []
  dumps : Tab Nat := []
  cache : List Trans := []
  /-- the runs of GDDR6 that firmware uses for the tables and the pages of an address space: its ASID, where it begins and ends (R378,
  R389) -/
  used : List (Nat × Nat × Nat) := []
  /-- the last answer of the register service to each applet: status and value (R379) -/
  answers : Tab (Nat × Nat) := []
  /-- the applets' requests to that service that wait for READY, oldest first (R377) -/
  requests : List Instr := []
  deriving DecidableEq, Repr

/-! ### Temperature and power (17_thermal) -/

/-- A sensor's judgement in progress (R421): conversions in a row in which it disagreed, its last raw count and the
conversions in a row in which that count stood; conversions in a row at 125 °C or more. -/
structure Sensor where
  off : Nat := 0
  raw : Option Nat := none
  same : Nat := 0
  hot : Nat := 0
  deriving DecidableEq, Repr

/-- The factory two-point factors of a sensor (R420): counts of a window and temperatures in °C. The default is a DESIGN
CHOICE (log entry 32): the manual gives none. -/
structure Factors where
  f1 : Int := 40000
  t1 : Int := 0
  f2 : Int := 40400
  t2 : Int := 100
  deriving DecidableEq, Repr

/-- THM beside its registers. -/
structure Thm where
  sensors : Tab Sensor := []
  /-- the estimates of the four deferrable classes at the last conversion, in mW (R428) -/
  estimates : List Nat := []
  /-- the beats of the last conversion and of the last increase of THR -/
  lastConv : Option Nat := none
  raisedAt : Option Nat := none
  /-- the beat of the last throttle tick -/
  lastTick : Option Nat := none
  /-- shutdown (R430): under way, with the record that is to be programmed; the shutdown latch, which holds THERM_N low
  and PWROFF_REQ high -/
  shutdown : Option (List Byte) := none
  latch : Bool := false
  deriving DecidableEq, Repr

/-- The state of the block. -/
structure State where
  beat : Beat := { }
  /-- the register file: a word per key (`regKey`), an unlisted word at its reset value -/
  regs : Tab W32 := []
  /-- GDDR6 and the Central Store by internal address -/
  ram : Tab Byte := []
  /-- the non-volatile store -/
  nor : Tab Byte := []
  /-- the bytes that the module wrote to host memory, by bus address -/
  hostMem : Tab Byte := []
  hsk : Hsk := { }
  hst : Hst := { }
  cst : Cst := { }
  ntu : Ntu := { }
  seq : Pattern := { }
  klk : Klk := { }
  cal : Cal := { }
  cap : Capture := { }
  meas : Meas := { }
  mgt : Mgt := { }
  thm : Thm := { }
  /-- MODEL's own: the number of free values drawn -/
  free : Nat := 0
  /-- the commands that wait, first in, first out -/
  pending : List Instr := []
  deriving DecidableEq, Repr

/-- The block right after reset: PORST_N low, every register at its reset value, nothing waiting. -/
def State.reset : State := { }

end Sys2Proof.Machine
end

