-- ==== Sys2Proof/Machine/Regs.lean ====
section
/-! DEFINITION. The one way to the register file and to the memories: words, named fields, 64-bit values, the bytes of
GDDR6 and the Central Store, the non-volatile store and host memory. -/

namespace Sys2Proof.Machine

/-- The key of a register word in the register file; different words have different keys. -/
def regKey (st : Stem) (i w : Nat) : Nat := (i * 256 + st.ctorIdx) * 4 + w % 4

/-- The reset value behind a key (R9: the reset column of the register tables). -/
def regReset (k : Nat) : W32 :=
  match Stem.all[k / 4 % 256]? with
  | some st => BitVec.ofNat 32 (st.word (k / 1024) (k % 4)).reset
  | none => 0

/-- Word `w` of instance `i` of a register. -/
def State.reg (s : State) (st : Stem) (i : Nat) (w : Nat := 0) : W32 := s.regs.get regReset (regKey st i w)

/-- The register word set. -/
def State.setReg (st : Stem) (i w : Nat) (v : W32) (s : State) : State :=
  { s with regs := s.regs.set regReset (regKey st i w) v }

/-- A field of instance `i`. -/
def State.fieldOf (s : State) (f : Field) (i : Nat) : Nat := bits (s.reg f.stem i f.word) f.hi f.lo

/-- Class `j` (0 to 3) of deferrable work is deferred (R428). -/
def State.classDeferred (s : State) (j : Nat) : Bool := (s.fieldOf THM_PLIM_STAT_DEFER 0).testBit j

/-- A one-bit field of instance `i`. -/
def State.bitOf (s : State) (f : Field) (i : Nat) : Bool := (s.reg f.stem i f.word).getLsbD f.lo

/-- A field of instance `i` set, the other bits of its word kept. -/
def State.putField (f : Field) (i v : Nat) (s : State) : State :=
  s.setReg f.stem i f.word (setBits (s.reg f.stem i f.word) f.hi f.lo v)

/-- A one-bit field set or cleared. -/
def State.putBit (f : Field) (i : Nat) (b : Bool) (s : State) : State := s.putField f i (if b then 1 else 0)

/-- A field that counts up and stays at its largest value. -/
def State.countUp (f : Field) (i n : Nat) (s : State) : State :=
  s.putField f i (satAdd (f.hi + 1 - f.lo) (s.fieldOf f i) n)

/-- A 64-bit value held as LO and HI words (R41). -/
def State.reg64 (s : State) (st : Stem) (i : Nat) : W64 := join64 (s.reg st i 0) (s.reg st i 1)

/-- A 64-bit value set. -/
def State.setReg64 (st : Stem) (i : Nat) (v : W64) (s : State) : State :=
  (s.setReg st i 0 (lo32 v)).setReg st i 1 (hi32 v)

/-- What an unlisted byte of GDDR6 or the Central Store reads as (DESIGN CHOICE, log entry 3: the manual calls the contents
after reset undefined). -/
def ramDefault (_ : Nat) : Byte := 0

/-- A byte of the nominal body of a set, at 0x40000 times the set plus its offset: zero offsets and trims, identity
linearisation, nominal bin widths (R411, R414). -/
def liveDefault (k : Nat) : Byte :=
  let r := k % 0x40000 % 33056 % 4132
  if 16 ≤ k / 0x40000 then 0
  else if r < 3612 then (let w := r % 516; if w < 4 then 0 else BitVec.ofNat 8 (4 * ((w - 4) / 2) / 256 ^ (w % 2)))
  else if 3616 ≤ r ∧ r < 4128 ∧ r % 2 = 1 then 1 else 0

/-- The store address of the factory copy of a set (DESIGN CHOICE, log entry 19: the manual places it in the factory area). -/
def factoryBase (i : Nat) : Nat := if i < 16 then 0x100000 + i * 0x30000 else 0xD0000 + (i - 16) * 0x10000

/-- The stems that a profile holds (R27, R71, R295, R348, R424; log entry 45). -/
def profileStems : List Stem := List.flatten
  [[.TMG_CH_CFG, .TMG_SITE_CFG, .ADC_CFG, .ADC_SEQ, .SUP_GLB_CFG, .SUP_CFG, .SUP_VSET, .SUP_COMP_A, .SUP_COMP_B, .SUP_THR_V, .SUP_THR_I],
   [.SUP_MON_CFG, .KLK_MOD_ID, .KLK_PORT_CFG, .KLK_VC_CFG, .KLK_ROUTE, .NTU_ROLE, .NTU_PTP_CFG, .THM_PLIM_CFG, .HSK_EVT_ROUTE]]

/-- The value of a register in profile P0: the reset value, with every KelorLink port enabled, so that it negotiates by itself
(R71, R344; DEDUCED, log entry 45). -/
def p0Value (st : Stem) (i : Nat) : W32 := if st = .KLK_PORT_CFG then 0xC0000000 else BitVec.ofNat 32 (st.word i 0).reset

/-- The places in the factory area of the store of the identity word, the serial number, the two-point factors of a sensor and the
word that P0 gives a register (DESIGN CHOICE, log entry 19). -/
def identityAt : Nat := 0
def serialAt : Nat := 8
def factorsAt (i : Nat) : Nat := 0x20000 + 16 * i
def p0At (st : Stem) (i : Nat) : Nat := 0x40000 + 0x4000 * profileStems.idxOf st + 4 * i

/-- The factory area below the copies of the sets: the identity and the serial number, the factors of the sensors, and P0 (R410). -/
def factoryDefault (a : Nat) : Byte :=
  if a < 4 then BitVec.ofNat 8 ((Stem.word .HST_ID 0 0).reset / 256 ^ a)
  else if 8 ≤ a ∧ a < 16 then (leBytes 8 Config.serialNumber.toNat).getD (a - 8) 0
  else if 0x20000 ≤ a ∧ a < 0x20300 then
    let f : Factors := { }
    (([f.f1, f.t1, f.f2, f.t2].flatMap (fun v => leBytes 4 (twos 32 v))).getD (a % 16) 0)
  else if 0x40000 ≤ a ∧ a < 0x90000 then
    match profileStems[(a - 0x40000) / 0x4000]? with
    | some st => BitVec.ofNat 8 ((p0Value st (a % 0x4000 / 4)).toNat / 256 ^ (a % 4))
    | none => 0xFF
  else 0xFF

/-- What an unlisted byte of the non-volatile store holds: the factory area's contents, with the nominal body in the factory copies
of the sets (DESIGN CHOICE, log entry 19), and elsewhere erased. -/
def norDefault (a : Nat) : Byte :=
  if a < 0xD0000 then factoryDefault a
  else if 0x100000 ≤ a ∧ a < 0x400000 then liveDefault ((a - 0x100000) / 0x30000 * 0x40000 + (a - 0x100000) % 0x30000)
  else if 0xD0000 ≤ a ∧ a < 0x100000 then 0
  else 0xFF

/-- What an unlisted byte of host memory holds: the module has not written it. -/
def hostDefault (_ : Nat) : Byte := 0

/-- The canonical form of a byte memory. -/
def Memory.wf (d : Nat → Byte) (t : Tab Byte) : Bool := t.wf d

/-- One state change after another for each item of a list, in its order. -/
def each {α : Type} (l : List α) (f : α → State → State) (s : State) : State := l.foldl (fun t x => f x t) s

/-- The controllers of the interleave in ascending order, L (R313). -/
def State.interleave (s : State) : List Nat := (List.range 16).filter (fun m => (s.reg .MEM_IL 0).getLsbD (16 + m))

/-- The address lies in a granule of a LOST controller (R313, R323). -/
def State.lostAt (s : State) (a : Nat) : Bool :=
  let l := s.interleave
  s.meas.lost && decide (a < 0x4000000000) && s.fieldOf MEM_CTL_STAT_STATE (l.getD (a / 128 % l.length) 0) == 3

/-- `n` bytes at an internal address; those of a LOST controller read poisoned (R323). -/
def State.mem (s : State) (a n : Nat) : List Byte :=
  if s.meas.lost then (List.range n).map (fun i => if s.lostAt (a + i) then Config.poisonByte (a + i) else s.ram.get ramDefault (a + i))
  else s.ram.getList ramDefault a n

/-- Bytes written from an internal address on; those for a LOST controller are dropped (R323). -/
def State.setMem (a : Nat) (l : List Byte) (s : State) : State :=
  if s.meas.lost then each l.zipIdx (fun p t => if t.lostAt (a + p.2) then t else { t with ram := t.ram.set ramDefault (a + p.2) p.1 }) s
  else { s with ram := s.ram.setList ramDefault a l }

/-- The little-endian field of `n` bytes at an internal address (R7). -/
def State.memNat (s : State) (a n : Nat) : Nat := ofLE (s.mem a n)

/-- `n` bytes of the non-volatile store. -/
def State.norBytes (s : State) (a n : Nat) : List Byte := s.nor.getList norDefault a n

/-- Bytes programmed into the non-volatile store. -/
def State.setNor (a : Nat) (l : List Byte) (s : State) : State := { s with nor := s.nor.setList norDefault a l }

/-- The store erased from `a` to below `e`. -/
def State.eraseNor (a e : Nat) (s : State) : State := { s with nor := s.nor.clear a e }

/-- Bytes written to host memory. -/
def State.setHost (a : Nat) (l : List Byte) (s : State) : State := { s with hostMem := s.hostMem.setList hostDefault a l }

/-- The next value the manual leaves open, and the state after the draw. -/
def State.draw (s : State) : W64 × State := (Config.freeValue s.free, { s with free := s.free + 1 })

/-- Husk's own state changed. -/
def State.withHsk (f : Hsk → Hsk) (s : State) : State := { s with hsk := f s.hsk }
/-- The host interface's state changed. -/
def State.withHst (f : Hst → Hst) (s : State) : State := { s with hst := f s.hst }
/-- The allocator's state changed. -/
def State.withCst (f : Cst → Cst) (s : State) : State := { s with cst := f s.cst }
/-- The time unit's state changed. -/
def State.withNtu (f : Ntu → Ntu) (s : State) : State := { s with ntu := f s.ntu }
/-- The pattern engine's state changed. -/
def State.withSeq (f : Pattern → Pattern) (s : State) : State := { s with seq := f s.seq }
/-- Capture's state changed. -/
def State.withCap (f : Capture → Capture) (s : State) : State := { s with cap := f s.cap }
/-- The measuring units' state changed. -/
def State.withMeas (f : Meas → Meas) (s : State) : State := { s with meas := f s.meas }
/-- Calibration's state changed. -/
def State.withCal (f : Cal → Cal) (s : State) : State := { s with cal := f s.cal }
/-- The cores', Sprout's and the DMA engines' state changed. -/
def State.withMgt (f : Mgt → Mgt) (s : State) : State := { s with mgt := f s.mgt }
/-- THM's state changed. -/
def State.withThm (f : Thm → Thm) (s : State) : State := { s with thm := f s.thm }
/-- KelorLink's state changed. -/
def State.withKlk (f : Klk → Klk) (s : State) : State := { s with klk := f s.klk }
/-- The beat generator's state changed. -/
def State.withBeat (f : Beat → Beat) (s : State) : State := { s with beat := f s.beat }

/-- A change made only where a condition holds. -/
def when (c : Bool) (f : State → State) (s : State) : State := if c then f s else s

/-- The module runs: the internal reset is released (R16). -/
def State.running (s : State) : Bool := decide (s.beat.phase = .run)

/-- The ordering code is DZ8128-H (R1). -/
def State.isH (s : State) : Bool := s.fieldOf HST_ID_CODE 0 == 2

/-- Firmware is READY (R39). -/
def State.ready (s : State) : Bool := s.fieldOf HST_STATE_FW_STATE 0 == 1

/-- The module is in FAULT_STOP (R440). -/
def State.faultStop (s : State) : Bool := s.fieldOf HST_STATE_FW_STATE 0 == 2

/-- A feature set is agreed (R61). -/
def State.agreed (s : State) : Bool := s.bitOf HST_STATE_AGREED 0

/-- Feature bit `b` of word 0 is in the agreed set (R63). -/
def State.feature (s : State) (b : Nat) : Bool := s.agreed && (s.reg .HST_FEAT 0).getLsbD b

end Sys2Proof.Machine
end

