-- ==== Sys2Proof/Machine/Ops.lean ====
section
/-! DEFINITION. The operations every family shares: raising faults and events, posting completions, judging a Sesame
command, and the blocks of the Central Store. -/

namespace Sys2Proof.Machine

/-! ### Faults and events -/

/-- A fault is put on its subsystem's error line, to be presented in beat `b` (R435). -/
def State.raiseAt (b : Nat) (f : FaultRec) (s : State) : State := s.withHsk fun h => { h with lines := h.lines ++ [(b, f)] }

/-- A fault whose chapter names no beat 0 for it is presented in the beat after its detection (R435). -/
def State.raise (f : FaultRec) (s : State) : State := s.raiseAt (s.beat.lbc + 1) f

/-- A fault whose chapter names the beat of its detection as beat 0 (R435). -/
def State.raiseNow (f : FaultRec) (s : State) : State := s.raiseAt s.beat.lbc f

/-- A fault of subsystem `sub`, class `cls`, with no VN (R443). -/
def State.fault (sub cls code detail : Nat) (mask : W32) (s : State) : State :=
  s.raise ⟨sub, cls, code, detail, mask, false, none⟩

/-- An event occurs: its pending bit is set and it waits for the exchange at the boundary that ends the beat (R448,
R449). -/
def State.event (e : Nat) (s : State) : State :=
  let s := s.setReg .HSK_EVT_PEND (e / 32) 0 (s.reg .HSK_EVT_PEND (e / 32) ||| BitVec.ofNat 32 (2 ^ (e % 32)))
  s.withHsk fun h => { h with occ := h.occ ++ [(e, s.beat.lbc)] }

/-- MSI-X vector `v` is owed a message (R450). -/
def State.signal (v : Nat) (s : State) : State :=
  s.withHst fun h => { h with msixOwed := h.msixOwed ||| BitVec.ofNat 64 (2 ^ v) }

/-! ### The Central Store's blocks (R205 to R209) -/

/-- The internal address of a Central Store block (R202). -/
def blockAddr (b : Nat) : Nat := 0x4000000000 + b * 0x800

/-- The pool that holds block `b` plus 1; 0 where it is free. -/
def State.owner (s : State) (b : Nat) : Nat := s.cst.owner.get Cst.ownerReset b

/-- The blocks a pool holds. -/
def State.hold (s : State) (p : Nat) : Nat := (s.reg .CST_HOLD p).toNat

/-- The free blocks. -/
def State.freeBlocks (s : State) : Nat := (s.reg .CST_FREE 0).toNat

/-- What the other pools can still claim of the free blocks (R206). -/
def State.reserved (s : State) (p : Nat) : Nat :=
  ((List.range 7).filter (· != p)).foldl (fun a q => a + (s.fieldOf CST_POOL_CFG_MIN q - s.hold q)) 0

/-- Pool `p` may take `n` more blocks, one after another (R206). -/
def State.mayTake (s : State) (p n : Nat) : Bool :=
  decide (s.hold p + n ≤ s.fieldOf CST_POOL_CFG_MAX_M1 p + 1) && decide (s.reserved p + n ≤ s.freeBlocks)

/-- The lowest free block from `b` on, within `fuel` blocks. -/
def State.freeFrom (s : State) (b : Nat) : Nat → Option Nat
  | 0 => none
  | k + 1 => if s.owner b = 0 then some b else s.freeFrom (b + 1) k

/-- The block an allocation hands out: above 8,191 while one is free there, MAILBOX only below (R205, R206; the lowest
such block, DESIGN CHOICE, log entry 9). -/
def State.pickBlock (s : State) (p : Nat) : Option Nat :=
  if p = 3 then s.freeFrom 0 8192
  else match s.freeFrom 8192 57344 with
    | some b => some b
    | none => s.freeFrom 0 8192

/-- The tag of a block changed and the two counts with it (R208: in one step, log entry 10). -/
def State.retag (b p : Nat) (s : State) : State :=
  (((s.withCst fun c => { c with owner := c.owner.set Cst.ownerReset b (p + 1) }).setReg .CST_FREE 0 0
    (BitVec.ofNat 32 (s.freeBlocks - 1)))).setReg .CST_HOLD p 0 (BitVec.ofNat 32 (s.hold p + 1))

/-- One block taken by pool `p` (R206), and the block; none and no change where refused. -/
def State.takeBlock (p : Nat) (s : State) : Option Nat × State :=
  if s.mayTake p 1 then
    match s.pickBlock p with
    | some b => (some b, s.retag b p)
    | none => (none, s)
  else (none, s)

/-- `n` blocks taken by pool `p`, in the order taken; fewer where one is refused. -/
def State.takeBlocks (p : Nat) : Nat → State → List Nat × State
  | 0, s => ([], s)
  | n + 1, s =>
    match s.takeBlock p with
    | (none, t) => ([], t)
    | (some b, t) => let r := State.takeBlocks p n t; (b :: r.1, r.2)

/-- A block freed by pool `p`: back to the free list, or refused where its tag does not name the pool (R209). -/
def State.freeBlock (p b : Nat) (s : State) : State :=
  if s.owner b = p + 1 then
    (((s.withCst fun c => { c with owner := c.owner.set Cst.ownerReset b 0 }).setReg .CST_FREE 0 0
      (BitVec.ofNat 32 (s.freeBlocks + 1)))).setReg .CST_HOLD p 0 (BitVec.ofNat 32 (s.hold p - 1))
  else
    (s.putBit CST_LEDGER_STAT_BAD_FREE 0 true).fault 7 1 0x0702 (fld 31 29 p + fld 15 0 b) 0

/-- A list of blocks freed by pool `p`. -/
def State.freeBlockList (p : Nat) (l : List Nat) (s : State) : State := each l (State.freeBlock p) s

/-- The first of `n` consecutive free blocks below 8,192, from `b` on (R480). -/
def State.runFrom (s : State) (n : Nat) : Nat → Nat → Option Nat
  | _, 0 => none
  | b, k + 1 =>
    if b + n ≤ 8192 && (List.range n).all (fun j => s.owner (b + j) == 0) then some b else s.runFrom n (b + 1) k

/-- The blocks `b` to `b + n - 1` taken by pool `p`. -/
def State.takeRun (p b n : Nat) (s : State) : State := each (List.range n) (fun j => State.retag (b + j) p) s

/-! ### Completions -/

/-- A mailbox's ring state. -/
def State.box (s : State) (m : Nat) : Mailbox := s.hst.boxes.get Mailbox.reset m

/-- A mailbox's ring state set. -/
def State.setBox (m : Nat) (b : Mailbox) (s : State) : State :=
  s.withHst fun h => { h with boxes := h.boxes.set Mailbox.reset m b }

/-- The completion entries that are free: a ring of N holds at most N - 1 (R47). -/
def Mailbox.cqFree (b : Mailbox) : Nat := 2 ^ b.cqLog - 1 - (b.cqTail + 2 ^ b.cqLog - b.cqHead) % 2 ^ b.cqLog

/-- The 32 bytes of a completion entry (R50). -/
def entryBytes (c : Completion) (phase : Bool) (sqHead : Nat) : List Byte :=
  leBytes 4 c.tag.toNat ++ leBytes 2 c.status ++ leBytes 2 (flag 15 phase + fld 11 0 sqHead) ++
  (List.range 6).flatMap (fun i => leBytes 4 (c.res.getD i 0))

/-- An entry written to the completion ring of a mailbox with room: PHASE, CQ_TAIL and the coalescing count (R50, R51,
R55). -/
def State.writeEntry (c : Completion) (s : State) : State :=
  let b := s.box c.mb
  let s := s.setMem (0x4000000000 + b.cqBase * 256 + 32 * b.cqTail) (entryBytes c b.phase b.sqHead)
  let wrap := b.cqTail + 1 == 2 ^ b.cqLog
  let n := b.fresh + 1
  let full := decide (b.count ≤ n)
  let b := { b with
    cqTail := if wrap then 0 else b.cqTail + 1
    phase := if wrap then !b.phase else b.phase
    fresh := if full then 0 else n
    oldest := if b.fresh = 0 then s.beat.lbc else b.oldest }
  when full (State.signal b.vector) (s.setBox c.mb b)

/-- The words of the version 1 mailbox (R75): 0 flags and code, 1 to 3 arguments, 4 status, 5 to 7 results, 8 control. -/
def State.v1Word (s : State) (i : Nat) : W32 := s.hst.v1.get (fun _ => 0) i

/-- A word of the version 1 mailbox set. -/
def State.setV1 (i : Nat) (v : W32) (s : State) : State :=
  s.withHst fun h => { h with v1 := h.v1.set (fun _ => 0) i v }

/-- A final status reported by the version 1 mailbox: STATUS, RES0 to RES2, DONE set, BUSY clear, vector 0 (R76). -/
def State.v1Report (c : Completion) (s : State) : State :=
  let s := s.setV1 4 (BitVec.ofNat 32 c.status)
  let s := each [0, 1, 2] (fun i => State.setV1 (5 + i) (BitVec.ofNat 32 (c.res.getD i 0))) s
  (s.setV1 8 4).signal 0

/-- A completion is posted: to the version 1 mailbox, to the ring, or held for lack of space with the completion-space
event (R53, R54, R76); a CLOSED mailbox discards it. -/
def State.post (c : Completion) (s : State) : State :=
  if c.mb = 16 then (if c.status = 1 then s else s.v1Report c)
  else if (s.box c.mb).st = 0 then s
  else if (s.box c.mb).cqFree = 0 then
    (s.withHst fun h => { h with held := h.held ++ [c] }).event (1104 + 2 * c.mb + 1)
  else s.writeEntry c

/-- A command's completion (R50). -/
def State.complete (iss : Issuer) (status : Nat) (res : List Nat) (s : State) : State :=
  s.post ⟨iss.mb.val, iss.tag, status, res⟩

/-! ### Judging a Sesame command (R56, R57, R440) -/

/-- The status codes of R57. -/
def Status.ok : Nat := 0x0000
def Status.deferred : Nat := 0x0001
def Status.busy : Nat := 0x0002
def Status.badCommand : Nat := 0x0010
def Status.badArgument : Nat := 0x0011
def Status.notAgreed : Nat := 0x0012
def Status.wrongState : Nat := 0x0013
def Status.noResource : Nat := 0x0014
def Status.bandwidth : Nat := 0x0020
def Status.thermal : Nat := 0x0021
def Status.timeout : Nat := 0x0030
def Status.abortedFault : Nat := 0x0040
def Status.rolledBack : Nat := 0x0041
def Status.timeStepped : Nat := 0x0050

/-- The commands that FAULT_STOP accepts (R440). -/
def stopAccepts (code : Nat) : Bool := [0x8001, 0x8002, 0x0A21, 0x8040, 0x0F01, 0x8030].contains code

/-- The commands accepted before agreement (R56). -/
def openAccepts (code : Nat) : Bool := [0x8001, 0x8002, 0x8030, 0x8031].contains code

/-- The lowest status of the checks that fail (R57). -/
def lowest : List (Bool × Nat) → Option Nat
  | [] => none
  | (c, st) :: r =>
    match lowest r with
    | none => if c then some st else none
    | some t => if c then some (min st t) else some t

/-- The state gates, the second stage of R57; FAULT_STOP's stands first, as R57 has it. -/
def State.gate (s : State) (code : Nat) : Option Nat :=
  if s.faultStop && !stopAccepts code then some Status.wrongState
  else if !s.agreed && !openAccepts code then some Status.notAgreed
  else none

/-- The stages of R57 for a command whose code is assigned, with its own checks; `avail` says that it is available under
the protocol in use and the features agreed (R61, R76). -/
def State.judge (s : State) (code : Nat) (avail : Bool) (checks : List (Bool × Nat)) : Option Nat :=
  match s.gate code with
  | some st => some st
  | none => lowest ((!avail, Status.badCommand) :: checks)

/-- A thermal shutdown has begun: the cores are stopped (R430, R431). -/
def State.shutDown (s : State) : Bool := s.thm.latch || s.thm.shutdown.isSome

/-- Firmware may take a command from this mailbox: it serves mailboxes, the mailbox is OPEN or ROLLED, and the protocol
in use is the mailbox's; none without a valid firmware image (R46, R74, R431, R462). -/
def State.canTake (s : State) (m : Nat) : Bool :=
  s.running && (s.ready || s.faultStop) && !s.shutDown && !s.beat.noImage &&
  (if m = 16 then s.fieldOf HST_STATE_SESAME 0 != 2
   else ((s.box m).st == 1 || (s.box m).st == 3) && s.fieldOf HST_STATE_SESAME 0 != 1)

/-- The check that every reserved field of a command's descriptor is 0 (R10). -/
def issuerCheck (iss : Issuer) : Bool × Nat := (iss.reserved, Status.badArgument)

/-- A Sesame command: nothing where its mailbox cannot be served; refused with the status of R57; or run. -/
def State.command (iss : Issuer) (code : Nat) (avail : Bool) (checks : List (Bool × Nat)) (run : State → State)
    (s : State) : State :=
  if s.canTake iss.mb.val then
    match s.judge code avail (issuerCheck iss :: checks) with
    | some st => s.complete iss st []
    | none => run s
  else s

/-- A command accepted to run later: DEFERRED is posted and the command waits (R53). -/
def State.defer (iss : Issuer) (cmd : Instr) (due : Nat) (data : List Nat) (s : State) : State :=
  (s.withHst fun h => { h with deferred := h.deferred ++ [{ iss := iss, cmd := cmd, started := false, muted := false, taken := s.beat.lbc, due := due, data := data }] }).complete
    iss Status.deferred []

/-- The deferred command at index `i` removed. -/
def State.dropDeferred (i : Nat) (s : State) : State := s.withHst fun h => { h with deferred := h.deferred.eraseIdx i }

/-- The first deferred command that `hit` picks is changed. -/
def modFirst (hit : Deferred → Bool) (f : Deferred → Deferred) : List Deferred → List Deferred
  | [] => []
  | d :: r => if hit d then f d :: r else d :: modFirst hit f r

/-- The first deferred command that `hit` picks is changed in its place. -/
def State.modDeferred (hit : Deferred → Bool) (f : Deferred → Deferred) (s : State) : State :=
  s.withHst fun h => { h with deferred := modFirst hit f h.deferred }

/-- The deferred commands that `hit` picks leave the list, each completed with a status (its mailbox permitting). -/
def State.endDeferred (hit : Deferred → Bool) (status : Nat) (s : State) : State :=
  let gone := s.hst.deferred.filter hit
  let s := s.withHst fun h => { h with deferred := h.deferred.filter (fun d => !hit d) }
  gone.foldl (fun t d => if d.muted then t else t.complete d.iss status []) s

/-- A run of scope POD, DEVICE or SUP that is pending or running. -/
def runOf (d : Deferred) : Bool := match d.cmd with | .calRun _ scope _ _ _ _ => scope != 2 | _ => false

/-- A run that has been started and has not ended. -/
def activeRun (d : Deferred) : Bool := d.started && d.outcome.isNone && runOf d

/-- The store write that runs is that of a run with STORE whose steps are over. -/
def State.storing (s : State) (cmd : Instr) : Bool := match s.cal.store with | some j => j.cmd == cmd | none => false

/-- A run that holds its instances: started, and neither ended nor storing what it changed. -/
def State.calibrates (s : State) (d : Deferred) : Bool := activeRun d && !(s.storing d.cmd)

/-- A deferred command is pending or running, and no run whose steps are over and which only stores what it changed: it may hold what it
names (R291, R294, R309, R405). -/
def State.atWork (s : State) (d : Deferred) : Bool := d.outcome.isNone && !(s.storing d.cmd)

/-- A DEVICE run holds the channels, the converters and the comparators (R404). -/
def State.deviceRuns (s : State) : Bool :=
  s.hst.deferred.any (fun d => s.calibrates d && (match d.cmd with | .calRun _ scope _ _ _ _ => scope == 1 | _ => false))

/-- The final completion of a deferred command; none where its mailbox was reset or closed (R38, R53, R59). -/
def State.finish (d : Deferred) (status : Nat) (res : List Nat) (s : State) : State :=
  if d.muted then s else s.complete d.iss status res

/-- An event that only a module in RUN can meet (R16). -/
def State.live (f : State → State) (s : State) : State := if s.running then f s else s

/-- The commands that wait for the rest of the beat. -/
def State.restOfBeat (s : State) : List Instr := s.pending.takeWhile (fun c => c != .beatBoundary)

/-- The outcome of a meaning that always answers a next state. -/
def done (s : State) : Host.Outcome State Fault Refusal := .next s

/-! ### Sites, threads and channels (R27, R28) -/

/-- The channel is assigned to the site. -/
def State.inSite (s : State) (site ch : Nat) : Bool :=
  s.bitOf TMG_CH_CFG_ASSIGNED ch && s.fieldOf TMG_CH_CFG_SITE ch == site

/-- The channels of a site in site-local order (R28). -/
def State.siteChannels (s : State) (site : Nat) : List Nat := (List.range 128).filter (s.inSite site)

/-- The sites that have a channel in a pod. -/
def State.podSites (s : State) (k : Nat) : List Nat :=
  (List.range 32).filter (fun site => (List.range 8).any (fun i => s.inSite site (8 * k + i)))

/-- A pod's edge PLL is locked (R17). -/
def State.podLocked (s : State) (k : Nat) : Bool := (s.reg .NTU_BEAT_STAT 0).getLsbD (16 + k)

end Sys2Proof.Machine
end

