-- ==== Sys2Proof/Machine/Pips.lean ====
section
/-! DEFINITION. The pips (03_pips): timing sets, offsets and quantisation, the placing of edges with their drops, strobes,
and the quiet state. -/

namespace Sys2Proof.Machine

/-- One beat, the output pipe and one coarse step, in fs. -/
def beatFs : Nat := 1250000
def pipeFs : Nat := 15000000
def coarseFs : Nat := 156250

/-- The start of the present beat in fs. -/
def State.now (s : State) : Nat := s.beat.lbc * beatFs

/-- A pip. -/
def State.pip (s : State) (ch : Nat) : Pip := s.seq.pips.get (fun _ => { }) ch
/-- A pip changed. -/
def State.modPip (ch : Nat) (f : Pip → Pip) (s : State) : State :=
  s.withSeq fun q => { q with pips := q.pips.set (fun _ => { }) ch (f (s.pip ch)) }

/-- A thread. -/
def State.thr (s : State) (n : Nat) : Thread := s.seq.thr.get (fun _ => { }) n
/-- A thread changed. -/
def State.modThr (n : Nat) (f : Thread → Thread) (s : State) : State :=
  s.withSeq fun q => { q with thr := q.thr.set (fun _ => { }) n (f (s.thr n)) }

/-- A thread is idle: IDLE, HALTED or ABORTED (R29). -/
def State.idle (s : State) (n : Nat) : Bool := (s.thr n).st == 0 || (s.thr n).st == 5 || (s.thr n).st == 6

/-- A thread issues vectors: RUNNING, WAITING or STALLED. -/
def State.issuing (s : State) (n : Nat) : Bool := (s.thr n).st == 2 || (s.thr n).st == 3 || (s.thr n).st == 4

/-! ### Timing sets (R89 to R91) -/

/-- The image of a timing set; empty while none is loaded. -/
def State.tset (s : State) (site t : Nat) : List Byte := s.seq.tsets.get (fun _ => []) (site * 256 + t)

/-- A timing set loaded. -/
def State.setTset (site t : Nat) (img : List Byte) (s : State) : State :=
  s.withSeq fun q => { q with tsets := q.tsets.set (fun _ => []) (site * 256 + t) img }

/-- The period of an image, 0 for an empty timing set. -/
def imgPeriod (img : List Byte) : Nat := leAt img 0 8 % 2 ^ 36
/-- Its channel count. -/
def imgN (img : List Byte) : Nat := leAt img 8 2
/-- The drive format of channel `i`. -/
def imgFormat (img : List Byte) (i : Nat) : Nat := leAt img (0x10 + 56 * i) 4 % 8
/-- Whether channel `i` uses a window strobe. -/
def imgWindow (img : List Byte) (i : Nat) : Bool := leAt img (0x10 + 56 * i) 4 / 8 % 2 == 1
/-- The edge word of channel `i` on a path. -/
def imgEdgeWord (img : List Byte) (i path : Nat) : Nat := leAt img (0x18 + 56 * i + 8 * path) 8
/-- The time of an enabled edge; none where it is disabled. -/
def imgEdge (img : List Byte) (i path : Nat) : Option Nat :=
  let w := imgEdgeWord img i path
  if w / 2 ^ 63 % 2 = 1 then some (w % 2 ^ 37) else none

/-- The checks of R90 on the record of channel `i`. -/
def recordOk (img : List Byte) (i : Nat) : Bool :=
  let p := imgPeriod img
  let c := leAt img (0x10 + 56 * i) 4
  let fmt := imgFormat img i
  let e := imgEdge img i
  let after (x y : Option Nat) (d : Nat) : Bool :=
    match x, y with
    | some a, some b => decide (a + d ≤ b)
    | _, _ => true
  c / 16 == 0 && leAt img (0x14 + 56 * i) 4 == 0 && decide (fmt < 5) &&
  (List.range 6).all (fun k =>
    imgEdgeWord img i k / 2 ^ 37 % 2 ^ 26 == 0 &&
    (match e k with | some t => decide (t < 2 * p) | none => true)) &&
  (fmt == 4 || (e 2).isSome) &&
  (fmt == 4 || fmt == 0 || (e 3).isSome) &&
  (!(imgWindow img i) || ((e 5).isSome && after (e 4) (e 5) 0)) &&
  (fmt != 3 || after (some 0) (e 2) 150000) &&
  (fmt == 4 || fmt == 0 || after (e 2) (e 3) 150000) &&
  after (e 0) (e 1) 150000

/-- The first part of an image that fails the checks of R90: 0xFFFF for the header, else the channel. -/
def imgBad (img : List Byte) : Option Nat :=
  let p := leAt img 0 8
  let n := imgN img
  if p < 500000 ∨ 65536000000 < p ∨ n = 0 ∨ 128 < n ∨ !(zeroAt img 0x0A 6) then some 0xFFFF
  else (List.range n).find? (fun i => !(recordOk img i))

/-- The periods of a site's timing sets that are not empty. -/
def State.tsetPeriods (s : State) (site : Nat) : List Nat :=
  ((List.range 256).map (fun t => imgPeriod (s.tset site t))).filter (· != 0)

/-! ### Offsets and quantisation (R94 to R98) -/

/-- The fixed-edge mode of a site (R105). -/
def State.fixedMode (s : State) (site : Nat) : Bool := s.bitOf TMG_SITE_CFG_MODE site

/-- The drive or compare deskew of a channel, with FX_SKEW in fixed-edge mode (R94, R96). -/
def State.deskew (s : State) (ch : Nat) (cmp fixed : Bool) : Int :=
  signed 25 (if cmp then s.fieldOf TMG_DSK_CMP_OFFSET ch else s.fieldOf TMG_DSK_DRV_OFFSET ch) +
  (if fixed then signed 21 (s.fieldOf TMG_CH_TIM_FX_SKEW ch) else 0)

/-- The calibration offset in force (R97). -/
def State.calOffset (s : State) (ch path : Nat) : Int := s.cal.offs.get (fun _ => 0) (7 * ch + path)

/-- The quantisation of R98: coarse steps from the reference, and the fine step. -/
def quantise (a : Int) : Int × Nat :=
  let coarse := a / 156250
  let resid := (a - coarse * 156250).toNat
  let fine := (resid * 256 + 78125) / 156250
  if fine = 256 then (coarse + 1, 0) else (coarse, fine)

/-- The time at which a pip realises A, in parts of 1/256 fs (R98). -/
def realised (a : Int) : Int := ((quantise a).1 * 256 + (quantise a).2) * 156250

/-- The beat in which a time in parts of 1/256 fs falls. -/
def beatOf (t : Int) : Nat := (t / 320000000).toNat

/-! ### Placing edges (R99 to R101) -/

/-- A channel drops an event of kind 0 ORDER, 1 PULSE or 2 STB: the flags, the count and the beat's fault (R101). -/
def State.drop (ch kind : Nat) (s : State) : State :=
  let site := s.fieldOf TMG_CH_CFG_SITE ch
  let s := s.setReg .TMG_CH_STAT ch 0 (s.reg .TMG_CH_STAT ch ||| BitVec.ofNat 32 (2 ^ kind))
  let s := (s.countUp TMG_CH_STAT_DROP_CNT ch 1).putBit TMG_SITE_STAT_TIMING_DROP site true
  s.withSeq fun q => { q with drops := q.drops ++ [(ch, kind, site)] }

/-- A change put in its place by time; one that is as late as another goes after it. -/
def insertChange (x : Change) : List Change → List Change
  | [] => [x]
  | y :: r => if x.time < y.time then x :: y :: r else y :: insertChange x r

/-- The level that a list of changes kept newest first leaves an output at. -/
def levelBehind (l0 : Bool) : List Change → Bool
  | [] => l0
  | y :: _ => y.level

/-- The last level change of a list kept newest first, and what lies before it: a transition to the level that the output
already has is no level change. -/
def lastReal (l0 : Bool) : List Change → Option (Change × List Change)
  | [] => none
  | y :: r => if y.level = levelBehind l0 r then lastReal l0 r else some (y, r)

/-- The judgement of R99 over the transitions of one output in time order, kept newest first, with the number dropped. A
level change that goes takes with it the transitions after it that set no other level: the output keeps the level it had
before. A level change after a quiet-state transition is placed unjudged, and a quiet-state transition to the level that the output
already has is no level change and leaves the change before it in place (DEDUCED, log entry 59). -/
def judgeChanges (l0 : Bool) (kept : List Change) (n : Nat) : List Change → List Change × Nat
  | [] => (kept, n)
  | x :: r =>
    if x.level = levelBehind l0 kept then judgeChanges l0 (x :: kept) n r
    else
      match lastReal l0 kept with
      | none => judgeChanges l0 (x :: kept) n r
      | some (y, before) =>
        if y.quiet || y.exempt || x.exempt || decide (150000 ≤ x.time - y.time) then judgeChanges l0 (x :: kept) n r
        else if x.quiet then judgeChanges l0 (x :: before) (n + 1) r
        else judgeChanges l0 before (n + 2) r

/-- A pip's queue judged again: the transitions kept, and how many were dropped. -/
def Pip.judge (p : Pip) : Pip × Nat :=
  let d := judgeChanges p.drv [] 0 (p.queue.filter (fun c => !c.den))
  let e := judgeChanges p.den [] 0 (p.queue.filter (fun c => c.den))
  ({ p with queue := (d.1.reverse ++ e.1.reverse).foldl (fun l c => insertChange c l) [] }, d.2 + e.2)

/-- A transition put in a pip's queue (R99). -/
def State.place (ch : Nat) (c : Change) (s : State) : State :=
  s.modPip ch fun p => { p with queue := insertChange c p.queue }

/-- An edge on a path: it is placed unless it falls less than 400 ps after the last one there, or before it (R99). -/
def Pip.edgeOk (p : Pip) (path : Nat) (a : Int) : Bool :=
  match (p.lastEdge.getD path []).head? with
  | none => true
  | some l => decide (400000 ≤ a - l.time)

/-- An edge that a cut, or the discarding of the rows in the output pipe, may still take away in beat `b`. -/
def Edge.open_ (b : Nat) (e : Edge) : Bool := decide (((b * beatFs : Nat) : Int) ≤ e.grid) || decide (b < e.issued + 12)

/-- An edge becomes the last one of its path. -/
def State.setLast (ch path : Nat) (e : Edge) (s : State) : State :=
  let b := s.beat.lbc
  s.modPip ch fun p =>
    let l := p.lastEdge.getD path []
    { p with lastEdge := p.lastEdge.set path (e :: (l.filter (Edge.open_ b) ++ (l.filter (fun x => !x.open_ b)).take 1)) }

/-- Edges that are never placed are no last edges of their paths. -/
def Pip.undo (gone : Edge → Bool) (p : Pip) : Pip := { p with lastEdge := p.lastEdge.map (fun l => l.filter (fun e => !gone e)) }

/-- The level that the transitions waiting in a pip give DEN or DRV at a time. -/
def Pip.levelAt (p : Pip) (den : Bool) (a : Int) : Bool :=
  ((p.queue.filter (fun c => c.den == den && decide (c.time ≤ a))).getLast?.map Change.level).getD (if den then p.den else p.drv)

/-- The level changes among the transitions of one output in time order. -/
def levelChanges (l0 : Bool) : List Change → List Change
  | [] => []
  | x :: r => if x.level = l0 then levelChanges l0 r else x :: levelChanges x.level r

/-- With `c` placed, an edge of an earlier vector on its path that changes the level lies less than 400 ps before it, or after it
(R99): one that found its level held when it was placed may change it now. -/
def Pip.crowds (p : Pip) (c : Change) : Bool :=
  let l := (insertChange c p.queue).filter (fun x => x.den == c.den)
  (levelChanges (if c.den then p.den else p.drv) l).any (fun x =>
    x.path == c.path && decide (x.vec < c.vec) && !x.quiet && decide (c.time < x.time + 400000))

/-- One programmed edge of a free-edge vector: placed, or dropped with ORDER_DROP. One that would set the level already
held is no edge on its path and is never dropped; it waits with the others, and is an edge on its path once an edge before it
makes it a change of the level (R81, R99; DEDUCED, log entry 59). -/
def State.edge (ch : Nat) (c : Change) (s : State) : State :=
  if (s.pip ch).levelAt c.den c.time = c.level then s.place ch c
  else if (s.pip ch).edgeOk c.path c.time && !((s.pip ch).crowds c) then
    (s.setLast ch c.path ⟨c.time, c.grid, c.issued, c.vec⟩).place ch c
  else s.drop ch 0

/-- A release has ended the vector before its time `t` (R192). -/
def Vec.cutAt (v : Vec) (t : Nat) : Bool := match v.cut with | some c => decide (c ≤ v.start + t) | none => false

/-- The drive and compare deskew that stage 3 of the output pipe sums for channel `i` of a vector (R102). -/
def Vec.deskew (v : Vec) (s : State) (i ch : Nat) (cmp : Bool) : Int :=
  match v.dsk with
  | some l => if cmp then (l.getD i (0, 0)).2 else (l.getD i (0, 0)).1
  | none => s.deskew ch cmp v.fixed

/-- The calibration offset in force at the start of a vector (R97). -/
def Vec.offset (v : Vec) (ch path : Nat) : Int := v.offs.get (fun _ => 0) (7 * ch + path)

/-- A time on the grid lies at or after the cut of the channel's burst (R26, R103). -/
def State.cutOff (s : State) (ch : Nat) (t : Int) : Bool := match (s.pip ch).cutAt with | some c => decide (c ≤ t) | none => false

/-- The drive edges of a free-edge vector on one channel (R81, R82). -/
def State.driveFree (ch : Nat) (v : Vec) (img : List Byte) (i sym : Nat) (s : State) : State :=
  let fmt := imgFormat img i
  let base : Int := (v.start + pipeFs : Nat)
  let d := v.deskew s i ch false
  let drive := sym < 2 ∧ fmt ≠ 4
  let change (den level : Bool) (path t : Nat) : Change :=
    ⟨den, level, base + t + d + v.offset ch path, (v.start + t : Nat), v.issued, false, false, path, v.no⟩
  let put (den level : Bool) (path : Nat) : State → State := fun s =>
    match imgEdge img i path with
    | none => s
    | some t => if v.cutAt t || s.cutOff ch (v.start + t : Nat) then s else s.edge ch (change den level path t)
  let s := if sym = 3 then s else put true false 1 (put true (decide drive) 0 s)
  if drive then
    let one := sym == 1
    let s := if fmt = 3 && !(v.cutAt 0 || s.cutOff ch v.start) then s.place ch (change false (!one) 6 0) else s
    let s := put false one 2 s
    if fmt = 1 then put false false 3 s
    else if fmt = 2 then put false true 3 s
    else if fmt = 3 then put false (!one) 3 s
    else s
  else s

/-- A strobe put in a pip's list, and its channel among those of the vector still to be judged or sampled. -/
def State.addStrobe (ch thr : Nat) (v : Vec) (b : Strobe) (s : State) : State :=
  let s := s.modPip ch fun p => { p with strobes := p.strobes ++ [b] }
  let cap := b.sym == 8
  s.modThr thr fun t => { t with pipe := t.pipe.map (fun w =>
    if w.no = v.no then
      { w with
        todo := if cap then w.todo else w.todo ++ [ch]
        capTodo := if cap then w.capTodo ++ [ch] else w.capTodo
        compared := if cap then w.compared else w.compared ++ [ch]
        strobeEnds := w.strobeEnds ++ [(ch, beatOf (realised b.closes))] }
    else w) }

/-- The strobe of a free-edge vector on one channel (R85, R99, R100, R267). A C symbol of a window-strobe channel opens the
channel's window up to STB_CLOSE as a compare symbol does (DEDUCED, log entry 71). A strobe that is dropped for overlap, or for its
STB_CLOSE, is still the last edge of path 4; one dropped because R99 drops an edge of it counts twice in DROP_CNT; a T on an
edge-strobe channel whose STB_CLOSE R99 drops sets ORDER_DROP alone and opens no window (DEDUCED, log entry 91). -/
def State.strobeFree (ch thr : Nat) (v : Vec) (img : List Byte) (i sym : Nat) (s : State) : State :=
  match imgEdge img i 4 with
  | none => s
  | some t0 =>
    if !v.counts || !([4, 5, 6, 8, 9].contains sym) then s
    else
      let base : Int := (v.start + pipeFs : Nat)
      let d := v.deskew s i ch true
      let a0 := base + t0 + d + v.offset ch 4
      let t1 := (imgEdge img i 5).getD 0
      let a1 := base + t1 + d + v.offset ch 5
      let closes := (imgWindow img i || sym == 9) && (imgEdge img i 5).isSome && decide (t0 ≤ t1)
      if s.cutOff ch (v.start + (if closes then t1 else t0) : Nat) then s else
      let ok0 := (s.pip ch).edgeOk 4 a0
      let s := if ok0 then s.setLast ch 4 ⟨a0, (v.start + t0 : Nat), v.issued, v.no⟩ else (s.drop ch 0).drop ch 2
      let overlap := match (s.pip ch).windowEnd with
        | some e => decide (a0 ≤ e.1)
        | none => false
      let s := when (ok0 && overlap) (State.drop ch 2) s
      let dropped := !ok0 || overlap
      let ok1 := (s.pip ch).edgeOk 5 a1
      let s := if dropped || !closes then s else if ok1 then s.setLast ch 5 ⟨a1, (v.start + t1 : Nat), v.issued, v.no⟩ else
        when (imgWindow img i) (State.drop ch 2) (s.drop ch 0)
      let opened := !dropped && closes && ok1
      let dropped := dropped || (imgWindow img i && closes && !ok1)
      let s := if opened then s.modPip ch fun p => { p with windowEnd := some (a1, (v.start + t1 : Nat)) } else s
      if sym = 9 then
        (if opened then s.modPip ch fun p => { p with
          tWindows := p.tWindows ++ [⟨v.no, v.start, t0, a0, a1, (v.start + t1 : Nat), v.issued⟩] } else s)
      else
        let win := imgWindow img i && sym != 8 && opened
        s.addStrobe ch thr v ⟨thr, v.no, i, sym, a0, if win then a1 else a0, win, dropped,
          (v.start + (if closes then t1 else t0) : Nat), v.issued⟩

/-- STB_EN and STB_OFS of a fixed-edge vector, as stage 2 of the output pipe read them (R102). -/
def Vec.stbOf (v : Vec) (s : State) (site : Nat) : Bool × Nat :=
  v.fxStb.getD (s.bitOf TMG_FX_STB_STB_EN site, s.fieldOf TMG_FX_STB_STB_OFS site)

/-- The image of a vector's timing set, as stage 2 of the output pipe read it (R102). -/
def Vec.image (v : Vec) (s : State) (site : Nat) : List Byte := v.img.getD (s.tset site v.tset)

/-- The site-local channels that carry C in a vector, with a strobe enabled (R85, R93, R241). -/
def Vec.capIdx (v : Vec) (s : State) (site : Nat) : List Nat :=
  (List.range v.chs.length).filter (fun i =>
    v.counts && v.syms.getD i 7 == 8 && !(v.quiet.contains (v.chs.getD i 128)) &&
    (if v.fixed then v.dirMask / 2 ^ i % 2 == 1 && (v.stbOf s site).1 else (imgEdge (v.image s site) i 4).isSome))

/-- A fixed-edge vector on one channel (R93 to R95). -/
def State.scheduleFixed (ch thr : Nat) (v : Vec) (i sym : Nat) (s : State) : State :=
  let base : Int := (v.start + pipeFs : Nat)
  let a := base + v.deskew s i ch false + v.offset ch 6
  let put (den level : Bool) : State → State := fun s =>
    if s.cutOff ch (v.start : Nat) then s else s.place ch ⟨den, level, a, v.start, v.issued, false, true, 6, v.no⟩
  if v.dirMask / 2 ^ i % 2 = 0 then
    let s := if sym < 2 then put false (sym == 1) s else s
    if sym = 2 then put true false s else put true true s
  else
    let s := put true false s
    let x := v.stbOf s thr
    if v.counts && x.1 && [4, 5, 8].contains sym then
      let ofs := x.2
      let a0 := base + ofs + v.deskew s i ch true + v.offset ch 4
      if s.cutOff ch (v.start + ofs : Nat) then s else s.addStrobe ch thr v ⟨thr, v.no, i, sym, a0, a0, false, false, (v.start + ofs : Nat), v.issued⟩
    else s

/-- A vector's events on one channel; a channel in its quiet state ignores rows (R33). An edge that is dropped with a pair that lies
too close (150 ps) stays the last edge of its path for the 400 ps of R99 (DEDUCED, log entry 59). -/
def State.scheduleChannel (thr : Nat) (v : Vec) (i ch : Nat) (s : State) : State :=
  let sym := v.syms.getD i 7
  if v.quiet.contains ch then s
  else if v.fixed then s.scheduleFixed ch thr v i sym
  else
    let img := v.image s thr
    let s := (s.driveFree ch v img i sym).strobeFree ch thr v img i sym
    let r := (s.pip ch).judge
    (List.range r.2).foldl (fun t _ => t.drop ch 1) (s.modPip ch fun _ => r.1)

/-- A vector in stage 8 of the output pipe (R99, R100). -/
def State.scheduleVec (thr : Nat) (v : Vec) (s : State) : State :=
  let caps := v.capIdx s thr
  let s := v.chs.zipIdx.foldl (fun t p => t.scheduleChannel thr v p.2 p.1) s
  s.modThr thr fun t => { t with pipe := t.pipe.map (fun w => if w.no = v.no then { w with scheduled := true, caps := caps } else w) }

/-- What stages 2 and 3 of the output pipe read for a vector in the beat that ends (R102). -/
def Vec.stage (s : State) (site : Nat) (v : Vec) : Vec :=
  if v.issued + 2 = s.beat.lbc then
    { v with img := some (s.tset site v.tset), fxStb := some (s.bitOf TMG_FX_STB_STB_EN site, s.fieldOf TMG_FX_STB_STB_OFS site) }
  else if v.issued + 3 = s.beat.lbc then
    { v with dsk := some (v.chs.map (fun ch => (s.deskew ch false v.fixed, s.deskew ch true v.fixed))) }
  else v

/-- The vectors in the output pipe move one stage on. -/
def State.pipeStages (s : State) : State :=
  each ((List.range 32).filter (fun n => (s.thr n).pipe.any (fun v => decide (s.beat.lbc ≤ v.issued + 3)))) (fun n s =>
    s.modThr n fun t => { t with pipe := t.pipe.map (Vec.stage s n) }) s

/-- OUTPUT_PIPE_SCHEDULE: the thread's vectors that have reached stage 8 are scheduled. -/
def execOutputPipeSchedule (thr : Fin 32) (s : State) : Host.Outcome State Fault Refusal :=
  done <| s.live fun s =>
    ((s.thr thr.val).pipe.filter (fun v => !v.scheduled && decide (v.issued + 8 ≤ s.beat.lbc))).foldl
      (fun t v => t.scheduleVec thr.val v) s

/-- The transitions whose realised time (R98) lies before beat `b` leave a pip's queue and set its outputs. -/
def Pip.settle (b : Nat) (p : Pip) : Pip :=
  let past := p.queue.filter (fun c => decide ((quantise c.time).1 < 8 * b))
  { p with
    queue := p.queue.filter (fun c => !decide ((quantise c.time).1 < 8 * b))
    drv := ((past.filter (fun c => !c.den)).getLast?.map Change.level).getD p.drv
    den := ((past.filter (fun c => c.den)).getLast?.map Change.level).getD p.den }

/-- The drops of the beat reported in one fault (R482). -/
def State.reportDrops (s : State) : State :=
  match s.seq.drops with
  | [] => s
  | d :: r =>
    let all := d :: r
    let low := all.foldl (fun m x => min m x.1) 127
    let kinds := listMask (all.map (fun x => x.2.1))
    let sites := listMask (all.map (fun x => x.2.2))
    (s.withSeq fun q => { q with drops := [] }).fault 0 0 0x0004 (kinds * 2 ^ 16 + low) (BitVec.ofNat 32 sites)

/-! ### The quiet state (R26, R33, R103, R133) -/

/-- DEN and DRV in the quiet state of a channel (31, Quiet states). -/
def State.quietLevels (s : State) (ch : Nat) : Bool × Bool :=
  let q := s.fieldOf TMG_CH_CFG_QUIET ch
  (q == 1 || q == 2, q == 2)

/-- The quiet-state transitions of a channel at time `t` on the grid, `lead` later at the balls (R103). -/
def State.placeQuiet (ch : Nat) (t lead : Int) (s : State) : State :=
  let a := t + lead + s.deskew ch false (s.fixedMode (s.fieldOf TMG_CH_CFG_SITE ch)) + s.calOffset ch 6
  let l := s.quietLevels ch
  let s := (s.place ch ⟨true, l.1, a, t, s.beat.lbc, true, false, 6, 0⟩).place ch ⟨false, l.2, a, t, s.beat.lbc, true, false, 6, 0⟩
  let r := (s.pip ch).judge
  (List.range r.2).foldl (fun t _ => t.drop ch 1) (s.modPip ch fun _ => r.1)

/-- A strobe that yields no result: its channel leaves the vector it belongs to (R26). -/
def State.dropStrobe (ch : Nat) (b : Strobe) (s : State) : State :=
  s.modThr b.thr fun t => { t with pipe := t.pipe.map (fun w =>
    if w.no = b.vec then { w with
      todo := w.todo.erase ch, capTodo := w.capTodo.erase ch, compared := w.compared.erase ch
      strobeEnds := w.strobeEnds.filter (fun x => x.1 != ch) } else w) }

/-- A TDC. -/
def State.tdc (s : State) (n : Nat) : Tdc := s.meas.tdcs.get (fun _ => { }) n
/-- A TDC changed. -/
def State.modTdc (n : Nat) (f : Tdc → Tdc) (s : State) : State :=
  s.withMeas fun m => { m with tdcs := m.tdcs.set (fun _ => { }) n (f (s.tdc n)) }

/-- The TDC takes values: RUNNING and not ended (R269, R270). -/
def State.tdcTakes (s : State) (n : Nat) : Bool := s.fieldOf TIA_STAT_STATE n == 1 && !(s.tdc n).ended

/-- The register words of a TDC's statistics (R272). -/
def statWords : List (Stem × Nat) :=
  [(.TIA_CNT, 0), (.TIA_CNT, 1), (.TIA_SUM, 0), (.TIA_SUM, 1), (.TIA_SSQ, 0), (.TIA_SSQ, 1), (.TIA_SSQ, 2),
   (.TIA_MIN, 0), (.TIA_MAX, 0), (.TIA_LAST, 0), (.TIA_IVL, 0), (.TIA_IVL, 1)]

/-- The statistics of a TDC as they stand. -/
def State.stats (s : State) (n : Nat) : List W32 := statWords.map (fun x => s.reg x.1 n x.2)

/-- The statistics of a TDC set. -/
def State.setStats (n : Nat) (l : List W32) (s : State) : State :=
  let g := fun i => l.getD i 0
  (((((((((((s.setReg .TIA_CNT n 0 (g 0)).setReg .TIA_CNT n 1 (g 1)).setReg .TIA_SUM n 0 (g 2)).setReg .TIA_SUM n 1
    (g 3)).setReg .TIA_SSQ n 0 (g 4)).setReg .TIA_SSQ n 1 (g 5)).setReg .TIA_SSQ n 2 (g 6)).setReg .TIA_MIN n 0
    (g 7)).setReg .TIA_MAX n 0 (g 8)).setReg .TIA_LAST n 0 (g 9)).setReg .TIA_IVL n 0 (g 10)).setReg .TIA_IVL n 1
    (g 11)

/-- A timestamp of the windows of some vectors. -/
def Stamp.within (x : Stamp) (vs : List Nat) : Bool := match x.win with | some w => vs.contains w.vec | none => false

/-- What a TDC holds of the windows of some vectors and has not recorded is forgotten; a buffer that this empties has been empty
(R265). -/
def Tdc.forget (twin : Bool) (vs : List Nat) (t : Tdc) : Tdc :=
  let left := t.buffer.filter (fun x => !x.within vs)
  { t with
    buffer := left
    lossSeen := t.lossSeen && !left.isEmpty
    start := t.start.filter (fun x => !x.within vs)
    halves := t.halves.filter (fun x => !x.within vs)
    gates := t.gates.filter (fun g => !twin || !vs.contains g.1)
    usedStart := t.usedStart.filter (fun v => !vs.contains v)
    usedStop := t.usedStop.filter (fun v => !vs.contains v)
    undo := none }

/-- The windows of some vectors leave no measurement in a TDC that still runs: the values that the last of them made are
taken back (R267; DEDUCED, log entry 73). -/
def State.forgetWindows (n : Nat) (vs : List Nat) (s : State) : State :=
  let s := match (s.tdc n).undo with
    | some (v, l) => if vs.contains v && s.tdcTakes n then s.setStats n l else s
    | none => s
  s.modTdc n (Tdc.forget (s.bitOf TIA_CH_CFG_GATE n) vs)

/-- T windows of a channel are discarded: no edge enters them, and they leave no measurement, in the channel's TDC or in one
that pairs with the channel (R267, R268). -/
def State.dropWindows (ch : Nat) (hit : TWin → Bool) (s : State) : State :=
  let vs := ((s.pip ch).tWindows.filter hit).map TWin.vec
  if vs.isEmpty then s
  else
    let s := s.modPip ch fun p => { p with tWindows := p.tWindows.filter (fun w => !hit w) }
    let ms := (List.range 128).filter (fun m => s.fieldOf TIA_CH_CFG_MODE m == 1 && s.fieldOf TIA_CH_CFG_REF_CH m == ch)
    each (ch :: ms.filter (· != ch)) (fun m => State.forgetWindows m vs) s

/-- A site's fail log and what CAP keeps of its burst. -/
def State.failLog (s : State) (site : Nat) : FailLog := s.cap.logs.get (fun _ => { }) site
/-- A site's fail log changed. -/
def State.modLog (site : Nat) (f : FailLog → FailLog) (s : State) : State :=
  s.withCap fun c => { c with logs := c.logs.set (fun _ => { }) site (f (s.failLog site)) }

/-- The first failing vector of a site's burst, among those that CAP has still to close. -/
def State.firstFail (s : State) (site : Nat) : Option Vec :=
  (s.thr site).pipe.foldl (fun m v => if !v.counted then m else match m with
    | none => some v
    | some w => if v.no < w.no then some v else m) none

/-- A fail that a window strobe showed before its end is taken back from its vector and from the counters of R232, for the cut lies at
or before its STB_CLOSE (R26). What it has raised or decided before the cut stands (DEDUCED, log entry 58). -/
def State.retract (site ch : Nat) (v : Vec) (s : State) : State :=
  let s := s.modThr site fun t => { t with pipe := t.pipe.map (fun w => if w.no = v.no then
    { w with
      fails := w.fails.erase ch, invalid := w.invalid.erase ch, compared := w.compared.erase ch
      early := w.early.filter (fun x => x.1 != ch), bitsDue := w.bitsDue.filter (fun x => x.1 != ch) } else w) }
  if v.bitsDue.any (fun x => x.1 == ch) then s
  else
    let s := s.putField CAP_CH_FCNT_COUNT ch (s.fieldOf CAP_CH_FCNT_COUNT ch - 1)
    if v.fails.any (fun c => c != ch && !(v.bitsDue.any (fun x => x.1 == c))) then s
    else
      let s := s.modThr site fun t => { t with pipe := t.pipe.map (fun w => if w.no = v.no then { w with counted := false } else w) }
      let s := s.setReg64 .CAP_FAIL_VEC site (s.reg64 .CAP_FAIL_VEC site - 1)
      if (s.failLog site).firstNo = some v.no then
        let f := s.firstFail site
        (s.setReg64 .CAP_FIRST_VN site (match f with | some w => BitVec.ofNat 64 (2 ^ 63 + w.vn) | none => 0)).modLog site fun l =>
          { l with firstNo := f.map Vec.no }
      else s

/-- The window fails of a channel that the cut takes back. -/
def State.retractAll (site ch : Nat) (cut : Int) (s : State) : State :=
  each ((s.thr site).pipe.filter (fun v => v.early.any (fun x => x.1 == ch && decide (cut ≤ x.2.1))))
    (fun v s => match (s.thr site).pipe.find? (fun w => w.no == v.no) with | some w => s.retract site ch w | none => s) s

/-- The cut at `cut` on the grid: later edges are not placed, later strobes yield nothing, windows close unused. -/
def State.cutChannel (ch : Nat) (cut : Int) (s : State) : State :=
  let gone := (s.pip ch).strobes.filter (fun b => decide (cut ≤ b.grid))
  let s := each gone (fun b => State.dropStrobe ch b) s
  (s.modPip ch fun p => { p.undo (fun e => decide (cut ≤ e.grid)) with
    cutAt := some cut
    windowEnd := p.windowEnd.filter (fun e => decide (e.2 < cut))
    queue := p.queue.filter (fun c => c.quiet || decide (c.grid < cut))
    strobes := p.strobes.filter (fun b => !decide (cut ≤ b.grid)) }).dropWindows ch (fun w => decide (cut ≤ w.grid))

/-- The rows of a thread still in the output pipe at beat `b` are discarded on a channel (R25). -/
def State.discardRows (ch b : Nat) (s : State) : State :=
  let gone := (s.pip ch).strobes.filter (fun x => decide (b < x.issued + 12))
  let s := each gone (fun x => State.dropStrobe ch x) s
  (s.modPip ch fun p => { p.undo (fun e => decide (b < e.issued + 12)) with
    queue := p.queue.filter (fun c => c.quiet || decide (c.issued + 12 ≤ b))
    strobes := p.strobes.filter (fun x => decide (x.issued + 12 ≤ b)) }).dropWindows ch (fun w => decide (b < w.issued + 12))

/-- A channel takes its quiet state (R33, R103). -/
def State.enterQuiet (ch : Nat) (t : Int) (s : State) : State :=
  ((s.modPip ch fun p => { p with quietAt := none }).putBit TMG_CH_CFG_IN_QUIET ch true).placeQuiet ch t pipeFs

/-- The channels of a site are to take their quiet state at `t` on the grid, with the cut at `cut` at once, and the site's
balls are deasserted there (R26, R103, R133). -/
def State.siteQuiet (site : Nat) (t cut : Int) (s : State) : State :=
  let s := each (s.siteChannels site) (fun ch s =>
    ((s.retractAll site ch cut).cutChannel ch cut).modPip ch fun p => { p with quietAt := some t }) s
  let balls := (List.range 16).filter (fun k => s.bitOf VST_MK_CFG_EN k && s.fieldOf VST_MK_CFG_SITE k == site)
  s.withSeq fun q => { q with mkActs := q.mkActs ++ balls.map (fun k => ⟨site, 0, 0, k, 4, ((t + 78125) / 156250).toNat + 96⟩) }

/-- The quiet states that are due at the present boundary (precedence 2 of R23). -/
def State.enterQuiets (s : State) : State :=
  each (List.range 128) (fun ch s => match (s.pip ch).quietAt with
    | some t => if t ≤ (s.now : Nat) then s.enterQuiet ch t else s
    | none => s) s

/-- QUIET_STATE_ENTRY: a channel whose quiet state is due takes it; the rows before it in the output pipe go on to the
balls. -/
def execQuietStateEntry (ch : Fin 128) (s : State) : Host.Outcome State Fault Refusal :=
  done <| s.live fun s =>
    match (s.pip ch.val).quietAt with
    | some t => if t < (s.now + beatFs : Nat) then s.enterQuiet ch.val t else s
    | none => s

/-- A channel's outputs follow a QUIET change at the commit boundary while it is in its quiet state; quiet-state transitions
still on their way to the balls take the new levels (R30, R103; DEDUCED, log entry 72). -/
def State.quietNow (ch : Nat) (s : State) : State :=
  let l := s.quietLevels ch
  (s.modPip ch fun p => { p with
    queue := p.queue.map (fun c => if c.quiet then { c with level := if c.den then l.1 else l.2 } else c) }).placeQuiet ch s.now 0

end Sys2Proof.Machine
end

