-- ==== Sys2Proof/Machine/Fabric.lean ====
section
/-! DEFINITION. What other subsystems need of KelorLink: queueing a frame at a port and flooding a VC0 frame (R334, R350). -/

namespace Sys2Proof.Machine

/-- A port. -/
def State.port (s : State) (p : Nat) : Port := s.klk.ports.get (fun _ => { }) p
/-- A port changed. -/
def State.modPort (p : Nat) (f : Port → Port) (s : State) : State :=
  s.withKlk fun k => { k with ports := k.ports.set (fun _ => { }) p (f (s.port p)) }

/-- A port's session number: a random value at reset (R345). -/
def State.session (s : State) (p : Nat) : Nat := (s.port p).session.getD ((Config.freeValue (s.klk.seed + p)).toNat % 65536)

/-- A port is ACTIVE (R344). -/
def State.portActive (s : State) (p : Nat) : Bool := s.fieldOf KLK_PORT_STAT_STATE p == 6

/-- KLK_MOD_ID as a port goes by it: a change takes effect at the port's next NEGOTIATE, which one in CREDIT_INIT or ACTIVE has
behind it (R354). -/
def State.modId (s : State) (p : Nat) : W32 :=
  if s.fieldOf KLK_PORT_STAT_STATE p = 5 ∨ s.fieldOf KLK_PORT_STAT_STATE p = 6 then (s.port p).id else s.reg .KLK_MOD_ID 0
/-- The module ID of a port, and that it is valid. -/
def State.portId (s : State) (p : Nat) : BitVec 11 := (s.modId p).truncate 11
def State.portValid (s : State) (p : Nat) : Bool := (s.modId p).getLsbD 31

/-- A frame queued at a port on a virtual channel; `origin` is the port it came from, 8 or more for an own frame. -/
def State.queueFrame (p vc origin no : Nat) (f : Frame) (s : State) : State :=
  s.modPort p fun q => { q with queue := q.queue ++ [{ vc := vc, frame := f, origin := origin, no := no }] }

/-- A frame is dropped at a port: counted, with the event and the fault at most once in 1 ms (R349). -/
def State.dropFrame (p : Nat) (s : State) : State :=
  let b := s.beat.lbc
  let s := s.countUp KLK_DROP_COUNT p 1
  let l := b :: (s.port p).drops.filter (fun x => decide (b < x + 800000))
  let quiet := match (s.port p).dropsAt with | some a => decide (b < a + 800000) | none => false
  let s := s.modPort p fun q => { q with drops := l, dropsAt := if quiet then q.dropsAt else some b }
  if quiet then s else (s.event (1008 + 8 * p + 5)).fault 9 0 0x0903 (min l.length 65535 * 65536 + p) 0

/-- The ports that a VC0 frame from `origin` is sent on: every ACTIVE one with FLOOD set but the one it came from (R350). -/
def State.floodPorts (s : State) (origin : Nat) : List Nat :=
  (List.range 8).filter (fun p => p != origin && s.portActive p && s.bitOf KLK_PORT_CFG_FLOOD p)

/-- A VC0 frame sent on the ports of its flood; one without a valid module ID drops it (R344, R348, R349). -/
def State.floodFrom (origin no : Nat) (f : Frame) (s : State) : State :=
  each (s.floodPorts origin) (fun p s => if s.portValid p then s.queueFrame p 0 origin no f else s.dropFrame p) s

/-- An own frame of a type, with AUX, destination and payload. -/
def State.ownFrame (s : State) (type aux dest : Nat) (payload : List Byte) : Frame :=
  ⟨BitVec.ofNat 12 aux, BitVec.ofNat 6 (s.fieldOf KLK_MOD_ID_TTL 0), BitVec.ofNat 11 (s.fieldOf KLK_MOD_ID_ID 0),
   BitVec.ofNat 11 dest, 0, payload.length / 8, type, payload, true⟩

/-- An own VC0 frame flooded; in FAULT_STOP only the NOTICE goes out (R440). -/
def State.flood (type aux : Nat) (payload : List Byte) (s : State) : State :=
  if !s.faultStop || type == 3 then s.floodFrom 8 0 (s.ownFrame type aux 0 payload) else s

end Sys2Proof.Machine
end

