-- ==== Sys2Proof/Machine/Line.lean ====
section
/-! DEFINITION. The KelorLink line code: frames as words, the alignment blocks of version 2 with their scrambling and stuffing,
the marked word stream of version 1, and the reading of both ends (R327 to R333, R342, R343). -/

namespace Sys2Proof.Machine

/-! ### Frames as words (R333) -/

/-- The 8-byte header of a frame. -/
def frameHeader (f : Frame) : Nat :=
  f.aux.toNat * 2 ^ 52 + f.ttl.toNat * 2 ^ 46 + f.src.toNat * 2 ^ 35 + f.dest.toNat * 2 ^ 24 + f.seq.toNat * 2 ^ 10 + f.len % 64 * 16 + f.type % 16

/-- Bytes as 32-bit words, little-endian (R7). -/
def wordsOf : List Byte → List Nat
  | a :: b :: c :: d :: r => ofLE [a, b, c, d] :: wordsOf r
  | _ => []

/-- The words of a frame on the line: header, payload and CRC-32, inverted where it is not to match (R445). -/
def frameWords (f : Frame) : List Nat :=
  let l := leBytes 8 (frameHeader f) ++ f.payload
  let c := (crc32 l).toNat
  wordsOf (l ++ leBytes 4 (if f.crcOk then c else 2 ^ 32 - 1 - c))

/-- The frame that some words spell: all of its words but the last stand under the CRC. -/
def frameRead (l : List Nat) : Frame :=
  let h := l.getD 0 0 + l.getD 1 0 * 2 ^ 32
  let bytes := l.dropLast.flatMap (leBytes 4)
  ⟨BitVec.ofNat 12 (h / 2 ^ 52), BitVec.ofNat 6 (h / 2 ^ 46), BitVec.ofNat 11 (h / 2 ^ 35), BitVec.ofNat 11 (h / 2 ^ 24),
   BitVec.ofNat 12 (h / 2 ^ 10), h / 16 % 64, h % 16, bytes.drop 8, (crc32 bytes).toNat == l.getLast?.getD 0⟩

/-- The frames that the words from place `k` of a block on carry, in order, IDLE words skipped, each with its first word's place;
`none` for one in error. A word lost with its lane, a LEN above 32 or a frame that would cross the block's end leaves no
boundary to go on from (R332, R334, R337). -/
def readFrames : Nat → Nat → List (Option Nat) → List (Nat × Option Frame)
  | 0, _, _ => []
  | _ + 1, _, [] => []
  | _ + 1, k, none :: _ => [(k, none)]
  | n + 1, k, some w :: r =>
    let len := w / 16 % 64
    let need := 3 + 2 * len
    if w % 16 = 0 then readFrames n (k + 1) r
    else if 32 < len ∨ r.length + 1 < need then [(k, none)]
    else (k, (((some w :: r).take need).mapM id).map frameRead) :: readFrames n (k + need) (r.drop (need - 1))

/-! ### The bits of a lane, version 2 (R327 to R330) -/

/-- The 24-bit comma 0x7F_FFF0, most significant bit first: one 0, nineteen 1s, four 0s. -/
def comma : List Bool := false :: List.replicate 19 true ++ List.replicate 4 false

/-- The scrambler's state at the end of a comma, for lane `i` of the port (R328). -/
def scrambleSeed (i : Nat) : BitVec 23 := 0x7fffff#23 ^^^ BitVec.ofNat 23 i

/-- The additive scrambler of R328; it is its own reverse. -/
def scramble : BitVec 23 → List Bool → List Bool
  | _, [] => []
  | s, d :: r =>
    let k := xor (s.getLsbD 22) (s.getLsbD 17)
    xor d k :: scramble ((s <<< 1) ||| (if k then 1#23 else 0#23)) r

/-- Stuffing after `n` line bits equal to `b`: a run of 14 takes one bit of the opposite value, with which the count restarts
(R329). -/
def stuff : Nat → Bool → List Bool → List Bool
  | _, _, [] => []
  | n, b, d :: r =>
    if (if d = b then n + 1 else 1) = 14 then d :: (!d) :: stuff 1 (!d) r else d :: stuff (if d = b then n + 1 else 1) d r

/-- The first `k` payload bits of a stuffed section, and what follows them; none where the bit after a run of 14 is not its
complement, or bits lack (R330). -/
def destuff : Nat → Nat → Bool → List Bool → Option (List Bool × List Bool)
  | 0, _, _, l => some ([], l)
  | _ + 1, _, _, [] => none
  | k + 1, n, b, d :: r =>
    if (if d = b then n + 1 else 1) = 14 then
      match r with
      | [] => none
      | e :: r' => if e = d then none else (destuff k 1 e r').map (fun x => (d :: x.1, x.2))
    else (destuff k (if d = b then n + 1 else 1) d r).map (fun x => (d :: x.1, x.2))

/-- The filler: `n` bits that alternate, beginning with the complement of `b` (R327). -/
def filler (n : Nat) (b : Bool) : List Bool := (List.range n).map (fun i => xor (!b) (i % 2 == 1))

/-- The 8,846 line bits of an alignment block of lane `i` over its 8,192 payload bits (R327). -/
def alignmentBlock (i : Nat) (payload : List Bool) : List Bool :=
  let section_ := stuff 4 false (scramble (scrambleSeed i) payload)
  comma ++ section_ ++ filler (8822 - section_.length) (section_.getLast?.getD false)

/-- A comma stands somewhere in these line bits. -/
def hasComma : List Bool → Bool
  | [] => false
  | d :: r => (d :: r).take 24 == comma || hasComma r

/-- The payload bits that lane `i` receives with a block's line bits; none for a block in error: no comma in its place, a
removed bit that is not the complement, or a comma outside its place (R330). -/
def readBlock (i : Nat) (l : List Bool) : Option (List Bool) :=
  if l.take 24 = comma then
    match destuff 8192 4 false (l.drop 24) with
    | some (p, _) => if hasComma (l.drop 1) then none else some (scramble (scrambleSeed i) p)
    | none => none
  else none

/-- The bits of words, least significant first. -/
def wordBits (l : List Nat) : List Bool := l.flatMap (fun w => (List.range 32).map w.testBit)

/-- The words of bits. -/
def bitWords : Nat → List Bool → List Nat
  | 0, _ => []
  | n + 1, l => (l.take 32).foldr (fun b a => 2 * a + b.toNat) 0 :: bitWords n (l.drop 32)

/-- The 256 words of a block that the lane at position `k` of `w` carries (R331). -/
def laneShare (w k : Nat) (words : List Nat) : List Nat := (List.range 256).map (fun j => words.getD (w * j + k) 0)

/-- The words of a block from what each lane, in ascending order, delivered; a lane in error delivered none (R330, R331). -/
def joinLanes (l : List (Option (List Nat))) : List (Option Nat) :=
  (List.range (256 * l.length)).map (fun j => (l.getD (j % l.length) none).map (fun x => x.getD (j / l.length) 0))

/-! ### The bits of a lane, version 1 (R342, R343) -/

/-- The self-synchronous scrambler 1 + x^39 + x^58 of Clause 49 (PRESUMED, log entry 86). -/
def clause49 : BitVec 58 → List Bool → List Bool × BitVec 58
  | s, [] => ([], s)
  | s, d :: r =>
    let o := xor d (xor (s.getLsbD 38) (s.getLsbD 57))
    let x := clause49 ((s <<< 1) ||| (if o then 1#58 else 0#58)) r
    (o :: x.1, x.2)

/-- Blocks of 64 payload bits after their sync headers: a marker's 0b10, a data block's 0b01. -/
def blocks66 : Bool → BitVec 58 → List (List Bool) → List Bool × BitVec 58
  | _, s, [] => ([], s)
  | marker, s, p :: r =>
    let x := clause49 s p
    let y := blocks66 false x.2 r
    (marker :: (!marker) :: x.1 ++ y.1, y.2)

/-- What lane `i` of a port, at position `k` of `w`, sends from a marker to the next: the marker, then its pairs of the word stream. -/
def markedLane (i w k : Nat) (s : BitVec 58) (words : List Nat) : List Bool × BitVec 58 :=
  let pairs := (List.range (words.length / (2 * w))).map (fun j => wordBits [words.getD (2 * (w * j + k)) 0, words.getD (2 * (w * j + k) + 1) 0])
  blocks66 true s (wordBits (wordsOf (leBytes 1 0x3C ++ leBytes 1 i ++ leBytes 1 w ++ leBytes 5 0)) :: pairs)

/-- The reverse of `clause49`, whose state is the line bits received last. -/
def unclause49 : BitVec 58 → List Bool → List Bool × BitVec 58
  | s, [] => ([], s)
  | s, d :: r =>
    let x := unclause49 ((s <<< 1) ||| (if d then 1#58 else 0#58)) r
    (xor d (xor (s.getLsbD 38) (s.getLsbD 57)) :: x.1, x.2)

/-- What a block with the sync header `a`, `b` and the descrambled bits `p` says. -/
def blockItem (a b : Bool) (p : List Bool) : RxItem :=
  match a, b, bitWords 2 p with
  | false, true, [x, y] => .pair (some (x, y))
  | true, false, [x, y] => if x % 256 = 0x3C ∧ x / 2 ^ 24 = 0 ∧ y = 0 then .marker (x / 256 % 256) (x / 65536 % 256) else .pair none
  | _, _, _ => .pair none

/-- The oldest 66 bits of a lane taken as a block. Block lock is lost with the sixteenth invalid sync header of 64 (Clause 49;
PRESUMED, log entry 86). -/
def RxLane.takeBlock (l : RxLane) : RxLane :=
  let a := l.bits.getD 0 false
  let b := l.bits.getD 1 false
  let x := unclause49 l.scr ((l.bits.drop 2).take 64)
  let n := l.bad + if a = b then 1 else 0
  { bits := l.bits.drop 66, scr := x.2, seen := (l.seen + 1) % 64, bad := if l.seen = 63 then 0 else n
    lost := l.lost || decide (16 ≤ n), fifo := l.fifo ++ [blockItem a b x.1] }

/-- Line bits reach a version 1 lane. -/
def RxLane.receive (bits : List Bool) (l : RxLane) : RxLane :=
  (List.range ((l.bits.length + bits.length) / 66)).foldl (fun l _ => l.takeBlock) { l with bits := l.bits ++ bits }

/-- The frames that words from a frame boundary on carry, IDLE words skipped, each with the lane of its first word, and the words of a
frame that is still to come whole; `none` for a frame from which no boundary is known (R334, R337, R343). -/
def streamFrames : Nat → List (Nat × Option Nat) → List (Nat × Option Frame) × List (Nat × Option Nat)
  | 0, l => ([], l)
  | _ + 1, [] => ([], [])
  | _ + 1, (i, none) :: _ => ([(i, none)], [])
  | n + 1, (i, some w) :: r =>
    let need := 3 + 2 * (w / 16 % 64)
    if w % 16 = 0 then streamFrames n r
    else if 32 < w / 16 % 64 then ([(i, none)], [])
    else if r.length + 1 < need then ([], (i, some w) :: r)
    else
      let x := streamFrames n (r.drop (need - 1))
      ((i, (((i, some w) :: r).take need |>.mapM Prod.snd).map frameRead) :: x.1, x.2)

/-! ### A port's word stream (R331, R332, R343) -/

/-- KLK_PORT_STAT.STATE (R344): 0 DISABLED, 1 DETECT, 2 ALIGN, 3 EQ, 4 NEGOTIATE, 5 CREDIT_INIT, 6 ACTIVE, 7 NO_PARTNER. -/
def State.portState (s : State) (p : Nat) : Nat := s.fieldOf KLK_PORT_STAT_STATE p
/-- The port runs version 2. -/
def State.portV2 (s : State) (p : Nat) : Bool := s.bitOf KLK_PORT_STAT_VER p
/-- The lanes in use, ascending, and the width. -/
def State.portLanes (s : State) (p : Nat) : List Nat := (List.range 4).filter (s.fieldOf KLK_PORT_STAT_LANES p).testBit
def State.portWidth (s : State) (p : Nat) : Nat := (s.portLanes p).length

/-- The word stream of a port changed. -/
def State.modStream (p : Nat) (f : WordStream → WordStream) (s : State) : State := s.modPort p fun q => { q with out := f q.out }

/-- A width change of the port goes on (R347). -/
def State.changing (s : State) (p : Nat) : Bool :=
  match (s.port p).changeAt with | some a => decide (s.beat.lbc < a + 1600) | none => false

/-- The LINK frame of a port (R336). While a width change goes on, AUX[3:0] tells the partner the new lane set (R347; DESIGN CHOICE,
log entry 94), and AUX[7:4] the lanes that this side has lost in it. -/
def State.linkFrame (s : State) (p : Nat) : Frame :=
  let q := s.port p
  let r (v : Nat) : Nat := q.ret.getD v 0 % 4096
  let w := r 3 * 2 ^ 52 + r 2 * 2 ^ 40 + r 1 * 2 ^ 28 + r 0 * 2 ^ 16 + flag 14 (q.refuse && !(s.portV2 p)) + flag 13 q.nak + q.ack % 4096
  { s.ownFrame 7 (if s.changing p then s.fieldOf KLK_PORT_STAT_LANES p + q.gone % 16 * 16 else 0) 0 (leBytes 8 w) with src := s.portId p }

/-- A LINK frame joins the word stream; its NAK and REFUSE are told with it (R336, R337, R341). -/
def State.putLink (p : Nat) (s : State) : State :=
  let l := frameWords (s.linkFrame p)
  let b := s.beat.lbc
  s.modPort p fun q => { q with nak := false, refuse := false, out := { q.out with words := q.out.words ++ l, linkAt := b } }

/-- Every block begins with a LINK frame, and one follows every marker (R332, R343). -/
def State.openBlock (p : Nat) (s : State) : State := when (s.port p).out.words.isEmpty (State.putLink p) s

/-- The scramblers of a version 1 port's lanes after the bits of the block sent last; a version 2 port's start anew at every comma. -/
def State.sentScramblers (s : State) (p : Nat) : List (BitVec 58) :=
  let w := s.portWidth p
  let o := (s.port p).out
  if s.portV2 p then o.scr
  else (List.range 4).map (fun i => match (s.portLanes p).findIdx? (· == i) with
    | some k => (markedLane i w k (o.scr.getD i 0) o.last).2
    | none => o.scr.getD i 0)

/-- IDLE words fill a version 2 block, or bring a version 1 stream to the same number of pairs on every lane; what the block
carried is what the lanes send (R332, R343). -/
def State.closeBlock (p : Nat) (s : State) : State :=
  let w := s.portWidth p
  let v2 := s.portV2 p
  let sent := s.sentScramblers p
  s.modStream p fun o =>
    let n := if v2 then 256 * w else (o.words.length + 2 * w - 1) / (2 * w) * (2 * w)
    { o with
      words := [], last := o.words ++ List.replicate (n - o.words.length) 0
      scr := sent }

/-- A frame of `n` words does not go into the block under way: version 2, it would cross the boundary; version 1, 256 data
blocks a lane have been sent since the marker (R332, R343). -/
def State.blockFull (s : State) (p n : Nat) : Bool :=
  let m := (s.port p).out.words.length
  if s.portV2 p then decide (256 * s.portWidth p < m + n) else decide (512 * s.portWidth p ≤ m)

/-- A version 1 port owes a LINK frame before `n` more words: a refusal, or 256 beats would pass since the last, at 5.12 beats a
data block (R341 to R343). -/
def State.linkDue (s : State) (p n : Nat) : Bool :=
  let q := s.port p
  !(s.portV2 p) && (q.refuse || decide (q.out.linkAt + 256 < s.beat.lbc + 6 * ((n + 5) / (2 * s.portWidth p) + 1)))

/-- A frame of `n` words is to go at this frame boundary: the block under way is closed where it must be, and LINK frames go
first. -/
def State.makeRoom (p n : Nat) (s : State) : State :=
  let s := s.openBlock p
  let s := if s.blockFull p n then (s.closeBlock p).openBlock p else s
  when (s.linkDue p n) (State.putLink p) s

/-- Words join the stream. -/
def State.putWords (p : Nat) (l : List Nat) (s : State) : State :=
  let s := s.modStream p fun o => { o with words := o.words ++ l }
  if s.portV2 p && (s.port p).out.words.length == 256 * s.portWidth p then s.closeBlock p else s

/-- An IDLE word goes. -/
def State.putIdle (p : Nat) (s : State) : State := (s.makeRoom p 1).putWords p [0]

/-- The lane, by its index of R326, that carries the first word of the frame that goes next (R331, R343, R363). -/
def State.sendLane (s : State) (p : Nat) : Nat :=
  let m := (s.port p).out.words.length
  4 * p + (s.portLanes p).getD ((if s.portV2 p then m else m / 2) % s.portWidth p) 0

/-- The line bits that each active lane sends, ascending, for the block sent last: an alignment block, or on version 1 a marker
and the data blocks after it. -/
def State.lineBits (s : State) (p : Nat) : List (List Bool) :=
  let o := (s.port p).out
  let w := s.portWidth p
  (s.portLanes p).zipIdx.map (fun x =>
    if s.portV2 p then alignmentBlock x.1 (wordBits (laneShare w x.2 o.last)) else (markedLane x.1 w x.2 (o.scr.getD x.1 0) o.last).1)

/-- What the lanes of a version 2 port receive with the line bits of one block each, ascending: the words. -/
def State.readLanes (s : State) (p : Nat) (lines : List (List Bool)) : List (Option (List Nat)) :=
  (s.portLanes p).zipIdx.map (fun x => (readBlock x.1 (lines.getD x.2 [])).map (bitWords 256))

end Sys2Proof.Machine
end

