-- ==== Sys2Proof/Machine/Segments.lean ====
section
/-! DEFINITION. Rows, the Segment Directory, marker lists and markers (04_segments). -/

namespace Sys2Proof.Machine

/-! ### The backed range (R3, R312) -/

/-- C, the controllers in the address interleave: none before training (R312, R313). -/
def State.controllers (s : State) : Nat := s.fieldOf MEM_IL_C 0

/-- The end of the backed GDDR6 range: 8 GiB for each controller in the interleave. -/
def State.backed (s : State) : Nat := s.controllers * 0x200000000

/-- The `n` bytes at `a` lie in the backed GDDR6 range. -/
def State.inGddr (s : State) (a n : Nat) : Bool := decide (a + n ≤ s.backed)

/-- The `n` bytes at `a` lie in the Central Store. -/
def inStore (a n : Nat) : Bool := decide (0x4000000000 ≤ a) && decide (a + n ≤ 0x4000000000 + 0x8000000)

/-- The `n` bytes at `a` lie in GDDR6 or the Central Store. -/
def State.inRam (s : State) (a n : Nat) : Bool := s.inGddr a n || inStore a n

/-! ### Rows (R112 to R114) -/

/-- The size of a row of `n` channels. -/
def rowSize (fixed : Bool) (n : Nat) : Nat := if fixed then 4 * ceilDiv n 16 else 4 + 4 * ceilDiv n 8

/-- The timing set, the marker code and RPT_M1 of a free-edge row. -/
def rowTset (r : List Byte) : Nat := leAt r 3 1
def rowMark (r : List Byte) : Nat := leAt r 2 1
def rowRpt (r : List Byte) : Nat := leAt r 0 2

/-- The raw symbol of site-local channel `i` of a free-edge row. -/
def freeSym (r : List Byte) (i : Nat) : Nat := leAt r (4 + i / 2) 1 / 16 ^ (i % 2) % 16

/-- The symbol of site-local channel `i` of a fixed-edge row, as its free-edge equivalent (R118). -/
def fixedSym (r : List Byte) (dirMask i : Nat) : Nat :=
  let c := leAt r (i / 4) 1 / 4 ^ (i % 4) % 4
  if dirMask / 2 ^ i % 2 = 0 then c else [4, 5, 7, 8].getD c 7

/-- A symbol resolved through the site's map and the channel's previous symbol (R116, R117). -/
def resolveSym (symmap : W32) (prev : Option Nat) (sym : Nat) : Nat :=
  if sym = 15 then prev.getD 2
  else if 10 ≤ sym then bits symmap (4 * (sym - 10) + 3) (4 * (sym - 10))
  else sym

/-! ### Directory entries (R121, R122) -/

/-- A directory entry of zeros. -/
def zeroEntry : List Byte := List.replicate 32 0

/-- The entry of a segment. -/
def State.dirEntry (s : State) (seg : Nat) : List Byte := s.seq.dir.get (fun _ => zeroEntry) seg

/-- The entry of a segment written. -/
def State.setDir (seg : Nat) (e : List Byte) (s : State) : State :=
  s.withSeq fun q => { q with dir := q.dir.set (fun _ => zeroEntry) seg e }

def entBase (e : List Byte) : Nat := leAt e 0 4 % 2 ^ 30 * 128
def entLen (e : List Byte) : Nat := leAt e 4 4 + 1
def entFixed (e : List Byte) : Bool := leAt e 8 1 % 2 == 1
def entStallOk (e : List Byte) : Bool := leAt e 8 1 / 2 % 2 == 1
def entCrcEn (e : List Byte) : Bool := leAt e 8 1 / 4 % 2 == 1
def entValid (e : List Byte) : Bool := leAt e 8 1 / 8 % 2 == 1
def entNch (e : List Byte) : Nat := leAt e 0x0A 1
def entEnd (e : List Byte) : Nat := leAt e 0x0B 1
def entMkl (e : List Byte) : Nat := leAt e 0x0C 4 % 2 ^ 30 * 128
def entNext (e : List Byte) : Nat := leAt e 0x10 2
def entCrc (e : List Byte) : Nat := leAt e 0x14 4

/-- The row size of a segment. -/
def entRow (e : List Byte) : Nat := rowSize (entFixed e) (entNch e)

/-- The reserved fields of an entry are 0 (R121). -/
def entReservedOk (e : List Byte) : Bool :=
  leAt e 0 4 < 2 ^ 30 && leAt e 8 2 < 16 && leAt e 0x0C 4 < 2 ^ 30 && zeroAt e 0x12 2 && zeroAt e 0x18 8

/-- The direction mask of a segment's list; 0 with no list (R124). -/
def State.dirMask (s : State) (e : List Byte) : Nat := if entMkl e = 0 then 0 else s.memNat (entMkl e + 0x10) 16

/-- The number of sparse entries of a segment's list. -/
def State.mklEntries (s : State) (e : List Byte) : Nat := if entMkl e = 0 then 0 else s.memNat (entMkl e) 4

/-- Sparse entry `j`: row offset and marker code. -/
def State.mklEntry (s : State) (e : List Byte) (j : Nat) : Nat × Nat :=
  (s.memNat (entMkl e + 0x80 + 8 * j) 4, s.memNat (entMkl e + 0x84 + 8 * j) 1)

/-- The idle row of a segment (R124). -/
def State.idleRow (s : State) (e : List Byte) : List Byte := s.mem (entMkl e + 0x20) (entRow e)

/-- The checks of R125 on an entry. -/
def State.entryOk (s : State) (e : List Byte) : Bool :=
  entReservedOk e &&
  (!(entValid e) ||
    (let l := s.mem (entMkl e) 128
     let n := leAt l 0 4
     let mask := leAt l 0x10 16
     decide (entEnd e < 3) && decide (1 ≤ entNch e) && decide (entNch e ≤ 128) &&
     s.inGddr (entBase e) (entLen e * entRow e) &&
     (entMkl e != 0 || !(entStallOk e)) &&
     (entMkl e == 0 ||
       (s.inGddr (entMkl e) (128 + 8 * n) && zeroAt l 4 12 && zeroAt l (0x20 + entRow e) (68 - entRow e) &&
        zeroAt l 0x64 28 && decide (mask < 2 ^ entNch e) &&
        (entFixed e || (n == 0 && mask == 0 && leAt l 0x22 1 == 0))))))

/-- The bytes the CRC of a segment runs over (R128). -/
def State.crcBytes (s : State) (e : List Byte) : List Byte :=
  s.mem (entBase e) (entLen e * entRow e) ++
  (if entMkl e = 0 then [] else s.mem (entMkl e) (128 + 8 * s.mklEntries e))

/-- The sparse list is in order with codes and offsets as R124 and R127 ask. -/
def State.listOk (s : State) (e : List Byte) : Bool :=
  (List.range (s.mklEntries e)).all (fun j =>
    let x := s.mklEntry e j
    x.2 != 0 && decide (x.1 < entLen e) && (j == 0 || decide ((s.mklEntry e (j - 1)).1 < x.1)))

/-! ### Markers (R129 to R133) -/

/-- A marker table entry. -/
def State.mkEntry (s : State) (site code : Nat) : List Byte :=
  s.seq.mktab.get (fun _ => List.replicate 16 0) (site * 256 + code)

/-- A marker table entry loaded. -/
def State.setMkEntry (site code : Nat) (e : List Byte) (s : State) : State :=
  s.withSeq fun q => { q with mktab := q.mktab.set (fun _ => List.replicate 16 0) (site * 256 + code) e }

/-- The marker time in coarse steps: the vector start rounded to the nearest step, ties up, plus the offset (R130). -/
def markerStep (start period offset : Nat) : Nat := (start + 78125) / 156250 + min offset (period / 156250)

/-- A marker code acts at a vector of a site: its balls and internal lines, 12 beats later at the balls (R130 to R132). -/
def State.placeMarker (site code start period issued no : Nat) (s : State) : State :=
  if code = 0 then s
  else
    let e := s.mkEntry site code
    let ofs := leAt e 4 4 % 2 ^ 19
    let t := markerStep start period ofs + 96
    let balls := (List.range 16).filter (fun k => leAt e 0 2 / 2 ^ k % 2 == 1)
    let owned := balls.filter (fun k => s.bitOf VST_MK_CFG_EN k && s.fieldOf VST_MK_CFG_SITE k == site)
    let lines := (List.range 64).filter (fun j => leAt e 8 8 / 2 ^ j % 2 == 1)
    let s := when (decide (period / 156250 < ofs)) (State.putBit VST_SITE_STAT_MK_CLAMP site true) s
    let s := when (decide (owned.length < balls.length)) (State.putBit VST_SITE_STAT_MK_DENIED site true) s
    s.withSeq fun q => { q with
      mkActs := q.mkActs ++ owned.map (fun k => ⟨site, no, issued, k, leAt e 2 1, t⟩)
      imActs := q.imActs ++ lines.map (fun j => (j, site, issued, t)) }

/-- A marker ball. -/
def State.mark (s : State) (k : Nat) : Mk := s.seq.marks.get (fun _ => { }) k
/-- A marker ball set. -/
def State.setMark (k : Nat) (m : Mk) (s : State) : State :=
  s.withSeq fun q => { q with marks := q.marks.set (fun _ => { }) k m }

/-- An action on a ball at a coarse step: 0 PULSE, which shortens nothing, 1 SET, 2 CLEAR, 3 TOGGLE, 4 the quiet state, which
lets a pulse in progress end (R131, R133). -/
def State.actMark (a : MkAct) (s : State) : State :=
  let m := s.mark a.ball
  let m := match m.ends with
    | some e => if e ≤ a.coarse then Mk.mk false none else m
    | none => m
  let pw := s.fieldOf VST_MK_CFG_PW a.ball
  match a.action with
  | 0 => if m.on && m.ends.isNone then s.setMark a.ball m
    else s.setMark a.ball { on := true, ends := some (match m.ends with | some e => max e (a.coarse + pw) | none => a.coarse + pw) }
  | 1 => s.setMark a.ball { on := true, ends := none }
  | 2 => s.setMark a.ball { on := false, ends := none }
  | 3 => s.setMark a.ball { on := !m.on, ends := none }
  | _ => if m.ends.isSome then s.setMark a.ball m else s.setMark a.ball { on := false, ends := none }

/-- The marker actions in the order of their coarse steps, later vectors after earlier ones (R131). -/
def insertAct (x : MkAct) : List MkAct → List MkAct
  | [] => [x]
  | y :: r => if x.coarse < y.coarse then x :: y :: r else y :: insertAct x r

/-- Of two actions of one site on one ball at one coarse step, the later vector's stands (R131): those of a list in the order
of their steps that no later vector replaces. -/
def standing : List MkAct → List MkAct
  | [] => []
  | a :: r => if a.action != 4 && r.any (fun b => b.action != 4 && b.thr == a.thr && b.ball == a.ball && b.coarse == a.coarse && b.vec != a.vec)
      then standing r else a :: standing r

/-- The marker actions that reach their balls before `coarse` are taken; the internal events of the beat that ended are
merged by line, earliest step first (R132). -/
def State.settleMarks (coarse : Nat) (s : State) : State :=
  let due := (s.seq.mkActs.filter (fun a => decide (a.coarse < coarse))).foldl (fun l a => insertAct a l) []
  let s := each (standing due) State.actMark s
  let ims := s.seq.imActs.filter (fun a => decide (a.2.2.2 < coarse))
  let lines := (ims.map (fun a => a.1)).eraseDups
  let first (j : Nat) : Nat := (ims.filter (fun a => a.1 == j)).foldl (fun m a => min m a.2.2.2) coarse
  let s := s.withSeq fun q => { q with
    mkActs := q.mkActs.filter (fun a => !decide (a.coarse < coarse))
    imActs := q.imActs.filter (fun a => !decide (a.2.2.2 < coarse))
    imNow := lines.map (fun j => (j, first j % 8)) }
  s.countUp VST_IM_COLL_COUNT 0 (ims.length - lines.length)

/-- The actions that reach ball `k` before coarse step `e` are taken. -/
def State.settleBall (k e : Nat) (s : State) : State :=
  let mine (a : MkAct) : Bool := a.ball == k && decide (a.coarse < e)
  let s := each (standing ((s.seq.mkActs.filter mine).foldl (fun l a => insertAct a l) [])) State.actMark s
  s.withSeq fun q => { q with mkActs := q.mkActs.filter (fun a => !mine a) }

/-- MK_PULSE_END: the pulse of a ball ends, after the actions that reach the ball before its end; one that they extend or end is
left as they leave it (R131). -/
def execMkPulseEnd (ball : Fin 16) (s : State) : Host.Outcome State Fault Refusal :=
  done <| s.live fun s =>
    match (s.mark ball.val).ends with
    | some e =>
      if e < 8 * (s.beat.lbc + 1) then
        let s := s.settleBall ball.val e
        if (s.mark ball.val).ends = some e then s.setMark ball.val { on := false, ends := none } else s
      else s
    | none => s

/-- Whether ball MKk is electrically high: its logical state under INV; deasserted while its EN is clear
(R131, R133). A pulse or a level that EN held back goes on beneath and shows again once EN is set (DESIGN CHOICE, log entry 92). -/
def State.mkBall (s : State) (k : Nat) : Bool :=
  xor ((s.mark k).on && s.bitOf VST_MK_CFG_EN k) (s.bitOf VST_MK_CFG_INV k)

/-- The entries of a segment that a running thread has locked (R126). -/
def State.locked (s : State) (seg : Nat) : Bool := (List.range 32).any (fun n => (s.thr n).locks.contains seg)

end Sys2Proof.Machine
end

