-- ==== Sys2Proof/Machine/Cond.lean ====
section
/-! DEFINITION. Happenings of condition slots, on this module and over a span (R170 to R172, R196), and what Husk's
injection inverts. -/

namespace Sys2Proof.Machine

/-- A site's abort is due, with beat 1 in beat `b` or before it (R25). -/
def Thread.abortsBy (t : Thread) (b : Nat) : Bool := match t.abortAt with | some x => decide (x.1 ≤ b) | none => false

/-- Condition slot `k` of thread `n`. -/
def State.slot (s : State) (n k : Nat) : Slot := (s.thr n).slots.get (fun _ => { }) k
/-- A condition slot set. -/
def State.setSlot (n k : Nat) (v : Slot) (s : State) : State :=
  s.modThr n fun t => { t with slots := t.slots.set (fun _ => { }) k v }

/-- Thread `n` is the member of an enabled span (R194). -/
def State.inSpan (s : State) (n : Nat) : Bool := s.bitOf SEQ_SPAN_CFG_EN 0 && s.fieldOf SEQ_SPAN_CFG_SITE 0 == n

/-- The span latency in beats. -/
def State.lSpan (s : State) : Nat := s.fieldOf SEQ_SPAN_LAT_L_SPAN 0

/-- Two frames of one member and burst beat joined: their slots with their vectors, their flags, and the PI of an arrival or a
timeout (R335). -/
def Cond.join (c d : Cond) : Cond :=
  { c with
    slots := c.slots ||| d.slots
    flags := c.flags ||| d.flags
    pi := if d.flags % 4 = 0 then c.pi else d.pi
    nos := c.nos ++ d.nos.filter (fun x => !(c.nos.any (fun y => y.1 == x.1))) }

/-- Something is put in the COND frame of burst beat `b` that this module sends, and heard by itself (R196, R335). -/
def State.spanPut (b slots flags pi : Nat) (nos : List (Nat × Nat)) (s : State) : State :=
  let me := s.fieldOf KLK_MOD_ID_ID 0
  let d : Cond := ⟨me, b, slots, flags, pi, nos⟩
  let put (l : List Cond) : List Cond :=
    if l.any (fun c => c.member == me && c.beat == b) then l.map (fun c => if c.member = me ∧ c.beat = b then c.join d else c)
    else l ++ [d]
  s.withSeq fun q => { q with span := { q.span with out := put q.span.out, heard := put q.span.heard } }

/-- A happening is noted for a thread at its slot-set beat; one before the burst's start beat is not seen (R172). -/
def State.noteHap (n : Nat) (h : Hap) (s : State) : State :=
  if decide (1 ≤ (s.thr n).st) && decide ((s.thr n).st ≤ 4) && decide ((s.thr n).startBeat ≤ h.beat) then
    s.modThr n fun t => { t with haps := t.haps ++ [h] }
  else s

/-- The members of the span, this module included. -/
def State.spanMembers (s : State) : Nat := s.fieldOf SEQ_SPAN_LAT_MEMBERS_M1 0 + 1

/-- Every member has had a happening of slot `k` in burst beat `b` (R196). -/
def State.spanAll (s : State) (k b : Nat) : Bool :=
  decide (s.spanMembers ≤ (((s.seq.span.heard.filter (fun c => c.beat == b && c.slots / 2 ^ k % 2 == 1)).map Cond.member).eraseDups).length)

/-- Slot `k` takes a compare source, or is the fail summary (R170, R185). -/
def State.compares (s : State) (n k : Nat) : Bool :=
  k == 16 || (List.range' 1 4).contains (s.fieldOf SEQ_CSL_CFG_SRC (16 * n + k))

/-- The vector of a compare happening of slot `k` in burst beat `b`: this module's own, where it had one, else the one whose
result another member has had two beats before, on an identical grid (R195, R196). -/
def State.spanOrigin (s : State) (n k b : Nat) : Option Origin :=
  if !s.compares n k then none
  else
    let me := s.fieldOf KLK_MOD_ID_ID 0
    match ((s.seq.span.heard.find? (fun c => c.member == me && c.beat == b)).bind (fun c => c.nos.find? (fun x => x.1 == k))) with
    | some x => some (.vector x.2)
    | none => some (.result ((s.thr n).startBeat + b - 2))

/-- A slot of a span member with a happening somewhere in burst beat `b`: set L_span beats later, with SPAN_AND only where
every member had one (R196). -/
def State.spanSet (n k b : Nat) (s : State) : State :=
  let and := k != 16 && s.bitOf SEQ_CSL_CFG_SPAN_AND (16 * n + k)
  if and && !s.spanAll k b then s
  else s.noteHap n ⟨k, (s.thr n).startBeat + b + s.lSpan, s.spanOrigin n k b⟩

/-- A happening of slot `k` of thread `n` at slot-set beat `b`: noted, or sent over the span and set everywhere L_span beats later
(R196). Slot 16 stands for the site fail summary, and bit 16 of the frame's slot word for it (DESIGN CHOICE, log entry 103). A slot
with SPAN set on a thread that is no member of an enabled span is set by this module alone, without L_span (R170, R196; DESIGN CHOICE,
log entry 104). -/
def State.happen (n k b : Nat) (no : Option Nat) (s : State) : State :=
  let spanned := s.inSpan n && (k == 16 || s.bitOf SEQ_CSL_CFG_SPAN (16 * n + k))
  if !spanned then s.noteHap n ⟨k, b, no.map Origin.vector⟩
  else if (s.thr n).startBeat ≤ b && (s.thr n).st != 0 then
    let rel := b - (s.thr n).startBeat
    (s.spanPut rel (2 ^ k) 0 0 (no.map (fun v => (k, v))).toList).spanSet n k rel
  else s

/-- The arguments that a condition slot's source has: its ARG is read no wider (R170). -/
def slotArgs (src : Nat) : Nat :=
  match src with
  | 3 => 128 | 4 => 128 | 5 => 16 | 6 => 128 | 7 => 16 | 8 => 16 | 9 => 32 | 10 => 64
  | _ => 1

/-- The slots of thread `n` whose source is `src` with argument `arg`. -/
def State.slotsOf (s : State) (n src arg : Nat) : List Nat :=
  (List.range 16).filter (fun k =>
    s.fieldOf SEQ_CSL_CFG_SRC (16 * n + k) == src && s.fieldOf SEQ_CSL_CFG_ARG (16 * n + k) % slotArgs src == arg)

/-- The source `src` with argument `arg` has a happening with slot-set beat `b` on every thread that names it (R170). -/
def State.happenAll (src arg b : Nat) (s : State) : State :=
  each (List.range 32) (fun n s => each (s.slotsOf n src arg) (fun k => State.happen n k b none) s) s

/-- Husk's injection is armed for this checker and instance (R445). -/
def State.injected (s : State) (chk inst : Nat) : Bool :=
  s.bitOf HSK_INJECT_EN 0 && s.fieldOf HSK_INJECT_CHK 0 == chk && s.fieldOf HSK_INJECT_INST 0 == inst

/-- One injection is used up: EN clears itself unless CONT is set (R446). -/
def State.useInjection (s : State) : State := if s.bitOf HSK_INJECT_CONT 0 then s else s.putBit HSK_INJECT_EN 0 false

/-- The burst beat of this module's member site (R195). -/
def State.burstBeat (s : State) (n : Nat) : Nat := s.beat.lbc - (s.thr n).startBeat

/-- The burst beat at which the SPANSYNC at a PI was last over. -/
def State.spanLeft (s : State) (pi : Nat) : Nat := ((s.seq.span.left.find? (fun x => x.1 == pi)).map Prod.snd).getD 0

/-- The arrivals (flag 1) or timeouts (flag 2) heard for the SPANSYNC at a PI since it was last over: members and burst beats. -/
def State.spanHeard (s : State) (flag pi : Nat) : List (Nat × Nat) :=
  (s.seq.span.heard.filter (fun c => c.flags / flag % 2 == 1 && c.pi == pi && decide (s.spanLeft pi ≤ c.beat))).map
    (fun c => (c.member, c.beat))

/-- The burst beat at which a SPANSYNC releases: known once every member has arrived (R198). -/
def State.spanRelease (s : State) (pi : Nat) : Option Nat :=
  let l := s.spanHeard 1 pi
  if s.spanMembers ≤ (l.map Prod.fst).eraseDups.length then some (l.foldl (fun m x => max m x.2) 0 + s.lSpan + 2) else none

/-- The burst beat at which the members of a SPANSYNC leave for its timeout target, if no release comes first (R199). -/
def State.spanExpiry (s : State) (pi : Nat) : Option Nat :=
  match s.spanHeard 2 pi with
  | [] => none
  | x :: l =>
    let e := l.foldl (fun m y => min m y.2) x.2 + s.lSpan + 2
    match s.spanRelease pi with
    | some r => if r ≤ e then none else some e
    | none => some e

/-- The SPANSYNC at a PI is over at burst beat `b`: what a member has sent for it before `b`, and what still arrives of that,
counts no more. -/
def State.spanForget (pi b : Nat) (s : State) : State :=
  s.withSeq fun q => { q with span := { q.span with
    heard := q.span.heard.filter (fun c => c.flags % 4 == 0 || c.pi != pi || decide (b ≤ c.beat))
    left := (q.span.left.filter (fun x => x.1 != pi)) ++ [(pi, b)] } }

end Sys2Proof.Machine
end

