-- ==== Sys2Proof/Machine/Acquire.lean ====
section
/-! DEFINITION. The acquisition units: samples, triggers, hold-off, forced triggers, averaging and masks, and the trigger
outputs (R241 to R259). -/

namespace Sys2Proof.Machine

/-- An acquisition unit. -/
def State.aq (s : State) (a : Nat) : Aq := s.cap.units.get (fun _ => { }) a
/-- An acquisition unit changed. -/
def State.modAq (a : Nat) (f : Aq → Aq) (s : State) : State :=
  s.withCap fun c => { c with units := c.units.set (fun _ => { }) a (f (s.aq a)) }
/-- The current slot of a unit. -/
def Aq.cur (u : Aq) : AqSlot := u.slots.get (fun _ => { }) u.slot
/-- The current slot changed. -/
def Aq.modCur (f : AqSlot → AqSlot) (u : Aq) : Aq := { u with slots := u.slots.set (fun _ => { }) u.slot (f u.cur) }

/-- L, PRE and the slots of a unit (R242). -/
def State.aqLen (s : State) (a : Nat) : Nat := (s.fieldOf CAP_AQ_CFG_LEN_M1 a + 1) * 512
def State.aqPre (s : State) (a : Nat) : Nat := s.fieldOf CAP_AQ_PRE_PRE a
def State.aqSlots (s : State) (a : Nat) : Nat := s.fieldOf CAP_AQ_CFG_SLOTS_M1 a + 1

/-- The address of sample `k` of slot `i`: a slot is a ring of L samples in its blocks (R242). -/
def State.aqAddr (s : State) (a i k : Nat) : Nat :=
  let l := s.aqLen a
  let j := i * l + k % l
  blockAddr ((s.aq a).blocks.getD (j / 512) 0) + 4 * (j % 512)

/-- The value of sample `k` of slot `i`. -/
def State.aqValue (s : State) (a i k : Nat) : Int := signed 32 (s.memNat (s.aqAddr a i k) 4)

/-- The arguments that a unit's trigger source has: its ARG is read no wider (R247). -/
def trigArgs (src : Nat) : Nat :=
  match src with
  | 2 => 64 | 3 => 16 | 4 => 512 | 5 => 256 | 6 => 32 | 8 => 16
  | _ => 1

/-- The units whose trigger source is `src` with argument `arg` (R247). -/
def State.aqNamed (s : State) (src arg : Nat) : List Nat :=
  (List.range 16).filter (fun a => s.fieldOf CAP_AQ_TRIG_SRC a == src && s.fieldOf CAP_AQ_TRIG_ARG a % trigArgs src == arg)

/-- An ignored trigger: counted, and the first of a slot raises its event (R248). -/
def State.aqIgnore (a : Nat) (s : State) : State :=
  let first := (s.aq a).cur.ignored == 0
  let s := (s.countUp CAP_AQ_IGN_COUNT a 1).modAq a (Aq.modCur fun x => { x with ignored := satAdd 16 x.ignored 1 })
  when first (State.event (784 + 4 * a + 3)) s

/-- The state of a unit, shown in CAP_AQ_STAT. -/
def State.aqState (a st : Nat) (s : State) : State :=
  let s := (s.modAq a fun u => { u with st := st, readySince := if st = 2 then s.beat.lbc else u.readySince })
  s.putField CAP_AQ_STAT_STATE a st

/-- A slot begins: FILL, or READY at once where PRE samples are in it (R244). -/
def State.aqFill (a : Nat) (s : State) : State := s.aqState a (if s.aqPre a ≤ (s.aq a).cur.n then 2 else 1)

/-- The current slot is complete: DONE after the last, else HOLDOFF, counted from the beat of its last sample, or the next slot (R244,
R251). -/
def State.aqComplete (a : Nat) (short : Bool) (s : State) : State :=
  let u := s.aq a
  let c := u.cur
  let n := match c.trig with
    | some t => min (s.aqLen a) (c.n - (t - s.aqPre a))
    | none => c.n
  let s := s.modAq a (Aq.modCur fun x => { x with complete := true, short := short, samples := n })
  let done := u.slot + 1
  let s := s.putField CAP_AQ_STAT_SLOTS_DONE a done
  if s.aqSlots a ≤ done then (s.aqState a 5).event (784 + 4 * a + 1)
  else
    let s := s.modAq a fun u => { u with
      slot := done, held := [], before := u.prev.map Prod.snd, since := u.written, holdCount := 0 }
    if !(s.bitOf CAP_AQ_CFG_CLASS a) && s.fieldOf CAP_AQ_HOLD_HOLD a != 0 then s.aqState a 4 else s.aqFill a

/-- A mask bin of sample `k` fails (R254). -/
def State.binFails (s : State) (a k trig : Nat) : Option Nat :=
  let u := s.aq a
  let i : Int := (k : Int) - trig - signed 19 (s.fieldOf CAP_AQ_MASK_OFS a)
  if i < 0 ∨ ((s.fieldOf CAP_AQ_MASK_LEN_M1 a : Nat) : Int) < i then none
  else
    let b := u.mask.get (fun _ => 0) i.toNat
    let v := s.aqValue a u.slot k
    if v < signed 32 (lo32 b).toNat ∨ signed 32 (hi32 b).toNat < v then some i.toNat else none

/-- A mask is tested for this slot: enabled, of an ADC source, in a slot that is not forced (R254). -/
def State.maskOn (s : State) (a : Nat) : Bool :=
  s.bitOf CAP_AQ_MASK_EN a && s.bitOf CAP_AQ_SRC_TYPE a && !(s.aq a).cur.forced

/-- A mask violation at sample `k`: the unit freezes with that sample as its last (R255). -/
def State.aqFreeze (a k bin : Nat) (s : State) : State :=
  let c := (s.aq a).cur
  let base := match c.trig with | some t => t - s.aqPre a | none => 0
  let s := s.modAq a (Aq.modCur fun x => { x with maskFail := true, maskBin := some bin, samples := k + 1 - base })
  let s := (s.aqState a 6).setReg .CAP_AQ_MASKV a 0 (BitVec.ofNat 32 (2 ^ 31 + bin))
  (s.event (784 + 4 * a + 2)).happenAll 8 a (s.beat.lbc + 1)

/-- The bins at or before the trigger sample, tested at acceptance in ascending order (R254). -/
def State.testHeld (a trig : Nat) (s : State) : State :=
  let c := (s.aq a).cur
  let base := trig - s.aqPre a
  let ks := (List.range (c.n - base)).map (fun j => base + j)
  match ks.findSome? (fun k => (s.binFails a k trig).map (fun b => (k, b))) with
  | some (k, b) => if s.maskOn a then s.aqFreeze a k b else s
  | none => s

/-- What an accepted trigger does beside its slot (R250): the happening, the TRIG frame and the trigger outputs. -/
def State.aqPublish (a : Nat) (s : State) : State :=
  let s := s.happenAll 7 a (s.beat.lbc + 1)
  let s := if s.bitOf CAP_AQ_CFG_TX_EN a then s.flood 2 (s.fieldOf CAP_AQ_CFG_TX_NUM a) [] else s
  let outs := (List.range 8).filter (fun k => s.fieldOf CAP_TO_CFG_UNIT k == a)
  s.withCap fun c => { c with toActs := c.toActs ++ outs.map (fun k => (k, 8 * (s.beat.lbc + 3))) }

/-- A trigger is accepted on sample `k` of the current slot (R248 to R250): the slot's header, POST, the event, and the
slot's end where no sample is to follow. -/
def State.aqAccept (a k frac : Nat) (interp forced : Bool) (s : State) : State :=
  let u := s.aq a
  let h := u.held.getD (u.cur.n - 1 - k) ⟨0, 0, 0, 0, 0, false⟩
  let s := s.modAq a (Aq.modCur fun x => { x with
    trig := some k, frac := frac, interp := interp, forced := forced, lbc := h.time / beatFs, vn := h.vn })
  let s := (s.aqState a 3).event (784 + 4 * a)
  let s := (s.modAq a fun u => { u with forceNext := false }).testHeld a k
  if (s.aq a).st = 3 ∧ k + (s.aqLen a - s.aqPre a) ≤ u.cur.n then s.aqComplete a false else s

/-- The trigger sample of a trigger time has left the ring, or lies in the slot before: a sample before those held is at or after it. -/
def Aq.missed (u : Aq) (t : Nat) : Bool := u.before.any (fun x => decide (t ≤ x))

/-- The held sample that a trigger time falls on: the first at or after it (R248); none while it is not held. -/
def Aq.sampleAt (u : Aq) (t : Nat) : Option Nat :=
  ((u.held.reverse.zipIdx).find? (fun p => decide (t ≤ p.1.time))).map (fun p => u.cur.n - u.held.length + p.2)

/-- A trigger whose sample is held is accepted or ignored; the units that name this one follow (R248, R250). One that comes so late that
its trigger sample, or one of the PRE before it, is no longer in the slot's ring is ignored (R242, R248; DEDUCED, log entry 114). -/
def State.aqResolve (a t : Nat) : Nat → State → State
  | 0, s => s
  | fuel + 1, s =>
    if (s.aq a).missed t then s.aqIgnore a
    else match (s.aq a).sampleAt t with
    | none => s.modAq a fun u => { u with trigs := u.trigs ++ [t] }
    | some k =>
      if (s.aq a).st ≠ 2 ∨ k < s.aqPre a + ((s.aq a).cur.n - (s.aq a).held.length) ∨ (s.aq a).cur.trig = some k then s.aqIgnore a
      else
        let s := (s.aqAccept a k 0 false false).aqPublish a
        each ((s.aqNamed 8 a).filter (· != a)) (fun b s =>
          if (s.aq b).st = 2 then State.aqResolve b t fuel s
          else if (s.aq b).st = 1 ∨ (s.aq b).st = 3 ∨ (s.aq b).st = 4 then
            (s.aqIgnore b).modAq b fun u => { u with holdCount := u.holdCount + 1 }
          else s) s

/-- A trigger with its time arrives at a unit (R248): in READY it looks for its sample; in FILL, POST and HOLDOFF it is
ignored, and counts in an event hold-off (R251). -/
def State.aqTrigger (a t : Nat) (s : State) : State :=
  let st := (s.aq a).st
  if st = 2 then s.aqResolve a t 16
  else if st = 1 ∨ st = 3 ∨ st = 4 then (s.aqIgnore a).modAq a fun u => { u with holdCount := u.holdCount + 1 }
  else s

/-- A trigger of source `src` with argument `arg` at time `t` reaches every unit that names it (R247). -/
def State.triggerAll (src arg t : Nat) (s : State) : State :=
  each (s.aqNamed src arg) (fun a => State.aqTrigger a t) s

/-- The units that named unit `a` are triggered at time `t` after a level trigger (R250). -/
def State.aqFollow (a t : Nat) (s : State) : State :=
  each ((s.aqNamed 8 a).filter (· != a)) (fun b => State.aqTrigger b t) s

/-- The level crossing that sample `x1` makes with the sample before it: the fraction of R249, 256 where the trigger sample is `x1`;
and whether the stream has been beyond the hysteresis since. -/
def State.aqCrossing (s : State) (a : Nat) (x1 : Sample) : Option Nat × Bool :=
  let level := signed 32 (s.reg .CAP_AQ_LEVEL a).toNat
  let hyst : Int := s.fieldOf CAP_AQ_HYST_HYST a
  let fall := s.bitOf CAP_AQ_TRIG_POL a
  let u := s.aq a
  let goes (x : Int) : Bool := if fall then decide (x1.value ≤ level) && decide (level < x) else decide (level ≤ x1.value) && decide (x < level)
  let beyond := if fall then decide (level + hyst ≤ x1.value) else decide (x1.value ≤ level - hyst)
  match u.prev.filter (fun x => u.levelArmed && goes x.1) with
  | none => (none, u.levelArmed || beyond)
  | some x =>
    let fine := x1.short && decide (x1.spacing ≤ 8000000)
    (some (if fine then ((level - x.1).natAbs * 256) / (x1.value - x.1).natAbs else 256), beyond)

/-- A level crossing whose trigger sample is the newest sample of the slot, `frac` parts in 256 of the spacing before the next: accepted
or ignored (R248 to R250). -/
def State.aqLevel (a frac : Nat) (x1 : Sample) (s : State) : State :=
  let u := s.aq a
  if u.st ≠ 2 ∨ u.cur.n < s.aqPre a + 1 then (s.aqIgnore a).modAq a fun u => { u with holdCount := u.holdCount + 1 }
  else
    let x0 := (u.prev.map Prod.snd).getD x1.time
    ((s.aqAccept a (u.cur.n - 1) frac (x1.short && decide (x1.spacing ≤ 8000000)) false).aqPublish a).aqFollow a (x0 + frac * x1.spacing / 256)

/-- A unit writes no samples: IDLE, DONE or FROZEN (R244). -/
def Aq.stopped (u : Aq) : Bool := u.st == 0 || u.st == 5 || u.st == 6

/-- A sample is written to the current slot (R242). -/
def State.aqPut (a : Nat) (x : Sample) (s : State) : State :=
  let u := s.aq a
  let l := s.aqLen a
  (s.setMem (s.aqAddr a u.slot u.cur.n) (leBytes 4 (twos 32 x.value))).modAq a fun u =>
    { (u.modCur fun c => { c with n := c.n + 1 }) with
      held := ({ x with value := 0 } :: u.held).take l, prev := some (x.value, x.time), written := s.beat.lbc
      before := (u.held[l - 1]?.map Sample.time).or u.before }

/-- A sample stored in the current slot brings about a forced trigger that waits for it, the triggers whose sample it is, the slot's end,
and READY (R244, R248, R252, R254). A level crossing at a sample that a forced trigger awaits is accepted, and the forced trigger
dropped (DESIGN CHOICE, log entry 113). -/
def State.aqSettle (a : Nat) (s : State) : State :=
  let u := s.aq a
  let k := u.cur.n - 1
  let s := if u.st = 2 ∧ u.forceNext then s.aqAccept a k 0 false true else s
  let due := (s.aq a).trigs
  let s := each due (fun t => State.aqTrigger a t) (s.modAq a fun u => { u with trigs := [] })
  let u := s.aq a
  match u.st, u.cur.trig with
  | 3, some t =>
    match (if s.maskOn a then s.binFails a k t else none) with
    | some b => s.aqFreeze a k b
    | none => if t + (s.aqLen a - s.aqPre a) ≤ u.cur.n then s.aqComplete a false else s
  | 1, _ => if s.aqPre a ≤ u.cur.n then s.aqState a 2 else s
  | _, _ => s

/-- A sample of a unit's stream arrives: a level crossing placed on the sample before it comes first, and the sample is the next slot's
where that completes this one; then it is stored, with what its arrival brings about (R244, R245, R248, R249). -/
def State.aqStore (a : Nat) (x : Sample) (s : State) : State :=
  if (s.aq a).stopped then s
  else
    let c := if s.fieldOf CAP_AQ_TRIG_SRC a = 7 then s.aqCrossing a x else (none, (s.aq a).levelArmed)
    let s := s.modAq a fun u => { u with levelArmed := c.2 }
    let s := match c.1 with | some f => if f < 256 then s.aqLevel a f x else s | none => s
    if (s.aq a).stopped then s
    else
      let s := s.aqPut a x
      let s := match c.1 with | some f => if f < 256 then s else s.aqLevel a 0 x | none => s
      if (s.aq a).stopped then s else s.aqSettle a

/-- The oldest sample that has reached a unit is taken, in its beat or later, through the averaging of R253; while acquisition
post-processing is deferred, the sample that completes an average waits, and those behind it (R428). -/
def State.aqTake (a : Nat) (s : State) : State :=
  match (s.aq a).input with
  | [] => s
  | x :: r =>
    let k := s.fieldOf CAP_AQ_CFG_AVG_K a
    let completes := k != 0 && decide (2 ^ k ≤ (s.aq a).avgN + 1)
    if s.beat.lbc < x.reach || (completes && s.classDeferred 0) then s else
    let s := s.modAq a fun u => { u with input := r }
    if k = 0 then s.aqStore a x
    else
      let u := s.aq a
      let sum := u.avgSum + x.value
      if u.avgN + 1 < 2 ^ k then s.modAq a fun u => { u with avgN := u.avgN + 1, avgSum := sum }
      else (s.modAq a fun u => { u with avgN := 0, avgSum := 0 }).aqStore a
        { x with value := sum / (2 ^ ((k + 1) / 2) : Nat), spacing := x.spacing * 2 ^ k }

/-- AQ_SAMPLE. -/
def execAqSample (unit : Fin 16) (s : State) : Host.Outcome State Fault Refusal :=
  done <| s.live (State.aqTake unit.val)

/-- AQ_MONITOR_TIMEOUT: a monitor unit forces a trigger on its latest sample, or on the next (R252). The manual does not say whether the
PRE rule of R248 holds for it: with PRE samples held and no more the latest is accepted, with one sample fewer before it and in its slot
(DESIGN CHOICE, log entry 113). -/
def execAqMonitorTimeout (unit : Fin 16) (s : State) : Host.Outcome State Fault Refusal :=
  done <| s.live fun s =>
    let a := unit.val
    let u := s.aq a
    if s.bitOf CAP_AQ_CFG_CLASS a && u.st == 2 && decide (u.readySince + s.fieldOf CAP_AQ_TMO_TIMEOUT a ≤ s.beat.lbc) then
      (if u.cur.n = 0 then s.modAq a fun u => { u with forceNext := true } else s.aqAccept a (u.cur.n - 1) 0 false true)
    else s

/-- AQ_HOLDOFF_END: the hold-off of a measurement unit is over, in beats or in triggers (R251). -/
def execAqHoldoffEnd (unit : Fin 16) (s : State) : Host.Outcome State Fault Refusal :=
  done <| s.live fun s =>
    let a := unit.val
    let u := s.aq a
    let hold := s.fieldOf CAP_AQ_HOLD_HOLD a
    let ended_ := if s.bitOf CAP_AQ_CFG_HOLD_EV a then decide (hold ≤ u.holdCount) else decide (u.since + hold ≤ s.beat.lbc)
    if u.st == 4 && ended_ then s.aqFill a else s

/-- A digital source site has halted or been aborted: its units receive no more samples of its vectors, and a unit in POST
completes its slot with SHORT (R246). -/
def State.aqSiteOver (site : Nat) (s : State) : State :=
  each ((List.range 16).filter (fun a => !(s.bitOf CAP_AQ_SRC_TYPE a) && s.fieldOf CAP_AQ_SRC_SITE a == site)) (fun a s =>
    when ((s.aq a).st == 3) (State.aqComplete a true) s) (s.modThr site fun t => { t with overNo := t.vecNo })

/-- The trigger outputs whose pulses have begun by the coarse step `coarse` are asserted (R250). -/
def State.settleOutputs (coarse : Nat) (s : State) : State :=
  let due := s.cap.toActs.filter (fun a => decide (a.2 ≤ coarse))
  s.withCap fun c => { c with
    toActs := c.toActs.filter (fun a => !decide (a.2 ≤ coarse))
    tos := due.foldl (fun t a => t.set (fun _ => { }) a.1 { on := true, ends := some (a.2 + s.fieldOf CAP_TO_CFG_PW a.1) }) c.tos }

/-- Whether trigger output TOk is asserted: within a pulse, and held deasserted while its EN bit is clear; a pulse goes on beneath and
shows again once EN is set (R250; DESIGN CHOICE, log entry 92). -/
def State.toBall (s : State) (k : Nat) : Bool := (s.cap.tos.get (fun _ => ({ } : Mk)) k).on && s.bitOf CAP_TO_CFG_EN k

/-- TO_PULSE_END: the pulse of a trigger output ends. -/
def execToPulseEnd (out : Fin 8) (s : State) : Host.Outcome State Fault Refusal :=
  done <| s.live fun s =>
    match (s.cap.tos.get (fun _ => ({ } : Mk)) out.val).ends with
    | some e => if e < 8 * (s.beat.lbc + 1) then
        s.withCap fun c => { c with tos := c.tos.set (fun _ => { }) out.val { on := false, ends := none } } else s
    | none => s

/-- The digital sample of a vector for a unit's window of channels (R241); none where none of them carries C. -/
def State.digitalSample (s : State) (a : Nat) (v : Vec) : Option Sample :=
  let w := s.fieldOf CAP_AQ_SRC_WIN a
  let sel := (List.range 16).filter (fun i => v.caps.contains (16 * w + i))
  let read (i : Nat) : Option (Bool × Bool) := match v.chs[16 * w + i]? with
    | some ch => match v.samples.find? (fun x => x.1 == ch) with | some x => x.2 | none => none
    | none => none
  let good := sel.filter (fun i => match read i with | some (h, l) => h == l | none => false)
  let high := good.filter (fun i => (read i).map Prod.fst == some true)
  if sel.isEmpty then none
  else some ⟨signed 32 (listMask high * 2 ^ 16 + listMask good), s.beat.lbc, v.start + pipeFs, v.vn, 0, false⟩

/-- The sample of a vector for a window of channels is due: every C of the window is sampled, and beat 2 after the last strobe
of the window's channels has come (R241). -/
def Vec.sampleDue (v : Vec) (w now : Nat) : Bool :=
  let chs := (v.chs.drop (16 * w)).take 16
  v.scheduled && chs.all (fun ch => !v.capTodo.contains ch) &&
  v.strobeEnds.all (fun x => !chs.contains x.1 || decide (x.2 + 2 ≤ now))

/-- The beat in which the sample of a vector for a window of channels reaches its unit (R241). -/
def Vec.sampleBeat (v : Vec) (w : Nat) : Nat :=
  (v.strobeEnds.filter (fun x => ((v.chs.drop (16 * w)).take 16).contains x.1)).foldl (fun m x => max m (x.2 + 2)) 0

/-- A vector owes unit `a` a digital sample: it came after the last of a burst that is over, one of the unit's channels carries C
in it, and the unit has not had it (R241, R246). -/
def State.owesSample (s : State) (a : Nat) (v : Vec) : Bool :=
  decide ((s.thr (s.fieldOf CAP_AQ_SRC_SITE a)).overNo < v.no) && v.counts && !(v.given.contains a) && v.caps.any (fun i => i / 16 == s.fieldOf CAP_AQ_SRC_WIN a)

/-- Of two vectors that owe a sample, the one whose sample comes first; the older where they come in one beat. -/
def earlierSample (w : Nat) (o : Option Vec) (v : Vec) : Option Vec :=
  match o with
  | some u => if v.sampleBeat w < u.sampleBeat w then some v else some u
  | none => some v

/-- A unit has had the digital samples of some vectors of a thread, or is not to have them. -/
def State.giveSamples (n a : Nat) (hit : Vec → Bool) (s : State) : State :=
  s.modThr n fun t => { t with pipe := t.pipe.map (fun v => if hit v then { v with given := v.given ++ [a] } else v) }

/-- The vectors of a thread that nothing waits for any more leave its list. -/
def State.prune (n : Nat) (s : State) : State :=
  let units := (List.range 16).filter (fun a =>
    !(s.bitOf CAP_AQ_SRC_TYPE a) && s.fieldOf CAP_AQ_SRC_SITE a == n && (s.aq a).st != 0)
  s.modThr n fun t => { t with pipe := t.pipe.filter (fun v =>
    !(v.scheduled && v.taken && units.all (fun a => !(s.owesSample a v)))) }

/-- CAPTURE_SAMPLE: of the vectors of a unit's site that owe it a sample, the one whose sample is due first gives it. -/
def execCaptureSample (unit : Fin 16) (s : State) : Host.Outcome State Fault Refusal :=
  done <| s.live fun s =>
    let a := unit.val
    let u := s.aq a
    if s.bitOf CAP_AQ_SRC_TYPE a || u.stopped then s
    else
      let site := s.fieldOf CAP_AQ_SRC_SITE a
      let w := s.fieldOf CAP_AQ_SRC_WIN a
      match ((s.thr site).pipe.filter (fun v => s.owesSample a v && v.sampleDue w s.beat.lbc)).foldl (earlierSample w) none with
      | none => s
      | some v =>
        let s := match s.digitalSample a v with
          | some x => s.modAq a fun u => { u with input := u.input ++ [x] }
          | none => s
        (s.giveSamples site a fun x => x.no == v.no).prune site

end Sys2Proof.Machine
end

