-- ==== Sys2Proof/Machine/Stream.lean ====
section
/-! DEFINITION. The stream window: passes and their rows, the lead, fetches, replay, the windows of a lockstep group, and the
check of the Central Store's words (07_streaming). -/

namespace Sys2Proof.Machine

/-- The first entry of a sparse marker list for row `first` or a later one. -/
def State.firstMark (s : State) (e : List Byte) (first : Nat) : Nat :=
  if first = 0 then 0 else ((List.range (s.mklEntries e)).filter (fun j => decide ((s.mklEntry e j).1 < first))).length

/-- A pass begins: its entry is latched and locked (R126). `replay`: its rows are served from the window (R213). -/
def State.newPass (n item seg first passNo : Nat) (linked replay : Bool) (s : State) : Pass × State :=
  let e := s.dirEntry seg
  let t := s.thr n
  let p : Pass := ⟨t.passNo, item, seg, e, first, 0, passNo, linked, false, false, first, replay, false, [],
    first * entRow e / 128, [], 0xFFFFFFFF, s.firstMark e first, none, none⟩
  (p, s.modThr n fun t => { t with passNo := t.passNo + 1, locks := if t.locks.contains seg then t.locks else t.locks ++ [seg] })

/-- What follows a pass in its item's chain (R123, R153, R186). -/
inductive Follow where
  | pass (seg passNo : Nat) (linked : Bool)
  | ends
  | halts
  deriving DecidableEq, Repr

/-- The pass that follows by the item and the latched entry; the last permitted pass of a MATCH ends it (R187). -/
def Item.follow (it : Item) (p : Pass) : Follow :=
  match it.kind with
  | .play => if entEnd p.entry = 0 then .pass (entNext p.entry) (p.passNo + 1) true else if entEnd p.entry = 2 then .halts else .ends
  | .playn =>
    if !p.linked && decide (p.passNo + 1 < it.passes) then .pass it.seg (p.passNo + 1) false
    else if entEnd p.entry = 0 then .pass (entNext p.entry) (p.passNo + 1) true
    else if entEnd p.entry = 2 then .halts else .ends
  | .halt => .halts
  | .matchPass => if it.limit != 0 && decide (it.limit ≤ p.passNo + 1) then .ends else .pass it.seg (p.passNo + 1) false
  | _ => .pass it.seg (p.passNo + 1) false

/-- An item that repeats its hold row (R144). -/
def Item.holds (it : Item) : Bool := it.kind == .join || it.kind == .spansync

/-- An item that repeats until something ends it (R144). -/
def Item.repeats (it : Item) : Bool := it.kind == .wait || it.kind == .matchPass || it.holds

/-- The bytes of a segment that a pass of this item reads: the hold row alone for JOIN and SPANSYNC. -/
def Item.span (it : Item) (e : List Byte) : Nat := if it.holds then entRow e else entLen e * entRow e

/-- The bytes of row `r`, where every granule of it is held. -/
def Pass.rowBytes (p : Pass) (r : Nat) : Option (List Byte) :=
  let z := entRow p.entry
  let g0 := r * z / 128
  let gs := (List.range ((r * z + z - 1) / 128 + 1 - g0)).map (fun k => p.data.get (fun _ => []) (g0 + k))
  if z = 0 || gs.any List.isEmpty then none else some ((gs.flatten.drop (r * z - 128 * g0)).take z)

/-- A granule enters a pass. -/
def Pass.addGranule (p : Pass) (g : Nat) (b : List Byte) : Pass := { p with data := p.data.set (fun _ => []) g b }

/-- The rows from `r` on that are held, counted up to `fuel`. -/
def Pass.heldRows (p : Pass) (r : Nat) : Nat → Nat
  | 0 => 0
  | k + 1 => if r < entLen p.entry && (p.rowBytes r).isSome then p.heldRows (r + 1) k + 1 else 0

/-- The granules that a window holds or has asked for (R211): a replayed pass takes none. -/
def Thread.granules (t : Thread) : Nat :=
  t.stream.foldl (fun a p => a + if p.replay then 0 else p.data.length) 0 + t.flight.length +
  t.pinned.foldl (fun a p => a + p.data.length) 0

/-- The issue time in fs of row `r` of a pass, less the vectors of it already issued (R211). -/
def State.rowTime (s : State) (n : Nat) (p : Pass) (r : Nat) (b : List Byte) : Nat :=
  if entFixed p.entry then s.fieldOf TMG_SITE_CFG_FX_PERIOD n
  else (rowRpt b + 1 - (if r = p.row then p.rep else 0)) * imgPeriod (s.tset n (rowTset b))

/-- The lead of one pass from row `r`, up to `fuel` rows: the time its held rows cover, and whether it ran to row `last`. -/
def State.passLead (s : State) (n : Nat) (p : Pass) (last r : Nat) : Nat → Nat × Bool
  | 0 => (0, decide (last ≤ r))
  | k + 1 =>
    if last ≤ r then (0, true)
    else match p.rowBytes r with
      | none => (0, false)
      | some b => let x := s.passLead n p last (r + 1) k; (s.rowTime n p r b + x.1, x.2)

/-- The rows that the granules of a pass can hold. -/
def Pass.room (p : Pass) : Nat := p.data.length * 128 / max 1 (entRow p.entry) + 1

/-- The item of a pass, among those queued. -/
def Thread.itemOf (t : Thread) (p : Pass) : Option Item := t.queue.find? (fun it => it.id == p.item)

/-- The lead of a window in fs (R211): of a hold item, its row once. -/
def State.leadOf (s : State) (n : Nat) : List Pass → Nat
  | [] => 0
  | p :: r =>
    let hold := match (s.thr n).itemOf p with | some it => it.holds | none => false
    let x := s.passLead n p (if hold then 1 else entLen p.entry) p.row p.room
    if x.2 then x.1 + s.leadOf n r else x.1

/-- The lead of a thread in beats. -/
def State.lead (s : State) (n : Nat) : Nat := s.leadOf n ((s.thr n).stream.filter (fun p => !p.ended)) / beatFs

/-- The pad-fill allowance in bytes (R215). -/
def State.allowance (s : State) (n : Nat) : Int := signed 25 (s.fieldOf VST_PAD_ALLOW_ALLOWANCE n)

/-- A segment may be replayed from a window: its rows occupy at most WIN_EXTRA - 1 blocks (R213). -/
def Thread.replayable (t : Thread) (e : List Byte) : Bool := decide (ceilDiv (entLen e * entRow e) 2048 + 1 ≤ t.winExtra)

/-- A pass put after the last pass of its item, or at the end of the stream where its item has none. -/
def insertPass (p : Pass) (l : List Pass) : List Pass :=
  let k := (l.reverse.findIdx? (fun q => q.item == p.item)).map (fun i => l.length - i)
  match k with
  | some i => l.take i ++ [p] ++ l.drop i
  | none => l ++ [p]

/-- A pass added to the stream: from row 0 its rows are those of an earlier pass where it replays one (R213), else they are to be
fetched. -/
def State.planPass (n item seg first passNo : Nat) (linked : Bool) (s : State) : State :=
  let old := ((s.thr n).stream ++ (s.thr n).pinned).find? (fun q =>
    first == 0 && q.seg == seg && q.entry == s.dirEntry seg && (s.thr n).replayable q.entry && q.first == 0 &&
    decide (entLen q.entry * entRow q.entry ≤ 128 * q.ask) && (q.rowBytes 0).isSome)
  match old with
  | some q =>
    let r := s.newPass n item seg first passNo linked true
    r.2.modThr n fun t => { t with stream := insertPass { r.1 with data := q.data, ask := q.ask } t.stream }
  | none =>
    let r := s.newPass n item seg first passNo linked false
    r.2.modThr n fun t => { t with stream := insertPass r.1 t.stream }

/-- The first row an item plays. -/
def Item.firstRow (it : Item) : Nat := match it.kind with | .play => it.first | _ => 0

/-! ### What a window fetches (R211 to R213, R215) -/

/-- The first item of the queue that repeats until something ends it. -/
def Thread.repeater (t : Thread) : Option Item := t.queue.find? Item.repeats

/-- A pass belongs to an item behind the first one that repeats: it is fetched ahead, and waits (R212). -/
def Thread.behind (t : Thread) (item : Nat) : Bool := match t.repeater with | some it => decide (it.id < item) | none => false

/-- The items whose chains a window follows, in order: up to the first that repeats, or the one queued behind that (R212). -/
def Thread.ahead (t : Thread) (back : Bool) : List Item :=
  match t.queue.findIdx? Item.repeats with
  | some i => if back then (t.queue.drop (i + 1)).take 1 else t.queue.take (i + 1)
  | none => if back then [] else t.queue

/-- The stream planned one pass further along some items: the next pass of a chain that goes on, or the first pass of an item that
has none (R212). -/
def State.planNext (n : Nat) (s : State) : List Item → State
  | [] => s
  | it :: r =>
    match ((s.thr n).stream.filter (fun p => p.item == it.id)).getLast? with
    | none => if it.kind = .halt then s else s.planPass n it.id it.seg it.firstRow 0 false
    | some p =>
      if it.holds then s.planNext n r
      else match it.follow p with
        | .pass seg k linked => s.planPass n it.id seg 0 k linked
        | .ends => s.planNext n r
        | .halts => s

/-- The first pass with granules still to ask for, ahead of what waits behind a repeating item or of that. -/
def Thread.wants (t : Thread) (back : Bool) : Option Pass :=
  t.stream.find? (fun p => t.behind p.item == back && (match t.itemOf p with
    | some it => decide (128 * p.ask < it.span p.entry)
    | none => false))

/-- The rows asked for and not issued on one side of a repeating item, in fs at P_min. -/
def Thread.asked (t : Thread) (back : Bool) : Nat :=
  t.pMin * ((t.stream.filter (fun p => t.behind p.item == back && !p.ended)).foldl
    (fun a p => a + (min (128 * p.ask / max 1 (entRow p.entry)) (entLen p.entry) - p.row)) 0)

/-- The granules held and asked for behind a repeating item. -/
def Thread.waiting (t : Thread) : Nat :=
  (t.stream.filter (fun p => t.behind p.item && !p.replay)).foldl (fun a p => a + p.data.length) 0 +
  (t.flight.filter (fun f => t.behind f.item)).length

/-- The lead of the rows ahead of what waits behind a repeating item, in beats. -/
def State.leadAhead (s : State) (n : Nat) : Nat :=
  s.leadOf n ((s.thr n).stream.filter (fun p => !p.ended && !(s.thr n).behind p.item)) / beatFs

/-- The next granule asked for on one side of a repeating item; the stream is planned further where nothing is left to ask for. None
where neither can be done. -/
def State.askSide (n : Nat) (back : Bool) (s : State) : Option State :=
  let u := if ((s.thr n).wants back).isSome then s else s.planNext n ((s.thr n).ahead back)
  match (u.thr n).wants back with
  | some p => some (u.modThr n fun t => { t with
      stream := t.stream.map (fun q => if q.no = p.no then { q with ask := q.ask + 1 } else q)
      flight := t.flight ++ [⟨p.item, p.passNo, p.ask, s.beat.lbc⟩] })
  | none => if (u.thr n).stream.length = (s.thr n).stream.length then none else some u

/-- One fetch request of a thread's window, if the window, the lead and the allowance let it (R211, R212, R215): the rows of the next
64 beats first, then those that wait behind an item that repeats, up to W_min blocks, then the rest of the lead (the shares: DESIGN
CHOICE, log entry 79). -/
def State.fetchOne (n : Nat) (s : State) : State :=
  let t := s.thr n
  if decide (1 ≤ t.st) && decide (t.st ≤ 4) && decide (0 ≤ s.allowance n) && decide (t.granules < 16 * t.window) then
    let near := if t.asked false < 64 * beatFs ∧ s.leadAhead n < 512 then s.askSide n false else none
    let back := if t.waiting < 16 * (t.window - t.winExtra) ∧ t.asked true < 512 * beatFs then s.askSide n true else none
    let far := if s.leadAhead n < 512 then s.askSide n false else none
    (near.or (back.or far)).getD s
  else s

/-! ### The windows of a lockstep group (R190, R192, R214, R226) -/

/-- A lockstep group's run state. -/
def State.group (s : State) (g : Nat) : Group := s.seq.groups.get (fun _ => { }) g
/-- A lockstep group changed. -/
def State.modGroup (g : Nat) (f : Group → Group) (s : State) : State :=
  s.withSeq fun q => { q with groups := q.groups.set (fun _ => { }) g (f (s.group g)) }

/-- The group of which a thread is a member now. -/
def State.memberOf (s : State) (n : Nat) : Option Nat := (List.range 8).find? (fun g => (s.group g).members.contains n)

/-- The threads that share a thread's stream: the members of its group that are not split, or itself. -/
def State.sharers (s : State) (n : Nat) : List Nat :=
  match s.memberOf n with
  | some g => if (s.group g).splits.contains n then [n] else (s.group g).members.filter (fun m => !(s.group g).splits.contains m)
  | none => [n]

/-- Item `id` of a thread plays what item `id` of another does: the same segment from the same row, as the same kind. -/
def Item.agrees (a b : Item) : Bool := a.kind == b.kind && a.seg == b.seg && a.firstRow == b.firstRow

/-- A pass of item `a` is a pass of item `b` too: of a PLAYN with another count of passes, those that both play (R190). -/
def Item.sharesPass (a b : Item) (p : Pass) : Bool :=
  a.agrees b && (b.kind != .playn || a.passes == b.passes || (!p.linked && decide (p.passNo < b.passes)))

/-- A pass of thread `a` is one of thread `m`'s own items (R190, R214). -/
def State.sharedPass (s : State) (a m : Nat) (p : Pass) : Bool :=
  match (s.thr a).itemOf p, (s.thr m).itemOf p with | some x, some y => x.sharesPass y p | _, _ => false

/-- What the leader `a` of a shared stream has asked for is asked for by a thread that shares it: the pass planned where it is not yet,
and the granule; one whose own item under that number plays something else asks for nothing (R190). One that has not queued the item
yet takes up what has been asked for as it does (`State.takeUp`). -/
def State.askWith (a : Nat) (f : Ask) (p : Pass) (m : Nat) (s : State) : State :=
  let mine (q : Pass) : Bool := q.item == f.item && q.passNo == f.passNo
  if !(s.sharedPass a m p) then s
  else
    let s := if (s.thr m).stream.any mine then s else s.planPass m p.item p.seg p.first p.passNo p.linked
    s.modThr m fun t => { t with
      stream := t.stream.map (fun q => if mine q && q.ask == f.granule then { q with ask := q.ask + 1 } else q)
      flight := t.flight ++ [f] }

/-- A thread that shares a stream queues an item for which the stream's leader has passes already: it takes up those that are its item's
own (R190, R214). -/
def State.takeUp (n id : Nat) (s : State) : State :=
  let a := (s.sharers n).headD n
  let u := s.thr a
  let l := u.stream.filter (fun p => p.item == id && s.sharedPass a n p)
  let own (f : Ask) : Bool := f.item == id && l.any (fun p => p.passNo == f.passNo)
  if a = n ∨ (s.thr n).stream.any (fun p => p.item == id) then s
  else s.modThr n fun t => { t with
    stream := t.stream ++ l.zipIdx.map (fun x => { x.1 with
      no := t.passNo + x.2, row := x.1.first, rep := 0, ended := false, checked := false, atEnd := none, stopEnd := none
      crc := 0xFFFFFFFF, mkNext := s.firstMark x.1.entry x.1.first })
    passNo := t.passNo + l.length
    locks := (t.locks ++ l.map Pass.seg).eraseDups
    flight := t.flight ++ u.flight.filter own }

/-- A shared stream asks for its next granule: as its leader's window has it, for every thread on it (R214). -/
def State.fetchShared (l : List Nat) (s : State) : State :=
  match l with
  | [] => s
  | a :: r =>
    let t := s.fetchOne a
    if (t.thr a).flight.length ≤ (s.thr a).flight.length then t
    else match (t.thr a).flight.getLast? with
      | none => t
      | some f => match (t.thr a).stream.find? (fun q => q.item == f.item && q.passNo == f.passNo) with
        | none => t
        | some p => each r (State.askWith a f p) t

/-- STREAM_FETCH_REQUEST: the window of a thread, or of its group stream, asks for its next granule. -/
def execStreamFetchRequest (thr : Fin 32) (s : State) : Host.Outcome State Fault Refusal :=
  done <| s.live fun s => s.fetchShared (s.sharers thr.val)

/-- The chain of the item being issued ends with this pass by a decision: the end of a WAIT or MATCH, an AT_END jump or a stop (R183,
R185, R186). -/
def Thread.endsWith (t : Thread) (p : Pass) : Bool := t.waitEnd.isSome || p.atEnd.isSome || p.stopEnd.isSome

/-- The rows a STALLED thread needs before it resumes are held: 64 beats of issue at P_min, or the rest of the chain (R225). -/
def State.stallOver (s : State) (n : Nat) : Bool :=
  let t := s.thr n
  let need := ceilDiv 80000000 t.pMin
  match t.queue.head? with
  | none => false
  | some it =>
    let rec go (need : Nat) : List Pass → Bool
      | [] => false
      | p :: r =>
        if it.holds then (p.rowBytes p.row).isSome
        else
          let h := p.heldRows p.row (min need p.room)
          decide (need ≤ h) || (decide (p.row + h = entLen p.entry) &&
            (t.endsWith p || (match it.follow p with | .pass _ _ _ => go (need - h) r | _ => true)))
    decide (t.st = 4) && go (max need 1) (t.stream.filter (fun p => !p.ended && p.item == it.id))

/-- A STALLED thread returns to the state it left, once its window holds enough rows (R225). Those that share a stream return
together, by their leader's; where one of them has issued in this beat, with the next (R226). -/
def State.leaveStall (n : Nat) (s : State) : State :=
  let l := s.sharers n
  let a := l.headD n
  if s.stallOver a && l.all (fun m => (s.thr m).issueBeat != some s.beat.lbc) then
    each l (fun m s => s.modThr m fun t => { t with st := if t.st = 4 then t.back else t.st }) s
  else s

/-- A granule of a segment that a thread has asked for enters its pass, and the passes that replay it; one that GDDR6 answered as
uncorrectable never does (R320). -/
def State.arriveAt (f : Ask) (m : Nat) (s : State) : State :=
  s.modThr m fun t =>
    if !(t.flight.contains f) then t
    else match t.stream.find? (fun q => q.item == f.item && q.passNo == f.passNo) with
    | none => { t with flight := t.flight.erase f }
    | some p => if p.gone.contains f.granule then { t with flight := t.flight.erase f } else { t with
        flight := t.flight.erase f
        stream := t.stream.map (fun q =>
          if q.no = p.no || (q.replay && q.seg == p.seg && q.entry == p.entry) then
            q.addGranule f.granule (s.mem (entBase p.entry + 128 * f.granule) 128) else q) }

/-- The oldest fetch of a shared stream arrives. -/
def State.arriveShared (l : List Nat) (s : State) : State :=
  match l with
  | [] => s
  | a :: _ => match (s.thr a).flight with
    | [] => s
    | f :: _ => (each l (State.arriveAt f) s).leaveStall a

/-- STREAM_GRANULE_ARRIVE. -/
def execStreamGranuleArrive (thr : Fin 32) (s : State) : Host.Outcome State Fault Refusal :=
  done <| s.live fun s => s.arriveShared (s.sharers thr.val)

/-- A member that departs from the group stream on no pad issues from an empty window of its own, which is filled from the row at
which it departed (R214). -/
def Thread.departed (t : Thread) : Thread :=
  { t with
    flight := []
    pinned := []
    stream := (t.stream.filter (fun p => !p.ended)).map (fun p =>
      { p with data := [], replay := false, mixed := p.mixed || p.replay, ask := p.row * entRow p.entry / 128 }) }

/-- The items of a thread numbered anew from `base` on, everywhere they are named. -/
def Thread.renumber (base : Nat) (t : Thread) : Thread :=
  let new (id : Nat) : Nat := match t.queue.findIdx? (fun it => it.id == id) with | some i => base + i | none => id
  { t with
    queue := t.queue.zipIdx.map (fun x => { x.1 with id := base + x.2 })
    serial := base + t.queue.length
    stream := t.stream.map (fun p => { p with item := new p.item })
    flight := t.flight.map (fun f => { f with item := new f.item })
    pinned := t.pinned.map (fun p => { p with item := new p.item })
    pads := t.pads.map (fun x => (x.1, { x.2 with cover := new x.2.cover })) }

/-- The members of a group number their items alike, so that one stream can serve them. -/
def State.alignItems (l : List Nat) (s : State) : State :=
  let base := l.foldl (fun a m => max a (s.thr m).serial) 0
  each l (fun m => State.modThr m (Thread.renumber base)) s

/-- A thread takes up the rows of the stream that it shares again with `a`, as far as its own items play them, and locks their entries
(R126, R190). -/
def State.rejoin (a m : Nat) (s : State) : State :=
  let u := s.thr a
  s.modThr m fun t =>
    let l := u.stream.filter (s.sharedPass a m)
    let has (f : Ask) : Bool := l.any (fun p => p.item == f.item && p.passNo == f.passNo)
    { t with
      stream := l.zipIdx.map (fun x => { x.1 with no := t.passNo + x.2, atEnd := none, stopEnd := none })
      passNo := t.passNo + l.length
      locks := (t.locks ++ l.map Pass.seg).eraseDups
      flight := u.flight.filter has
      pinned := u.pinned }

/-! ### Pages that firmware pins (R228) -/

/-- The ranges of GDDR6 in which the rows and the marker list of a VALID entry lie. -/
def State.entryRanges (s : State) (e : List Byte) : List (Nat × Nat) :=
  if !(entValid e) then []
  else (entBase e, entBase e + entLen e * entRow e) ::
    (if entMkl e = 0 then [] else [(entMkl e, entMkl e + 128 + 8 * s.mklEntries e)])

/-- The pages of some ranges are pinned beside those that are. -/
def State.pin (l : List (Nat × Nat)) (s : State) : State := s.withSeq fun q => { q with pins := (q.pins ++ l).eraseDups }

/-- The log region of a site in GDDR6. -/
def State.logRange (s : State) (site : Nat) : Nat × Nat :=
  let base := s.fieldOf CAP_FLOG_BASE_BASE site * 128
  (base, base + (s.fieldOf CAP_FLOG_LEN_LEN_M1 site + 1) * 128)

/-- Every page that overlaps what a VALID directory entry names, or the log region of a site, is pinned (R228, R256). -/
def State.pinAll (s : State) : State :=
  s.pin (s.seq.dir.flatMap (fun x => s.entryRanges x.2) ++ (List.range 32).map s.logRange)

/-- The log region of a site has been set: while a burst is ARMED or running its pages are pinned with it (R228, R256). -/
def State.pinLog (site : Nat) (s : State) : State := if (List.range 32).all s.idle then s else s.pin [s.logRange site]

/-- No burst is ARMED or running: the pins are released. -/
def State.unpinAll (s : State) : State := s.withSeq fun q => { q with pins := [] }

/-- The `n` bytes of GDDR6 at `a` lie in a page that is pinned. -/
def State.pinned (s : State) (a n : Nat) : Bool := s.seq.pins.any (fun x => decide (x.1 < a + n) && decide (a < x.2))

/-! ### The blocks of the store -/

/-- BLOCK_ALLOCATE: a pool asks for one block (R206). -/
def execBlockAllocate (pool : Fin 7) (s : State) : Host.Outcome State Fault Refusal :=
  done <| s.live fun s => (s.takeBlock pool.val).2

/-- BLOCK_FREE: a pool frees a block (R209). -/
def execBlockFree (pool : Fin 7) (block : Fin 65536) (s : State) : Host.Outcome State Fault Refusal :=
  done <| s.live (State.freeBlock pool.val block.val)

/-- The sites whose threads hold a block of their windows or pads: of a group's windows, those that issue from it (R204). -/
def State.holders (s : State) (b : Nat) : Nat :=
  listMask ((List.range 32).filter (fun n => (s.thr n).windowBlocks.contains b || (s.thr n).padBlocks.contains b ||
    (List.range 8).any (fun g => (s.group g).users.any (fun u => u.1 == n && ((s.group g).windows.getD u.2 []).contains b))))

/-- A word of the store read with `flipped` bits in error (R203, R204). A double error in a free block, which belongs to no pool, is
reported as C0 with pool 0 (DESIGN CHOICE, log entry 121). -/
def State.storeRead (word flipped : Nat) (inj : Bool) (s : State) : State :=
  let b := word / 256
  let p := s.owner b - 1
  if flipped = 0 then s
  else if flipped = 1 then
    (s.putBit CST_LEDGER_STAT_ECC_CORR 0 true).raise ⟨7, 1, 0x0703, b, 0, inj, none⟩
  else
    let inUse := s.owner b != 0 && decide (p < 2)
    s.raise ⟨7, if inUse then 2 else 0, 0x0704, fld 31 29 p + b, if inUse then BitVec.ofNat 32 (s.holders b) else 0, inj, none⟩

end Sys2Proof.Machine
end

