-- ==== Sys2Proof/Machine/Microcode.lean ====
section
/-! DEFINITION. The microcode engine: pattern instructions, microwords, machine checks, and landing pads as they are armed
(05_sequencer, R175 to R179). -/

namespace Sys2Proof.Machine

/-! ### Programs and pattern instructions (R143, R144, R167) -/

/-- A program. -/
def State.prog (s : State) (p : Nat) : Prog := s.seq.progs.get (fun _ => { }) p
/-- A program set. -/
def State.setProg (p : Nat) (v : Prog) (s : State) : State :=
  s.withSeq fun q => { q with progs := q.progs.set (fun _ => { }) p v }

/-- PI `k` of a program. -/
def State.pi (s : State) (p k : Nat) : W64 :=
  BitVec.ofNat 64 (s.memNat (blockAddr ((s.prog p).blocks.getD (8 * k / 2048) 0) + 8 * k % 2048) 8)

def piOp (w : W64) : Nat := bits w 63 56
def piSel (w : W64) : Nat := bits w 51 48

/-- GR `k` of thread `n`. -/
def State.gr (s : State) (n k : Nat) : W32 := s.reg .SEQ_GR (16 * n + k)
/-- GR `k` of thread `n` set. -/
def State.setGr (n k : Nat) (v : W32) (s : State) : State := s.setReg .SEQ_GR (16 * n + k) 0 v
/-- The general registers of a thread. -/
def State.grs (s : State) (n : Nat) : List W32 := (List.range 16).map (s.gr n)

/-- The reserved fields and flags of a PI are 0, its targets lie below the PI count, and its codes are legal (R147). -/
def piOk (count : Nat) (w : W64) : Bool :=
  let op := piOp w
  let z (hi lo : Nat) : Bool := bits w hi lo == 0
  let below (hi lo : Nat) : Bool := decide (bits w hi lo < count)
  let flags (atEnd neg g sel : Bool) : Bool :=
    z 55 55 && (atEnd || z 54 54) && (neg || z 53 53) && (g || z 52 52) && (sel || z 51 48)
  match op with
  | 0x01 => flags false false false false
  | 0x02 => flags false false true true && (bit w 52 || z 51 48)
  | 0x03 => flags false false true true && (bit w 52 || z 51 48) && below 47 32
  | 0x04 => flags false false false false && z 47 0
  | 0x05 => flags false false false false && z 47 16 && below 15 0
  | 0x06 => flags false false false false && z 47 0
  | 0x07 => flags false false false false && z 47 16 && below 15 0
  | 0x08 => flags true true false true && z 47 16 && below 15 0
  | 0x09 => flags false true false true && below 31 16
  | 0x0A => flags false true false true && below 31 16
  | 0x0B => flags false false false true && z 47 32
  | 0x0C => flags false false false true && z 47 32
  | 0x0D => flags false false false false && below 31 16
  | 0x0E => flags false false false false && below 31 16
  | 0x0F => flags false false false false && z 47 8 && !(z 7 0)
  | 0x10 => flags false false false false && z 47 16
  | 0x11 => flags false false false false && z 47 2 && bits w 1 0 != 3
  | _ => false

/-- The item that a PI pushes, with the general registers given; none where it pushes none (R144). -/
def itemOfPi (w : W64) (grs : List W32) (id pi pushed : Nat) : Option Item :=
  let base : Item := ⟨id, .play, bits w 15 0, 0, 1, 0, piSel w, bit w 53, 0, pi, 0, none, none, pushed⟩
  match piOp w with
  | 0x01 => some { base with first := bits w 47 16 }
  | 0x02 =>
    let n := if bit w 52 then (grs.getD (piSel w) 0).toNat else bits w 47 16 + 1
    if n = 0 then none else some { base with kind := .playn, passes := n }
  | 0x09 => some { base with kind := .wait, limit := bits w 47 32 }
  | 0x0A => some { base with kind := .matchPass, limit := bits w 47 32 }
  | 0x0D => some { base with kind := .join, limit := bits w 47 32 }
  | 0x0E => some { base with kind := .spansync, limit := bits w 47 32 }
  | 0x10 => some { base with kind := .halt, code := bits w 15 0 }
  | _ => none

/-- A landing PI (R175). -/
def landingOp (op : Nat) : Bool := [0x01, 0x02, 0x09, 0x0A, 0x0D, 0x0E, 0x10].contains op

/-! ### Microwords (R148, R150) -/

/-- The stored word at address `a` of copy `c`; the word that Apsodan's image leaves at unused addresses where none was
loaded. -/
def State.uword (s : State) (c a : Nat) : Nat := s.seq.ucode.get (fun _ => 0x0FC0000000) (16384 * c + a)

def uop (w : Nat) : Nat := w / 2 ^ 30 % 64
def unext (w : Nat) : Nat := w / 2 ^ 16 % 2 ^ 14
def uoperand (w : Nat) : Nat := w % 2 ^ 16

/-- The parity groups of a stored word that fail. -/
def parityBad (w : Nat) : Nat :=
  let v : BitVec 40 := BitVec.ofNat 40 w
  listMask ((List.range 4).filter (fun g => parity v (9 * g + 8) (9 * g) != v.getLsbD (36 + g)))

/-- An illegal micro-op (R150). -/
def illegal (w : Nat) : Bool :=
  !([0x00, 0x01, 0x02, 0x10, 0x11, 0x12, 0x20, 0x21, 0x22, 0x23, 0x24, 0x25, 0x26, 0x27, 0x28, 0x29, 0x2A, 0x2B, 0x2C,
     0x2D, 0x2E].contains (uop w)) || (uop w == 0x20 && decide (6 ≤ uoperand w % 8))

/-- A thread's engine reads a microword in this beat: it is not parked and has not executed one yet. A parked engine reads nothing,
though PARK repeats (R149; DESIGN CHOICE, log entry 101). -/
def State.reads (s : State) (n : Nat) : Bool :=
  let t := s.thr n
  decide (1 ≤ t.st) && decide (t.st ≤ 4) && !t.parked && t.ubeat != some s.beat.lbc

/-- The threads of a cluster that read a microword in this beat, lowest first. -/
def State.readers (s : State) (c : Nat) : List Nat := ((List.range 4).map (fun k => 4 * c + k)).filter s.reads

/-- P0 of the word that a thread of a cluster reads in this beat is inverted: the lowest reader's under injection (R445). -/
def State.inverted (s : State) (c n : Nat) : Bool :=
  (s.injected 0 c && (s.readers c).head? == some n) || s.seq.spared == some (n, s.beat.lbc)

/-- The words that the threads of a cluster read in this beat, lowest thread first, with what injection inverts: thread, address,
failing groups, illegal. -/
def State.clusterReads (s : State) (c : Nat) : List (Nat × Nat × Nat × Bool) :=
  (s.readers c).map (fun n =>
    let a := (s.thr n).ua
    let w := s.uword c a
    (n, a, if s.inverted c n then parityBad w ^^^ 1 else parityBad w, illegal w))

/-- An injection of the cluster's checker is performed with the words of this beat, and used up; the word that it inverted stays so
in this beat where no machine check follows (R445, R446). -/
def State.performInjection (c : Nat) (s : State) : State :=
  match s.injected 0 c, s.readers c with
  | true, n :: _ => s.useInjection.withSeq fun q => { q with spared := some (n, s.beat.lbc) }
  | _, _ => s

/-- A site abort is due: its beat 0 is this beat (R25); an earlier one stands. -/
def State.abortDue (n reason : Nat) (s : State) : State :=
  if s.idle n || (s.thr n).abortsBy (s.beat.lbc + 1) then s
  else s.modThr n fun t => { t with abortAt := some (s.beat.lbc + 1, reason) }

/-- A machine check of a cluster (R163), marked INJ where the word that it reports is the one inverted (R446); the abort of a span
member goes to the other members (R32). -/
def State.machineCheck (c : Nat) (s : State) : State :=
  let l := s.clusterReads c
  let bad : Option ((Nat × Nat × Nat × Bool) × Nat) := match l.find? (fun x => x.2.2.1 != 0) with
    | some x => some (x, 0x0101)
    | none => (l.find? (fun x => x.2.2.2)).map (fun x => (x, 0x0102))
  match bad with
  | none => s
  | some (x, code) =>
    let inj := code == 0x0101 && s.inverted c x.1
    let groups := if code = 0x0101 then x.2.2.1 else 0
    let s := s.performInjection c
    let s := s.raiseNow ⟨1, 2, code, fld 31 28 groups + fld 26 24 c + fld 13 0 x.2.1, BitVec.ofNat 32 (15 * 16 ^ c), inj, none⟩
    let s := (s.putBit SEQ_CS_STAT_SUSPECT c true).setReg .SEQ_CS_ERR c 0
      (BitVec.ofNat 32 (fld 31 28 groups + fld 13 0 x.2.1))
    each ((List.range 4).map (fun k => 4 * c + k)) (fun n s =>
      if s.idle n then s
      else
        let s := when (s.inSpan n && !((s.thr n).abortsBy (s.beat.lbc + 1))) (State.spanPut (s.burstBeat n) 0 4 0 []) s
        (s.modThr n fun t => { t with parked := true, ubeat := some s.beat.lbc }).abortDue n 7) s

/-- A thread's engine has executed its microword of this beat. -/
def State.spendBeat (n : Nat) (s : State) : State := s.modThr n fun t => { t with ubeat := some s.beat.lbc }
/-- The engine goes on to the next address of the word `w` that it executes. -/
def State.nextWord (n w : Nat) (s : State) : State := (s.spendBeat n).modThr n fun t => { t with ua := unext w }

/-- A stack fault: the engine stops and the site is aborted as a C2 fault in SEQ (R160). -/
def State.stackFault (n code : Nat) (s : State) : State :=
  let t := s.thr n
  (s.modThr n fun t => { t with parked := true }).raise
    ⟨1, 2, code, fld 31 16 t.pc, BitVec.ofNat 32 (2 ^ n), false,
     some (t.vn, (s.reg .VST_POS n 0).toNat, s.fieldOf VST_POS_SEG n)⟩

/-- The instruction buffer at the present PC: the PIs from max(F, PC - 32) to PC + 31 below the program's PI count; those that it
does not hold yet are read from the program's blocks (R152). -/
def State.slide (n : Nat) (s : State) : State :=
  s.modThr n fun t =>
    let lo := max t.ibFrom (t.pc - 32)
    let hi := min (t.pc + 32) (s.prog t.prog).count
    { t with ib := (List.range (hi - lo)).map (fun k => match t.ib.find? (fun x => x.1 == lo + k) with
        | some x => x
        | none => (lo + k, s.pi t.prog (lo + k))) }

/-- A change of PC: a hit in the instruction buffer, or a refill, whose PI has come 26 beats later (R152). -/
def State.jumpPc (n pc : Nat) (s : State) : State :=
  let t := s.thr n
  if max t.ibFrom (t.pc - 32) ≤ pc ∧ pc ≤ t.pc + 31 then (s.modThr n fun t => { t with pc := pc }).slide n
  else s.modThr n fun t => { t with pc := pc, ibFrom := pc, ib := [], refill := some (s.beat.lbc + 26) }

/-! ### What micro-ops do (R149) -/

/-- The opcode whose item each PQ_PUSH kind pushes. -/
def pushOp : Nat → Nat
  | 0 => 0x01
  | 1 => 0x02
  | 2 => 0x09
  | 3 => 0x0A
  | 4 => 0x0D
  | _ => 0x0E

/-- An item pushed on the play queue; PLAY, PLAYN, WAIT and MATCH take the pending marker and stop-on-fail mode (R145),
and an item with a timeout the pad held for it (R146). -/
def State.pushItem (n : Nat) (it : Item) (s : State) : State :=
  State.takeUp n (s.thr n).serial <| s.modThr n fun t =>
    let takes := it.kind != .join && it.kind != .spansync
    let it := if takes then { it with marker := t.pendMark, sof := t.pendSof } else it
    let it := { it with timeoutPad := t.pendPad, id := t.serial, pushed := s.beat.lbc }
    { t with
      queue := t.queue ++ [it]
      serial := t.serial + 1
      pendPad := none
      pendMark := if takes then 0 else t.pendMark
      pendSof := if takes then none else t.pendSof }

/-- IBUF_REFILL: the PIs from the new PC on have arrived, 26 beats after the change (R152). -/
def execIbufRefill (thr : Fin 32) (s : State) : Host.Outcome State Fault Refusal :=
  done <| s.live fun s =>
    match (s.thr thr.val).refill with
    | some d => if d ≤ s.beat.lbc then (s.modThr thr.val fun t => { t with refill := none }).slide thr.val else s
    | none => s

/-! ### Arming pads (R175 to R179) -/

/-- A pad. -/
def State.pad (s : State) (n i : Nat) : Pad := (s.thr n).pads.get (fun _ => { }) i
/-- A pad set. -/
def State.setPad (n i : Nat) (p : Pad) (s : State) : State :=
  s.modThr n fun t => { t with pads := t.pads.set (fun _ => { }) i p }
/-- The armed pads of a thread. -/
def State.armedPads (s : State) (n : Nat) : List Nat := (List.range 8).filter (fun i => (s.pad n i).armed)
/-- The lowest pad that is not armed. -/
def State.freePad (s : State) (n : Nat) : Option Nat :=
  if 8 ≤ (s.armedPads n).length then none else (List.range 8).find? (fun i => !(s.pad n i).armed)

/-- The head and body rows of a pad (R177). -/
def Thread.padRows (t : Thread) : Nat :=
  let h := if t.rowSize = 0 then 384 else min 384 (24576 / t.rowSize)
  h + (if t.pMin = 0 then 0 else ceilDiv 431250000 t.pMin - h)

/-- A pass whose first `rows` rows a pad holds: the window asks for what lies past them (R212). -/
def Pass.inPad (p : Pass) (rows : Nat) : Pass := { p with ask := ceilDiv ((p.row + rows) * entRow p.entry) 128 }

/-- The passes of a landing item's chain that its pad holds, up to `rows` rows in all, and the rows that they give (R176); an entry
that is not VALID gives none (R127). -/
def State.padChain (n : Nat) (it : Item) (seg first passNo : Nat) (linked : Bool) (rows : Nat) :
    Nat → State → List Pass × Nat × State
  | 0, s => ([], 0, s)
  | k + 1, s =>
    let r := s.newPass n it.id seg first passNo linked false
    let p := r.1
    let own := if !(entValid p.entry) then 0 else if it.holds then 1 else entLen p.entry - first
    if rows ≤ own || own == 0 || it.holds then ([p.inPad (min rows own)], min rows own, r.2)
    else match it.follow p with
      | .pass seg passNo linked =>
        let q := State.padChain n it seg 0 passNo linked (rows - own) k r.2
        (p.inPad own :: q.1, own + q.2.1, q.2.2)
      | _ => ([p.inPad own], own, r.2)

/-- The PIs of a program from a target on, 32 at most (R175). -/
def State.pisFrom (s : State) (p target : Nat) : List W64 :=
  (List.range (min 32 ((s.prog p).count - target))).map (fun k => s.pi p (target + k))

/-- The rows that a slot still holds of the same landing: nothing is filled anew (R216). -/
def State.sameLanding (s : State) (old : Pad) (target : Nat) (it : Item) : Bool :=
  old.target == target && !old.rows.isEmpty &&
  (match old.landing with | some o => o.agrees it | none => false) &&
  old.rows.all (fun p => p.entry == s.dirEntry p.seg)

/-- The passes at the head of a pad's chain that the landing item plays too: of a PLAYN whose count of passes has changed, those before
the chains part. Their rows are not fetched anew, so their CRC is not checked (R128, R216). -/
def Pad.kept (old : Pad) (it : Item) : List Pass :=
  (old.rows.takeWhile (fun p => old.landing.any (fun o => o.sharesPass it p))).map (fun p => { p with item := it.id, mixed := true })

/-- A pad's rows: those that the slot still holds, under new pass numbers, or a fill that begins and is paid from the allowance
(R176, R215, R216). -/
def State.fillPad (n i : Nat) (pad old : Pad) (it : Item) (s : State) : State :=
  let t := s.thr n
  if s.sameLanding old pad.target it then
    (s.setPad n i { pad with
      ready := old.ready, rows := (old.kept it).zipIdx.map (fun x => { x.1 with no := t.passNo + x.2 }) }).modThr n fun t =>
        { t with passNo := t.passNo + old.rows.length }
  else
    let q := State.padChain n it it.seg it.firstRow 0 false t.padRows (t.padRows + 1) s
    let s := q.2.2.putField VST_PAD_ALLOW_ALLOWANCE n (twos 25 (q.2.2.allowance n - (q.2.1 * t.rowSize : Nat)))
    s.setPad n i { pad with rows := q.1 }

/-- A pad is armed for a target, with its checkpoint, and its fill begins; `w` is the arming PI, at `pc` (R175, R179, R215,
R216). -/
def State.armPad (n i target pc : Nat) (timeout : Bool) (w : W64) (s : State) : State :=
  let t := s.thr n
  let pi := s.pi t.prog target
  if !(landingOp (piOp pi)) then
    (s.modThr n fun t => { t with parked := true }).raiseNow
      ⟨1, 2, 0x0108, fld 31 16 target + fld 15 0 pc, BitVec.ofNat 32 (2 ^ n), false, none⟩
  else
    let covered := t.queue.getLast?
    let begun : Option Live := match covered, t.began with
      | some it, some b => if !timeout && t.queue.head?.map Item.id == some it.id then some ⟨t.beganNo, b, t.beganAt, none⟩ else none
      | _, _ => none
    let pad : Pad := {
      armed := timeout || covered.isSome, timeout := timeout, target := target
      slot := piSel w, neg := bit w 53, atEnd := bit w 54, cover := (covered.map Item.id).getD 0, serial := t.padSerial
      grs := s.grs n, ls := t.ls, cs := t.cs, marker := t.pendMark, sof := t.pendSof, pis := s.pisFrom t.prog target
      landing := itemOfPi pi (s.grs n) t.serial target s.beat.lbc, armedAt := s.beat.lbc, live := begun, feed := (s.pad n i).feed }
    let old := s.pad n i
    let s := s.modThr n fun t => { t with padSerial := t.padSerial + 1 }
    match pad.landing with
    | none => s.setPad n i { pad with ready := true }
    | some it => if it.kind = .halt then s.setPad n i { pad with ready := true } else s.fillPad n i pad old it

/-- The granules of a pad's pass, from its first row's on to the last that the pad holds, numbered in the segment (R176). -/
def Pass.padGranules (p : Pass) : List Nat :=
  let g := p.row * entRow p.entry / 128
  (List.range (p.ask - g)).map (g + ·)

/-- The rows of a pad's pass, read from GDDR6. -/
def State.fillPass (s : State) (p : Pass) : Pass :=
  (p.padGranules.filter (fun g => !p.gone.contains g)).foldl (fun q g => q.addGranule g (s.mem (entBase p.entry + 128 * g) 128)) p

/-- A pad that is not READY awaits granule `g` of GDDR6 (R320). -/
def Pad.fills (p : Pad) (g : Nat) : Bool :=
  let reads (q : Pass) : Bool := q.padGranules.any (fun k => entBase q.entry / 128 + k == g)
  (p.armed && !p.ready && p.rows.any reads) || p.feed.any reads

/-- The rows of a pad taken before it was ready are delivered to the stream, and a stall ends (R178, R225). -/
def State.feedStream (n : Nat) (rows : List Pass) (s : State) : State :=
  (s.modThr n fun t => { t with stream := t.stream.map (fun q =>
    match rows.find? (fun r => r.no == q.no) with
    | some r => r.data.foldl (fun q x => q.addGranule x.1 x.2) q
    | none => q) }).leaveStall n

/-- Two passes hold the same rows of one pad fill. -/
def Pass.sameFill (p q : Pass) : Bool := p.seg == q.seg && p.entry == q.entry && p.row == q.row && p.ask == q.ask

/-- PAD_READY: a pad's rows have arrived, be it armed or taken and its effect beat to come; those of a pad whose item has landed go to
the stream that took it, and a slot that has been armed anew meanwhile, for other rows, has a fill of its own to come (R178, R216,
R225). -/
def execPadReady (thr : Fin 32) (pad : Fin 8) (s : State) : Host.Outcome State Fault Refusal :=
  done <| s.live fun s =>
    let n := thr.val
    let p := s.pad n pad.val
    let own (p : Pad) : Pad := { p with ready := true, rows := p.rows.map s.fillPass }
    let taken := (s.thr n).taken.map Prod.fst == some pad.val
    if p.feed.isEmpty then (if p.ready || !(p.armed || taken) then s else s.setPad n pad.val (own p))
    else
      let same := !p.ready && p.rows.length == p.feed.length && (p.rows.zip p.feed).all (fun x => x.1.sameFill x.2)
      let q : Pad := { (if same then own p else p) with feed := [] }
      (s.setPad n pad.val q).feedStream n (p.feed.map s.fillPass)

end Sys2Proof.Machine
end

