-- ==== Sys2Proof/Machine/Issue.lean ====
section
/-! DEFINITION. The issue unit: items, passes, rows and vectors on the grid, landing items, halts, and lockstep splits
(R77, R78, R119 to R128, R140 to R146, R153 to R155, R180 to R192, R224 to R227). -/

namespace Sys2Proof.Machine

/-! ### Leaving a burst (R142, R191, R221) -/

/-- The enabled group that names a site (R188). -/
def State.groupCfg (s : State) (n : Nat) : Option Nat :=
  (List.range 8).find? (fun g => s.bitOf SEQ_LS_CFG_EN g && (s.reg .SEQ_LS_MASK g).getLsbD n)

/-- A thread leaves its burst: its locks, its stream, its blocks and its charge; a group's charge and stream blocks with
its last member (R221), a burst's power estimate with its last thread (R427), and the pins with the last thread of all (R228). -/
def State.leaveBurst (n : Nat) (s : State) : State :=
  let t := s.thr n
  let s := (s.freeBlockList 0 t.windowBlocks).freeBlockList 1 t.padBlocks
  let s := s.withSeq fun q => { q with
    bursts := (q.bursts.map (fun b => (b.1.erase n, b.2))).filter (fun b => !b.1.isEmpty) }
  let s := s.modThr n fun t => { t with
    windowBlocks := [], padBlocks := [], locks := [], stream := [], flight := [], pinned := [] }
  let s := match (if s.bitOf SEQ_BR_STAT_GROUPED n then s.groupCfg n else none) with
    | none => s.setReg .VST_ADM_CHG n 0 0
    | some g =>
      let s := s.modGroup g fun x => { x with
        members := x.members.erase n, splits := x.splits.erase n, users := x.users.filter (fun u => u.1 != n) }
      let all := maskList (s.reg .SEQ_LS_MASK g) 32
      if all.all s.idle then
        let s := s.freeBlockList 0 (s.group g).windows.flatten
        (each all (fun m => State.setReg .VST_ADM_CHG m 0 0) s).modGroup g fun _ => { }
      else s
  if (List.range 32).all s.idle then s.unpinAll else s

/-- Every pad of a thread disarmed (R142, R180). -/
def State.disarmAll (n : Nat) (s : State) : State :=
  each (s.armedPads n) (fun i s => s.setPad n i { s.pad n i with armed := false }) s

/-- A thread ends: HALTED, ABORTED or IDLE; its queue is emptied, its pads are disarmed and its engine parks (R142). -/
def State.endThread (n st : Nat) (s : State) : State :=
  ((s.disarmAll n).modThr n fun t => { t with
    st := st, queue := [], parked := true, refill := none, pendPad := none, began := none, marked := false
    blocked := false, abortAt := none, stopAt := none, stopNext := none, taken := none, atEnds := [], waitEnd := none
    haps := [], arrived := none, ib := [] }).leaveBurst n

/-- A thread halts at the vector start that is next (R103, R142, R154). -/
def State.halt (n reason code : Nat) (s : State) : State :=
  let at_ := (s.thr n).next
  let s := s.siteQuiet n at_ at_
  let s := s.endThread n 5
  let s := s.setReg .SEQ_THR_END n 0 (BitVec.ofNat 32 (fld 31 28 reason + fld 15 0 code))
  (s.event (848 + 4 * n + (if reason = 1 ∨ reason = 2 then 0 else 1))).aqSiteOver n

/-! ### Items (R144, R153, R179) -/

/-- The head item of the play queue, from the boundary after the beat that pushed it (R149). -/
def State.headItem (s : State) (n : Nat) : Option Item :=
  match (s.thr n).queue with
  | it :: _ => if it.pushed < s.beat.lbc then some it else none
  | [] => none

/-- A WAIT, JOIN or SPANSYNC item (R140). -/
def Item.waits (it : Item) : Bool := it.kind == .wait || it.kind == .join || it.kind == .spansync

/-- An item begins: the thread's state, its stop-on-fail mode, and the pads that it makes live (R141, R145, R179). -/
def State.beginItem (n : Nat) (it : Item) (s : State) : State :=
  let b := s.beat.lbc
  let s := s.modThr n fun t => { t with
    began := some b, beganNo := t.vecNo + 1, beganAt := t.next, marked := false, waitEnd := none, arrived := none
    sof := it.sof.getD t.sof, st := if it.waits then 3 else 2 }
  let t := s.thr n
  each (s.armedPads n) (fun i s =>
    let p := s.pad n i
    if (p.timeout && it.timeoutPad == some i) || (!p.timeout && p.cover == it.id) then
      s.setPad n i { p with live := some ⟨t.vecNo + 1, b, t.next, none⟩ } else s) s

/-- An AT_END request is dropped (R184). -/
def State.dropJump (n i : Nat) (s : State) : State :=
  (s.putBit SEQ_BR_STAT_JUMP_LATE n true).setPad n i { s.pad n i with armed := false }

/-- An item leaves the queue, its last vector issued: the passes planned for it are discarded with the requests recorded on them,
and the pads it made live end their interval there (R153, R179, R184, R186). -/
def State.itemOver (n : Nat) (it : Item) (s : State) : State :=
  let t := s.thr n
  let b := t.lastStart / beatFs
  let late := (t.stream.filter (fun p => p.item == it.id)).filterMap Pass.atEnd
  let s := s.modThr n fun t => { t with
    queue := t.queue.filter (fun x => x.id != it.id), stream := t.stream.filter (fun p => p.item != it.id)
    began := none, marked := false, waitEnd := none, arrived := none }
  let s := each late (State.dropJump n) s
  each (s.armedPads n) (fun i s =>
    let p := s.pad n i
    if p.timeout then (if it.timeoutPad = some i then s.setPad n i { p with armed := false } else s)
    else if p.cover ≠ it.id then s
    else match p.live with
      | some l => s.setPad n i { p with live := some { l with last := some (t.vecNo, b, t.next) } }
      | none => s.setPad n i { p with armed := false }) s

/-- The passes that fit in `room` granules, from the first on. -/
def fitPinned : Nat → List Pass → List Pass
  | _, [] => []
  | room, p :: r => if p.data.length ≤ room then p :: fitPinned (room - p.data.length) r else []

/-- The segments that an item plays from row 0, along the chain of its LINKs as the directory has it. -/
def State.plays (s : State) (seg first : Nat) (wait : Bool) : Nat → List Nat
  | 0 => []
  | k + 1 =>
    let e := s.dirEntry seg
    (if first = 0 then [seg] else []) ++ (if wait || entEnd e != 0 then [] else s.plays (entNext e) 0 false k)

/-- A queued item plays a segment from row 0 (R213). -/
def State.playsAgain (s : State) (n seg : Nat) : Bool :=
  (s.thr n).queue.any (fun it => it.kind != .halt && (s.plays it.seg it.firstRow it.repeats 64).contains seg)

/-- A pass leaves the stream; its rows stay pinned in the WIN_EXTRA part of the window while an item that plays its segment from row 0,
itself or along its chain, is queued (R213; the latest passes first, log entry 44). -/
def State.dropPass (n : Nat) (p : Pass) (s : State) : State :=
  let t := s.thr n
  let full := t.replayable p.entry && decide (ceilDiv (entLen p.entry * entRow p.entry) 128 ≤ p.data.length)
  let keep (q : Pass) : Bool := s.playsAgain n q.seg
  s.modThr n fun t => { t with
    stream := t.stream.filter (fun q => q.no != p.no)
    pinned := fitPinned (16 * t.winExtra) (if full && keep p then
      p :: t.pinned.filter (fun q => keep q && q.seg != p.seg) else t.pinned.filter keep) }

/-! ### Landing (R180, R184, R187) -/

/-- The landing item takes the pending marker and mode of its pad (R145, R180). -/
def Item.takes (it : Item) : Bool := !it.holds

/-- The engine is restored from a pad's checkpoint, its instruction buffer is loaded from the pad's PIs, and it fetches at the PI
after the target (R152, R180). -/
def State.restore (n i : Nat) (s : State) : State :=
  let p := s.pad n i
  let s := each p.grs.zipIdx (fun x => State.setGr n x.2 x.1) s
  let used := match p.landing with | some it => it.takes | none => false
  (s.modThr n fun t => { t with
    ls := p.ls, cs := p.cs, pc := p.target + 1, ibFrom := p.target, ib := p.pis.zipIdx.map (fun x => (p.target + x.2, x.1))
    refill := none, ua := 0x100, parked := false
    pendMark := if used then 0 else p.marker, pendSof := if used then none else p.sof, pendPad := none }).slide n

/-- The landing item of a pad that is taken becomes an item of the thread, with the pad's marker and mode, and its own timeout pad is
armed (R145, R180). The checkpoint's mode is the one that was pending at arming; the mode in force stays as it is where none was
(DESIGN CHOICE, log entry 102). -/
def State.placeLanding (n i : Nat) (s : State) : State :=
  let p := s.pad n i
  match p.landing with
  | none => s
  | some it =>
    let id := (s.thr n).serial
    let j := if it.limit = 0 ∨ !it.repeats then none else (List.range 8).find? (fun j => j != i && !(s.pad n j).armed)
    let it := if it.takes then { it with marker := p.marker, sof := p.sof } else it
    let it := { it with id := id, timeoutPad := j, pushed := 0 }
    let s := s.setPad n i { p with landing := some it, rows := p.rows.map (fun q => { q with item := id }) }
    let s := s.modThr n fun t => { t with serial := t.serial + 1 }
    match j with
    | some j => s.armPad n j (bits (p.pis.headD 0) 31 16) p.target true (p.pis.headD 0)
    | none => s

/-- The landing item of a pad takes the place of the play queue and the stream (R180, R212). A HALT_AT_END or an AT_END stop that
waits for the end of a pass left early, or for that of the pass to come, waits for that of the landing item's (R159, R185; DEDUCED, log
entry 88); what was sent for a SPANSYNC that is left counts no more (R198, R199). -/
def State.land (n i : Nat) (s : State) : State :=
  let p := s.pad n i
  let s := s.setPad n i { p with feed := if p.ready then [] else p.rows }
  let s := match s.headItem n with
    | some it => if it.kind == ItemKind.spansync && (s.thr n).arrived.isSome && s.inSpan n then s.spanForget it.pi (s.burstBeat n) else s
    | none => s
  s.modThr n fun t => { t with
    queue := p.landing.toList
    began := none, marked := false, waitEnd := none, atEnds := [], arrived := none, taken := none
    stopNext := t.stopNext.or ((t.stream.filterMap Pass.stopEnd).head?)
    st := if t.st = 4 then t.back else t.st
    landed := some t.vecNo
    stream := p.rows, flight := [], pinned := [] }

/-- The length of a shadow (R181): the vectors issued after the deciding one. Of a vector whose result another member has had in
beat `c`, it is the last that starts before that beat ends, less the 12 beats to the balls. -/
def Thread.shadowOf (t : Thread) : Origin → Nat
  | .vector no => t.vecNo - no
  | .result c => (t.next - ((c + 1) * beatFs - 15000000)) / max 1 t.lastPeriod

/-- The length of the shadow of an IMMEDIATE branch or stop is recorded (R181). The manual defines the shadow of a
decision on a vector's result only: the other lengths are free values (log entry 43). -/
def State.recordShadow (n : Nat) (s : State) : State :=
  match (s.thr n).shadow with
  | some o => s.putField SEQ_BR_STAT_SHADOW n (min 0xFFFF ((s.thr n).shadowOf o))
  | none => let d := s.draw; d.2.putField SEQ_BR_STAT_SHADOW n (d.1.toNat % 0x10000)

/-- A branch is counted, and the shadow of an IMMEDIATE one recorded. -/
def State.countBranch (n : Nat) (imm : Bool) (s : State) : State :=
  let s := s.countUp SEQ_BR_STAT_BRANCHES n 1
  if imm then s.recordShadow n else s

/-- A STICKY slot on which a decision was taken is cleared (R172). -/
def State.clearSlot (n k : Nat) (s : State) : State := s.setSlot n k { s.slot n k with sticky := none }

/-- A pad is taken at the end of a pass, as R180 says of a decision (R184, R187): `imm` for a timeout. -/
def State.jumpAtEnd (n i : Nat) (imm : Bool) (s : State) : State :=
  let p := s.pad n i
  let s := when (!p.timeout) (State.clearSlot n p.slot) s
  let s := ((s.disarmAll n).restore n i).placeLanding n i
  let s := s.modThr n fun t => { t with ubeat := none, shadow := none }
  (s.countBranch n imm).land n i

/-- A taken pad whose effect beat has come: the old path is discarded and the landing item placed (R180, R182). -/
def State.effectDue (n : Nat) (s : State) : State :=
  match (s.thr n).taken with
  | some (i, e) => if e ≤ s.beat.lbc then (s.countBranch n true).land n i else s
  | none => s

/-- The rows at the end of a pass in which an AT_END request comes too late for it (R183). -/
def commitWindow (fixed : Bool) : Nat := if fixed then 80 else 24

/-- The pass that an item is issuing: the first of its passes in the stream. -/
def Thread.passOf (t : Thread) (it : Item) : Option Pass := t.stream.find? (fun p => p.item == it.id)

/-- The pass after pass `no` of an item. -/
def Thread.passAfter (t : Thread) (it : Item) (no : Nat) : Option Pass :=
  (t.stream.filter (fun p => p.item == it.id && decide (no < p.no))).head?

/-- A pass changed in the stream. -/
def State.setPass (n : Nat) (p : Pass) (s : State) : State :=
  s.modThr n fun t => { t with stream := t.stream.map (fun q => if q.no = p.no then p else q) }

/-- The pass that follows a pass in its chain, planned if it is not yet (R183); none where none follows, or where a decision has
ended the item (R184, R186, R187). -/
def State.following (n : Nat) (it : Item) (p : Pass) (s : State) : Option Pass × State :=
  if (s.thr n).waitEnd.isSome then (none, s)
  else match it.follow p with
    | .pass seg k linked =>
      let s := if ((s.thr n).passAfter it p.no).isSome then s else s.planPass n it.id seg 0 k linked
      ((s.thr n).passAfter it p.no, s)
    | _ => (none, s)

/-- A request recorded on a pass: the pad armed longest ago stands (R174). -/
def State.putAtEnd (n i : Nat) (p : Pass) (s : State) : State :=
  match p.atEnd with
  | some j => if (s.pad n j).serial ≤ (s.pad n i).serial then s else s.setPass n { p with atEnd := some i }
  | none => s.setPass n { p with atEnd := some i }

/-- An AT_END request at its effect beat (R183, R184): the pass in progress is the one that the beat's first vector belongs to; where no
vector starts in the beat, the one whose vector runs through it (DEDUCED, log entry 123). -/
def State.requestJump (n i : Nat) (s : State) : State :=
  let t := s.thr n
  match s.thr n |>.queue.head? with
  | none => s.dropJump n i
  | some it =>
    if it.id ≠ (s.pad n i).cover then s.dropJump n i
    else match t.passOf it with
      | none => s.dropJump n i
      | some p =>
        let gone := p.ended && decide (t.next < (s.beat.lbc + 1) * beatFs)
        let r := if gone then s.following n it p else (some p, s)
        match r.1 with
        | none => r.2.dropJump n i
        | some p =>
          let s := r.2
          if !p.ended && decide (p.row + commitWindow (entFixed p.entry) < entLen p.entry) then s.putAtEnd n i p
          else
            let r := s.following n it p
            match r.1 with
            | none => r.2.dropJump n i
            | some q => (r.2.putAtEnd n i q).putBit SEQ_BR_STAT_JUMP_DEFERRED n true

/-- A stop at the end of the pass in progress as beat `e` begins, for reason `r` (R159, R185): of a pass that has rows left, at its
end; where its last vector is in progress, or a hold row, which is a pass of its own, at the end of that vector; else at the end of
the pass whose first vector is the next. -/
def State.requestStop (n e r : Nat) (s : State) : State :=
  let t := s.thr n
  let last (s : State) : State := s.modThr n fun t =>
    if e * beatFs < t.next then { t with stopAt := some ⟨e, r, false⟩ } else { t with stopNext := some r }
  match t.queue.head? with
  | none => last s
  | some it => match (if t.began.isSome && !it.holds then t.passOf it else none) with
    | some p => if p.ended then last s else s.setPass n { p with stopEnd := some r }
    | none => last s

/-- The decisions of a thread whose effect beat has come (R173, R180, R183, R185); request 8 is a stop at the end of
the pass. -/
def State.effects (n : Nat) (s : State) : State :=
  let s := s.effectDue n
  let due := (s.thr n).atEnds.filter (fun x => decide (x.2 ≤ s.beat.lbc))
  let s := s.modThr n fun t => { t with atEnds := t.atEnds.filter (fun x => !decide (x.2 ≤ s.beat.lbc)) }
  each due (fun x s => if x.1 = 8 then s.requestStop n x.2 3 else s.requestJump n x.1) s

/-! ### What stands between the last vector and the next (R123, R153 to R155, R186) -/

/-- A fault of the issue unit: issue stops until the abort. One of VST aborts the site at the beat of its detection, which is
beat 0 (R127, R224); one of SEQ is presented in the beat after (R435). -/
def State.stopIssue (n : Nat) (f : FaultRec) (s : State) : State :=
  (s.modThr n fun t => { t with blocked := true }).raiseAt (s.beat.lbc + (if f.sub = 2 then 0 else 1)) f

/-- A C2 fault of the issue unit that names site `n`. -/
def State.issueFault (n sub code detail : Nat) (vn : Option (Nat × Nat × Nat)) (s : State) : State :=
  s.stopIssue n ⟨sub, 2, code, detail, BitVec.ofNat 32 (2 ^ n), false, vn⟩

/-- A pass has ended: what its item, its end action, a recorded jump or a recorded stop brings (R123, R183 to R187). -/
def State.endPass (n : Nat) (it : Item) (p : Pass) (s : State) : State :=
  let t := s.thr n
  let past := match t.waitEnd with | some e => decide (e * beatFs ≤ t.next) | none => false
  match p.stopEnd, p.atEnd with
  | some r, _ => s.halt n r 0
  | none, some i => s.jumpAtEnd n i false
  | none, none =>
    if (it.kind == .wait || it.kind == .matchPass) && past then (s.itemOver n it).dropPass n p
    else if it.kind == .matchPass && it.limit != 0 && decide (it.limit ≤ p.passNo + 1) then
      match it.timeoutPad with
      | some i => s.jumpAtEnd n i true
      | none => (s.itemOver n it).dropPass n p
    else match it.follow p with
      | .halts => s.halt n 2 0
      | .ends => (s.itemOver n it).dropPass n p
      | .pass seg k linked =>
        let s := s.dropPass n p
        if ((s.thr n).passOf it).isSome then s else s.planPass n it.id seg 0 k linked

/-- A SPANSYNC item first issues: a member of a span sends its arrival (R198). -/
def State.arriveSpan (n : Nat) (it : Item) (s : State) : State :=
  let s := (s.beginItem n it).modThr n fun t => { t with arrived := some s.beat.lbc }
  if s.inSpan n then s.spanPut (s.burstBeat n) 0 1 it.pi [] else s

/-- One crossing at the vector start that is next; none where a vector is to start. `join` says of a JOIN item whether
it is met at once (some true), holds (some false), or is to be left as it is (none, and the crossing ends). -/
def State.cross (n : Nat) (join : State → Item → Option Bool) (s : State) : Option State :=
  let t := s.thr n
  match t.stopAt.filter (fun x => decide (x.beat * beatFs ≤ t.next)) with
  | some x => some ((if x.shadowed then s.recordShadow n else s).halt n x.reason 0)
  | none => match s.headItem n with
    | none => some (s.issueFault n 1 0x0107 (fld 31 16 t.pc) (some (t.vn, (s.reg .VST_POS n 0).toNat, s.fieldOf VST_POS_SEG n)))
    | some it =>
      if it.kind = .halt then some (s.halt n 1 it.code)
      else if t.began.isNone then
        if it.kind = .join then
          match join s it with
          | none => none
          | some true => some (s.itemOver n it)
          | some false => some ((s.beginItem n it).modThr n fun t => { t with arrived := some s.beat.lbc })
        else if it.kind = .spansync then
          match (if s.inSpan n then s.spanExpiry it.pi else none), it.timeoutPad with
          | some e, some i =>
            if e ≤ s.burstBeat n then
              some (((s.spanForget it.pi e).event (848 + 4 * n + 3)).jumpAtEnd n i true)
            else some (s.arriveSpan n it)
          | _, _ => some (s.arriveSpan n it)
        else some (s.beginItem n it)
      else match t.passOf it with
        | none => some (s.planPass n it.id it.seg it.firstRow 0 false)
        | some p => if p.ended then some (s.endPass n it p) else none

/-! ### One vector (R115 to R120, R124, R127, R128, R224 to R227) -/

/-- The symbols of a row for a site, resolved by its map, directions and previous symbols (R116 to R118). -/
def State.resolve (s : State) (n : Nat) (fixed : Bool) (row : List Byte) (dirMask : Nat) : List Nat :=
  (s.siteChannels n).zipIdx.map (fun x =>
    resolveSym (s.reg .VST_SYMMAP n) (s.pip x.1).prevSym (if fixed then fixedSym row dirMask x.2 else freeSym row x.2))

/-- The channels of a site leave their quiet state at the first vector of a burst (R34); those of an unlocked pod stay in
it (R33). -/
def State.leaveQuiet (n : Nat) (s : State) : State :=
  each ((s.siteChannels n).filter (fun ch => s.podLocked (ch / 8))) (fun ch s =>
    (s.modPip ch fun p => { p with prevSym := none, quietAt := none, cutAt := none, lastEdge := [[], [], [], [], [], [], []] }).putBit TMG_CH_CFG_IN_QUIET ch false) s

/-- A vector is issued at the start that is next (R77, R119, R120). `counts`: it comes from a row of a segment and
advances the VN. The segment's marker list is read as it stands in memory at each vector (R124; DESIGN CHOICE, log entry 119). After the
row of an empty timing set, whose period is 0, nothing more is issued until the abort (R91; DESIGN CHOICE, log entry 100). -/
def State.emit (n : Nat) (p : Pass) (it : Item) (counts : Bool) (row : List Byte) (s : State) : State :=
  let t := s.thr n
  let fixed := entFixed p.entry
  let dm := if fixed then s.dirMask p.entry else 0
  let s := when (t.lastPeriod == 0) (State.leaveQuiet n) s
  let syms := s.resolve n fixed row dm
  let tset := if fixed then 0 else rowTset row
  let period := if fixed then s.fieldOf TMG_SITE_CFG_FX_PERIOD n else imgPeriod (s.tset n tset)
  let v : Vec := {
    no := t.vecNo + 1, start := t.next, period := period, issued := s.beat.lbc, vn := t.nextVn, counts := counts
    seg := p.seg, row := p.row, pass := p.no, tset := tset, fixed := fixed, dirMask := dm, syms := syms
    scheduled := false, taken := !counts, todo := [], fails := [], invalid := [], compared := []
    lastBeat := 0, samples := [], chs := s.siteChannels n, offs := s.cal.offs
    quiet := (s.siteChannels n).filter (s.bitOf TMG_CH_CFG_IN_QUIET) }
  let s := (s.siteChannels n).zipIdx.foldl (fun s x =>
    s.modPip x.1 fun q => { q with prevSym := some (syms.getD x.2 7) }) s
  let wrap := counts && t.nextVn + 1 == 2 ^ 48
  let s := s.modThr n fun t => { t with
    pipe := t.pipe ++ [v], vecNo := t.vecNo + 1, lastStart := t.next, lastPeriod := period, next := t.next + period
    vn := if counts then t.nextVn else t.vn
    nextVn := if counts then (t.nextVn + 1) % 2 ^ 48 else t.nextVn
    blocked := t.blocked || period == 0
    sig := t.sig ++ [it.pi, p.seg, p.passNo, p.row, if counts then 1 else 0, t.next] }
  let s := when wrap (State.putBit VST_SITE_STAT_VN_WRAP n true) s
  let s := if t.st = 4 then s else (s.setReg .VST_POS n 0 (BitVec.ofNat 32 p.row)).putField VST_POS_SEG n p.seg
  if !counts then s
  else
    let sparse := if fixed && p.mkNext < s.mklEntries p.entry then
        let e := s.mklEntry p.entry p.mkNext
        if e.1 = p.row then e.2 else 0
      else 0
    let code := if fixed then sparse else if p.rep = 0 then rowMark row else 0
    let s := s.placeMarker n code t.next period s.beat.lbc v.no
    if t.marked then s
    else (s.placeMarker n it.marker t.next period s.beat.lbc v.no).modThr n fun t => { t with marked := true }

/-- The first malformed entry of a sparse marker list that is met at row `r`: out of order or with code 0 there, or with an
offset past the end at the last row (R127). -/
def State.sparseBad (s : State) (e : List Byte) (r : Nat) : Option Nat :=
  if !entFixed e then none
  else (List.range (s.mklEntries e)).find? (fun j =>
    let x := s.mklEntry e j
    let order := x.2 == 0 || (j != 0 && decide (x.1 ≤ (s.mklEntry e (j - 1)).1))
    (order || decide (entLen e ≤ x.1)) && min x.1 (entLen e - 1) == r)

/-- The final CRC of a pass whose last row is `row` (R128). -/
def State.passCrc (s : State) (p : Pass) (row : List Byte) : Nat :=
  let l := if entMkl p.entry = 0 then [] else s.mem (entMkl p.entry) (128 + 8 * s.mklEntries p.entry)
  (~~~ ((row ++ l).foldl crcByte p.crc)).toNat

/-- The group from whose stream a thread issues. -/
def State.onStream (s : State) (n : Nat) : Option Nat := (s.memberOf n).filter (fun g => !((s.group g).splits.contains n))

/-- What a vector issues, and when: the PI of its item, segment, pass, row and vector start (R190). -/
def rowSig (it : Item) (p : Pass) (next : Nat) : List Nat := [it.pi, p.seg, p.passNo, p.row, next]

/-- The row that a thread is to issue next, where it is held: none for any member once one member on its stream has found the group
stream without that row at that vector start (R226). -/
def State.rowHere (s : State) (n : Nat) (it : Item) (p : Pass) : Option (List Byte) :=
  let short := match s.onStream n with | some g => (s.group g).short.contains (rowSig it p (s.thr n).next) | none => false
  if short then none else p.rowBytes p.row

/-- The granules of a pass in which it holds a row from its next one on, whole: by the pass, or, where it is replayed, by the segment
whose rows the window keeps once (R213, R227). -/
def Pass.granulesHeld (p : Pass) : List (Nat × Nat × Nat) :=
  let z := max 1 (entRow p.entry)
  let has (g : Nat) : Bool := (List.range (128 / z + 2)).any (fun k =>
    let r := 128 * g / z + k
    decide (p.row ≤ r) && decide (r < entLen p.entry) && decide (r * z < 128 * g + 128) && (p.rowBytes r).isSome)
  ((p.data.map Prod.fst).filter has).map (fun g => if p.replay then (0, p.seg, g) else (1, p.no, g))

/-- The blocks of a window that hold at least one arrived row after the issue point: its granules lie one after another, sixteen to a
block (R211, R227; DESIGN CHOICE, log entry 112). -/
def Thread.blocksHeld (t : Thread) : Nat := ceilDiv (((t.stream.filter (fun q => !q.ended)).flatMap Pass.granulesHeld).eraseDups.length) 16

/-- A missing row (R224 to R227): the thread stalls, or its site is aborted. -/
def State.underrun (n : Nat) (it : Item) (p : Pass) (s : State) : State :=
  let t := s.thr n
  let here := rowSig it p t.next
  let s := match s.onStream n with
    | some g => s.modGroup g fun x => { x with short := x.short.filter (fun y : List Nat => decide (s.now ≤ y.getLastD 0)) ++ [here] }
    | none => s
  let s := s.event (848 + 4 * n + 2)
  if entStallOk p.entry then
    (s.modThr n fun t => { t with st := 4, back := t.st }).countUp VST_STALL_EVTS_COUNT n 1
  else
    let cause := if (List.range 8).any (fun i => (s.pad n i).feed.any (fun q => q.no == p.no)) then 1 else 0
    s.issueFault n 2 0x0206 (fld 31 16 p.seg + fld 15 8 (min t.blocksHeld 255) + cause) (some (t.nextVn, p.row, p.seg))

/-- The checks of R127 on a pass's entry: code and detail of the first that fails. -/
def State.entryCheck (s : State) (n : Nat) (p : Pass) : Option (Nat × Nat) :=
  let e := p.entry
  let cnt := (s.siteChannels n).length
  if !entValid e then some (0x0201, fld 31 16 p.seg)
  else if entFixed e != s.fixedMode n then some (0x0202, fld 31 16 p.seg)
  else if entNch e ≠ cnt then some (0x0203, fld 31 16 p.seg + fld 15 8 (entNch e) + fld 7 0 (cnt - 1))
  else if entLen e ≤ p.row then some (0x0207, fld 31 16 p.seg)
  else none

/-- The row of a pass is issued once: its position moves on, the window is free of what has been issued unless it is to be replayed,
the CRC runs on, and an item whose last vector this was leaves the queue (R119, R128, R153, R211). -/
def State.advanceRow (n : Nat) (it : Item) (p : Pass) (row : List Byte) (s : State) : State :=
  let more := !entFixed p.entry && decide (p.rep < rowRpt row)
  let sparse := entFixed p.entry && p.mkNext < s.mklEntries p.entry && decide ((s.mklEntry p.entry p.mkNext).1 ≤ p.row)
  let p := { p with
    checked := true, rep := if more then p.rep + 1 else 0, row := if more then p.row else p.row + 1
    mkNext := if sparse then p.mkNext + 1 else p.mkNext, ended := !more && p.row + 1 == entLen p.entry
    crc := if more then p.crc else row.foldl crcByte p.crc }
  let p := if (s.thr n).replayable p.entry then p
    else { p with data := p.data.filter (fun x => decide (p.row * entRow p.entry / 128 ≤ x.1)) }
  let s := s.setPass n p
  if p.ended && (it.kind == .play || it.kind == .playn) && it.follow p == .ends && p.atEnd.isNone && p.stopEnd.isNone then
    (s.itemOver n it).dropPass n p
  else s

/-- A stop that waits for the pass whose first vector is the next: on the pass, or, for a hold row, at the end of its vector
(R185). -/
def State.attachStop (n : Nat) (it : Item) (p : Pass) (s : State) : Pass × State :=
  match (s.thr n).stopNext with
  | none => (p, s)
  | some r =>
    let s := s.modThr n fun t => { t with stopNext := none }
    if it.holds then (p, s.modThr n fun t => { t with stopAt := some ⟨s.beat.lbc, r, false⟩ })
    else let p := { p with stopEnd := some r }; (p, s.setPass n p)

/-- One vector at the start that is next: the row of the pass, its idle row while STALLED, or a hold row, which carries no marker
and meets no check of a sparse list. A malformed sparse entry and a CRC mismatch at one last row are a fault each; an injection
inverts the CRC that the check compares (R127, R128, R445; log entry 89). -/
def State.issueVector (n : Nat) (it : Item) (p : Pass) (s : State) : State :=
  let t := s.thr n
  let here := some (t.nextVn, p.row, p.seg)
  if t.st = 4 then s.emit n p it false (s.idleRow p.entry)
  else match (if p.checked then none else s.entryCheck n p) with
    | some (code, detail) => s.issueFault n 2 code detail here
    | none =>
      let x := s.attachStop n it p
      let p := x.1
      let s := x.2
      match s.rowHere n it p with
      | none =>
        let s := s.underrun n it p
        if (s.thr n).st = 4 then s.emit n p it false (s.idleRow p.entry) else s
      | some row =>
        if it.holds then (s.setPass n { p with checked := true }).emit n p it false row
        else
          let bad := s.sparseBad p.entry p.row
          let last := p.row + 1 == entLen p.entry && p.rep == 0 && entCrcEn p.entry && !p.replay && !p.mixed && p.first == 0
          let inj := last && s.injected 3 n
          let crc := s.passCrc p row
          let crcBad := last && (if inj then 2 ^ 32 - 1 - crc else crc) != entCrc p.entry
          let s := when inj State.useInjection s
          let s := when crcBad (State.putBit VST_SITE_STAT_CRC_FAIL n true) s
          let s := match bad with
            | some j => s.issueFault n 2 0x0204 (fld 31 16 p.seg + min j 0xFFFF) here
            | none => s
          if crcBad then s.stopIssue n ⟨2, 2, 0x0205, fld 31 16 p.seg, BitVec.ofNat 32 (2 ^ n), inj, here⟩
          else if bad.isSome then s
          else (s.emit n p it true row).advanceRow n it p row

/-- The vectors of a beat: crossings and vectors one after another, while the next start lies in the beat. -/
def State.advance (n : Nat) (join : State → Item → Option Bool) : Nat → State → State
  | 0, s => s
  | k + 1, s =>
    let t := s.thr n
    if !(s.issuing n) || t.blocked || decide ((s.beat.lbc + 1) * beatFs ≤ t.next) then s
    else match s.cross n join with
      | some s' => State.advance n join k s'
      | none =>
        match s.headItem n with
        | none => s
        | some it =>
          match t.passOf it with
          | none => s
          | some p => State.advance n join k (s.issueVector n it p)

/-- A JOIN of this beat has been met by the group with no member split (R192). -/
def State.skipsJoin (s : State) (n : Nat) (it : Item) : Bool :=
  match s.memberOf n with | some g => (s.group g).skips.contains (it.pi, (s.thr n).next) | none => false

/-- Whether a JOIN is met at once: for a thread on its own, or where no member is split and every other member comes to
the same JOIN at the same vector start (R192). -/
def State.joinMet (s : State) (n : Nat) (it : Item) : Bool :=
  match s.memberOf n with
  | none => true
  | some g =>
    let gr := s.group g
    let at_ := (s.thr n).next
    let comes (m : Nat) : Bool :=
      let u := (s.effects m).advance m (fun u x => if u.skipsJoin m x then some true else none) 96
      (s.thr m).issueBeat != some s.beat.lbc && decide ((u.thr m).next = at_) &&
      (match u.headItem m with | some x => x.kind == .join && x.pi == it.pi | none => false)
    decide (gr.members.length ≤ 1) || s.skipsJoin n it ||
      (gr.splits.isEmpty && gr.members.all (fun m => m == n || comes m))

/-- A JOIN that is met at once is noted for the members that come to it later in the beat. -/
def State.noteSkip (n : Nat) (s : State) : State :=
  match s.memberOf n, s.headItem n with
  | some g, some it =>
    if it.kind = .join ∧ (s.thr n).began = none ∧ s.joinMet n it then
      s.modGroup g fun x => { x with
        skips := x.skips.filter (fun y => decide (s.now ≤ y.2) && y != (it.pi, (s.thr n).next)) ++ [(it.pi, (s.thr n).next)] }
    else s
  | _, _ => s

/-! ### Lockstep (R190, R226) -/

/-- The side that keeps the group stream: the most members, a tie to the side with the lowest site. -/
def keepSide (sides : List (List Nat)) : List Nat :=
  sides.foldl (fun best l => if best.length < l.length then l else best) []

/-- A window of the group that no site issues from (R214). -/
def Group.freeWindow (gr : Group) : Option Nat :=
  (List.range gr.windows.length).find? (fun k => !(gr.users.any (fun u => u.2 == k)))

/-- A site of a group issues from window `k` from now on. -/
def Group.use (gr : Group) (n k : Nat) : Group := { gr with users := gr.users.filter (fun u => u.1 != n) ++ [(n, k)] }

/-- The first vectors of a landing item are among those issued in the present beat, six words of the signature each: the rows of its
pad are the thread's own (R190, R214). -/
def Thread.freshLanding (t : Thread) : Bool := match t.landed with | some no => decide (t.vecNo - t.sig.length / 6 ≤ no) | none => false

/-- A member departs from the group stream: it issues from a split window, filled from its pad after a branch and otherwise from the
row at which it departed; where none is free, its site is aborted (R190, R214). -/
def State.splitOff (g m : Nat) (s : State) : State :=
  match (s.group g).freeWindow with
  | some k =>
    let s := (s.modGroup g fun x => { x.use m k with splits := x.splits ++ [m] }).putBit SEQ_BR_STAT_SPLIT m true
    if (s.thr m).freshLanding then s else s.modThr m Thread.departed
  | none =>
    if (s.thr m).blocked then s
    else s.issueFault m 1 0x0109 (fld 31 16 g) none

/-- The members on a group's stream are compared by what they issued in the beat, once all have issued (R190). -/
def State.lockstep (g : Nat) (s : State) : State :=
  let gr := s.group g
  let on := (gr.members.filter (fun m => !gr.splits.contains m && s.issuing m && !((s.thr m).abortsBy (s.beat.lbc + 1))))
  if on.length ≤ 1 || !(on.all (fun m => (s.thr m).issueBeat == some s.beat.lbc)) then s
  else
    let sigs := (on.map (fun m => (s.thr m).sig)).eraseDups
    let keep := keepSide (sigs.map (fun x => on.filter (fun m => (s.thr m).sig == x)))
    each (on.filter (fun m => !keep.contains m)) (State.splitOff g) s

/-- The comparison of a thread's group, if it is a member of one. -/
def State.compareGroup (g : Option Nat) (s : State) : State := match g with | some g => s.lockstep g | none => s

/-- The crossings and vectors of a beat, one after another. -/
def State.advanceAll (n : Nat) : Nat → State → State
  | 0, s => s
  | k + 1, s => State.advanceAll n k ((s.noteSkip n).advance n (fun s it => some (s.joinMet n it)) 1)

/-- What a thread does in a beat: the effects due, then its vectors, and the comparison of its group (R78, R153, R190). -/
def State.issueNow (n : Nat) (s : State) : State :=
  let s := s.effects n
  let s := if (s.thr n).issueBeat = some s.beat.lbc then s
    else s.modThr n fun t => { t with issueBeat := some s.beat.lbc, sig := [] }
  let g := s.memberOf n
  (s.advanceAll n 96).compareGroup g

/-- The changes of a thread's state at its next vector start, as far as no vector is issued between them: effects that are due,
halts, and the ends and beginnings of items. -/
def State.crossAll (n : Nat) : Nat → State → State
  | 0, s => s
  | k + 1, s =>
    if !(s.issuing n) || (s.thr n).blocked || decide (s.now < (s.thr n).next) then s
    else match (s.noteSkip n).cross n (fun s it => some (s.joinMet n it)) with
      | some t => State.crossAll n k t
      | none => s

/-- Thread state changes at precedence 3 of R23: those of the threads whose next vector starts with the beat. -/
def State.crossThreads (s : State) : State :=
  each ((List.range 32).filter (fun n => s.issuing n && !((s.thr n).abortsBy s.beat.lbc) && (s.thr n).issueBeat != some s.beat.lbc))
    (fun n s => if (s.thr n).next ≤ s.now then (s.effects n).crossAll n 8 else s) s

/-- VECTOR_ISSUE: a thread issues the vectors whose starts fall in the present beat (R78, R153). -/
def execVectorIssue (thr : Fin 32) (s : State) : Host.Outcome State Fault Refusal :=
  done <| s.live fun s =>
    if !(s.issuing thr.val) || (s.thr thr.val).abortsBy s.beat.lbc then s else s.issueNow thr.val

/-- TSET_EMPTY_DETECT: a row that selected an empty timing set is detected two beats after its issue (R91). -/
def execTsetEmptyDetect (thr : Fin 32) (s : State) : Host.Outcome State Fault Refusal :=
  done <| s.live fun s =>
    let n := thr.val
    match (s.thr n).pipe.find? (fun v => v.period == 0 && decide (v.issued + 2 ≤ s.beat.lbc)) with
    | none => s
    | some v =>
      if !(s.issuing n) then s
      else (s.modThr n fun t => { t with pipe := t.pipe.filter (fun w => w.no != v.no) }).raiseNow
        ⟨0, 2, 0x0003, fld 15 8 v.tset + fld 4 0 n, BitVec.ofNat 32 (2 ^ n), false, some (v.vn, v.row, v.seg)⟩

/-! ### Aborts (R25, R26, R103, R133) -/

/-- One more site has left its ARMED start: its bit goes, and `how` (1 stopped by SEQ_BURST_STOP in mode ABORT, 3 aborted
by a fault, 0 cancelled) is joined to what has happened to the others; with the last of them the start ends (R158, R159). -/
def startLeft (n how : Nat) (d : Deferred) : Deferred :=
  let m := d.data.getD 0 0 - 2 ^ n
  let f := d.data.getD 1 0 ||| how
  let ended_ : Option (Nat × List Nat) := if m = 0 then some (if 2 ≤ f then Status.abortedFault else Status.wrongState, []) else none
  { d with data := [m, f], outcome := ended_ }

/-- A site whose thread was ARMED leaves its burst start. -/
def State.leaveStart (n how : Nat) (s : State) : State :=
  s.modDeferred (fun d => d.outcome.isNone && (d.data.getD 0 0).testBit n && (match d.cmd with | .seqBurstStart .. => true | _ => false))
    (startLeft n how)

/-- The first vector start at or after `b` fs on the grid that goes on from the last vector issued (R103); a vector of an
empty timing set has no period, and the grid goes on at `b` itself (DESIGN CHOICE, log entry 100). -/
def gridAfter (next period b : Nat) : Nat := if b ≤ next ∨ period = 0 then max next b else next + ceilDiv (b - next) period * period

/-- A site is aborted in beat `b1`: its thread is ABORTED, its rows in the output pipe are discarded, and its channels are
to take their quiet state (R25, R26, R103). -/
def State.abortSite (n b1 reason : Nat) (s : State) : State :=
  let t := s.thr n
  let armed := t.st == 1
  let g := s.memberOf n
  let cut := (b1 + 1) * beatFs
  let s := each (s.siteChannels n) (fun ch => State.discardRows ch b1) s
  let s := s.modThr n fun t => { t with pipe := t.pipe.filter (fun v => decide (v.issued + 12 ≤ b1)) }
  let s := s.withSeq fun q => { q with
    mkActs := q.mkActs.filter (fun a => a.thr != n || a.action == 4 || decide (a.issued + 12 ≤ b1))
    imActs := q.imActs.filter (fun a => a.2.1 != n || decide (a.2.2.1 + 12 ≤ b1)) }
  let s := if armed then s else s.siteQuiet n (gridAfter t.next t.lastPeriod cut) cut
  let s := (s.endThread n 6).setReg .SEQ_THR_END n 0 (BitVec.ofNat 32 (fld 31 28 reason))
  let s := s.modThr n fun t => { t with abortedAt := some s.beat.lbc }
  let s := when armed (State.leaveStart n (if reason = 6 then 1 else 3)) s
  ((s.event (848 + 4 * n + 1)).aqSiteOver n).compareGroup g

/-- An abort whose beat 1 has come takes place (R25). -/
def State.takeAbort (n : Nat) (s : State) : State :=
  match (s.thr n).abortAt with
  | none => s
  | some (b1, reason) => if s.beat.lbc < b1 then s else s.abortSite n b1 reason

/-- The aborts of some sites whose beat 1 has come (precedence 1 of R23). -/
def State.takeAborts (l : List Nat) (s : State) : State := each l State.takeAbort s

/-- SITE_ABORT: beat 1 of R25 has come. -/
def execSiteAbort (site : Fin 32) (s : State) : Host.Outcome State Fault Refusal := done <| s.live (State.takeAbort site.val)

end Sys2Proof.Machine
end

