-- ==== Sys2Proof/Machine/Branch.lean ====
section
/-! DEFINITION. Compare results, condition slots, decisions and their effects, JOIN and SPANSYNC releases, and the span
(R83 to R88, R169 to R199). -/

namespace Sys2Proof.Machine

/-! ### Compare results (R83 to R87, R170, R171) -/

/-- The receiver outputs of a channel after its inversions (R83); none for an input that is not resolved (R88). -/
def State.readInputs (s : State) (ch : Nat) (cph cpl : Bool) : Option (Bool × Bool) :=
  if s.bitOf TMG_CH_STAT_CPH_UNRES ch || s.bitOf TMG_CH_STAT_CPL_UNRES ch then none
  else some (xor cph (s.bitOf TMG_CH_TIM_CPH_INV ch), xor cpl (s.bitOf TMG_CH_TIM_CPL_INV ch))

/-- A strobe that samples an unresolved input raises the channel's event once for each unresolved period (R88). -/
def State.unresolved (ch : Nat) (s : State) : State :=
  let h := s.bitOf TMG_CH_STAT_CPH_UNRES ch
  let l := s.bitOf TMG_CH_STAT_CPL_UNRES ch
  let p := s.pip ch
  let new := (h && !p.unresH) || (l && !p.unresL)
  when new (State.event (4 * ch + 3)) (s.modPip ch fun p => { p with unresH := p.unresH || h, unresL := p.unresL || l })

/-- The judgement of R84: a symbol passes on the state that two receiver outputs spell; none is the invalid state. -/
def passes (sym : Nat) (x : Option (Bool × Bool)) : Bool :=
  match sym, x with
  | 4, some (h, l) => !h && !l
  | 5, some (h, l) => h && l
  | 6, some (h, l) => !h && l
  | _, _ => false

/-- The state that two receiver outputs spell is invalid (R83). -/
def invalidRead : Option (Bool × Bool) → Bool
  | none => true
  | some (h, l) => h && !l

/-- The happenings of one compare result of a vector in beat `c` (R170, R171): `idx` is the site-local channel, `last` the beat
of the vector's last result so far, `first` says that it is the vector's first fail, `all` that every compared channel has
passed. -/
def State.compareHappen (n no idx c last : Nat) (pass first all : Bool) (s : State) : State :=
  let fire (src arg c : Nat) : State → State := each (s.slotsOf n src arg) (fun k => State.happen n k (c + 2) (some no))
  let s := fire (if pass then 4 else 3) idx c s
  let s := when first (fire 1 0 c) s
  let s := when first (State.happen n 16 (c + 2) (some no)) s
  when all (fire 2 0 last) s

/-- What a strobe reads: the two receiver outputs; none for a dropped strobe or an unresolved input (R88, R100). -/
def State.strobeRead (s : State) (c : Nat) (b : Strobe) (cph cpl : Bool) : Option (Bool × Bool) :=
  if b.dropped then none else s.readInputs c cph cpl

/-- The time of a strobe's result in parts of 1/256 fs (R87, R98): `ofs` is where in its window the first wrong state lies. The
result of a dropped strobe comes at the STB_OPEN that it would have had (DEDUCED, log entry 71). -/
def Strobe.time (b : Strobe) (pass : Bool) (ofs : Nat) : Int :=
  if !b.window then realised b.opens
  else if pass then realised b.closes else min (realised b.opens + 256 * ofs) (realised b.closes)

/-- A vector with the compare result of one of its strobes, in beat `beat`. -/
def Vec.judged (v : Vec) (c : Nat) (b : Strobe) (pass : Bool) (read : Option (Bool × Bool)) (beat : Nat) : Vec :=
  let ends := beatOf (realised b.closes)
  { v with
    early := if !pass && b.window && decide (beat < ends) then v.early ++ [(c, b.grid, ends)] else v.early
    todo := v.todo.erase c
    fails := if pass then v.fails else v.fails ++ [c]
    invalid := if invalidRead read then v.invalid ++ [c] else v.invalid
    bitsDue := if pass then v.bitsDue else v.bitsDue ++ [(c, beat)]
    lastBeat := max v.lastBeat beat }

/-- A vector with the capture sample of one of its strobes. -/
def Vec.sampled (v : Vec) (c : Nat) (read : Option (Bool × Bool)) : Vec :=
  { v with
    capTodo := v.capTodo.erase c
    samples := v.samples ++ [(c, if invalidRead read then none else read)] }

/-- A vector belongs to an interval (R179). -/
def Live.has (l : Live) (no : Nat) : Bool := decide (l.no ≤ no) && (match l.last with | some x => decide (no ≤ x.1) | none => true)

/-- The pads whose interval holds a vector note the beat of its result (R179). -/
def Thread.notePads (no beat : Nat) (t : Thread) : Thread :=
  { t with pads := t.pads.map (fun x =>
      match x.2.live with
      | some l => if l.has no then (x.1, { x.2 with judged := max x.2.judged beat }) else x
      | none => x) }

/-- The result of the oldest strobe of a channel enters its vector and happens in its slots, or is its capture sample (R170,
R171, R241); `rest` are the strobes after it. -/
def State.takeResult (c : Nat) (b : Strobe) (rest : List Strobe) (read : Option (Bool × Bool)) (beat : Nat) (s : State) : State :=
  let pass := passes b.sym read
  let s := if b.dropped || read.isSome then s else s.unresolved c
  let s := s.modPip c fun p => { p with strobes := rest }
  match (s.thr b.thr).pipe.find? (fun v => v.no == b.vec) with
  | none => s
  | some v =>
    let w := if b.sym = 8 then v.sampled c read else v.judged c b pass read beat
    let s := s.modThr b.thr fun t => { t with pipe := t.pipe.map (fun x => if x.no = v.no then w else x) }
    if b.sym = 8 then s
    else
      let all := w.todo.isEmpty && w.fails.isEmpty
      (s.modThr b.thr (Thread.notePads v.no beat)).compareHappen b.thr v.no b.idx beat w.lastBeat pass (!pass && v.fails.isEmpty) all

/-- COMPARE_RESULT: the oldest strobe of a channel is judged, in the beat of its result or later. -/
def execCompareResult (ch : Fin 128) (cph cpl : Bool) (ofs : Nat) (s : State) : Host.Outcome State Fault Refusal :=
  done <| s.live fun s =>
    match (s.pip ch.val).strobes with
    | [] => s
    | b :: rest =>
      let read := s.strobeRead ch.val b cph cpl
      let beat := beatOf (b.time (passes b.sym read) ofs)
      if s.beat.lbc < beat then s else s.takeResult ch.val b rest read beat

/-! ### Slots (R170 to R172) -/

/-- The happenings of a slot whose slot-set beat has come. -/
def State.hapsDue (s : State) (n k : Nat) : List Hap := (s.thr n).haps.filter (fun h => h.slot == k && decide (h.beat ≤ s.beat.lbc))

/-- A slot is set in this beat by the happenings due, and the units that watch it are triggered at the beat's start
(R172, R247). -/
def State.setSlotNow (n k : Nat) (s : State) : State :=
  let due := s.hapsDue n k
  let s := s.modThr n fun t => { t with haps := t.haps.filter (fun h => !(h.slot == k && decide (h.beat ≤ s.beat.lbc))) }
  let v := s.slot n k
  let s := s.setSlot n k {
    sticky := if v.sticky.isNone && s.bitOf SEQ_CSL_CFG_STICKY (16 * n + k) then some s.beat.lbc else v.sticky
    beat := some s.beat.lbc
    of_ := (if v.beat = some s.beat.lbc then v.of_ else []) ++ due.map Hap.of_ }
  s.triggerAll 4 (n + 32 * k) s.now

/-- CONDITION_SLOT_SET: the slot-set beat of a slot's happenings has come. -/
def execConditionSlotSet (thr : Fin 32) (slot : Fin 16) (s : State) : Host.Outcome State Fault Refusal :=
  done <| s.live fun s => if (s.hapsDue thr.val slot.val).isEmpty then s else s.setSlotNow thr.val slot.val

/-- A beat falls in an interval. -/
def Live.inBeats (l : Live) (b : Nat) : Bool :=
  decide (l.beat ≤ b) && (match l.last with | some x => decide (b ≤ x.2.1) | none => true)

/-- The counting rule of R179 for a slot set in beat `b`: a compare happening by its vector, any other by its slot-set beat. A vector
of another member of the span is the last that starts before the beat of its result ends, less the 12 beats to the balls (DEDUCED,
log entry 81). -/
def Live.counts (l : Live) (b : Nat) : Option Origin → Bool
  | none => l.inBeats b
  | some (.vector no) => l.has no
  | some (.result c) =>
    let x := (c + 1) * beatFs - 15000000
    decide (l.start < x) && (match l.last with | some y => decide (x ≤ y.2.2) | none => true)

/-- The value of a slot in beat `b` for a pad or an item that is live over an interval, under the counting rule of R179
and the modes of R172, with the vector that decides. -/
def State.slotValue (s : State) (n k : Nat) (neg : Bool) (live : Option Live) (b : Nat) : Bool × Option Origin :=
  match live with
  | some l =>
    let v := s.slot n k
    let hit := (if v.beat = some b then v.of_ else []).find? (l.counts b)
    if s.bitOf SEQ_CSL_CFG_STICKY (16 * n + k) then
      let held := match v.sticky with | some z => decide (z ≤ b) | none => false
      (if neg then !held && l.inBeats b else held && (l.inBeats b || hit.isSome), if neg then none else hit.join)
    else if neg then (l.inBeats b && hit.isNone, none)
    else (hit.isSome, hit.join)
  | none => (false, none)

/-- The value of the slot of a JIF pad in the beat before the decision. -/
def State.padValue (s : State) (n i : Nat) : Bool × Option Origin :=
  let p := s.pad n i
  s.slotValue n p.slot p.neg p.live (s.beat.lbc - 1)

/-- The interval of the item that a thread is issuing (R186). -/
def Thread.itemLive (t : Thread) : Option Live := t.began.map (fun b => ⟨t.beganNo, b, t.beganAt, none⟩)

/-! ### Decisions (R173, R174, R180) -/

/-- A pad is taken by an IMMEDIATE decision: the rest of the decision beat's work of R180. The pads of the items of the old path are
disarmed with all others, and stand for them no more. -/
def State.takePad (n i : Nat) (no : Option Origin) (s : State) : State :=
  let p := s.pad n i
  let s := when (!p.timeout) (State.clearSlot n p.slot) s
  let s := ((s.disarmAll n).restore n i).placeLanding n i
  s.modThr n fun t => { t with
    ubeat := some s.beat.lbc, taken := some (i, s.beat.lbc + 1), shadow := no
    queue := (t.queue.filter (fun it => it.pushed != s.beat.lbc)).map (fun it => { it with timeoutPad := none })
    atEnds := t.atEnds.filter (fun x => decide (x.2 ≤ s.beat.lbc)) }

/-- The pad armed longest ago among some. -/
def State.oldestPad (s : State) (n : Nat) : List Nat → Option Nat
  | [] => none
  | i :: r => match s.oldestPad n r with
    | none => some i
    | some j => if (s.pad n j).serial < (s.pad n i).serial then some j else some i

/-- The decision of a thread in its decision beat, in the order of R174. Whether a fail stops the thread goes by the stop mode in force in
the decision beat (R185; DESIGN CHOICE, log entry 120). -/
def State.decideBeat (n : Nat) (s : State) : State :=
  let t := s.thr n
  let d := s.beat.lbc
  if !(s.issuing n) || t.abortsBy (d + 1) || t.taken.isSome || t.stopAt.isSome then s
  else
    let failed := t.haps.find? (fun h => h.slot == 16 && decide (h.beat + 1 ≤ d))
    let s := s.modThr n fun t => { t with haps := t.haps.filter (fun h => !(h.slot == 16 && decide (h.beat + 1 ≤ d))) }
    let stop := failed.isSome && (t.sof == 1 || s.fieldOf CAP_FLOG_CFG_POLICY n == 3)
    if stop then s.modThr n fun t => { t with stopAt := some ⟨d + 1, 3, true⟩, shadow := (failed.map Hap.of_).join, atEnds := t.atEnds.filter (fun x => decide (x.2 ≤ d)) }
    else
      let jifs := (s.armedPads n).filter (fun i => !(s.pad n i).timeout)
      match s.oldestPad n (jifs.filter (fun i => !(s.pad n i).atEnd && (s.padValue n i).1)) with
      | some i => s.takePad n i (s.padValue n i).2
      | none =>
        let ends := jifs.filter (fun i => (s.pad n i).atEnd && (s.padValue n i).1 && !(t.atEnds.any (fun x => x.1 == i)) &&
          !(t.stream.any (fun p => p.atEnd == some i)))
        let s := each ends (fun i s => s.modThr n fun t => { t with atEnds := t.atEnds ++ [(i, d + 1)] }) s
        let s := when (failed.isSome && t.sof == 2) (State.modThr n fun t => { t with atEnds := t.atEnds ++ [(8, d + 1)] }) s
        match s.headItem n with
        | none => s
        | some it =>
          if (it.kind == .wait || it.kind == .matchPass) && t.waitEnd.isNone &&
              (s.slotValue n it.slot it.neg t.itemLive (d - 1)).1 then
            (s.clearSlot n it.slot).modThr n fun t => { t with waitEnd := some (d + 1) }
          else s

/-- BRANCH_DECISION. -/
def execBranchDecision (thr : Fin 32) (s : State) : Host.Outcome State Fault Refusal :=
  done <| s.live (State.decideBeat thr.val)

/-- A happening that counts for a pad can still reach its slot: a vector of its interval is not judged, or a happening
waits, or its slot was set in this beat for the decision of the next; of a span slot, another member's happening of its last vector
may come (R173, R179, R196). -/
def State.padWaits (s : State) (n : Nat) (p : Pad) : Bool :=
  match p.live with
  | none => false
  | some l =>
    let inNo (v : Nat) : Bool := l.last.isSome && l.has v
    let span := s.inSpan n && s.bitOf SEQ_CSL_CFG_SPAN (16 * n + p.slot) && s.compares n p.slot
    let far := match l.last with | some x => max p.judged ((x.2.2 + 15000000) / beatFs) | none => 0
    (s.slot n p.slot).beat == some s.beat.lbc ||
    (span && decide (s.beat.lbc ≤ far + 2 + s.lSpan)) ||
    (s.thr n).pipe.any (fun v => v.counts && inNo v.no && (!v.scheduled || !v.todo.isEmpty)) ||
    (s.thr n).haps.any (fun h => h.slot == p.slot && decide (s.beat.lbc ≤ h.beat + 1) && l.counts h.beat h.of_)

/-- PAD_EXPIRE: a JIF pad whose item has been issued, and for which no happening can count any more, is disarmed, after the
decisions of the beat. -/
def execPadExpire (thr : Fin 32) (pad : Fin 8) (s : State) : Host.Outcome State Fault Refusal :=
  done <| s.live fun s =>
    let s := if (s.slot thr.val (s.pad thr.val pad.val).slot).beat == some (s.beat.lbc - 1) then s.decideBeat thr.val else s
    let p := s.pad thr.val pad.val
    let ended_ := match p.live.bind Live.last with | some x => decide (x.2.1 + 1 < s.beat.lbc) | none => false
    if p.armed && !p.timeout && ended_ && !(s.padWaits thr.val p) then s.setPad thr.val pad.val { p with armed := false } else s

/-- BRANCH_EFFECT: a decision's effect beat. -/
def execBranchEffect (thr : Fin 32) (s : State) : Host.Outcome State Fault Refusal :=
  done <| s.live fun s => if s.issuing thr.val then s.effects thr.val else s

/-- The beat at which an item's timeout is reached: it has issued for its limit of 1,024 beats each (R146, R187). -/
def Thread.expires (t : Thread) (it : Item) : Option Nat :=
  if it.limit = 0 then none else t.began.map (fun b => b + 1024 * it.limit)

/-- The decisions of the beat leave the timeout of the thread's item to be taken (R174). -/
def State.undecided (s : State) (n : Nat) : Bool :=
  let t := s.thr n
  s.issuing n && t.taken.isNone && t.stopAt.isNone && !(t.abortsBy (s.beat.lbc + 1)) && t.waitEnd.isNone

/-- The limit of the item of kind `k` that a thread issues has been reached: its timeout pad is taken unless another decision stands
in the same beat, or has ended the item (R146, R174, R187). -/
def State.expireItem (n : Nat) (k : ItemKind) (s : State) : State :=
  let due := match s.headItem n with
    | some it => it.kind == k && (match (s.thr n).expires it with | some e => decide (e ≤ s.beat.lbc + 1) | none => false)
    | none => false
  if !due || !(s.issuing n) then s
  else
    let s := s.decideBeat n
    match (s.headItem n).bind Item.timeoutPad with
    | some i => if s.undecided n then s.takePad n i none else s
    | none => s

/-- WAIT_TIMEOUT. -/
def execWaitTimeout (thr : Fin 32) (s : State) : Host.Outcome State Fault Refusal :=
  done <| s.live (State.expireItem thr.val .wait)

/-! ### JOIN (R192, R193) -/

/-- The members of a group that wait at the JOIN of a PI. -/
def State.joined (s : State) (g pi : Nat) : List Nat :=
  (s.group g).members.filter (fun m => match s.headItem m with
    | some it => it.kind == .join && it.pi == pi && (s.thr m).arrived.isSome
    | none => false)

/-- The hold vector of a thread ends at a boundary, and the next item's first vector starts there; its edges timed at or after the
boundary are not placed, those of the vectors before it are (R80, R192, R198). -/
def State.release (n at_ : Nat) (s : State) : State :=
  let t := s.thr n
  let gone (vec : Nat) (grid : Int) : Bool := vec == t.vecNo && decide ((at_ : Int) ≤ grid)
  let s := each (s.siteChannels n) (fun ch => State.modPip ch fun p => { p.undo (fun e => gone e.vec e.grid) with
    queue := p.queue.filter (fun c => c.quiet || !(gone c.vec c.grid)) }) s
  let s := match t.queue.head? with | some it => s.itemOver n it | none => s
  s.modThr n fun t => { t with
    next := at_, landed := none
    pipe := t.pipe.map (fun v => if v.no = t.vecNo ∧ at_ < v.start + v.period then { v with cut := some at_ } else v) }

/-- The window that a site of a group issues from. -/
def Group.windowOf (gr : Group) (n : Nat) : Nat := ((gr.users.find? (fun u => u.1 == n)).map Prod.snd).getD 0

/-- The members of a group all issue from one window again, and none is split. -/
def Group.whole (gr : Group) (members : List Nat) (k : Nat) : Group :=
  { members.foldl (fun x m => x.use m k) gr with members := members, splits := [], skips := [] }

/-- The JOIN of a group releases its members at the beat boundary, and the group is whole again: those that were split share the
group's stream, and their windows are free (R192, R214). Where every member left is split, the lowest one's rows are that stream. -/
def State.releaseJoin (g : Nat) (s : State) : State :=
  let gr := s.group g
  let s := each gr.members (fun m s => (s.release m s.now).putBit SEQ_BR_STAT_SPLIT m false) s
  let s := s.alignItems gr.members
  let a := (gr.members.find? (fun m => !(gr.splits.contains m))).getD (gr.members.headD 0)
  (each (gr.splits.filter (· != a)) (State.rejoin a) s).modGroup g fun x => x.whole gr.members (gr.windowOf a)

/-- JOIN_RELEASE: a JOIN that every member has reached releases two beats after the last arrival. -/
def execJoinRelease (group : Fin 8) (s : State) : Host.Outcome State Fault Refusal :=
  done <| s.live fun s =>
    let ms := (s.group group.val).members
    match ms.head?.bind (fun m => s.headItem m) with
    | none => s
    | some it =>
      let last := ms.foldl (fun a m => max a ((s.thr m).arrived.getD 0)) 0
      if it.kind = .join ∧ (s.joined group.val it.pi).length = ms.length ∧ last + 2 ≤ s.beat.lbc then s.releaseJoin group.val else s

/-- The threads that wait at a thread's JOIN. -/
def State.waitingWith (s : State) (n : Nat) (it : Item) : List Nat := match s.memberOf n with | some g => s.joined g it.pi | none => [n]

/-- The JOIN is met: every member waits at it. -/
def State.allWait (s : State) (n : Nat) (it : Item) : Bool :=
  match s.memberOf n with | some g => decide ((s.joined g it.pi).length = (s.group g).members.length) | none => true

/-- Threads that wait at a JOIN leave for their timeout targets and are the group from then on; one that another decision takes
elsewhere in the same beat goes there (R174, R193). They share one window from then on: the group stream's where one of them has
it, else that of the lowest (DESIGN CHOICE, log entry 82). -/
def State.expireJoin (n : Nat) (waiting : List Nat) (s : State) : State :=
  let base := waiting.foldl (fun a m => max a (s.thr m).serial) 0
  let s := each waiting (fun m s =>
    match (s.headItem m).bind Item.timeoutPad with
    | some i =>
      let s := if s.undecided m then ((s.modThr m fun t => { t with serial := base }).takePad m i none).event (848 + 4 * m + 3) else s
      s.putBit SEQ_BR_STAT_SPLIT m false
    | none => s) s
  match s.memberOf n with
  | some g =>
    let gr := s.group g
    let a := (waiting.find? (fun m => !(gr.splits.contains m))).getD (waiting.headD n)
    s.modGroup g fun x => x.whole waiting (gr.windowOf a)
  | none => s

/-- The limit of a thread that waits at a JOIN is reached; the other decisions of the beat come first (R174, R193). -/
def State.endJoin (n : Nat) (s : State) : State :=
  match s.headItem n with
  | none => s
  | some it =>
    let due := match (s.thr n).expires it with | some e => decide (e ≤ s.beat.lbc + 1) | none => false
    if !(it.kind == .join) || !due || (s.thr n).taken.isSome || !(s.issuing n) || s.allWait n it then s
    else
      let l := s.waitingWith n it
      let s := each l State.decideBeat s
      if s.undecided n then s.expireJoin n l else s

/-- JOIN_TIMEOUT. -/
def execJoinTimeout (thr : Fin 32) (s : State) : Host.Outcome State Fault Refusal := done <| s.live (State.endJoin thr.val)

/-- Every decision of the beat that concerns a thread: conditions and fails, the limit of its item, and the limits of those that wait
with it at a JOIN (R173, R174). -/
def State.decideNow (n : Nat) (s : State) : State :=
  let s := (s.decideBeat n).expireItem n .wait
  let s := if s.inSpan n then s else s.expireItem n .spansync
  match s.headItem n with
  | some it => if it.kind = .join then each (s.waitingWith n it) State.endJoin s else s
  | none => s

/-! ### Spans (R194 to R199) -/

/-- The span number, and the member site of this module, while its burst runs. -/
def State.spanSite (s : State) : Option Nat :=
  let n := s.fieldOf SEQ_SPAN_CFG_SITE 0
  if s.bitOf SEQ_SPAN_CFG_EN 0 && decide (1 ≤ (s.thr n).st) && decide ((s.thr n).st ≤ 4) then some n else none

/-- SPANSYNC_RELEASE: every member has arrived, and the release boundary has come (R198). -/
def execSpansyncRelease (s : State) : Host.Outcome State Fault Refusal :=
  done <| s.live fun s =>
    match s.spanSite with
    | none => s
    | some n =>
      match s.headItem n with
      | none => s
      | some it =>
        if it.kind ≠ .spansync ∨ (s.thr n).arrived.isNone then s
        else match s.spanRelease it.pi with
          | some r => if r ≤ s.burstBeat n then (s.spanForget it.pi r).release n s.now else s
          | none => s

/-- The member sends the expiry of its own limit, once. -/
def State.sendExpiry (n : Nat) (it : Item) (s : State) : State :=
  let me := s.fieldOf KLK_MOD_ID_ID 0
  let own := match (s.thr n).expires it with | some e => decide (e ≤ s.beat.lbc) | none => false
  let sent := (s.spanHeard 2 it.pi).any (fun x => x.1 == me)
  when (own && !sent) (State.spanPut (s.burstBeat n) 0 2 it.pi []) s

/-- The member leaves for the timeout target at the boundary that the earliest expiry gives. -/
def State.leaveSpansync (n : Nat) (it : Item) (s : State) : State :=
  match s.spanExpiry it.pi, it.timeoutPad with
  | some e, some i =>
    if e ≤ s.burstBeat n then (((s.spanForget it.pi e).event (848 + 4 * n + 3)).release n s.now).jumpAtEnd n i true else s
  | _, _ => s

/-- SPANSYNC_TIMEOUT: of the member of a span by what the members have sent (R199); of a thread in no span, which no member's arrival
releases, by its own limit (R146; log entry 83). -/
def execSpansyncTimeout (s : State) : Host.Outcome State Fault Refusal :=
  done <| s.live fun s =>
    let s := each ((List.range 32).filter (fun n => !(s.inSpan n))) (fun n => State.expireItem n .spansync) s
    match s.spanSite with
    | none => s
    | some n =>
      match s.headItem n with
      | none => s
      | some it => if it.kind ≠ .spansync ∨ (s.thr n).arrived.isNone then s else (s.sendExpiry n it).leaveSpansync n it

/-- The payload of a COND frame (R335). -/
def condBytes (spanNo : Nat) (c : Cond) : List Byte :=
  leBytes 8 (c.beat % 2 ^ 48 + spanNo * 2 ^ 48) ++ leBytes 4 c.slots ++ leBytes 4 (c.flags + c.pi * 2 ^ 16)

/-- The COND frames collected up to the burst beat that ends are sent (R196, R335); what no slot can need any more is
forgotten. -/
def State.spanFlush (s : State) : State :=
  let n := s.fieldOf SEQ_SPAN_CFG_SITE 0
  let now := s.burstBeat n
  let due := s.seq.span.out.filter (fun c => decide (c.beat ≤ now))
  if due.isEmpty then s
  else
    let s := each due (fun c s => s.flood 1 0 (condBytes (s.fieldOf SEQ_SPAN_CFG_SPAN 0) c)) s
    let old := now - (s.lSpan + 64)
    s.withSeq fun q => { q with span := { q.span with
      out := q.span.out.filter (fun c => !decide (c.beat ≤ now))
      heard := q.span.heard.filter (fun c => c.flags % 4 != 0 || decide (old ≤ c.beat))
      sentAt := s.beat.lbc } }

/-- SPAN_KEEPALIVE: a running member that has sent nothing for 16 beats sends an empty frame (R197). -/
def execSpanKeepalive (s : State) : Host.Outcome State Fault Refusal :=
  done <| s.live fun s =>
    match s.spanSite with
    | some n => if s.issuing n && decide (s.seq.span.sentAt + 16 ≤ s.beat.lbc) then s.spanPut (s.burstBeat n) 0 0 0 [] else s
    | none => s

/-- The span's link to a member is late: the member site is aborted (R197, R200). -/
def State.linkLate (n member : Nat) (s : State) : State :=
  if (s.thr n).abortsBy (s.beat.lbc + 2) then s
  else s.raise ⟨1, 2, 0x010A, fld 31 16 (s.fieldOf SEQ_SPAN_CFG_SPAN 0) + fld 10 0 member, BitVec.ofNat 32 (2 ^ n), false, none⟩

/-- SPAN_LINK_LATE: nothing has come from a member for L_span beats. -/
def execSpanLinkLate (member : BitVec 11) (s : State) : Host.Outcome State Fault Refusal :=
  done <| s.live fun s =>
    match s.spanSite with
    | none => s
    | some n =>
      let m := member.toNat
      let heard := ((s.seq.span.last.find? (fun x => x.1 == m)).map Prod.snd).getD (s.thr n).startBeat
      if m ≠ s.fieldOf KLK_MOD_ID_ID 0 ∧ s.issuing n ∧ heard + s.lSpan ≤ s.beat.lbc then s.linkLate n m else s

/-- What a COND frame of another member does (R32, R196 to R199). -/
def State.condHeard (c : Cond) (s : State) : State :=
  match s.spanSite with
  | none => s
  | some n =>
    let now := s.beat.lbc
    let due := (s.thr n).startBeat + c.beat + s.lSpan
    let s := s.withSeq fun q => { q with span := { q.span with
      heard := q.span.heard ++ [c]
      last := (q.span.last.filter (fun x => x.1 != c.member)) ++ [(c.member, now)] } }
    let s := if s.issuing n && decide (due ≤ now) then s.linkLate n c.member else s
    let s := each ((List.range 17).filter (fun k => c.slots / 2 ^ k % 2 == 1)) (fun k => State.spanSet n k c.beat) s
    if c.flags / 4 % 2 = 1 then
      let s := s.fault 1 0 0x010B (fld 31 16 (s.fieldOf SEQ_SPAN_CFG_SPAN 0) + fld 10 0 c.member) (BitVec.ofNat 32 (2 ^ n))
      if (s.thr n).abortsBy (max due now + 1) then s else s.modThr n fun t => { t with abortAt := some (max due now + 1, 5) }
    else s

end Sys2Proof.Machine
end

