-- ==== Sys2Proof/Machine/Shadow.lean ====
section
/-! DEFINITION. The shadow of an open transaction (R60, R64 to R70) as the commands of every family meet it. -/

namespace Sys2Proof.Machine

/-- The open transaction of a mailbox (R64). -/
def State.txnOf (s : State) (m : Nat) : Option Txn := s.hst.txns.find? (fun x => x.mb == m)

/-- The transaction of a mailbox changed. -/
def State.modTxn (m : Nat) (f : Txn → Txn) (s : State) : State :=
  s.withHst fun h => { h with txns := h.txns.map (fun x => if x.mb = m then f x else x) }

/-- What each entry of a shadow stands for: one key for each register, timing set, marker table entry, mask and
controller (R65, R106, R137). -/
def Shadow.keys : Shadow → List (Nat × Nat)
  | .reg off _ _ => [(0, off)]
  | .load (.tmgTsetLoad _ _ site first count) _ =>
    (List.range count.toNat).map (fun k => (1, site.toNat * 256 + first.toNat + k))
  | .load (.vstMktabLoad _ _ site first count) _ =>
    (List.range count.toNat).map (fun k => (2, site.toNat * 256 + first.toNat + k))
  | .load (.capAqMaskLoad _ _ unit _) _ => [(3, unit.toNat)]
  | .load (.supSet _ controllers _ _) _ => (maskList controllers 32).map (fun k => (4, k))
  | .load _ _ => []

/-- The entries that a shadow takes (R65). -/
def shadowSize (l : List Shadow) : Nat := ((l.flatMap Shadow.keys).eraseDups).length

/-- One more entry: a register write merges into the entry that its register has (R65). -/
def addShadow (l : List Shadow) (e : Shadow) : List Shadow :=
  match e with
  | .reg off v m =>
    if l.any (fun x => match x with | .reg o _ _ => o == off | _ => false) then
      l.map (fun x => match x with
        | .reg o v0 m0 => if o = off then .reg o ((v0 &&& ~~~m) ||| (v &&& m)) (m0 ||| m) else x
        | _ => x)
    else l ++ [.reg off (v &&& m) m]
  | e => l ++ [e]

/-- A command that an open transaction shadows (R60): refused there with ROLLED_BACK, WRONG_STATE or NO_RESOURCE by R70,
R67 and R65; outside a transaction it is judged with `more` and runs `live`. A refusal with BAD_ARGUMENT reports `bad`. -/
def State.shadowed (iss : Issuer) (code : Nat) (avail : Bool) (checks more : List (Bool × Nat)) (bad res : List Nat)
    (entry : Shadow) (live : State → State) (s : State) : State :=
  let refuse (st : Nat) (s : State) : State := s.complete iss st (if st = Status.badArgument then bad else [])
  if !(s.canTake iss.mb.val) then s
  else match s.gate code with
    | some st => s.complete iss st []
    | none =>
      match s.txnOf iss.mb.val with
      | some x =>
        if x.rolled then s.complete iss Status.rolledBack []
        else
          let l := addShadow x.entries entry
          match lowest ((!avail, Status.badCommand) :: issuerCheck iss :: checks ++ [(x.pending.isSome, Status.wrongState), (decide (4096 < shadowSize l), Status.noResource)]) with
          | some st => refuse st s
          | none => (s.modTxn iss.mb.val fun x => { x with entries := l }).complete iss Status.ok res
      | none =>
        match lowest ((!avail, Status.badCommand) :: issuerCheck iss :: checks ++ more) with
        | some st => refuse st s
        | none => live s

/-- A command with results for a refusal by BAD_ARGUMENT. -/
def State.commandBad (iss : Issuer) (code : Nat) (avail : Bool) (checks : List (Bool × Nat)) (bad : List Nat)
    (run : State → State) (s : State) : State :=
  if s.canTake iss.mb.val then
    match s.judge code avail (issuerCheck iss :: checks) with
    | some st => s.complete iss st (if st = Status.badArgument then bad else [])
    | none => run s
  else s

/-- An address fails its checks: misaligned, or its bytes not in GDDR6 or the Central Store. -/
def State.badRam (s : State) (a : W64) (align n : Nat) : Bool := a.toNat % align != 0 || !(s.inRam a.toNat n)

/-- The same in GDDR6 alone. -/
def State.badGddr (s : State) (a : W64) (align n : Nat) : Bool := a.toNat % align != 0 || !(s.inGddr a.toNat n)

end Sys2Proof.Machine
end

