-- ==== Sys2Proof/Machine/Faillog.lean ====
section
/-! DEFINITION. Fail bits, counters and the fail log, and the commands of the acquisition units (R230 to R240, R242 to
R259). -/

namespace Sys2Proof.Machine

/-! ### The fail log (R233 to R240) -/

/-- The bytes of a fail record of a site with `n` channels; `gap` for failing vectors lost before it (R233, R234). -/
def OpenRec.bytes (r : OpenRec) (n : Nat) (gap : Bool) : List Byte :=
  let list := decide (r.fails.length ≤ 8)
  let words := if n ≤ 64 then 1 else 2
  leBytes 6 r.vn ++ leBytes 2 r.seg ++ leBytes 4 r.row ++ leBytes 2 r.run ++
  leBytes 1 ((if list then 1 else 2) + flag 2 r.invalid + flag 3 gap) ++
  leBytes 1 (if list then r.fails.length else words) ++
  (if list then (r.fails.map (fun i => BitVec.ofNat 8 i) ++ List.replicate 8 0).take 8
   else leBytes (8 * words) (listMask r.fails))

/-- The size of a site's log region in bytes. -/
def State.logRegion (s : State) (site : Nat) : Nat := (s.fieldOf CAP_FLOG_LEN_LEN_M1 site + 1) * 128

/-- Failing vectors are lost to the log (R239). -/
def State.loseVectors (site n : Nat) (s : State) : State :=
  ((s.countUp CAP_FLOG_LOST_COUNT site n).putBit CAP_FLOG_STAT_LOST site true).modLog site fun l => { l with gap := true }

/-- The bytes that a site has staged and not yet written. -/
def FailLog.waiting (l : FailLog) : Nat := l.staged.foldl (fun a x => a + x.bytes.length) 0

/-- The open record is closed and staged, or lost where the region or the staging is full (R235, R238, R239). WP counts its bytes from
then on, before their granule is written (R238; DESIGN CHOICE, log entry 122). -/
def State.closeRecord (site : Nat) (s : State) : State :=
  let l := s.failLog site
  match l.record with
  | none => s
  | some r =>
    let s := s.modLog site fun l => { l with record := none }
    let b := r.bytes r.width l.gap
    let region := s.logRegion site
    let wrap := s.bitOf CAP_FLOG_CFG_WRAP site
    if !wrap && (s.bitOf CAP_FLOG_STAT_FULL site || decide (region < l.total + b.length)) then
      (s.putBit CAP_FLOG_STAT_FULL site true).loseVectors site (r.run + 1)
    else if 8192 < l.waiting + b.length then s.loseVectors site (r.run + 1)
    else
      let total := l.total + b.length
      let s := s.modLog site fun l => { l with
        staged := l.staged ++ [⟨b, r.run + 1, l.total, false⟩], total := total, gap := false }
      let s := s.setReg64 .CAP_FLOG_WP site (BitVec.ofNat 64 total)
      let s := when (wrap && decide (region < total)) (State.putBit CAP_FLOG_STAT_WRAPPED site true) s
      when (!wrap && total == region) (State.putBit CAP_FLOG_STAT_FULL site true) s

/-- A failing vector meets the policy and the open record (R235 to R237). -/
def State.logVector (site : Nat) (v : Vec) (fails : List Nat) (s : State) : State :=
  let l := s.failLog site
  let inv := !v.invalid.isEmpty
  let allowed := match s.fieldOf CAP_FLOG_CFG_POLICY site with
    | 0 => true
    | 1 => decide (l.logged < s.fieldOf CAP_FLOG_CFG_N site)
    | 3 => l.logged == 0
    | _ => false
  let merges := match l.record with
    | some r => allowed && v.vn == (r.vn + r.run + 1) % 2 ^ 48 && v.pass == r.pass && v.seg == r.seg &&
        r.fails == fails && r.invalid == inv && decide (r.run < 65535)
    | none => false
  if merges then
    s.modLog site fun l => { l with
      logged := l.logged + 1
      record := l.record.map (fun r => { r with run := r.run + 1, last := s.beat.lbc }) }
  else
    let s := s.closeRecord site
    if allowed then
      s.modLog site fun l => { l with
        logged := l.logged + 1
        record := some ⟨v.vn, v.seg, v.row, v.pass, 0, fails, inv, false, v.chs.length, s.beat.lbc⟩ }
    else s

/-- The fail bits of a vector reach CAP in beat 2 after each channel's result: the counters of R232, and the event of a
channel's first fail of the burst (R230). -/
def State.takeBits (n : Nat) (v : Vec) (s : State) : State :=
  let due := v.bitsDue.filter (fun x => decide (x.2 + 2 ≤ s.beat.lbc))
  if due.isEmpty then s
  else
    let s := s.modThr n fun t => { t with pipe := t.pipe.map (fun w => if w.no = v.no then
      { w with bitsDue := w.bitsDue.filter (fun x => !due.contains x), counted := true } else w) }
    let s := if v.counted then s else s.setReg64 .CAP_FAIL_VEC n (s.reg64 .CAP_FAIL_VEC n + 1)
    let earlier := match (s.failLog n).firstNo with | some k => decide (k ≤ v.no) | none => false
    let s := if earlier then s
      else (s.setReg64 .CAP_FIRST_VN n (BitVec.ofNat 64 (2 ^ 63 + v.vn))).modLog n fun l => { l with firstNo := some v.no }
    each due (fun x s =>
      let new := !(s.failLog n).seen.contains x.1
      let s := s.countUp CAP_CH_FCNT_COUNT x.1 1
      if new then (s.modLog n fun l => { l with seen := l.seen ++ [x.1] }).event (4 * x.1) else s) s

/-- Every result of a vector is in, no window of it that has failed is still open, and its fail bits have reached CAP. -/
def Vec.complete (v : Vec) (now : Nat) : Bool :=
  v.scheduled && v.early.all (fun x => decide (x.2.2 < now)) && v.todo.isEmpty && v.bitsDue.isEmpty && decide (v.fails = [] ∨ v.lastBeat + 2 ≤ now)

/-- A vector whose fail bits are all taken meets the fail log. -/
def State.closeVector (n : Nat) (v : Vec) (s : State) : State :=
  let s := s.modThr n fun t => { t with pipe := t.pipe.map (fun w => if w.no = v.no then { w with taken := true } else w) }
  if v.fails.isEmpty then s
  else s.logVector n v (((v.chs.zipIdx).filter (fun x => v.fails.contains x.1)).map Prod.snd)

/-- FAIL_BIT_CAPTURE: CAP takes a site's fail bits that are due, and its vectors whose bits are all in enter the fail log,
oldest first (R230, R235). -/
def execFailBitCapture (site : Fin 32) (s : State) : Host.Outcome State Fault Refusal :=
  done <| s.live fun s =>
    let n := site.val
    let s := each (s.thr n).pipe (State.takeBits n) s
    let l := ((s.thr n).pipe.filter (fun v => !v.taken)).takeWhile (fun v => v.complete s.beat.lbc)
    (each l (State.closeVector n) s).prune n

/-- FAIL_RECORD_TIMEOUT: an open record closes after 1,024 beats without a merge (R235). -/
def execFailRecordTimeout (site : Fin 32) (s : State) : Host.Outcome State Fault Refusal :=
  done <| s.live fun s =>
    match (s.failLog site.val).record with
    | some r => if r.last + 1024 ≤ s.beat.lbc then s.closeRecord site.val else s
    | none => s

/-- The first `n` staged bytes leave the staging. -/
def dropStaged : Nat → List Staged → List Staged
  | _, [] => []
  | n, x :: r => if n = 0 then x :: r else if x.bytes.length ≤ n then dropStaged (n - x.bytes.length) r
    else { x with bytes := x.bytes.drop n, at_ := x.at_ + n, begun := true } :: r

/-- One granule of staged records written to the log region (R238, R239); the last one padded with zeros (R240). -/
def State.writeGranule (site : Nat) (s : State) : State :=
  let l := s.failLog site
  let bytes := (l.staged.flatMap Staged.bytes).take 128
  let at_ := (l.total - l.waiting) % s.logRegion site
  (s.setMem (s.fieldOf CAP_FLOG_BASE_BASE site * 128 + at_) ((bytes ++ List.replicate 128 0).take 128)).modLog site
    fun l => { l with staged := dropStaged 128 l.staged }

/-- One granule of the next site in turn that has a whole one staged, where the shared rate has room for it (R239; whose
turn it is is a DESIGN CHOICE, log entry 51). -/
def State.drainOne (s : State) : State :=
  let order := (List.range 32).map (fun k => (s.cap.served + 1 + k) % 32)
  match order.find? (fun site => decide (128 ≤ (s.failLog site).waiting)) with
  | some site =>
    if 128 ≤ s.cap.credit then (s.writeGranule site).withCap fun c => { c with credit := c.credit - 128, served := site } else s
  | none => s

/-- The staged records move on at the rate that all sites share, 160 bytes in each beat (R239). -/
def State.drainLogs (s : State) : State :=
  let s := (s.withCap fun c => { c with credit := min c.credit 127 + 160 }).drainOne.drainOne
  s.withCap fun c => { c with credit := min c.credit 127 }

/-- FAIL_LOG_FLUSH: after a halt or an abort the open record is closed, every staged record is written, and FLUSHED is
set (R240). -/
def execFailLogFlush (site : Fin 32) (s : State) : Host.Outcome State Fault Refusal :=
  done <| s.live fun s =>
    let n := site.val
    let quiet := (s.thr n).pipe.all (fun v => v.taken || (v.scheduled && v.todo.isEmpty && v.compared.isEmpty))
    if !(s.issuing n) && quiet && (s.failLog n).unflushed then
      let s := s.closeRecord n
      let s := (List.range 65).foldl (fun s _ => if (s.failLog n).staged.isEmpty then s else s.writeGranule n) s
      (s.modLog n fun l => { l with unflushed := false }).putBit CAP_FLOG_STAT_FLUSHED n true
    else s

/-- A log with nothing in it. -/
def FailLog.fresh (blocks : List Nat) : FailLog := { blocks := blocks, unflushed := true }

/-- A burst starts on a site: its counters, its log and its status are cleared (R232, R238, R256). -/
def State.clearCapture (site : Nat) (s : State) : State :=
  let s := ((s.setReg64 .CAP_FAIL_VEC site 0).setReg64 .CAP_FIRST_VN site 0).setReg64 .CAP_FLOG_WP site 0
  let s := (s.setReg .CAP_FLOG_STAT site 0 0).setReg .CAP_FLOG_LOST site 0 0
  let s := each (s.siteChannels site) (fun ch => State.setReg .CAP_CH_FCNT ch 0 0) s
  s.modLog site fun l => FailLog.fresh l.blocks

/-- The first staged record that `hit` picks carries GAP, bit 3 of its FORM byte (R233, R239); whether there is one. -/
def markGap (hit : Staged → Bool) : List Staged → List Staged × Bool
  | [] => ([], false)
  | x :: r =>
    if hit x then ({ x with bytes := x.bytes.modify 0x0E (fun b => b ||| 8#8) } :: r, true)
    else let y := markGap hit r; (x :: y.1, y.2)

/-- A block of a site's staging is damaged: the records that lie in it are dropped and counted, and the next record written carries
GAP: the first still whole in the staging after them, or else the next to be closed (R239, R259). What is left of one
whose first bytes are written already leaves the staging as zeros, so that the records after it keep their places (DEDUCED,
log entry 75). -/
def State.dropBlock (site j : Nat) (s : State) : State :=
  let l := s.failLog site
  let hit (x : Staged) : Bool := (List.range x.bytes.length).any (fun k => (x.at_ + k) / 2048 % 4 == j)
  let gone := l.staged.filter hit
  if gone.isEmpty then s
  else
    let bytes := (gone.filter (fun x => !x.begun)).foldl (fun a x => a + x.bytes.length) 0
    let total := l.total - bytes
    let marked := (l.staged.splitAt (l.staged.findIdx hit))
    let later := markGap (fun x => !(x.begun || hit x)) marked.2
    let s := s.modLog site fun l => { l with
      staged := ((marked.1 ++ later.1).filter (fun x => x.begun || !hit x)).map (fun x =>
        if hit x then { x with bytes := x.bytes.map (fun _ => 0), vecs := 0 } else x)
      total := total }
    let s := (s.setReg64 .CAP_FLOG_WP site (BitVec.ofNat 64 total)).loseVectors site (gone.foldl (fun a x => a + x.vecs) 0)
    if later.2 then s.modLog site fun x => { x with gap := l.gap } else s

/-- A double-bit error in a CAPTURE block (R259). -/
def State.captureDamage (b : Nat) (inj : Bool) (s : State) : State :=
  let s := s.raise ⟨3, 1, 0x0301, b, 0, inj, none⟩
  let s := each (List.range 32) (fun site s =>
    match (s.failLog site).blocks.findIdx? (· == b) with
    | some j => s.dropBlock site j
    | none => s) s
  each (List.range 16) (fun a s =>
    match (s.aq a).blocks.findIdx? (· == b) with
    | some j => s.modAq a fun u =>
        let i := j / (s.aqLen a / 512)
        let c : AqSlot := u.slots.get (fun _ => { }) i
        { u with slots := u.slots.set (fun _ => { }) i { c with poison := true } }
    | none => s) s

/-! ### The commands of the acquisition units (R242 to R258) -/

/-- The blocks of a unit's buffer (R242). -/
def State.aqBlocks (s : State) (a : Nat) : Nat := s.aqSlots a * (s.aqLen a / 512)

/-- A unit with nothing recorded: its mask and its blocks. -/
def Aq.fresh (mask : Tab W64) (blocks : List Nat) : Aq := { mask := mask, blocks := blocks }

/-- A unit is armed: an IDLE one takes its blocks, and slot 0 begins; the digital samples that have reached it before are not its
(R244). -/
def State.aqArm (a : Nat) (s : State) : State :=
  let w := s.fieldOf CAP_AQ_SRC_WIN a
  let now := s.beat.lbc
  let s := s.giveSamples (s.fieldOf CAP_AQ_SRC_SITE a) a fun v => v.sampleDue w now
  let r := if (s.aq a).st = 0 then s.takeBlocks 2 (s.aqBlocks a) else ((s.aq a).blocks, s)
  let s := r.2.modAq a fun u => Aq.fresh u.mask r.1
  ((s.putField CAP_AQ_STAT_SLOTS_DONE a 0).setReg .CAP_AQ_MASKV a 0 0).aqFill a

/-- CAP_AQ_ARM. -/
def execCapAqArm (iss : Issuer) (units : W16) (s : State) : Host.Outcome State Fault Refusal :=
  let l := maskList units 16
  let busy := l.any (fun a => [1, 2, 3, 4].contains (s.aq a).st)
  let need := ((l.filter (fun a => (s.aq a).st == 0)).map s.aqBlocks).foldl (· + ·) 0
  done <| s.command iss 0x0301 true
    [(l.isEmpty, Status.badArgument), (busy, Status.wrongState), (need != 0 && !(s.mayTake 2 need), Status.noResource)]
    fun s => (each l State.aqArm s).complete iss Status.ok [units.toNat]

/-- A pending read of one of these units ends with ABORTED_FAULT. -/
def State.abortReads (l : List Nat) (s : State) : State :=
  let hit (d : Deferred) : Bool := match d.cmd with | .capAqRead _ _ u _ => l.contains u.toNat | _ => false
  let gone := s.hst.deferred.filter hit
  let s := s.withHst fun h => { h with deferred := h.deferred.filter (fun d => !hit d) }
  each gone (fun d => State.finish d Status.abortedFault []) s

/-- CAP_AQ_DISARM. -/
def execCapAqDisarm (iss : Issuer) (units : W16) (s : State) : Host.Outcome State Fault Refusal :=
  let l := maskList units 16
  done <| s.command iss 0x0302 true [(l.isEmpty, Status.badArgument)] fun s =>
    let n := (l.map (fun a => (s.aq a).blocks.length)).foldl (· + ·) 0
    let s := each l (fun a s =>
      let s := s.freeBlockList 2 (s.aq a).blocks
      ((s.modAq a fun u => Aq.fresh u.mask []).putField CAP_AQ_STAT_SLOTS_DONE a 0).aqState a 0) s
    (s.abortReads l).complete iss Status.ok [n]

/-- CAP_AQ_TRIG. -/
def execCapAqTrig (iss : Issuer) (units : W16) (s : State) : Host.Outcome State Fault Refusal :=
  done <| s.command iss 0x0303 true [(units == 0, Status.badArgument)] fun s =>
    let l := (maskList units 16).filter (fun a => s.fieldOf CAP_AQ_TRIG_SRC a == 1)
    (each l (fun a s => s.aqTrigger a s.now) s).complete iss Status.ok [listMask l]

/-- A slot of a unit. -/
def State.aqSlot (s : State) (a i : Nat) : AqSlot := (s.aq a).slots.get (fun _ => { }) i

/-- The header and the samples that CAP_AQ_READ writes (R257). -/
def State.aqImage (s : State) (a i : Nat) : List Byte :=
  let c := s.aqSlot a i
  let base := match c.trig with | some t => t - s.aqPre a | none => 0
  let idx := match c.trig with | some t => (t - base) * 256 + c.frac | none => 0
  let flags := flag 0 c.forced + flag 1 c.interp + flag 2 c.maskFail + flag 3 c.short + flag 4 c.poison + c.ignored * 2 ^ 16
  leBytes 8 c.lbc ++ leBytes 4 idx ++ leBytes 4 flags ++ leBytes 4 c.samples ++
  leBytes 4 (c.maskBin.getD 0xFFFFFFFF) ++ leBytes 8 (if s.bitOf CAP_AQ_SRC_TYPE a then 0 else c.vn) ++
  (List.range c.samples).flatMap (fun j => s.mem (s.aqAddr a i (base + j)) 4)

/-- CAP_AQ_READ: accepted to run later. -/
def execCapAqRead (iss : Issuer) (dest : W64) (unit slot : Byte) (s : State) : Host.Outcome State Fault Refusal :=
  let a := unit.toNat % 16
  let i := slot.toNat % 16
  done <| s.command iss 0x0304 true
    [(decide (16 ≤ unit.toNat) || decide (16 ≤ slot.toNat) || s.badRam dest 8 (32 + 4 * (s.aqSlot a i).samples), Status.badArgument),
     (!((s.aqSlot a i).complete) && (s.aq a).st != 6, Status.wrongState)]
    (State.defer iss (.capAqRead iss dest unit slot) 0 [])

/-- CAP_AQ_READ ends: the header and the samples are written. -/
def State.runAqRead (d : Deferred) (dest : W64) (unit slot : Byte) (s : State) : State :=
  let b := s.aqImage unit.toNat slot.toNat
  (s.setMem dest.toNat b).finish d Status.ok [b.length]

/-- The first bin of a mask image whose lower bound exceeds its upper bound (R258). -/
def maskBad (img : List Byte) (bins : Nat) : Option Nat :=
  (List.range bins).find? (fun i => decide (signed 32 (leAt img (8 * i + 4) 4) < signed 32 (leAt img (8 * i) 4)))

/-- The bounds of a mask image loaded. -/
def State.loadMask (a bins : Nat) (img : List Byte) (s : State) : State :=
  let bin (i : Nat) : W64 := join64 (BitVec.ofNat 32 (leAt img (8 * i) 4)) (BitVec.ofNat 32 (leAt img (8 * i + 4) 4))
  s.modAq a fun u => { u with mask := u.mask.setList (fun _ => 0) 0 ((List.range bins).map bin) }

/-- CAP_AQ_MASK_LOAD. -/
def execCapAqMaskLoad (iss : Issuer) (source : W64) (unit : Byte) (bins : W16) (s : State) :
    Host.Outcome State Fault Refusal :=
  let n := bins.toNat
  let img := if s.badRam source 8 (8 * n) then [] else s.mem source.toNat (8 * n)
  let args := decide (16 ≤ unit.toNat) || decide (n = 0) || decide (4096 < n) || s.badRam source 8 (8 * n)
  let first := if args then none else maskBad img n
  done <| s.shadowed iss 0x0305 true
    [(args || first.isSome, Status.badArgument)] [((s.aq (unit.toNat % 16)).st != 0, Status.wrongState)]
    [0, first.getD 0] [n] (.load (.capAqMaskLoad iss source unit bins) img)
    fun s => (s.loadMask unit.toNat n img).complete iss Status.ok [n]

/-- CST_READ: a word of the store is read, and its check finds errors or, under injection, meets inverted check bits
(R203, R204, R259, R445). -/
def execCstRead (word : Nat) (flipped : Fin 3) (s : State) : Host.Outcome State Fault Refusal :=
  done <| s.live fun s =>
    let bank := word / 8 % 256
    let i1 := s.injected 1 bank
    let i2 := s.injected 2 bank
    let n := min 2 (flipped.val + (if i1 then 1 else 0) + (if i2 then 2 else 0))
    let inj := i1 || i2
    let b := word / 256
    let s := (when inj State.useInjection s).storeRead word n inj
    if n = 2 ∧ s.owner b = 3 then s.captureDamage b inj else s

/-- A burst starts, after the aborts that its start beat brings to its sites (R23): its ARMED threads enter RUNNING, or WAITING by
their first item, what CAP keeps of a burst is cleared, and the outcome of the start is known (R141, R158, R232, R238). -/
def State.startThreads (index : Nat) (d : Deferred) (s : State) : State :=
  let s := s.takeAborts (maskList (BitVec.ofNat 32 (d.data.getD 0 0)) 32)
  let d := s.hst.deferred.getD index d
  if d.outcome.isSome then s
  else
    let l := maskList (BitVec.ofNat 32 (d.data.getD 0 0)) 32
    let s := each (l.filter (fun n => (s.thr n).st == 1)) (fun n s => (s.modThr n fun t => { t with
      st := match t.queue.head? with | some it => if it.waits then 3 else 2 | none => 2 }).clearCapture n) s
    let ended_ := if d.data.getD 1 0 = 0 then (Status.ok, [d.due % 2 ^ 32, d.due / 2 ^ 32 % 2 ^ 32]) else (Status.abortedFault, [])
    s.withHst fun h => { h with deferred := h.deferred.modify index (fun d => { d with outcome := some ended_ }) }

/-- The deferred command at an index is a burst start whose start beat has come. -/
def State.startDue (s : State) (index : Nat) : Bool :=
  match s.hst.deferred[index]? with
  | some d => d.outcome.isNone && decide (d.due ≤ s.beat.lbc) && (match d.cmd with | .seqBurstStart .. => true | _ => false)
  | none => false

/-- The burst starts whose start beat has come, one after another. -/
def State.startAll (s : State) : State :=
  each (List.range s.hst.deferred.length) (fun i s =>
    match s.hst.deferred[i]? with
    | some d => if s.startDue i then s.startThreads i d else s
    | none => s) s

end Sys2Proof.Machine
end

