-- ==== Sys2Proof/Machine/Tdc.lean ====
section
/-! DEFINITION. The time-to-digital converters (09_tdc), and compare inputs as they resolve (R88, R261, R262). -/

namespace Sys2Proof.Machine

/-- The level of the TDC's input after its inversion (R260). -/
def State.tdcLevel (s : State) (n : Nat) (raw : Bool) : Bool :=
  xor raw (if s.bitOf TIA_CH_CFG_IN n then s.bitOf TMG_CH_TIM_CPL_INV n else s.bitOf TMG_CH_TIM_CPH_INV n)

/-- The TDC's input is UNRESOLVED (R262). -/
def State.tdcUnresolved (s : State) (n : Nat) : Bool :=
  if s.bitOf TIA_CH_CFG_IN n then s.bitOf TMG_CH_STAT_CPL_UNRES n else s.bitOf TMG_CH_STAT_CPH_UNRES n

/-- A time in fs as a number of LSB of 610.3515625 fs: 2,048 to the beat (R264; rounded down, log entry 37). -/
def lsbOf (t : Int) : Int := t * 2048 / 1250000

/-- A polarity code names an edge: 0 rising, 1 falling, 2 either (R275). -/
def polarity (code : Nat) (rising : Bool) : Bool := code == 2 || (code == 0 && rising) || (code == 1 && !rising)

/-! ### Values and statistics (R268, R270, R272) -/

/-- A pair, window or gate gives no value (R268). -/
def State.tdcMiss (n : Nat) (s : State) : State := s.countUp TIA_ERR_MISS n 1

/-- SSQ of a channel, 96 bits in three words. -/
def State.tdcSsq (s : State) (n : Nat) : Nat :=
  (s.reg .TIA_SSQ n 0).toNat + (s.reg .TIA_SSQ n 1).toNat * 2 ^ 32 + (s.reg .TIA_SSQ n 2).toNat * 2 ^ 64

/-- SSQ set. -/
def State.setSsq (n v : Nat) (s : State) : State :=
  ((s.setReg .TIA_SSQ n 0 (BitVec.ofNat 32 v)).setReg .TIA_SSQ n 1 (BitVec.ofNat 32 (v / 2 ^ 32))).setReg .TIA_SSQ n 2
    (BitVec.ofNat 32 (v / 2 ^ 64))

/-- A run ends: what is in the buffer is discarded, and the statistics follow (R270). -/
def State.tdcEnd (n : Nat) (partly : Bool) (s : State) : State :=
  if s.tdcTakes n then
    (s.modTdc n fun t => { t with ended := true, buffer := [], start := none, halves := [], undo := none }).putBit TIA_STAT_PARTIAL n partly
  else s

/-- A value of a run, made in the window of vector `win` under TWIN: accumulated, and the run ends with the Nth; outside the
range of R268 it is missed. -/
def State.tdcValue (n : Nat) (v : Int) (edges : Nat) (win : Option TWin) (s : State) : State :=
  if v < -(2 ^ 31 - 1) ∨ 2 ^ 31 - 1 < v then s.tdcMiss n
  else if !(s.tdcTakes n) then s
  else
    let s := match win with
      | some w => if (s.tdc n).undo.map Prod.fst = some w.vec then s
        else let l := s.stats n; s.modTdc n fun t => { t with undo := some (w.vec, l) }
      | none => s
    let cnt := (s.reg64 .TIA_CNT n).toNat + 1
    let w := BitVec.ofInt 32 v
    let s := s.setReg64 .TIA_CNT n (BitVec.ofNat 64 cnt)
    let s := s.setReg64 .TIA_SUM n (s.reg64 .TIA_SUM n + BitVec.ofInt 64 v)
    let s := s.setSsq n (s.tdcSsq n + v.natAbs * v.natAbs)
    let s := if v < signed 32 (s.reg .TIA_MIN n).toNat then s.setReg .TIA_MIN n 0 w else s
    let s := if signed 32 (s.reg .TIA_MAX n).toNat < v then s.setReg .TIA_MAX n 0 w else s
    let s := s.setReg .TIA_LAST n 0 w
    let s := if edges = 0 then s else s.setReg64 .TIA_IVL n (s.reg64 .TIA_IVL n + BitVec.ofNat 64 (edges - 1))
    if (s.reg .TIA_N n).toNat + 1 ≤ cnt then s.tdcEnd n false else s

/-! ### Timestamps (R260 to R265) -/

/-- A timestamp enters a TDC's buffer, or is lost where it holds 64 (R265). -/
def State.tdcPush (n : Nat) (x : Stamp) (s : State) : State :=
  let t := s.tdc n
  if 64 ≤ t.buffer.length then
    let s := s.countUp TIA_LOST_COUNT n 1
    let s := when (!t.lossSeen) (State.event (4 * n + 2)) s
    s.modTdc n fun t => { t with lossSeen := true, breakNext := true, start := none, halves := [] }
  else s.modTdc n fun t => { t with buffer := t.buffer ++ [{ x with fresh := x.fresh || t.breakNext }], breakNext := false }

/-- The T window of a channel in which a time falls (R267). -/
def State.windowAt (s : State) (n : Nat) (time : Int) : Option TWin :=
  (s.pip n).tWindows.find? (fun w => decide (realised w.opens ≤ 256 * time) && decide (256 * time ≤ realised w.closes))

/-- The gate of a FREQ run in which a timestamp falls: under TWIN the vector of its window; under CONT the first beat of the gate
that holds it, by the timestamp (R266, R268). -/
def State.gateOf (s : State) (n : Nat) (stamp : Int) (win : Option TWin) : Nat :=
  match win with
  | some w => w.vec
  | none =>
    let g := s.fieldOf TIA_GATE_GATE n
    let b := (s.tdc n).began
    b + (stamp.toNat / 2048 - b) / g * g

/-- An accepted edge at a channel meets the measurement of a TDC: its own (`stop` false) or, in CH_CH, that of a channel
that names it as REF_CH (R265, R266, R268). -/
def State.tdcMeets (n : Nat) (stop : Bool) (stamp : Int) (rising : Bool) (window : Option TWin) (s : State) : State :=
  let t := s.tdc n
  let twin := s.bitOf TIA_CH_CFG_GATE n
  let win := if twin then window else none
  let inGate := if twin then win.isSome else decide ((t.began * 2048 : Nat) ≤ stamp)
  let isStart := polarity (s.fieldOf TIA_CH_CFG_START_POL n) rising
  let isStop := polarity (s.fieldOf TIA_CH_CFG_STOP_POL n) rising
  let vec := match win with | some w => w.vec | none => 0
  if !(s.tdcTakes n) || !inGate then s
  else match s.fieldOf TIA_CH_CFG_MODE n with
    | 0 => if !stop && (isStart || isStop) then s.tdcPush n { time := stamp, rising := rising, win := win } else s
    | 1 =>
      let s := if !stop && isStart && !t.usedStart.contains vec then
          (s.modTdc n fun t => { t with usedStart := t.usedStart ++ [vec] }).tdcPush n { time := stamp, rising := rising, win := win }
        else s
      if stop && isStop && !t.usedStop.contains vec then
        (s.modTdc n fun t => { t with usedStop := t.usedStop ++ [vec] }).tdcPush n { time := stamp, rising := rising, win := win, stop := true }
      else s
    | 2 =>
      if stop || !isStart || (s.bitOf TIA_CH_CFG_FIRST n && t.usedStart.contains vec) then s
      else (s.modTdc n fun t => { t with usedStart := if t.usedStart.contains vec then t.usedStart else t.usedStart ++ [vec] }).tdcPush n
        { time := stamp, rising := rising, win := win }
    | _ =>
      if stop || !isStart then s
      else
        let key := s.gateOf n stamp win
        s.modTdc n fun t => { t with
          gates := if t.gates.any (fun g => g.1 == key) then
              t.gates.map (fun g => if g.1 = key then (key, g.2.1 + 1, g.2.2.1, stamp) else g)
            else t.gates ++ [(key, 1, stamp, stamp)] }

/-- TDC_EDGE: a transition of a channel's TDC input, `ofs` fs after the start of the present beat. -/
def execTdcEdge (ch : Fin 128) (level : Bool) (ofs : Nat) (s : State) : Host.Outcome State Fault Refusal :=
  done <| s.live fun s =>
    let n := ch.val
    let t := s.tdc n
    let now := s.now + ofs
    let lv := s.tdcLevel n level
    let dead := match t.hold with | some (e, _) => decide (now < e) | none => false
    if s.tdcUnresolved n || dead || t.level == some lv then s
    else
      let d := max 450000 (s.fieldOf TIA_RX_CFG_HOLDOFF n * 156250)
      let s := s.modTdc n fun t => { t with level := some lv, hold := some (now + d, lv) }
      let time : Int := now
      let stamp := lsbOf (time - signed 25 (s.fieldOf TMG_DSK_CMP_OFFSET n))
      let win := s.windowAt n time
      let s := s.tdcMeets n false stamp lv win
      each ((List.range 128).filter (fun m => s.fieldOf TIA_CH_CFG_MODE m == 1 && s.fieldOf TIA_CH_CFG_REF_CH m == n))
        (fun m => State.tdcMeets m true stamp lv win) s

/-- TDC_HOLDOFF_END: at the end of its dead time the detector compares the level with the one it accepted (R263). -/
def execTdcHoldoffEnd (ch : Fin 128) (level : Bool) (s : State) : Host.Outcome State Fault Refusal :=
  done <| s.live fun s =>
    let n := ch.val
    match (s.tdc n).hold with
    | some (e, set) =>
      if (s.beat.lbc + 1) * beatFs ≤ e then s
      else
        let lv := s.tdcLevel n level
        let s := s.modTdc n fun t => { t with hold := none, level := some lv }
        when (lv != set) (State.countUp TIA_ERR_GLITCH n 1) s
    | none => s

/-- A taken timestamp of EDGE_EDGE (R268). -/
def State.tdcEdgeEdge (n : Nat) (x : Stamp) (s : State) : State :=
  let a := s.fieldOf TIA_CH_CFG_START_POL n
  let b := s.fieldOf TIA_CH_CFG_STOP_POL n
  let open_ := (s.tdc n).start.filter (fun o => o.win == x.win && !x.fresh)
  let opens (v : Option Stamp) : State → State := State.modTdc n fun t => { t with start := v }
  match open_ with
  | some o =>
    if a = b then (opens (some x) s).tdcValue n (x.time - o.time) 0 x.win
    else if polarity b x.rising then (opens none s).tdcValue n (x.time - o.time) 0 x.win
    else if polarity a x.rising then opens (some x) s else s
  | none => if a = b ∨ polarity a x.rising then opens (some x) s else opens none s

/-- A taken timestamp of CH_CH: the start and the stop of one vector give a value (R268). At most as many halves wait for
their mates as the buffer holds timestamps. -/
def State.tdcChCh (n : Nat) (x : Stamp) (s : State) : State :=
  let old := if x.fresh then [] else (s.tdc n).halves
  match old.find? (fun o => o.stop != x.stop && o.win.map TWin.vec == x.win.map TWin.vec) with
  | some o => (s.modTdc n fun t => { t with halves := old.erase o }).tdcValue n
      (if x.stop then x.time - o.time else o.time - x.time) 0 x.win
  | none => s.modTdc n fun t => { t with halves := (old ++ [x]).drop (old.length - 63) }

/-- TDC_MEASURE: the measurement stage takes one timestamp in a beat (R265, R268). -/
def execTdcMeasure (ch : Fin 128) (s : State) : Host.Outcome State Fault Refusal :=
  done <| s.live fun s =>
    let n := ch.val
    let t := s.tdc n
    match t.buffer with
    | [] => s
    | x :: r =>
      if t.lastMeasure = some s.beat.lbc then s
      else
        let s := s.modTdc n fun t => { t with
          buffer := r, lastMeasure := some s.beat.lbc, lossSeen := t.lossSeen && !r.isEmpty }
        match s.fieldOf TIA_CH_CFG_MODE n, x.win with
        | 0, _ => s.tdcEdgeEdge n x
        | 1, _ => s.tdcChCh n x
        | 2, some w =>
          let ref := w.start + pipeFs + (if s.bitOf TIA_CH_CFG_REF n then w.stb else 0)
          s.tdcValue n (x.time - lsbOf ref) 0 x.win
        | 2, none => s
        | _, _ =>
          if x.edges = 0 ∨ x.fresh then s.modTdc n fun t => { t with start := some x }
          else match (s.tdc n).start with
            | some o => (s.modTdc n fun t => { t with start := none }).tdcValue n (x.time - o.time) x.edges x.win
            | none => s

/-- A FREQ gate ends: its first and last timestamps enter the buffer, or it gives no value (R265, R268). -/
def State.closeGate (n : Nat) (win : Option TWin) (s : State) : State :=
  let vec := match win with | some w => w.vec | none => (s.tdc n).gate
  let gate := (s.tdc n).gates.find? (fun g => g.1 == vec)
  let s := s.modTdc n fun t => { t with gates := t.gates.filter (fun g => g.1 != vec) }
  if !(s.tdcTakes n) then s
  else match gate with
    | some (_, edges, first, last) =>
      if edges < 2 then s.tdcMiss n
      else (s.tdcPush n { time := first, rising := true, win := win }).tdcPush n
        { time := last, rising := true, win := win, edges := edges }
    | none => s.tdcMiss n

/-- No timestamp before the end of beat `e - 1` can come any more: they are times at the ball less the compare deskew (R264). -/
def State.stampsPast (s : State) (n e : Nat) : Bool :=
  decide (((e * 2048 : Nat) : Int) ≤ lsbOf ((s.now : Int) - signed 25 (s.fieldOf TMG_DSK_CMP_OFFSET n)))

/-- FREQ_GATE_END: a gate of GATE beats under CONT ends, by the timestamps that it is judged by, and the next follows without a
gap. -/
def execFreqGateEnd (ch : Fin 128) (s : State) : Host.Outcome State Fault Refusal :=
  done <| s.live fun s =>
    let n := ch.val
    let e := (s.tdc n).gate + s.fieldOf TIA_GATE_GATE n
    if s.tdcTakes n && s.fieldOf TIA_CH_CFG_MODE n == 3 && !(s.bitOf TIA_CH_CFG_GATE n) && s.stampsPast n e then
      (s.closeGate n none).modTdc n fun t => { t with gate := e }
    else s

/-- A T window of channel `c` has closed: what the TDCs that it serves make of it (R268). -/
def State.closeWindow (c : Nat) (w : TWin) (s : State) : State :=
  let s := s.modPip c fun p => { p with tWindows := p.tWindows.filter (fun x => x.vec != w.vec) }
  let own (s : State) : State :=
    if !(s.tdcTakes c) || !(s.bitOf TIA_CH_CFG_GATE c) then s
    else match s.fieldOf TIA_CH_CFG_MODE c with
      | 2 => if (s.tdc c).usedStart.contains w.vec then s.modTdc c fun t => { t with usedStart := t.usedStart.erase w.vec } else s.tdcMiss c
      | 3 => s.closeGate c (some w)
      | _ => s
  let pair (m : Nat) (s : State) : State :=
    let other := if m = c then s.fieldOf TIA_CH_CFG_REF_CH m else m
    if !(s.tdcTakes m) || (other != c && (s.pip other).tWindows.any (fun x => x.vec == w.vec)) then s
    else
      let t := s.tdc m
      let both := t.usedStart.contains w.vec && t.usedStop.contains w.vec
      let s := s.modTdc m fun t => { t with usedStart := t.usedStart.erase w.vec, usedStop := t.usedStop.erase w.vec }
      when (!both) (State.tdcMiss m) s
  let ms := (List.range 128).filter (fun m => s.fieldOf TIA_CH_CFG_MODE m == 1 && (m == c || s.fieldOf TIA_CH_CFG_REF_CH m == c))
  each ms pair (own s)

/-- The T windows that close before the end of the present beat are closed (at a beat boundary). -/
def State.closeWindows (s : State) : State :=
  let e : Int := ((s.beat.lbc + 1) * beatFs : Nat)
  each (List.range 128) (fun c s =>
    each ((s.pip c).tWindows.filter (fun w => decide (realised w.closes < 256 * e))) (State.closeWindow c) s) s

/-! ### Runs (R269 to R273) -/

/-- TDC_START_BEAT: a run starts, its statistics cleared (R269, R272). -/
def execTdcStartBeat (ch : Fin 128) (s : State) : Host.Outcome State Fault Refusal :=
  done <| s.live fun s =>
    let n := ch.val
    match (s.tdc n).startAt with
    | some b =>
      if s.beat.lbc < b then s
      else
        let s := each [.TIA_STAT, .TIA_LOST, .TIA_ERR, .TIA_LAST] (fun st => State.setReg st n 0 0) s
        let s := each [.TIA_CNT, .TIA_SUM, .TIA_MEAN, .TIA_SDEV, .TIA_IVL] (fun st => State.setReg64 st n 0) s
        let s := ((s.setSsq n 0).setReg .TIA_MIN n 0 0x7FFFFFFF).setReg .TIA_MAX n 0 0x80000000
        let s := s.modTdc n fun t => { level := t.level, hold := t.hold, began := b, gate := b }
        s.putField TIA_STAT_STATE n 1
    | none => s

/-- MEAN in 2^-16 LSB (R273). -/
def tdcMean (cnt : Nat) (sum : Int) : Int := if cnt = 0 then 0 else sum * 65536 / cnt

/-- SDEV in 2^-16 LSB (R273). -/
def tdcSdev (cnt ssq : Nat) (sum : Int) : Nat :=
  if cnt = 0 then 0 else isqrt ((cnt * ssq - sum.natAbs * sum.natAbs) * 2 ^ 32) / cnt

/-- TDC_RUN_END: the statistics of an ended run are valid, STATE reads DONE and the event is raised (R270). -/
def execTdcRunEnd (ch : Fin 128) (s : State) : Host.Outcome State Fault Refusal :=
  done <| s.live fun s =>
    let n := ch.val
    if !(s.tdc n).ended then s
    else
      let cnt := (s.reg64 .TIA_CNT n).toNat
      let sum := signed 64 (s.reg64 .TIA_SUM n).toNat
      let s := s.setReg64 .TIA_MEAN n (BitVec.ofInt 64 (tdcMean cnt sum))
      let s := s.setReg64 .TIA_SDEV n (BitVec.ofNat 64 (tdcSdev cnt (s.tdcSsq n) sum))
      ((s.modTdc n fun t => { t with ended := false }).putField TIA_STAT_STATE n 2).event (4 * n + 1)

/-- The channels that the two masks of a TIA command name. -/
def tiaMask (m0 m1 : W64) : List Nat := maskList m0 64 ++ (maskList m1 64).map (· + 64)

/-- A calibration that takes a pod is pending or running (R271). -/
def State.podCalibrating (s : State) (k : Nat) : Bool :=
  s.cal.recal || s.hst.deferred.any (fun d => s.atWork d && (match d.cmd with
    | .calRun _ scope _ _ _ inst => scope.toNat == 1 || (scope.toNat == 0 && inst.getLsbD k)
    | _ => false))

/-- TIA_START. -/
def execTiaStart (iss : Issuer) (mask0 mask1 : W64) (mode : Byte) (lbc : W64) (s : State) : Host.Outcome State Fault Refusal :=
  let chs := tiaMask mask0 mask1
  let at_ := if mode = 1 then lbc.toNat else s.beat.lbc + 1
  let site (n : Nat) : Option Nat := if s.bitOf TMG_CH_CFG_ASSIGNED n then some (s.fieldOf TMG_CH_CFG_SITE n) else none
  let wrong := chs.any (fun n => s.fieldOf TIA_STAT_STATE n == 1 || (s.tdc n).startAt.isSome ||
    (s.bitOf TIA_CH_CFG_GATE n && (site n).isNone) ||
    (s.fieldOf TIA_CH_CFG_MODE n == 1 && site (s.fieldOf TIA_CH_CFG_REF_CH n) != site n))
  done <| s.command iss 0x0401 (!(iss.mb == 16 && mode == 1))
    [(chs.isEmpty || decide (1 < mode.toNat) || (mode == 1 && decide (lbc.toNat < s.beat.lbc + 800)), Status.badArgument),
     (wrong, Status.wrongState),
     (chs.any (fun n => s.podCalibrating (n / 8)), Status.busy)]
    fun s => (each chs (fun n => State.modTdc n fun t => { t with startAt := some at_ }) s).complete iss Status.ok
      [at_ % 2 ^ 32, at_ / 2 ^ 32 % 2 ^ 32]

/-- TIA_STOP. -/
def execTiaStop (iss : Issuer) (mask0 mask1 : W64) (s : State) : Host.Outcome State Fault Refusal :=
  let chs := tiaMask mask0 mask1
  done <| s.command iss 0x0402 true [(chs.isEmpty, Status.badArgument)] fun s =>
    let hit := chs.filter s.tdcTakes
    let m := listMask hit
    (each hit (fun n => State.tdcEnd n true) s).complete iss Status.ok
      ((List.range 4).map (fun k => m / 2 ^ (32 * k) % 2 ^ 32))

/-- The record that TIA_STAT_READ writes (R276). -/
def State.tiaRecord (s : State) (n : Nat) : List Byte :=
  let q (st : Stem) : List Byte := leBytes 8 (s.reg64 st n).toNat
  let w (st : Stem) : List Byte := leBytes 4 (s.reg st n).toNat
  q .TIA_CNT ++ q .TIA_SUM ++ leBytes 16 (s.tdcSsq n) ++ w .TIA_MIN ++ w .TIA_MAX ++ q .TIA_MEAN ++ q .TIA_SDEV ++
  q .TIA_IVL ++ leBytes 8 s.beat.lbc ++ w .TIA_STAT ++ w .TIA_LAST

/-- TIA_STAT_READ. -/
def execTiaStatRead (iss : Issuer) (dest : W64) (channel : Byte) (s : State) : Host.Outcome State Fault Refusal :=
  done <| s.command iss 0x0403 true [(decide (128 ≤ channel.toNat) || s.badRam dest 8 80, Status.badArgument)] fun s =>
    (s.setMem dest.toNat (s.tiaRecord channel.toNat)).complete iss Status.ok [80]

/-! ### Compare inputs (R88, R261, R262) -/

/-- An input of a channel returns to UNRESOLVED: it enters that state with the channel's event (R261). -/
def State.unresolve (ch : Nat) (low : Bool) (s : State) : State :=
  let f := if low then TMG_CH_STAT_CPL_UNRES else TMG_CH_STAT_CPH_UNRES
  if s.bitOf f ch then s
  else ((s.putBit f ch true).modPip ch fun p => if low then { p with unresL := true } else { p with unresH := true }).event (4 * ch + 3)

/-- The detector of a channel has yet to see the level of another input that IN selects (R260; DEDUCED, log entry 74). -/
def State.detectorMoved (old : State) (n : Nat) (s : State) : State :=
  if old.bitOf TIA_CH_CFG_IN n = s.bitOf TIA_CH_CFG_IN n then s
  else s.modTdc n fun t => { t with level := none, hold := none }

/-- The detector of a channel follows a change of the inversion of the input it times, without an edge (R260; DEDUCED, log
entry 74). -/
def State.detectorInverted (old : State) (n : Nat) (s : State) : State :=
  if old.bitOf TIA_CH_CFG_IN n = s.bitOf TIA_CH_CFG_IN n ∧ old.tdcLevel n false ≠ s.tdcLevel n false then
    s.modTdc n fun t => { t with level := t.level.map not, hold := t.hold.map (fun h => (h.1, !h.2)) }
  else s

/-- COMPARE_INPUT_RESOLVE: an input has been outside its band for 2 ns, in beat 1 of RUN at the earliest (R88); a detector on
it takes its level (R262). -/
def execCompareInputResolve (ch : Fin 128) (low level : Bool) (s : State) : Host.Outcome State Fault Refusal :=
  done <| s.live fun s =>
    let n := ch.val
    let was := if low then s.bitOf TMG_CH_STAT_CPL_UNRES n else s.bitOf TMG_CH_STAT_CPH_UNRES n
    if !was || s.beat.lbc == 0 then s
    else
      let s := (if low then s.putBit TMG_CH_STAT_CPL_UNRES n false else s.putBit TMG_CH_STAT_CPH_UNRES n false).modPip n fun p =>
        if low then { p with unresL := false } else { p with unresH := false }
      if s.bitOf TIA_CH_CFG_IN n = low then s.modTdc n fun t => { t with level := some (s.tdcLevel n level), hold := none } else s

end Sys2Proof.Machine
end

