-- ==== Sys2Proof/Machine/Adc.lean ====
section
/-! DEFINITION. The analogue converters (10_adc). -/

namespace Sys2Proof.Machine

/-- A converter. -/
def State.adc (s : State) (a : Nat) : Adc := s.meas.adcs.get (fun _ => { }) a
/-- A converter changed. -/
def State.modAdc (a : Nat) (f : Adc → Adc) (s : State) : State :=
  s.withMeas fun m => { m with adcs := m.adcs.set (fun _ => { }) a (f (s.adc a)) }

/-- One conversion clock in fs (R278). -/
def clockFs : Nat := 2000000

/-- ADC_STAT.STATE of a converter (R285): 0 UNCAL, 1 IDLE, 2 ARMED, 3 RUNNING, 4 BUSY. -/
def State.adcState (s : State) (a : Nat) : Nat := s.fieldOf ADC_STAT_STATE (64 * a)
/-- The state set. -/
def State.setAdc (a st : Nat) (s : State) : State := s.putField ADC_STAT_STATE (64 * a) st

/-- The sequence of a converter: its length, and the fields of its entries. -/
def State.adcLen (s : State) (a : Nat) : Nat := s.fieldOf ADC_CFG_LEN_M1 (64 * a) + 1
def State.adcK (s : State) (a e : Nat) : Nat := s.fieldOf ADC_SEQ_K (64 * a + e)
def State.adcSettle (s : State) (a e : Nat) : Nat := s.fieldOf ADC_SEQ_SETTLE (64 * a + e)

/-- A sequence of 1 to 4 entries runs in short mode (R282). -/
def State.adcShort (s : State) (a : Nat) : Bool := decide (s.adcLen a ≤ 4)

/-- S: the largest SETTLE of the entries of a short sequence. -/
def State.adcLongest (s : State) (a : Nat) : Nat := (List.range (s.adcLen a)).foldl (fun m e => max m (s.adcSettle a e)) 0

/-- The clocks of a block of rotations, or D of a scan (R282, R283). -/
def State.adcPass (s : State) (a : Nat) : Nat :=
  if s.adcShort a then s.adcLen a * 2 ^ s.adcK a 0
  else (List.range (s.adcLen a)).foldl (fun n e => n + s.adcSettle a e + 2 ^ s.adcK a e) 0

/-- The converter is in CONTINUOUS mode. -/
def State.adcCont (s : State) (a : Nat) : Bool := s.bitOf ADC_CFG_MODE (64 * a)

/-- A pass begins at instant `m` (R282, R283). -/
def State.adcBegin (a m : Nat) (s : State) : State :=
  let base := if s.adcShort a then m + s.adcLongest a else m
  (((s.modAdc a fun x => { x with base := base, entry := 0, conv := 0, sums := [], clips := [], ends := none }).setAdc a 3).putField
    ADC_STAT_ENTRY (64 * a) 0).event (640 + 8 * a)

/-- The converter stops: IDLE, with no pending trigger (R288). -/
def State.adcIdle (a : Nat) (s : State) : State :=
  ((s.modAdc a fun x => { x with ends := none, stopping := false, sums := [], clips := [] }).putBit ADC_STAT_PENDING (64 * a) false).setAdc a 1

/-- A pass completed: counted, with its event in SINGLE mode (R287). -/
def State.adcPassed (a : Nat) (s : State) : State :=
  let s := s.setReg64 .ADC_PASS (64 * a) (s.reg64 .ADC_PASS (64 * a) + 1)
  when (!(s.adcCont a)) (State.event (640 + 8 * a + 1)) s

/-- A pass whose end instant has come by `t`: a CONTINUOUS converter's next pass or block follows; in SINGLE mode the pending
trigger's pass begins there, or the converter waits (R282, R283, R285, R287, R288). -/
def State.adcPassEnd (a t : Nat) (s : State) : State :=
  match (s.adc a).ends with
  | some e =>
    if t < e * clockFs then s
    else
      let s := s.adcPassed a
      if (s.adc a).stopping then s.adcIdle a
      else if s.adcCont a then s.modAdc a fun x => { x with base := e, entry := 0, conv := 0, ends := none }
      else if s.bitOf ADC_STAT_PENDING (64 * a) then (s.putBit ADC_STAT_PENDING (64 * a) false).adcBegin a e
      else (s.modAdc a fun x => { x with ends := none }).setAdc a 2
  | none => s

/-- The end of the present beat in fs, less one: what has happened by then lies in the beat. -/
def State.beatEnd (s : State) : Nat := (s.beat.lbc + 1) * beatFs - 1

/-- The bits of ARG that a source reads: IM [5:0], TI [3:0], ALARM [4:0], TRIG [7:0] (R286). -/
def adcArgs (src : Nat) : Nat := if src = 1 then 64 else if src = 2 then 16 else if src = 3 then 32 else 256

/-- A trigger of a source is on its way to every converter that names it, to be taken at beat `b` (R286). -/
def State.adcTrigger (src arg b : Nat) (rising : Bool) (s : State) : State :=
  each ((List.range 2).filter (fun a =>
    s.fieldOf ADC_CFG_SRC (64 * a) == src && s.fieldOf ADC_CFG_ARG (64 * a) % adcArgs src == arg &&
    (src != 2 || s.bitOf ADC_CFG_POL (64 * a) == !rising)))
    (fun a => State.modAdc a fun x => { x with trigs := x.trigs ++ [(b, src)] }) s

/-- The trigger to take next: the earliest due, and of those the first in the order of R286. -/
def firstTrig : List (Nat × Nat) → Option (Nat × Nat)
  | [] => none
  | x :: r =>
    match firstTrig r with
    | none => some x
    | some y => if y.1 < x.1 ∨ (y.1 = x.1 ∧ y.2 < x.2) then some y else some x

/-- A dropped trigger (R287). -/
def State.adcDrop (a : Nat) (s : State) : State :=
  let seen := (s.adc a).dropSeen
  let s := (s.countUp ADC_OVR_COUNT (64 * a) 1).modAdc a fun x => { x with dropSeen := true }
  if seen then s else (s.putBit ADC_STAT_TRIG_OVERRUN (64 * a) true).event (640 + 8 * a + 2)

/-- ADC_TRIGGER_TAKE: the next due trigger is taken at the boundary that begins the present beat (R286, R287). -/
def execAdcTriggerTake (adc : Fin 2) (s : State) : Host.Outcome State Fault Refusal :=
  done <| s.live fun s =>
    let a := adc.val
    let s := s.adcPassEnd a s.now
    match firstTrig ((s.adc a).trigs.filter (fun x => decide (x.1 ≤ s.beat.lbc))) with
    | none => s
    | some x =>
      let s := s.modAdc a fun u => { u with trigs := u.trigs.erase x }
      match s.adcState a with
      | 2 => s.adcBegin a (ceilDiv s.now clockFs)
      | 3 =>
        if s.adcCont a || s.bitOf ADC_STAT_PENDING (64 * a) then s.adcDrop a
        else s.putBit ADC_STAT_PENDING (64 * a) true
      | _ => s

/-- The corrected code of R292: offset and gain, rounded, limited. -/
def adcCode (raw offset : Int) (gain : Nat) : Int :=
  max (-8192) (min 8191 (roundDiv ((16 * raw - offset) * gain) (2 ^ 22)))

/-- RES of a sum of 2^K codes (R284). -/
def adcRes (sum : Int) (k : Nat) : Int := sum / (2 ^ ((k + 1) / 2) : Nat)

/-- The instant of the next conversion. -/
def State.adcInstant (s : State) (a : Nat) : Nat :=
  let x := s.adc a
  if s.adcShort a then x.base + x.conv else x.base + s.adcSettle a x.entry + x.conv

/-- One conversion joins the result of its entry; the last of them completes it (R284). -/
def State.adcJoin (a e at_ : Nat) (code : Int) (last : Bool) (s : State) : State :=
  let clip := code == -8192 || code == 8191
  let x := s.adc a
  let sum := x.sums.get (fun _ => 0) e + code
  let clipped := clip || x.clips.contains e
  let k := s.adcK a e
  let s := s.putField ADC_STAT_ENTRY (64 * a) e
  if last then s.modAdc a fun x => { x with
    sums := x.sums.set (fun _ => 0) e 0, clips := x.clips.erase e, out := x.out ++ [⟨e, adcRes sum k, clipped, k, at_⟩] }
  else s.modAdc a fun x => { x with
    sums := x.sums.set (fun _ => 0) e sum, clips := if clipped && !x.clips.contains e then e :: x.clips else x.clips }

/-- The last conversion of a pass is done, and the pass ends at instant `e` (R282, R283, R288). -/
def State.adcLastDone (a e : Nat) (s : State) : State := s.modAdc a fun x => { x with ends := some e }

/-- ADC_CONVERSION: the converter samples at its next instant, if that lies in the present beat (R278, R282, R283). -/
def execAdcConversion (adc : Fin 2) (raw : Int) (s : State) : Host.Outcome State Fault Refusal :=
  done <| s.live fun s =>
    let a := adc.val
    let s := s.adcPassEnd a s.beatEnd
    let x := s.adc a
    let at_ := s.adcInstant a
    if s.adcState a ≠ 3 ∨ x.ends.isSome ∨ s.beatEnd < at_ * clockFs then s
    else
      let code := adcCode raw (signed 16 (s.reg .ADC_CALF (64 * a)).toNat) (s.reg .ADC_CALF (64 * a + 1)).toNat
      let n := s.adcLen a
      if s.adcShort a then
        let e := x.conv % n
        let block := s.adcPass a
        let s := s.adcJoin a e at_ code (decide (block < x.conv + 1 + n))
        if x.conv + 1 = block then s.adcLastDone a (x.base + block)
        else s.modAdc a fun x => { x with conv := x.conv + 1 }
      else
        let reps := 2 ^ s.adcK a x.entry
        let ended_ := x.conv + 1 == reps
        let s := s.adcJoin a x.entry at_ code ended_
        if !ended_ then s.modAdc a fun x => { x with conv := x.conv + 1 }
        else if x.entry + 1 = n then s.adcLastDone a (at_ + 1)
        else s.modAdc a fun x => { x with base := at_ + 1, entry := x.entry + 1, conv := 0 }

/-- ADC_RESULT_WRITE: at the boundary that ends the beat in which it became available, the oldest result is written and
reaches the units that take its entry (R243, R279, R284, R289). -/
def execAdcResultWrite (adc : Fin 2) (s : State) : Host.Outcome State Fault Refusal :=
  done <| s.live fun s =>
    let a := adc.val
    let s := s.adcPassEnd a s.beatEnd
    match (s.adc a).out with
    | [] => s
    | r :: rest =>
      if s.beatEnd < (r.last + 12) * clockFs then s
      else
        let i := 64 * a + r.entry
        let s := s.modAdc a fun x => { x with out := rest }
        let s := s.setReg .ADC_RES i 0 (BitVec.ofInt 32 r.value)
        let s := ((s.putField ADC_RES_SEQNO i (s.fieldOf ADC_RES_SEQNO i + 1)).putBit ADC_RES_CLIP i r.clip).putField ADC_RES_K i r.k
        let first := r.clip && !(s.adc a).clipSeen
        let s := if first then
            ((s.modAdc a fun x => { x with clipSeen := true }).putBit ADC_STAT_CLIP (64 * a) true).event (640 + 8 * a + 3)
          else s
        let s := when (s.bitOf ADC_SEQ_EVT i) (State.event (512 + i)) s
        let x : Sample := ⟨r.value, s.beat.lbc + 1, r.last * clockFs, 0, s.adcPass a * clockFs, s.adcShort a⟩
        let units := (List.range 16).filter (fun u =>
          s.bitOf CAP_AQ_SRC_TYPE u && s.fieldOf CAP_AQ_SRC_CONV u == a && s.fieldOf CAP_AQ_SRC_ENTRY u == r.entry &&
          [1, 2, 3, 4].contains (s.aq u).st)
        each units (fun u => State.modAq u fun q => { q with input := q.input ++ [x] }) s

/-! ### Self-calibration (R292 to R294) -/

/-- The index of the first factor outside its range, 15 for the reference; none of them for a pass (R293). -/
def badFactor (f : AdcFactors) : Option Nat :=
  let stage := (List.range 12).find? (fun i => decide (128 < (f.stages.getD i 0).natAbs))
  if 1024 < f.offset.natAbs then some 0
  else if 100 * f.gain < 95 * 2 ^ 18 ∨ 105 * 2 ^ 18 < 100 * f.gain then some 1
  else match stage with
    | some i => some (i + 2)
    | none => if f.referenceOk then none else some 15

/-- A self-calibration of converter `a` ends with these factors: written and IDLE, or UNCAL with the fault (R292, R293). -/
def State.selfcal (a : Nat) (f : AdcFactors) (s : State) : State :=
  match badFactor f with
  | some i => (s.setAdc a 0).fault 5 2 0x0501 (fld 7 4 i + a) 0
  | none =>
    let s := (s.setReg .ADC_CALF (64 * a) 0 (BitVec.ofNat 32 (twos 16 f.offset))).setReg .ADC_CALF (64 * a + 1) 0
      (BitVec.ofNat 32 (f.gain % 2 ^ 20))
    let s := each (List.range 12) (fun i => State.setReg .ADC_CALF (64 * a + 2 + i) 0
      (BitVec.ofNat 32 (twos 16 (f.stages.getD i 0)))) s
    (s.setAdc a 1).event (640 + 8 * a + 5)

/-- The converters that a deferred command holds while it is pending or running: a self-calibration, an open-wire test,
or a calibration of scope ADC or DEVICE (R291, R294, R405). -/
def Deferred.adcs (d : Deferred) : List Nat :=
  match d.cmd with
  | .adcSelfcal _ m => maskList m 2
  | .adcOpenwire _ _ _ c _ _ _ => [c.toNat]
  | .calRun _ scope _ _ _ inst => if scope = 2 then maskList inst 2 else if scope = 1 then [0, 1] else []
  | _ => []

/-- A converter is held. -/
def State.adcHeld (s : State) (a : Nat) : Bool := s.cal.recal || s.hst.deferred.any (fun d => s.atWork d && d.adcs.contains a)

/-- A converter mask is empty or has a reserved bit set. -/
def badAdcs (m : Byte) : Bool := m == 0 || decide (4 ≤ m.toNat)

/-- ADC_SELFCAL: accepted to run once its converters are IDLE or UNCAL. -/
def execAdcSelfcal (iss : Issuer) (converters : Byte) (s : State) : Host.Outcome State Fault Refusal :=
  let wait := (maskList converters 2).any (fun a => decide (1 < s.adcState a)) || s.deviceRuns
  done <| s.command iss 0x0501 true
    [(badAdcs converters, Status.badArgument), (wait && iss.nowait, Status.wrongState)]
    (State.defer iss (.adcSelfcal iss converters) 0 [])

/-- The converters that are to run a procedure are IDLE or UNCAL. -/
def State.adcsFree (s : State) (l : List Nat) : Bool := l.all (fun a => decide (s.adcState a < 2))

/-- Converters enter BUSY for a procedure of so many beats, and their states before it are kept (R285). -/
def State.adcBusy (l : List Nat) (beats : Nat) (s : State) : State :=
  each l (fun a s => (s.modAdc a fun x => { x with busyTill := s.beat.lbc + beats, was := s.adcState a }).setAdc a 4) s

/-- The procedure of a BUSY converter is given up: the converter is as it was before (R285, R377, R406; DEDUCED, log entry 115). -/
def State.adcBack (a : Nat) (s : State) : State := if s.adcState a = 4 then s.setAdc a (s.adc a).was else s

/-- The beats of a self-calibration: 18 ms (R292). -/
def selfcalBeats : Nat := 14400000

/-- The started self-calibration, alone or as the ADC scope of CAL_RUN or the ADC step of a DEVICE run, that converter
`a` takes part in and has not ended yet. -/
def selfcalOf (a : Nat) (d : Deferred) : Bool :=
  d.started && d.outcome.isNone && !(d.data.contains (2 * a)) && !(d.data.contains (2 * a + 1)) && (match d.cmd with
    | .adcSelfcal _ m => m.getLsbD a
    | .calRun _ scope _ _ _ inst => scope == 1 || (scope == 2 && inst.getLsbD a)
    | _ => false)

/-- A deferred self-calibration notes that converter `a` passed or failed; with the last of its converters its outcome is
known: the mask that passed, and ABORTED_FAULT where one failed (R293). -/
def noteSelfcal (a : Nat) (ok : Bool) (d : Deferred) : Deferred :=
  let data := d.data ++ [2 * a + (if ok then 1 else 0)]
  let passed := (List.range 2).filter (fun a => data.contains (2 * a + 1))
  let failed := d.adcs.filter (fun a => !passed.contains a)
  let all := d.adcs.all (fun a => data.contains (2 * a) || data.contains (2 * a + 1))
  let res := match d.cmd with | .adcSelfcal .. => [listMask passed] | _ => [listMask passed, listMask failed, 0, 0]
  let whole := match d.cmd with | .calRun _ scope _ _ _ _ => scope == 2 | _ => true
  { d with
    data := data
    outcome := if all && whole then some (if failed.isEmpty then Status.ok else Status.abortedFault, res) else d.outcome }

/-- ADC_SELFCAL_END: 18 ms after it began the self-calibration of a converter ends (R292, R293); the deferred command
notes which converter passed. -/
def execAdcSelfcalEnd (adc : Fin 2) (factors : AdcFactors) (s : State) : Host.Outcome State Fault Refusal :=
  done <| s.live fun s =>
    let a := adc.val
    if s.adcState a ≠ 4 ∨ s.beat.lbc < (s.adc a).busyTill ∨ !(s.hst.deferred.any (selfcalOf a)) then s
    else
      let s := s.modDeferred (selfcalOf a) (noteSelfcal a (badFactor factors).isNone)
      s.selfcal a factors

/-! ### Arming, stopping and triggering (R285 to R288) -/

/-- ADC_ARM. -/
def execAdcArm (iss : Issuer) (converters : Byte) (s : State) : Host.Outcome State Fault Refusal :=
  let l := maskList converters 2
  done <| s.command iss 0x0502 true
    [(badAdcs converters, Status.badArgument),
     (l.any (fun a => [0, 2, 3].contains (s.adcState a)), Status.wrongState),
     (l.any (fun a => s.adcHeld a || s.adcState a == 4), Status.busy)]
    fun s =>
      let s := each l (fun a s =>
        let s := (s.putBit ADC_STAT_TRIG_OVERRUN (64 * a) false).putBit ADC_STAT_CLIP (64 * a) false
        let s := s.setReg64 .ADC_PASS (64 * a) 0
        (s.modAdc a fun x => { x with dropSeen := false, clipSeen := false, stopping := false, ends := none }).setAdc a 2) s
      s.complete iss Status.ok [listMask l]

/-- A converter stops at once: results sampled before the present boundary are still written (R288). -/
def State.adcStopNow (a : Nat) (s : State) : State :=
  let t := s.now
  if s.adcState a = 2 ∨ s.adcState a = 3 then
    (s.modAdc a fun x => { x with out := x.out.filter (fun r => decide (r.last * clockFs < t)) }).adcIdle a
  else s

/-- A converter stops at the end of its pass; an ARMED one at once (R288). -/
def State.adcStopAtEnd (a : Nat) (s : State) : State :=
  match s.adcState a with
  | 2 => s.adcIdle a
  | 3 => (s.modAdc a fun x => { x with stopping := true }).putBit ADC_STAT_PENDING (64 * a) false
  | _ => s

/-- ADC_STOP. -/
def execAdcStop (iss : Issuer) (converters mode : Byte) (s : State) : Host.Outcome State Fault Refusal :=
  done <| s.command iss 0x0503 true [(badAdcs converters || decide (1 < mode.toNat), Status.badArgument)] fun s =>
    let s := each [0, 1] (fun a s => s.adcPassEnd a s.now) s
    let l := (maskList converters 2).filter (fun a => s.adcState a == 2 || s.adcState a == 3)
    let m := listMask l
    let run := l.any (fun a => s.adcState a == 3)
    if mode = 0 then (each l State.adcStopNow s).complete iss Status.ok [m]
    else
      let t := each l State.adcStopAtEnd s
      if run then t.defer iss (.adcStop iss converters mode) 0 [m] else t.complete iss Status.ok [m]

/-- The instant at which the running pass ends (R282, R283). -/
def State.adcPassOver (s : State) (a : Nat) : Nat :=
  let x := s.adc a
  if s.adcShort a then x.base + s.adcPass a
  else (List.range' x.entry (s.adcLen a - x.entry)).foldl (fun n e => n + s.adcSettle a e + 2 ^ s.adcK a e) x.base

/-- A converter takes a soft trigger at the start of the next beat as a start or as pending: ahead of it come the triggers
already due, then the end of a pass by that boundary, then the soft triggers of the same boundary (R286, R287). -/
def State.adcWouldTake (s : State) (a : Nat) : Bool :=
  let b := s.beat.lbc
  let due := ((s.adc a).trigs.filter (fun x => decide (x.1 ≤ b))).length
  let soft := ((s.adc a).trigs.filter (fun x => x.1 == b + 1 && x.2 == 0)).length
  let pending := s.bitOf ADC_STAT_PENDING (64 * a)
  match s.adcState a with
  | 2 => decide (due + soft < if s.adcCont a then 1 else 2)
  | 3 =>
    if s.adcCont a then false
    else if (b + 1) * beatFs < s.adcPassOver a * clockFs then !pending && due + soft == 0
    else if (s.adc a).stopping then false
    else decide (soft < if pending || due != 0 then 1 else 2)
  | _ => false

/-- ADC_TRIG: a soft trigger for each named converter, taken at the start of the next beat (R286). -/
def execAdcTrig (iss : Issuer) (converters : Byte) (s : State) : Host.Outcome State Fault Refusal :=
  done <| s.command iss 0x0504 true [(badAdcs converters, Status.badArgument)] fun s =>
    let s := each [0, 1] (fun a s => s.adcPassEnd a s.now) s
    let l := maskList converters 2
    let took := l.filter s.adcWouldTake
    let s := each l (fun a => State.modAdc a fun x => { x with trigs := x.trigs ++ [(s.beat.lbc + 1, 0)] }) s
    s.complete iss Status.ok [listMask took]

/-! ### Open-wire detection (R290, R291) -/

/-- The supply whose sense input a multiplexer input is; none for AIN inputs (R280). -/
def senseOf (a i : Nat) : Option Nat := if i < 32 then some (16 * a + i / 2) else none

/-- The clocks of an open-wire test (R290). -/
def openwireClocks (inputs : List Nat) (settle : Nat) : Nat :=
  inputs.foldl (fun n i => n + (if i < 32 then 5 else 3) * (settle + 28)) 0

/-- ADC_OPENWIRE: accepted to run once its converter is IDLE. -/
def execAdcOpenwire (iss : Issuer) (dest inputs : W64) (converter current : Byte) (settle thresh : W16) (s : State) :
    Host.Outcome State Fault Refusal :=
  let a := converter.toNat
  let l := maskList inputs 38
  let bad := s.badRam dest 8 (16 * l.length) || inputs == 0 || decide (2 ^ 38 ≤ inputs.toNat) || decide (1 < a) ||
    decide (1 < current.toNat) || decide (settle.toNat < 4)
  let on := l.any (fun i => match senseOf a i with | some c => s.fieldOf SUP_STAT_STATE c != 0 && s.fieldOf SUP_STAT_STATE c != 4 | none => false)
  done <| s.command iss 0x0505 (iss.mb != 16)
    [(bad, Status.badArgument), (on || (iss.nowait && (s.adcState a != 1 || s.deviceRuns)), Status.wrongState)]
    (State.defer iss (.adcOpenwire iss dest inputs converter current settle thresh) 0 [])

/-- The record of one input (R291). -/
def openwireRecord (i : Nat) (thresh : Nat) (v : List Int) : List Byte :=
  let x (j : Nat) : Int := if i < 32 ∨ j < 3 then v.getD j 0 else 0
  let p := decide ((thresh : Int) < x 1 - x 2)
  let n := decide (i < 32) && decide ((thresh : Int) < x 4 - x 3)
  leBytes 1 i ++ leBytes 1 (flag 0 p + flag 1 n) ++ leBytes 2 0 ++ (List.range 5).flatMap (fun j => leBytes 2 (twos 16 (x j))) ++
  leBytes 2 0

/-- An open-wire test of converter `a` that has started and has not ended. -/
def openwireOf (a : Nat) (d : Deferred) : Bool :=
  d.started && d.outcome.isNone && (match d.cmd with | .adcOpenwire _ _ _ c _ _ _ => c.toNat == a | _ => false)

/-- ADC_OPENWIRE_END: the records are written, the event is raised where an input is open, and the converter is IDLE
(R290, R291). -/
def execAdcOpenwireEnd (adc : Fin 2) (values : List (List Int)) (s : State) : Host.Outcome State Fault Refusal :=
  done <| s.live fun s =>
    let a := adc.val
    match s.hst.deferred.find? (openwireOf a) with
    | some d =>
      match d.cmd with
      | .adcOpenwire _ dest inputs _ _ _ thresh =>
        if s.adcState a ≠ 4 ∨ s.beat.lbc < (s.adc a).busyTill then s
        else
          let l := maskList inputs 38
          let recs := l.zipIdx.map (fun p => openwireRecord p.1 thresh.toNat (values.getD p.2 []))
          let open_ := (l.zip recs).filterMap (fun p => if leAt p.2 1 1 = 0 then none else some p.1)
          let m := listMask open_
          let s := (s.setMem dest.toNat recs.flatten).setAdc a 1
          let s := when (!open_.isEmpty) (State.event (640 + 8 * a + 4)) s
          s.modDeferred (openwireOf a) fun d => { d with outcome := some (Status.ok, [m % 2 ^ 32, m / 2 ^ 32, 16 * l.length]) }
      | _ => s
    | none => s

end Sys2Proof.Machine
end

