-- ==== Sys2Proof/Machine/Sup.lean ====
section
/-! DEFINITION. The site supply controllers and window monitors (11_supplies). -/

namespace Sys2Proof.Machine

/-- A controller. -/
def State.sup (s : State) (c : Nat) : Sup := s.meas.sups.get (fun _ => { }) c
/-- A controller changed. -/
def State.modSup (c : Nat) (f : Sup → Sup) (s : State) : State :=
  s.withMeas fun m => { m with sups := m.sups.set (fun _ => { }) c (f (s.sup c)) }

/-- SUP_STAT.STATE (R306): 0 OFF, 1 START, 2 ON, 3 RAMP_DOWN, 4 TRIPPED. -/
def State.supState (s : State) (c : Nat) : Nat := s.fieldOf SUP_STAT_STATE c
/-- EN is high: START, ON or RAMP_DOWN. -/
def State.supEn (s : State) (c : Nat) : Bool := [1, 2, 3].contains (s.supState c)

/-- The owner site (R307). -/
def State.supOwner (s : State) (c : Nat) : Option Nat :=
  if s.bitOf SUP_CFG_OWNED c then some (s.fieldOf SUP_CFG_SITE c) else none

/-- The owner site is idle, or there is none. -/
def State.supOwnerIdle (s : State) (c : Nat) : Bool :=
  match s.supOwner c with | some n => s.idle n | none => true

/-- The controller enters OFF or TRIPPED: PWM and EN low (R306); the 20 us of blanking after EN rose go on (R305). -/
def State.supLow (c st : Nat) (s : State) : State :=
  (s.modSup c fun x => { x with pwm := false, zeroAt := none, fast := false }).putField SUP_STAT_STATE c st

/-- The controller enters RAMP_DOWN (R306, R308). -/
def State.supRamp (c : Nat) (s : State) : State :=
  if s.supState c = 1 ∨ s.supState c = 2 then
    (s.modSup c fun x => { x with zeroAt := if x.act = 0 ∧ !x.fresh then some s.beat.lbc else none, stepAt := s.beat.lbc }).putField
      SUP_STAT_STATE c 3
  else s

/-- The controller enters START: from OFF with its compensator cleared, VSET_ACT to come from the first loop sample and
blanking begun; from RAMP_DOWN at the present VSET_ACT (R302, R305, R306). -/
def State.supStart (c : Nat) (s : State) : State :=
  match s.supState c with
  | 0 => (s.modSup c fun x => { x with
      act := 0, fresh := true, stepAt := s.beat.lbc, zeroAt := none, enAt := some s.beat.lbc, blank := 15, u := 0, e1 := 0
      e2 := 0 }).putField SUP_STAT_STATE c 1
  | 3 => (s.modSup c fun x => { x with
      zeroAt := none, stepAt := s.beat.lbc, fast := false, blank := x.blank ||| 2 }).putField SUP_STAT_STATE c 1
  | _ => s

/-- Every controller that is not OFF or TRIPPED ramps down after a C3 fault; with `fast` at SS_DIV 1 (R308, R430). -/
def State.supRampAll (fast : Bool) (s : State) : State :=
  each (List.range 32) (fun c s =>
    let s := s.supRamp c
    if fast && s.supState c == 3 then s.modSup c fun x => { x with fast := true } else s) s

/-- Every controller is OFF in FAULT_STOP (R308). -/
def State.supOffAll (s : State) : State :=
  each ((List.range 32).filter (fun c => s.supState c != 0)) (fun c => State.supLow c 0) s

/-! ### Trips (R303 to R305) -/

/-- LSW and ACTION of a monitor. -/
def State.supLsw (s : State) (c m : Nat) : Bool := (s.reg .SUP_MON_CFG c).getLsbD (4 * m + 2)
def State.supAction (s : State) (c m : Nat) : Nat := bits (s.reg .SUP_MON_CFG c) (4 * m + 1) (4 * m)

/-- The latch of a monitor. -/
def State.supLatch (s : State) (c m : Nat) : Bool := (s.reg .SUP_STAT c).getLsbD m

/-- A self-check of the controller runs, or the calibration step of its comparators, and suppresses its latches (R309). -/
def State.supTesting (s : State) (c : Nat) : Bool :=
  s.hst.deferred.any (fun d => d.started && d.outcome.isNone && (match d.cmd with | .supSelftest _ k _ => k.toNat == c | _ => false)) ||
  (match s.cal.run with | some r => r.steps.head? == some (7, c) | none => false)

/-- The input of a monitor's comparator, in uV, lies beyond its threshold: above OV or OC, below UV; PEAK trips where the peak
comparator ended the present period with the command clamped at ILIM (R303). -/
def State.supOver (s : State) (c m : Nat) (v : Int) : Bool :=
  match m with
  | 0 => decide ((5000 * s.fieldOf SUP_THR_V_OV c : Nat) < v)
  | 1 => decide (v < (5000 * s.fieldOf SUP_THR_V_UV c : Nat))
  | 2 => decide ((160 * s.fieldOf SUP_THR_I_OC c : Nat) < v)
  | _ => (s.sup c).limited

/-- The input of a window monitor, in uV, lies in the comparator's hysteresis band, the 2 LSB of its DAC that a tripped one must
cross to read clear again (R311; that they lie on the clear side of the threshold is a DESIGN CHOICE, log entry 90). -/
def State.supBand (s : State) (c m : Nat) (v : Int) : Bool :=
  match m with
  | 0 => decide ((5000 * s.fieldOf SUP_THR_V_OV c : Nat) - 10000 < v) && !(s.supOver c 0 v)
  | 1 => decide (v < (5000 * s.fieldOf SUP_THR_V_UV c : Nat) + 10000) && !(s.supOver c 1 v)
  | 2 => decide ((160 * s.fieldOf SUP_THR_I_OC c : Nat) - 320 < v) && !(s.supOver c 2 v)
  | _ => false

/-- What a comparator makes of its input: tripped beyond the threshold, and inside the band as it was (R303, R311). -/
def State.supReads (s : State) (c m : Nat) (v : Int) : Bool :=
  s.supOver c m v || ((s.sup c).tripped.testBit m && s.supBand c m v)

/-- What the comparator of a window monitor reads; PEAK keeps no level of its own, for its latch records periods (R303). -/
def State.supSense (c m : Nat) (hit : Bool) (s : State) : State :=
  s.modSup c fun x => { x with tripped := (x.tripped &&& (7 - 2 ^ m)) + (if hit ∧ m < 3 then 2 ^ m else 0) }

/-- The fault of a trip: one record for the controller and beat, naming every monitor that tripped in it (R304). -/
def State.supFault (c trips : Nat) (s : State) : State :=
  let b := s.beat.lbc + 1
  let same (x : Nat × FaultRec) : Bool := x.1 == b && x.2.sub == 6 && x.2.code == 0x0601 && x.2.detail % 32 == c
  let detail := trips * 256 + c
  if s.hsk.lines.any same then
    s.withHsk fun h => { h with lines := h.lines.map (fun x => if same x then (x.1, { x.2 with detail := detail }) else x) }
  else s.fault 6 2 0x0601 detail (match s.supOwner c with | some n => BitVec.ofNat 32 (2 ^ n) | none => 0)

/-- The latch of monitor `m` sets; unless a period in which it tripped released it, that is a trip with its event,
happening and action (R304). -/
def State.supTrip (c m : Nat) (s : State) : State :=
  if s.supLatch c m || s.supTesting c then s
  else
    let s := s.setReg .SUP_STAT c 0 (s.reg .SUP_STAT c ||| BitVec.ofNat 32 (2 ^ m))
    let x := s.sup c
    let s := s.modSup c fun x => { x with cur := x.cur ||| 2 ^ m }
    if x.prev.testBit m && !(s.supLsw c m) then s
    else
      let s := (s.event (656 + 4 * c + m)).happenAll 6 (c + 32 * m) (s.beat.lbc + 2)
      let trips := (if x.tripBeat = s.beat.lbc then x.trips else 0) ||| 2 ^ m
      let s := s.modSup c fun x => { x with tripBeat := s.beat.lbc, trips := trips }
      let act := s.supAction c m
      let worst := (List.range 4).any (fun j => trips.testBit j && s.supAction c j != 0)
      let s := when worst (State.supFault c trips) s
      if act = 2 ∧ s.supEn c then s.supLow c 4 else s

/-- The comparator of monitor `m` may set its latch: resolved, and not blanked (R305). -/
def State.supWatches (s : State) (c m : Nat) : Bool :=
  !((s.sup c).blank.testBit m) && !((s.reg .SUP_STAT c).getLsbD (8 + m))

/-- A comparator that reads tripped sets its latch, unless it is blanked or UNRESOLVED. -/
def State.supJudge (c m : Nat) (hit : Bool) (s : State) : State :=
  let s := s.supSense c m hit
  when (hit && s.supWatches c m) (State.supTrip c m) s

/-- A comparator's input takes a value; beyond the threshold the latch sets (R303, R304). -/
def State.supInput (c : Nat) (sensed : MonitorInput) (s : State) : State :=
  s.supJudge c sensed.monitor.val (s.supReads c sensed.monitor.val sensed.input)

/-- SUP_COMPARATOR_TRIP. -/
def execSupComparatorTrip (sc : Fin 32) (sensed : MonitorInput) (s : State) : Host.Outcome State Fault Refusal :=
  done <| s.live (State.supInput sc.val sensed)

/-- The monitors whose blanking has ended: 20 us after EN rose, and for UV outside START (R305). -/
def State.supUnblanked (s : State) (c : Nat) : List Nat :=
  let x := s.sup c
  match x.enAt with
  | some b =>
    if s.beat.lbc < b + 16000 then [] else (List.range 4).filter (fun m => x.blank.testBit m && !(m == 1 && s.supState c == 1))
  | none => []

/-- What a window monitor of a supply senses. -/
def sensedBy (x : Sensed) (m : Nat) : Int := if m = 2 then x.amps else x.volts

/-- The comparators whose blanking has ended report their state: in band as not tripped and UNRESOLVED, else their true state, and
those tripped latch (R305). Whether the peak comparator is in its band is told. -/
def State.supBlanked (c : Nat) (peakBand : Bool) (sensed : Sensed) (s : State) : State :=
  let l := s.supUnblanked c
  let m := listMask l
  let inBand (m : Nat) : Bool := if m = 3 then peakBand else s.supBand c m (sensedBy sensed m)
  let band := listMask (l.filter inBand)
  let s := s.modSup c fun x => { x with blank := x.blank &&& (15 - m) }
  let s := s.setReg .SUP_STAT c 0 (s.reg .SUP_STAT c &&& ~~~(BitVec.ofNat 32 (m * 272)) ||| BitVec.ofNat 32 (band * 272))
  each l (fun m s => s.supJudge c m (m != 3 && !(inBand m) && s.supOver c m (sensedBy sensed m))) s

/-- ENABLE_BLANKING_END. -/
def execEnableBlankingEnd (sc : Fin 32) (peakBand : Bool) (sensed : Sensed) (s : State) : Host.Outcome State Fault Refusal :=
  done <| s.live (State.supBlanked sc.val peakBand sensed)

/-- The first clean crossing, to an input outside the band, resolves a comparator and clears INBAND; found tripped it latches
(R305). -/
def State.supResolve (c m : Nat) (input : Int) (s : State) : State :=
  if !((s.reg .SUP_STAT c).getLsbD (8 + m)) || s.supBand c m input then s
  else
    let s := s.setReg .SUP_STAT c 0 (s.reg .SUP_STAT c &&& ~~~(BitVec.ofNat 32 (2 ^ (8 + m) + 2 ^ (4 + m))))
    s.supJudge c m (s.supOver c m input)

/-- SUP_COMPARATOR_RESOLVE. -/
def execSupComparatorResolve (sc : Fin 32) (monitor : Fin 4) (input : Int) (s : State) :
    Host.Outcome State Fault Refusal :=
  done <| s.live (State.supResolve sc.val monitor.val input)

/-- Latches released by software: of the bits written, those that are set; one in latch-to-software mode whose comparator is
still tripped sets again in the next beat (R304). -/
def State.supRelease (c mask : Nat) (s : State) : State :=
  let free := mask &&& (s.fieldOf SUP_STAT_LATCH c)
  let soft := listMask ((List.range 4).filter (s.supLsw c))
  (s.setReg .SUP_STAT c 0 (s.reg .SUP_STAT c &&& ~~~(BitVec.ofNat 32 free))).modSup c fun x => { x with
    prev := x.prev &&& (15 - free), cur := x.cur &&& (15 - free), again := x.again ||| (free &&& soft &&& x.tripped) }

/-- The latches that set again in the beat that begins, their comparators neither blanked nor UNRESOLVED (R304, R305). -/
def State.supLatchAgain (s : State) : State :=
  each ((List.range 32).filter (fun c => (s.sup c).again != 0)) (fun c s =>
    let l := (List.range 4).filter (fun m => (s.sup c).again.testBit m && s.supWatches c m)
    each l (State.supTrip c) (s.modSup c fun x => { x with again := 0 })) s

/-- SUP_LATCH_CLEAR: a write of SUP_STAT. -/
def execSupLatchClear (controller : Fin 32) (value : W32) (s : State) : Host.Outcome State Fault Refusal :=
  done <| s.live (State.supRelease controller.val value.toNat)

/-! ### Periods (R299 to R302) -/

/-- DIV. -/
def State.supDiv (s : State) : Nat := s.fieldOf SUP_GLB_CFG_DIV 0

/-- A period of controller `c` begins at the present beat (R299). -/
def State.supStarts (s : State) (c : Nat) : Bool :=
  s.supDiv != 0 && (s.beat.lbc + s.supDiv - c * s.supDiv / 32) % s.supDiv == 0

/-- The compensator's next command (R302). -/
def supCommand (a0 a1 a2 u e e1 e2 : Int) (ilim : Nat) : Int :=
  max 0 (min (u + (a0 * e + a1 * e1 + a2 * e2) / 4096) ilim)

/-- Latch-to-period latches are released at a period start, and set again where their comparator still reads tripped (R304);
the slope-compensation ramp starts at 0 (R301). -/
def State.supNewPeriod (c : Nat) (s : State) : State :=
  let soft := (List.range 4).filter (fun m => !(s.supLsw c m))
  let free := listMask soft
  let s := (s.setReg .SUP_STAT c 0 (s.reg .SUP_STAT c &&& ~~~(BitVec.ofNat 32 free))).modSup c fun x => { x with
    prev := x.cur &&& free, cur := 0, period := some s.beat.lbc, limited := false }
  each (soft.filter (fun m => (s.sup c).tripped.testBit m && s.supWatches c m)) (State.supTrip c) s

/-- VSET_ACT takes its start from the first loop sample after OFF (R306). -/
def State.supFirst (c sample : Nat) (s : State) : State :=
  let x := s.sup c
  if !x.fresh then s
  else
    let v := s.fieldOf SUP_VSET_VSET c
    let act := min sample v
    let s := s.modSup c fun x => { x with
      act := act, fresh := false, stepAt := s.beat.lbc, zeroAt := if act = 0 ∧ s.supState c = 3 then some s.beat.lbc else none }
    if s.supState c = 1 ∧ act = v then s.putField SUP_STAT_STATE c 2 else s

/-- SUP_PERIOD_START: the loop samples, the command computed one period ago comes into force, PWM goes high, and the next
command is computed (R299 to R302). -/
def execSupPeriodStart (sc : Fin 32) (sample : BitVec 12) (s : State) : Host.Outcome State Fault Refusal :=
  done <| s.live fun s =>
    let c := sc.val
    if !(s.supStarts c) || (s.sup c).period == some s.beat.lbc then s
    else
      let s := (s.supNewPeriod c).putField SUP_LOOP_SAMPLE c sample.toNat
      if !(s.supEn c) then s
      else
        let s := s.supFirst c sample.toNat
        let x := s.sup c
        let s := s.putField SUP_LOOP_CMD c x.u.toNat
        let low := x.u == 0 || (s.supLatch c 3 && s.supLsw c 3)
        let e : Int := (x.act : Int) - sample.toNat
        let u := supCommand (signed 16 (s.fieldOf SUP_COMP_A_A0 c)) (signed 16 (s.fieldOf SUP_COMP_A_A1 c))
          (signed 16 (s.fieldOf SUP_COMP_B_A2 c)) x.u e x.e1 x.e2 (s.fieldOf SUP_THR_I_ILIM c)
        s.modSup c fun x => { x with pwm := !low, u := u, e1 := e, e2 := x.e1 }

/-- The level, in nV times 400, that ends the on-time `fs` after the period start: the command of 40 uV a code less the ramp of
RAMP times 2.5 mV/us, which starts at 0 (R300, R301). -/
def State.supPeakLevel (s : State) (c fs : Nat) : Int :=
  (16000000 * s.fieldOf SUP_LOOP_CMD c : Nat) - (s.fieldOf SUP_CFG_RAMP c * fs : Nat)

/-- The duty limit of a period in fs: 50 % while RAMP is 0, else 90 % (R300). -/
def State.supLimit (s : State) (c : Nat) : Nat := s.supDiv * beatFs * (if s.fieldOf SUP_CFG_RAMP c = 0 then 50 else 90) / 100

/-- The on-time ends by the comparator, once its 40 ns of blanking have passed and the sensed current has reached the level, or at
the duty limit; a period ended by the comparator with the command at ILIM sets the PEAK latch (R300, R301, R303). -/
def State.supPeak (c : Nat) (sensed : PeakSense) (s : State) : State :=
  let fs := (match (s.sup c).period with | some b => (s.beat.lbc - b) * beatFs | none => 0) + sensed.ofs.val
  let by_ := decide (40000000 ≤ fs) && decide (fs ≤ s.supLimit c) && decide (s.supPeakLevel c fs ≤ 400 * sensed.sense)
  if !((s.sup c).pwm && (by_ || decide (s.supLimit c ≤ fs))) then s
  else
    let limited := by_ && s.fieldOf SUP_LOOP_CMD c == s.fieldOf SUP_THR_I_ILIM c
    let s := s.modSup c fun x => { x with pwm := false, limited := limited }
    when (limited && s.supWatches c 3) (State.supTrip c 3) s

/-- PEAK_COMPARATOR_TRIP. -/
def execPeakComparatorTrip (sc : Fin 32) (sensed : PeakSense) (s : State) : Host.Outcome State Fault Refusal :=
  done <| s.live (State.supPeak sc.val sensed)

/-! ### Soft start and ramps (R306) -/

/-- SOFT_START_STEP: VSET_ACT moves one code toward its goal every SS_DIV beats. -/
def execSoftStartStep (sc : Fin 32) (s : State) : Host.Outcome State Fault Refusal :=
  done <| s.live fun s =>
    let c := sc.val
    let x := s.sup c
    let st := s.supState c
    let div := if x.fast then 1 else s.fieldOf SUP_CFG_SS_DIV c
    let goal := if st = 3 then 0 else s.fieldOf SUP_VSET_VSET c
    if !(s.supEn c) || x.fresh || decide (s.beat.lbc < x.stepAt + div) then s
    else
      let act := if x.act < goal then x.act + 1 else if goal < x.act then x.act - 1 else x.act
      let s := s.modSup c fun x => { x with
        act := act, stepAt := s.beat.lbc, zeroAt := if st = 3 ∧ act = 0 ∧ x.zeroAt.isNone then some s.beat.lbc else x.zeroAt }
      if st = 1 ∧ act = goal then s.putField SUP_STAT_STATE c 2 else s

/-- RAMP_DOWN_DONE: 20 us after VSET_ACT reached 0 the controller is OFF. -/
def execRampDownDone (sc : Fin 32) (s : State) : Host.Outcome State Fault Refusal :=
  done <| s.live fun s =>
    let c := sc.val
    match (s.sup c).zeroAt with
    | some b => if s.supState c = 3 ∧ b + 16000 ≤ s.beat.lbc then s.supLow c 0 else s
    | none => s

/-! ### Commands -/

/-- The controllers that a deferred calibration holds (R405). -/
def Deferred.sups (d : Deferred) : List Nat :=
  match d.cmd with
  | .calRun _ scope _ _ _ inst => if scope = 3 then maskList inst 32 else if scope = 1 then List.range 32 else []
  | _ => []

/-- What refuses a SUP_SET that would now act on these controllers: ON of a TRIPPED one, of a SUSPECT one, of a held one. -/
def State.supSetChecks (controllers : W32) (op : Byte) (s : State) : List (Bool × Nat) :=
  let l := if op = 1 then maskList controllers 32 else []
  [(l.any (fun c => s.supState c == 4), Status.wrongState),
   (l.any (fun c => s.bitOf SUP_STAT_SUSPECT c), Status.noResource),
   (s.hst.deferred.any (fun d => s.atWork d && d.sups.any l.contains) || (s.cal.recal && !l.isEmpty), Status.busy)]

/-- SUP_SET acts: VSET where given, then OFF, ON or OFF_NOW (R306). -/
def State.supSet (controllers : W32) (op : Byte) (vset : W16) (s : State) : State :=
  each (maskList controllers 32) (fun c s =>
    let s := if vset = 0xFFFF then s else s.putField SUP_VSET_VSET c vset.toNat
    match op.toNat with
    | 0 => if s.supState c = 4 then s.supLow c 0 else s.supRamp c
    | 1 => s.supStart c
    | _ => if s.supState c = 0 then s else s.supLow c 0) s

/-- What the comparators of some controllers do in the part of the present beat whose commands still wait: a trip that falls in the same
beat as a SUP_SET is handled first (R23, R306). A trip that has been taken this way finds its latch set when its command comes. -/
def State.tripsFirst (controllers : W32) (s : State) : State :=
  let mine (c : Fin 32) : Bool := controllers.getLsbD c.val
  each s.restOfBeat (fun i s => match i with
    | .supComparatorTrip c x => when (mine c) (State.supInput c.val x) s
    | .supComparatorResolve c m x => when (mine c) (State.supResolve c.val m.val x) s
    | .enableBlankingEnd c p x => when (mine c) (State.supBlanked c.val p x) s
    | .peakComparatorTrip c x => when (mine c) (State.supPeak c.val x) s
    | _ => s) s

/-- SUP_SET. -/
def execSupSet (iss : Issuer) (controllers : W32) (op : Byte) (vset : W16) (s : State) : Host.Outcome State Fault Refusal :=
  let bad := controllers == 0 || decide (2 < op.toNat) || (vset != 0xFFFF && decide (4000 < vset.toNat))
  done <| s.shadowed iss 0x0601 true [(bad, Status.badArgument)] ((s.tripsFirst controllers).supSetChecks controllers op) []
    [controllers.toNat] (.load (.supSet iss controllers op vset) [])
    fun s => ((s.tripsFirst controllers).supSet controllers op vset).complete iss Status.ok [controllers.toNat]

/-- SUP_SELFTEST: accepted to run once the owner site is idle (R309). -/
def execSupSelftest (iss : Issuer) (controller comparators : Byte) (s : State) : Host.Outcome State Fault Refusal :=
  let c := controller.toNat % 32
  done <| s.command iss 0x0602 true
    [(decide (32 ≤ controller.toNat) || comparators == 0 || decide (16 ≤ comparators.toNat), Status.badArgument),
     (s.supState c != 0 || (iss.nowait && !(s.supOwnerIdle c)), Status.wrongState)]
    (State.defer iss (.supSelftest iss controller comparators) 0 [])

/-- SUP_SELFTEST_END: 50 us for each comparator after it began the self-check ends: failing comparators raise the fault
and mark the controller SUSPECT, and a pass of all four clears the mark (R309). -/
def execSupSelftestEnd (index : Nat) (failed : BitVec 4) (s : State) : Host.Outcome State Fault Refusal :=
  done <| s.live fun s =>
    match s.hst.deferred[index]? with
    | some d =>
      match d.cmd with
      | .supSelftest _ c m =>
        if !d.started || decide (s.beat.lbc < d.due) || d.outcome.isSome then s
        else
          let bad := failed.toNat &&& (m.toNat % 16)
          let s := s.withHst fun h => { h with deferred := h.deferred.modify index (fun d =>
            { d with outcome := some (Status.ok, [m.toNat % 16 - bad, bad]) }) }
          if bad ≠ 0 then
            (s.putBit SUP_STAT_SUSPECT c.toNat true).fault 6 0 0x0602 (bad * 256 + c.toNat % 32) 0
          else if m = 15 then s.putBit SUP_STAT_SUSPECT c.toNat false
          else s
      | _ => s
    | none => s

end Sys2Proof.Machine
end

