-- ==== Sys2Proof/Machine/Mem.lean ====
section
/-! DEFINITION. The GDDR6 controllers (12_gddr6). -/

namespace Sys2Proof.Machine

/-- A controller. -/
def State.ctl (s : State) (m : Nat) : Ctl := s.meas.ctls.get (fun _ => { }) m
/-- A controller changed. -/
def State.modCtl (m : Nat) (f : Ctl → Ctl) (s : State) : State :=
  s.withMeas fun x => { x with ctls := x.ctls.set (fun _ => { }) m (f (s.ctl m)) }

/-- MEM_CTL_STAT.STATE: 0 UNPOPULATED, 1 OUT, 2 ACTIVE, 3 LOST. -/
def State.ctlState (s : State) (m : Nat) : Nat := s.fieldOf MEM_CTL_STAT_STATE m

/-- Where a granule lies in the devices (R313): controller, channel, bank, row, and the granule within the 2 KiB page. -/
structure Place where
  mc : Nat
  ch : Nat
  bank : Nat
  row : Nat
  col : Nat
  deriving DecidableEq, Repr

/-- The place of a granule (R313). -/
def State.place6 (s : State) (g : Nat) : Place :=
  let l := s.interleave
  let lg := g / l.length
  let row := lg / 512
  ⟨l.getD (g % l.length) 0, lg % 2, (lg / 2 % 16) ^^^ (row % 16), row, lg / 32 % 16⟩

/-- One step of the Galois LFSR x^32 + x^22 + x^2 + x + 1, as a multiplication by x (R317; the direction, log entry 38). -/
def lfsrStep (w : W32) : W32 := if w.getLsbD 31 then (w <<< 1) ^^^ 0x00400007#32 else w <<< 1

/-- The LFSR state of a controller. -/
def State.lfsr (s : State) (m : Nat) : W32 := if (s.ctl m).lfsr = 0 then BitVec.ofNat 32 (0x5EED0001 + m) else (s.ctl m).lfsr

/-- The beat from which a channel may take its next activate (R314). -/
def Ctl.free (c : Ctl) (ch : Nat) : Nat := if ch = 0 then c.freeA else c.freeB

/-- `n` activates of a channel from beat `b` on, one every 4 beats (R314). -/
def Ctl.spend (c : Ctl) (ch n b : Nat) : Ctl :=
  if ch = 0 then { c with freeA := max c.freeA b + 4 * n } else { c with freeB := max c.freeB b + 4 * n }

/-- The rows that a neighbour refresh of row `r` activates: row 0 and the last row have one neighbour (R317). -/
def refreshRows (r : Nat) : List Nat := (if r = 0 then [] else [r - 1]) ++ (if r + 1 < 2 ^ 17 then [r + 1] else [])

/-- The scheduled neighbour refreshes that `hit` picks are performed, each an activate of its channel that advances no LFSR
(R317). -/
def Ctl.refresh (c : Ctl) (hit : Nat × Nat × Nat × Nat → Bool) (b : Nat) : Ctl :=
  let n (ch : Nat) : Nat := (c.nr.filter (fun x => hit x && x.1 == ch)).length
  ({ c with nr := c.nr.filter (fun x => !hit x) }.spend 0 (n 0) b).spend 1 (n 1) b

/-- One activate of a data access: scheduled neighbour refreshes of the bank come first, the LFSR steps, and a neighbour
refresh may be scheduled (R317). -/
def State.activate (p : Place) (s : State) : State :=
  let w := lfsrStep (s.lfsr p.mc)
  let due := w.toNat % 2 ^ s.fieldOf MEM_NR_CFG_K p.mc == 0
  let b := s.beat.lbc
  s.modCtl p.mc fun c =>
    let c := (c.refresh (fun x => x.1 == p.ch && x.2.1 == p.bank) b).spend p.ch 1 b
    { c with lfsr := w, nr := c.nr ++ (if due then (refreshRows p.row).map (fun r => (p.ch, p.bank, r, b)) else []) }

/-- The neighbour refreshes that 64 beats bound are performed (R317). -/
def State.settleRefresh (s : State) : State :=
  each ((List.range 16).filter (fun m => !(s.ctl m).nr.isEmpty)) (fun m s =>
    let b := s.beat.lbc
    s.modCtl m fun c => c.refresh (fun x => decide (x.2.2.2 + 64 ≤ b)) b) s

/-- Repeats of a transfer, counted (R319). -/
def State.edcRepeats (m n : Nat) (s : State) : State :=
  if n = 0 then s
  else (s.setReg64 .MEM_EDC_CNT m (s.reg64 .MEM_EDC_CNT m + BitVec.ofNat 64 n)).modCtl m fun c => { c with edc := c.edc + n }

/-- The bytes that a write selects with its data mask (R314). -/
def State.maskedWrite (a : Nat) (l : List (Option Byte)) (s : State) : State :=
  each (l.take 128).zipIdx (fun p s => match p.1 with | some b => s.setMem (a + p.2) [b] | none => s) s

/-- The access of a granule is answered. -/
def State.answerMem (g : Nat) (a : MemAnswer) (s : State) : State := s.withMeas fun x => { x with answer := some (g, a) }

/-! ### The write queue (R315) -/

/-- The writes among requests. -/
def writes (l : List MemReq) : List MemReq := l.filter (fun r => r.write.isSome)

/-- A request may be performed before those that arrived earlier: a read waits for every earlier write of its granule, a write
for every earlier request of it. -/
def MemReq.ready (r : MemReq) (earlier : List MemReq) : Bool :=
  !(earlier.any (fun e => e.granule == r.granule && (e.write.isSome || r.write.isSome)))

/-- A read promotes the queued writes of its granule. -/
def promote (g : Nat) (l : List MemReq) : List MemReq :=
  l.map (fun e => if e.granule = g ∧ e.write.isSome then { e with promoted := true } else e)

/-- A request taken into a controller's queue. What is written is in GDDR6 from then on for every later read, which waits for
it, and what a read returns is what stands there then: R315 lets nothing else be seen (DEDUCED, log entry 78). A write that
finds 64 queued holds its producer at its port. -/
def State.accept6 (m : Nat) (r : MemReq) (s : State) : State :=
  match r.write with
  | none =>
    let d := s.mem (128 * r.granule) 128
    s.modCtl m fun c => { c with queue := promote r.granule c.queue ++ [{ r with data := d }] }
  | some l =>
    if 64 ≤ (writes (s.ctl m).queue).length then s.modCtl m fun c => { c with held := c.held ++ [r] }
    else (s.maskedWrite (128 * r.granule) l).modCtl m fun c => { c with queue := c.queue ++ [r] }

/-- A pass of a stream has asked for granule `g` of GDDR6, and it has not come. -/
def Thread.asks (t : Thread) (g : Nat) (p : Pass) : Bool :=
  t.flight.any (fun f => p.item == f.item && p.passNo == f.passNo && entBase p.entry / 128 + f.granule == g)

/-- The threads whose windows or pads await a granule (R320). -/
def State.awaiters (s : State) (g : Nat) : List Nat :=
  (List.range 32).filter (fun n => (s.thr n).stream.any ((s.thr n).asks g) || (s.thr n).pads.any (fun p => p.2.fills g))

/-- Their sites. -/
def State.awaiting (s : State) (g : Nat) : Nat := listMask (s.awaiters g)

/-- The deadline of a stream read: the least lead of the threads that await its granule (R211, R223). -/
def State.deadline (s : State) (g : Nat) : Nat := (s.awaiters g).foldl (fun a n => min a (s.lead n)) 512

/-- What a channel owes. -/
def Ctl.owed (c : Ctl) (ch : Nat) : Owed := if ch = 0 then c.owedA else c.owedB

/-- The fifths of a beat between two accesses of a class at its rate, 128,000 MB/s for captures and 32,000 MB/s for the host, shared
evenly by the channels of the interleave (R223). -/
def State.owedEvery (s : State) (cls : MemClass) : Nat := (if cls = .capture then 8 else 32) * s.interleave.length

/-- The time of the next access owed: a period on; what was not used in 1,024 beats is not owed. -/
def owedNext (due every b : Nat) : Nat := (if due + 5 * 1024 < 5 * b then 5 * b else due) + every

/-- An access of a class that has a rate is made. -/
def State.payOwed (m ch : Nat) (cls : MemClass) (s : State) : State :=
  let b := s.beat.lbc
  let o := (s.ctl m).owed ch
  let o := match cls with
    | .capture => { o with capture := owedNext o.capture (s.owedEvery cls) b }
    | .host => { o with host := owedNext o.host (s.owedEvery cls) b }
    | _ => o
  s.modCtl m fun c => if ch = 0 then { c with owedA := o } else { c with owedB := o }

/-- Of two stream reads the one with the earlier deadline; the older of two with one deadline. -/
def State.urgent (s : State) (o : Option (MemReq × Nat)) (x : MemReq × Nat) : Option (MemReq × Nat) :=
  match o with
  | some y => if s.deadline x.1.granule < s.deadline y.1.granule then some x else some y
  | none => some x

/-- The request that a channel performs next, of those that wait for nothing and of no unmatched write while a promoted one may go
(R315): a capture write or an access of the host that is owed by
now, so that each class has its rate; else the stream read with the earliest deadline, then writes that a read has promoted, then the
classes of R223 in turn, the oldest of each; background work other than DMA waits while it is deferred (R223, R325, R428; how the
classes share a channel: DESIGN CHOICE, log entry 109). -/
def State.next6 (s : State) (m ch : Nat) : Option (MemReq × Nat) :=
  let q := (s.ctl m).queue
  let l := q.zipIdx.filter (fun x => (s.place6 x.1.granule).ch == ch && x.1.ready (q.take x.2) &&
    (x.1.promoted || decide (x.1.cls ≠ .background) || !(s.classDeferred 3)))
  let l := if l.any (fun x => x.1.promoted) then l.filter (fun x => x.1.write.isNone || x.1.promoted) else l
  let first (hit : MemReq → Bool) : Option (MemReq × Nat) := l.find? (fun x => hit x.1)
  let o := (s.ctl m).owed ch
  let now := 5 * s.beat.lbc
  (first fun r => decide (r.cls = .capture) && decide (o.capture ≤ now)).or <|
  (first fun r => decide (r.cls = .host) && decide (o.host ≤ now)).or <|
  ((l.filter (fun x => decide (x.1.cls = .stream) && x.1.write.isNone)).foldl s.urgent none).or <|
  (first MemReq.promoted).or <|
  (first fun r => decide (r.cls = .stream)).or <|
  (first fun r => decide (r.cls = .capture)).or <|
  (first fun r => decide (r.cls = .host)).or (first fun _ => true)

/-- A granule of GDDR6 that could not be read never reaches a pass. -/
def Pass.lose (g : Nat) (p : Pass) : Pass :=
  if entBase p.entry / 128 ≤ g then { p with gone := (g - entBase p.entry / 128) :: p.gone } else p

/-- It reaches neither a window nor a pad of a thread that awaits it. -/
def Thread.lose (g : Nat) (t : Thread) : Thread :=
  { t with
    stream := t.stream.map (fun p => if t.asks g p then p.lose g else p)
    pads := t.pads.map (fun x => if x.2.fills g then
      (x.1, { x.2 with rows := x.2.rows.map (Pass.lose g), feed := x.2.feed.map (Pass.lose g) }) else x) }

/-- A granule that could not be read reaches no window and no pad that awaits it (R320). -/
def State.loseGranule (g : Nat) (s : State) : State := each (s.awaiters g) (fun n => State.modThr n (Thread.lose g)) s

/-- A granule whose write failed holds free bytes; the requests of it that wait go on from there, in their order (R320). -/
def State.spoil (m g : Nat) (s : State) : State :=
  let s := each (List.range 16) (fun j s => let d := s.draw; d.2.setMem (128 * g + 8 * j) (leBytes 8 d.1.toNat)) s
  each ((s.ctl m).queue.zipIdx.filter (fun x => x.1.granule == g)) (fun x s =>
    match x.1.write with
    | some l => s.maskedWrite (128 * g) l
    | none => let d := s.mem (128 * g) 128; s.modCtl m fun c => { c with queue := c.queue.modify x.2 (fun r => { r with data := d }) }) s

/-- The fail logs that lose a granule of theirs are void (R320). -/
def State.voidLogs (g : Nat) (s : State) : State :=
  each ((List.range 32).filter (fun n =>
      let base := s.fieldOf CAP_FLOG_BASE_BASE n
      decide (base ≤ g) && decide (g ≤ base + s.fieldOf CAP_FLOG_LEN_LEN_M1 n)))
    (fun n => State.modLog n fun l => { l with void := true }) s

/-- An uncorrectable transfer (R320): the fault by class; a stream read's granule never reaches a window or pad; another reader is
answered with a poisoned read; a write leaves the granule's contents open, and its writer is told. -/
def State.uncorrectable (m : Nat) (r : MemReq) (inj : Bool) (s : State) : State :=
  let g := r.granule
  let stream := decide (r.cls = .stream) && r.write.isNone
  let s := s.raise ⟨8, if stream then 2 else 0, 0x0803, g % 2 ^ 30, if stream then BitVec.ofNat 32 (s.awaiting g) else 0, inj, none⟩
  if r.write.isSome then (when (decide (r.cls = .capture)) (State.voidLogs g) (s.spoil m g)).answerMem g .failed
  else (when stream (State.loseGranule g) s).answerMem g .poisoned

/-- A request is performed by its controller, with its repeats (R314, R317, R319); by a LOST one a read is poisoned and a write
dropped (R323). -/
def State.perform6 (p : Place) (r : MemReq) (s : State) : State :=
  let m := p.mc
  if s.ctlState m = 3 then
    (when (decide (r.cls = .stream) && r.write.isNone) (State.loseGranule r.granule) s).answerMem r.granule
      (if r.write.isSome then .failed else .poisoned)
  else
    let inj := s.injected 4 m && r.write.isNone
    let n := if inj then (if s.bitOf HSK_INJECT_CONT 0 then 5 else r.mismatches + 1) else r.mismatches
    let s := when inj State.useInjection s
    let s := each (List.range (1 + min n 4)) (fun _ => State.activate p) s
    let s := (s.edcRepeats m (min n 4)).modCtl m fun c => { c with edcInjected := c.edcInjected + (min n 4 - min r.mismatches 4) }
    if 4 < n then s.uncorrectable m r (inj && decide (r.mismatches ≤ 4))
    else s.answerMem r.granule (if r.write.isSome then .written else .data r.data)

/-- A channel performs its next request, once it may take an activate; the entry that a write leaves free lets a held producer
in (R314, R315). -/
def State.serve6 (m ch : Nat) (s : State) : State :=
  if s.beat.lbc < (s.ctl m).free ch then s
  else match s.next6 m ch with
    | none => s
    | some (r, i) =>
      let s := (s.modCtl m fun c => { c with queue := c.queue.eraseIdx i }).payOwed m ch r.cls
      let s := s.perform6 (s.place6 r.granule) r
      match r.write, (s.ctl m).held with
      | some _, x :: l => (s.modCtl m fun c => { c with held := l }).accept6 m x
      | _, _ => s

/-- Every controller with requests waiting goes on with them. -/
def State.serveAll (s : State) : State :=
  each ((List.range 16).filter (fun m => !(s.ctl m).queue.isEmpty)) (fun m s => (s.serve6 m 0).serve6 m 1) s

/-- MEM_GRANULE_ACCESS: a 128-byte granule read or written: the request joins its controller's queue, which performs what it
may in this beat (R314, R315, R317, R319, R320); of a LOST controller a poisoned read or a dropped write (R323); outside the
backed range it is answered as an address-map fault (R3). -/
def execMemGranuleAccess (cls : MemClass) (granule : Nat) (write : Option (List (Option Byte))) (mismatches : Nat) (s : State) :
    Host.Outcome State Fault Refusal :=
  done <| s.live fun s =>
    if s.backed / 128 ≤ granule then s.answerMem granule .mapFault
    else
      let p := s.place6 granule
      let req : MemReq := ⟨cls, granule, write, mismatches, [], false⟩
      if s.ctlState p.mc = 3 then s.perform6 p req else (s.accept6 p.mc req).serve6 p.mc p.ch

/-- EDC_WINDOW_END: a 1 ms window closes; repeats above THRESH raise the fault and schedule a read retraining (R319). The record is
marked INJ where the count is above THRESH only by the repeats of injected mismatches (R446). -/
def execEdcWindowEnd (mc : Fin 16) (s : State) : Host.Outcome State Fault Refusal :=
  done <| s.live fun s =>
    let m := mc.val
    let c := s.ctl m
    if s.beat.lbc < c.window + 800000 then s
    else
      let ended_ := decide (s.fieldOf MEM_EDC_CFG_THRESH 0 < c.edc)
      let inj := decide (c.edc - c.edcInjected ≤ s.fieldOf MEM_EDC_CFG_THRESH 0)
      let s := s.modCtl m fun c => { c with edc := 0, edcInjected := 0, window := s.beat.lbc, retrain := c.retrain || ended_ }
      when ended_ (State.raise ⟨8, 0, 0x0801, m, 0, inj, none⟩) s

/-- PERIODIC_READ_RETRAINING: the controller's periodic training slot carries out the scheduled retraining (R319). -/
def execPeriodicReadRetraining (mc : Fin 16) (s : State) : Host.Outcome State Fault Refusal :=
  done <| s.live (State.modCtl mc.val fun c => { c with retrain := false })

/-- One device's reading: MEM_TEMP, the wanted refresh rate, THM_G_TEMP and its event, or the readout's fault (R316,
R423). -/
def State.deviceTemp (m : Nat) (b : Bool) (t : Option Int) (s : State) : State :=
  let d := 2 * m + (if b then 1 else 0)
  let f := if b then MEM_TEMP_TEMP_B else MEM_TEMP_TEMP_A
  match t with
  | none =>
    let s := (s.putField f m 0x8000).putField THM_G_TEMP_TEMP d 0x8000
    (s.modCtl m fun c => if b then { c with wantB := true } else { c with wantA := true }).fault 8 0 0x0802 d 0
  | some t =>
    let old := s.fieldOf THM_G_TEMP_TEMP d
    let was := old != 0x8000 && decide (380 < signed 16 old)
    let want (w : Bool) : Bool := if 340 < t then true else if t < 320 then false else w
    let s := (s.putField f m (twos 16 t)).putField THM_G_TEMP_TEMP d (twos 16 t)
    let s := s.modCtl m fun c => if b then { c with wantB := want c.wantB } else { c with wantA := want c.wantA }
    when (decide (380 < t) && !was) (State.event (1136 + 8)) s

/-- GDDR6_TEMP_READ: every 1 ms a controller in service reads both of its devices. -/
def execGddr6TempRead (mc : Fin 16) (a b : Option Int) (s : State) : Host.Outcome State Fault Refusal :=
  done <| s.live fun s =>
    let m := mc.val
    let due := match (s.ctl m).readAt with | some r => decide (r + 800000 ≤ s.beat.lbc) | none => true
    if s.ctlState m ≠ 2 ∨ !due then s
    else ((s.modCtl m fun c => { c with readAt := some s.beat.lbc }).deviceTemp m false a).deviceTemp m true b

/-- REFRESH_INTERVAL: from its next refresh interval on each device is refreshed at the wanted rate (R316). -/
def execRefreshInterval (mc : Fin 16) (s : State) : Host.Outcome State Fault Refusal :=
  done <| s.live fun s =>
    let m := mc.val
    let c := s.ctl m
    if s.ctlState m ≠ 2 then s else (s.putBit MEM_CTL_STAT_DBL_A m c.wantA).putBit MEM_CTL_STAT_DBL_B m c.wantB

/-- DEVICE_LOST: a device in service stops answering: its controller is LOST, with the C3 fault (R323). -/
def execDeviceLost (device : Fin 32) (s : State) : Host.Outcome State Fault Refusal :=
  done <| s.live fun s =>
    let d := device.val
    let m := d / 2
    if s.ctlState m ≠ 2 then s
    else
      let s := (s.putField MEM_CTL_STAT_STATE m 3).withMeas fun x => { x with lost := true }
      let s := s.putBit (if d % 2 = 0 then MEM_CTL_STAT_FAIL_A else MEM_CTL_STAT_FAIL_B) m true
      s.fault 8 3 0x0805 d 0

/-- A controller has been lost since reset: no burst starts (R323). -/
def State.memLost (s : State) : Bool := s.meas.lost

/-- Training at boot (R321): a populated controller of which a device failed is OUT with its fault, the others are ACTIVE,
and the interleave is fixed. -/
def State.train (failed : W32) (s : State) : State :=
  let pop := if s.isH then 8 else 16
  let bad (m : Nat) : Bool := failed.getLsbD (2 * m) || failed.getLsbD (2 * m + 1)
  let live := (List.range pop).filter (fun m => !bad m)
  let s := each (List.range pop) (fun m s =>
    let s := s.putField MEM_CTL_STAT_STATE m (if bad m then 1 else 2)
    let s := s.putBit MEM_CTL_STAT_IN_IL m (!bad m)
    (s.putBit MEM_CTL_STAT_FAIL_A m (failed.getLsbD (2 * m))).putBit MEM_CTL_STAT_FAIL_B m (failed.getLsbD (2 * m + 1))) s
  let devs := maskList failed (2 * pop)
  let s := s.setReg .HST_G_FAILED 0 0 (BitVec.ofNat 32 (listMask devs))
  let s := (s.putField MEM_IL_MASK 0 (listMask live)).putField MEM_IL_C 0 live.length
  each devs (fun d => State.fault 8 0 0x0804 d 0) s

end Sys2Proof.Machine
end

