-- ==== Sys2Proof/Machine/Time.lean ====
section
/-! DEFINITION. System time: time-of-day, slews and steps, alarms, timestamps and timed transmission (14_time). -/

namespace Sys2Proof.Machine

/-! ### Time-of-day (R355 to R357) -/

/-- ToD in units of 2^-32 ns. -/
def State.tod (s : State) : Nat := (s.ntu.sec * 1000000000 + s.ntu.ns) * 2 ^ 32 + s.ntu.frac

/-- ToD set from 2^-32 ns; the seconds are 48 bits. -/
def State.setTod (t : Nat) (s : State) : State :=
  s.withNtu fun n => { n with
    sec := t / 2 ^ 32 / 1000000000 % 2 ^ 48, ns := t / 2 ^ 32 % 1000000000, frac := t % 2 ^ 32 }

/-- NTU_INC. -/
def State.inc (s : State) : Nat := (s.reg64 .NTU_INC 0).toNat

/-- A value that NTU_INC may hold (R356). -/
def incOk (v : W64) : Bool := decide (0x13FAE147B ≤ v.toNat) && decide (v.toNat ≤ 0x14051EB85)

/-- The slew term of R357. -/
def slewTerm : Int := 0x51EB85

/-- What a running slew adds in one beat. -/
def slewNow (rest : Int) : Int := if rest.natAbs < slewTerm.natAbs then rest else if 0 < rest then slewTerm else -slewTerm

/-- A written NTU_INC is in force from here on. -/
def State.takeInc (s : State) : State :=
  match s.ntu.inc with
  | some v => (s.setReg64 .NTU_INC 0 v).withNtu fun n => { n with inc := none }
  | none => s

/-- ToD advances by NTU_INC, and by the term of a running slew; then a written NTU_INC takes effect (R355 to R357). -/
def State.advanceTod (s : State) : State :=
  let d := slewNow s.ntu.slew
  let s := s.setTod ((s.tod : Int) + s.inc + d).toNat
  let rest := s.ntu.slew - d
  ((s.withNtu fun n => { n with slew := rest }).putBit NTU_SERVO_STAT_SLEWING 0 (rest != 0)).takeInc

/-- ToD of the next beat, as far as it is known in this one. -/
def State.nextTod (s : State) : Nat := ((s.tod : Int) + s.inc + slewNow s.ntu.slew).toNat

/-- The LBC of a time in 2^-32 ns, converted in the present beat (R359). -/
def State.lbcOf (s : State) (t : Nat) : Nat := ((s.beat.lbc : Int) + ((t : Int) - s.tod) / s.inc).toNat

/-- A time given as seconds and nanoseconds, in 2^-32 ns. -/
def timeOf (sec ns : Nat) : Nat := (sec * 1000000000 + ns) * 2 ^ 32

/-- The vendor servo owns NTU_INC and ToD (R356). -/
def State.servoOwns (s : State) : Bool :=
  !(s.bitOf NTU_ROLE_SERVO_HOST 0) &&
  (s.fieldOf NTU_ROLE_ROLE 0 == 2 || (s.fieldOf NTU_ROLE_ROLE 0 == 1 && s.bitOf NTU_ROLE_SRC 0))

/-- A whole value written to NTU_INC: outside the range it is ignored, with the fault where firmware or an applet wrote it; to the
host it was refused (R356). -/
def State.writeInc (who : Nat) (v : W64) (s : State) : State :=
  if incOk v then s.withNtu fun n => { n with inc := some v } else if who = 0 then s else s.fault 11 0 0x0B02 (lo32 v).toNat 0

/-- The number under which a writer's LO halves are held (R41). -/
def writerKey : Writer → Nat
  | .host => 0
  | .hazel k => k.val + 1

/-- The LO half of a register that a writer wrote last and that is held for it (R41). -/
def State.heldOf (s : State) (who : Nat) (st : Stem) (i : Nat) : W32 := s.hst.heldLo.get (fun _ => 0) (who * 2 ^ 28 + regKey st i 0)

/-- A LO half held for its writer. -/
def State.holdLo (who : Nat) (st : Stem) (i : Nat) (v : W32) (s : State) : State :=
  s.withHst fun h => { h with heldLo := h.heldLo.set (fun _ => 0) (who * 2 ^ 28 + regKey st i 0) v }

/-- One half of NTU_INC written. -/
def State.writeIncWord (who : Nat) (high : Bool) (v : W32) (s : State) : State :=
  if high then s.writeInc who (join64 (s.heldOf who .NTU_INC 0) v) else s.holdLo who .NTU_INC 0 v

/-- NTU_INC_WRITE: a LO half is held for its writer, a HI half applies both at the next boundary; an 8-byte write
is a LO and a HI write in one (R41, R356). While the vendor servo owns the register, a write of the host has no effect (R356). -/
def execNtuIncWrite (who : Writer) (high : Bool) (value : Written) (s : State) : Host.Outcome State Fault Refusal :=
  let k := writerKey who
  done <| s.live fun s =>
    if k = 0 ∧ s.servoOwns then s
    else match value.wide with
    | some h => (s.writeIncWord k false value.value).writeIncWord k true h
    | none => s.writeIncWord k high value.value

/-- NTU_TOD_READ. -/
def execNtuTodRead (iss : Issuer) (s : State) : Host.Outcome State Fault Refusal :=
  done <| s.command iss 0x0B01 true [] fun s =>
    s.complete iss Status.ok
      [s.ntu.ns, s.ntu.sec % 2 ^ 32, s.ntu.frac / 2 ^ 16 * 2 ^ 16 + s.ntu.sec / 2 ^ 32 % 2 ^ 16, s.beat.lbc % 2 ^ 32,
       s.beat.lbc / 2 ^ 32 % 2 ^ 32, s.ntu.epoch + flag 8 (s.bitOf NTU_SERVO_STAT_SLEWING 0)]

/-- A step is pending: commanded or of the servo. -/
def State.stepPending (s : State) : Bool :=
  s.ntu.servoStep.isSome || s.hst.deferred.any (fun d => d.outcome.isNone && (match d.cmd with | .ntuTodStep .. => true | _ => false))

/-- NTU_TOD_STEP: accepted to apply at its beat (R357, R358). -/
def execNtuTodStep (iss : Issuer) (mode : Byte) (lbc value : W64) (nanos : W32) (s : State) : Host.Outcome State Fault Refusal :=
  let at_ := if lbc = 0 then s.beat.lbc + 1 else lbc.toNat
  let bad := decide (1 < mode.toNat) || (lbc != 0 && decide (lbc.toNat < s.beat.lbc + 800)) ||
    (mode == 1 && (decide (2 ^ 48 ≤ value.toNat) || decide (1000000000 ≤ nanos.toNat)))
  done <| s.command iss 0x0B02 (iss.mb != 16)
    [(bad, Status.badArgument), (s.servoOwns, Status.wrongState), (s.ntu.slew != 0 || s.stepPending, Status.busy)]
    (State.defer iss (.ntuTodStep iss mode lbc value nanos) at_ [])

/-! ### Time alarms (R361, R362) -/

/-- An alarm. -/
def State.alarm (s : State) (i : Nat) : Alarm := s.ntu.alarms.get (fun _ => { }) i
/-- An alarm changed. -/
def State.modAlarm (i : Nat) (f : Alarm → Alarm) (s : State) : State :=
  s.withNtu fun n => { n with alarms := n.alarms.set (fun _ => { }) i (f (s.alarm i)) }

/-- The pending NTU_ALM_ARM of alarm `i`. -/
def armOf (i : Nat) (d : Deferred) : Bool :=
  d.outcome.isNone && (match d.cmd with | .ntuAlmArm _ a .. => a.toNat == i | _ => false)

/-- The arming of an alarm ends with a status: its firings are reported (R361). -/
def State.alarmOver (i status how : Nat) (s : State) : State :=
  let a := s.alarm i
  (s.putField NTU_ALM_STAT_STATE i 0).modDeferred (armOf i) fun d => { d with
    outcome := some (status, [a.last % 2 ^ 32, a.last / 2 ^ 32, a.fired, how]) }

/-- The alarm is due in the present beat: armed by time with T before the next beat's ToD, or its beat has come. -/
def State.alarmDue (s : State) (i : Nat) : Bool :=
  match s.fieldOf NTU_ALM_STAT_STATE i with
  | 1 => decide ((s.alarm i).next * 2 ^ 32 < s.nextTod)
  | 2 => decide ((s.alarm i).next ≤ s.beat.lbc)
  | _ => false

/-- An alarm fires (R362). -/
def State.fireAlarm (i : Nat) (s : State) : State :=
  let b := s.beat.lbc
  let s := s.modAlarm i fun a => { a with fired := a.fired + 1, last := b }
  let a := s.alarm i
  let s := s.event (1072 + i)
  let s := ((s.happenAll 9 i (b + 1)).triggerAll 6 i s.now).adcTrigger 3 i (b + 1) true
  let s := match a.im with
    | some j => s.withSeq fun q => { q with imActs := q.imActs ++ [(j, 32, b, 8 * b)] }
    | none => s
  let s := match a.trig with | some t => s.withNtu fun n => { n with trigs := n.trigs ++ [t] } | none => s
  if a.period = 0 then s.alarmOver i Status.ok 0 else s.modAlarm i fun a => { a with next := a.next + a.period }

/-- The TRIG frames of the alarms that fired in the beat that ends are queued at its boundary (R362). -/
def State.sendAlarms (s : State) : State := each s.ntu.trigs (fun t => State.flood 2 t []) (s.withNtu fun n => { n with trigs := [] })

/-- ALARM_FIRE. -/
def execAlarmFire (alarm : Fin 32) (s : State) : Host.Outcome State Fault Refusal :=
  done <| s.live fun s => when (s.alarmDue alarm.val) (State.fireAlarm alarm.val) s

/-- NTU_ALM_ARM: the alarm is armed and its completion is deferred (R361). -/
def execNtuAlmArm (iss : Issuer) (alarm flags line number : Byte) (seconds : W64) (nanos period : W32) (s : State) :
    Host.Outcome State Fault Refusal :=
  let i := alarm.toNat
  let t := timeOf seconds.toNat nanos.toNat
  let anchor := flags.getLsbD 0
  let bad := decide (32 ≤ i) || decide (8 ≤ flags.toNat) || decide (64 ≤ line.toNat) || decide (2 ^ 48 ≤ seconds.toNat) ||
    decide (1000000000 ≤ nanos.toNat) || (period != 0 && decide (period.toNat < 1000)) || decide (t ≤ s.tod)
  done <| s.command iss 0x0B03 (iss.mb != 16)
    [(bad, Status.badArgument), (s.fieldOf NTU_ALM_STAT_STATE i != 0, Status.wrongState)]
    fun s =>
      let p := if anchor then (roundDiv (period.toNat * 2 ^ 32) s.inc).toNat else period.toNat
      let a : Alarm := { next := if anchor then s.lbcOf t else seconds.toNat * 1000000000 + nanos.toNat, period := p, im := if flags.getLsbD 1 then some line.toNat else none, trig := if flags.getLsbD 2 then some number.toNat else none }
      let s := (s.modAlarm i fun _ => a).putField NTU_ALM_STAT_STATE i (if anchor then 2 else 1)
      (s.putBit NTU_ALM_STAT_CANCELLED i false).defer iss (.ntuAlmArm iss alarm flags line number seconds nanos period) 0 []

/-- NTU_ALM_DISARM: an alarm due in this beat fires first. -/
def execNtuAlmDisarm (iss : Issuer) (alarms : W32) (s : State) : Host.Outcome State Fault Refusal :=
  done <| s.command iss 0x0B04 true [(alarms == 0, Status.badArgument)] fun s =>
    let l := maskList alarms 32
    let s := each (l.filter s.alarmDue) State.fireAlarm s
    let armed := l.filter (fun i => s.fieldOf NTU_ALM_STAT_STATE i != 0)
    (each armed (fun i => State.alarmOver i Status.ok 1) s).complete iss Status.ok [listMask armed]

/-! ### Timestamps (R363, R364) -/

/-- The timestamp of a crossing of lane `l` `f` fs after the start of the present beat, in 2^-16 ns (R363). -/
def State.stamp (s : State) (l : Nat) (tx : Bool) (f : Nat) : Int :=
  let t : Int := s.tod + f * s.inc / 1250000
  if tx then t / 65536 + (s.reg .NTU_DLY_TX l).toNat else t / 65536 - (s.reg .NTU_DLY_RX l).toNat

/-- The transmit timestamp of an Ethernet frame, which meets the medium at a time that the model leaves free (log entry 36). -/
def State.freeStamp (s : State) (p : Nat) : Int × State :=
  let d := s.draw
  (s.stamp (32 + p) true (d.1.toNat % 1250000), d.2)

/-- The first 12 bytes of a timestamp record (R364). -/
def stampBytes (t : Int) : List Byte :=
  let t := t.toNat
  leBytes 6 (t / 65536 / 1000000000) ++ leBytes 2 (t % 65536) ++ leBytes 4 (t / 65536 % 1000000000)

/-- The time that 12 bytes of a record spell, in 2^-16 ns. -/
def stampOf (l : List Byte) : Int := (leAt l 0 6 * 1000000000 + leAt l 8 4) * 65536 + leAt l 6 2

/-- The 16-byte record of a timestamp (R364). -/
def State.stampRecord (s : State) (p : Nat) (late : Bool) (t : Int) : List Byte :=
  let deg := decide (p < 8) && s.bitOf KLK_PORT_STAT_DEGRADED p
  stampBytes t ++ [BitVec.ofNat 8 s.ntu.epoch,
    BitVec.ofNat 8 (flag 0 deg + flag 1 late + flag 2 (s.bitOf NTU_SERVO_STAT_SLEWING 0)), 0, 0]

/-- A record as the four result words of a completion. -/
def recordWords (l : List Byte) : List Nat := (List.range 4).map (fun i => leAt l (4 * i) 4)

/-! ### Timed transmission (R365) -/

/-- The timed frame that a deferred command holds: port, queue and launch time in ns; none once it has been launched or
returned. -/
def Deferred.timed (d : Deferred) : Option (Nat × Nat × Nat) :=
  if d.started || d.outcome.isSome then none
  else match d.cmd with
    | .ntuTxTimed _ _ _ port queue sec ns => some (port.toNat, queue.toNat, sec.toNat * 1000000000 + ns.toNat)
    | _ => none

/-- The frames queued at a port and queue, as their launch times in ns. -/
def State.timedQueue (s : State) (p q : Nat) : List Nat :=
  s.hst.deferred.filterMap (fun d => match d.timed with
    | some (a, b, t) => if a = p ∧ b = q then some t else none
    | none => none)

/-- The frames that `hit` picks by port and launch time are returned with a status. -/
def State.returnTimed (hit : Nat → Nat → Bool) (status : Nat) (s : State) : State :=
  s.withHst fun h => { h with deferred := h.deferred.map (fun d => match d.timed with
    | some (p, _, t) => if hit p t then { d with outcome := some (status, []) } else d
    | none => d) }

/-- A link carries timed frames: a KelorLink port ACTIVE, an Ethernet link up. -/
def State.timedLink (s : State) (p : Nat) : Bool := if p < 8 then s.portActive p else s.ntu.eth.getD (p - 8) false

/-- NTU_TX_TIMED: the frame is taken and queued for its launch (R365). -/
def execNtuTxTimed (iss : Issuer) (source : W64) (length : W16) (port queue : Byte) (seconds : W64) (nanos : W32) (s : State) :
    Host.Outcome State Fault Refusal :=
  let p := port.toNat
  let n := length.toNat
  let a := source.toNat
  let t := seconds.toNat * 1000000000 + nanos.toNat
  let place := a % 8 != 0 || !(inStore a n)
  let img := if place then [] else s.mem a n
  let type := leAt img 0 1 % 16
  let len := leAt img 0 2 / 16 % 64
  let shape := if p < 8 then n < 8 || !(type == 5 || type == 6) || decide (32 < len) || n != 8 + 8 * len
    else n < 64 || decide (1518 < n)
  let l := s.timedQueue p queue.toNat
  let order := l.any (fun x => decide (t < x))
  let far := decide (s.tod + timeOf 1 0 < t * 2 ^ 32)
  let bad := place || decide (9 < p) || decide (7 < queue.toNat) || decide (2 ^ 48 ≤ seconds.toNat) ||
    decide (1000000000 ≤ nanos.toNat) || shape || order || far
  let late := if t * 2 ^ 32 < s.tod then 1 else 0
  done <| s.command iss 0x0B05 (iss.mb != 16)
    [(bad, Status.badArgument), (decide (64 ≤ l.length), Status.noResource), (!(s.timedLink p), Status.wrongState)]
    (State.defer iss (.ntuTxTimed iss source length port queue seconds nanos) 0 (late :: img.map BitVec.toNat))

/-- The frame that header and payload bytes spell (R333). -/
def frameOf (l : List Byte) : Frame :=
  let h := leAt l 0 8
  ⟨BitVec.ofNat 12 (h / 2 ^ 52), BitVec.ofNat 6 (h / 2 ^ 46), BitVec.ofNat 11 (h / 2 ^ 35), BitVec.ofNat 11 (h / 2 ^ 24),
   BitVec.ofNat 12 (h / 2 ^ 10), h / 16 % 64, h % 16, l.drop 8, true⟩

/-- The frame that a timed command took, and whether it is LATE. -/
def Deferred.timedFrame (d : Deferred) : Frame × Bool :=
  (frameOf ((d.data.drop 1).map (BitVec.ofNat 8)), d.data.head? == some 1)

/-- A timed command whose frame goes on: at an Ethernet port it is sent with its timestamp, at a KelorLink port it heads
the untimed frames of its VC (R365). -/
def State.launch (p : Nat) (i : Nat) (d : Deferred) (s : State) : State :=
  let (f, late) := d.timedFrame
  if p < 8 then
    let n := s.ntu.launches
    let s := s.withNtu fun x => { x with launches := n + 1 }
    let s := s.withHst fun h => { h with deferred := h.deferred.modify i (fun d => { d with started := true, due := n }) }
    let vc := if f.type = 5 then 2 else 3
    let x : Sent := { vc := vc, frame := f, origin := 8, no := 0, timed := some n }
    s.modPort p fun q => { q with
      queue := q.queue.takeWhile (fun y => y.timed.isSome) ++ [x] ++ q.queue.dropWhile (fun y => y.timed.isSome) }
  else
    let r := s.freeStamp p
    let words := recordWords (r.2.stampRecord p late r.1)
    r.2.withHst fun h => { h with deferred := h.deferred.modify i (fun d => { d with
      started := true, outcome := some (Status.ok, words) }) }

/-- A frame queued at a port, in any of its queues, has an earlier launch time: frames leave in launch-time order (R358, R365). -/
def State.earlierTimed (s : State) (p t : Nat) : Bool :=
  s.hst.deferred.any (fun d => match d.timed with | some (a, _, u) => a == p && decide (u < t) | none => false)

/-- TIMED_FRAME_LAUNCH: the oldest frame of a timed queue leaves it once the next beat's ToD exceeds its launch time; in FAULT_STOP
none goes to KelorLink (R440). -/
def execTimedFrameLaunch (port : Fin 10) (queue : Fin 8) (s : State) : Host.Outcome State Fault Refusal :=
  done <| s.live fun s =>
    let mine (d : Deferred) : Bool := match d.timed with | some (p, q, _) => p == port.val && q == queue.val | none => false
    match s.hst.deferred.findIdx? mine with
    | some i =>
      match s.hst.deferred[i]? with
      | some d =>
        match d.timed with
        | some (_, _, t) => if t * 2 ^ 32 < s.nextTod && !(s.earlierTimed port.val t) && !(s.faultStop && decide (port.val < 8)) then s.launch port.val i d
          else s
        | none => s
      | none => s
    | none => s

/-- ETHERNET_LINK_DOWN: timed frames of the port are returned (R365). -/
def execEthernetLinkDown (eth : Fin 2) (s : State) : Host.Outcome State Fault Refusal :=
  done <| s.live fun s =>
    (s.withNtu fun n => { n with eth := n.eth.set eth.val false }).returnTimed (fun p _ => p == 8 + eth.val) Status.wrongState


/-! ### Steps (R357, R358) -/

/-- The ARMED AT_TOD burst starts are cancelled: their threads return to IDLE (R158, R358). Aborts and burst starts that are due at
the boundary come first, and an abort that Husk has decided in the same beat stands (R23, R141). -/
def State.cancelTodStarts (s : State) : State :=
  let s := (s.takeAborts (List.range 32)).startAll
  let armed (n : Nat) : Bool := (s.thr n).st == 1 && !((s.thr n).abortsBy (s.beat.lbc + 1))
  let hit (d : Deferred) : Bool := d.outcome.isNone && (match d.cmd with | .seqBurstStart _ _ _ mode .. => mode == 2 | _ => false)
  let sites := (s.hst.deferred.filter hit).flatMap (fun d => maskList (BitVec.ofNat 32 (d.data.getD 0 0)) 32)
  let s := each (sites.filter armed) (fun n => State.endThread n 0) s
  s.withHst fun h => { h with deferred := h.deferred.map (fun d => if hit d then { d with outcome := some (Status.timeStepped, []) } else d) }

/-- A correction of ToD by `delta`, in 2^-32 ns: slewed up to 1 us, else stepped (R357, R358). -/
def State.correctTod (delta : Int) (servo : Bool) (s : State) : State :=
  if delta.natAbs ≤ 1000 * 2 ^ 32 then
    (s.withNtu fun n => { n with slew := delta }).putBit NTU_SERVO_STAT_SLEWING 0 (delta != 0)
  else
    let s := s.setTod ((s.tod : Int) + delta).toNat
    let e := (s.ntu.epoch + 1) % 256
    let s := (s.withNtu fun n => { n with epoch := e }).putField NTU_SERVO_STAT_EPOCH 0 e
    let s := each ((List.range 32).filter (fun i => s.fieldOf NTU_ALM_STAT_STATE i == 1)) (fun i s =>
      (s.putBit NTU_ALM_STAT_CANCELLED i true).alarmOver i Status.timeStepped 1) s
    let s := s.cancelTodStarts
    let limit := s.tod + timeOf 1 0
    let s := if delta < 0 then s.returnTimed (fun _ t => decide (limit < t * 2 ^ 32)) Status.timeStepped else s
    s.fault 11 0 0x0B04 (flag 8 servo + e) 0

/-- The requested correction of a NTU_TOD_STEP at its application beat. -/
def State.stepDelta (s : State) (mode : Byte) (value : W64) (nanos : W32) : Int :=
  if mode = 0 then value.toInt * 65536 else (timeOf value.toNat nanos.toNat : Int) - s.tod

/-- TOD_STEP_APPLY: at the boundary that begins its application beat a requested step or slew takes place; a step of the
vendor servo likewise (R357, R358, R368). -/
def execTodStepApply (s : State) : Host.Outcome State Fault Refusal :=
  done <| s.live fun s =>
    let mine (d : Deferred) : Bool := d.outcome.isNone && decide (d.due ≤ s.beat.lbc) &&
      (match d.cmd with | .ntuTodStep .. => true | _ => false)
    match s.hst.deferred.find? mine with
    | some d =>
      match d.cmd with
      | .ntuTodStep _ mode _ value nanos =>
        let delta := s.stepDelta mode value nanos
        let how := if delta.natAbs ≤ 1000 * 2 ^ 32 then 1 else 0
        let s := s.correctTod delta false
        s.modDeferred mine fun d => { d with outcome := some (Status.ok, [d.due % 2 ^ 32, d.due / 2 ^ 32, how, s.ntu.epoch]) }
      | _ => s
    | none =>
      match s.ntu.servoStep with
      | some o => (s.withNtu fun n => { n with servoStep := none }).correctTod (o * 65536) true
      | none => s

end Sys2Proof.Machine
end

