-- ==== Sys2Proof/Machine/Klk.lean ====
section
/-! DEFINITION. KelorLink ports: training, retry, credits, lane loss, routing, and the lane test (13_kelorlink). -/

namespace Sys2Proof.Machine

/-- The state of a port set, with the beat it was entered. -/
def State.setPort (p st : Nat) (s : State) : State :=
  let b := s.beat.lbc
  (s.modPort p fun q => { q with since := b }).putField KLK_PORT_STAT_STATE p st

/-- The 64-byte buffers that a frame takes (R340). -/
def frameBuffers (f : Frame) : Nat := (12 + 8 * f.len + 63) / 64
/-- The virtual channel of a type (R334). -/
def vcOf (type : Nat) : Nat := if type ≤ 3 then 0 else type - 3
/-- One of four counts changed. -/
def modAt (l : List Nat) (i : Nat) (f : Nat → Nat) : List Nat := l.set i (f (l.getD i 0))

/-- The receive buffers of a frame are freed, and their credits returned (R336, R340). -/
def State.freeBuffers (p vc n : Nat) (s : State) : State :=
  s.modPort p fun q => { q with held := modAt q.held vc (· - n), ret := modAt q.ret vc (fun r => (r + n) % 4096) }

/-- A copy of a forwarded frame has left a port: with the last of its copies the receive buffers it held are free
(R340). -/
def State.copyLeft (x : Sent) (s : State) : State :=
  let more := (List.range 8).any (fun p => (s.port p).queue.any (fun y => y.origin == x.origin && y.no == x.no))
  if x.origin < 8 && !more then s.freeBuffers x.origin x.vc (frameBuffers x.frame) else s

/-- The deferred NTU_TX_TIMED whose frame was launched as number `n`. -/
def Deferred.launched (n : Nat) (d : Deferred) : Bool :=
  d.started && d.outcome.isNone && d.due == n && (match d.cmd with | .ntuTxTimed .. => true | _ => false)

/-- The command of a timed frame ends with a status. -/
def State.timedOver (n status : Nat) (res : List Nat) (s : State) : State :=
  s.modDeferred (Deferred.launched n) fun d => { d with outcome := some (status, res) }

/-- A frame has left a port's queue unsent: its command is answered, and with the last copy the buffers it held are freed. -/
def State.unsent (x : Sent) (s : State) : State :=
  (match x.timed with | some n => s.timedOver n Status.wrongState [] | none => s).copyLeft x

/-- Frames leave a port's queues unsent. -/
def State.discardQueued (p : Nat) (hit : Sent → Bool) (s : State) : State :=
  let gone := (s.port p).queue.filter hit
  each gone State.unsent (s.modPort p fun q => { q with queue := q.queue.filter (fun x => !hit x) })

/-- The routed frames that wait for a port are dropped; what else waits there is discarded (R346, R349). -/
def State.dropQueue (p : Nat) (s : State) : State :=
  let n := ((s.port p).queue.filter (fun x => decide (2 ≤ x.vc))).length
  each (List.range n) (fun _ => State.dropFrame p) (s.discardQueued p (fun _ => true))

/-- Time from upstream is lost (R369). -/
def State.upLost (s : State) : State :=
  if s.fieldOf NTU_ROLE_ROLE 0 = 2 ∧ !(s.bitOf NTU_SERVO_STAT_UP_LOST 0) then
    ((s.putBit NTU_SERVO_STAT_UP_LOST 0 true).putBit NTU_SERVO_STAT_LOCKED 0 false).fault 11 1 0x0B03 (s.fieldOf NTU_ROLE_UP_PORT 0) 0
  else s

/-- The link-delay measurement of a port. -/
def State.delay (s : State) (p : Nat) : Delay := s.ntu.delays.get (fun _ => { }) p
/-- The measurement changed. -/
def State.modDelay (p : Nat) (f : Delay → Delay) (s : State) : State :=
  s.withNtu fun n => { n with delays := n.delays.set (fun _ => { }) p (f (s.delay p)) }

/-- A port leaves ACTIVE: its event, its timed frames returned, its flooded and TIME frames discarded (R346, R353, R365,
R369). -/
def State.leaveActive (p : Nat) (s : State) : State :=
  if s.portState p ≠ 6 then s
  else
    let s := (s.event (1008 + 8 * p + 1)).returnTimed (fun q _ => q == p) Status.wrongState
    let s := if (s.port p).queue.any (fun x => x.frame.type == 4 && x.frame.aux.toNat % 16 == 1) then
        s.modDelay p fun d => { d with asked := false, t1 := none } else s
    let s := s.discardQueued p (fun x => decide (x.vc < 2) || x.timed.isSome)
    if s.fieldOf NTU_ROLE_UP_PORT 0 = p then s.upLost else s

/-- The port has no lanes in use. -/
def State.noLanes (p : Nat) (s : State) : State := (s.putField KLK_PORT_STAT_LANES p 0).putField KLK_PORT_STAT_WIDTH p 0

/-- The port goes back to the start of training: ALIGN after a restart, DETECT otherwise (R344). -/
def State.retrain (p st : Nat) (fresh : Bool) (s : State) : State :=
  let s := (s.leaveActive p).modPort p fun q => { q with fresh := q.fresh || fresh, fast := false, replay := [] }
  (s.noLanes p).setPort p st

/-- An attempt fails: DETECT, or NO_PARTNER at the third in a row (R344). -/
def State.failAttempt (p : Nat) (s : State) : State :=
  let n := s.fieldOf KLK_PORT_STAT_ATTEMPTS p + 1
  let s := (s.retrain p 1 false).putField KLK_PORT_STAT_ATTEMPTS p n
  if n < 3 then s
  else (((s.setPort p 7).dropQueue p).event (1008 + 8 * p + 2)).fault 9 0 0x0901 p 0

/-- H(w) of R351. -/
def hopBeats (width : Nat) : Nat := match width with | 3 => 64 | 2 => 80 | 1 => 120 | _ => 0

/-- The measured one-way delay in 2^-16 ns: the mean of the last exchanges (R368). -/
def State.linkDelay (s : State) (p : Nat) : Int :=
  let l := (s.delay p).last
  if l.isEmpty then 0 else l.foldl (· + ·) 0 / l.length

/-- KLK_HOP: H(w) + D and the delay (R351). -/
def State.updateHop (p : Nat) (s : State) : State :=
  let d := (s.linkDelay p).toNat
  let hop := hopBeats (s.fieldOf KLK_PORT_STAT_WIDTH p) + (d * 4 + 327679) / 327680
  (s.putField KLK_HOP_HOP_BEATS p (min hop 255)).putField KLK_HOP_DELAY_PS p (min (d * 1000 / 65536) (2 ^ 24 - 1))

/-- The lanes in use and the width that they make. -/
def State.putLanes (p lanes : Nat) (s : State) : State :=
  let n := ((List.range 4).filter (fun i => lanes.testBit i)).length
  let w := if n = 4 then 3 else if n = 2 then 2 else if n = 0 then 0 else 1
  ((s.putField KLK_PORT_STAT_LANES p lanes).putField KLK_PORT_STAT_WIDTH p w).modPort p fun q => { q with set := lanes }

/-- The lanes that training has agreed: the word stream begins anew on them, and so does a version 1 receiver, which waits for a marker
on every lane (R343, R344). -/
def State.setLanes (p lanes : Nat) (s : State) : State :=
  ((s.putLanes p lanes).modPort p fun q => { q with
    out := { scr := q.out.scr }, rx := { }, missed := [0, 0, 0, 0] }).updateHop p

/-- A width change leaves the lanes `left` (R343, R347). The word stream begins anew on them, its scramblers running on from the bits sent;
what the lanes left have received stays theirs, their locks, descramblers and missed commas with it, and a version 1 receiver waits
for a marker of the new width on each. -/
def State.keepLanes (p left : Nat) (s : State) : State :=
  let sent := s.sentScramblers p
  let old := s.fieldOf KLK_PORT_STAT_LANES p
  ((s.putLanes p left).modPort p fun q => { q with
    out := { scr := sent }
    rx := { lanes := q.rx.lanes.filter (fun x => left.testBit x.1) }
    missed := (List.range 4).map (fun i => if old.testBit i then q.missed.getD i 0 else 0) }).updateHop p

/-! ### Training (R344, R345) -/

/-- SIGNAL_DETECT: an attempt begins at 10.3125 Gb/s. -/
def execSignalDetect (port : Fin 8) (lanes : BitVec 4) (s : State) : Host.Outcome State Fault Refusal :=
  done <| s.live fun s =>
    let p := port.val
    if s.portState p ≠ 1 ∨ lanes = 0 then s
    else (s.modPort p fun q => { q with fast := false, set := lanes.toNat }).setPort p 2

/-- The lanes that a set of locked lanes lets a port use: all four, else .0 and .1, else .2 and .3, else one (R344). -/
def laneSet (locked : BitVec 4) : Nat :=
  if locked = 15 then 15
  else if locked.getLsbD 0 && locked.getLsbD 1 then 3
  else if locked.getLsbD 2 && locked.getLsbD 3 then 12
  else match (List.range 4).find? (fun i => locked.getLsbD i) with | some i => 2 ^ i | none => 0

/-- LANE_LOCK. -/
def execLaneLock (port : Fin 8) (lanes : BitVec 4) (s : State) : Host.Outcome State Fault Refusal :=
  done <| s.live fun s =>
    let p := port.val
    if s.portState p ≠ 2 ∨ lanes = 0 then s
    else (s.modPort p fun q => { q with set := laneSet lanes }).setPort p 3

/-- EQ_AGREED. -/
def execEqAgreed (port : Fin 8) (s : State) : Host.Outcome State Fault Refusal :=
  done <| s.live fun s => if s.portState port.val = 3 then s.setPort port.val 4 else s

/-- NEGOTIATE_EXCHANGE: the module ID in force on the port is taken over; the switch to 28.125 Gb/s where both sides offer
version 2, else the final checks (R11, R344, R354). -/
def execNegotiateExchange (port : Fin 8) (partner : Partner) (s : State) : Host.Outcome State Fault Refusal :=
  done <| s.live fun s =>
    let p := port.val
    let q := s.port p
    let both := partner.offersV2 && !partner.v1Only && !(s.bitOf KLK_PORT_CFG_V1_ONLY p)
    let same := partner.idValid && s.bitOf KLK_MOD_ID_VALID 0 && partner.id.toNat == s.fieldOf KLK_MOD_ID_ID 0
    let lanes := laneSet (BitVec.ofNat 4 q.set &&& partner.lanes)
    if s.portState p ≠ 4 then s
    else
      let s := s.modPort p fun q => { q with id := s.reg .KLK_MOD_ID 0 }
      if same then (s.fault 9 1 0x0907 (partner.id.toNat * 65536 + p) 0).failAttempt p
      else if both && !q.fast then (s.modPort p fun q => { q with fast := true }).setPort p 2
      else if lanes = 0 then s.failAttempt p
      else
        let s := (s.putBit KLK_PORT_STAT_VER p q.fast).putField KLK_PORT_STAT_PARTNER p partner.id.toNat
        (s.setLanes p lanes).setPort p 5

/-- The FABRIC blocks of a port's receive buffers and of its 64 KiB retry buffer (R205, R340). -/
def fabricBlocks (total : List Nat) : Nat := (total.foldl (· + ·) 0 * 64 + 2047) / 2048 + 32

/-- The advertised totals that KLK_VC_CFG holds, VC0 first. -/
def State.vcTotals (s : State) (p : Nat) : List Nat :=
  [s.fieldOf KLK_VC_CFG_VC0 p, s.fieldOf KLK_VC_CFG_VC1 p, s.fieldOf KLK_VC_CFG_VC2 p, s.fieldOf KLK_VC_CFG_VC3 p]

/-- A retry buffer is discarded: its frames are counted and the fault is raised where there were any (R344, R345). -/
def State.discardRetry (p : Nat) (s : State) : State :=
  let n := (s.port p).retry.length
  let s := s.modPort p fun q => { q with retry := [], replay := [], replays := 0, naked := none, injected := false }
  if n = 0 then s else (s.countUp KLK_DROP_COUNT p n).fault 9 0 0x0905 (min n 65535 * 65536 + p) 0

/-- A fresh initialisation (R345): the session, the sequence numbers, the counters and the credits. -/
def State.freshStart (p : Nat) (partner : Nat × Nat) (credits : W32) (s : State) : State :=
  let s := (s.discardRetry p).modDelay p fun d => { d with asked := false, t1 := none }
  let session := (s.session p + 1) % 65536
  let total := s.vcTotals p
  let old := (s.port p).blocks
  let r := if old.length = fabricBlocks total then (old, s)
    else let s := s.freeBlockList 4 old; s.takeBlocks 4 (fabricBlocks total)
  r.2.modPort p fun q => { q with
    blocks := r.1, session := some session, agreed := some (partner.1, (partner.2 + 1) % 65536, session), fresh := false, total := total, seq := 0, ack := 4095
    acked := 4095, nak := false, refuse := false, refusedAt := none, lost := false, ret := [0, 0, 0, 0]
    retSeen := [0, 0, 0, 0], inbox := [], held := [0, 0, 0, 0]
    credits := (List.range 4).map (fun v => bits credits (8 * v + 7) (8 * v)) }

/-- The port is ACTIVE: attempts cleared, its event, what is unacknowledged to be replayed, and the fault of a port trained
below x4. -/
def State.enterActive (p : Nat) (resumed : Bool) (s : State) : State :=
  let b := s.beat.lbc
  let s := s.modPort p fun q => { q with
    replay := q.retry, ackedAt := b, fresh := false, missed := [0, 0, 0, 0], errors := [], changeAt := none }
  let s := ((s.putField KLK_PORT_STAT_ATTEMPTS p 0).putBit KLK_PORT_STAT_RESUMED p resumed).setPort p 6
  let s := (s.event (1008 + 8 * p)).updateHop p
  let lanes := s.fieldOf KLK_PORT_STAT_LANES p
  if lanes = 15 then s else s.fault 9 0 0x0902 ((15 - lanes) * 16 + p) 0

/-- Both sides present what they agreed last: the partner is the one of this port, with its session number, and it names this module
and this port's session number (R345). -/
def State.mayResume (s : State) (p : Nat) (partnerId : BitVec 11) (x : Presented) : Bool :=
  let q := s.port p
  q.agreed == some (partnerId.toNat, x.own.toNat, s.session p) && !q.fresh &&
  x.agreed == some (s.portId p, BitVec.ofNat 16 (s.session p))

/-- CREDIT_INIT: a resume where both sides present the partner and the session agreed last, else a fresh initialisation once every
receive buffer is free (R345; that the numbers presented are those before it increments them, DEDUCED, log entry 93). -/
def execCreditInit (port : Fin 8) (partnerId : BitVec 11) (partnerSession : Presented) (partnerCredits : W32) (s : State) :
    Host.Outcome State Fault Refusal :=
  done <| s.live fun s =>
    let p := port.val
    let q := s.port p
    if s.portState p ≠ 5 then s
    else if s.mayResume p partnerId partnerSession then s.enterActive p true
    else if q.held.any (· != 0) then s.discardRetry p
    else (s.freshStart p (partnerId.toNat, partnerSession.own.toNat) partnerCredits).enterActive p false

/-- TRAINING_TIMEOUT: ALIGN 2 ms, EQ 50 ms, NEGOTIATE 1 ms, CREDIT_INIT 10 ms. -/
def execTrainingTimeout (port : Fin 8) (s : State) : Host.Outcome State Fault Refusal :=
  done <| s.live fun s =>
    let p := port.val
    let limit := match s.portState p with
      | 2 => some 1600000
      | 3 => some 40000000
      | 4 => some 800000
      | 5 => some 8000000
      | _ => none
    match limit with
    | some t => if (s.port p).since + t ≤ s.beat.lbc then s.failAttempt p else s
    | none => s

/-- LOSS_OF_SIGNAL: before ACTIVE on any lane of the set in use, in ACTIVE on every active lane. -/
def execLossOfSignal (port : Fin 8) (lanes : BitVec 4) (s : State) : Host.Outcome State Fault Refusal :=
  done <| s.live fun s =>
    let p := port.val
    let st := s.portState p
    let set := (s.port p).set
    let hit := lanes.toNat &&& set
    if (2 ≤ st ∧ st ≤ 5 ∧ hit ≠ 0) ∨ (st = 6 ∧ hit = set) then s.failAttempt p else s

/-- NO_PARTNER_RETRY: after 1 s, where AUTO_RETRY is set. -/
def execNoPartnerRetry (port : Fin 8) (s : State) : Host.Outcome State Fault Refusal :=
  done <| s.live fun s =>
    let p := port.val
    if s.portState p = 7 ∧ s.bitOf KLK_PORT_CFG_AUTO_RETRY p ∧ (s.port p).since + 800000000 ≤ s.beat.lbc then
      (s.putField KLK_PORT_STAT_ATTEMPTS p 0).setPort p 1
    else s

/-- A port is disabled: as in a fresh start its retry buffer is discarded, what waits is dropped, and its blocks are
freed (R344). -/
def State.disablePort (p : Nat) (s : State) : State :=
  let s := (s.leaveActive p).discardRetry p
  let s := ((s.noLanes p).setPort p 0).dropQueue p
  let s := s.freeBlockList 4 (s.port p).blocks
  s.modPort p fun q => { q with blocks := [], agreed := none, fast := false }

/-- KLK_PORT_CTL. -/
def execKlkPortCtl (iss : Issuer) (ports op : Byte) (s : State) : Host.Outcome State Fault Refusal :=
  let l := maskList ports 8
  done <| s.command iss 0x0901 true
    [(ports == 0 || decide (2 < op.toNat), Status.badArgument), (l.any (fun p => s.portState p == 0), Status.wrongState)]
    fun s =>
      let act := if op = 2 then l.filter (fun p => s.portState p == 7) else l
      let s := each act (fun p s =>
        if s.portState p = 7 then
          let s := (s.putField KLK_PORT_STAT_ATTEMPTS p 0).setPort p 1
          if op = 1 then s.modPort p fun q => { q with fresh := true } else s
        else s.retrain p 2 (op == 1)) s
      s.complete iss Status.ok [listMask act]

/-! ### Sending (R338 to R341) -/

/-- The port retrains by resume after the replay limit (R338). -/
def State.replayLimit (p : Nat) (s : State) : State :=
  let q := s.port p
  let s := (s.event (1008 + 8 * p + 6)).raise ⟨9, 1, 0x0904, q.acked * 65536 + p, 0, q.injected, none⟩
  (s.modPort p fun q => { q with replays := 0 }).retrain p 2 false

/-- A replay from ACK_SEQ + 1, counted; after 16 without an advance the limit is reached (R338). -/
def State.replay (p : Nat) (s : State) : State :=
  if 16 ≤ (s.port p).replays then s.replayLimit p
  else
    let b := s.beat.lbc
    (s.countUp KLK_REPLAY_COUNT p 1).modPort p fun q => { q with replays := q.replays + 1, replay := q.retry, ackedAt := b }

/-- REPLAY_TIMEOUT: ACK_SEQ has not advanced for 2,048 beats. -/
def execReplayTimeout (port : Fin 8) (s : State) : Host.Outcome State Fault Refusal :=
  done <| s.live fun s =>
    let p := port.val
    let q := s.port p
    if s.portState p = 6 ∧ !q.retry.isEmpty ∧ q.ackedAt + 2048 ≤ s.beat.lbc then s.replay p else s

/-- REFUSE_REPLAY: 64 beats after a REFUSE a version 1 sender replays. -/
def execRefuseReplay (port : Fin 8) (s : State) : Host.Outcome State Fault Refusal :=
  done <| s.live fun s =>
    let p := port.val
    match (s.port p).refusedAt with
    | some b =>
      if s.portState p = 6 ∧ b + 64 ≤ s.beat.lbc then s.modPort p fun q => { q with refusedAt := none, replay := q.retry } else s
    | none => s

/-- The bytes of a frame on the line (R333). -/
def frameBytes (f : Frame) : Nat := 12 + 8 * f.len

/-- A TIME frame's own transmit timestamp `t` and the epoch of its beat, written at each transmission: SYNC and DREQ at offset 0,
DRESP at 12; t1 of a DREQ is noted (R364, R367, R368). -/
def State.stampFrame (p : Nat) (t : Int) (f : Frame) (s : State) : Frame × State :=
  let kind := f.aux.toNat % 16
  let b := stampBytes t
  if f.type ≠ 4 then (f, s)
  else
    let s := if kind = 1 then s.modDelay p fun d => { d with t1 := some t } else s
    ({ f with
      aux := BitVec.ofNat 12 (kind + s.ntu.epoch * 16)
      payload := if kind = 2 then f.payload.take 12 ++ b else b ++ f.payload.drop 12 }, s)

/-- A CRC inversion asked of this port is used up on the frame now sent (R445). -/
def State.injectFrame (p : Nat) (s : State) : State :=
  if s.injected 5 p then s.useInjection.modPort p fun q => { q with injected := true } else s

/-- In FAULT_STOP a module originates no frame but NOTICE, and goes on forwarding (R440); its own frames that are
queued wait (DEDUCED, log entry 107). -/
def State.mayGo (s : State) (x : Sent) : Bool := !s.faultStop || decide (x.origin < 8) || x.frame.type == 3

/-- The frame that goes next: the first VC with a frame queued and, on version 2, credits for it (R339). -/
def State.nextFrame (s : State) (p : Nat) : Option Sent :=
  let q := s.port p
  (List.range 4).findSome? (fun v =>
    match q.queue.find? (fun x => x.vc == v && s.mayGo x) with
    | some x => if !(s.portV2 p) || decide (frameBuffers x.frame ≤ q.credits.getD v 0) then some x else none
    | none => none)

/-- The retry buffer has room for a frame (R338). -/
def Port.room (q : Port) (f : Frame) : Bool :=
  decide (q.retry.length < 2047) && decide (q.retry.foldl (fun a x => a + frameBytes x.frame) 0 + frameBytes f ≤ 65536)

/-- A frame joins the word stream of a port, its CRC inverted where an injection asks for it (R333, R445). -/
def State.sendFrame (p : Nat) (f : Frame) (s : State) : State :=
  (s.putWords p (frameWords { f with crcOk := !(s.injected 5 p) })).injectFrame p

/-- A replayed frame goes, with a fresh transmit timestamp (R338, R367). -/
def State.transmitAgain (p ofs : Nat) (x : Sent) (rest : List Sent) (s : State) : State :=
  let s := s.makeRoom p (frameBytes x.frame / 4)
  let (f, s) := s.stampFrame p (s.stamp (s.sendLane p) true ofs) x.frame
  let y := { x with frame := f }
  (s.modPort p fun q => { q with
    replay := rest, retry := q.retry.map (fun z => if z.frame.seq = x.frame.seq then y else z) }).sendFrame p f

/-- A queued frame goes for the first time: numbered, with its transmit timestamp and, if it is this module's own, the module ID
in force on the port; it enters the retry buffer, its credits are deducted, and a timed frame's command ends (R337 to R340, R363
to R367). -/
def State.transmitNew (p ofs : Nat) (x : Sent) (s : State) : State :=
  let s := s.makeRoom p (frameBytes x.frame / 4)
  let q := s.port p
  let own := if 8 ≤ x.origin ∧ x.timed.isNone then s.portId p else x.frame.src
  let t := s.stamp (s.sendLane p) true ofs
  let (f, s) := s.stampFrame p t { x.frame with seq := BitVec.ofNat 12 q.seq, src := own }
  let b := s.beat.lbc
  let v2 := s.portV2 p
  let s := s.modPort p fun q => { q with
    queue := q.queue.erase x
    retry := q.retry ++ [{ x with frame := f }]
    seq := (q.seq + 1) % 4096
    ackedAt := if q.retry.isEmpty then b else q.ackedAt
    credits := if v2 then modAt q.credits x.vc (· - frameBuffers f) else q.credits }
  let s := match x.timed with
    | some n =>
      let late := s.hst.deferred.any (fun d => d.launched n && d.timedFrame.2)
      s.timedOver n Status.ok (recordWords (s.stampRecord p late t))
    | none => s
  (s.copyLeft x).sendFrame p f

/-- A frame is dropped as it comes to be sent (R349); the command of a timed one ends with WRONG_STATE (DEDUCED, log entry 108). -/
def State.dropSent (p : Nat) (x : Sent) (s : State) : State :=
  ((s.modPort p fun q => { q with queue := q.queue.erase x }).unsent x).dropFrame p

/-- FRAME_TRANSMIT: at a frame boundary a replayed frame or the next queued one is sent, else an IDLE word (R332, R338 to R340).
Without a valid module ID a frame of another virtual channel than TIME's is dropped (R344, R349). -/
def execFrameTransmit (crossing : Crossing) (s : State) : Host.Outcome State Fault Refusal :=
  done <| s.live fun s =>
    let p := crossing.port.val
    let ofs := crossing.ofs
    let q := s.port p
    if s.portState p ≠ 6 then s
    else match q.replay with
      | x :: r => s.transmitAgain p ofs x r
      | [] =>
        match s.nextFrame p with
        | some x =>
          if !(s.portValid p) && x.vc != 1 then (s.dropSent p x).putIdle p
          else if q.room x.frame then s.transmitNew p ofs x
          else s.putIdle p
        | none => s.putIdle p

/-! ### Lane loss (R347) -/

/-- The lanes left after a loss: the pair without the lost lane, else the best lane left (R347). -/
def lanesLeft (set lost : Nat) (errors : List Nat) : Nat :=
  let ok (i : Nat) : Bool := set.testBit i && !lost.testBit i
  let best := ((List.range 4).filter ok).foldl (fun (b : Option Nat) i =>
    match b with | some j => if errors.getD i 0 < errors.getD j 0 then some i else b | none => some i) none
  if set = 15 ∧ lost &&& 3 = 0 then 3
  else if set = 15 ∧ lost &&& 12 = 0 then 12
  else match best with | some i => 2 ^ i | none => 0

/-- The block errors of a lane in the last 1 ms, those that the line bits of blocks showed and `more` (R347). -/
def State.blockErrors (s : State) (p : Nat) (more : List Nat) : List Nat :=
  (List.range 4).map (fun i => more.getD i 0 + ((s.port p).errors.filter (fun x => x.1 == i && decide (s.beat.lbc < x.2 + 800000))).length)

/-- The port goes on with the lanes `left`, `gone` being lost, and replays. What is lost within the 2 us of a change is folded into
it, with no second report (R347). -/
def State.narrow (p left gone : Nat) (s : State) : State :=
  let b := s.beat.lbc
  let folded := s.changing p
  let set := if folded then (s.port p).before else s.fieldOf KLK_PORT_STAT_LANES p
  let s := s.modPort p fun q => { q with changeAt := if folded then q.changeAt else some b, before := set, gone := gone }
  let s := ((s.keepLanes p left).putBit KLK_PORT_STAT_DEGRADED p true).modDelay p fun d => { d with since := 0 }
  let s := if folded then s else (s.fault 9 1 0x0902 ((15 - left) * 16 + p) 0).event (1008 + 8 * p + 3)
  if (s.port p).retry.isEmpty then s else s.replay p

/-- A lane in use loses lock: the port narrows and replays; with no lane left it trains again. A loss within the 2 us of a
change is folded into it: the lanes are chosen anew of those before it (R347). -/
def State.laneLost (p lane : Nat) (errors : List Nat) (s : State) : State :=
  let folded := s.changing p
  let set := if folded then (s.port p).before else s.fieldOf KLK_PORT_STAT_LANES p
  let gone := (if folded then (s.port p).gone else 0) ||| 2 ^ lane
  let left := lanesLeft set gone (s.blockErrors p errors)
  if left = 0 then s.failAttempt p else s.narrow p left gone

/-- The partner tells a narrower lane set: this side changes with it (R347; DESIGN CHOICE, log entry 94). -/
def State.followLanes (p told : Nat) (s : State) : State :=
  s.narrow p told ((if s.changing p then (s.port p).gone else 0) ||| (s.fieldOf KLK_PORT_STAT_LANES p - told))

/-- A set of one lane. -/
def oneLane (l : Nat) : Bool := [1, 2, 4, 8].contains l

/-- What a LINK exchange of a width change tells this side: the partner's lane set, and the lanes that the partner has lost. A loss that
is new to this side is folded into the one change, from the lanes before it and all that is lost on either side; of two single lanes
that the sides have chosen the lower one stands; a narrower set within the present one is followed. Lanes that the port has not used
are told by nobody, and change nothing (R347; DESIGN CHOICE, log entry 94). -/
def State.hearLanes (p told lost : Nat) (s : State) : State :=
  let used := s.fieldOf KLK_PORT_STAT_LANES p
  let before := if s.changing p then (s.port p).before else used
  let mine := if s.changing p then (s.port p).gone else 0
  let gone := mine ||| (lost &&& before)
  if told = 0 ∨ told &&& before ≠ told then s
  else if gone ≠ mine then
    let own := lanesLeft before gone (s.blockErrors p [])
    let left := if oneLane told && oneLane own && told &&& gone == 0 then min told own else own
    if left = 0 then s.failAttempt p
    else if left = used then s.modPort p fun q => { q with gone := gone }
    else s.narrow p left gone
  else if told &&& used = told then (if told = used then s else s.followLanes p told)
  else if oneLane told && oneLane used && told &&& gone == 0 && decide (told < used) then s.narrow p told gone
  else s

/-- A lane that a width change may still use: it is in use, or was before the change that goes on. -/
def State.laneUsed (s : State) (p lane : Nat) : Bool :=
  let q := s.port p
  (s.fieldOf KLK_PORT_STAT_LANES p).testBit lane || (s.changing p && q.before.testBit lane && !(q.gone.testBit lane))

/-- Lanes of an ACTIVE port lose lock together: each loss but the first is folded into the change that the first begins (R347). -/
def State.loseLanes (p : Nat) (l : List Nat) (s : State) : State :=
  each l (fun i s => if s.portState p = 6 ∧ s.laneUsed p i then s.laneLost p i [] else s) s

/-- LANE_LOSS. -/
def execLaneLoss (port : Fin 8) (lane : Fin 4) (errors : List Nat) (s : State) : Host.Outcome State Fault Refusal :=
  done <| s.live fun s =>
    if s.portState port.val = 6 ∧ s.laneUsed port.val lane.val then s.laneLost port.val lane.val errors else s

/-! ### Receiving (R337, R340, R341) -/

/-- A frame is whole: a sequenced type, the LEN fixed for it, its payload and its CRC (R334). -/
def frameOk (f : Frame) : Bool :=
  f.crcOk && decide (1 ≤ f.type) && decide (f.type ≤ 6) && decide (f.len ≤ 32) && f.payload.length == 8 * f.len &&
  (match f.type with | 1 => f.len == 2 | 2 => f.len == 0 | 3 => f.len == 1 | 4 => f.len == 3 | _ => true)

/-- A frame in error is discarded: counted, and NAK is owed; a version 1 receiver has lost its boundaries (R337, R343). -/
def State.frameError (p : Nat) (s : State) : State :=
  let v2 := s.portV2 p
  (s.countUp KLK_CRC_ERR_COUNT p 1).modPort p fun q => { q with nak := true, lost := !v2 }

/-- A sequenced frame arrives: accepted, discarded as a duplicate, in error, out of order, or for want of buffers (R337, R340,
R341). `lane` of the port carried its first word. -/
def State.receiveFrame (p lane : Nat) (frame : Frame) (s : State) : State :=
  let q := s.port p
  let v2 := s.portV2 p
  if s.portState p ≠ 6 ∨ q.lost ∨ frame.type = 7 then s
  else if !frameOk frame then s.frameError p
  else if frame.seq.toNat ≠ (q.ack + 1) % 4096 then
    if (q.ack + 4096 - frame.seq.toNat) % 4096 ≤ 2047 then s else s.modPort p fun q => { q with nak := true }
  else
    let v := vcOf frame.type
    let n := frameBuffers frame
    if q.total.getD v 0 < q.held.getD v 0 + n then
      if v2 then (s.fault 9 1 0x0906 (v * 16384 + p) 0).retrain p 2 true
      else s.modPort p fun q => { q with refuse := true }
    else s.modPort p fun q => { q with
      ack := frame.seq.toNat, nak := false, refuse := false, held := modAt q.held v (· + n), arrivals := q.arrivals + 1
      inbox := q.inbox ++ [⟨v, frame, q.arrivals, lane⟩] }

/-- The acknowledgement of a LINK frame: the frames it covers leave the retry buffer, and a NAK with the ACK_SEQ that has come is a new
one (R338). -/
def State.linkAck (p a : Nat) (s : State) : State :=
  let q := s.port p
  if q.retry.any (fun x => x.frame.seq.toNat == a) then
    let b := s.beat.lbc
    let keep := (q.retry.dropWhile (fun x => x.frame.seq.toNat != a)).drop 1
    s.modPort p fun q => { q with
      retry := keep, replay := q.replay.filter (fun x => keep.any (fun y => y.frame.seq == x.frame.seq))
      acked := a, ackedAt := b, replays := 0, naked := none, injected := false }
  else s

/-- A LINK frame arrives: acknowledgement, credits, NAK and REFUSE, and a width change, which replays by itself; one in error is
discarded as any frame (R336 to R338, R340, R341, R347). -/
def State.receiveLink (p : Nat) (frame : Frame) (s : State) : State :=
  let v2 := s.portV2 p
  if s.portState p ≠ 6 ∨ (s.port p).lost ∨ frame.type ≠ 7 then s
  else if frame.len ≠ 1 ∨ frame.payload.length ≠ 8 ∨ !frame.crcOk then s.frameError p
  else
    let w := leAt frame.payload 0 8
    let a := w % 4096
    let ret := (List.range 4).map (fun v => w / 2 ^ (16 + 12 * v) % 4096)
    let s := s.linkAck p a
    let s := if v2 then s.modPort p fun q => { q with
        credits := (List.range 4).map (fun v => q.credits.getD v 0 + (ret.getD v 0 + 4096 - q.retSeen.getD v 0) % 4096)
        retSeen := ret }
      else s
    let b := s.beat.lbc
    let s := if !v2 && decide (w / 2 ^ 14 % 2 = 1) then
        (s.countUp KLK_REFUSE_COUNT p 1).modPort p fun q => { q with refusedAt := some b }
      else s
    let used := s.fieldOf KLK_PORT_STAT_LANES p
    let s := s.hearLanes p (frame.aux.toNat % 16) (frame.aux.toNat / 16 % 16)
    let q := s.port p
    if s.fieldOf KLK_PORT_STAT_LANES p = used ∧ w / 2 ^ 13 % 2 = 1 ∧ q.naked ≠ some a ∧ !q.retry.isEmpty then
      (s.modPort p fun q => { q with naked := some a }).replay p
    else s

/-- LINK_RECEIVE. -/
def execLinkReceive (port : Fin 8) (frame : Frame) (s : State) : Host.Outcome State Fault Refusal :=
  done <| s.live (State.receiveLink port.val frame)

/-- The commas of a block, lane by lane: one missing or misplaced is counted, a block in error noted (R330). -/
def State.noteLanes (p : Nat) (lines : List (List Bool)) (s : State) : State :=
  let b := s.beat.lbc
  let got := s.readLanes p lines
  each (s.portLanes p).zipIdx (fun x s => s.modPort p fun q => { q with
    missed := q.missed.set x.1 (if (lines.getD x.2 []).take 24 = comma then 0 else q.missed.getD x.1 0 + 1)
    errors := if (got.getD x.2 none).isNone then (x.1, b) :: q.errors.filter (fun y => decide (b < y.2 + 800000)) else q.errors }) s

/-- The line bits of an alignment block arrive: its frames are received in order, and a lane whose second comma in a row is
missing loses lock (R330 to R332). -/
def State.receiveBlock (p : Nat) (lines : List (List Bool)) (s : State) : State :=
  let l := readFrames 1024 0 (joinLanes (s.readLanes p lines))
  let used := s.portLanes p
  let s := s.noteLanes p lines
  let s := each l (fun x s =>
    match x.2 with
    | some f => if f.type = 7 then s.receiveLink p f else s.receiveFrame p (used.getD (x.1 % used.length) 0) f
    | none => if s.portState p = 6 then s.frameError p else s) s
  s.loseLanes p (used.filter (fun i => decide (2 ≤ (s.port p).missed.getD i 0)))

/-! ### The version 1 receiver (R342, R343) -/

/-- The version 1 receiver changed. -/
def State.modRx (p : Nat) (f : Receiver → Receiver) (s : State) : State := s.modPort p fun q => { q with rx := f q.rx }
/-- A receive lane. -/
def State.rxLane (s : State) (p i : Nat) : RxLane := (s.port p).rx.lanes.get (fun _ => { }) i
/-- A receive lane changed. -/
def State.modRxLane (p i : Nat) (f : RxLane → RxLane) (s : State) : State :=
  s.modRx p fun r => { r with lanes := r.lanes.set (fun _ => { }) i (f (s.rxLane p i)) }

/-- Sequenced and LINK frames arrive in order, each with the lane of its first word; from `none` on no boundary is known. -/
def State.receiveAll (p : Nat) (l : List (Nat × Option Frame)) (s : State) : State :=
  each l (fun x s =>
    match x.2 with
    | some f => if f.type = 7 then s.receiveLink p f else s.receiveFrame p x.1 f
    | none => s.frameError p) s

/-- A marker stands in its place on the lanes of `seen`. The word after it begins a frame, and a frame that it cuts is in error; a lane
that misses its second marker in a row loses lock (R343). -/
def State.markerPlace (p : Nat) (seen : List Nat) (s : State) : State :=
  let used := s.portLanes p
  let s := if !(s.port p).lost && !(s.port p).rx.words.isEmpty then s.frameError p else s
  let s := (s.modRx p fun r => { r with rows := 0, words := [] }).modPort p fun q => { q with
    lost := q.lost && seen.isEmpty
    missed := (List.range 4).map (fun i => if used.contains i && !(seen.contains i) then q.missed.getD i 0 + 1 else 0) }
  s.loseLanes p (used.filter (fun i => decide (2 ≤ (s.port p).missed.getD i 0)))

/-- The words of one data block of each lane go on the word stream, and the frames that they complete are received. A marker that does
not come within 256 data blocks and the longest frame has been missed on every lane (R343). -/
def State.takeWords (p : Nat) (l : List (Nat × RxItem)) (s : State) : State :=
  let more := l.flatMap (fun x => match x.2 with
    | .pair (some w) => [(x.1, some w.1), (x.1, some w.2)]
    | _ => [(x.1, none), (x.1, none)])
  let got := if (s.port p).lost then ([], []) else streamFrames 1024 ((s.port p).rx.words ++ more)
  let s := (s.modRx p fun r => { r with rows := r.rows + 1, words := got.2 }).receiveAll p got.1
  if 291 < (s.port p).rx.rows then s.markerPlace p [] else s

/-- One block of every active lane is taken, once each has one: a marker that any of them carries has its place there. -/
def State.takeRow (p : Nat) (s : State) : State :=
  let used := s.portLanes p
  let row := used.filterMap (fun i => (s.rxLane p i).fifo.head?.map (fun x => (i, x)))
  if !(s.port p).rx.aligned || row.length != used.length || row.isEmpty then s
  else
    let s := each used (fun i => State.modRxLane p i fun l => { l with fifo := l.fifo.drop 1 }) s
    let seen := (row.filter (fun x => x.2 == .marker x.1 used.length)).map Prod.fst
    if seen.isEmpty then s.takeWords p row else s.markerPlace p seen

/-- The lanes are deskewed on their markers: what came before a lane's first marker is discarded (R343). -/
def State.alignLanes (p : Nat) (s : State) : State :=
  let used := s.portLanes p
  if (s.port p).rx.aligned then s
  else
    let s := each used (fun i => State.modRxLane p i fun l => { l with fifo := l.fifo.dropWhile (fun x => x != .marker i used.length) }) s
    s.modRx p fun r => { r with aligned := used.all (fun i => !(s.rxLane p i).fifo.isEmpty) }

/-- The lanes that carry a marker of a narrower width, where they are as many as it says: the partner has changed to them (R343,
R347). -/
def State.narrowMarked (s : State) (p : Nat) : Option (List Nat) :=
  let marked (w : Nat) : List Nat := (s.portLanes p).filter (fun i => (s.rxLane p i).fifo.contains (.marker i w))
  ([2, 1].map (fun w => (w, marked w))).findSome? (fun x => if x.1 < s.portWidth p ∧ x.2.length = x.1 then some x.2 else none)

/-- This side follows such a change, and goes on at those markers. -/
def State.followMarkers (p : Nat) (s : State) : State :=
  match s.narrowMarked p with
  | some l => s.followLanes p (listMask l)
  | none => s

/-- Line bits arrive on the lanes of a version 1 port (R342, R343). -/
def State.receiveStream (p : Nat) (lines : List (List Bool)) (s : State) : State :=
  let s := each (s.portLanes p).zipIdx (fun x => State.modRxLane p x.1 (RxLane.receive (lines.getD x.2 []))) s
  let s := s.followMarkers p
  let s := s.loseLanes p ((s.portLanes p).filter (fun i => (s.rxLane p i).lost))
  let s := s.alignLanes p
  let n := ((s.portLanes p).map (fun i => (s.rxLane p i).fifo.length)).foldl max 0
  each (List.range n) (fun _ s => if s.portState p = 6 then s.takeRow p else s) s

/-- ALIGNMENT_MARKER_RECEIVE: a version 1 receiver that had lost its frame boundaries finds them at a marker of its own width, and
follows one that carries a narrower one (R343, R347). `position` is the lane that the marker carries. -/
def execAlignmentMarkerReceive (port : Fin 8) (position width : Nat) (s : State) : Host.Outcome State Fault Refusal :=
  done <| s.live fun s =>
    let p := port.val
    let used := s.portLanes p
    let told := if width = 1 then [position] else if position < 2 then [0, 1] else [2, 3]
    if s.portState p ≠ 6 ∨ s.portV2 p ∨ !(used.contains position) then s
    else if width = used.length then s.modPort p fun q => { q with lost := false, missed := q.missed.set position 0 }
    else if width < used.length ∧ (width = 1 ∨ width = 2) then s.followLanes p (listMask told)
    else s

/-- KL_FRAME_RECEIVE: a frame, whose place gives the lane of its first word (R331, R343), or the line bits of the active lanes. -/
def execKlFrameReceive (port : Fin 8) (wire : Wire) (s : State) : Host.Outcome State Fault Refusal :=
  done <| s.live fun s =>
    let p := port.val
    let used := s.portLanes p
    match wire with
    | .frame f place => s.receiveFrame p (used.getD ((if s.portV2 p then place else place / 2) % used.length) 0) f
    | .block lines =>
      if s.portState p ≠ 6 then s else if s.portV2 p then s.receiveBlock p lines else s.receiveStream p lines

/-! ### Arrivals and routing (R349, R350) -/

/-- The oldest arrival of a type at a port, taken; its buffers stay held. -/
def State.takeArrival (p type : Nat) (s : State) : Option Arrival × State :=
  match (s.port p).inbox.find? (fun x => x.frame.type == type) with
  | some x => (some x, s.modPort p fun q => { q with inbox := q.inbox.erase x })
  | none => (none, s)

/-- An arrival is consumed, and its buffers are free. -/
def State.consumed (p : Nat) (x : Arrival) (s : State) : State := s.freeBuffers p x.vc (frameBuffers x.frame)

/-- A consumed VC0 frame is flooded on, with TTL decremented; its buffers stay held while a copy waits (R340, R350). -/
def State.floodOn (p : Nat) (x : Arrival) (s : State) : State :=
  if x.frame.ttl = 0 then s.consumed p x
  else
    let t := s.floodFrom p x.no { x.frame with ttl := x.frame.ttl - 1 }
    if (s.floodPorts p).any s.portValid then t else t.consumed p x

/-- A DATA or CTRL frame for another module is sent on, or dropped (R346, R349). -/
def State.forward (p : Nat) (x : Arrival) (s : State) : State :=
  let d := x.frame.dest.toNat
  let q := s.fieldOf KLK_ROUTE_PORT d
  if !(s.portValid p) || !(s.bitOf KLK_ROUTE_VALID d) || x.frame.ttl == 0 then (s.dropFrame p).consumed p x
  else if s.portState q = 0 ∨ s.portState q = 7 then (s.dropFrame q).consumed p x
  else s.queueFrame q x.vc p x.no { x.frame with ttl := x.frame.ttl - 1 }

/-- A module's own ID, where it is valid (R348). -/
def State.isOwn (s : State) (d : Nat) : Bool := s.bitOf KLK_MOD_ID_VALID 0 && s.fieldOf KLK_MOD_ID_ID 0 == d

/-- An own DATA or CTRL frame sent toward another module (R349); `origin` is 8, or 9 + e for a frame of DMA engine e. -/
def State.sendRouted (origin : Nat) (f : Frame) (s : State) : State :=
  let d := f.dest.toNat
  let q := s.fieldOf KLK_ROUTE_PORT d
  if !(s.portValid q) || !(s.bitOf KLK_ROUTE_VALID d) || s.portState q == 0 || s.portState q == 7 then s.dropFrame q
  else s.queueFrame q (vcOf f.type) origin 0 f

/-- COND_RECEIVE: a condition of this module's span is taken, and the frame goes on (R196, R350). -/
def execCondReceive (port : Fin 8) (s : State) : Host.Outcome State Fault Refusal :=
  done <| s.live fun s =>
    let p := port.val
    match s.takeArrival p 1 with
    | (none, s) => s
    | (some x, s) =>
      let l := x.frame.payload
      let mine := leAt l 6 2 == s.fieldOf SEQ_SPAN_CFG_SPAN 0 && x.frame.src != s.portId p
      let c : Cond := ⟨x.frame.src.toNat, leAt l 0 6, leAt l 8 4, leAt l 12 2 % 8, leAt l 14 2, []⟩
      (if mine then s.condHeard c else s).floodOn p x

/-- A trigger number has been received (R247, R286, R350). -/
def State.trigHeard (k : Nat) (s : State) : State :=
  (s.triggerAll 5 k s.now).adcTrigger 4 k (s.beat.lbc + 1) true

/-- TRIG_RECEIVE: the units that name the number are triggered, and the frame goes on; a module never takes its own. -/
def execTrigReceive (port : Fin 8) (s : State) : Host.Outcome State Fault Refusal :=
  done <| s.live fun s =>
    let p := port.val
    match s.takeArrival p 2 with
    | (none, s) => s
    | (some x, s) =>
      let own := s.portValid p && x.frame.src == s.portId p
      (if own then s else s.trigHeard (x.frame.aux.toNat % 256)).floodOn p x

/-- KLK_TRIG_SEND. -/
def execKlkTrigSend (iss : Issuer) (number : Byte) (s : State) : Host.Outcome State Fault Refusal :=
  done <| s.command iss 0x0903 true [(!(s.bitOf KLK_MOD_ID_VALID 0), Status.wrongState)] fun s =>
    let m := listMask ((s.floodPorts 8).filter s.portValid)
    (s.flood 2 number.toNat []).complete iss Status.ok [m]

/-! ### The lane test (R352) -/

/-- A lane. -/
def State.lane (s : State) (l : Nat) : Lane := s.klk.lanes.get (fun _ => { }) l
/-- A lane changed. -/
def State.modLane (l : Nat) (f : Lane → Lane) (s : State) : State :=
  s.withKlk fun k => { k with lanes := k.lanes.set (fun _ => { }) l (f (s.lane l)) }

/-- The degree and the second tap of a pattern. -/
def prbsTaps (pattern : Nat) : Nat × Nat := match pattern with | 0 => (7, 6) | 1 => (15, 14) | 2 => (23, 18) | _ => (31, 28)

/-- The next bit of a pattern whose last bits are `w`, the newest in bit 0. -/
def prbsNext (pattern : Nat) (w : W32) : Bool :=
  let (a, b) := prbsTaps pattern
  xor (w.getLsbD (a - 1)) (w.getLsbD (b - 1))

/-- A bit shifted in as the newest. -/
def shiftIn (w : W32) (b : Bool) : W32 := (w <<< 1) ||| (if b then 1 else 0)

/-- The lanes of a test command. -/
def prbsLanes (m : W64) : List Nat := maskList m 32 ++ (maskList m 64).filter (fun l => l == 40 || l == 41)

/-- A lane's port is disabled: DISABLED, or the Ethernet link down (log entry 29). -/
def State.laneFree (s : State) (l : Nat) : Bool := if l < 32 then s.portState (l / 4) == 0 else !(s.ntu.eth.getD (l - 40) false)

/-- The test of lanes whose port is enabled ends (R352). -/
def State.endTest (l : List Nat) (s : State) : State :=
  each l (fun x s => if (s.lane x).on then (s.modLane x fun y => { y with on := false }).putBit KLK_PRBS_STAT_LOCKED x false else s) s

/-- KLK_PRBS; version 1 does not carry the exponent that INJECT takes (R76). -/
def execKlkPrbs (iss : Issuer) (lanes : W64) (op pattern rate flags exponent : Byte) (s : State) : Host.Outcome State Fault Refusal :=
  let l := prbsLanes lanes
  let bad := l.length != (maskList lanes 64).length || l.isEmpty || decide (2 < op.toNat) ||
    (op == 0 && (decide (3 < pattern.toNat) || decide (1 < rate.toNat) || decide (1 < flags.toNat))) ||
    (op == 2 && !(exponent == 0 || (decide (10 ≤ exponent.toNat) && decide (exponent.toNat ≤ 31))))
  done <| s.command iss 0x0902 (iss.mb != 16 || op != 2)
    [(bad, Status.badArgument), (l.any (fun x => !(s.laneFree x)), Status.wrongState)]
    fun s =>
      let s := each l (fun x s =>
        match op.toNat with
        | 0 =>
          let y : Lane := { on := true, pattern := pattern.toNat, rate := rate.toNat, loop := flags.getLsbD 0 }
          ((s.modLane x fun _ => y).setReg .KLK_PRBS_ERR x 0 0).putBit KLK_PRBS_STAT_LOCKED x false
        | 1 => (s.modLane x fun y => { y with on := false }).putBit KLK_PRBS_STAT_LOCKED x false
        | _ => s.modLane x fun y => { y with once := exponent == 0, exp := exponent.toNat }) s
      s.complete iss Status.ok [lanes.toNat % 2 ^ 32, lanes.toNat / 2 ^ 32]

/-- The lane's generator sends one bit, inverted where injection asks for it. -/
def Lane.send (y : Lane) : Bool × Lane :=
  let b := prbsNext y.pattern y.gen
  let hit := y.once || (y.exp != 0 && y.count % 2 ^ y.exp == 2 ^ y.exp - 1)
  (xor b hit, { y with gen := shiftIn y.gen b, count := y.count + 1, once := false })

/-- ETHERNET_LINK_UP: the lane of an enabled port is not in test (R352). -/
def execEthernetLinkUp (eth : Fin 2) (s : State) : Host.Outcome State Fault Refusal :=
  done <| s.live fun s => (s.withNtu fun n => { n with eth := n.eth.set eth.val true }).endTest [40 + eth.val]

/-- PRBS_CHECK: a bit reaches a lane's checker: it loads itself, locks after 64 bits without error, and counts wrong bits
while locked. -/
def execPrbsCheck (lane : Fin 42) (received : Bool) (s : State) : Host.Outcome State Fault Refusal :=
  done <| s.live fun s =>
    let l := lane.val
    if !((s.lane l).on) || !(s.laneFree l) then s
    else
      let (sent, y) := (s.lane l).send
      let b := if y.loop then sent else received
      let want := prbsNext y.pattern y.sr
      let full := decide ((prbsTaps y.pattern).1 ≤ y.have_)
      let locked := s.bitOf KLK_PRBS_STAT_LOCKED l
      if locked then
        let s := s.modLane l fun _ => { y with sr := shiftIn y.sr want, seen := y.seen || b != want }
        if b = want then s
        else
          let s := s.countUp KLK_PRBS_ERR_COUNT l 1
          when (!y.seen && decide (l < 32)) (State.event (1008 + 8 * (l / 4) + 7)) s
      else
        let good := if full && b == want then y.good + 1 else 0
        let s := s.modLane l fun _ => { y with sr := shiftIn y.sr b, have_ := y.have_ + 1, good := good }
        when (decide (64 ≤ good)) (State.putBit KLK_PRBS_STAT_LOCKED l true) s

end Sys2Proof.Machine
end

