-- ==== Sys2Proof/Machine/Sync.lean ====
section
/-! DEFINITION. Time over KelorLink and Ethernet: SYNC, DREQ, DRESP, the vendor servo; and NOTICE frames (14_time,
R447). -/

namespace Sys2Proof.Machine

/-- A TIME frame of this module (R367). -/
def State.timeFrame (s : State) (kind : Nat) (payload : List Byte) : Frame :=
  s.ownFrame 4 (kind + s.ntu.epoch * 16) 0 payload

/-- Twelve bytes of zero. -/
def zero12 : List Byte := List.replicate 12 0

/-- The vendor servo acts on an offset in 2^-16 ns: a step beyond 1 us, else NTU_INC is steered, and LOCKED after 16
offsets within 1 ns (R368). -/
def State.servo (o : Int) (s : State) : State :=
  if 65536000 < o.natAbs then s.withNtu fun n => { n with servoStep := some (-o), good := 0 }
  else
    let v := Config.servoIncrement o (s.reg64 .NTU_INC 0)
    let v := if v.toNat < 0x13FAE147B then 0x13FAE147B#64 else if 0x14051EB85 < v.toNat then 0x14051EB85#64 else v
    let good := if o.natAbs ≤ 65536 then s.ntu.good + 1 else 0
    let s := s.withNtu fun n => { n with inc := some v, good := good }
    when (decide (16 ≤ good)) (State.putBit NTU_SERVO_STAT_LOCKED 0 true) s

/-- A SYNC from upstream: the offset, and the servo where it is the vendor's and the port is not DEGRADED (R368, R369). -/
def State.syncHeard (p : Nat) (rx : Int) (f : Frame) (s : State) : State :=
  if s.fieldOf NTU_ROLE_ROLE 0 ≠ 2 ∨ s.fieldOf NTU_ROLE_UP_PORT 0 ≠ p then s
  else
    let o := rx - stampOf (f.payload.take 12) - s.linkDelay p
    let s := s.setReg64 .NTU_KL_OFS 0 (BitVec.ofInt 64 o)
    let b := s.beat.lbc
    let s := (s.withNtu fun n => { n with lastSync := b }).putBit NTU_SERVO_STAT_UP_LOST 0 false
    if s.bitOf KLK_PORT_STAT_DEGRADED p || s.bitOf NTU_ROLE_SERVO_HOST 0 then s else s.servo o

/-- A DRESP: one exchange of the link-delay measurement (R347, R368). -/
def State.delayHeard (p : Nat) (t4 : Int) (f : Frame) (s : State) : State :=
  match (s.delay p).t1 with
  | none => s
  | some t1 =>
    let t2 := stampOf (f.payload.take 12)
    let t3 := stampOf (f.payload.drop 12)
    let d := ((t4 - t1) - (t3 - t2)) / 2
    let s := s.modDelay p fun x => { x with last := (d :: x.last).take 16, asked := false, t1 := none, since := x.since + 1 }
    let s := s.updateHop p
    if s.bitOf KLK_PORT_STAT_DEGRADED p && decide (16 ≤ (s.delay p).since) then
      (s.putBit KLK_PORT_STAT_DEGRADED p false).event (1008 + 8 * p + 4)
    else s

/-- TIME_RECEIVE: a SYNC, DREQ or DRESP whose header crossed `ofs` fs after the start of the present beat. -/
def execTimeReceive (port : Fin 8) (ofs : Nat) (s : State) : Host.Outcome State Fault Refusal :=
  done <| s.live fun s =>
    let p := port.val
    match s.takeArrival p 4 with
    | (none, s) => s
    | (some x, s) =>
      let rx := s.stamp (4 * p + x.lane) false ofs
      let s := s.consumed p x
      match x.frame.aux.toNat % 16 with
      | 0 => s.syncHeard p rx x.frame
      | 1 => if s.faultStop then s else s.queueFrame p 1 8 0 (s.timeFrame 2 (stampBytes rx ++ zero12))
      | 2 => s.delayHeard p rx x.frame
      | _ => s

/-- The transmit timestamp that a SYNC or a DREQ is queued with: that of a frame which crosses `ofs` fs after the start of the
present beat. FRAME_TRANSMIT writes it anew at every transmission (R367). -/
def State.goesAt (s : State) (p ofs : Nat) : List Byte := stampBytes (s.stamp (s.sendLane p) true ofs)

/-- DREQ_SEND: every 50,000 beats the downstream side asks, one DREQ outstanding at a time (R368). -/
def execDreqSend (port : Fin 8) (ofs : Nat) (s : State) : Host.Outcome State Fault Refusal :=
  done <| s.live fun s =>
    let p := port.val
    let d := s.delay p
    let due := match d.sentAt with | some b => decide (b + 50000 ≤ s.beat.lbc) | none => true
    if s.fieldOf NTU_ROLE_ROLE 0 ≠ 2 ∨ s.fieldOf NTU_ROLE_UP_PORT 0 ≠ p ∨ s.portState p ≠ 6 ∨ !due ∨ d.asked ∨ s.faultStop then s
    else
      let b := s.beat.lbc
      (s.modDelay p fun d => { d with sentAt := some b, asked := true, t1 := none }).queueFrame p 1 8 0
        (s.timeFrame 1 (s.goesAt p ofs ++ zero12))

/-- SYNC_SEND: every 8,000 beats a ROOT or FOLLOWER sends SYNC on a DOWN port (R366, R368). -/
def execSyncSend (port : Fin 8) (ofs : Nat) (s : State) : Host.Outcome State Fault Refusal :=
  done <| s.live fun s =>
    let p := port.val
    let role := s.fieldOf NTU_ROLE_ROLE 0
    let due := match s.ntu.syncAt.get (fun _ => none) p with | some b => decide (b + 8000 ≤ s.beat.lbc) | none => true
    if !(role == 1 || role == 2) || !((s.reg .NTU_ROLE 0).getLsbD p) || s.portState p != 6 || !due || s.faultStop then s
    else
      let b := s.beat.lbc
      (s.withNtu fun n => { n with syncAt := n.syncAt.set (fun _ => none) p (some b) }).queueFrame p 1 8 0
        (s.timeFrame 0 (s.goesAt p ofs ++ zero12))

/-- SYNC_LOSS: 16 SYNC intervals without a SYNC (R369). -/
def execSyncLoss (s : State) : Host.Outcome State Fault Refusal :=
  done <| s.live fun s => if s.ntu.lastSync + 16 * 8000 ≤ s.beat.lbc then s.upLost else s

/-- NOTICE_RECEIVE: the notice of another module is recorded and flooded on (R350, R447). -/
def execNoticeReceive (port : Fin 8) (s : State) : Host.Outcome State Fault Refusal :=
  done <| s.live fun s =>
    let p := port.val
    match s.takeArrival p 3 with
    | (none, s) => s
    | (some x, s) =>
      let detail := leAt x.frame.payload 2 1 % 32 * 65536 + x.frame.src.toNat
      ((s.fault 15 0 0x0F02 detail 0).event (1152 + 15)).floodOn p x

end Sys2Proof.Machine
end

