-- ==== Sys2Proof/Machine/Ptp.lean ====
section
/-! DEFINITION. IEEE 1588-2019 on the Ethernet ports, as firmware runs it (R371). What the messages carry and how an exchange yields
the delay and the offset is that of IEEE 1588, which the manual names (PRESUMED, log entry 96). -/

namespace Sys2Proof.Machine

/-- The protocol state of an Ethernet port. -/
def State.ptp (s : State) (e : Nat) : PtpPort := s.ntu.ptp.get (fun _ => { }) e
/-- The protocol state changed. -/
def State.modPtp (e : Nat) (f : PtpPort → PtpPort) (s : State) : State :=
  s.withNtu fun n => { n with ptp := n.ptp.set (fun _ => { }) e (f (s.ptp e)) }

/-- The Ethernet ports that run PTP: those of PORTS whose link is up, and of an ordinary clock only one (R371). -/
def State.ptpPorts (s : State) : List Nat :=
  let l := [0, 1].filter (fun e => (s.fieldOf NTU_PTP_CFG_PORTS 0).testBit e && s.ntu.eth.getD e false)
  if !(s.feature 6) then []
  else match s.fieldOf NTU_PTP_CFG_ROLE 0 with
    | 1 => l.take 1
    | 2 => l
    | _ => []

/-- The peer-to-peer profile is used. -/
def State.ptpPeer (s : State) : Bool := s.bitOf NTU_PTP_CFG_PROFILE 0

/-- A data set is better than another: the first member in which they differ is less. -/
def betterSet : List Nat → List Nat → Bool
  | a :: l, b :: r => decide (a < b) || (a == b && betterSet l r)
  | _, _ => false

/-- The port that follows a master, and the master's port identity: the best of the masters heard, where it is better than the
module's own data set (the default data set comparison of R371). -/
def State.ptpSlave (s : State) : Option (Nat × Nat) :=
  let l := s.ptpPorts.filterMap (fun e => (s.ptp e).master.map (fun m => (e, m)))
  let best := l.foldl (fun (b : Option (Nat × List Nat × Nat)) x => match b with
    | some y => if betterSet x.2.1 y.2.1 then some x else b
    | none => some x) none
  match best with
  | some x => if betterSet x.2.1 Config.ptpDataset then some (x.1, x.2.2) else none
  | none => none

/-- A message is of the master that the port follows. -/
def State.ptpFrom (s : State) (e : Nat) (m : PtpMessage) : Bool := s.ptpSlave == some (e, m.source)

/-- A message of this port. -/
def State.ptpNew (s : State) (e : Nat) (kind : PtpKind) (seq target : Nat) (correction time : Int) : PtpMessage :=
  ⟨kind, s.fieldOf NTU_PTP_CFG_TRANSPORT 0, s.fieldOf NTU_PTP_CFG_DOMAIN 0, seq, Config.ptpIdentity e, target,
    kind == .sync || kind == .pdelayResp, correction, time, if kind = .announce then Config.ptpDataset else []⟩

/-- Firmware hands a message to the port. -/
def State.ptpPut (e : Nat) (m : PtpMessage) (s : State) : State := s.modPtp e fun x => { x with out := x.out ++ [m] }

/-- A Sync has been received `d` after its transmit time; a ROOT with SRC PTP is steered by the offset from the master (R371). -/
def State.ptpOffset (e : Nat) (d : Int) (s : State) : State :=
  let s := s.modPtp e fun x => { x with behind := d }
  if s.fieldOf NTU_ROLE_ROLE 0 == 1 && s.bitOf NTU_ROLE_SRC 0 && !(s.bitOf NTU_ROLE_SERVO_HOST 0) then s.servo (d - (s.ptp e).delay)
  else s

/-- The mean delay of a port is measured. -/
def State.ptpDelay (e : Nat) (twice : Int) (s : State) : State := s.modPtp e fun x => { x with delay := twice / 2, asked := none }

/-- A message received; an event message at the hardware timestamp `rx` (R363). -/
def State.ptpReceived (e : Nat) (rx : Int) (m : PtpMessage) (s : State) : State :=
  let x := s.ptp e
  let asked := match x.asked with | some a => a.1 == m.seq && m.target == Config.ptpIdentity e | none => false
  let t := match x.asked with | some a => a.2 | none => 0
  match m.kind with
  | .announce =>
    let take := match x.master with | some b => b.2 == m.source || betterSet m.dataset b.1 | none => true
    if take && m.source != Config.ptpIdentity e then s.modPtp e fun x => { x with master := some (m.dataset, m.source) } else s
  | .sync =>
    if !(s.ptpFrom e m) then s
    else if m.twoStep then s.modPtp e fun x => { x with synced := some (m.seq, rx - m.correction) }
    else s.ptpOffset e (rx - m.correction - m.time)
  | .followUp =>
    match x.synced with
    | some (n, t2) =>
      if s.ptpFrom e m && n == m.seq then (s.modPtp e fun x => { x with synced := none }).ptpOffset e (t2 - m.correction - m.time) else s
    | none => s
  | .delayReq =>
    if s.ptpPeer || (match s.ptpSlave with | some y => y.1 == e | none => false) then s
    else s.ptpPut e (s.ptpNew e .delayResp m.seq m.source m.correction rx)
  | .delayResp => if asked && !s.ptpPeer && s.ptpFrom e m then s.ptpDelay e (x.behind + (m.time - m.correction - t)) else s
  | .pdelayReq => if s.ptpPeer then s.ptpPut e (s.ptpNew e .pdelayResp m.seq m.source m.correction rx) else s
  | .pdelayResp =>
    if !(asked && s.ptpPeer) then s
    else if m.twoStep then s.modPtp e fun x => { x with answered := some (m.seq, m.time, rx - m.correction) }
    else s.ptpDelay e (rx - m.correction - t)
  | .pdelayRespFollowUp =>
    match x.answered with
    | some (n, t2, t4) =>
      if asked && n == m.seq then (s.modPtp e fun x => { x with answered := none }).ptpDelay e (t4 - t - (m.time + m.correction - t2))
      else s
    | none => s
  | .signaling => s
  | .management => s

/-- Firmware begins a message: as a master Sync and Announce, as a slave Delay_Req, on any port of the peer-to-peer profile
Pdelay_Req. -/
def State.ptpBegun (e : Nat) (kind : PtpKind) (s : State) : State :=
  let slave := match s.ptpSlave with | some y => y.1 == e | none => false
  let may := match kind with
    | .sync => !slave
    | .announce => !slave
    | .delayReq => slave && !s.ptpPeer
    | .pdelayReq => s.ptpPeer
    | _ => false
  let n := (s.ptp e).seq
  if may then (s.modPtp e fun x => { x with seq := (n + 1) % 65536 }).ptpPut e (s.ptpNew e kind n 0 0 0) else s

/-- The oldest message handed to the port meets the medium, an event message at the hardware timestamp `tx`: Sync and Pdelay_Resp are
two-step (R371). -/
def State.ptpSent (e : Nat) (tx : Int) (s : State) : State :=
  match (s.ptp e).out with
  | [] => s
  | m :: r =>
    let s := s.modPtp e fun x => { x with out := r }
    match m.kind with
    | .sync => s.ptpPut e (s.ptpNew e .followUp m.seq 0 0 tx)
    | .pdelayResp => s.ptpPut e (s.ptpNew e .pdelayRespFollowUp m.seq m.target m.correction tx)
    | .delayReq => s.modPtp e fun x => { x with asked := some (m.seq, tx) }
    | .pdelayReq => s.modPtp e fun x => { x with asked := some (m.seq, tx), answered := none }
    | _ => s

/-- PTP_MESSAGE: firmware handles a message of the module's domain and transport on a port that runs PTP, with the hardware timestamps
of the port's lane (R363, R371). -/
def execPtpMessage (eth : Fin 2) (ofs : Nat) (event : PtpEvent) (s : State) : Host.Outcome State Fault Refusal :=
  done <| s.live fun s =>
    let e := eth.val
    if !(s.ptpPorts.contains e) || !(decide (ofs < beatFs)) then s
    else match event with
      | .received m =>
        if m.domain = s.fieldOf NTU_PTP_CFG_DOMAIN 0 ∧ m.transport = s.fieldOf NTU_PTP_CFG_TRANSPORT 0 then
          s.ptpReceived e (s.stamp (40 + e) false ofs) m
        else s
      | .begun kind => s.ptpBegun e kind
      | .sent => s.ptpSent e (s.stamp (40 + e) true ofs)

end Sys2Proof.Machine
end

