-- ==== Sys2Proof/Machine/Sprout.lean ====
section
/-! DEFINITION. Hazel's address-map unit and Sprout: translation, threads, the completion queue and its deliveries
(R380 to R391). -/

namespace Sys2Proof.Machine

/-! ### The address-map unit (R389 to R391) -/

/-- A table entry is valid with no reserved bit set (R390, R391). -/
def pteOk (e : Nat) : Bool := e % 2 == 1 && e / 128 % 32 == 0 && e / 2 ^ 48 == 0

/-- The physical address of a table entry. -/
def ptePa (e : Nat) : Nat := e / 4096 % 2 ^ 36 * 4096

/-- The 64 KiB page that 16 table entries from `a` on form, where they meet the rules of R390. -/
def State.contig (s : State) (a : Nat) : Option Nat :=
  let l := (List.range 16).map (fun i => s.memNat (a + 8 * i) 8)
  let e := l.getD 0 0
  if ptePa e % 65536 = 0 ∧ l.zipIdx.all (fun p => pteOk p.1 && p.1 % 128 == e % 128 && p.1.testBit 5 && ptePa p.1 == ptePa e + 4096 * p.2)
  then some (ptePa e) else none

/-- A walk from a table on, by the shifts of the levels that are left; with it whether a CONTIG group broke its rules. -/
def State.walk (s : State) (asid va : Nat) : Nat → List Nat → Option (Trans × Bool)
  | _, [] => none
  | t, sh :: r =>
    let a := t + 8 * (va / 2 ^ sh % 512)
    let e := s.memNat a 8
    let leaf := e.testBit 1
    if !(s.inRam a 8) || !(pteOk e) then none
    else if sh = 12 then
      if !leaf then none
      else if e.testBit 5 then
        match s.contig (t + 8 * (va / 65536 % 32 * 16)) with
        | some pa => some (⟨asid, va / 65536 * 65536, 65536, pa, e % 128⟩, false)
        | none => some (⟨asid, va / 4096 * 4096, 4096, ptePa e, e % 128⟩, true)
      else some (⟨asid, va / 4096 * 4096, 4096, ptePa e, e % 128⟩, false)
    else if leaf then (if sh = 21 then some (⟨asid, va / 0x200000 * 0x200000, 0x200000, ptePa e, e % 128⟩, false) else none)
    else s.walk asid va (ptePa e) r

/-- The page of a cached translation is pinned now: the tables still map it with its PIN bit set, or firmware has pinned it (R228,
R390, R391; the bits of the tables themselves, log entry 80). -/
def State.pinnedPage (s : State) (x : Trans) : Bool :=
  s.pinned x.pa x.size ||
  (match s.walk x.asid x.va (s.reg64 .MGT_ASID_ROOT x.asid).toNat [39, 30, 21, 12] with
   | some (y, _) => y.attr.testBit 6 && y.pa == x.pa
   | none => false)

/-- A translation enters the cache of 4,096; the oldest one whose page is not pinned gives way (R391). -/
def State.cacheAdd (s : State) (x : Trans) (l : List Trans) : List Trans :=
  if l.length < 4096 then l ++ [x]
  else match l.find? (fun y => !(s.pinnedPage y)) with
    | some y => l.erase y ++ [x]
    | none => l

/-- What a walk found: the translation enters the cache where its page permits the access, and a broken CONTIG group is
reported (R391). -/
def State.walked (asid va perm : Nat) (w : Option (Trans × Bool)) (s : State) : Option Nat × State :=
  match w with
  | none => (none, s)
  | some (x, broken) =>
    let s := when broken (State.fault 12 0 0x0C06 asid 0) s
    if x.attr.testBit perm then (some (x.pa + (va - x.va)), s.withMgt fun m => { m with cache := s.cacheAdd x m.cache })
    else (none, s)

/-- A virtual address translated with a permission bit (2 R, 3 W, 4 X); none is a translation fault. -/
def State.translate (asid va perm : Nat) (s : State) : Option Nat × State :=
  if va / 2 ^ 48 ≠ 0 then (none, s)
  else
    match s.mgt.cache.find? (fun x => x.asid == asid && decide (x.va ≤ va) && decide (va < x.va + x.size)) with
    | some x => (if x.attr.testBit perm then some (x.pa + (va - x.va)) else none, s)
    | none => s.walked asid va perm (s.walk asid va (s.reg64 .MGT_ASID_ROOT asid).toNat [39, 30, 21, 12])

/-- The physical pieces of `n` bytes at a virtual address, at most two pages of 4 KiB; the address that faulted where one
does not translate or is no memory. -/
def State.pieces (asid va n perm : Nat) (s : State) : (Nat ⊕ List (Nat × Nat)) × State :=
  let n1 := min n (4096 - va % 4096)
  match s.translate asid va perm with
  | (none, s) => (.inl va, s)
  | (some a, s) =>
    if !(s.inRam a n1) then (.inl va, s)
    else if n1 = n then (.inr [(a, n)], s)
    else match s.translate asid (va + n1) perm with
      | (none, s) => (.inl (va + n1), s)
      | (some b, s) => if s.inRam b (n - n1) then (.inr [(a, n1), (b, n - n1)], s) else (.inl (va + n1), s)

/-- The bytes of pieces. -/
def State.readPieces (s : State) (l : List (Nat × Nat)) : List Byte := l.flatMap (fun p => s.mem p.1 p.2)

/-- Bytes written into pieces. -/
def State.writePieces : List (Nat × Nat) → List Byte → State → State
  | [], _, s => s
  | (a, n) :: r, l, s => State.writePieces r (l.drop n) (s.setMem a (l.take n))

/-- The cached translations of an address space are invalidated, the pinned pages kept (R228, R391). -/
def State.invalidate (asid : Nat) (s : State) : State :=
  s.withMgt fun m => { m with cache := m.cache.filter (fun x => x.asid != asid || s.pinnedPage x) }

/-! ### Threads (R380 to R383) -/

/-- A Sprout thread. -/
def State.spr (s : State) (t : Nat) : Sprout := s.mgt.threads.get (fun _ => { }) t
/-- A Sprout thread changed. -/
def State.modSpr (t : Nat) (f : Sprout → Sprout) (s : State) : State :=
  s.withMgt fun m => { m with threads := m.threads.set (fun _ => { }) t (f (s.spr t)) }

/-- MGT_SPR_THR.STATE: 0 FREE, 1 WAITING, 2 FLOW_WAIT, 3 READY, 4 RUNNING. -/
def State.sprState (s : State) (t : Nat) : Nat := s.fieldOf MGT_SPR_THR_STATE t
/-- The core a thread is bound to. -/
def State.sprCore (s : State) (t : Nat) : Nat := s.fieldOf MGT_SPR_THR_CORE t
/-- A thread's priority. -/
def State.sprPrio (s : State) (t : Nat) : Nat := s.fieldOf MGT_SPR_THR_PRIO t
/-- The flow a thread belongs to. -/
def State.sprFlow (s : State) (t : Nat) : Option Nat :=
  if s.bitOf MGT_SPR_THR_FLOW_EN t then some (s.fieldOf MGT_SPR_FLOW_FLOW t) else none
/-- The address space of a thread (R389). -/
def State.sprAsid (s : State) (t : Nat) : Nat := let k := s.sprCore t; if k < 2 then 0 else k

/-- The threads that have been created, in ascending order. -/
def State.created (s : State) : List Nat := s.mgt.threads.map (·.1)

/-- The applet grant of a core. -/
def State.grant (s : State) (k : Nat) : Grant := s.mgt.grants.get (fun _ => { }) k
/-- The core whose range holds a thread; 0 for the firmware's range (R380). -/
def State.rangeOf (s : State) (t : Nat) : Option Nat :=
  if t < 256 then some 0
  else [2, 3, 4, 5, 6, 7].find? (fun k => decide ((s.grant k).first ≤ t) && decide (t < (s.grant k).first + (s.grant k).count))

/-- The owner of an address space may address a thread: an applet only those of its grant (R379). -/
def State.reaches (s : State) (asid t : Nat) : Bool := decide (asid < 2) || s.rangeOf t == some asid

/-- MGT_CORE_STAT.STATE: 0 RESET, 1 RUN, 2 TRAPPED. -/
def State.coreState (s : State) (k : Nat) : Nat := s.fieldOf MGT_CORE_STAT_STATE k

/-- The thread running on a core. -/
def State.runningOn (s : State) (k : Nat) : Option Nat := s.created.find? (fun t => s.sprState t == 4 && s.sprCore t == k)

/-- Whether READY thread `t` stands before `u` in a ready list: priority, then beat, then number (R382). -/
def State.before (s : State) (t u : Nat) : Bool :=
  let p := s.sprPrio t; let q := s.sprPrio u
  decide (q < p) || (p == q && (decide ((s.spr t).since < (s.spr u).since) || ((s.spr t).since == (s.spr u).since && decide (t < u))))

/-- The head of a core's ready list. -/
def State.readyHead (s : State) (k : Nat) : Option Nat :=
  (s.created.filter (fun t => s.sprState t == 3 && s.sprCore t == k)).foldl (fun (b : Option Nat) t =>
    match b with | some u => if s.before t u then some t else b | none => some t) none

/-- A core in RUN with no running thread takes the head of its ready list; a READY thread of higher priority than the
running one raises a switch request (R382). -/
def State.settleCore (k : Nat) (s : State) : State :=
  match s.runningOn k, s.readyHead k with
  | none, some t => if s.coreState k = 1 then s.putField MGT_SPR_THR_STATE t 4 else s
  | some r, some t =>
    if s.sprPrio r < s.sprPrio t ∧ k ∉ s.mgt.switches then s.withMgt fun m => { m with switches := m.switches ++ [k] } else s
  | _, none => s

/-- A thread enters its core's ready list. -/
def State.enlist (t : Nat) (s : State) : State :=
  let b := s.beat.lbc
  (s.putField MGT_SPR_THR_STATE t 3).modSpr t fun x => { x with since := b }

/-- A thread becomes READY. -/
def State.makeReady (t : Nat) (s : State) : State := (s.enlist t).settleCore (s.sprCore t)

/-- Another thread of `t`'s flow is in service (R383). -/
def State.flowBusy (s : State) (t : Nat) : Bool :=
  match s.sprFlow t with
  | some f => s.created.any (fun u => u != t && decide (3 ≤ s.sprState u) && s.sprFlow u == some f)
  | none => false

/-- A WAITING thread with C = 0 and BLOCKED = 0 enters its core's ready list, or FLOW_WAIT behind its flow's earlier waiters. -/
def State.rouse (t : Nat) (s : State) : State :=
  if s.sprState t ≠ 1 ∨ s.fieldOf MGT_SPR_THR_C t ≠ 0 ∨ (s.spr t).blocked ≠ 0 then s
  else if s.flowBusy t then (s.putField MGT_SPR_THR_STATE t 2).withMgt fun m => { m with flowQ := m.flowQ ++ [t] }
  else s.enlist t

/-- A thread whose wait is over becomes READY, or waits for its flow. -/
def State.wake (t : Nat) (s : State) : State := (s.rouse t).settleCore (s.sprCore t)

/-- The thread in service of a flow has left it: the flow's first waiter becomes READY (R383). -/
def State.flowNext (f : Option Nat) (s : State) : State :=
  match f with
  | none => s
  | some _ =>
    match s.mgt.flowQ.find? (fun t => s.sprFlow t == f) with
    | some t => (s.withMgt fun m => { m with flowQ := m.flowQ.erase t }).makeReady t
    | none => s

/-- A thread enters FREE from any state. -/
def State.freeThread (t : Nat) (s : State) : State :=
  let st := s.sprState t
  if st = 0 then s
  else
    let f := s.sprFlow t
    let k := s.sprCore t
    let s := (s.setReg .MGT_SPR_THR t 0 0).setReg .MGT_SPR_FLOW t 0 0
    let s := (s.modSpr t fun _ => { }).withMgt fun m => { m with flowQ := m.flowQ.erase t, posts := m.posts.filter (fun p => p.1 != t) }
    (when (decide (3 ≤ st)) (State.flowNext f) s).settleCore k

/-- The BLOCKED count of a thread changed; its register shows it up to 15 (R395). -/
def State.modBlocked (t : Nat) (f : Nat → Nat) (s : State) : State :=
  let n := f (s.spr t).blocked
  (s.modSpr t fun x => { x with blocked := n }).putField MGT_SPR_THR_BLOCKED t (min n 15)

/-- The thread runs, and no POST of its own waits. -/
def State.acting (s : State) (t : Nat) : Bool := s.sprState t == 4 && !(s.mgt.posts.any (fun p => p.1 == t))

/-! ### The completion queue (R384 to R388) -/

/-- The queue is full. -/
def State.cqFull (s : State) : Bool := decide (4096 ≤ s.mgt.queue.length)
/-- CQ_REFUSE is active (R387). -/
def State.refusing (s : State) : Bool := s.bitOf HST_STATE_CQ_REFUSE 0

/-- An entry enters the queue, and POSTED counts it (R386). -/
def State.enqueue (e : Entry) (s : State) : State :=
  let b := s.beat.lbc
  (s.withMgt fun m => { m with queue := m.queue ++ [{ e with lbc := b }] }).setReg64 .MGT_SPR_POSTED 0 (s.reg64 .MGT_SPR_POSTED 0 + 1)

/-- A post was refused (R387). -/
def State.refused (s : State) : State := s.countUp MGT_CQ_STAT_REFUSED 0 1

/-- An occurrence of an event routed to Sprout: merged into the entry that waits, held at its source, or posted (R387); a
count beyond its field is a free value. -/
def State.postEvent (e thread : Nat) (s : State) : State :=
  if s.mgt.queue.any (fun x => x.kind == 1 && x.source == e) then
    let ended_ := s.mgt.queue.any (fun x => x.kind == 1 && x.source == e && x.count == 65535)
    let (v, s) := if ended_ then s.draw else (0, s)
    s.withMgt fun m => { m with queue := m.queue.map (fun x =>
      if x.kind = 1 ∧ x.source = e then { x with count := if ended_ then v.toNat % 65536 else x.count + 1 } else x) }
  else if s.mgt.heldEvents.any (fun x => x.1 == e) then s
  else if s.cqFull then s.withMgt fun m => { m with heldEvents := m.heldEvents ++ [(e, thread)] }
  else s.enqueue ⟨thread, 1, 0, e, 1, 0, 0⟩

/-- The events of beats before the present one are exchanged by the routing now in force: an MSI-X vector is owed its
message, Sprout is posted its entry, or neither (R448 to R450). -/
def State.exchange (s : State) : State :=
  let now := s.hsk.occ.filter (fun x => decide (x.2 < s.beat.lbc))
  if now.isEmpty then s
  else
    let s := s.withHsk fun h => { h with occ := h.occ.filter (fun x => !decide (x.2 < s.beat.lbc)) }
    each now (fun x s =>
      match s.fieldOf HSK_EVT_ROUTE_TARGET x.1 with
      | 1 => s.signal (s.fieldOf HSK_EVT_ROUTE_VECTOR x.1)
      | 2 => s.postEvent x.1 (s.fieldOf HSK_EVT_ROUTE_THREAD x.1)
      | _ => s) s

/-- An engine. -/
def State.engine (s : State) (e : Nat) : Engine := s.mgt.engines.get (fun _ => { }) e
/-- An engine changed. -/
def State.modEngine (e : Nat) (f : Engine → Engine) (s : State) : State :=
  s.withMgt fun m => { m with engines := m.engines.set (fun _ => { }) e (f (s.engine e)) }
/-- A receive queue. -/
def State.rxq (s : State) (q : Nat) : RxQ := s.mgt.rx.get (fun _ => { }) q
/-- A receive queue changed. -/
def State.modRxq (q : Nat) (f : RxQ → RxQ) (s : State) : State :=
  s.withMgt fun m => { m with rx := m.rx.set (fun _ => { }) q (f (s.rxq q)) }

/-- A DMA engine posts a completion; where the queue is full it stalls with it, or is refused and retries (R387). -/
def State.postEngine (e : Nat) (c : Entry) (s : State) : State :=
  let s := s.exchange
  let b := s.beat.lbc
  if !(s.engine e).owed.isEmpty then s.modEngine e fun x => { x with owed := x.owed ++ [c] }
  else if s.cqFull then
    let s := when s.refusing State.refused s
    s.modEngine e fun x => { x with owed := [c], retryAt := if s.refusing then some (b + 64) else none }
  else s.enqueue c

/-- The completion of a frame in a receive queue (R398). -/
def State.rxEntry (s : State) (q : Nat) (f : RxFrame) : Entry := ⟨s.fieldOf MGT_RXQ_CFG_THREAD q, 3, 0, q, 1, f.tag, 0⟩

/-- A receive queue delivers a frame: its completion enters the queue, and HELD counts it. -/
def State.rxDeliver (q : Nat) (f : RxFrame) (s : State) : State :=
  let s := (s.enqueue (s.rxEntry q f)).modRxq q fun x => { x with frames := x.frames ++ [f] }
  s.putField MGT_RXQ_STAT_HELD q (s.rxq q).frames.length

/-- A receive queue posts the completion of a new frame, or holds the frame (R387). -/
def State.postRx (q : Nat) (f : RxFrame) (s : State) : State :=
  let s := s.exchange
  let b := s.beat.lbc
  if !(s.rxq q).wait.isEmpty then s.modRxq q fun x => { x with wait := x.wait ++ [f] }
  else if s.cqFull then
    let s := when s.refusing State.refused s
    s.modRxq q fun x => { x with wait := [f], retryAt := if s.refusing then some (b + 64) else none }
  else s.rxDeliver q f

/-- One producer that waits is let in: an event held at its source, else a stalled engine, receive queue or POST (the
order, log entry 42). A refused producer waits for its retry. -/
def State.admitOne (s : State) : State :=
  if s.cqFull then s
  else match s.mgt.heldEvents with
  | (e, t) :: r => (s.withMgt fun m => { m with heldEvents := r }).enqueue ⟨t, 1, 0, e, 1, 0, 0⟩
  | [] =>
    match (List.range 16).find? (fun e => !(s.engine e).owed.isEmpty && (s.engine e).retryAt.isNone) with
    | some e =>
      match (s.engine e).owed with
      | c :: r => (s.modEngine e fun x => { x with owed := r }).enqueue c
      | [] => s
    | none =>
      match (List.range 8).find? (fun q => !(s.rxq q).wait.isEmpty && (s.rxq q).retryAt.isNone) with
      | some q =>
        match (s.rxq q).wait with
        | f :: r => (s.modRxq q fun x => { x with wait := r }).rxDeliver q f
        | [] => s
      | none =>
        match s.mgt.posts with
        | (_, c) :: r => (s.withMgt fun m => { m with posts := r }).enqueue c
        | [] => s

/-- The token of an entry is applied to its thread, and the entry written to the thread's ring (R385, R388). -/
def State.deliver (e : Entry) (s : State) : State :=
  let t := e.thread
  let s := s.setReg64 .MGT_SPR_CONSUMED 0 (s.reg64 .MGT_SPR_CONSUMED 0 + 1)
  if 1024 ≤ t ∨ s.sprState t = 0 then s.fault 12 1 0x0C03 (t % 1024) 0
  else
    let c := s.fieldOf MGT_SPR_THR_C t
    let s := if c = 0 then s.fault 12 1 0x0C03 t 0 else s.putField MGT_SPR_THR_C t (c - 1)
    let x := s.spr t
    if x.ringLen ≤ x.fill then (s.modSpr t fun x => { x with overflowed := true }).fault 12 0 0x0C05 t 0
    else
      let flags := e.flags ||| flag 1 x.overflowed ||| flag 2 (decide (c = 0))
      let bytes := leBytes 2 t ++ leBytes 1 e.kind ++ leBytes 1 flags ++ leBytes 2 e.source ++ leBytes 2 e.count ++ leBytes 4 e.tag ++ leBytes 4 e.lbc
      let s := match s.pieces (s.sprAsid t) (x.ringVa + 16 * x.next) 16 3 with
        | (.inr l, s) => s.writePieces l bytes
        | (.inl _, s) => s
      s.modSpr t fun x => { x with next := (x.next + 1) % x.ringLen, fill := x.fill + 1, overflowed := false }

/-- COMPLETION_DELIVERY: at a boundary up to two entries are delivered in queue order, producers that wait are let in, and
the states of the threads that the tokens reached change; only then do the cores take the heads of their lists (R382, R385, R387). -/
def execCompletionDelivery (s : State) : Host.Outcome State Fault Refusal :=
  done <| s.live fun s =>
    let s := s.exchange
    if s.mgt.delivered = some s.beat.lbc then s
    else
      let now := s.mgt.queue.take 2
      let s := s.withMgt fun m => { m with queue := m.queue.drop 2, delivered := some s.beat.lbc }
      let s := each now State.deliver s
      let s := (s.admitOne).admitOne
      let s := each (now.map (·.thread)) (fun t s => if t < 1024 then s.rouse t else s) s
      each (List.range 8) State.settleCore s

/-- CQ_REFUSE_RETRY: 64 beats after a refusal the producer tries again (R387). -/
def execCqRefuseRetry (producer : Fin 24) (s : State) : Host.Outcome State Fault Refusal :=
  done <| s.live fun s =>
    let p := producer.val
    let b := s.beat.lbc
    let due (r : Option Nat) : Bool := match r with | some a => decide (a ≤ b) | none => false
    if p < 16 then
      match (s.engine p).owed with
      | c :: r =>
        if !(due (s.engine p).retryAt) then s
        else if s.cqFull then s.refused.modEngine p fun x => { x with retryAt := some (b + 64) }
        else (s.modEngine p fun x => { x with owed := r, retryAt := if r.isEmpty then none else some b }).enqueue c
      | [] => s
    else
      let q := p - 16
      match (s.rxq q).wait with
      | f :: r =>
        if !(due (s.rxq q).retryAt) then s
        else if s.cqFull then s.refused.modRxq q fun x => { x with retryAt := some (b + 64) }
        else (s.modRxq q fun x => { x with wait := r, retryAt := if r.isEmpty then none else some b }).rxDeliver q f
      | [] => s

/-- EXPECT: the running thread adds tokens to its counter; a sum beyond 16 bits is a free value (R385). -/
def execExpect (thread : Fin 1024) (tokens : W16) (s : State) : Host.Outcome State Fault Refusal :=
  done <| s.live fun s =>
    let t := thread.val
    if !(s.acting t) then s
    else
      let c := s.fieldOf MGT_SPR_THR_C t + tokens.toNat
      let (v, s) := if c < 65536 then (BitVec.ofNat 64 c, s) else s.draw
      s.putField MGT_SPR_THR_C t (v.toNat % 65536)

/-- POST: a software completion, behind the events of earlier beats; with the queue full the operation waits, or is refused, and its
thread holds the status that it returns (R387). A thread of an applet reaches only the threads of its grant (R379). -/
def execPost (poster target : Fin 1024) (value : W32) (s : State) : Host.Outcome State Fault Refusal :=
  done <| s.live fun s =>
    let c : Entry := ⟨target.val, 2, 0, poster.val, 1, value.toNat, 0⟩
    if !(s.acting poster.val) || !(s.reaches ((s.rangeOf poster.val).getD 0) target.val) then s
    else
      let s := s.exchange
      let s := s.modSpr poster.val fun x => { x with refused := s.cqFull && s.refusing }
      if !s.cqFull then s.enqueue c
      else if s.refusing then s.refused
      else s.withMgt fun m => { m with posts := m.posts ++ [(poster.val, c)] }

/-- THREAD_YIELD: the running thread, having taken entries off its ring, waits or stays ready, and its core takes the head
of its list (R381 to R383). -/
def execThreadYield (thread : Fin 1024) (taken : Nat) (s : State) : Host.Outcome State Fault Refusal :=
  done <| s.live fun s =>
    let t := thread.val
    let b := s.beat.lbc
    if !(s.acting t) then s
    else
      let s := s.modSpr t fun x => { x with fill := x.fill - taken, since := b }
      let waits := s.fieldOf MGT_SPR_THR_C t != 0 || (s.spr t).blocked != 0
      let s := s.putField MGT_SPR_THR_STATE t (if waits then 1 else 3)
      (when waits (State.flowNext (s.sprFlow t)) s).settleCore (s.sprCore t)

/-- THREAD_CREATE: a thread of the creator's own range is created on a core of that range; a range's first thread is
created from core boot (R380, R381). -/
def execThreadCreate (creator thread : Fin 1024) (core : Fin 8) (prio : Fin 32) (flow : Option (Fin 256)) (ringVa : W64) (ringLen : Nat)
    (s : State) : Host.Outcome State Fault Refusal :=
  done <| s.live fun s =>
    let t := thread.val
    let k := core.val
    let range := s.rangeOf t
    let may := (creator == thread && s.coreState k == 1) || s.acting creator.val
    let home := range.isSome && s.rangeOf creator.val == range && (if range = some 0 then decide (k < 2) else range == some k)
    if s.sprState t ≠ 0 ∨ !may ∨ !home ∨ ringLen < 16 ∨ 1024 < ringLen then s
    else
      let f := match flow with | some x => x.val | none => 0
      let w := fld 31 29 1 + fld 28 24 prio.val + fld 23 21 k + flag 20 flow.isSome
      let s := (s.setReg .MGT_SPR_THR t 0 (BitVec.ofNat 32 w)).setReg .MGT_SPR_FLOW t 0 (BitVec.ofNat 32 f)
      (s.modSpr t fun _ => { ringVa := ringVa.toNat, ringLen := ringLen }).wake t

/-- THREAD_RELEASE: a thread of the releaser's own range enters FREE. -/
def execThreadRelease (releaser thread : Fin 1024) (s : State) : Host.Outcome State Fault Refusal :=
  done <| s.live fun s =>
    if s.acting releaser.val && s.rangeOf releaser.val == s.rangeOf thread.val then s.freeThread thread.val else s

/-- THREAD_PREEMPT: a core carries out a switch request; the pre-empted thread stays in service (R382, R383). -/
def execThreadPreempt (core : Fin 8) (s : State) : Host.Outcome State Fault Refusal :=
  done <| s.live fun s =>
    let k := core.val
    if k ∉ s.mgt.switches ∨ s.coreState k ≠ 1 then s
    else
      let b := s.beat.lbc
      let s := s.withMgt fun m => { m with switches := m.switches.erase k }
      match s.runningOn k, s.readyHead k with
      | some r, some t =>
        if s.sprPrio r < s.sprPrio t then
          ((s.putField MGT_SPR_THR_STATE r 3).modSpr r fun x => { x with since := b }).putField MGT_SPR_THR_STATE t 4
        else s
      | _, _ => s

/-- The completion ledger is checked (R386). -/
def State.checkCompletions (s : State) : State :=
  let d := s.reg64 .MGT_SPR_POSTED 0 - s.reg64 .MGT_SPR_CONSUMED 0
  when (d.toNat != s.mgt.queue.length) (State.fault 12 3 0x0C04 0 0) s

end Sys2Proof.Machine
end

