-- ==== Sys2Proof/Machine/Dma.lean ====
section
/-! DEFINITION. DMA engines, KelorLink receive queues, cores and applets (R373 to R379, R392 to R398). -/

namespace Sys2Proof.Machine

/-! ### Queues and descriptors (R392 to R394) -/

/-- A queue of an engine. -/
def State.dq (s : State) (e q : Nat) : DmaQ := (s.engine e).queues.get (fun _ => { }) q
/-- A queue changed. -/
def State.modDq (e q : Nat) (f : DmaQ → DmaQ) (s : State) : State :=
  s.modEngine e fun x => { x with queues := x.queues.set (fun _ => { }) q (f (x.queues.get (fun _ => { }) q)) }

/-- The entries of a queue's ring. -/
def State.dqSize (s : State) (e q : Nat) : Nat := 2 ^ s.fieldOf MGT_DEQ_CFG_LOG2 (4 * e + q)
/-- The address space of a queue. -/
def State.dqAsid (s : State) (e q : Nat) : Nat := s.fieldOf MGT_DEQ_CFG_ASID (4 * e + q)
/-- The internal address of the descriptor at a queue's head. -/
def State.descAddr (s : State) (e q : Nat) : Nat :=
  0x4000000000 + s.fieldOf MGT_DEQ_CFG_BASE (4 * e + q) * 256 + 64 * (s.dq e q).head

/-- A queue holds a started descriptor that its engine may serve. -/
def State.dqReady (s : State) (e q : Nat) : Bool :=
  s.bitOf MGT_DEQ_CFG_EN (4 * e + q) && (s.dq e q).head != (s.dq e q).tail && !(s.dq e q).faulted

/-- A descriptor's fields from its 64 bytes. -/
def descOf (l : List Byte) : Desc :=
  ⟨leAt l 0 1, leAt l 1 1, leAt l 2 2, leAt l 4 4, leAt l 8 8, leAt l 0x10 8, leAt l 0x18 8⟩

/-- A descriptor that is rejected: a reserved field or OP, a HOST flag on a queue of an applet, or a length that its
operation does not have (R393; lengths, log entry 39). -/
def descBad (l : List Byte) (asid : Nat) : Bool :=
  let d := descOf l
  decide (2 < d.op) || decide (7 < d.flags) || !(zeroAt l 0x2C 4) || !(zeroAt l 0x38 8) ||
  (d.flags % 4 != 0 && decide (2 ≤ asid)) ||
  (if d.op = 2 then d.len < 8 || 256 < d.len || d.len % 8 != 0 || d.dst % 2 ^ 16 ≥ 2 ^ 11 || d.dst ≥ 2 ^ 19
   else d.len = 0 || 2 ^ 40 < d.len)

/-- PROGRESS and STATUS written into a queue's head descriptor. -/
def State.writeDesc (e q status : Nat) (s : State) : State :=
  let a := s.descAddr e q
  (s.setMem (a + 0x20) (leBytes 8 (s.dq e q).prog)).setMem (a + 0x28) (leBytes 4 status)

/-- A descriptor ends: STATUS first, then its completion unless NO_POST is set, and its event (R394). A thread that is not of the
applet's grant is not reached (R379). -/
def State.endDesc (e q status : Nat) (d : Desc) (s : State) : State :=
  let s := s.writeDesc e q status
  let n := s.dqSize e q
  let s := s.modDq e q fun x => { x with head := (x.head + 1) % n, cur := none, prog := 0, faulted := false }
  let s := s.modEngine e fun x => { x with serving := if x.serving = some q then none else x.serving, sent := if x.serving = some q then false else x.sent }
  let s := if d.flags.testBit 2 || !(s.reaches (s.dqAsid e q) d.thread) then s else s.postEngine e ⟨d.thread, 0, 0, 4 * e + q, 1, d.tag, 0⟩
  s.event (976 + 2 * e)

/-- Bulk DMA is deferred under the power limit (R428). -/
def State.dmaDeferred (s : State) : Bool := (s.fieldOf THM_PLIM_STAT_DEFER 0).testBit 1

/-- A queue's doorbell is written. -/
def State.ringDoorbell (e q v : Nat) (s : State) : State :=
  if !(s.bitOf MGT_DEQ_CFG_EN (4 * e + q)) then s
  else let n := s.dqSize e q; s.modDq e q fun x => { x with tail := v % n }

/-- DMA_DOORBELL_WRITE: a tail index starts the queue's descriptors; of an index beyond the ring its low bits count (R394;
DEDUCED, log entry 105). -/
def execDmaDoorbellWrite (engine : Fin 16) (queue : Fin 4) (value : W32) (s : State) : Host.Outcome State Fault Refusal :=
  done <| s.live (State.ringDoorbell engine.val queue.val value.toNat)

/-- The engine may start a transfer: none in service, no completion held up, not stopped or deferred (R387, R397, R440). -/
def State.engineFree (s : State) (e : Nat) : Bool :=
  (s.engine e).serving.isNone && (s.engine e).owed.isEmpty && !s.faultStop && !s.dmaDeferred

/-- DMA_DESCRIPTOR_START: the next descriptor of the highest queue that holds one; else a transfer of MGT_DMA_HOST. -/
def execDmaDescriptorStart (engine : Fin 16) (s : State) : Host.Outcome State Fault Refusal :=
  done <| s.live fun s =>
    let e := engine.val
    if !(s.engineFree e) then s
    else match [3, 2, 1, 0].find? (s.dqReady e) with
    | some q =>
      match (s.dq e q).cur with
      | some _ => s.modEngine e fun x => { x with serving := some q }
      | none =>
        let l := s.mem (s.descAddr e q) 64
        let d := descOf l
        if descBad l (s.dqAsid e q) then s.endDesc e q 5 d
        else (s.modDq e q fun x => { x with cur := some d, prog := 0 }).modEngine e fun x => { x with serving := some q, sent := false }
    | none => if (s.engine e).jobs.isEmpty then s else s.modEngine e fun x => { x with serving := some 4 }

/-! ### Moving granules (R395, R396) -/

/-- The bytes a host source supplied for a granule; bytes it did not supply are free values. -/
def State.hostBytes (l : List Byte) : Nat → State → List Byte × State
  | 0, s => ([], s)
  | n + 1, s =>
    match l with
    | b :: r => let x := State.hostBytes r n s; (b :: x.1, x.2)
    | [] => let d := s.draw; let x := State.hostBytes [] n d.2; (BitVec.ofNat 8 d.1.toNat :: x.1, x.2)

/-- The pages of a granule translated, source before destination: where to read and where to write, or the address that
faulted. -/
def State.granule (e q n : Nat) (d : Desc) (k : Nat) (s : State) : (Nat ⊕ (List (Nat × Nat) × List (Nat × Nat))) × State :=
  let asid := s.dqAsid e q
  let fromHost := d.flags.testBit 0
  let toHost := d.flags.testBit 1
  let r : (Nat ⊕ List (Nat × Nat)) × State := if d.op = 1 ∨ fromHost then (.inr [], s) else s.pieces asid (d.src + k) n 2
  match r with
  | (.inl va, s) => (.inl va, s)
  | (.inr a, s) =>
    let w : (Nat ⊕ List (Nat × Nat)) × State := if d.op = 2 ∨ toHost then (.inr [], s) else s.pieces asid (d.dst + k) n 3
    match w with
    | (.inl va, s) => (.inl va, s)
    | (.inr b, s) => (.inr (a, b), s)

/-- The descriptor's thread is one whose BLOCKED count its fault holds up (R379, R395). -/
def State.blocks (s : State) (e q : Nat) (d : Desc) : Bool := decide (d.thread < 1024) && s.reaches (s.dqAsid e q) d.thread

/-- A translation fault stops the queue (R395). -/
def State.dmaFault (e q va : Nat) (d : Desc) (s : State) : State :=
  let a := s.descAddr e q
  let s := (s.writeDesc e q 3).setMem (a + 0x30) (leBytes 8 va)
  let s := (s.modDq e q fun x => { x with faulted := true }).modEngine e fun x => { x with serving := none, sent := false }
  let s := (s.postEngine e ⟨1, 0, 1, 4 * e + q, 1, d.tag, 0⟩).event (976 + 2 * e + 1)
  if s.blocks e q d then s.modBlocked d.thread (· + 1) else s

/-- At a 4 KiB boundary a higher queue with a started descriptor pre-empts the transfer, but a granule that cannot be
moved faults first (R396). -/
def State.dmaBoundary (e q : Nat) (d : Desc) (s : State) : State :=
  let k := (s.dq e q).prog
  if k % 4096 = 0 ∧ [3, 2, 1].any (fun h => decide (q < h) && s.dqReady e h) then
    match s.granule e q (min 256 (d.len - k)) d k with
    | (.inl va, s) => s.dmaFault e q va d
    | (.inr _, s) => (s.writeDesc e q 2).modEngine e fun x => { x with serving := none }
  else s

/-- The bytes of a frame as it stands in its receive buffers: header, payload and CRC (R333). -/
def frameImage (f : Frame) : List Byte :=
  let h := fld 63 52 f.aux.toNat + fld 51 46 f.ttl.toNat + fld 45 35 f.src.toNat + fld 34 24 f.dest.toNat + fld 21 10 f.seq.toNat +
    fld 9 4 f.len + fld 3 0 f.type
  let l := leBytes 8 h ++ f.payload
  l ++ leBytes 4 (crc32 l).toNat

/-- A DATA frame that the module sends to its own ID is delivered to its receive queue, or released where the queue is not bound
(R349, R398); it stands in a FABRIC block of its own, and waits where the pool gives none (DESIGN CHOICE, log entry 95). What it
answers says whether it was delivered. -/
def State.sendLocal (f : Frame) (s : State) : Bool × State :=
  let q := f.aux.toNat % 8
  if !(s.bitOf MGT_RXQ_CFG_EN q) then (true, s.countUp MGT_RXQ_STAT_DISCARD q 1)
  else match s.takeBlock 4 with
    | (some b, s) => (true, (s.setMem (0x4000000000 + 2048 * b) (frameImage f)).postRx q ⟨8, 2, frameBuffers f, 2048 * b⟩)
    | (none, s) => (false, s)

/-- A SEND: its frame is queued, or delivered to this module, and the descriptor ends once the frame has left its queue (R349,
R393; a frame that the routing drops, log entry 39). -/
def State.dmaSend (e q : Nat) (host : List Byte) (d : Desc) (s : State) : State :=
  if (s.engine e).sent then
    if (List.range 8).any (fun p => (s.port p).queue.any (fun x => x.origin == 9 + e)) then s
    else (s.modDq e q fun x => { x with prog := d.len }).endDesc e q 1 d
  else match s.granule e q d.len d 0 with
    | (.inl va, s) => s.dmaFault e q va d
    | (.inr (a, _), s) =>
      let (l, s) := if d.flags.testBit 0 then s.hostBytes host d.len else (s.readPieces a, s)
      let f := s.ownFrame 5 (d.dst / 65536 % 8) (d.dst % 2048) l
      let r := if s.isOwn (d.dst % 2048) then s.sendLocal f else (true, s.sendRouted (9 + e) f)
      if r.1 then r.2.modEngine e fun x => { x with sent := true } else r.2

/-- One granule of a queue's transfer. -/
def State.dmaMove (e q : Nat) (host : List Byte) (d : Desc) (s : State) : State :=
  let k := (s.dq e q).prog
  let n := min 256 (d.len - k)
  match s.granule e q n d k with
  | (.inl va, s) => s.dmaFault e q va d
  | (.inr (a, b), s) =>
    let (l, s) := if d.op = 1 then ((List.range n).map (fun i => BitVec.ofNat 8 (d.src / 256 ^ (i % 8))), s)
      else if d.flags.testBit 0 then s.hostBytes host n else (s.readPieces a, s)
    let s := if d.flags.testBit 1 then s.setHost (d.dst + k) l else s.writePieces b l
    let s := s.modDq e q fun x => { x with prog := k + n }
    if k + n = d.len then s.endDesc e q 1 d else s.dmaBoundary e q d

/-- A deferred command that is this transfer of MGT_DMA_HOST. -/
def Job.hit (j : Job) (d : Deferred) : Bool :=
  d.iss == j.iss && d.outcome.isNone && (match d.cmd with | .mgtDmaHost .. => true | _ => false)

/-- The table to which entry `i` of table `t` leads, made at the first free page `next` where there is none; with it the first page
that is free then (R390). -/
def State.subTable (t i next : Nat) (s : State) : (Nat × Nat) × State :=
  let e := s.memNat (t + 8 * i) 8
  if e % 2 = 1 then ((ptePa e, next), s)
  else ((next, next + 4096), (s.setMem next (List.replicate 4096 0)).setMem (t + 8 * i) (leBytes 8 (next + 1)))

/-- A page of 4 KiB mapped for reading, writing and fetching by the tables under `root` (R390); the first page free for tables then. -/
def State.mapPage (root va pa next : Nat) (s : State) : Nat × State :=
  let x := s.subTable root (va / 2 ^ 39 % 512) next
  let y := x.2.subTable x.1.1 (va / 2 ^ 30 % 512) x.1.2
  let z := y.2.subTable y.1.1 (va / 2 ^ 21 % 512) y.1.2
  (z.1.2, z.2.setMem (z.1.1 + 8 * (va / 4096 % 512)) (leBytes 8 (pa / 4096 * 4096 + 0x1F)))

/-- `n` pages from a virtual address on, at as many from a physical one. -/
def State.mapPages (root : Nat) : Nat → Nat → Nat → Nat → State → State
  | 0, _, _, _, s => s
  | n + 1, va, pa, next, s => let x := s.mapPage root va pa next; State.mapPages root n (va + 4096) (pa + 4096) x.1 x.2

/-- The pages of `n` that tables for a run of pages can take, the root among them (R390). -/
def tablePages (n : Nat) : Nat := 7 + n / 512 + n / 2 ^ 18 + n / 2 ^ 27

/-- `n` bytes of the backed GDDR6 at `a` that firmware may use: no page of them is pinned, in use by firmware, or in one of the ranges
`keep` (R228, R378). -/
def State.mayUse (s : State) (keep : List (Nat × Nat)) (a n : Nat) : Bool :=
  s.inGddr a n && !(s.pinned a n) && (keep ++ s.mgt.used.map Prod.snd).all (fun x => decide (a + n ≤ x.1) || decide (x.2 ≤ a))

/-- A run of `n` pages of the backed GDDR6 that firmware takes for address space `asid`, clear of the ranges `keep`; none where no run
is free. Which, is a free value (DESIGN CHOICE, log entry 41). -/
def State.takePages (asid n : Nat) (keep : List (Nat × Nat)) (s : State) : Option Nat × State :=
  let d := s.draw
  let s := d.2
  let ends := (keep ++ s.mgt.used.map Prod.snd ++ s.seq.pins).map (fun x => ceilDiv x.2 4096 * 4096)
  match ((d.1.toNat % (s.backed / 4096) * 4096) :: 0 :: ends).find? (fun a => s.mayUse keep a (4096 * n)) with
  | some a => (some a, s.withMgt fun m => { m with used := m.used ++ [(asid, a, a + 4096 * n)] })
  | none => (none, s)

/-- A walk from a table on meets an entry that is not valid, and nothing that the walk fails on before it (R390). -/
def State.unmapped (s : State) (va : Nat) : Nat → List Nat → Bool
  | _, [] => false
  | t, sh :: r =>
    let a := t + 8 * (va / 2 ^ sh % 512)
    let e := s.memNat a 8
    s.inRam a 8 && (e % 2 == 0 || (pteOk e && !(e.testBit 1) && s.unmapped va (ptePa e) r))

/-- Firmware maps the page of a physical address for a transfer of the host to itself in ASID 1, where nothing is mapped there; the
first page that it maps makes the root table (R389, R390; DESIGN CHOICE, log entry 97). -/
def State.mapJob (keep : Nat × Nat) (a : Nat) (s : State) : State :=
  let root := (s.reg64 .MGT_ASID_ROOT 1).toNat
  if root ≠ 0 ∧ !(s.unmapped a root [39, 30, 21, 12]) then s
  else
    match s.takePages 1 4 [keep] with
    | (none, s) => s
    | (some p, s) =>
      if root ≠ 0 then (s.mapPage root a a p).2
      else (((s.setMem p (List.replicate 4096 0)).mapPage p a a (p + 4096)).2).setReg64 .MGT_ASID_ROOT 1 (BitVec.ofNat 64 p)

/-- A transfer of MGT_DMA_HOST leaves its engine, and the command ends (R394). -/
def State.endJob (e : Nat) (j : Job) (status moved : Nat) (s : State) : State :=
  (s.modEngine e fun x => { x with jobs := x.jobs.drop 1, serving := none }).modDeferred j.hit fun d =>
    { d with outcome := some (status, [moved]) }

/-- One granule of a transfer of MGT_DMA_HOST, translated through ASID 1 by its tables (R389); one that finds no translation is not moved,
and ends the transfer with ABORTED_FAULT. A queue of the engine pre-empts it at a 4 KiB boundary. -/
def State.jobMove (e : Nat) (host : List Byte) (j : Job) (s : State) : State :=
  let n := min 256 (j.len - j.moved)
  let a := j.phys + j.moved
  let keep := (j.phys, j.phys + j.len)
  let s := (s.mapJob keep a).mapJob keep (a + n - 1)
  match s.pieces 1 a n (if j.toHost then 2 else 3) with
  | (.inl _, s) => s.endJob e j Status.abortedFault j.moved
  | (.inr l, s) =>
    let s := if j.toHost then s.setHost (j.bus + j.moved) (s.readPieces l) else let r := s.hostBytes host n; r.2.writePieces l r.1
    let j2 := { j with moved := j.moved + n }
    if j2.moved = j.len then s.endJob e j Status.ok j.len
    else
      let ended_ := decide (j2.moved % 4096 = 0) && [3, 2, 1, 0].any (s.dqReady e)
      s.modEngine e fun x => { x with jobs := j2 :: x.jobs.drop 1, serving := if ended_ then none else x.serving }

/-- DMA_GRANULE_MOVE: one 256-byte granule of the transfer in service; none while the engine is stalled, stopped, or
deferred at a 4 KiB boundary (R387, R395, R397, R440). -/
def execDmaGranuleMove (engine : Fin 16) (hostData : List Byte) (s : State) : Host.Outcome State Fault Refusal :=
  done <| s.live fun s =>
    let e := engine.val
    let x := s.engine e
    if s.faultStop ∨ !x.owed.isEmpty then s
    else match x.serving with
    | none => s
    | some q =>
      if q = 4 then
        match x.jobs with
        | j :: _ => if s.dmaDeferred && j.moved % 4096 == 0 then s else s.jobMove e hostData j
        | [] => s
      else match (s.dq e q).cur with
        | none => s
        | some d =>
          if s.dmaDeferred && (s.dq e q).prog % 4096 == 0 && !x.sent then s
          else if d.op = 2 then s.dmaSend e q hostData d
          else s.dmaMove e q hostData d

/-- MGT_DEQ_RESUME: firmware resumes a faulted queue at PROGRESS, or cancels its descriptor (R395). -/
def execMgtDeqResume (engine : Fin 16) (queue : Fin 4) (cancel : Bool) (s : State) : Host.Outcome State Fault Refusal :=
  done <| s.live fun s =>
    let e := engine.val
    let q := queue.val
    match (s.dq e q).faulted, (s.dq e q).cur, s.ready with
    | true, some d, true =>
      let s := s.invalidate (s.dqAsid e q)
      let s := s.modDq e q fun x => { x with faulted := false }
      let s := if cancel then s.endDesc e q 4 d else s
      if s.blocks e q d then (s.modBlocked d.thread (· - 1)).wake d.thread else s
    | _, _, _ => s

/-- MGT_DE_STAT (the order in which its states show, log entry 40). -/
def State.deStat (s : State) (e : Nat) : W32 :=
  let x := s.engine e
  let faulted := listMask ((List.range 4).filter (fun q => (s.dq e q).faulted))
  let prog := match x.serving with
    | some q => if q = 4 then (match x.jobs with | j :: _ => j.moved | [] => 1) else (s.dq e q).prog
    | none => 1
  let st := if !x.owed.isEmpty then 2 else if x.serving.isSome then (if s.dmaDeferred && prog % 4096 == 0 then 3 else 1)
    else if faulted ≠ 0 then 4 else 0
  let q := match x.serving with | some q => q % 4 | none => 0
  BitVec.ofNat 32 (fld 31 29 st + fld 28 27 q + faulted)

/-- MGT_DMA_HOST: the transfer waits for an engine of DE0 to DE7: the one with the fewest of them, the lowest first (the
log). -/
def execMgtDmaHost (iss : Issuer) (bus phys : W64) (length : W32) (direction : Byte) (s : State) : Host.Outcome State Fault Refusal :=
  let bad := length == 0 || decide (1 < direction.toNat) || !(s.inRam phys.toNat length.toNat)
  let carried := iss.mb != 16
  done <| s.command iss 0x0C03 carried [(bad, Status.badArgument)] fun s =>
    let e := (List.range 8).foldl (fun b e => if (s.engine e).jobs.length < (s.engine b).jobs.length then e else b) 0
    let s := s.defer iss (.mgtDmaHost iss bus phys length direction) 0 []
    s.modEngine e fun x => { x with jobs := x.jobs ++ [⟨iss, bus.toNat, phys.toNat, length.toNat, direction == 1, 0⟩] }

/-! ### Receive queues (R398) -/

/-- The receive buffers of a port in which frames that receive queues hold lie: first buffer and count. -/
def State.heldBuffers (s : State) (p : Nat) : List (Nat × Nat) :=
  (List.range 8).flatMap (fun q => ((s.rxq q).frames ++ (s.rxq q).wait).filterMap (fun f =>
    if f.port = p then
      match ((s.port p).blocks).findIdx? (fun b => b == f.tag / 2048) with
      | some i => some (32 * i + f.tag % 2048 / 64, f.buffers)
      | none => none
    else none))

/-- The Central Store offset of a frame of `n` buffers: the first run of buffers of one block of the port that no held
frame takes (log entry 28). -/
def State.frameOffset (s : State) (p n : Nat) : Option Nat :=
  let l := s.heldBuffers p
  let total := (s.port p).total.foldl (· + ·) 0
  match (List.range (total + 1 - n)).find? (fun i => decide (i % 32 + n ≤ 32) && l.all (fun h => decide (h.1 + h.2 ≤ i) || decide (i + n ≤ h.1))) with
  | some i => some ((s.port p).blocks.getD (i / 32) 0 * 2048 + i % 32 * 64)
  | none => none

/-- DATA_RECEIVE: a frame for this module enters the receive queue that AUX names, or is released where the queue is not
bound; another goes on (R349, R398). -/
def execDataReceive (port : Fin 8) (s : State) : Host.Outcome State Fault Refusal :=
  done <| s.live fun s =>
    let p := port.val
    match s.takeArrival p 5 with
    | (none, s) => s
    | (some x, s) =>
      let own := s.portValid p && x.frame.dest == s.portId p
      let q := x.frame.aux.toNat % 8
      if !own then s.forward p x
      else if !(s.bitOf MGT_RXQ_CFG_EN q) then (s.countUp MGT_RXQ_STAT_DISCARD q 1).consumed p x
      else
        let n := frameBuffers x.frame
        match s.frameOffset p n with
        | some a => (s.setMem (0x4000000000 + a) (frameImage x.frame)).postRx q ⟨p, x.vc, n, a⟩
        | none => let d := s.draw; d.2.postRx q ⟨p, x.vc, n, d.1.toNat % 2 ^ 27⟩

/-- CTRL_RECEIVE: a frame for this module is delivered to the FABRIC pool, in the buffers of its port, and taken by firmware, whose own
protocol it carries; another goes on (R334, R349, R398). -/
def execCtrlReceive (port : Fin 8) (s : State) : Host.Outcome State Fault Refusal :=
  done <| s.live fun s =>
    let p := port.val
    match s.takeArrival p 6 with
    | (none, s) => s
    | (some x, s) =>
      let own := s.portValid p && x.frame.dest == s.portId p
      if !own then s.forward p x
      else match s.frameOffset p (frameBuffers x.frame) with
        | some a => (s.setMem (0x4000000000 + a) (frameImage x.frame)).consumed p x
        | none => s.consumed p x

/-- A frame of a receive queue is released: the buffers of its port, or the block of a frame of this module. -/
def State.freeFrame (f : RxFrame) (s : State) : State :=
  if f.port < 8 then s.freeBuffers f.port f.vc f.buffers else s.freeBlock 4 (f.tag / 2048)

/-- The oldest `n` frames of a receive queue are released, with their buffers and credits (R398). -/
def State.releaseFrames (q n : Nat) (s : State) : State :=
  let gone := (s.rxq q).frames.take n
  let s := s.modRxq q fun x => { x with frames := x.frames.drop n }
  let s := s.putField MGT_RXQ_STAT_HELD q (s.rxq q).frames.length
  each gone State.freeFrame s

/-- MGT_RXQ_REL_WRITE: the value's number of frames is released in arrival order, with their buffers and credits (R398;
that the value counts frames, log entry 25). -/
def execMgtRxqRelWrite (queue : Fin 8) (value : W32) (s : State) : Host.Outcome State Fault Refusal :=
  done <| s.live (State.releaseFrames queue.val value.toNat)

/-! ### Cores and applets (R374 to R379) -/

/-- The threads of an applet's grant. -/
def Grant.threads (g : Grant) : List Nat := (List.range g.count).map (g.first + ·)
/-- The engines of an applet's grant. -/
def Grant.engineList (g : Grant) : List Nat := ((List.range 8).filter (fun i => g.engines.testBit i)).map (8 + ·)

/-- The descriptors of a queue, the one in service first, complete with CANCELLED (R376). -/
def State.cancelQueue (e q : Nat) (s : State) : State :=
  let n := s.dqSize e q
  each (List.range (((s.dq e q).tail + n - (s.dq e q).head) % n)) (fun _ s =>
    let d := match (s.dq e q).cur with | some d => d | none => descOf (s.mem (s.descAddr e q) 64)
    let was := (s.dq e q).faulted
    let s := s.endDesc e q 4 d
    if was && s.blocks e q d then s.modBlocked d.thread (· - 1) else s) s

/-- An applet ends: its threads enter FREE and its queues stop (R376). -/
def State.appletEnd (k : Nat) (s : State) : State :=
  let g := s.grant k
  let s := each g.threads State.freeThread s
  each g.engineList (fun e s => each [3, 2, 1, 0] (State.cancelQueue e) s) s

/-- A request of core `k` to the firmware service. -/
def requestOf (k : Nat) (i : Instr) : Bool :=
  match i with
  | .appletRegRequest core .. => core.val == k
  | .watchdogRestart core => core.val == k
  | _ => false

/-- An applet's core enters RESET and its grant returns (R374). -/
def State.appletReset (k : Nat) (s : State) : State :=
  let s := (s.appletEnd k).putField MGT_CORE_STAT_STATE k 0
  (s.withMgt fun m => { m with
    grants := m.grants.set (fun _ => { }) k { }, switches := m.switches.erase k
    requests := m.requests.filter (fun i => !(requestOf k i)), used := m.used.filter (fun x => x.1 != k) }).invalidate k

/-- The core's watchdog starts anew. -/
def State.restartDog (k : Nat) (s : State) : State :=
  let b := s.beat.lbc
  s.withMgt fun m => { m with dogs := m.dogs.set (fun _ => 0) k b }

/-- A core enters RUN. -/
def State.startCore (k : Nat) (s : State) : State := (s.putField MGT_CORE_STAT_STATE k 1).restartDog k

/-- A HST_WIN_SET whose window still moves ends with the firmware that moves it: the window stays where it was (R377). -/
def State.failWinMove (s : State) : State :=
  match s.hst.winMove with
  | none => s
  | some w =>
    let s := s.withHst fun h => { h with winMove := none }
    if w.muted then s else s.complete w.iss Status.abortedFault []

/-- A trap of a core in RUN: a C2 fault and the end of its applet, or the C3 fault of a firmware core (R376, R377). -/
def State.trap (k cause : Nat) (s : State) : State :=
  if s.coreState k ≠ 1 then s
  else
    let n := s.free
    let s := ((s.draw).2.withMgt fun m => { m with dumps := m.dumps.set (fun _ => 0) k n }).putField MGT_CORE_STAT_STATE k 2
    let s := s.countUp MGT_CORE_STAT_TRAPS k 1
    if 2 ≤ k then ((s.fault 12 2 0x0C01 (cause % 65536 * 65536 + k) (s.grant k).sites)).appletEnd k
    else
      let s := s.fault 12 3 0x0C02 (cause % 65536 * 65536 + k) 0
      let s := if s.faultStop then s else s.putField HST_STATE_FW_STATE 0 0
      let s := each (List.range 8) (fun e s => s.modEngine e fun x => { x with jobs := [], serving := if x.serving = some 4 then none else x.serving }) s
      let s := (s.withCal fun c => { c with store := none }).putBit CAL_STAT_STORE_BUSY 0 false
      (each [0, 1] State.adcBack s).failWinMove.endDeferred (fun _ => true) Status.abortedFault

/-- CORE_TRAP. -/
def execCoreTrap (core : Fin 8) (cause : W16) (s : State) : Host.Outcome State Fault Refusal :=
  done <| s.live (State.trap core.val cause.toNat)

/-- CORE_WATCHDOG_EXPIRY: 100 ms without a restart are a trap, whose cause the manual does not number (R375). -/
def execCoreWatchdogExpiry (core : Fin 8) (s : State) : Host.Outcome State Fault Refusal :=
  done <| s.live fun s =>
    let k := core.val
    if s.coreState k = 1 ∧ s.mgt.dogs.get (fun _ => 0) k + 80000000 ≤ s.beat.lbc then
      let d := s.draw
      d.2.trap k d.1.toNat
    else s

/-- WATCHDOG_RESTART: firmware restarts its own, and an applet's through its service, which waits for READY (R375, R377). -/
def execWatchdogRestart (core : Fin 8) (s : State) : Host.Outcome State Fault Refusal :=
  done <| s.live fun s =>
    let k := core.val
    if s.coreState k ≠ 1 then s
    else if k < 2 ∨ s.ready then s.restartDog k
    else s.withMgt fun m => { m with requests := m.requests ++ [.watchdogRestart core] }

/-- The image fails the checks of R378. -/
def State.imageBad (s : State) (a : Nat) : Bool :=
  let h := s.mem a 64
  let va := leAt h 8 8
  let entry := leAt h 0x10 8
  let n := leAt h 0x18 4
  !(s.inGddr a 64) || leAt h 0 4 != 0x50415A44 || leAt h 4 2 != 1 || !(zeroAt h 6 2) || !(zeroAt h 0x24 28) || va % 4096 != 0 ||
  !(decide (va ≤ entry) && decide (entry < va + n)) || !(s.inGddr a (64 + n)) || (crc32 (s.mem (a + 64) n)).toNat != leAt h 0x20 4

/-- The grants of the other applets overlap a mask. -/
def State.grantedElse (s : State) (k : Nat) (f : Grant → Nat) (m : Nat) : Bool :=
  [2, 3, 4, 5, 6, 7].any (fun j => j != k && (s.grant j).count != 0 && f (s.grant j) &&& m != 0)

/-- The first thread of a free range of `n`, lowest first (log entry 26). -/
def State.freeRange (s : State) (n : Nat) : Option Nat :=
  ((List.range 769).map (256 + ·)).find? (fun a => decide (a + n ≤ 1024) &&
    [2, 3, 4, 5, 6, 7].all (fun j => let g := s.grant j; decide (g.count = 0) || decide (g.first + g.count ≤ a) || decide (a + n ≤ g.first)))

/-- MGT_APPLET_LOAD: the image is checked and the grant made; the core starts at the final completion. The memory that
firmware gives the applet, and the tables that map it, are firmware's own (log entry 41). -/
def execMgtAppletLoad (iss : Issuer) (image : W64) (core threads engines queues : Byte) (sites quota : W32) (s : State) :
    Host.Outcome State Fault Refusal :=
  let k := core.toNat
  let a := image.toNat
  let badK := k < 2 || 7 < k
  let bad := badK || decide (a % 8 ≠ 0) || threads == 0 || decide (128 < threads.toNat) || quota == 0 || decide (4096 < quota.toNat) ||
    s.imageBad a || s.grantedElse k (fun g => g.sites.toNat) sites.toNat || s.grantedElse k (fun g => g.engines) engines.toNat ||
    s.grantedElse k (fun g => g.queues) queues.toNat
  let used := ([2, 3, 4, 5, 6, 7].map (fun j => (s.grant j).quota)).foldl (· + ·) 0
  let range := s.freeRange threads.toNat
  let full := range.isNone || decide (s.backed / 0x100000 < used + quota.toNat) || !(s.mayTake 5 1)
  done <| s.command iss 0x0C01 (s.feature 5 && iss.mb != 16)
    [(bad, Status.badArgument), (!badK && s.coreState k != 0, Status.wrongState), (full, Status.noResource)] fun s =>
    let h := s.mem a 64
    let g : Grant := ⟨range.getD 256, threads.toNat, engines.toNat, queues.toNat, sites, quota.toNat, leAt h 0x10 8⟩
    let s := s.withMgt fun m => { m with grants := m.grants.set (fun _ => { }) k g }
    s.defer iss (.mgtAppletLoad iss image core threads engines queues sites quota) 0 [g.first, leAt h 0x20 4]

/-- The end of MGT_APPLET_LOAD: the image's bytes stand at LOAD_VA with ZERO_LEN zeroed bytes after them, in the address space that
firmware builds for the applet from pages of its own, and the core enters RUN at ENTRY_VA (R378; where firmware puts them, log entry 41).
Where firmware has no pages for it, the grant returns and the command ends with NO_RESOURCE. -/
def State.appletStart (d : Deferred) (k image : Nat) (s : State) : State :=
  if (s.grant k).count = 0 ∨ s.coreState k ≠ 0 then s.finish d Status.ok d.data
  else
    let h := s.mem image 64
    let n := leAt h 0x18 4
    let z := leAt h 0x1C 4
    let l := s.mem (image + 64) n
    let p := ceilDiv (n + z) 4096
    match s.takePages k (p + tablePages p) [(image, image + 64 + n)] with
    | (none, s) => (s.withMgt fun m => { m with grants := m.grants.set (fun _ => { }) k { } }).finish d Status.noResource []
    | (some a, s) =>
      let root := a + 4096 * p
      let s := (s.setMem a (l ++ List.replicate z 0)).setMem root (List.replicate 4096 0)
      let s := State.mapPages root p (leAt h 8 8) a (root + 4096) s
      (((s.invalidate k).setReg64 .MGT_ASID_ROOT k (BitVec.ofNat 64 root)).startCore k).finish d Status.ok d.data

/-- MGT_APPLET_STOP. -/
def execMgtAppletStop (iss : Issuer) (core : Byte) (s : State) : Host.Outcome State Fault Refusal :=
  let k := core.toNat
  let bad := k < 2 || 7 < k
  done <| s.command iss 0x0C02 true [(bad, Status.badArgument), (!bad && s.coreState k == 0, Status.wrongState)] fun s =>
    s.defer iss (.mgtAppletStop iss core) 0 [(s.grant k).count, (s.grant k).quota]

/-- MGT_CORE_DUMP: the register state of a TRAPPED applet core, whose layout is not in this manual. -/
def execMgtCoreDump (iss : Issuer) (dest : W64) (core : Byte) (s : State) : Host.Outcome State Fault Refusal :=
  let k := core.toNat
  let bad := k < 2 || 7 < k
  let n := (Config.coreDumpLength k).val
  done <| s.command iss 0x0C04 true
    [(bad || s.badRam dest 8 n, Status.badArgument), (!bad && s.coreState k != 2, Status.wrongState)] fun s =>
    let key := s.mgt.dumps.get (fun _ => 0) k
    (s.setMem dest.toNat ((List.range n).map (Config.coreDumpByte key))).complete iss Status.ok [n]

end Sys2Proof.Machine
end

