-- ==== Sys2Proof/Machine/Thm.lean ====
section
/-! DEFINITION. Temperature, the power limit and shutdown (17_thermal). -/

namespace Sys2Proof.Machine

/-! ### Sensors (R419 to R423) -/

/-- A sensor's judgement in progress. -/
def State.sensor (s : State) (i : Nat) : Sensor := s.thm.sensors.get (fun _ => { }) i
/-- A sensor changed. -/
def State.modSensor (i : Nat) (f : Sensor → Sensor) (s : State) : State :=
  s.withThm fun t => { t with sensors := t.sensors.set (fun _ => { }) i (f (s.sensor i)) }
/-- A sensor's factory factors, from the factory area of the store (R410, R420). -/
def State.factors (s : State) (i : Nat) : Factors :=
  let l := s.norBytes (factorsAt i) 16
  let v (k : Nat) : Int := signed 32 (leAt l (4 * k) 4)
  ⟨v 0, v 1, v 2, v 3⟩

/-- The neighbours of a sensor on the grid of 6 rows and 8 columns (R419). -/
def neighbours (i : Nat) : List Nat :=
  (if i % 8 = 0 then [] else [i - 1]) ++ (if i % 8 = 7 then [] else [i + 1]) ++ (if i < 8 then [] else [i - 8]) ++ (if 40 ≤ i then [] else [i + 8])

/-- The temperature that a count stands for, as a fraction of 1/4 °C with a positive denominator (R420). -/
def Factors.ratio (x : Factors) (f : Int) : Int × Int :=
  let d := x.f2 - x.f1
  let n := 4 * (x.t1 * d + (f - x.f1) * (x.t2 - x.t1))
  if d < 0 then (-n, -d) else (n, d)

/-- The reading in 1/4 °C, ties away from zero (R420). -/
def Factors.reading (x : Factors) (f : Int) : Int := let r := x.ratio f; roundDiv r.1 r.2

/-- The count lies in the valid band, -40 °C to 150 °C. -/
def Factors.inBand (x : Factors) (f : Int) : Bool :=
  let r := x.ratio f
  decide (r.2 ≠ 0) && decide (-160 * r.2 ≤ r.1) && decide (r.1 ≤ 600 * r.2)

/-- A list of readings in ascending order. -/
def ascending (l : List Int) : List Int := l.mergeSort (fun a b => decide (a ≤ b))

/-- The median of some readings; which value between the two middle ones of an even number is open (log entry 18). -/
def median (l : List Int) : Int :=
  let l := ascending l
  let n := l.length
  let a := l.getD (n / 2 - 1) 0
  let b := l.getD (n / 2) 0
  if n % 2 = 1 then b else max a (min b (Config.evenMedian a b))

/-- The highest of some readings. -/
def highest : List Int → Option Int
  | [] => none
  | x :: r => match highest r with | none => some x | some y => some (max x y)

/-- A sensor is judged failed (R421). -/
def State.sensorFailed (s : State) (i : Nat) : Bool := s.bitOf THM_TEMP_FAILED i
/-- The failed sensors. -/
def State.failedCount (s : State) : Nat := ((List.range 48).filter s.sensorFailed).length

/-- T_hot in 1/4 °C (R422). -/
def State.tHot (s : State) : Int := signed 16 (s.fieldOf THM_HOT_TEMP 0)
/-- A conversion has been made. -/
def State.converted (s : State) : Bool := s.fieldOf THM_HOT_TEMP 0 != 0x8000
/-- A sensor's value in force in 1/4 °C. -/
def State.temp (s : State) (i : Nat) : Int := signed 16 (s.fieldOf THM_TEMP_TEMP i)

/-! ### The power limit (R424 to R426) -/

/-- THM_PLIM_STAT.PLIM recomputed; a change raises its event. -/
def State.setPlim (s : State) : State :=
  let forced := if s.bitOf THM_PLIM_STAT_FORCED 0 then 8 else 0
  let n := max (s.fieldOf THM_PLIM_CFG_USER 0) (max (s.fieldOf THM_PLIM_STAT_THR 0) forced)
  let old := s.fieldOf THM_PLIM_STAT_PLIM 0
  let s := s.putField THM_PLIM_STAT_PLIM 0 n
  if old < n then s.event 1136 else if n < old then s.event 1137 else s

/-- UP_BLOCKED clears once no decrease of THR is withheld: THR is 0, no failed sensor is unacknowledged, or T_hot is not below 95 °C
(R425). -/
def State.unblock (s : State) : State :=
  if 0 < s.fieldOf THM_PLIM_STAT_THR 0 ∧ s.reg64 .THM_SNS_ACK 0 ≠ 0 ∧ s.converted ∧ s.tHot < 380 then s
  else s.putBit THM_PLIM_STAT_UP_BLOCKED 0 false

/-- The limit in force in mW. -/
def State.plimMw (s : State) : Nat := (260 - 8 * s.fieldOf THM_PLIM_STAT_PLIM 0) * 1000

/-- P_BURST: the estimates held for bursts (R427). -/
def State.pBurst (s : State) : Nat := s.seq.bursts.foldl (fun a b => a + b.2) 0
/-- P_RT. -/
def State.pRt (s : State) : Nat := s.fieldOf THM_P_BASE_MW 0 + s.pBurst

/-- A sensor fails: the mask, the fault and the event; the fifth forces step 8 (R421, R426). -/
def State.failSensor (i cause : Nat) (s : State) : State :=
  let m := BitVec.ofNat 64 (2 ^ i)
  let s := (s.putBit THM_TEMP_FAILED i true).setReg64 .THM_SNS_FAIL 0 (s.reg64 .THM_SNS_FAIL 0 ||| m)
  let s := s.setReg64 .THM_SNS_ACK 0 (s.reg64 .THM_SNS_ACK 0 ||| m)
  let s := (s.fault 14 1 0x0E01 (cause * 256 + i) 0).event (1136 + 5)
  if s.failedCount = 5 then ((s.putBit THM_PLIM_STAT_FORCED 0 true).fault 14 2 0x0E02 5 0).event (1136 + 6) else s

/-- A sensor's count, and for how many conversions it has been the same (R421). -/
def State.noteCount (i f : Nat) (s : State) : State :=
  s.modSensor i fun x => { x with raw := some f, same := if x.raw = some f then x.same + 1 else 1 }

/-- The causes of R421 that a sensor's own counts give, as bits of the fault's detail. -/
def State.ownCause (s : State) (i f : Nat) : Nat :=
  (if (s.factors i).inBand f then 0 else 1) + (if 10000 ≤ (s.sensor i).same then 4 else 0)

/-- The readings of the sensors among some that have not failed. -/
def State.validReadings (s : State) (read : Nat → Int) (l : List Nat) : List Int := (l.filter (fun j => !(s.sensorFailed j))).map read

/-- For how many conversions a sensor has been off the median of its valid neighbours (R421). -/
def State.noteNeighbours (valid : Nat → Bool) (read : Nat → Int) (i : Nat) (s : State) : State :=
  let l := ((neighbours i).filter valid).map read
  s.modSensor i fun x => { x with off := if 2 ≤ l.length ∧ 60 < (read i - median l).natAbs then x.off + 1 else 0 }

/-- A sensor not failed before is judged by all the tests of R421 together: its own causes, and the neighbours' (2). -/
def State.judgeSensor (own : Nat → Nat) (i : Nat) (s : State) : State :=
  let cause := own i + (if 100 ≤ (s.sensor i).off then 2 else 0)
  if s.sensorFailed i ∨ cause = 0 then s else s.failSensor i cause

/-- The sensors judged at a conversion: a neighbour is valid where it has not failed before and its own counts give no cause now. -/
def State.judgeSensors (counts : List Nat) (read : Nat → Int) (s : State) : State :=
  let s := each (List.range 48) (fun i => State.noteCount i (counts.getD i 0)) s
  let own (i : Nat) : Nat := s.ownCause i (counts.getD i 0)
  let valid (i : Nat) : Bool := !(s.sensorFailed i) && own i == 0
  each (List.range 48) (State.judgeSensor own) (each (List.range 48) (State.noteNeighbours valid read) s)

/-- The value in force of a sensor (R421); of a die without a valid sensor it is open. -/
def State.valueOf (read : Nat → Int) (i : Nat) (s : State) : Int × State :=
  if !(s.sensorFailed i) then (read i, s)
  else match highest (s.validReadings read (neighbours i)) with
    | some t => (t + 40, s)
    | none =>
      match highest (s.validReadings read (List.range 48)) with
      | some t => (t + 40, s)
      | none => let d := s.draw; (signed 16 d.1.toNat, d.2)

/-- The hottest of the sensors, the lowest-numbered first. -/
def State.hottest (s : State) : Nat := (List.range 48).foldl (fun b i => if s.temp b < s.temp i then i else b) 0

/-! ### Deferral (R428) -/

/-- A class deferred or resumed. -/
def State.setClass (j : Nat) (b : Bool) (s : State) : State :=
  let m := s.fieldOf THM_PLIM_STAT_DEFER 0
  s.putField THM_PLIM_STAT_DEFER 0 (if b then m ||| 2 ^ j else m &&& (15 - 2 ^ j))
/-- P_NRT: the estimates of the classes that run. -/
def State.pNrt (s : State) : Nat :=
  (List.range 4).foldl (fun a j => if s.classDeferred j then a else a + s.thm.estimates.getD j 0) 0

/-- Classes resume in reverse order while they fit with 4 W to spare. -/
def State.resumeClasses : List Nat → State → State
  | [], s => s
  | j :: r, s =>
    if !(s.classDeferred j) then State.resumeClasses r s
    else if s.pRt + s.pNrt + s.thm.estimates.getD j 0 + 4000 ≤ s.plimMw then State.resumeClasses r (s.setClass j false)
    else s

/-- The deferrals of a conversion: one more class where the sum exceeds PLIM, else the resumptions that fit (log entry 34). -/
def State.powerDeferral (s : State) : State :=
  let any (s : State) : Bool := s.fieldOf THM_PLIM_STAT_DEFER 0 != 0
  let was := any s
  let s := if s.plimMw < s.pRt + s.pNrt then
      match [0, 1, 2, 3].find? (fun j => !(s.classDeferred j)) with
      | some j => (s.setClass j true).event (1136 + 2)
      | none => s
    else s.resumeClasses [3, 2, 1, 0]
  let s := s.putField THM_P_NRT_MW 0 s.pNrt
  if was && !(any s) then s.event (1136 + 3) else s

/-! ### Shutdown (R430 to R432) -/

/-- The shutdown record but for byte 7 and its CRC (R432). -/
def State.shutdownRecord (s : State) (sensor : Nat) : List Byte :=
  let t := s.ntu
  [0x44#8, 0x5A#8, 0x53#8, 0x44#8] ++ leBytes 2 1 ++ leBytes 1 sensor ++ leBytes 1 0 ++ leBytes 8 s.beat.lbc ++
  leBytes 6 t.sec ++ leBytes 2 (t.frac / 65536) ++ leBytes 4 t.ns ++ leBytes 1 t.epoch ++
  leBytes 1 (s.fieldOf THM_PLIM_STAT_THR 0) ++ leBytes 1 (s.fieldOf THM_PLIM_STAT_PLIM 0) ++ leBytes 1 (s.fieldOf THM_PLIM_CFG_USER 0) ++
  (List.range 48).flatMap (fun i => leBytes 2 (if s.sensorFailed i then 0x8000 else s.fieldOf THM_TEMP_TEMP i)) ++
  (List.range 32).flatMap (fun d => leBytes 2 (s.fieldOf THM_G_TEMP_TEMP d)) ++
  leBytes 8 (s.reg64 .THM_SNS_FAIL 0).toNat ++ leBytes 4 s.pRt ++ List.replicate 48 0

/-- Shutdown begins: the C3 fault, the fast ramp of the supplies, and the cores stopped (R430, R431). -/
def State.beginShutdown (i : Nat) (s : State) : State :=
  if s.shutDown then s
  else
    let rec_ := s.shutdownRecord i
    let s := s.fault 14 3 0x0E03 (s.fieldOf THM_TEMP_TEMP i * 65536 + i) 0
    let s := (s.supRampAll true).putField HST_STATE_FW_STATE 0 2
    let s := each (List.range 8) (fun k => State.putField MGT_CORE_STAT_STATE k 0) s
    s.withThm fun t => { t with shutdown := some rec_ }

/-- THM_CONVERSION: every 8,000 beats all sensors convert; they are judged, T_hot found, and shutdown, the warning and
the deferrals follow (R420 to R422, R428, R430). -/
def execThmConversion (counts estimates : List Nat) (s : State) : Host.Outcome State Fault Refusal :=
  done <| s.live fun s =>
    let b := s.beat.lbc
    let due := match s.thm.lastConv with | some a => decide (a + 8000 ≤ b) | none => true
    if !due ∨ counts.length ≠ 48 then s
    else
      let read (i : Nat) : Int := (s.factors i).reading (counts.getD i 0)
      let s := s.withThm fun t => { t with lastConv := some b, estimates := estimates }
      let s := s.judgeSensors counts read
      let s := each (List.range 48) (fun i s => let r := s.valueOf read i; r.2.putField THM_TEMP_TEMP i (twos 16 r.1)) s
      let was := s.converted && decide (4 * (s.fieldOf THM_CFG_WARN 0 : Int) < s.tHot)
      let h := s.hottest
      let s := (s.putField THM_HOT_SENSOR 0 h).putField THM_HOT_TEMP 0 (s.fieldOf THM_TEMP_TEMP h)
      let s := if !was && decide (4 * (s.fieldOf THM_CFG_WARN 0 : Int) < s.tHot) then s.event (1136 + 7) else s
      let s := each (List.range 48) (fun i s =>
        let hot := !(s.sensorFailed i) && decide (500 ≤ read i)
        s.modSensor i fun x => { x with hot := if hot then x.hot + 1 else 0 }) s
      let s := match (List.range 48).find? (fun i => decide (2 ≤ (s.sensor i).hot)) with
        | some i => s.beginShutdown i
        | none => s
      s.setPlim.powerDeferral.unblock

/-- A throttle tick that is due: at a beat whose LBC is a multiple of 8,000,000 THR follows T_hot, once (R425). -/
def State.throttle (s : State) : State :=
  let b := s.beat.lbc
  if b % 8000000 ≠ 0 ∨ s.thm.lastTick = some b then s
  else
    let s := s.withThm fun t => { t with lastTick := some b }
    let thr := s.fieldOf THM_PLIM_STAT_THR 0
    let calm : Bool := match s.thm.raisedAt with | some a => decide (a + 80000000 ≤ b) | none => true
    let s := s.unblock
    if 400 < s.tHot ∧ s.converted then
      if thr = 15 then s
      else ((s.putField THM_PLIM_STAT_THR 0 (thr + 1)).withThm fun t => { t with raisedAt := some b }).setPlim
    else if b % 80000000 = 0 ∧ s.converted ∧ s.tHot < 380 ∧ calm then
      let held := decide (0 < thr) && s.reg64 .THM_SNS_ACK 0 != 0
      let s := s.putBit THM_PLIM_STAT_UP_BLOCKED 0 held
      if held then s else (s.putField THM_PLIM_STAT_THR 0 (thr - 1)).setPlim
    else s

/-- THROTTLE_TICK. -/
def execThrottleTick (s : State) : Host.Outcome State Fault Refusal := done <| s.live State.throttle

/-- P_BASE_RECOMPUTE: firmware's estimate of the work that is neither burst nor deferrable (R427). -/
def execPBaseRecompute (milliwatts : Nat) (s : State) : Host.Outcome State Fault Refusal :=
  done <| s.live fun s => if s.ready then s.putField THM_P_BASE_MW 0 (min milliwatts (2 ^ 20 - 1)) else s

/-! ### The shutdown log (R432, R433) -/

/-- The pages of the shutdown log. -/
def logPages : List Nat := (List.range 4096).map (fun i => 0x1D00000 + 256 * i)

/-- A page lies in a block whose erase was abandoned: undefined and invalid (R416). -/
def State.abandonedAt (s : State) (a : Nat) : Bool := s.cal.abandoned.contains (a / 0x10000 * 0x10000)

/-- A page holds a shutdown record whose MAGIC and CRC are correct. -/
def State.logValid (s : State) (a : Nat) : Bool :=
  let l := s.norBytes a 256
  !(s.abandonedAt a) && leAt l 0 4 == 0x44535A44 && (crc32 (l.take 0xFC)).toNat == leAt l 0xFC 4

/-- A page is fully erased. -/
def State.erased (s : State) (a : Nat) : Bool := !(s.nor.any (fun p => decide (a ≤ p.1) && decide (p.1 < a + 256)))

/-- The valid records of the log, in order of their pages. -/
def State.logRecords (s : State) : List Nat :=
  logPages.filter (fun a => !(s.erased a) && s.logValid a)

/-- The blocks of the log that are neither erased nor hold a valid record (17_thermal, after R433). -/
def State.logUnsound (s : State) : List Nat :=
  ((List.range 16).map (fun i => 0x1D00000 + 0x10000 * i)).filter fun b =>
    let l := (List.range 256).map (fun i => b + 256 * i)
    !(l.all s.erased && !(s.abandonedAt b)) && !(l.any (fun a => !(s.erased a) && s.logValid a))

/-- THM_STAT as firmware sets it at boot and after a clear (R433). -/
def State.countLog (s : State) : State :=
  let n := s.logRecords.length
  (s.putBit THM_STAT_SD_LOG 0 (decide (0 < n))).putField THM_STAT_RECORDS 0 n

/-- The page of the newest record. Each record goes into the first erased page, so the newest is the last one before the first erased
page, or, where none stands there, the last of the log (DEDUCED, log entry 35). -/
def State.newestPage (s : State) : Option Nat :=
  let first := (logPages.find? s.erased).getD 0x1E00000
  match (s.logRecords.filter (fun a => decide (a < first))).getLast? with
  | some a => some a
  | none => s.logRecords.getLast?

/-- The newest record's LBC. -/
def State.newestLbc (s : State) : Nat := match s.newestPage with | some a => leAt (s.norBytes a 256) 8 8 | none => 0

/-- What SYS_SHUTDOWN_LOG_READ does once it runs: records copied, and the log's counts. -/
def State.readLog (dest first count : Nat) (s : State) : List Nat × State :=
  let recs := s.logRecords
  let l := if dest = 0 then [] else (recs.drop first).take count
  let t := each l.zipIdx (fun p => State.setMem (dest + 256 * p.2) (s.norBytes p.1 256)) s
  ([l.length, recs.length, (logPages.filter s.erased).length, s.newestLbc % 2 ^ 32, s.newestLbc / 2 ^ 32], t)

/-- SYS_SHUTDOWN_LOG_READ: at once for at most 16 records, else later. -/
def execSysShutdownLogRead (iss : Issuer) (dest : W64) (first count : W16) (s : State) : Host.Outcome State Fault Refusal :=
  let bad := (dest != 0 && s.badRam dest 8 (256 * count.toNat)) || decide (4095 < first.toNat) || decide (4096 < count.toNat)
  done <| s.command iss 0x8030 true [(bad, Status.badArgument)] fun s =>
    if count.toNat ≤ 16 then let r := s.readLog dest.toNat first.toNat count.toNat; r.2.complete iss Status.ok r.1
    else s.defer iss (.sysShutdownLogRead iss dest first count) 0 []

end Sys2Proof.Machine
end

