-- ==== Sys2Proof/Machine/Store.lean ====
section
/-! DEFINITION. The non-volatile store: slots, store writes, profiles, firmware images and the shutdown log (R71 to R73,
R410 to R418, R430 to R433, R461 to R464). -/

namespace Sys2Proof.Machine

/-! ### Slots (R410 to R412) -/

/-- The size of a slot of a set (0 to 18) or a profile (0x21 to 0x23). -/
def slotSize (id : Nat) : Nat := if id < 16 then 0x30000 else if id < 19 then 0x10000 else 0x20000

/-- The store offset of slot `k` of a set or a profile. -/
def slotBase (id k : Nat) : Nat :=
  if id < 16 then 0x1500000 + (2 * id + k) * 0x30000
  else if id < 19 then 0x1B00000 + (2 * (id - 16) + k) * 0x10000
  else 0x1400000 + (2 * (id - 0x21) + k) * 0x20000

/-- The length of a set's body (R411). -/
def bodyLen (id : Nat) : Nat := if id < 16 then 165280 else if id = 16 then 2560 else if id = 17 then 20 else 336

/-- A slot is valid: both MAGICs, equal SEQs and the three CRCs, and no erase of it was abandoned (R412, R416). -/
def State.slotValid (s : State) (a size : Nat) : Bool :=
  let h := s.norBytes a 256
  let c := s.norBytes (a + size - 256) 256
  let n := leAt h 0x0C 4
  leAt h 0 4 == 0x53435A44 && leAt c 0 4 == 0x4D435A44 && leAt h 8 4 == leAt c 4 4 && decide (n + 512 ≤ size) &&
  leAt c 8 4 == (crc32 h).toNat && leAt c 0x0C 4 == (crc32 (c.take 12)).toNat &&
  leAt h 0x10 4 == (crc32 (s.norBytes (a + 256) n)).toNat &&
  !(s.cal.abandoned.any (fun b => decide (a ≤ b) && decide (b < a + size)))

/-- SEQ of a slot. -/
def State.slotSeq (s : State) (a : Nat) : Nat := leAt (s.norBytes a 256) 8 4

/-- The slot in force of a set or a profile: the valid one with the higher SEQ (R414). -/
def State.slotInForce (s : State) (id : Nat) : Option Nat :=
  let ok (k : Nat) : Bool := s.slotValid (slotBase id k) (slotSize id)
  match ok 0, ok 1 with
  | true, true => some (if s.slotSeq (slotBase id 0) < s.slotSeq (slotBase id 1) then 1 else 0)
  | true, false => some 0
  | false, true => some 1
  | false, false => none

/-- The body in the slot in force. -/
def State.slotBody (s : State) (id k : Nat) : List Byte :=
  let a := slotBase id k
  s.norBytes (a + 256) (leAt (s.norBytes a 256) 0x0C 4)

/-- A header page (R412). -/
def headerPage (id seq validT sec : Nat) (body : List Byte) : List Byte :=
  [0x44#8, 0x5A#8, 0x43#8, 0x53#8] ++ leBytes 1 id ++ leBytes 1 1 ++ leBytes 2 0 ++ leBytes 4 seq ++ leBytes 4 body.length ++
  leBytes 4 (crc32 body).toNat ++ leBytes 1 validT ++ leBytes 3 0 ++ leBytes 8 sec ++ List.replicate 224 0

/-- What a commit record page programs; the rest of it stays erased (R412). -/
def commitPage (seq : Nat) (header : List Byte) : List Byte :=
  let l := [0x44#8, 0x5A#8, 0x43#8, 0x4D#8] ++ leBytes 4 seq ++ leBytes 4 (crc32 header).toNat
  l ++ leBytes 4 (crc32 l).toNat

/-- Bytes cut into pages of 256. -/
def pages : Nat → List Byte → List (List Byte)
  | 0, _ => []
  | n + 1, l => if l.isEmpty then [] else l.take 256 :: pages n (l.drop 256)

/-- The steps that program a body page by page. -/
def programSteps (id a : Nat) (l : List Byte) : List StoreStep :=
  (pages (l.length / 256 + 1) l).zipIdx.map (fun p => ⟨.program, id, a + 256 * p.2, p.1⟩)

/-- The steps that erase `size` bytes block by block. -/
def eraseSteps (id a size : Nat) : List StoreStep := (List.range (size / 0x10000)).map (fun i => ⟨.erase, id, a + 0x10000 * i, []⟩)

/-- The steps of a write to the slot not in force, and its SEQ (R413). -/
def State.slotSteps (s : State) (id validT : Nat) (body : List Byte) : List StoreStep × Nat :=
  let k := match s.slotInForce id with | some k => 1 - k | none => 0
  let seq := match s.slotInForce id with | some k => s.slotSeq (slotBase id k) + 1 | none => 1
  let a := slotBase id k
  let h := headerPage id seq validT s.ntu.sec body
  (eraseSteps id a (slotSize id) ++ programSteps id (a + 256) body ++
    [⟨.program, id, a, h⟩, ⟨.verify, id, a, []⟩, ⟨.program, id, a + slotSize id - 256, commitPage seq h⟩, ⟨.inForce, id, k, []⟩], seq)

/-! ### Store writes (R413 to R417) -/

/-- A store write is running, or a calibration run with STORE is pending or running (R417). -/
def State.storeBusy (s : State) : Bool :=
  s.cal.store.isSome || s.hst.deferred.any (fun d => match d.cmd with | .calRun _ _ _ _ flags _ => flags.getLsbD 0 | _ => false)

/-- The temperature part of the window (R415). -/
def State.storeWindow (s : State) : Bool :=
  s.converted && decide (s.tHot ≤ 380) && (List.range 48).all (fun i => s.sensorFailed i || decide (0 ≤ s.temp i))

/-- A store write begins: its command waits, and its first step is due. -/
def State.beginStore (iss : Issuer) (cmd : Instr) (steps : List StoreStep) (res : List Nat) (s : State) : State :=
  let s := s.defer iss cmd 0 []
  (s.withCal fun c => { c with store := some ⟨cmd, steps, false, res⟩, touched := [] }).putBit CAL_STAT_STORE_BUSY 0 true

/-- A store write ends with a status. -/
def State.endStore (j : StoreJob) (status : Nat) (res : List Nat) (s : State) : State :=
  let s := (s.withCal fun c => { c with store := none }).putBit CAL_STAT_STORE_BUSY 0 false
  s.modDeferred (fun d => d.cmd == j.cmd && d.outcome.isNone) fun d => { d with outcome := some (status, res), started := true }

/-- A set's slot has entered force (R414, R418). -/
def State.enterForce (id k : Nat) (s : State) : State :=
  if 18 < id then s
  else
    let s := (s.putField CAL_SET_STAT_SOURCE id 2).putField CAL_SET_STAT_SLOT id k
    let s := s.putBit CAL_SET_STAT_DIRTY id (s.cal.touched.contains id)
    s.setReg .CAL_SET_SEQ id 0 (BitVec.ofNat 32 (s.slotSeq (slotBase id k)))

/-- The steps at the front that need no access of the store are carried out; with none left the write ends. -/
def State.settleStore (j : StoreJob) : List StoreStep → State → State
  | [], s => s.endStore j Status.ok j.res
  | x :: r, s =>
    match x.op with
    | .inForce => State.settleStore j r (s.enterForce x.id x.addr)
    | .recount => State.settleStore j r s.countLog
    | _ => s.withCal fun c => { c with store := some { j with steps := x :: r } }

/-- One erase or program. -/
def State.storeAccess (x : StoreStep) (s : State) : State :=
  if x.op = .erase then
    (s.eraseNor x.addr (x.addr + 0x10000)).withCal fun c => { c with abandoned := c.abandoned.filter (· != x.addr) }
  else s.setNor x.addr x.data

/-- STORE_WRITE: the next erase, page program or read-back of the write in progress, with the window checked before each
access (R413, R415, R464); none once a shutdown has begun (R416). -/
def execStoreWrite (facts : RunFacts) (s : State) : Host.Outcome State Fault Refusal :=
  done <| s.live fun s =>
    match s.cal.store with
    | none => s
    | some j =>
      if s.shutDown then s
      else match j.steps with
      | [] => s.endStore j Status.ok j.res
      | x :: r =>
        if x.op = .verify then
          if facts.readBackOk then s.settleStore j r
          else
            let s := if x.id < 0x100 then s.fault 13 1 0x0D06 x.id 0 else s.fault 10 1 0x0A01 (x.id - 0x100) 0
            s.endStore j Status.abortedFault []
        else if !(s.storeWindow) || decide (facts.vddIo < 1710) then
          let s := when j.written (State.fault 13 0 0x0D05 (x.id % 256) 0) s
          s.endStore j Status.thermal []
        else (s.storeAccess x).settleStore { j with written := true } r

/-! ### Profiles (R71 to R73) -/

/-- The instances of a stem; those of an ADC stem number both converter blocks. -/
def Stem.instances (st : Stem) : List Nat :=
  let f := st.info
  if f.sub = 5 then List.range f.count ++ (List.range f.count).map (64 + ·) else List.range f.count

/-- The register words that a profile holds, with their instances; the delays only in P1 to P3 (log entry 45). -/
def profileRegs (own : Bool) : List (Stem × Nat) :=
  (profileStems ++ (if own then [Stem.NTU_DLY_TX, Stem.NTU_DLY_RX] else [])).flatMap (fun (st : Stem) => st.instances.map (fun i => (st, i)))

/-- A profile's body as the live configuration makes it: the pattern memory it needs, which the manual does not say how to
find, then its registers (its layout, log entry 17). -/
def State.profileBody (need : W64) (s : State) : List Byte :=
  leBytes 8 need.toNat ++ (profileRegs true).flatMap (fun r => leBytes 4 (s.reg r.1 r.2).toNat)

/-- The writes that applying a profile makes: those of P0 stand in the factory area (R71, R410). -/
def State.profileWrites (s : State) (p : Nat) : List Shadow :=
  if p = 0 then (profileRegs false).map (fun r => .reg (r.1.offset r.2 0) (BitVec.ofNat 32 (leAt (s.norBytes (p0At r.1 r.2) 4) 0 4)) 0xFFFFFFFF)
  else match s.slotInForce (0x20 + p) with
    | some k =>
      let l := s.slotBody (0x20 + p) k
      (profileRegs true).zipIdx.map (fun r => .reg (r.1.1.offset r.1.2 0) (BitVec.ofNat 32 (leAt l (8 + 4 * r.2) 4)) 0xFFFFFFFF)
    | none => []

/-- The pattern memory that a stored profile needs (R322). -/
def State.profileNeed (s : State) (p : Nat) : Nat :=
  if p = 0 then 0 else match s.slotInForce (0x20 + p) with | some k => leAt (s.slotBody (0x20 + p) k) 0 8 | none => 0

/-- A profile is not stored. -/
def State.profileEmpty (s : State) (p : Nat) : Bool := p != 0 && (s.slotInForce (0x20 + p)).isNone

/-- SYS_PROFILE_STORE. -/
def execSysProfileStore (iss : Issuer) (profile : Byte) (s : State) : Host.Outcome State Fault Refusal :=
  let p := profile.toNat
  done <| s.command iss 0x8021 true
    [(p == 0 || decide (3 < p), Status.badArgument), (s.storeBusy, Status.busy), (!(s.storeWindow), Status.thermal)] fun s =>
    let d := s.draw
    let w := d.2.slotSteps (0x20 + p) 1 (d.2.profileBody d.1)
    d.2.beginStore iss (.sysProfileStore iss profile) w.1 [w.2]

/-! ### The shutdown log and its record -/

/-- SYS_SHUTDOWN_LOG_CLEAR: the 16 blocks are erased. -/
def execSysShutdownLogClear (iss : Issuer) (s : State) : Host.Outcome State Fault Refusal :=
  done <| s.command iss 0x8031 true [(s.storeBusy, Status.busy), (!(s.storeWindow), Status.thermal)] fun s =>
    s.beginStore iss (.sysShutdownLogClear iss) (eraseSteps 0 0x1D00000 0x100000 ++ [⟨.recount, 0, 0, []⟩]) [16]

/-- The erase of a block is abandoned: its bytes are undefined, free values, and what it held is invalid (R416). -/
def State.abandonErase (b : Nat) (s : State) : State :=
  let s := each (List.range 0x2000) (fun i s => let d := s.draw; d.2.setNor (b + 8 * i) (leBytes 8 d.1.toNat)) s
  s.withCal fun c => { c with abandoned := c.abandoned ++ [b] }

/-- The store's program under way is completed or its erase abandoned (R416, R430); byte 7 of the shutdown record says which (R432). -/
def State.cutStore (s : State) : Nat × State :=
  match (match s.cal.store with | some j => j.steps.head? | none => none) with
  | some x =>
    if x.op = StoreOp.erase then (2, s.abandonErase x.addr)
    else if x.op = StoreOp.program then (1, s.storeAccess x) else (0, s)
  | none => (0, s)

/-- A shutdown record goes into the first erased page of the log, whole, or with bytes that are open where the program is cut. -/
def State.logRecord (l : List Byte) (programmed : Bool) (s : State) : State :=
  match logPages.find? (fun a => s.erased a && !(s.abandonedAt a)) with
  | some a =>
    if programmed then s.setNor a (l ++ leBytes 4 (crc32 l).toNat)
    else each (List.range 32) (fun i s => let d := s.draw; d.2.setNor (a + 8 * i) (leBytes 8 d.1.toNat)) s
  | none => s

/-- SHUTDOWN_RECORD_WRITE: what the store was doing settles (a program completes, an erase is abandoned), the record goes
into the first fully erased page of the log outside an abandoned block, and the latch holds THERM_N and PWROFF_REQ
(R416, R430). -/
def execShutdownRecordWrite (programmed : Bool) (s : State) : Host.Outcome State Fault Refusal :=
  done (match s.thm.shutdown with
    | none => s
    | some l =>
      let s := s.cutStore.2.logRecord (l.take 7 ++ leBytes 1 s.cutStore.1 ++ l.drop 8) programmed
      (s.withCal fun c => { c with store := none }).withThm fun t => { t with shutdown := none, latch := true })

/-! ### Firmware images (R461, R462, R464) -/

/-- The header of an image has its MAGIC, FORMAT and zero reserved fields, and a length that its body can have. -/
def imageHeadOk (h : List Byte) : Bool :=
  leAt h 0 4 == 0x57465A44 && leAt h 4 2 == 1 && zeroAt h 6 2 && zeroAt h 0x14 12 && zeroAt h 0xB4 3916 &&
  decide (1 ≤ leAt h 0x10 4) && decide (leAt h 0x10 4 ≤ 8384512)

/-- An image is valid (R462). -/
def imageOk (h body : List Byte) : Bool :=
  imageHeadOk h && Config.digestMatches body ((h.drop 0x20).take 48) && Config.signatureVerifies (h.take 0xB0) &&
  decide (Config.minimumSvn.toNat ≤ leAt h 0x0C 4)

/-- The store offset of a firmware slot. -/
def imageSlot (k : Nat) : Nat := 0x400000 + k * 0x800000

/-- HST_FW_STORE: the image is checked, then written to the slot not in force, header page 0 last (R464). -/
def execHstFwStore (iss : Issuer) (source : W64) (length : W32) (s : State) : Host.Outcome State Fault Refusal :=
  let a := source.toNat
  let n := length.toNat
  let img := s.mem a n
  let h := img.take 4096
  let bad := s.badGddr source 8 n || !(imageOk h (img.drop 4096)) || decide (n ≠ 4096 + leAt h 0x10 4)
  done <| s.command iss 0x0A30 true
    [(bad, Status.badArgument), (s.storeBusy, Status.busy), (!(s.storeWindow), Status.thermal)] fun s =>
    let k := match s.beat.image with | some k => 1 - k | none => 0
    let seq := match s.beat.image with | some k => leAt (s.norBytes (imageSlot k) 256) 0xB0 4 + 1 | none => 1
    let h := h.take 0xB0 ++ leBytes 4 seq ++ h.drop 0xB4
    let at_ := imageSlot k
    let id := 0x100 + k
    let steps := eraseSteps id at_ 0x800000 ++ programSteps id (at_ + 0x1000) (img.drop 4096) ++
      programSteps id (at_ + 256) (h.drop 256) ++ [⟨.verify, id, at_, []⟩, ⟨.program, id, at_, h.take 256⟩]
    s.beginStore iss (.hstFwStore iss source length) steps [k, seq % 2 ^ 32]

end Sys2Proof.Machine
end

