-- ==== Sys2Proof/Machine/Cal.lean ====
section
/-! DEFINITION. Calibration: the live sets, their interpolation, and calibration runs (16_calibration). -/

namespace Sys2Proof.Machine

/-! ### The live sets (R407, R411) -/

/-- A byte of a live set. -/
def State.liveBytes (s : State) (id off n : Nat) : List Byte := s.cal.live.getList liveDefault (0x40000 * id + off) n

/-- Bytes of a live set written. -/
def State.setLive (id off : Nat) (l : List Byte) (s : State) : State :=
  s.withCal fun c => { c with live := c.live.setList liveDefault (0x40000 * id + off) l }

/-- The bytes of one temperature set in a set's body. -/
def strideOf (id : Nat) : Nat := if id < 16 then 33056 else if id = 16 then 512 else 4

/-- A place of a pip record that holds an unsigned quantity: a tap code or a bin width (R411). -/
def unsignedPlace (id off : Nat) : Bool :=
  let r := off % 4132
  decide (id < 16) && ((decide (r < 3612) && decide (4 ≤ r % 516)) || (decide (3616 ≤ r) && decide (r < 4128)))

/-- A tap code (R402). -/
def tapPlace (id off : Nat) : Bool := let r := off % 4132; decide (id < 16) && decide (r < 3612) && decide (4 ≤ r % 516)

/-- A quantity of temperature set `j`. -/
def State.quantity (s : State) (id off size j : Nat) : Int :=
  let v := ofLE (s.liveBytes id (strideOf id * j + off) size)
  if unsignedPlace id off then v else signed (8 * size) v

/-- The nearest valid set at or below `j`. -/
def validBelow (v j : Nat) : Option Nat := ((List.range (j + 1)).filter (fun k => v.testBit k)).getLast?
/-- The nearest valid set at or above `j`. -/
def validAbove (v j : Nat) : Option Nat := (List.range 5).find? (fun k => decide (j ≤ k) && v.testBit k)

/-- The sets that interpolation at `t4` needs: below, above, and d (R407). -/
def brackets (t4 : Int) : Nat × Nat × Nat :=
  if t4 ≤ 160 then (0, 0, 0)
  else if 400 ≤ t4 then (4, 4, 0)
  else let j := ((t4 - 160) / 60).toNat; (j, j + 1, (t4 - 160 - 60 * j).toNat)

/-- Interpolation over the valid sets `v` (R407). -/
def interpolate (v : Nat) (get : Nat → Int) (t4 : Int) : Int :=
  let (j, k, d) := brackets t4
  match validBelow v j, validAbove v k with
  | some a, some b => get a + roundDiv ((get b - get a) * d) 60
  | some a, none => get a
  | none, some b => get b
  | none, none => get 0

/-- Interpolation lacks a valid set on a side (R407). -/
def outOfRange (v : Nat) (t4 : Int) : Bool :=
  let (j, k, _) := brackets t4
  (validBelow v j).isNone || (validAbove v k).isNone

/-- The valid temperature sets of a set. -/
def State.validT (s : State) (id : Nat) : Nat := s.fieldOf CAL_SET_STAT_VALID_T id

/-- The temperature of a pod in 1/4 °C: the mean of its valid sensors, ties away from zero (log entry 33), or the substitute
(R407); none before the first conversion. -/
def State.podTemp (s : State) (k : Nat) : Option Int :=
  let a := s.temp (2 * k)
  let b := s.temp (2 * k + 1)
  if !s.converted then none
  else match s.sensorFailed (2 * k), s.sensorFailed (2 * k + 1) with
    | true, false => some b
    | false, true => some a
    | _, _ => some (roundDiv (a + b) 2)

/-- The hottest valid sensor of the die, for SUP and REF values (R407). -/
def State.dieTemp (s : State) : Option Int :=
  if s.converted then highest (s.validReadings s.temp (List.range 48)) else none

/-- The temperature of a set's instances: a pod's, or the die's. -/
def State.setTemp (s : State) (id : Nat) : Option Int := if id < 16 then s.podTemp id else s.dieTemp

/-- No byte of a set differs from its nominal body. -/
def State.liveNominal (s : State) (id : Nat) : Bool :=
  !(s.cal.live.any (fun p => decide (0x40000 * id ≤ p.1) && decide (p.1 < 0x40000 * (id + 1))))

/-! ### The values in force (R408) -/

/-- The value of a quantity at a temperature. -/
def State.valueAt (s : State) (id off size : Nat) (t4 : Int) : Int := interpolate (s.validT id) (s.quantity id off size) t4

/-- A value moved toward its goal by at most `d`. -/
def toward (d : Nat) (v goal : Int) : Int := if goal < v then max goal (v - d) else min goal (v + d)

/-- The value that a place of a pip record holds in the nominal body. -/
def nominal (r : Nat) : Int :=
  if r < 3612 ∧ 4 ≤ r % 516 then 4 * ((r % 516 - 4) / 2 : Nat) else if 3616 ≤ r ∧ r < 4128 then 256 else 0

/-- A quantity in force of a channel, by its place in the pip record. -/
def State.force (s : State) (ch r : Nat) : Int := s.cal.force.get (fun k => nominal (k % 8192)) (8192 * ch + r)
/-- A quantity in force set. -/
def State.setForce (ch r : Nat) (v : Int) (s : State) : State :=
  s.withCal fun c => { c with force := c.force.set (fun k => nominal (k % 8192)) (8192 * ch + r) v }
/-- A path offset in force set. -/
def State.setOffset (ch p : Nat) (v : Int) (s : State) : State :=
  s.withCal fun c => { c with offs := c.offs.set (fun _ => 0) (7 * ch + p) v }

/-- The places of a pip record beside its path offsets and trims: tap codes, bins and the input-path delay. -/
def steadyPlaces : List (Nat × Nat) :=
  (List.range 7).flatMap (fun p => (List.range 256).map (fun f => (516 * p + 4 + 2 * f, 2))) ++ (List.range 256).map (fun f => (3616 + 2 * f, 2)) ++ [(4128, 4)]

/-- The user of a channel's values is idle: its site, or none (R408). -/
def State.userIdle (s : State) (ch : Nat) : Bool := !(s.bitOf TMG_CH_CFG_ASSIGNED ch) || s.idle (s.fieldOf TMG_CH_CFG_SITE ch)

/-- A channel's values follow new ones: at once where its user is idle; else offsets by at most 610 fs and trims by one
step, and tables not at all (R408). -/
def State.followChannel (ch : Nat) (value : Nat → Nat → Int) (s : State) : State :=
  let idle := s.userIdle ch
  let s := each (List.range 7) (fun p s =>
    let goal := value (516 * p) 4
    s.setOffset ch p (if idle then goal else toward 610 (s.calOffset ch p) goal)) s
  let s := each [3612, 3613] (fun r s => let goal := value r 1; s.setForce ch r (if idle then goal else toward 1 (s.force ch r) goal)) s
  if idle then each steadyPlaces (fun x s => s.setForce ch x.1 (value x.1 x.2)) s else s

/-- A pod's values follow its sets; a set that is nominal throughout is its own interpolation. -/
def State.followPod (k : Nat) (s : State) : State :=
  match s.podTemp k with
  | none => s
  | some t =>
    let s := s.putBit CAL_SET_STAT_RANGE k (outOfRange (s.validT k) t)
    each (List.range 8) (fun i s =>
      let ch := 8 * k + i
      if s.liveNominal k then
        if s.userIdle ch then s.withCal fun c => { c with
            offs := c.offs.clear (7 * ch) (7 * ch + 7), force := c.force.clear (8192 * ch) (8192 * ch + 8192) }
        else s.followChannel ch (fun r _ => nominal r)
      else s.followChannel ch (fun r n => s.valueAt k (4132 * i + r) n t)) s

/-- The supply trims and the reference correction follow their sets: a controller that is neither OFF nor TRIPPED moves by
one step, and the reference waits for both converters (R408). -/
def State.followRest (s : State) : State :=
  match s.dieTemp with
  | none => s
  | some t =>
    let s := (s.putBit CAL_SET_STAT_RANGE 16 (outOfRange (s.validT 16) t)).putBit CAL_SET_STAT_RANGE 17 (outOfRange (s.validT 17) t)
    let s := if s.liveNominal 16 ∧ s.cal.supForce = [] then s else each (List.range 32) (fun c s =>
      let idle := s.supState c == 0 || s.supState c == 4
      each (List.range 8) (fun j s =>
        let goal := s.valueAt 16 (16 * c + 2 * j) 2 t
        let old := s.cal.supForce.get (fun _ => 0) (8 * c + j)
        s.withCal fun x => { x with supForce := x.supForce.set (fun _ => 0) (8 * c + j) (if idle then goal else toward 1 old goal) }) s) s
    let v := s.valueAt 17 0 4 t
    if s.adcState 0 < 2 ∧ s.adcState 1 < 2 then s.withCal fun c => { c with refForce := v } else s

/-- Every value in force brought up to date. -/
def State.followAll (s : State) : State := (each (List.range 16) State.followPod s).followRest

/-- CAL_OFFSET_UPDATE: every 1 ms firmware recomputes the interpolated values (R408). -/
def execCalOffsetUpdate (s : State) : Host.Outcome State Fault Refusal :=
  done <| s.live fun s =>
    let b := s.beat.lbc
    let due := match s.cal.updated with | some a => decide (a + 800000 ≤ b) | none => true
    if !due ∨ !s.ready then s else (s.withCal fun c => { c with updated := some b }).followAll

/-! ### Loading sets (R414, R418) -/

/-- A set's live body taken from the factory copy. -/
def State.loadFactory (id : Nat) (s : State) : State :=
  let a := factoryBase id
  let l := s.nor.filter (fun p => decide (a ≤ p.1) && decide (p.1 < a + bodyLen id))
  s.withCal fun c => { c with
    live := l.foldl (fun t p => t.set liveDefault (0x40000 * id + (p.1 - a)) p.2) (c.live.clear (0x40000 * id) (0x40000 * (id + 1))) }

/-- A set's live body made nominal. -/
def State.loadNominal (id : Nat) (s : State) : State :=
  s.withCal fun c => { c with live := c.live.clear (0x40000 * id) (0x40000 * (id + 1)) }

/-- A set's live body taken from a slot. -/
def State.loadSlot (id k : Nat) (s : State) : State := s.setLive id 0 ((s.slotBody id k).take (bodyLen id))

/-- The fixed delays are those of set 18 (R411). -/
def State.loadDelays (s : State) : State :=
  let l := s.liveBytes 18 0 336
  each (List.range 42) (fun i s =>
    (s.setReg .NTU_DLY_TX i 0 (BitVec.ofNat 32 (leAt l (8 * i) 4))).setReg .NTU_DLY_RX i 0 (BitVec.ofNat 32 (leAt l (8 * i + 4) 4))) s

/-- A set as boot finds it: its slot in force, else the factory copy, else nothing (R414). -/
def State.bootSet (bad : BitVec 19) (id : Nat) (s : State) : State :=
  match s.slotInForce id with
  | some k =>
    let h := s.norBytes (slotBase id k) 256
    let s := ((s.loadSlot id k).putField CAL_SET_STAT_SOURCE id 2).putField CAL_SET_STAT_SLOT id k
    (s.putField CAL_SET_STAT_VALID_T id (leAt h 0x14 1)).setReg .CAL_SET_SEQ id 0 (BitVec.ofNat 32 (leAt h 8 4))
  | none =>
    let s := s.fault 13 1 0x0D03 id 0
    if id = 18 then ((s.loadNominal id).putField CAL_SET_STAT_SOURCE id 1).putField CAL_SET_STAT_VALID_T id 1
    else if bad.getLsbD id then
      ((s.loadNominal id).putField CAL_SET_STAT_SOURCE id 0).putField CAL_SET_STAT_VALID_T id 0 |>.fault 13 2 0x0D04 id 0
    else ((s.loadFactory id).putField CAL_SET_STAT_SOURCE id 1).putField CAL_SET_STAT_VALID_T id 31

/-- Boot loads sets 0 to 18 (R414, R463). -/
def State.bootSets (bad : BitVec 19) (s : State) : State :=
  ((each (List.range 19) (State.bootSet bad) (s.withCal fun c => { c with factoryBad := bad })).loadDelays).followAll

/-! ### CAL_STORE and CAL_RESTORE (R418) -/

/-- The sets that a calibration holds or waits for. -/
def calSets (scope : Byte) (inst : W32) : List Nat :=
  match scope.toNat with | 0 => maskList inst 16 | 1 => List.range 18 | 3 => [16] | _ => []

/-- A set is under calibration. -/
def State.setHeld (s : State) (id : Nat) : Bool :=
  s.hst.deferred.any (fun d => match d.cmd with | .calRun _ scope _ _ _ inst => (calSets scope inst).contains id | _ => false)

/-- The body of a live set as CAL_STORE records it; set 18 holds the delays as they stand. -/
def State.liveBody (s : State) (id : Nat) : List Byte :=
  if id = 18 then (List.range 42).flatMap (fun i => leBytes 4 (s.reg .NTU_DLY_TX i).toNat ++ leBytes 4 (s.reg .NTU_DLY_RX i).toNat)
  else s.liveBytes id 0 (bodyLen id)

/-- The steps that store some sets. -/
def State.storeSteps (s : State) (l : List Nat) : List StoreStep :=
  l.flatMap (fun id => (s.slotSteps id (if id = 18 then 1 else s.validT id) (s.liveBody id)).1)

/-- A mask of sets is empty or names none. -/
def badSets (m : W32) : Bool := m == 0 || decide (2 ^ 19 ≤ m.toNat)

/-- CAL_STORE. -/
def execCalStore (iss : Issuer) (sets : W32) (s : State) : Host.Outcome State Fault Refusal :=
  let l := maskList sets 19
  done <| s.command iss 0x0D02 true
    [(badSets sets, Status.badArgument), (s.storeBusy || l.any s.setHeld, Status.busy), (!(s.storeWindow), Status.thermal)]
    fun s => s.beginStore iss (.calStore iss sets) (s.storeSteps l) [sets.toNat]

/-- A set has no valid source of this kind. -/
def State.noSource (s : State) (source id : Nat) : Bool :=
  if source = 0 then s.fieldOf CAL_SET_STAT_SOURCE id != 2 else s.cal.factoryBad.getLsbD id

/-- CAL_RESTORE: accepted; the sets are restored at its end. -/
def execCalRestore (iss : Issuer) (sets : W32) (source : Byte) (s : State) : Host.Outcome State Fault Refusal :=
  let l := maskList sets 19
  let bad := badSets sets || decide (1 < source.toNat)
  done <| s.command iss 0x0D03 true
    [(bad, Status.badArgument), (l.any s.setHeld, Status.busy), (l.any (s.noSource source.toNat), Status.wrongState)]
    fun s => s.defer iss (.calRestore iss sets source) 0 []

/-- The sets restored from the slot in force or the factory copy; values take effect by R408. -/
def State.restoreSets (sets : W32) (source : Nat) (s : State) : State :=
  each (maskList sets 19) (fun id s =>
    let k := s.fieldOf CAL_SET_STAT_SLOT id
    let s := if source = 0 then
        (s.loadSlot id k).putField CAL_SET_STAT_VALID_T id (leAt (s.norBytes (slotBase id k) 256) 0x14 1)
      else (s.loadFactory id).putField CAL_SET_STAT_VALID_T id (if id = 18 then 1 else 31)
    let s := s.putBit CAL_SET_STAT_DIRTY id (source != 0 && s.fieldOf CAL_SET_STAT_SOURCE id == 2)
    if id = 18 then s.loadDelays else s) s

/-! ### Runs (R400 to R406, R409) -/

/-- The TDCs of a pod are DONE or IDLE; a start whose beat has not come does not postpone a calibration (R271, R404, R405). -/
def State.podTdcsRest (s : State) (k : Nat) : Bool :=
  (List.range 8).all (fun i => s.fieldOf TIA_STAT_STATE (8 * k + i) != 1)

/-- The work that a calibration of these instances waits for has ended (R404, R405). -/
def State.calFree (s : State) (scope : Byte) (inst : W32) : Bool :=
  match scope.toNat with
  | 0 => (maskList inst 16).all (fun k => (s.podSites k).all s.idle && s.podTdcsRest k)
  | 1 => (List.range 32).all s.idle && (List.range 16).all s.podTdcsRest && s.adcsFree [0, 1] && (List.range 32).all (fun c => s.supState c == 0)
  | 2 => s.adcsFree (maskList inst 2)
  | _ => (maskList inst 32).all s.supOwnerIdle

/-- A run of this scope may start: of POD, DEVICE and SUP one runs at a time, the recovery run among them, and one of scope ADC takes
no converter that a DEVICE run holds (R404, R405). -/
def State.mayRun (s : State) (scope : Byte) : Bool :=
  if scope = 2 then !s.deviceRuns else !s.cal.recal && !(s.hst.deferred.any s.calibrates)

/-- CAL_RUN. -/
def execCalRun (iss : Issuer) (scope mode set flags : Byte) (instances : W32) (s : State) : Host.Outcome State Fault Refusal :=
  let m := instances.toNat
  let badMask := match scope.toNat with | 0 => m == 0 || decide (65536 ≤ m) | 1 => m != 0 | 2 => m == 0 || decide (4 ≤ m) | _ => m == 0
  let bad := decide (3 < scope.toNat) || decide (1 < mode.toNat) || (scope != 2 && mode == 1 && decide (4 < set.toNat)) || decide (1 < flags.toNat) || badMask
  let busy := (scope != 2 && (s.cal.recal || s.hst.deferred.any runOf)) || (flags.getLsbD 0 && s.storeBusy)
  let wrong := (iss.nowait && !(s.calFree scope instances && s.mayRun scope)) || (scope == 3 && (maskList instances 32).any (fun c => s.supState c != 0))
  done <| s.command iss 0x0D01 true
    [(bad, Status.badArgument), (busy, Status.busy), (wrong, Status.wrongState)]
    (State.defer iss (.calRun iss scope mode set flags instances) 0 [])

/-- A run holds the comparators of a controller (R404). -/
def State.supCalibrates (s : State) (k : Nat) : Bool :=
  s.hst.deferred.any (fun d => s.calibrates d && (match d.cmd with
    | .calRun _ scope _ _ _ inst => scope == 1 || (scope == 3 && inst.getLsbD k)
    | _ => false))

/-- The run ends with a status; the switch at ADC0's input 39 is open. -/
def State.runOver (status : Nat) (res : List Nat) (s : State) : State :=
  ((s.withCal fun c => { c with run := none, vrefSwitch := false }).putField CAL_STAT_RUN 0 0).modDeferred s.calibrates fun d => { d with outcome := some (status, res) }

/-- A channel is held: its quiet state at once, its TDC's run ended, its compare inputs UNRESOLVED (R270, R404); a TIA_START
whose start beat has not come is dropped (DEDUCED, log entry 84). -/
def State.holdChannel (ch : Nat) (s : State) : State :=
  let s := (s.quietNow ch).modTdc ch fun t => { t with startAt := none }
  let s := if s.fieldOf TIA_STAT_STATE ch = 1 then s.tdcEnd ch true else s
  (s.unresolve ch true).unresolve ch false

/-- The set that an instance of a step belongs to. -/
def stepSet (step inst : Nat) : Nat := if step = 0 then 17 else if step = 7 then 16 else inst

/-- The duration of each step of R401 in beats. -/
def stepBeats (step : Nat) : Nat := ([50, 18, 300, 100, 1200, 150, 50, 2].getD step 0) * 800000

/-- The steps of a pod. -/
def podSteps (k : Nat) : List (Nat × Nat) := [2, 3, 4, 5, 6].map (fun x => (x, k))

/-- An instance lies outside the window of ±2 °C about temperature set `j` (R409). -/
def State.offSet (s : State) (j id : Nat) : Bool :=
  match s.setTemp id with
  | some t => decide (8 < (t - (160 + 60 * j : Nat)).natAbs)
  | none => true

/-- The front of a run's steps begins: its beat; the ADC step once both converters are IDLE or UNCAL (R401, R406). -/
def State.enterStep (s : State) : State :=
  let b := s.beat.lbc
  match s.cal.run with
  | some r =>
    match r.steps with
    | (1, _) :: _ =>
      if s.adcsFree [0, 1] then
        (s.withCal fun c => { c with run := some { r with stepAt := b, adcOn := true } }).adcBusy [0, 1] selfcalBeats
      else s
    | _ :: _ => s.withCal fun c => { c with run := some { r with stepAt := b } }
    | [] => s
  | none => s

/-- CAL_RUN_BEGIN: a run that has been started takes its scope, and checks CALCLK and CAL_VREF; a DEVICE run reads CAL_VREF_SNS
through ADC0 once both converters are IDLE or UNCAL, and leaves ADC0's input 39 switched to it for the REF step (R400, R404, R406,
R409). -/
def execCalRunBegin (calclkCount : Nat) (refErrPpb : Int) (vrefUv : Int) (s : State) : Host.Outcome State Fault Refusal :=
  done <| s.live fun s =>
    match s.hst.deferred.find? s.calibrates, s.cal.run with
    | some d, none =>
      match d.cmd with
      | .calRun _ scope mode set flags inst =>
        let clocked := scope == 0 || scope == 1
        let nominal := if s.bitOf CAL_CFG_CALCLK_100 0 then 100000 else 10000
        let present := decide ((calclkCount * 200 : Int) ≤ nominal * 201) && decide ((nominal * 199 : Int) ≤ calclkCount * 200)
        let vref := decide (2450000 ≤ vrefUv) && decide (vrefUv ≤ 2550000)
        let pods := if scope = 0 then maskList inst 16 else if scope = 1 then List.range 16 else []
        let sups := if scope = 3 then maskList inst 32 else if scope = 1 then List.range 32 else []
        let ids := pods ++ (if sups.isEmpty then [] else [16]) ++ (if scope = 1 then [17] else [])
        let old := s
        let s := each pods (fun k => each (List.range 8) (fun i => State.holdChannel (8 * k + i))) s
        let s := if clocked then s.putBit CAL_STAT_CALCLK_OK 0 present else s
        if clocked && present && scope == 1 && !(s.adcsFree [0, 1]) then old
        else if clocked && !present then (s.fault 13 0 0x0D01 1 0).runOver Status.abortedFault []
        else
          let s := if clocked then s.setReg .CAL_REF_ERR 0 0 (BitVec.ofInt 32 refErrPpb) else s
          let s := if scope = 1 then s.putBit CAL_STAT_VREF_OK 0 vref else s
          let s := if scope = 1 ∧ !vref then s.fault 13 0 0x0D01 2 0 else s
          if mode = 1 ∧ ids.any (s.offSet set.toNat) then s.runOver Status.wrongState []
          else
            let steps := (if scope = 1 then (if vref then [(0, 0)] else []) ++ [(1, 0)] else []) ++ pods.flatMap podSteps ++ sups.map (fun c => (7, c))
            let r : Run := {
              scope := scope.toNat, setTo := if mode = 1 then some set.toNat else none, store := flags.getLsbD 0, steps := steps
              stepAt := s.beat.lbc, passed := 0, failed := 0, acc := [], ids := ids, temps := (List.range 16).map s.podTemp
              finished := [], saved := [], skipped := scope == 1 && !vref, adcOn := false, lost := [], changed := [] }
            ((s.withCal fun c => { c with run := some r, vrefSwitch := scope == 1 && vref }).putField CAL_STAT_RUN 0 (scope.toNat + 1)).enterStep
      | _ => s
    | _, _ => s

/-- A value written into a place of a live set; one beyond the place is a free value. -/
def State.putQuantity (id off size : Nat) (v : Int) (s : State) : State :=
  let n : Int := (2 ^ (8 * size) : Nat)
  let fits := if unsignedPlace id off then decide (0 ≤ v) && decide (v < n) else decide (-n ≤ 2 * v) && decide (2 * v < n)
  if fits then s.setLive id off (leBytes size (twos (8 * size) v))
  else let d := s.draw; d.2.setLive id off (leBytes size d.1.toNat)

/-- The values in force follow a set that has changed: the tables of a pod are written to its pips (R401, R408). -/
def State.followSet (id : Nat) (s : State) : State := if id < 16 then s.followPod id else s.followRest

/-- A live set as it stands. -/
def State.copySet (s : State) (id : Nat) : SetCopy :=
  ⟨id, s.cal.live.filter (fun p => decide (0x40000 * id ≤ p.1) && decide (p.1 < 0x40000 * (id + 1))), s.validT id, s.bitOf CAL_SET_STAT_DIRTY id⟩

/-- A live set as it stood. -/
def State.putBack (c : SetCopy) (s : State) : State :=
  let s := s.withCal fun x => { x with
    live := c.cells.foldl (fun t p => t.set liveDefault p.1 p.2) (x.live.clear (0x40000 * c.id) (0x40000 * (c.id + 1)))
    run := x.run.map (fun r => { r with changed := r.changed.erase c.id }) }
  ((s.putField CAL_SET_STAT_VALID_T c.id c.validT).putBit CAL_SET_STAT_DIRTY c.id c.dirty).followSet c.id

/-- What an instance measured enters its set, and is in force at once: in TRIM every valid temperature set moves by the difference from the value
interpolated at the present temperature, in SET set `j` takes the measurements and is valid (R409). -/
def State.applyMeasured (x : Finished) (setTo : Option Nat) (s : State) : State :=
  let id := if x.inst < 64 then x.inst else if x.inst < 128 then 16 else 17
  let place (m : Measured) : Nat := if x.inst < 64 then m.offset % 33056 else if x.inst < 128 then 16 * (x.inst - 64) + m.offset % 16 else 0
  let v := s.validT id
  let t := (s.setTemp id).getD 0
  let old := s
  let s := each x.measured (fun m s =>
    let q := place m
    match setTo with
    | some j => s.putQuantity id (strideOf id * j + q) m.size m.value
    | none =>
      let delta := m.value - old.valueAt id q m.size t
      each ((List.range 5).filter (fun j => v.testBit j)) (fun j s =>
        let w := old.quantity id q m.size j + delta
        s.putQuantity id (strideOf id * j + q) m.size (if tapPlace id q then max 0 (min 1023 w) else w)) s) s
  let s := match setTo with | some j => s.putField CAL_SET_STAT_VALID_T id (v ||| 2 ^ j) | none => s
  ((s.putBit CAL_SET_STAT_DIRTY id true).withCal fun c => { c with
    touched := if c.touched.contains id then c.touched else c.touched ++ [id]
    run := c.run.map (fun r => { r with changed := if r.changed.contains id then r.changed else r.changed ++ [id] }) }).followSet id

/-- The finished pods of a run whose temperature has changed by more than 2 °C since its start (R403). -/
def State.drifted (s : State) (r : Run) : List Nat :=
  (r.ids.filter (fun k => decide (k < 16) && r.passed.testBit k)).filter (fun k => match s.podTemp k, r.temps.getD k none with
    | some a, some b => decide (8 < (a - b).natAbs)
    | _, _ => false)

/-- A SET run ends outside the window of ±2 °C about its temperature set (R409). -/
def State.runOutside (s : State) (r : Run) : Bool := match r.setTo with | some j => r.ids.any (s.offSet j) | none => false

/-- A finished pod fails at the end of its run: it has the values it had before the run (R403). -/
def State.failFinished (r : Run) (k : Nat) (s : State) : State :=
  let s := match r.saved.find? (fun c => c.id == k) with | some c => s.putBack c | none => s
  (s.putBit CAL_SET_STAT_FAILED k true).fault 13 1 0x0D02 (r.scope * 65536 + 6 * 256 + k) 0

/-- The run has no step left: pods whose temperature has drifted fail; results of a SET run are applied, or refused for the
temperature window; with STORE the changed sets are stored (R401, R403, R409). -/
def State.endRun (r : Run) (s : State) : State :=
  if s.runOutside r then s.runOver Status.wrongState []
  else
    let gone := s.drifted r
    let res := [r.passed - listMask gone, r.failed ||| listMask gone, (s.reg .CAL_REF_ERR 0).toNat, if r.skipped then 1 else 0]
    let s := each gone (State.failFinished r) s
    let s := each (r.finished.filter (fun x => !gone.contains x.inst)) (fun x => State.applyMeasured x r.setTo) s
    let changed := match s.cal.run with | some r => r.changed | none => []
    let cmd := (s.hst.deferred.find? s.calibrates).map (fun d => d.cmd)
    match cmd, r.store && !changed.isEmpty with
    | some c, true =>
      let steps := s.storeSteps changed
      let s := (s.withCal fun x => { x with run := none, store := some ⟨c, steps, false, res⟩, touched := [] }).putField CAL_STAT_RUN 0 0
      s.putBit CAL_STAT_STORE_BUSY 0 true
    | _, _ => s.runOver Status.ok res

/-- The run goes on to its next step; the REF step, if it was that, leaves ADC0's input 39 at analogue ground (R400). -/
def State.nextStep (rest : List (Nat × Nat)) (s : State) : State :=
  match s.cal.run with
  | some r =>
    let s := s.withCal fun c => { c with run := some { r with steps := rest }, vrefSwitch := false }
    if rest.isEmpty then s.endRun { r with steps := rest } else s.enterStep
  | none => s

/-- An instance fails: it keeps its values, its bit and the fault say so, and its remaining steps fall away (R403). -/
def State.failInstance (r : Run) (step inst : Nat) (rest : List (Nat × Nat)) (s : State) : State :=
  let id := stepSet step inst
  let s := (s.putBit CAL_SET_STAT_FAILED id true).fault 13 1 0x0D02 (r.scope * 65536 + step * 256 + inst) 0
  let bit := if (step = 7 ∧ r.scope = 3) ∨ (2 ≤ step ∧ step ≤ 6) then 2 ^ inst else 0
  let s := s.withCal fun c => { c with run := some { r with failed := r.failed ||| bit, acc := [] } }
  s.nextStep (if 2 ≤ step ∧ step ≤ 6 then rest.filter (fun x => x.1 < 2 || 6 < x.1 || x.2 != inst) else rest)

/-- A measurement outside its limits: a path offset beyond two coarse steps, a TDC bin that is empty or wider than 4 nominal
bins, a receiver or comparator trim at the end of its range, or a tap code that the delay line does not have (R402, R403). -/
def Measured.bad (pod : Bool) (m : Measured) : Bool :=
  let r := m.offset % 4132
  if !pod then decide (m.value ≤ -32768) || decide (32767 ≤ m.value)
  else if r < 3612 then if r % 516 < 4 then decide (312500 < m.value.natAbs) else decide (m.value < 0) || decide (1023 < m.value)
  else if r < 3614 then decide (m.value ≤ -128) || decide (127 ≤ m.value)
  else if 3616 ≤ r ∧ r < 4128 then decide (m.value < 1) || decide (1024 < m.value)
  else false

/-- The tap codes measured for neighbouring entries of one table do not rise: the table cannot be made monotonic (R402,
R403). -/
def notMonotonic (l : List Measured) : Bool :=
  let l := (l.filter (fun m => tapPlace 0 m.offset)).mergeSort (fun a b => decide (a.offset ≤ b.offset))
  (l.zip l.tail).any (fun p => decide (p.1.offset + 2 = p.2.offset) && decide (p.2.value ≤ p.1.value))

/-- The tap code whose measured delay less that of tap code 0 lies nearest to f × 610.3515625 fs, the lower of two that lie equally
near (R402); 2,048 × 610.3515625 is 1,250,000. -/
def nearestTap (delays : List Int) (f : Nat) : Nat :=
  let far (d : Int) : Nat := (2048 * (d - delays.headD 0) - 1250000 * f).natAbs
  ((delays.take 1024).zipIdx.foldl (fun best x => if far x.1 < best.1 then (far x.1, x.2) else best) (far (delays.headD 0), 0)).2

/-- What the sweep of a path makes of it: its offset c, the ideal less the measured time, and its linearisation (R402, R411). -/
def Sweep.quantities (w : Sweep) : List Measured :=
  let base := 4132 * w.pip.val + 516 * w.path.val
  ⟨base, 4, w.ideal - w.measured⟩ :: (List.range 256).map (fun f => ⟨base + 4 + 2 * f, 2, nearestTap w.delays f⟩)

/-- The bytes of the places that a step measures itself, by the offset in a pip record: TDC bins, the input-path delay and receiver
trims of a pod; any place of SUP and REF; none for another place (R401, R411). -/
def stepPlace (step off : Nat) : Option Nat :=
  let r := off % 4132
  match step with
  | 0 => some 4
  | 2 => if 3616 ≤ r ∧ r < 4128 then some 2 else none
  | 3 => if r = 4128 then some 4 else none
  | 5 => if r = 3612 ∨ r = 3613 then some 1 else none
  | 7 => some 2
  | _ => none

/-- The quantities that a step has measured (R401, R402). -/
def StepData.quantities (step : Nat) (d : StepData) : List Measured :=
  if step = 4 then d.sweeps.flatMap Sweep.quantities
  else d.others.filterMap (fun m => (stepPlace step m.offset).map (fun n => { m with size := n }))

/-- What a step measured fails it: among the rest the integral error of a TDC over the CALCLK periods beyond 2 LSB (R403). -/
def measuredBad (step : Nat) (integral : List Int) (l : List Measured) : Bool :=
  (step == 2 && integral.any (fun e => decide (2000 < e.natAbs))) ||
  step != 0 && (l.any (Measured.bad (decide (step ≤ 6))) || (decide (step ≤ 6) && notMonotonic l))

/-- CAL_STEP_END: a step's time has passed; its instance fails, goes on, or is finished (R401 to R403). -/
def execCalStepEnd (integral : List Int) (measured : StepData) (s : State) : Host.Outcome State Fault Refusal :=
  done <| s.live fun s =>
    match s.cal.run with
    | none => s
    | some r =>
      match r.steps with
      | [] => s
      | (step, inst) :: rest =>
        if step = 1 then
          if !r.adcOn then s.enterStep
          else if s.adcState 0 = 4 ∨ s.adcState 1 = 4 then s
          else s.nextStep rest
        else if s.beat.lbc < r.stepAt + stepBeats step then s
        else
          let pod := decide (2 ≤ step) && decide (step ≤ 6)
          let found := StepData.quantities step measured
          let bad := measuredBad step integral found || (pod && (!(s.podLocked inst) || r.lost.contains inst))
          if bad then s.failInstance r step inst rest
          else
            let acc := (if step = 2 ∨ !pod then [] else r.acc) ++ found
            if pod && step != 6 then (s.withCal fun c => { c with run := some { r with acc := acc } }).nextStep rest
            else
              let x : Finished := ⟨if step = 0 then 128 else if step = 7 then 64 + inst else inst, acc⟩
              let bit := if (step = 7 ∧ r.scope = 3) ∨ step = 6 then 2 ^ inst else 0
              let r := { r with passed := r.passed ||| bit, acc := [] }
              match r.setTo with
              | some _ => (s.withCal fun c => { c with run := some { r with finished := r.finished ++ [x] } }).nextStep rest
              | none =>
                let copy := if pod then [s.copySet inst] else []
                ((s.withCal fun c => { c with run := some { r with saved := r.saved ++ copy } }).applyMeasured x none).nextStep rest

/-- A run of scope ADC that has been started and has not ended. -/
def adcRun (d : Deferred) : Bool :=
  d.started && d.outcome.isNone && (match d.cmd with | .calRun _ scope _ _ _ _ => scope == 2 | _ => false)

/-- The runs of scope ADC end with ABORTED_FAULT; their converters are as they were before (R406). -/
def State.abortAdcRuns (s : State) : State :=
  let open_ (d : Deferred) : List Nat := d.adcs.filter (fun a => selfcalOf a d)
  let s := each ((s.hst.deferred.filter adcRun).flatMap open_) State.adcBack s
  s.withHst fun h => { h with
    deferred := h.deferred.map (fun d => if adcRun d then { d with outcome := some (Status.abortedFault, []) } else d) }

/-- A C3 fault ends the run of any scope: instances already finished keep their new values (R406, R437). -/
def State.abortRun (s : State) : State :=
  let s := s.abortAdcRuns
  match s.cal.run with
  | none => if s.hst.deferred.any s.calibrates then s.runOver Status.abortedFault [] else s
  | some r =>
    let s := if s.runOutside { r with ids := r.finished.map (fun x => if x.inst < 64 then x.inst else if x.inst < 128 then 16 else 17) } then s
      else each r.finished (fun x => State.applyMeasured x r.setTo) s
    let s := if r.adcOn then each [0, 1] State.adcBack s else s
    s.runOver Status.abortedFault []

/-- A pod under calibration loses lock: its part of the run fails (R403, R406). -/
def State.podLost (k : Nat) (s : State) : State :=
  s.withCal fun c => { c with run := c.run.map (fun r => { r with lost := if r.steps.any (fun x => x.2 == k && decide (2 ≤ x.1) && decide (x.1 ≤ 6)) then r.lost ++ [k] else r.lost }) }

/-- C3_RECALIBRATION: after a C3 fault with C3_RECAL, once every controller is OFF or TRIPPED, a DEVICE run in TRIM mode
takes every pod and both converters, after any run that still holds an instance (R405, R406). -/
def execC3Recalibration (s : State) : Host.Outcome State Fault Refusal :=
  done <| s.live fun s =>
    let rest := (List.range 32).all (fun c => s.supState c == 0 || s.supState c == 4)
    if !s.cal.recal ∨ !rest ∨ !s.ready ∨ s.hst.deferred.any s.calibrates then s
    else
      let iss : Issuer := ⟨0, 0, false, false⟩
      let d : Deferred := { iss := iss, cmd := .calRun iss 1 0 0 0 0, started := true, muted := true, taken := s.beat.lbc, due := 0, data := [] }
      let s := (s.withCal fun c => { c with recal := false }).withHst fun h => { h with deferred := h.deferred ++ [d] }
      let s := each (List.range 128) State.holdChannel s
      each [0, 1] State.adcStopAtEnd s

end Sys2Proof.Machine
end

