-- ==== Sys2Proof/Machine/Microops.lean ====
section
/-! DEFINITION. The micro-ops of the microcode engine, one meaning for each (R149 to R152, R160, R175). -/

namespace Sys2Proof.Machine

/-- One microword of a thread, if it is the micro-op `code` and this beat's is not executed yet: `f` gives what it does
beside going on to the next address, `none` where it repeats (R149). The decisions of the beat come first: in the beat of a decision to
branch a microword takes no effect (R180). -/
def State.micro (n code : Nat) (f : Nat → State → Option State) (s : State) : State :=
  s.live fun s =>
    if !(s.reads n) then s
    else if (s.clusterReads (n / 4)).any (fun x => x.2.2.1 != 0 || x.2.2.2) then s.machineCheck (n / 4)
    else
      let s := (s.performInjection (n / 4)).decideNow n
      let w := s.uword (n / 4) (s.thr n).ua
      if !(s.reads n) || uop w != code then s
      else
        match f w (s.nextWord n w) with
        | none => s.spendBeat n
        | some s' => s'

/-! ### The micro-ops (R149) -/

/-- NOP. -/
def execNop (thr : Fin 32) (s : State) : Host.Outcome State Fault Refusal :=
  done <| s.micro thr.val 0x00 fun _ s => some s

/-- FETCH: IR = PI at PC, PC = PC + 1, and on to the opcode's dispatch word; a PC past the program parks the engine. -/
def execFetch (thr : Fin 32) (s : State) : Host.Outcome State Fault Refusal :=
  done <| s.micro thr.val 0x01 fun _ s =>
    let t := s.thr thr.val
    if (s.prog t.prog).count ≤ t.pc then some (s.modThr thr.val fun t => { t with parked := true })
    else match t.ib.find? (fun x => x.1 == t.pc) with
      | none => none
      | some (_, w) => some ((s.modThr thr.val fun t => { t with ir := w, pc := t.pc + 1, ua := piOp w }).slide thr.val)

/-- PARK: the engine parks. -/
def execPark (thr : Fin 32) (s : State) : Host.Outcome State Fault Refusal :=
  done <| s.micro thr.val 0x02 fun _ s => some (s.modThr thr.val fun t => { t with parked := true })

/-- LS_DECB. -/
def execLsDecb (thr : Fin 32) (s : State) : Host.Outcome State Fault Refusal :=
  done <| s.micro thr.val 0x10 fun w s =>
    match (s.thr thr.val).ls with
    | [] => some (s.stackFault thr.val 0x0104)
    | (pc, 0) :: r => some (s.modThr thr.val fun t => { t with ls := (pc, 0) :: r, ua := uoperand w % 2 ^ 14 })
    | (pc, k + 1) :: r => some (s.modThr thr.val fun t => { t with ls := (pc, k) :: r })

/-- BG_ZERO. -/
def execBgZero (thr : Fin 32) (s : State) : Host.Outcome State Fault Refusal :=
  done <| s.micro thr.val 0x11 fun w s =>
    let zero := s.gr thr.val (piSel (s.thr thr.val).ir) == 0
    some (if zero then s.modThr thr.val fun t => { t with ua := uoperand w % 2 ^ 14 } else s)

/-- BFLAG. -/
def execBflag (thr : Fin 32) (s : State) : Host.Outcome State Fault Refusal :=
  done <| s.micro thr.val 0x12 fun w s =>
    some (if bit (s.thr thr.val).ir (52 + uoperand w / 2 ^ 14) then
      s.modThr thr.val fun t => { t with ua := uoperand w % 2 ^ 14 } else s)

/-- PQ_PUSH: the item of IR, read as the kind that OPERAND names; repeats while the queue is full. -/
def execPqPush (thr : Fin 32) (s : State) : Host.Outcome State Fault Refusal :=
  done <| s.micro thr.val 0x20 fun w s =>
    let t := s.thr thr.val
    if 8 ≤ t.queue.length then none
    else
      let ir := setBits t.ir 63 56 (pushOp (uoperand w % 8))
      match itemOfPi ir (s.grs thr.val) 0 (t.pc - 1) 0 with
      | none => some s
      | some it => some (s.pushItem thr.val it)

/-- LS_PUSH. -/
def execLsPush (thr : Fin 32) (s : State) : Host.Outcome State Fault Refusal :=
  done <| s.micro thr.val 0x21 fun _ s =>
    let t := s.thr thr.val
    if 16 ≤ t.ls.length then some (s.stackFault thr.val 0x0103)
    else
      let k := if bit t.ir 52 then (s.gr thr.val (piSel t.ir) - 1).toNat else bits t.ir 31 0
      some (s.modThr thr.val fun t => { t with ls := (t.pc, k) :: t.ls })

/-- LS_BACK. -/
def execLsBack (thr : Fin 32) (s : State) : Host.Outcome State Fault Refusal :=
  done <| s.micro thr.val 0x22 fun _ s =>
    match (s.thr thr.val).ls with
    | [] => some (s.stackFault thr.val 0x0104)
    | e :: _ => some (s.jumpPc thr.val e.1)

/-- LS_POP. -/
def execLsPop (thr : Fin 32) (s : State) : Host.Outcome State Fault Refusal :=
  done <| s.micro thr.val 0x23 fun _ s =>
    match (s.thr thr.val).ls with
    | [] => some (s.stackFault thr.val 0x0104)
    | _ :: r => some (s.modThr thr.val fun t => { t with ls := r })

/-- CS_PUSH. -/
def execCsPush (thr : Fin 32) (s : State) : Host.Outcome State Fault Refusal :=
  done <| s.micro thr.val 0x24 fun _ s =>
    if 16 ≤ (s.thr thr.val).cs.length then some (s.stackFault thr.val 0x0105)
    else some (s.modThr thr.val fun t => { t with cs := t.pc :: t.cs })

/-- CS_POP. -/
def execCsPop (thr : Fin 32) (s : State) : Host.Outcome State Fault Refusal :=
  done <| s.micro thr.val 0x25 fun _ s =>
    match (s.thr thr.val).cs with
    | [] => some (s.stackFault thr.val 0x0106)
    | pc :: r => some ((s.modThr thr.val fun t => { t with cs := r }).jumpPc thr.val pc)

/-- PC_IMM. -/
def execPcImm (thr : Fin 32) (s : State) : Host.Outcome State Fault Refusal :=
  done <| s.micro thr.val 0x26 fun _ s => some (s.jumpPc thr.val (bits (s.thr thr.val).ir 15 0))

/-- PC_EXIT. -/
def execPcExit (thr : Fin 32) (s : State) : Host.Outcome State Fault Refusal :=
  done <| s.micro thr.val 0x27 fun _ s => some (s.jumpPc thr.val (bits (s.thr thr.val).ir 47 32))

/-- GR_SET. -/
def execGrSet (thr : Fin 32) (s : State) : Host.Outcome State Fault Refusal :=
  done <| s.micro thr.val 0x28 fun _ s =>
    let ir := (s.thr thr.val).ir
    some (s.setGr thr.val (piSel ir) (BitVec.ofNat 32 (bits ir 31 0)))

/-- GR_ADD. -/
def execGrAdd (thr : Fin 32) (s : State) : Host.Outcome State Fault Refusal :=
  done <| s.micro thr.val 0x29 fun _ s =>
    let ir := (s.thr thr.val).ir
    some (s.setGr thr.val (piSel ir) (s.gr thr.val (piSel ir) + BitVec.ofNat 32 (bits ir 31 0)))

/-- MK_SET. -/
def execMkSet (thr : Fin 32) (s : State) : Host.Outcome State Fault Refusal :=
  done <| s.micro thr.val 0x2C fun _ s => some (s.modThr thr.val fun t => { t with pendMark := bits t.ir 7 0 })

/-- SOF_SET. -/
def execSofSet (thr : Fin 32) (s : State) : Host.Outcome State Fault Refusal :=
  done <| s.micro thr.val 0x2D fun _ s => some (s.modThr thr.val fun t => { t with pendSof := some (bits t.ir 1 0) })

/-- HALT_Q: a HALT item; the pending marker and mode are discarded; repeats while the queue is full. -/
def execHaltQ (thr : Fin 32) (s : State) : Host.Outcome State Fault Refusal :=
  done <| s.micro thr.val 0x2E fun _ s =>
    let t := s.thr thr.val
    if 8 ≤ t.queue.length then none
    else
      let it : Item := ⟨t.serial, .halt, 0, 0, 1, 0, 0, false, bits t.ir 15 0, t.pc - 1, 0, none, none, s.beat.lbc⟩
      some (s.modThr thr.val fun t => { t with
        queue := t.queue ++ [it], serial := t.serial + 1, pendMark := 0, pendSof := none })

/-- ARM: a pad for target IR[15:0] on CSL[SEL]; repeats while eight are armed. -/
def execArm (thr : Fin 32) (s : State) : Host.Outcome State Fault Refusal :=
  done <| s.micro thr.val 0x2A fun _ s =>
    match s.freePad thr.val with
    | none => none
    | some i => let w := (s.thr thr.val).ir; some (s.armPad thr.val i (bits w 15 0) ((s.thr thr.val).pc - 1) false w)

/-- ARM_TO: a timeout pad for IR[31:16], where IR[47:32] is not 0, held for the next PQ_PUSH. -/
def execArmTo (thr : Fin 32) (s : State) : Host.Outcome State Fault Refusal :=
  done <| s.micro thr.val 0x2B fun _ s =>
    let w := (s.thr thr.val).ir
    if bits w 47 32 = 0 then some s
    else match s.freePad thr.val with
      | none => none
      | some i => some ((s.armPad thr.val i (bits w 31 16) ((s.thr thr.val).pc - 1) true w).modThr thr.val fun t => { t with pendPad := some i })

end Sys2Proof.Machine
end

