-- ==== Sys2Proof/Machine/Burst.lean ====
section
/-! DEFINITION. The commands of the pattern engine: timing sets, the Segment Directory, marker tables, the control store,
programs, and the start and stop of bursts with their admission (R89 to R91, R106 to R108, R121 to R137, R157 to R168,
R188, R189, R201, R211, R217 to R221, R427, R429). -/

namespace Sys2Proof.Machine

/-- A deferred command that `hit` picks has not ended. -/
def State.runs (s : State) (hit : Instr → Bool) : Bool := s.hst.deferred.any (fun d => d.outcome.isNone && hit d.cmd)

/-- The bytes that a deferred command took with it. -/
def Deferred.bytes (d : Deferred) : List Byte := d.data.map (BitVec.ofNat 8)

/-- Bytes as the numbers that a deferred command holds. -/
def numbers (l : List Byte) : List Nat := l.map BitVec.toNat

/-! ### Timing sets (R89 to R91, R106 to R108) -/

/-- The size of an image, by its channel count (R89). -/
def imgSize (l : List Byte) : Nat := 16 + 56 * imgN l

/-- The images that lie back to back in some bytes. -/
def splitImages : Nat → List Byte → List (List Byte)
  | 0, _ => []
  | k + 1, l => l.take (imgSize l) :: splitImages k (l.drop (imgSize l))

/-- `k` images read back to back from an address: the images before the first that does not lie in memory or fails its
checks, and that one's place and failing part (R90). -/
def State.readImages (s : State) (a i : Nat) : Nat → List (List Byte) × Option (Nat × Nat)
  | 0 => ([], none)
  | k + 1 =>
    if !(s.inRam a 16) then ([], some (i, 0xFFFF))
    else
      let h := s.mem a 16
      let n := imgSize h
      let bad := if imgN h = 0 ∨ 128 < imgN h ∨ !(s.inRam a n) then some 0xFFFF else imgBad (s.mem a n)
      match bad with
      | some c => ([], some (i, c))
      | none =>
        let r := s.readImages (a + n) (i + 1) k
        (s.mem a n :: r.1, r.2)

/-- Images loaded into a site's timing sets from `first` on. -/
def State.loadTsets (site first : Nat) (l : List (List Byte)) (s : State) : State :=
  each l.zipIdx (fun p => State.setTset site (first + p.2) p.1) s

/-- TMG_TSET_LOAD: the image is read and checked when the command is taken (R90, R106). RES1 is 0 where the arguments alone are bad, and
an image that does not lie in memory counts as a failure of its set's header, 0xFFFF (DESIGN CHOICE, log entry 118). -/
def execTmgTsetLoad (iss : Issuer) (source : W64) (site first : Byte) (count : W16) (s : State) :
    Host.Outcome State Fault Refusal :=
  let n := site.toNat
  let k := count.toNat
  let args := source.toNat % 8 != 0 || decide (32 ≤ n) || k == 0 || decide (256 < first.toNat + k)
  let r := if args then ([], none) else s.readImages source.toNat first.toNat k
  let data := r.1.flatten
  done <| s.shadowed iss 0x0001 true [(args || r.2.isSome, Status.badArgument)] [(!(s.idle n), Status.wrongState)]
    [0, match r.2 with | some (i, c) => i * 2 ^ 16 + c | none => 0] [k] (.load (.tmgTsetLoad iss source site first count) data)
    (State.defer iss (.tmgTsetLoad iss source site first count) 0 (numbers data))

/-- TMG_TSET_READ (R107). -/
def execTmgTsetRead (iss : Issuer) (dest : W64) (site tset : Byte) (s : State) : Host.Outcome State Fault Refusal :=
  let img := s.tset site.toNat tset.toNat
  let b := if img.isEmpty then List.replicate 16 0 else img
  done <| s.command iss 0x0002 true
    [(decide (32 ≤ site.toNat) || s.badRam dest 8 b.length, Status.badArgument)]
    fun s => (s.setMem dest.toNat b).complete iss Status.ok [b.length]

/-- TMG_EDGE_QUERY: R98 with S_k = 0 (R108). -/
def execTmgEdgeQuery (iss : Issuer) (channel tset path : Byte) (s : State) : Host.Outcome State Fault Refusal :=
  let ch := channel.toNat
  let p := path.toNat
  let site := s.fieldOf TMG_CH_CFG_SITE ch
  let img := s.tset site tset.toNat
  let i := (s.siteChannels site).findIdx (· == ch)
  let wrong := !(s.bitOf TMG_CH_CFG_ASSIGNED ch) || img.isEmpty || decide (imgN img ≤ i)
  done <| s.command iss 0x0003 true
    [(decide (128 ≤ ch) || decide (6 < p), Status.badArgument), (wrong, Status.wrongState)] fun s =>
      let t : Int := if p = 6 then 0 else (imgEdgeWord img i p % 2 ^ 37 : Nat)
      let a := t + s.deskew ch (p == 4 || p == 5) (s.fixedMode site) + s.calOffset ch p
      let r := quantise a
      let off := p != 6 && (imgEdge img i p).isNone
      s.complete iss Status.ok
        [twos 32 r.1, r.2, twos 32 (s.force ch (516 * p + 4 + 2 * r.2)), if off then 1 else 0]

/-! ### The Segment Directory and marker tables (R121 to R137) -/

/-- The entries that bytes spell. -/
def splitEntries (z : Nat) : Nat → List Byte → List (List Byte)
  | 0, _ => []
  | k + 1, l => l.take z :: splitEntries z k (l.drop z)

/-- Directory entries written from `first` on; while a burst is ARMED or running, the pages of what a VALID one names are pinned with
it (R228). -/
def State.writeDir (first : Nat) (l : List (List Byte)) (s : State) : State :=
  let s := each l.zipIdx (fun p => State.setDir (first + p.2) p.1) s
  if (List.range 32).all s.idle then s else s.pin (l.flatMap s.entryRanges)

/-- What a command does that a thread's engine, issue unit or window performs in a beat, if it is one. -/
def threadWork : Instr → Option (State → Host.Outcome State Fault Refusal)
  | .streamFetchRequest n => some (execStreamFetchRequest n)
  | .streamGranuleArrive n => some (execStreamGranuleArrive n)
  | .padReady n i => some (execPadReady n i)
  | .padExpire n i => some (execPadExpire n i)
  | .vectorIssue n => some (execVectorIssue n)
  | .branchDecision n => some (execBranchDecision n)
  | .branchEffect n => some (execBranchEffect n)
  | .conditionSlotSet n k => some (execConditionSlotSet n k)
  | .waitTimeout n => some (execWaitTimeout n)
  | .joinRelease g => some (execJoinRelease g)
  | .joinTimeout n => some (execJoinTimeout n)
  | .spansyncRelease => some execSpansyncRelease
  | .spansyncTimeout => some execSpansyncTimeout
  | .siteAbort n => some (execSiteAbort n)
  | .ibufRefill n => some (execIbufRefill n)
  | .nop n => some (execNop n)
  | .fetch n => some (execFetch n)
  | .park n => some (execPark n)
  | .lsDecb n => some (execLsDecb n)
  | .bgZero n => some (execBgZero n)
  | .bflag n => some (execBflag n)
  | .pqPush n => some (execPqPush n)
  | .lsPush n => some (execLsPush n)
  | .lsBack n => some (execLsBack n)
  | .lsPop n => some (execLsPop n)
  | .csPush n => some (execCsPush n)
  | .csPop n => some (execCsPop n)
  | .pcImm n => some (execPcImm n)
  | .pcExit n => some (execPcExit n)
  | .grSet n => some (execGrSet n)
  | .grAdd n => some (execGrAdd n)
  | .arm n => some (execArm n)
  | .armTo n => some (execArmTo n)
  | .mkSet n => some (execMkSet n)
  | .sofSet n => some (execSofSet n)
  | .haltQ n => some (execHaltQ n)
  | _ => none

/-- What the threads make of the rest of the beat, by the commands that wait for it. -/
def State.threadsAhead (s : State) : State :=
  s.restOfBeat.foldl (fun u c => match threadWork c with
    | some f => (match f u with | .next t => t | _ => u)
    | none => u) s

/-- The first of `k` entries from `first` on that a running thread has locked, or locks in this beat: a latch stands at the boundary
that begins the beat, above the directory commands of that boundary (R23, R126). -/
def State.lockedIn (s : State) (first k : Nat) : Option Nat :=
  let u := s.threadsAhead
  let l := ((List.range 32).filter (fun n => !(s.idle n))).flatMap (fun n => (u.thr n).locks)
  ((List.range k).map (first + ·)).find? (fun e => s.locked e || l.contains e)

/-- The count of a directory command is out of its range. -/
def badCount (first k : Nat) : Bool := k == 0 || decide (65536 < first + k)

/-- VST_DIR_WRITE: every entry is checked before any is written; up to 256 at once, more at a later boundary (R125, R126,
R135). Version 1 does not carry the count (R76). -/
def execVstDirWrite (iss : Issuer) (source : W64) (first : W16) (count : W32) (s : State) : Host.Outcome State Fault Refusal :=
  let f := first.toNat
  let k := count.toNat
  let args := badCount f k || s.badRam source 32 (32 * k)
  let data := if args then [] else s.mem source.toNat (32 * k)
  let l := splitEntries 32 k data
  let bad := if args then none else l.findIdx? (fun e => !(s.entryOk e))
  let held := s.lockedIn f k
  let refuse (st : Nat) (n : Nat) (s : State) : State := s.complete iss st [0, n]
  done <| s.command iss 0x0201 (iss.mb != 16) [] fun s =>
    if args then refuse Status.badArgument 0 s
    else match bad, held with
      | some i, _ => refuse Status.badArgument (f + i) s
      | none, some n => refuse Status.wrongState n s
      | none, none =>
        if k ≤ 256 then (s.writeDir f l).complete iss Status.ok [k]
        else s.defer iss (.vstDirWrite iss source first count) 0 (numbers data)

/-- The bytes of `k` directory entries. -/
def State.dirBytes (s : State) (first k : Nat) : List Byte := (List.range k).flatMap (fun i => s.dirEntry (first + i))

/-- VST_DIR_READ: the entries as they stand when the command is taken (R136). -/
def execVstDirRead (iss : Issuer) (dest : W64) (first : W16) (count : W32) (s : State) : Host.Outcome State Fault Refusal :=
  let f := first.toNat
  let k := count.toNat
  done <| s.command iss 0x0202 (iss.mb != 16) [(badCount f k || s.badRam dest 32 (32 * k), Status.badArgument)] fun s =>
    if k ≤ 256 then (s.setMem dest.toNat (s.dirBytes f k)).complete iss Status.ok [k]
    else s.defer iss (.vstDirRead iss dest first count) 0 (numbers (s.dirBytes f k))

/-- VST_SEG_VERIFY: accepted with the entry as it stands (R136). -/
def execVstSegVerify (iss : Issuer) (segment : W16) (s : State) : Host.Outcome State Fault Refusal :=
  let e := s.dirEntry segment.toNat
  done <| s.command iss 0x0203 true [(!(entValid e), Status.wrongState)]
    (State.defer iss (.vstSegVerify iss segment) 0 (numbers e))

/-- What VST_SEG_VERIFY reports on an entry: the CRC computed, and what fails. -/
def State.segReport (s : State) (e : List Byte) : List Nat :=
  let c := (crc32 (s.crcBytes e)).toNat
  [c, (if c = entCrc e then 0 else 1) + (if s.listOk e then 0 else 2)]

/-- A marker table entry obeys R129. -/
def mkEntryOk (e : List Byte) : Bool := decide (leAt e 2 1 < 4) && leAt e 3 1 == 0 && decide (leAt e 4 4 < 2 ^ 19)

/-- Marker table entries loaded from `first` on. -/
def State.loadMarks (site first : Nat) (l : List (List Byte)) (s : State) : State :=
  each l.zipIdx (fun p => State.setMkEntry site (first + p.2) p.1) s

/-- VST_MKTAB_LOAD: the image is read and checked when the command is taken (R137). -/
def execVstMktabLoad (iss : Issuer) (source : W64) (site first : Byte) (count : W16) (s : State) :
    Host.Outcome State Fault Refusal :=
  let n := site.toNat
  let k := count.toNat
  let args := decide (32 ≤ n) || first == 0 || k == 0 || decide (255 < k) || decide (256 < first.toNat + k) ||
    s.badRam source 16 (16 * k)
  let data := if args then [] else s.mem source.toNat (16 * k)
  let bad := if args then none else (splitEntries 16 k data).findIdx? (fun e => !(mkEntryOk e))
  done <| s.shadowed iss 0x0204 true [(args || bad.isSome, Status.badArgument)] [(!(s.idle n), Status.wrongState)]
    [0, match bad with | some i => first.toNat + i | none => 0] [k] (.load (.vstMktabLoad iss source site first count) data)
    (State.defer iss (.vstMktabLoad iss source site first count) 0 (numbers data))

/-! ### The control store (R161 to R166) -/

/-- The threads of some clusters. -/
def clusterThreads (m : Byte) : List Nat := (maskList m 8).flatMap (fun c => (List.range 4).map (fun k => 4 * c + k))

/-- The entry of a microcode image for address `a`. -/
def imgWord (l : List Byte) (a : Nat) : Nat := leAt l (0x40 + 8 * a) 8

/-- The checks of R162 on an image. -/
def ucodeOk (l : List Byte) : Bool :=
  leAt l 0 4 == 0x43555A44 && leAt l 4 2 == 1 && zeroAt l 6 2 && leAt l 0x0C 4 == 16384 && zeroAt l 0x14 44 &&
  leAt l 0x10 4 == (crc32 (l.drop 0x40)).toNat &&
  (List.range 16384).all (fun a => decide (imgWord l a < 2 ^ 40) && parityBad (imgWord l a) == 0) &&
  uop (imgWord l 0x100) == 1 && unext (imgWord l 0x100) == 0 && uoperand (imgWord l 0x100) == 0

/-- SEQ_UCODE_LOAD: the image is checked before any copy is written (R162, R165). -/
def execSeqUcodeLoad (iss : Issuer) (source : W64) (clusters : Byte) (s : State) : Host.Outcome State Fault Refusal :=
  let place := s.badRam source 8 131136
  let img := if place then [] else s.mem source.toNat 131136
  done <| s.command iss 0x0101 true
    [(clusters == 0 || place || !(ucodeOk img), Status.badArgument),
     (!((clusterThreads clusters).all s.idle), Status.wrongState)]
    (State.defer iss (.seqUcodeLoad iss source clusters) 0 (numbers img))

/-- An image written into a copy: its words, version and CRC. -/
def State.loadCopy (l : List Byte) (c : Nat) (s : State) : State :=
  let s := s.withSeq fun q => { q with
    ucode := q.ucode.setList (fun _ => 0x0FC0000000) (16384 * c) ((List.range 16384).map (imgWord l)) }
  let s := (s.setReg .SEQ_CS_CRC c 0 (BitVec.ofNat 32 (leAt l 0x10 4))).setReg .SEQ_CS_VER c 0 (BitVec.ofNat 32 (leAt l 8 4))
  (s.putBit SEQ_CS_STAT_LOADED c true).putBit SEQ_CS_STAT_SUSPECT c false

/-- SEQ_UCODE_LOAD ends: every named copy is written and read back; one that differs is SUSPECT, with a C1 fault whose
code and detail the manual does not give (R165). -/
def State.runUcodeLoad (d : Deferred) (clusters bad : Byte) (s : State) : State :=
  let l := d.bytes
  let s := each (maskList clusters 8) (State.loadCopy l) s
  let bad := (maskList clusters 8).filter (fun c => bad.getLsbD c)
  if bad.isEmpty then s.finish d Status.ok [leAt l 8 4, leAt l 0x10 4]
  else
    let s := each bad (fun c => State.putBit SEQ_CS_STAT_SUSPECT c true) s
    let r := s.draw
    (r.2.fault 1 1 (r.1.toNat % 2 ^ 16) (r.1.toNat / 2 ^ 16 % 2 ^ 32) 0).finish d Status.abortedFault []

/-- SEQ_UCODE_VERIFY: it waits until every thread of the named clusters is idle. -/
def execSeqUcodeVerify (iss : Issuer) (clusters : Byte) (s : State) : Host.Outcome State Fault Refusal :=
  done <| s.command iss 0x0102 true
    [(clusters == 0, Status.badArgument), (iss.nowait && !((clusterThreads clusters).all s.idle), Status.wrongState)]
    (State.defer iss (.seqUcodeVerify iss clusters) 0 [])

/-- The addresses of a copy whose stored word has bad parity. -/
def State.badWords (s : State) (c : Nat) : List Nat := (List.range 16384).filter (fun a => parityBad (s.uword c a) != 0)

/-- The recomputed CRC of a copy differs from SEQ_CS_CRC. -/
def State.crcDiffers (s : State) (c : Nat) : Bool :=
  crc32 ((List.range 16384).flatMap (fun a => leBytes 8 (s.uword c a))) != s.reg .SEQ_CS_CRC c

/-- SEQ_UCODE_VERIFY ends: each cluster in error is SUSPECT, with its C0 fault (R166). -/
def State.runUcodeVerify (d : Deferred) (clusters : Byte) (s : State) : State :=
  let l := maskList clusters 8
  let wrong := l.filter (fun c => !(s.badWords c).isEmpty || s.crcDiffers c)
  let res := [listMask wrong, (l.map (fun c => (s.badWords c).length)).foldl (· + ·) 0, listMask (l.filter s.crcDiffers)]
  let s := each wrong (fun c s =>
    let x := match (s.badWords c).head? with
      | some a => fld 31 28 (parityBad (s.uword c a)) + fld 13 0 a
      | none => 0
    ((s.putBit SEQ_CS_STAT_SUSPECT c true).setReg .SEQ_CS_ERR c 0 (BitVec.ofNat 32 x)).fault 1 0 0x010C (x + fld 26 24 c) 0) s
  s.finish d Status.ok res

/-! ### Programs (R147, R167) -/

/-- A program is in use: a thread that was started with it is not idle. -/
def State.progUsed (s : State) (p : Nat) : Bool := (List.range 32).any (fun n => !(s.idle n) && (s.thr n).prog == p)

/-- The blocks of a program of `k` PIs. -/
def progBlocks (k : Nat) : Nat := ceilDiv (8 * k) 2048

/-- The SYS pool can take a program's blocks once those of the program it replaces are free. -/
def State.progFits (s : State) (p k : Nat) : Bool := (s.freeBlockList 6 (s.prog p).blocks).mayTake 6 (progBlocks k)

/-- SEQ_PROG_LOAD: every PI is checked when the command is taken (R147). -/
def execSeqProgLoad (iss : Issuer) (source : W64) (program : Byte) (countM1 : W16) (s : State) :
    Host.Outcome State Fault Refusal :=
  let p := program.toNat
  let k := countM1.toNat + 1
  let args := decide (32 ≤ p) || s.badGddr source 8 (8 * k)
  let data := if args then [] else s.mem source.toNat (8 * k)
  let bad := if args then none
    else (splitEntries 8 k data).findIdx? (fun e => !(piOk k (BitVec.ofNat 64 (ofLE e))))
  done <| s.commandBad iss 0x0110 true
    [(args || bad.isSome, Status.badArgument), (s.progUsed p, Status.wrongState), (!(s.progFits p k), Status.noResource)]
    [0, bad.getD 0] (State.defer iss (.seqProgLoad iss source program countM1) 0 (numbers data))

/-- The bytes of a program written into its blocks. -/
def State.fillBlocks : List Nat → List Byte → State → State
  | [], _, s => s
  | b :: r, l, s => State.fillBlocks r (l.drop 2048) (s.setMem (blockAddr b) (l.take 2048))

/-- SEQ_PROG_LOAD ends: the program takes the place of the one that had its number (R167). -/
def State.runProgLoad (d : Deferred) (program : Byte) (countM1 : W16) (s : State) : State :=
  let p := program.toNat
  let k := countM1.toNat + 1
  if s.progUsed p then s.finish d Status.wrongState []
  else if !(s.progFits p k) then s.finish d Status.noResource []
  else
    let r := State.takeBlocks 6 (progBlocks k) (s.freeBlockList 6 (s.prog p).blocks)
    ((r.2.setProg p { count := k, blocks := r.1 }).fillBlocks r.1 d.bytes).finish d Status.ok [r.1.length]

/-- SEQ_PROG_FREE. -/
def execSeqProgFree (iss : Issuer) (program : Byte) (s : State) : Host.Outcome State Fault Refusal :=
  let p := program.toNat
  done <| s.command iss 0x0111 true
    [(decide (32 ≤ p), Status.badArgument), (s.progUsed p || (s.prog p).count == 0, Status.wrongState)] fun s =>
      let l := (s.prog p).blocks
      ((s.freeBlockList 6 l).setProg p { }).complete iss Status.ok [l.length]

/-- SEQ_GR_WRITE: a general register written while its thread is idle; ignored otherwise (R139). -/
def execSeqGrWrite (index : Fin 512) (value : W32) (s : State) : Host.Outcome State Fault Refusal :=
  done <| s.live fun s => if s.idle (index.val / 16) then s.setReg .SEQ_GR index.val 0 value else s

/-- SEQ_THR_STAT of a thread. -/
def State.thrStat (s : State) (n : Nat) : W32 :=
  let t := s.thr n
  BitVec.ofNat 32 (fld 31 29 t.st + fld 28 24 t.ls.length + fld 23 19 t.cs.length + fld 18 15 t.queue.length +
    fld 14 11 (s.armedPads n).length + fld 10 6 t.prog + flag 0 t.parked)

/-- The record of R168. -/
def State.thrRecord (s : State) (n : Nat) : List Byte :=
  let t := s.thr n
  leBytes 8 t.vn ++ leBytes 4 (s.thrStat n).toNat ++ leBytes 4 (s.reg .SEQ_THR_END n).toNat ++
  (s.grs n).flatMap (fun v => leBytes 4 v.toNat) ++
  (List.range 16).flatMap (fun i => match t.ls.reverse[i]? with
    | some (pc, k) => leBytes 8 (pc % 2 ^ 16 * 2 ^ 32 + k % 2 ^ 32)
    | none => leBytes 8 0) ++
  (List.range 16).flatMap (fun i => leBytes 2 (t.cs.reverse.getD i 0)) ++ List.replicate 16 0

/-- SEQ_THR_READ (R168). -/
def execSeqThrRead (iss : Issuer) (dest : W64) (thread : Byte) (s : State) : Host.Outcome State Fault Refusal :=
  done <| s.command iss 0x0130 true [(decide (32 ≤ thread.toNat) || s.badRam dest 8 256, Status.badArgument)] fun s =>
    (s.setMem dest.toNat (s.thrRecord thread.toNat)).complete iss Status.ok [256]

/-- SEQ_CSL_SET: CLEAR on every named thread, PULSE on those whose slot has SRC SOFT (R201). -/
def execSeqCslSet (iss : Issuer) (sites : W32) (slot op : Byte) (s : State) : Host.Outcome State Fault Refusal :=
  let k := slot.toNat
  done <| s.command iss 0x0140 true
    [(sites == 0 || decide (15 < k) || decide (1 < op.toNat), Status.badArgument)] fun s =>
      let l := maskList sites 32
      if op = 0 then (each l (fun n => State.clearSlot n k) s).complete iss Status.ok [sites.toNat]
      else
        let l := l.filter (fun n => s.fieldOf SEQ_CSL_CFG_SRC (16 * n + k) == 11)
        (each l (fun n => State.happen n k (s.beat.lbc + 1) none) s).complete iss Status.ok [listMask l]

/-! ### Admission (R177, R189, R211, R217 to R221, R427) -/

/-- P_min of a site, 0 where it has none (R177). -/
def State.pMinOf (s : State) (n : Nat) : Nat :=
  if s.fixedMode n then s.fieldOf TMG_SITE_CFG_FX_PERIOD n
  else match s.tsetPeriods n with
    | [] => 0
    | p :: r => r.foldl min p

/-- The row size of a site. -/
def State.rowOf (s : State) (n : Nat) : Nat := rowSize (s.fixedMode n) (s.siteChannels n).length

/-- W of a site's window (R211). -/
def State.windowOf (s : State) (n : Nat) : Nat :=
  let p := s.pMinOf n
  (if p = 0 then 8 else max 8 (ceilDiv (ceilDiv 640000000 p * s.rowOf n) 2048)) + s.fieldOf VST_WIN_CFG_WIN_EXTRA n

/-- The head and body rows of a site's pads (R177). -/
def State.padHead (s : State) (n : Nat) : Nat := min 384 (24576 / s.rowOf n)
def State.padBody (s : State) (n : Nat) : Nat :=
  if s.pMinOf n = 0 then 0 else ceilDiv 431250000 (s.pMinOf n) - s.padHead n

/-- The PAD blocks of a site's eight pads (R177, R221). -/
def State.padBlocksOf (s : State) (n : Nat) : Nat := 8 * ceilDiv (s.padBody n * s.rowOf n) 2048

/-- The charge of one stream of a site in MB/s (R220). -/
def State.chargeOf (s : State) (n : Nat) : Nat :=
  if s.pMinOf n = 0 then 0 else ceilDiv (5 * s.rowOf n * 1000000000) (4 * s.pMinOf n)

/-- The smallest neighbour-refresh exponent set on a controller. -/
def State.minK (s : State) : Nat :=
  (List.range (if s.isH then 8 else 16)).foldl (fun k m => min k (s.fieldOf MEM_NR_CFG_K m)) 16

/-- The streaming bandwidth in MB/s that GDDR6 guarantees (R217, R218). -/
def State.guaranteed (s : State) : Nat :=
  let g := 35000 * s.controllers
  let k := s.minK
  if k < 10 then g * 513 * 2 ^ (k - 1) / (512 * (2 ^ (k - 1) + 1)) / 100 * 100 else g

/-- What VST_ADM_BUDGET shows of BUDGET in MB/s (R219): 0 where the reservations exceed the guarantee. -/
def State.budget (s : State) : Nat := s.guaranteed - 160000

/-- A demand in MB/s is within BUDGET, which no demand is where the reservations exceed the guarantee (R219, R221). -/
def State.withinBudget (s : State) (d : Nat) : Bool := decide (d + 160000 ≤ s.guaranteed)

/-- VST_ADM_USED in MB/s (R221). -/
def State.admUsed (s : State) : Nat := (List.range 32).foldl (fun a n => a + s.fieldOf VST_ADM_CHG_MBPS n) 0

/-- The streams of a burst: each ungrouped site, and the lowest member of each group with the group (R220). -/
def State.streams (s : State) (sites : List Nat) : List (Nat × Option Nat) :=
  sites.filterMap (fun n => match s.groupCfg n with
    | none => some (n, none)
    | some g => if (maskList (s.reg .SEQ_LS_MASK g) 32).head? = some n then some (n, some g) else none)

/-- The site whose window a site issues from as its burst starts: the lowest member of its group, or itself (R214). -/
def State.streamOf (s : State) (n : Nat) : Nat :=
  match s.groupCfg n with | some g => (maskList (s.reg .SEQ_LS_MASK g) 32).headD n | none => n

/-- The windows of a stream: one, and one for each permitted split. -/
def State.copies (s : State) (g : Option Nat) : Nat :=
  match g with | none => 1 | some g => 1 + s.fieldOf SEQ_LS_CFG_MAX_SPLIT g

/-- The demand of a burst in MB/s (R220). -/
def State.demand (s : State) (sites : List Nat) : Nat :=
  (s.streams sites).foldl (fun a x => a + s.copies x.2 * s.chargeOf x.1) 0

/-- The STREAM and PAD blocks of a burst (R221). -/
def State.streamNeed (s : State) (sites : List Nat) : Nat :=
  (s.streams sites).foldl (fun a x => a + s.copies x.2 * s.windowOf x.1) 0
def State.padNeed (s : State) (sites : List Nat) : Nat := sites.foldl (fun a n => a + s.padBlocksOf n) 0

/-- The pools can take a burst's blocks: all STREAM blocks first, then all PAD blocks (R221). -/
def State.blocksFit (s : State) (a b : Nat) : Bool :=
  (a == 0 || s.mayTake 0 a) && (b == 0 ||
  ((s.setReg .CST_HOLD 0 0 (BitVec.ofNat 32 (s.hold 0 + a))).setReg .CST_FREE 0 0
    (BitVec.ofNat 32 (s.freeBlocks - a))).mayTake 1 b)

/-- E of a burst in mW, rounded up (R427). -/
def State.estimate (s : State) (sites : List Nat) : Nat :=
  let site (n : Nat) : Nat × Nat :=
    if s.pMinOf n = 0 then (0, 1)
    else ((if s.fixedMode n then 20 else 75) * (s.siteChannels n).length * 1000000, s.pMinOf n)
  let terms := sites.map site ++ [(250 * sites.length, 1), (55 * s.demand sites, 1000)]
  let sum := terms.foldl (fun a x => (a.1 * x.2 + x.1 * a.2, a.2 * x.2)) (0, 1)
  ceilDiv sum.1 sum.2

/-- The groups that a burst's sites belong to fail R189. -/
def State.groupsBad (s : State) (sites : List Nat) : Bool :=
  (List.range 8).any (fun g =>
    let ms := maskList (s.reg .SEQ_LS_MASK g) 32
    s.bitOf SEQ_LS_CFG_EN g && ms.any sites.contains &&
    (match ms with
     | [] => false
     | a :: _ => !(ms.all (fun n =>
        sites.contains n && (s.siteChannels n).length == (s.siteChannels a).length &&
        s.fixedMode n == s.fixedMode a && s.fieldOf TMG_SITE_CFG_FX_PERIOD n == s.fieldOf TMG_SITE_CFG_FX_PERIOD a &&
        (List.range 256).all (fun t => imgPeriod (s.tset n t) == imgPeriod (s.tset a t))))))

/-! ### The start of a burst (R157, R158) -/

/-- A calibration waits for a site or holds it (R405). -/
def State.calHolds (s : State) (n : Nat) : Bool :=
  s.cal.recal || s.hst.deferred.any (fun d => s.atWork d && (match d.cmd with
    | .calRun _ scope _ _ _ inst =>
      (match scope.toNat with
       | 0 => (maskList inst 16).any (fun k => (s.podSites k).contains n)
       | 1 => true
       | 3 => (maskList inst 32).any (fun c => s.supOwner c == some n)
       | _ => false)
    | _ => false))

/-- A burst start that names a site returns BUSY (R67, R106, R137, R164, R166, R405). -/
def State.siteBusy (s : State) (n : Nat) : Bool :=
  s.hst.txns.any (fun x => match x.pending with | some c => c.mode == 2 && c.sites.getLsbD n | none => false) ||
  s.runs (fun c => match c with
    | .tmgTsetLoad _ _ site _ _ => site.toNat == n
    | .vstMktabLoad _ _ site _ _ => site.toNat == n
    | .seqUcodeLoad _ _ m => m.getLsbD (n / 4)
    | .seqUcodeVerify _ m => m.getLsbD (n / 4)
    | _ => false) ||
  s.calHolds n

/-- A site is in no state for a burst start: not idle, without channels, with a timing set of another channel count, or
owning a supply with REQ_PG that is not ON (R29, R91, R158, R307). -/
def State.siteUnfit (s : State) (n : Nat) : Bool :=
  !(s.idle n) || (s.siteChannels n).isEmpty ||
  (List.range 256).any (fun t => !(s.tset n t).isEmpty && imgN (s.tset n t) != (s.siteChannels n).length) ||
  (List.range 32).any (fun c => s.supOwner c == some n && s.bitOf SUP_CFG_REQ_PG c && s.supState c != 2)

/-- A site lacks what a burst start needs: a locked pod, a sound copy of the control store (R17, R19, R164). -/
def State.siteLacks (s : State) (n : Nat) : Bool :=
  (s.siteChannels n).any (fun ch => !(s.podLocked (ch / 8))) || s.bitOf SEQ_CS_STAT_SUSPECT (n / 4)

/-- The start beat by the mode (R157). -/
def State.startBeat (s : State) (mode : Byte) (when_ : W64) (nanos : W32) : Nat :=
  match mode.toNat with
  | 0 => s.beat.lbc + 4000
  | 1 => when_.toNat
  | _ => s.lbcOf (timeOf when_.toNat nanos.toNat)

/-- The checks of a burst start (R157, R158, R221, R429). -/
def State.startChecks (s : State) (sites : W32) (program mode : Byte) (entry : W16) (when_ : W64) (nanos : W32) :
    List (Bool × Nat) :=
  let l := maskList sites 32
  let bad := sites == 0 || decide (32 ≤ program.toNat) || decide (2 < mode.toNat) ||
    (mode == 2 && (decide (2 ^ 48 ≤ when_.toNat) || decide (1000000000 ≤ nanos.toNat))) ||
    decide (s.startBeat mode when_ nanos < s.beat.lbc + 4000) || (mode != 2 && l.any s.inSpan)
  [(bad, Status.badArgument),
   (l.any s.siteBusy, Status.busy),
   (l.any s.siteUnfit || decide ((s.prog program.toNat).count ≤ entry.toNat) || s.groupsBad l, Status.wrongState),
   (l.any s.siteLacks || s.meas.lost || !(s.blocksFit (s.streamNeed l) (s.padNeed l)), Status.noResource),
   (!(s.withinBudget (s.demand l + s.admUsed)), Status.bandwidth),
   (decide (s.plimMw < s.pRt + s.estimate l), Status.thermal),
   (l.any (fun n => (s.thr n).abortedAt == some s.beat.lbc), Status.abortedFault)]

/-- A thread enters ARMED with the state that R138 gives a burst start, and what the chapters clear then. -/
def State.armThread (program : Nat) (entry at_ n : Nat) (s : State) : State :=
  let t := s.thr n
  let r := State.takeBlocks 1 (s.padBlocksOf n) s
  let fresh : Thread := {
    st := 1, prog := program, startBeat := at_, parked := false, pc := entry, ibFrom := entry
    refill := some (s.beat.lbc + 26), next := at_ * beatFs, vecNo := t.vecNo, overNo := t.vecNo, pipe := t.pipe, window := s.windowOf (s.streamOf n)
    winExtra := s.fieldOf VST_WIN_CFG_WIN_EXTRA (s.streamOf n), padBlocks := r.1, pMin := s.pMinOf n, rowSize := s.rowOf n
    padTop := (s.padHead n + s.padBody n) * s.rowOf n }
  let s := r.2.modThr n fun _ => fresh
  let s := (s.setReg .SEQ_THR_END n 0 0).putBit TMG_SITE_STAT_TIMING_DROP n false
  let s := s.setReg .SEQ_BR_STAT n 0 (BitVec.ofNat 32 (bits (s.reg .SEQ_BR_STAT n) 31 30 * 2 ^ 30))
  let s := ((s.setReg .VST_STALL_BEATS n 0 0).setReg .VST_STALL_EVTS n 0 0).putField VST_WIN_STAT_MIN_LEAD n 0xFFFF
  let s := s.putField VST_PAD_ALLOW_ALLOWANCE n (twos 25 fresh.padTop)
  if s.inSpan n then s.withSeq fun q => { q with span := { } } else s

/-- Blocks dealt out to `k` windows of `w` each. -/
def splitBlocks (w : Nat) : Nat → List Nat → List (List Nat)
  | 0, _ => []
  | k + 1, l => l.take w :: splitBlocks w k (l.drop w)

/-- A stream's charge and blocks are held, and its group starts on it (R189, R221). -/
def State.holdStream (x : Nat × Option Nat) (s : State) : State :=
  let r := State.takeBlocks 0 (s.copies x.2 * s.windowOf x.1) s
  let c := s.copies x.2 * s.chargeOf x.1
  let s := r.2.setReg .VST_ADM_CHG x.1 0 (BitVec.ofNat 32 (flag 31 x.2.isSome + fld 19 0 c))
  match x.2 with
  | none => s.modThr x.1 fun t => { t with windowBlocks := r.1 }
  | some g =>
    let ms := maskList (s.reg .SEQ_LS_MASK g) 32
    (each ms (fun n => State.putBit SEQ_BR_STAT_GROUPED n true) s).modGroup g fun _ => {
      members := ms, windows := splitBlocks (s.windowOf x.1) (s.copies x.2) r.1, users := ms.map (fun n => (n, 0)) }

/-- The sites of a burst are armed: threads, then the STREAM blocks and charges, and the power estimate. -/
def State.armBurst (sites : List Nat) (program entry at_ : Nat) (s : State) : State :=
  let e := s.estimate sites
  let xs := s.streams sites
  let s := each xs State.holdStream (each sites (fun n => State.modThr n fun t => { t with windowBlocks := [] }) s)
  let held := sites.map (fun n => (n, (s.thr n).windowBlocks, s.bitOf SEQ_BR_STAT_GROUPED n))
  let s := each held (fun x s =>
    ((s.armThread program entry at_ x.1).modThr x.1 fun t => { t with windowBlocks := x.2.1 }).putBit SEQ_BR_STAT_GROUPED x.1 x.2.2) s
  s.withSeq fun q => { q with bursts := q.bursts ++ [(sites, e)] }

/-! ### Trigger inputs (R170, R247, R286) -/

/-- TI_EDGE: an edge that a TI ball recognises, at a coarse step of the present beat: a rising one is a happening of the
slots that name the input two beats later, and either reaches the units and converters whose polarity it has. -/
def execTiEdge (input : Fin 16) (rising : Bool) (coarse : Fin 8) (s : State) : Host.Outcome State Fault Refusal :=
  done <| s.live fun s =>
    let i := input.val
    if s.cap.ti.getD i false = rising then s
    else
      let b := s.beat.lbc
      let s := s.withCap fun c => { c with ti := c.ti.set i rising }
      let s := when rising (State.happenAll 5 i (b + 2)) s
      let l := (s.aqNamed 3 i).filter (fun a => s.bitOf CAP_AQ_TRIG_POL a == !rising)
      (each l (fun a => State.aqTrigger a (s.now + coarse.val * coarseFs)) s).adcTrigger 2 i (b + 2) rising

end Sys2Proof.Machine
end

