-- ==== Sys2Proof/Machine/Husk.lean ====
section
/-! DEFINITION. Husk: latching, escalation and containment, the records, acknowledgement and injection (18_husk). -/

namespace Sys2Proof.Machine

/-- HSK_STATUS (R436). -/
def State.status (s : State) : W64 := s.reg64 .HSK_STATUS 0

/-- The C3 bits of the status word. -/
def c3Bits : W64 := 0x8888888888888888#64

/-- A fault as it is latched: the class by R439 and the FAULT_STOP mark by R440, both against the status word as it stood
before the beat. -/
def State.latched (s : State) (st : W64) (f : FaultRec) : Record :=
  let esc := decide (f.cls < 3) && st.getLsbD (4 * f.sub + f.cls)
  let c := if esc then f.cls + 1 else f.cls
  ⟨f, c, esc, c == 3 && st &&& c3Bits != 0, s.beat.lbc, s.ntu.sec, s.ntu.frac, s.ntu.ns, s.ntu.epoch⟩

/-- A record put in the order of R444: by subsystem, then by class from C3 down. -/
def insertRecord (x : Record) : List Record → List Record
  | [] => [x]
  | y :: r => if y.fault.sub < x.fault.sub ∨ (y.fault.sub = x.fault.sub ∧ x.recorded ≤ y.recorded) then y :: insertRecord x r else x :: y :: r

/-- The status word as it stood before the present beat, against which the beat's faults are judged (R438). -/
def State.statusBefore (s : State) : W64 := if s.hsk.freshBeat = s.beat.lbc then s.hsk.before else s.status

/-- A record enters the queue of 64 in its place among those of its beat, or is lost and counted (R444); its status bit and
its event follow either way. -/
def State.enqueueRecord (x : Record) (s : State) : State :=
  let bit : W64 := BitVec.ofNat 64 (2 ^ (4 * x.fault.sub + x.recorded))
  let b := s.beat.lbc
  let was := s.statusBefore
  let s := s.withHsk fun h => { h with fresh := (if h.freshBeat = b then h.fresh else 0) ||| bit, freshBeat := b, before := was }
  let s := (s.setReg64 .HSK_STATUS 0 (s.status ||| bit)).event (1152 + x.fault.sub)
  if s.hsk.queue.length < 64 then s.withHsk fun h => { h with
    queue := h.queue.filter (fun y => y.lbc != b) ++ insertRecord x (h.queue.filter (fun y => y.lbc == b)) }
  else (s.countUp HSK_REC_LOST_COUNT 0 1).withHsk fun h => { h with lost := h.lost + 1 }

/-- The subsystem that a shadow entry writes (R70). -/
def Shadow.subsystem : Shadow → Nat
  | .reg off _ _ => off / 0x1000000
  | .load (.tmgTsetLoad ..) _ => 0
  | .load (.vstMktabLoad ..) _ => 2
  | .load (.capAqMaskLoad ..) _ => 3
  | .load _ _ => 6

/-- A mailbox that is OPEN reads ROLLED; one in ERROR stays there (R48, R70). -/
def State.roll (m : Nat) (s : State) : State := if m < 16 ∧ (s.box m).st = 1 then s.setBox m { s.box m with st := 3 } else s

/-- A transaction is rolled back: a pending commit ends with ROLLED_BACK, else a completion with the tag of CFG_BEGIN
says so, and the mailbox reads ROLLED; a profile selection ends with it (R70, R71). The version 1 mailbox, which has no ring
to post to and no state to show, is told nothing where no commit is pending (DESIGN CHOICE, log entry 76). -/
def State.rollBack (m : Nat) (s : State) : State :=
  match s.txnOf m with
  | none => s
  | some x =>
    if x.rolled then s
    else match x.pending with
      | some c =>
        if 8 ≤ c.mode then
          let s := s.withHst fun h => { h with txns := h.txns.filter (fun y => y.mb != m) }
          if c.muted then s else s.complete c.iss Status.rolledBack []
        else
          ((s.modTxn m fun x => { x with rolled := true, entries := [], pending := none }).roll m).complete c.iss Status.rolledBack []
      | none =>
        let s := (s.modTxn m fun x => { x with rolled := true, entries := [] }).roll m
        if m < 16 then s.post ⟨m, x.tag, Status.rolledBack, []⟩ else s

/-- The open transactions that `hit` picks are rolled back. -/
def State.rollBackAll (hit : Txn → Bool) (s : State) : State :=
  each ((s.hst.txns.filter hit).map Txn.mb) State.rollBack s

/-- Sites are aborted by Husk: every one that is not idle; a span member's abort goes to the other members (R32, R437). -/
def State.abortSites (l : List Nat) (s : State) : State :=
  let l := l.filter (fun n => !(s.idle n) && !((s.thr n).abortsBy (s.beat.lbc + 1)))
  let s := each (l.filter s.inSpan) (fun n s => s.spanPut (s.burstBeat n) 0 4 0 []) s
  each l (fun n => State.abortDue n 5) s

/-- The NOTICE of a fault recorded as C3, where the module ID is valid (R447). -/
def State.notice (x : Record) (s : State) : State :=
  if !(s.bitOf KLK_MOD_ID_VALID 0) then s
  else s.flood 3 0 (leBytes 2 x.fault.code ++ leBytes 1 (x.fault.sub + flag 4 x.stop + flag 5 x.escalated) ++
    leBytes 1 x.epoch ++ leBytes 4 x.ns)

/-- The containment of C2 faults: the sites of their masks, and the transactions that write their subsystems. -/
def State.containC2 (l : List Record) (s : State) : State :=
  let mask := l.foldl (fun a x => a ||| x.fault.mask) 0#32
  let subs := l.map (fun x => x.fault.sub)
  (s.abortSites (maskList mask 32)).rollBackAll (fun x => x.entries.any (fun e => subs.contains e.subsystem))

/-- The containment of C3 faults (R437). -/
def State.containC3 (l : List Record) (s : State) : State :=
  let s := ((s.abortSites (List.range 32)).supRampAll false).rollBackAll (fun _ => true)
  let s := s.abortRun
  let s := when (s.bitOf CAL_CFG_C3_RECAL 0) (State.withCal fun c => { c with recal := true }) s
  each l State.notice s

/-- FAULT_STOP (R440). -/
def State.enterFaultStop (s : State) : State :=
  let s := (s.putField HST_STATE_FW_STATE 0 2).supOffAll
  let s := each [0, 1] State.adcStopNow s
  each [2, 3, 4, 5, 6, 7] State.appletReset s

/-- The containment of the faults latched together: FAULT_STOP where a record marks it, then C3, then C2 (R437, R440). -/
def State.contain (l : List Record) (s : State) : State :=
  let c3 := l.filter (fun x => x.recorded == 3)
  let s := if c3.any Record.stop then s.enterFaultStop else s
  let s := if c3.isEmpty then s else s.containC3 c3
  s.containC2 (l.filter (fun x => x.recorded == 2))

/-- The faults that are presented on the error lines (R435). -/
def State.presented (s : State) : List FaultRec := (s.hsk.lines.filter (fun x => decide (x.1 ≤ s.beat.lbc))).map Prod.snd

/-- The records of the faults presented, in the order of R444. -/
def State.latchedAll (s : State) : List Record :=
  (s.presented.map (s.latched s.statusBefore)).foldl (fun a x => insertRecord x a) []

/-- Every fault presented is latched, judged, queued and contained, all together (R435 to R440). -/
def State.latchFaults (s : State) : State :=
  if s.presented.isEmpty then s
  else
    let b := s.beat.lbc
    (each s.latchedAll State.enqueueRecord (s.withHsk fun h => { h with lines := h.lines.filter (fun x => decide (b < x.1)) })).contain
      s.latchedAll

/-- A pending commit is due (R66). -/
def State.commitDue (s : State) (c : Commit) : Bool :=
  decide (c.lbc ≤ s.beat.lbc) && (c.mode != 2 || (maskList c.sites 32).all s.idle)

/-- A commit is due and may still be applied at the present boundary (R66). -/
def State.commitAwaited (s : State) : Bool :=
  s.hst.txns.any (fun x => match x.pending with | some c => s.commitDue c | none => false)

/-- The events of the beat that ended are exchanged, once no commit of this boundary can still change their routing (R449). -/
def State.exchangeOnce (s : State) : State := if s.commitAwaited then s else s.exchange

/-- FAULT_LATCH. -/
def execFaultLatch (s : State) : Host.Outcome State Fault Refusal := done <| s.live fun s => s.latchFaults.exchangeOnce

/-- The records that may still move into the ring in this beat, four in all (R444). -/
def State.moveRoom (s : State) : Nat := if s.hsk.movedAt = s.beat.lbc then 4 - s.hsk.moved else 4

/-- Records move from the queue into the ring, up to four in a beat; the ring's oldest are overwritten (R444). -/
def State.moveRecords (s : State) : State :=
  let room := s.moveRoom
  let l := s.hsk.queue.take room
  let b := s.beat.lbc
  let n := (s.reg .HSK_REC_SEQ 0).toNat
  let put : List (Nat × Record) := l.zipIdx.map (fun p => ((n + p.2) % 2 ^ 32, p.1))
  let s := s.withHsk fun h => { h with
    queue := h.queue.drop room, ring := (h.ring ++ put).drop ((h.ring ++ put).length - 256)
    moved := 4 - room + l.length, movedAt := b }
  s.setReg .HSK_REC_SEQ 0 0 (BitVec.ofNat 32 (n + l.length))

/-- Once the queue has space again, the records lost are reported (R444). -/
def State.reportLost (s : State) : State :=
  if s.hsk.lost ≠ 0 ∧ s.hsk.queue.length < 64 then
    let lost := min s.hsk.lost (2 ^ 32 - 1)
    (s.withHsk fun h => { h with lost := 0 }).fault 15 0 0x0F01 lost 0
  else s

/-- FAULT_RECORD_WRITE. -/
def execFaultRecordWrite (s : State) : Host.Outcome State Fault Refusal := done <| s.live fun s => s.moveRecords.reportLost

/-- Status bits acknowledged, after the faults that are presented, but for those that a fault of this boundary set or found set
(R441). -/
def State.acknowledge (v : W64) (s : State) : State :=
  let s := s.latchFaults
  let keep : W64 := if s.hsk.freshBeat = s.beat.lbc then s.hsk.fresh else 0
  s.setReg64 .HSK_STATUS 0 (s.status &&& ~~~(v &&& ~~~keep))

/-- HSK_ACK_WRITE: the bits written with 1 clear (R441). -/
def execHskAckWrite (high : Bool) (value : W32) (s : State) : Host.Outcome State Fault Refusal :=
  done <| s.live (State.acknowledge (if high then value.zeroExtend 64 <<< 32 else value.zeroExtend 64))

/-- FAULT_N is held low (R442, R462); released while PORST_N is low (R459). -/
def State.faultNLow (s : State) : Bool :=
  s.running && (s.faultStop || s.beat.noImage || s.status &&& 0xCCCCCCCCCCCCCCCC#64 != 0 ||
  (s.bitOf HSK_CFG_FN_C1 0 && s.status &&& 0x2222222222222222#64 != 0))

/-- The bytes of a record in the ring (R443). -/
def Record.bytes (seq : Nat) (x : Record) : List Byte :=
  let f := x.fault
  let v := f.vn.getD (0, 0, 0)
  leBytes 4 seq ++ leBytes 1 (f.sub + x.recorded * 16 + f.cls * 64) ++
  leBytes 1 (flag 0 f.inj + flag 1 x.escalated + flag 2 x.stop + flag 3 f.vn.isSome) ++
  leBytes 2 f.code ++ leBytes 4 f.detail ++ leBytes 4 f.mask.toNat ++ leBytes 8 x.lbc ++
  leBytes 6 x.sec ++ leBytes 2 (x.frac / 65536) ++ leBytes 4 x.ns ++ leBytes 1 x.epoch ++ leBytes 3 0 ++
  leBytes 8 v.1 ++ leBytes 4 v.2.1 ++ leBytes 2 v.2.2 ++ leBytes 10 0

/-- The records of the ring from a SEQNO on, oldest first: from that record where it is held; all of them where it has been overwritten;
none where it is at or after HSK_REC_SEQ. A SEQNO that the ring holds stands for that record, whichever side of the 32-bit wrap it lies
on (R451; DEDUCED, log entry 110). -/
def State.recordsFrom (s : State) (first : Nat) : List (Nat × Record) :=
  match s.hsk.ring.findIdx? (fun p => p.1 == first) with
  | some i => s.hsk.ring.drop i
  | none => if first < (s.reg .HSK_REC_SEQ 0).toNat then s.hsk.ring else []

/-- HSK_REC_READ: the records from a SEQNO on, oldest first (R451). Version 1 does not carry the count. -/
def execHskRecRead (iss : Issuer) (dest : W64) (first : W32) (count : W16) (s : State) : Host.Outcome State Fault Refusal :=
  let n := count.toNat
  done <| s.command iss 0x0F01 (iss.mb != 16)
    [(n == 0 || decide (256 < n) || s.badRam dest 8 (64 * n), Status.badArgument)] fun s =>
      let l := (s.recordsFrom first.toNat).take n
      let next := (s.reg .HSK_REC_SEQ 0).toNat
      let from_ := match l.head? with | some p => p.1 | none => next
      (s.setMem dest.toNat (l.flatMap (fun p => Record.bytes p.1 p.2))).complete iss Status.ok [l.length, from_, next]

/-! ### Fault injection (R445, R446) -/

/-- A value that HSK_INJECT takes: a checker that exists, and an instance of it. -/
def injectOk (v : W32) : Bool :=
  match bits v 27 24 with
  | 0 => decide (bits v 15 8 < 8)
  | 1 => true
  | 2 => true
  | 3 => decide (bits v 15 8 < 32)
  | 4 => decide (bits v 15 8 < 16)
  | 5 => decide (bits v 15 8 < 8)
  | _ => false

/-- A value written to HSK_INJECT takes effect at the next boundary. -/
def State.writeInject (v : W32) (s : State) : State := s.withHsk fun h => { h with inject := some (v &&& 0xCF00FF00#32) }

/-- HSK_INJECT_WRITE: written by firmware, or by the host through HST_REG_WRITE, while FAULT_INJECT is agreed; applets
never write it. -/
def execHskInjectWrite (who : Writer) (value : W32) (s : State) : Host.Outcome State Fault Refusal :=
  let mine := match who with | .host => true | .hazel k => decide (k.val < 2)
  done <| s.live fun s => if mine && s.feature 9 && injectOk value then s.writeInject value else s

end Sys2Proof.Machine
end

