-- ==== Sys2Proof/Machine/Access.lean ====
section
/-! DEFINITION. Register access: what a read returns and clears, the snapshots of each path, the fast page, and what a
write of one word does (R9, R39 to R42, R60, R274, R477, R478). -/

namespace Sys2Proof.Machine

/-- The internal address of the register windows. -/
def regBase : Nat := 0x4100000000

/-- The register word at an internal address (R477); none where nothing is assigned (R478). -/
def regAt (a : Nat) : Option Reg := if a < regBase then none else Reg.ofOffset (a - regBase)

/-- Word `w` of a value, LO first. -/
def halfOf (w v : Nat) : W32 := BitVec.ofNat 32 (v / 2 ^ (32 * w))

/-- The live value of a register word: the views of state held elsewhere, else the register file. -/
def State.view (s : State) (r : Reg) : W32 :=
  let i := r.inst
  match r.stem with
  | .SEQ_THR_STAT => s.thrStat i
  | .SEQ_THR_PC => BitVec.ofNat 32 ((s.thr i).pc % 65536)
  | .SEQ_THR_VN => halfOf r.word ((s.thr i).vn % 2 ^ 48)
  | .VST_ADM_BUDGET => BitVec.ofNat 32 (fld 19 0 s.budget)
  | .VST_ADM_USED => BitVec.ofNat 32 (fld 19 0 s.admUsed)
  | .KLK_CRED => BitVec.ofNat 32 (ofLE ((s.port i).credits.map (BitVec.ofNat 8)))
  | .HST_G_FAILED => if s.isH then s.reg r.stem i &&& 0xFFFF#32 else s.reg r.stem i
  | .NTU_LBC => halfOf r.word s.beat.lbc
  | .MGT_CQ_STAT => BitVec.ofNat 32 (fld 31 16 (s.fieldOf MGT_CQ_STAT_REFUSED 0) + fld 12 0 s.mgt.queue.length)
  | .MGT_DE_STAT => s.deStat i
  | .THM_P_RT => BitVec.ofNat 32 (fld 19 0 s.pRt)
  | .HSK_ACK => s.reg .HSK_STATUS 0 r.word
  | st => s.reg st i r.word

/-! ### Reads (R41, R42, R274) -/

/-- The number of a path. -/
def pathKey : Path → Nat
  | .pcie => 0
  | .i2c => 1
  | .sesame => 2
  | .hazel k => 3 + k.val

/-- A word of a path's snapshots; 0 before its first snapshot (R41). -/
def State.snap (s : State) (p : Path) (k : Nat) : W32 := s.hst.snaps.get (fun _ => 0) (pathKey p * 2 ^ 28 + k)

/-- A word of a path's snapshots taken. -/
def State.setSnap (p : Path) (k : Nat) (v : W32) (s : State) : State :=
  s.withHst fun h => { h with snaps := h.snaps.set (fun _ => 0) (pathKey p * 2 ^ 28 + k) v }

/-- What a read returned over a path: a word, or the eight bytes of an 8-byte read. -/
def State.answer (p : Path) (v : W64) (s : State) : State :=
  s.withHst fun h => { h with answers := h.answers.set (fun _ => 0) (pathKey p) v }

/-- The stems of a channel's statistics block (R274). -/
def blockStems : List Stem := [.TIA_CNT, .TIA_SUM, .TIA_SSQ, .TIA_MIN, .TIA_MAX, .TIA_MEAN, .TIA_SDEV, .TIA_IVL]

/-- The registers that a read of MGT_SPR_POSTED_LO takes together (15_hazel, after the register table). -/
def ledgerStems : List Stem := [.MGT_SPR_POSTED, .MGT_SPR_CONSUMED, .MGT_CQ_STAT]

/-- The words that one snapshot takes together: both halves, a channel's whole statistics block, or the completion ledger. -/
def snapWords (r : Reg) : List Reg :=
  if ledgerStems.contains r.stem then [⟨.MGT_SPR_POSTED, 0, 0⟩, ⟨.MGT_SPR_POSTED, 0, 1⟩, ⟨.MGT_SPR_CONSUMED, 0, 0⟩,
    ⟨.MGT_SPR_CONSUMED, 0, 1⟩, ⟨.MGT_CQ_STAT, 0, 0⟩]
  else
  if blockStems.contains r.stem then
    blockStems.flatMap (fun (st : Stem) => (List.range st.info.words).map (fun w => ⟨st, r.inst, w⟩))
  else [⟨r.stem, r.inst, 0⟩, ⟨r.stem, r.inst, 1⟩]

/-- A register word whose read takes a snapshot. -/
def takesSnap (r : Reg) : Bool :=
  if ledgerStems.contains r.stem then r.stem == .MGT_SPR_POSTED && r.word == 0
  else if blockStems.contains r.stem then r.stem == .TIA_CNT && r.word == 0 else r.stem.info.words == 2 && r.word == 0

/-- A register word that is read from the last snapshot. -/
def fromSnap (r : Reg) : Bool := (blockStems.contains r.stem || ledgerStems.contains r.stem || r.stem.info.words == 2) && !(takesSnap r)

/-- A word read from the last snapshot; of MGT_CQ_STAT, OUTSTANDING is from it, while REFUSED, which a read clears, is the count of now
(DEDUCED, log entry 98). -/
def State.snapped (s : State) (p : Path) (r : Reg) : W32 :=
  let v := s.snap p (regKey r.stem r.inst r.word)
  if r.stem = .MGT_CQ_STAT then (v &&& 0xFFFF#32) ||| (s.view r &&& 0xFFFF0000#32) else v

/-- The bits of a word that a read clears (R9). -/
def State.clearRead (r : Reg) (s : State) : State :=
  let m := (r.stem.word r.inst r.word).rc
  if m = 0 then s
  else s.setReg r.stem r.inst r.word (s.reg r.stem r.inst r.word &&& ~~~(BitVec.ofNat 32 m))

/-- What comes before a read of a word of Sprout's queue: the events of the beats before are exchanged (R22, R387). -/
def State.beforeRead (r : Reg) (s : State) : State :=
  if r.stem = .MGT_SPR_POSTED ∧ r.word = 0 then s.exchange else s

/-- A register word read over a path: the value, and the state after its snapshot and its clearing. -/
def State.readReg (p : Path) (r : Reg) (s : State) : W32 × State :=
  if fromSnap r then let v := s.snapped p r; (v, (when (r.stem == .MGT_CQ_STAT) (State.clearRead r) s).answer p (v.zeroExtend 64))
  else
    let v := s.view r
    let s1 := if takesSnap r then each (snapWords r) (fun x t => t.setSnap p (regKey x.stem x.inst x.word) (s.view x)) s else s
    (v, (s1.clearRead r).answer p (v.zeroExtend 64))

/-- An 8-byte read at a LO word: the snapshot is taken and the whole value returned (R41, R274). -/
def State.readWide (p : Path) (r : Reg) (s : State) : State :=
  let x := s.readReg p r
  let y := x.2.readReg p { r with word := r.word + 1 }
  y.2.answer p (join64 x.1 y.1)

/-- The key of a word of the ToD snapshot, by its fast-page offset. -/
def todKey (o : Nat) : Nat := 2 ^ 27 + o

/-- TOD_NS read: nanoseconds, seconds, fraction and epoch captured together (R42). -/
def State.readTod (p : Path) (s : State) : W32 × State :=
  let v := BitVec.ofNat 32 s.ntu.ns
  let s1 := (s.setSnap p (todKey 0x214) (BitVec.ofNat 32 s.ntu.sec)).setSnap p (todKey 0x218)
    (BitVec.ofNat 32 (fld 31 16 (s.ntu.frac / 65536) + fld 15 0 (s.ntu.sec / 2 ^ 32)))
  (v, (s1.setSnap p (todKey 0x300) (BitVec.ofNat 32 (s.ntu.epoch * 256))).answer p (v.zeroExtend 64))

/-- The register that a word of the fast page shows (R39). -/
def fastReg (o : Nat) : Option Reg :=
  match o with
  | 0x0 => some ⟨.HST_ID, 0, 0⟩
  | 0x4 => some ⟨.HST_FW_VERSION, 0, 0⟩
  | 0x8 => some ⟨.HST_STATE, 0, 0⟩
  | 0xC => some ⟨.HST_G_FAILED, 0, 0⟩
  | 0x10 => some ⟨.HST_FEAT, 0, 0⟩
  | 0x14 => some ⟨.HST_FEAT, 1, 0⟩
  | 0x18 => some ⟨.HST_FEAT, 2, 0⟩
  | 0x1C => some ⟨.HST_FEAT, 3, 0⟩
  | 0x100 => some ⟨.HSK_STATUS, 0, 0⟩
  | 0x104 => some ⟨.HSK_STATUS, 0, 1⟩
  | 0x110 => some ⟨.HSK_ACK, 0, 0⟩
  | 0x114 => some ⟨.HSK_ACK, 0, 1⟩
  | 0x200 => some ⟨.NTU_LBC, 0, 0⟩
  | 0x204 => some ⟨.NTU_LBC, 0, 1⟩
  | _ => none

/-- A word of the MSI-X table at reset: every vector masked (PRESUMED, log entry 23). -/
def msixReset (k : Nat) : W32 := if k % 4 = 3 then 1 else 0

/-- A word of the MSI-X table: address LO and HI, data, vector control. -/
def State.msixWord (s : State) (k : Nat) : W32 := s.hst.msix.get msixReset k

/-- A word of a mailbox's ring state (R47). -/
def ringWord (b : Mailbox) (o : Nat) : W32 :=
  BitVec.ofNat 32 (match o with
    | 0x0 => b.sqHead
    | 0x4 => b.cqTail
    | 0x8 => fld 31 8 b.sqBase + fld 3 0 b.sqLog
    | 0xC => fld 31 8 b.cqBase + fld 3 0 b.cqLog
    | 0x10 => b.st
    | _ => 0)

/-- A word of the fast page whose read changes nothing: doorbells, ring state, the version 1 mailbox, MSI-X (R39, R47,
R75). -/
def State.fastWord (s : State) (o : Nat) : W32 :=
  if 0x1000 ≤ o ∧ o < 0x1100 then
    let b := s.box ((o - 0x1000) / 0x10)
    BitVec.ofNat 32 (if o % 0x10 = 0 then b.sqTail else if o % 0x10 = 4 then b.cqHead else 0)
  else if 0x2000 ≤ o ∧ o < 0x2200 then ringWord (s.box ((o - 0x2000) / 0x20)) (o % 0x20)
  else if 0x3000 ≤ o ∧ o < 0x3030 then s.v1Word ((o - 0x3000) / 4)
  else if 0xE000 ≤ o ∧ o < 0xE400 then s.msixWord ((o - 0xE000) / 4)
  else if o = 0xF000 then lo32 s.hst.msixPend
  else if o = 0xF004 then hi32 s.hst.msixPend
  else 0

/-- A read of one word of the fast page over a path (R39); an offset not listed reads 0. -/
def State.readFast (p : Path) (o : Nat) (s : State) : W32 × State :=
  match fastReg o with
  | some r => s.readReg p r
  | none =>
    if o = 0x210 then s.readTod p
    else
      let v := if o = 0x214 ∨ o = 0x218 then s.snap p (todKey o)
        else if o = 0x300 then s.snap p (todKey o) ||| BitVec.ofNat 32 s.ntu.epoch
        else if o % 4 = 0 then s.fastWord o else 0
      (v, s.answer p (v.zeroExtend 64))

/-- The register that an address names on a path: the fast page over PCI Express and I2C; the register windows for
firmware cores and HST_REG_READ; applets have none mapped (R379). -/
def pathReg (p : Path) (a : Nat) : Option Reg :=
  match p with
  | .pcie => fastReg a
  | .i2c => fastReg a
  | .sesame => regAt a
  | .hazel k => if k.val < 2 then regAt a else none

/-- A read of one word, or of eight bytes where `wide` says so. -/
def State.readSized (p : Path) (r : Reg) (wide : Bool) (s : State) : State := if wide then s.readWide p r else (s.readReg p r).2

/-- A word of a register window that R477 does not assign, on a path that has the windows: it reads 0 (R478). -/
def unassigned (p : Path) (a : Nat) : Bool :=
  (match p with | .sesame => true | .hazel k => decide (k.val < 2) | _ => false) &&
  decide (regBase ≤ a) && decide (a < regBase + 0x10000000) && (regAt a).isNone

/-- A read over a path of the register that the address names, where it is of the kind that `hit` picks; of an unassigned word of a
register window, 0. -/
def State.readWhere (p : Path) (a : Nat) (wide : Bool) (hit : Reg → Bool) (s : State) : State :=
  match pathReg p a with
  | some r => if hit r then (s.beforeRead r).readSized p r wide else s
  | none => if unassigned p a then s.answer p 0 else s

/-- LO_WORD_READ: the whole value is snapshot, and the low half returned, or all of it by an 8-byte read; of a value that another LO word
snapshots too, what that one took (R41, R274, R386). -/
def execLoWordRead (read : Reading) (addr : W64) (s : State) : Host.Outcome State Fault Refusal :=
  done <| s.live (State.readWhere read.path addr.toNat read.wide fun r => takesSnap r || (r.stem.info.words == 2 && r.word == 0))

/-- READ_CLEAR_READ: the value is returned and its RC fields clear (R9). -/
def execReadClearRead (path : Path) (addr : W64) (s : State) : Host.Outcome State Fault Refusal :=
  done <| s.live (State.readWhere path addr.toNat false fun r => (r.stem.word r.inst r.word).rc != 0)

/-- TOD_NS_READ. -/
def execTodNsRead (path : Path) (s : State) : Host.Outcome State Fault Refusal :=
  done <| s.live fun s => (s.readTod path).2

/-- TIA_CNT_LO_READ: the statistics block of the channel is snapshot (R274). -/
def execTiaCntLoRead (read : Reading) (channel : Fin 128) (s : State) : Host.Outcome State Fault Refusal :=
  done <| s.live fun s =>
    match pathReg read.path (regBase + Stem.offset .TIA_CNT channel.val 0) with
    | some r => s.readSized read.path r read.wide
    | none => s

/-! ### Writes (R9, R41) -/

/-- A word written through its access codes: read-write bits take the value, write-1-to-clear bits clear. -/
def State.putWord (r : Reg) (v m : W32) (s : State) : State :=
  let f := r.stem.word r.inst r.word
  let rw := BitVec.ofNat 32 f.rw &&& m
  let old := s.reg r.stem r.inst r.word
  s.setReg r.stem r.inst r.word (((old &&& ~~~rw) ||| (v &&& rw)) &&& ~~~(v &&& m &&& BitVec.ofNat 32 f.w1c))

/-- The value a masked write leaves in a word. -/
def merged (old v m : W32) : W32 := (old &&& ~~~m) ||| (v &&& m)

/-- One word written by a writer, with what the chapters say of the registers that are more than stored bits. -/
def State.writeReg (who : Nat) (r : Reg) (v m : W32) (s : State) : State :=
  let i := r.inst
  let x := merged (s.reg r.stem i r.word) v m
  match r.stem with
  | .SEQ_GR => if s.idle (i / 16) then s.putWord r v m else s
  | .HSK_ACK => s.acknowledge (if r.word = 0 then (v &&& m).zeroExtend 64 else (v &&& m).zeroExtend 64 <<< 32)
  | .HSK_INJECT => if s.feature 9 && injectOk x then s.writeInject x else s
  | .NTU_INC => s.writeIncWord who (r.word == 1) x
  | .MGT_ASID_ROOT => if r.word = 0 then s.holdLo who .MGT_ASID_ROOT i x else s.setReg64 .MGT_ASID_ROOT i (join64 (s.heldOf who .MGT_ASID_ROOT i) x)
  | .THM_SNS_ACK =>
    if r.word = 0 then s.holdLo who .THM_SNS_ACK i (v &&& m)
    else ((s.putWord { r with word := 0 } (s.heldOf who .THM_SNS_ACK i) 0xFFFFFFFF).putWord r v m).unblock
  | .SUP_STAT => s.supRelease i (v &&& m).toNat
  | .MGT_RXQ_REL => s.releaseFrames i (v &&& m).toNat
  | _ => s.putWord r v m

/-- A change of NTU_ROLE restarts the servo (R372). -/
def State.restartServo (s : State) : State :=
  let b := s.beat.lbc
  ((s.withNtu fun n => { n with good := 0, servoStep := none, lastSync := b }).putBit NTU_SERVO_STAT_LOCKED 0 false).putBit
    NTU_SERVO_STAT_UP_LOST 0 false

/-- KLK_PORT_CFG.EN starts a port in DETECT, whose lanes are then no longer in test, or disables it (R344, R352). -/
def State.followEnable (p : Nat) (s : State) : State :=
  if s.bitOf KLK_PORT_CFG_EN p then
    (if s.portState p = 0 then ((s.endTest ((List.range 4).map (4 * p + ·))).putField KLK_PORT_STAT_ATTEMPTS p 0).setPort p 1 else s)
  else if s.portState p = 0 then s else s.disablePort p

/-- What a configuration register does when it is written, from the state before the writes: a quiet level follows (R30),
an input whose hysteresis changes is UNRESOLVED (R261), a TDC's detector follows its input (R260), a seed is loaded (R318),
the pages of a log region are pinned (R256), PLIM follows USER (R424), the servo restarts (R372), a port starts or stops (R344).
A channel whose ASSIGNED a commit clears while the long vector of its site's aborted burst still runs keeps that vector's drive, with
IN_QUIET 0, until the next vector start (R26 against R33; DESIGN CHOICE, log entry 116). -/
def State.settleWrite (old : State) (r : Reg) (s : State) : State :=
  let i := r.inst
  match r.stem with
  | .TMG_CH_CFG => when (s.bitOf TMG_CH_CFG_IN_QUIET i && old.fieldOf TMG_CH_CFG_QUIET i != s.fieldOf TMG_CH_CFG_QUIET i) (State.quietNow i) s
  | .TIA_RX_CFG =>
    let s := when (old.fieldOf TIA_RX_CFG_HYST_CPH i != s.fieldOf TIA_RX_CFG_HYST_CPH i) (State.unresolve i false) s
    when (old.fieldOf TIA_RX_CFG_HYST_CPL i != s.fieldOf TIA_RX_CFG_HYST_CPL i) (State.unresolve i true) s
  | .TIA_CH_CFG => State.detectorMoved old i s
  | .TMG_CH_TIM => State.detectorInverted old i s
  | .CAP_FLOG_BASE => s.pinLog i
  | .CAP_FLOG_LEN => s.pinLog i
  | .MEM_NR_SEED => let v := s.reg .MEM_NR_SEED i; s.modCtl i fun c => { c with lfsr := v }
  | .THM_PLIM_CFG => s.setPlim
  | .NTU_ROLE => when (old.reg .NTU_ROLE 0 != s.reg .NTU_ROLE 0) State.restartServo s
  | .KLK_PORT_CFG => s.followEnable i
  | _ => s

end Sys2Proof.Machine
end

