-- ==== Sys2Proof/Machine/Hst.lean ====
section
/-! DEFINITION. The host interface: mailboxes and doorbells, MSI-X, BAR2, the link, resets of the function, negotiation,
and the direct register commands (R35 to R63, R74, R210, R480, R481). -/

namespace Sys2Proof.Machine

/-! ### Rings (R43 to R48, R480) -/

/-- The Central Store blocks of a ring. -/
def ringBlocks (log size : Nat) : Nat := ceilDiv (2 ^ log * size) 2048

/-- The blocks that a mailbox's rings hold. -/
def Mailbox.blocks (b : Mailbox) : List Nat :=
  (List.range (ringBlocks b.sqLog 64)).map (b.sqBase / 8 + ·) ++ (List.range (ringBlocks b.cqLog 32)).map (b.cqBase / 8 + ·)

/-- Both rings of a mailbox zeroed (R51). -/
def State.zeroRings (b : Mailbox) (s : State) : State :=
  (s.setMem (0x4000000000 + b.sqBase * 256) (List.replicate (2 ^ b.sqLog * 64) 0)).setMem (0x4000000000 + b.cqBase * 256)
    (List.replicate (2 ^ b.cqLog * 32) 0)

/-- The completions that a mailbox still owes (R54): those of deferred commands, of a pending commit, and those held. -/
def State.owed (s : State) (m : Nat) : Nat :=
  (s.hst.deferred.filter (fun d => !d.muted && d.iss.mb.val == m)).length +
  (s.hst.held.filter (fun c => c.mb == m)).length +
  (s.hst.txns.filter (fun x => x.mb == m && (match x.pending with | some c => !c.muted | none => false))).length +
  (match s.hst.winMove with | some w => if w.iss.mb.val = m ∧ !w.muted then 1 else 0 | none => 0)

/-- A transaction that a mailbox's reset leaves of it: that of a profile selection, a command that has started and runs to its
end without its completion (R38, R59, R71). -/
def Txn.kept (x : Txn) : Option Txn :=
  match x.pending with
  | some c => if 8 ≤ c.mode then some { x with pending := some { c with muted := true } } else none
  | none => none

/-- What a mailbox's started commands still owe is discarded, and its transaction is rolled back without a completion
(R38, R59). -/
def State.mute (m : Nat) (s : State) : State :=
  s.withHst fun h => { h with
    deferred := h.deferred.map (fun d => if d.iss.mb.val = m then { d with muted := true } else d)
    held := h.held.filter (fun c => c.mb != m)
    winMove := h.winMove.map (fun w => if w.iss.mb.val = m then { w with muted := true } else w)
    txns := h.txns.filterMap (fun x => if x.mb = m then x.kept else some x) }

/-- A mailbox other than MB0 is closed: its blocks return to the free list. -/
def State.closeBox (m : Nat) (s : State) : State :=
  if (s.box m).st = 0 then s else ((s.mute m).freeBlockList 3 (s.box m).blocks).setBox m { }

/-- MB0 returns to its reset layout (R38, R46), its rings zeroed. -/
def State.resetBox0 (s : State) : State := ((s.mute 0).zeroRings (Mailbox.reset 0)).setBox 0 (Mailbox.reset 0)

/-- HST_MB_OPEN: each ring takes the lowest run of consecutive free blocks below 8,192 that is long enough (R480; that it
is the lowest, log entry 8). -/
def execHstMbOpen (iss : Issuer) (mailbox sqLog2 cqLog2 vector countM1 : Byte) (time : W16) (s : State) :
    Host.Outcome State Fault Refusal :=
  let m := mailbox.toNat
  let a := sqLog2.toNat
  let b := cqLog2.toNat
  let args := m == 0 || decide (15 < m) || a == 0 || decide (12 < a) || b == 0 || decide (12 < b) || decide (63 < vector.toNat)
  let n := ringBlocks a 64
  let k := ringBlocks b 32
  let first := s.runFrom n 0 8192
  let s1 := match first with | some x => s.takeRun 3 x n | none => s
  let second := s1.runFrom k 0 8192
  let room := first.isSome && second.isSome && s.mayTake 3 (n + k)
  done <| s.command iss 0x0A01 (iss.mb != 16)
    [(args, Status.badArgument), (!args && (s.box m).st != 0, Status.wrongState), (!args && !room, Status.noResource)] fun _ =>
      let x := first.getD 0
      let y := second.getD 0
      let box : Mailbox := { sqBase := 8 * x, sqLog := a, cqBase := 8 * y, cqLog := b, st := 1, vector := vector.toNat,
                             count := countM1.toNat + 1, time := time.toNat }
      let s := (s1.takeRun 3 y k).zeroRings box
      (s.setBox m box).complete iss Status.ok [2048 * x, 2048 * y]

/-- HST_MB_CLOSE. -/
def execHstMbClose (iss : Issuer) (mailbox : Byte) (s : State) : Host.Outcome State Fault Refusal :=
  let m := mailbox.toNat
  done <| s.command iss 0x0A02 (iss.mb != 16)
    [(m == 0 || decide (15 < m) || m == iss.mb.val, Status.badArgument),
     ((s.box m).st == 0 || s.owed m != 0 || (s.txnOf m).isSome, Status.wrongState)]
    fun s => (s.closeBox m).complete iss Status.ok []

/-- HST_MB_RESET (R59). -/
def execHstMbReset (iss : Issuer) (mailbox : Byte) (s : State) : Host.Outcome State Fault Refusal :=
  let m := mailbox.toNat
  done <| s.command iss 0x0A03 (iss.mb != 16)
    [(decide (15 < m) || m == iss.mb.val, Status.badArgument), ((s.box m).st == 0, Status.wrongState)] fun s =>
      let b := s.box m
      let clean : Mailbox := { b with sqTail := 0, cqHead := 0, sqHead := 0, cqTail := 0, st := 1, phase := true, fresh := 0, oldest := 0 }
      (((s.mute m).zeroRings b).setBox m clean).complete iss Status.ok []

/-- A doorbell write refused (R48): the mailbox enters ERROR, but for a CLOSED one, and the fault names the cause. -/
def State.badDoorbell (m cause : Nat) (s : State) : State :=
  let s := if cause = 2 then s else s.setBox m { s.box m with st := 2 }
  s.fault 10 0 0x0A04 (cause * 16 + m) 0

/-- A doorbell word is written: ignored but for the fault while CLOSED; else, in ERROR too, the doorbell event is raised and the index
judged and taken (R47, R48, R54; log entry 6). -/
def State.writeDoorbell (m v n : Nat) (full : Bool) (set : Mailbox → Mailbox) (s : State) : State :=
  let b := s.box m
  if b.st = 0 then s.badDoorbell m 2
  else
    let s := s.event (1104 + 2 * m)
    if n ≤ v then s.badDoorbell m 0
    else if full then s.badDoorbell m 1
    else s.setBox m (set b)

/-- SQ_TAIL written. -/
def State.writeSqTail (m : Nat) (value : W32) (s : State) : State :=
  let b := s.box m
  let v := value.toNat % 4096
  let n := 2 ^ b.sqLog
  let full := decide (n ≤ (b.sqTail + n - b.sqHead) % n + (v + n - b.sqTail) % n)
  s.writeDoorbell m v n full fun b => { b with sqTail := v }

/-- CQ_HEAD written. -/
def State.writeCqHead (m : Nat) (value : W32) (s : State) : State :=
  let v := value.toNat % 4096
  s.writeDoorbell m v (2 ^ (s.box m).cqLog) false fun b => { b with cqHead := v }

/-- SQ_TAIL_WRITE. -/
def execSqTailWrite (mb : Fin 16) (value : W32) (s : State) : Host.Outcome State Fault Refusal :=
  done <| s.live (State.writeSqTail mb.val value)

/-- CQ_HEAD_WRITE. -/
def execCqHeadWrite (mb : Fin 16) (value : W32) (s : State) : Host.Outcome State Fault Refusal :=
  done <| s.live (State.writeCqHead mb.val value)

/-- COMPLETION_POST: the oldest completion held for a mailbox is posted once its ring has room (R54). -/
def execCompletionPost (mb : Fin 17) (s : State) : Host.Outcome State Fault Refusal :=
  done <| s.live fun s =>
    match s.hst.held.findIdx? (fun c => c.mb == mb.val), (s.box mb.val).cqFree with
    | some _, 0 => s
    | some i, _ =>
      let c := s.hst.held.getD i ⟨0, 0, 0, []⟩
      (s.withHst fun h => { h with held := h.held.eraseIdx i }).writeEntry c
    | none, _ => s

/-! ### MSI-X (R36, R55, R450) -/

/-- MSIX_COALESCE_TIMEOUT. -/
def execMsixCoalesceTimeout (mb : Fin 16) (s : State) : Host.Outcome State Fault Refusal :=
  done <| s.live fun s =>
    let b := s.box mb.val
    if b.fresh ≠ 0 ∧ b.oldest + b.time ≤ s.beat.lbc then (s.setBox mb.val { b with fresh := 0 }).signal b.vector else s

/-- MSIX_SEND: events to be exchanged are; then the message that the vector is owed is written to host memory, or held in
the pending bits while the vector or the function is masked, and a pending one goes once unmasked. Nothing is sent while the
link is down, MSI-X is not enabled or the function is in D3hot (log entries 7 and 57). -/
def execMsixSend (vector : Fin 64) (s : State) : Host.Outcome State Fault Refusal :=
  done <| s.live fun s =>
    let s := s.exchange
    let v := vector.val
    let bit : W64 := BitVec.ofNat 64 (2 ^ v)
    let due := s.hst.msixOwed.getLsbD v
    let off := s.hst.link.isNone || !s.hst.config.msixEnable || s.hst.config.d3hot
    if !due && !(s.hst.msixPend.getLsbD v) || off then s
    else
      let s := s.withHst fun h => { h with msixOwed := h.msixOwed &&& ~~~bit }
      if s.hst.config.msixMask || (s.msixWord (4 * v + 3)).getLsbD 0 then s.withHst fun h => { h with msixPend := h.msixPend ||| bit }
      else
        let s := s.withHst fun h => { h with msixPend := h.msixPend &&& ~~~bit }
        s.setHost (join64 (s.msixWord (4 * v)) (s.msixWord (4 * v + 1))).toNat (leBytes 4 (s.msixWord (4 * v + 2)).toNat)

/-! ### BAR2 (R43, R44) -/

/-- The bytes of a mailbox-region access lie in blocks of the MAILBOX pool. -/
def State.inMailbox (s : State) (o n : Nat) : Bool :=
  decide (o + n ≤ 0x1000000) && (List.range ((o + n - 1) / 2048 + 1 - o / 2048)).all (fun i => s.owner (o / 2048 + i) == 4)

/-- `k` free words of 8 bytes. -/
def State.freeBytes : Nat → State → List Byte × State
  | 0, s => ([], s)
  | k + 1, s => let d := s.draw; let r := State.freeBytes k d.2; (leBytes 8 d.1.toNat ++ r.1, r.2)

/-- A BAR2 access that is served at an internal address: a write is stored, a read returns its bytes. Above the backed range
it is answered as an address-map fault: a write is dropped, and what a read returns is free (R3; log entry 69). -/
def State.serveBar2 (a n : Nat) (write : Option (List Byte)) (s : State) : State :=
  let put (l : List Byte) (s : State) : State := s.withHst fun h => { h with bar2Read := l }
  match s.inRam a n, write with
  | true, some l => s.setMem a l
  | true, none => put (s.mem a n) s
  | false, some _ => s
  | false, none => let r := s.freeBytes 8; put (r.1.take n) r.2

/-- A BAR2 access that is not served (R44): reads return 0xFFFF_FFFF per word, writes are dropped, and the fault names the
offset and whether the window was moving. -/
def State.failBar2 (o n : Nat) (moving write : Bool) (s : State) : State :=
  let s := if write then s else s.withHst fun h => { h with bar2Read := List.replicate n 0xFF }
  s.fault 10 0 0x0A03 (flag 31 moving + o) 0

/-- BAR2_ACCESS (R43, R44): the mailbox region serves the blocks of the MAILBOX pool, the window GDDR6 from its base on,
but while HST_WIN_SET is moving it. -/
def execBar2Access (offset : BitVec 28) (write : Option (List Byte)) (readLen : Nat) (s : State) : Host.Outcome State Fault Refusal :=
  done <| s.live fun s =>
    let o := offset.toNat
    let n := match write with | some l => l.length | none => readLen
    if 0x1000000 ≤ o then
      if s.hst.winMove.isSome then s.failBar2 o n true write.isSome else s.serveBar2 (s.hst.winBase + (o - 0x1000000)) n write
    else if s.inMailbox o n then s.serveBar2 (0x4000000000 + o) n write
    else s.failBar2 o n false write.isSome

/-- The bytes of GDDR6 that the ordering code and training back (R3). -/
def State.windowOk (s : State) (base : Nat) : Bool := base % 0x1000000 == 0 && s.inGddr base 0xF000000

/-- A move of the window ends: the base is in force and the completion is posted (R44). -/
def State.endWinMove (s : State) : State :=
  match s.hst.winMove with
  | some w =>
    let s := s.withHst fun h => { h with winBase := w.base, winMove := none }
    if w.muted then s else s.complete w.iss Status.ok []
  | none => s

/-- HST_WIN_SET: the window moves until the beat ends (log entry 30); a move that has begun ends first. -/
def execHstWinSet (iss : Issuer) (base : W64) (s : State) : Host.Outcome State Fault Refusal :=
  done <| s.command iss 0x0A10 true [(!(s.windowOk base.toNat), Status.badArgument)] fun s =>
    s.endWinMove.withHst fun h => { h with winMove := some ⟨iss, base.toNat, false⟩ }

/-! ### The function's resets and the link (R35, R38, R460) -/

/-- The capabilities of the endpoint (R36). -/
inductive Capability where
  | powerManagement
  | pciExpress
  | msix
  | errorReporting
  | serialNumber
  | secondary
  | phy16
  | phy32
  | margining
  deriving DecidableEq, Repr

/-- The capabilities, in the order of their list: each with its ID in the base specification and the configuration address of its
structure; those above 0xFF are extended ones (PRESUMED, log entry 57). -/
def capabilities : List (Capability × Nat × Nat) :=
  [(.powerManagement, 0x01, 0x40), (.pciExpress, 0x10, 0x50), (.msix, 0x11, 0x90), (.errorReporting, 0x0001, 0x100),
   (.serialNumber, 0x0003, 0x148), (.secondary, 0x0019, 0x158), (.phy16, 0x0026, 0x178), (.phy32, 0x002A, 0x1A8), (.margining, 0x0027, 0x1D0)]

/-- A size of 128 to 4,096 bytes as PCI Express codes it: 0 for 128, 1 for 256, 2 for 512 and so on. -/
def sizeCode (n : Nat) : Nat := n.log2 - 7

/-- The bounds of R36 on what the PCI Express capability holds. -/
def Endpoint.ok (e : Endpoint) : Bool := decide (e.maxPayload ≤ 512) && decide (e.maxRead ≤ 4096)

/-- The words of a capability's structure after its ID and its link; the first is the upper half of the first word (R36; the layouts of
the base specification are PRESUMED, log entry 57). -/
def State.capabilityWords (s : State) (c : Capability) : List Nat :=
  let e := s.hst.config
  let rate := match s.hst.link with | some l => l.1 | none => 0
  let width := match s.hst.link with | some l => l.2 | none => 0
  match c with
  | .powerManagement => [3, if e.d3hot then 3 else 0]
  | .pciExpress =>
    [2, flag 28 true + flag 15 true + sizeCode 512,
     fld 14 12 (sizeCode e.maxRead) + flag 11 e.noSnoop + fld 7 5 (sizeCode e.maxPayload) + flag 4 e.relaxed, fld 9 4 8 + 5,
     fld 25 20 width + fld 19 16 (rate + 1), 0, 0, 0, 0, flag 17 true + flag 16 true, flag 12 e.tags10, 0x3E]
  | .msix => [flag 15 e.msixEnable + flag 14 e.msixMask + 63, 0xE000, 0xF000]
  | .errorReporting =>
    [2, e.aerUncorrectable.toNat, e.aerUncorrectableMask.toNat, e.aerUncorrectableSeverity.toNat, e.aerCorrectable.toNat,
     e.aerCorrectableMask.toNat, 0, 0, 0, 0, 0]
  | .serialNumber => let n := leAt (s.norBytes serialAt 8) 0 8; [1, n % 2 ^ 32, n / 2 ^ 32]
  | .secondary => [1, 0, 0, 0, 0, 0, 0]
  | .phy16 => [1, 0, 0, if 3 ≤ rate then 0xF else 0, 0, 0, 0, 0, 0]
  | .phy32 => [1, 0, 0, if 4 ≤ rate then 0xF else 0, 0, 0, 0, 0]
  | .margining => [1, 0] ++ e.margins.map BitVec.toNat

/-- The word of a capability structure at a configuration address; a standard one links to the next standard one, an extended one to
the next extended one, and the last of each kind to none (R36). -/
def State.capabilityWord (s : State) (o : Nat) : Nat :=
  match (capabilities.zip (capabilities.tail.map some ++ [none])).find? (fun p =>
    decide (p.1.2.2 ≤ o) && decide (o < p.1.2.2 + 4 * (s.capabilityWords p.1.1).length)) with
  | none => 0
  | some ((c, id, at_), next) =>
    let l := s.capabilityWords c
    let k := (o - at_) / 4
    let link := match next with | some (_, _, b) => if at_ < 0x100 ∧ 0x100 ≤ b then 0 else b | none => 0
    if k ≠ 0 then l.getD k 0
    else if at_ < 0x100 then fld 31 16 (l.headD 0) + fld 15 8 link + id
    else fld 31 20 link + fld 19 16 (l.headD 0) + id

/-- A word of the configuration space: the device and vendor IDs, the presence of a capability list, the class code, the two 64-bit BARs
with their type bits, BAR0 of 64 KiB and not prefetchable, BAR2 of 256 MiB and prefetchable, the others not implemented; the
capability pointer, and the capability structures (R35 to R37). -/
def State.configWord (s : State) (o : Nat) : W32 :=
  let e := s.hst.config
  match o with
  | 0x04 => 0x00100006
  | 0x34 => 0x40
  | 0x00 => BitVec.ofNat 32 (fld 31 16 0x8128 + Config.vendorId.toNat)
  | 0x08 => BitVec.ofNat 32 (fld 31 8 0x118000 + Config.revisionId.toNat)
  | 0x10 => (lo32 e.bar0 &&& 0xFFFF0000) ||| 0x4
  | 0x14 => hi32 e.bar0
  | 0x18 => (lo32 e.bar2 &&& 0xF0000000) ||| 0xC
  | 0x1C => hi32 e.bar2
  | _ => if 0x40 ≤ o ∧ o % 4 = 0 then BitVec.ofNat 32 (s.capabilityWord o) else 0

/-- The agreed set is cleared: the device offers its words again, and no protocol is in use (R38, R62). MB0, CLOSED while
version 1 was in use (R74), is what it was, with its rings and pointers. -/
def State.clearAgreement (s : State) : State :=
  let was1 := s.fieldOf HST_STATE_SESAME 0 == 1
  let s := ((s.putBit HST_STATE_AGREED 0 false).putField HST_STATE_SESAME 0 0).putBit HST_STATE_CQ_REFUSE 0 false
  let s := each [0, 1, 2, 3] (fun i => State.setReg .HST_FEAT i 0 (if i = 0 then 0x3FF else 0)) s
  if was1 then s.setBox 0 { s.box 0 with st := s.hst.state0 } else s

/-- A Function Level Reset (R38); the configuration space is as at reset. The MSI-X table, its pending bits and the messages owed, which
R38 does not list, stay as they are (DESIGN CHOICE, log entry 117). -/
def State.functionReset (s : State) : State :=
  let s := s.clearAgreement.withHst fun h => { h with hello := none, txns := h.txns.filterMap Txn.kept, config := { }, v1Wait := false }
  let s := (each ((List.range 15).map (· + 1)) State.closeBox s).resetBox0
  let s := s.mute 16
  each [4, 5, 6, 7, 8] (fun i => State.setV1 i 0) s

/-- FUNCTION_LEVEL_RESET. -/
def execFunctionLevelReset (s : State) : Host.Outcome State Fault Refusal := done <| s.live State.functionReset

/-- PERST_N_ASSERT: the link is down. -/
def execPerstNAssert (s : State) : Host.Outcome State Fault Refusal :=
  done (s.withHst fun h => { h with perst := false, link := none })

/-- PERST_N_RISE: as a Function Level Reset; the link may train again. -/
def execPerstNRise (s : State) : Host.Outcome State Fault Refusal :=
  done <| ((s.withHst fun h => { h with perst := true }).live State.functionReset)

/-- PCIE_LINK_SETTLE. -/
def execPcieLinkSettle (rate : Fin 5) (lanes : Nat) (s : State) : Host.Outcome State Fault Refusal :=
  done <| s.live fun s =>
    if !s.hst.perst || !([1, 2, 4, 8].contains lanes) then s
    else
      let s := s.withHst fun h => { h with link := some (rate.val, lanes) }
      if rate.val < 2 ∨ lanes < 8 then s.fault 10 0 0x0A02 (fld 11 8 lanes + rate.val) 0 else s

/-! ### Negotiation (R56, R61 to R63, R74) -/

/-- A word that the device offers. -/
def offered (i : Nat) : W32 := if i = 0 then 0x3FF else 0

/-- SYS_HELLO: the host's words are kept; after agreement it clears the agreement and closes the other mailboxes (R62); the
applet cores return to RESET (R374). -/
def execSysHello (iss : Issuer) (feat0 feat1 feat2 feat3 : W32) (s : State) : Host.Outcome State Fault Refusal :=
  let m := iss.mb.val
  let busy := s.agreed && (!s.hst.txns.isEmpty || (List.range 17).any (fun k => k != m && s.owed k != 0))
  done <| s.command iss 0x8001 true [(busy, Status.wrongState)] fun s =>
    let s := if s.agreed then
        each ((List.range 16).filter (fun k => k != 0 && k != m)) State.closeBox s.clearAgreement
      else s
    let s := each ([2, 3, 4, 5, 6, 7].filter (fun k => s.coreState k == 1)) State.appletReset s
    (s.withHst fun h => { h with hello := some [feat0, feat1, feat2, feat3] }).complete iss Status.ok
      ((List.range 4).map (fun i => (offered i).toNat) ++ [0x0200])

/-- The set agreed: the AND of the host's words and the device's (R61). -/
def agreedSet (words : List W32) : List W32 := words.zipIdx.map (fun p => p.1 &&& offered p.2)

/-- A feature set is fixed through a mailbox of version 2, or of version 1 where `one` says so: from then on the other
protocol's mailboxes are closed (R61, R74). What MB0 still owes then, or a command that waits for its start in the version 1 mailbox, is
discarded (DESIGN CHOICE, log entry 76). -/
def State.fixAgreement (one : Bool) (set : List W32) (s : State) : State :=
  let s := each set.zipIdx (fun p => State.setReg .HST_FEAT p.2 0 p.1) s
  let s := (s.putBit HST_STATE_AGREED 0 true).putField HST_STATE_SESAME 0 (if one then 1 else 2)
  let s := (s.putBit HST_STATE_CQ_REFUSE 0 ((set.getD 0 0).getLsbD 2)).withHst fun h => { h with hello := none }
  if one then
    let s := each ((List.range 15).map (· + 1)) State.closeBox (s.mute 0)
    let was := (s.box 0).st
    (s.setBox 0 { s.box 0 with st := 0 }).withHst fun h => { h with state0 := was }
  else if s.hst.v1Wait then (s.setV1 8 (s.v1Word 8 &&& ~~~2#32)).withHst fun h => { h with v1Wait := false }
  else s

/-- SYS_AGREE: the mailbox's protocol must be in the agreed set (R61). -/
def execSysAgree (iss : Issuer) (s : State) : Host.Outcome State Fault Refusal :=
  let one := iss.mb == 16
  let set := agreedSet (s.hst.hello.getD [])
  let lacks := s.hst.hello.isSome && !((set.getD 0 0).getLsbD (if one then 1 else 0))
  done <| s.command iss 0x8002 true [(s.hst.hello.isNone, Status.wrongState), (lacks, Status.notAgreed)] fun s =>
    (s.fixAgreement one set).complete iss Status.ok (set.map BitVec.toNat)

/-- LEDGER_SNAP: every count of the ledger at one boundary (R210). -/
def execLedgerSnap (iss : Issuer) (s : State) : Host.Outcome State Fault Refusal :=
  done <| s.command iss 0x8040 true [] fun s =>
    let two (hi lo : Nat) : Nat := fld 31 16 hi + fld 15 0 lo
    s.complete iss Status.ok [two (s.hold 0) s.freeBlocks, two (s.hold 2) (s.hold 1), two (s.hold 4) (s.hold 3), two (s.hold 6) (s.hold 5),
      s.beat.lbc % 2 ^ 32, s.beat.lbc / 2 ^ 32 % 2 ^ 32]

/-! ### HST_REG_READ and HST_REG_WRITE (R60) -/

/-- HST_REG_READ. -/
def execHstRegRead (iss : Issuer) (addr : W64) (s : State) : Host.Outcome State Fault Refusal :=
  done <| s.command iss 0x0A21 true [((regAt addr.toNat).isNone, Status.badArgument)] fun s =>
    match regAt addr.toNat with
    | some r => let x := (s.beforeRead r).readReg .sesame r; x.2.complete iss Status.ok [x.1.toNat]
    | none => s

/-- What the chapters refuse of a write of one register, live or at its commit: a register that only firmware writes
(15_hazel, before R398's table), NTU_INC (R356), HSK_INJECT (R445), SEQ_GR (R139). -/
def State.writeChecks (s : State) (who : Nat) (r : Reg) (v m : W32) : List (Bool × Nat) :=
  let x := merged (s.reg r.stem r.inst r.word) v m
  if r.stem.info.fwOnly then [(true, Status.wrongState)] else
  match r.stem with
  | .NTU_INC => [(r.word == 1 && !(incOk (join64 (s.heldOf who .NTU_INC 0) x)), Status.badArgument), (s.servoOwns, Status.wrongState)]
  | .HSK_INJECT => [(!(injectOk x), Status.badArgument), (!(s.feature 9), Status.wrongState)]
  | .SEQ_GR => [(!(s.idle (r.inst / 16)), Status.wrongState)]
  | _ => []

/-- HST_REG_WRITE: shadowed in an open transaction; a transaction-only register is refused outside one (R60). A register
that only firmware writes is refused in a transaction too (15_hazel; log entry 12). -/
def execHstRegWrite (iss : Issuer) (addr : W64) (value mask : W32) (s : State) : Host.Outcome State Fault Refusal :=
  let r := regAt addr.toNat
  let more : List (Bool × Nat) := match r with
    | some r => (r.stem.info.txn, Status.wrongState) :: s.writeChecks 0 r value mask
    | none => []
  let own := match r with | some r => r.stem.info.fwOnly | none => false
  done <| s.shadowed iss 0x0A20 true [(r.isNone, Status.badArgument), (own, Status.wrongState)] more [] [] (.reg (addr.toNat - regBase) value mask) fun s =>
    match r with
    | some r => (s.writeReg 0 r value mask).complete iss Status.ok []
    | none => s

end Sys2Proof.Machine
end

