-- ==== Sys2Proof/Machine/Commit.lean ====
section
/-! DEFINITION. The checks of a commit: what every chapter refuses of its transaction-only registers and shadowed commands,
judged on the state before the writes and on the state that they leave (R29, R66, R96, R105, R106, R116, R134, R137, R169,
R188, R194, R222, R229, R256, R275, R295, R299, R310, R318, R354, R372, and the register sections of 08, 12 and 18). -/

namespace Sys2Proof.Machine

/-- The register words that a shadow writes, and where: a written register, its value and its mask. -/
def shadowRegs (l : List Shadow) : List (Reg × W32 × W32) :=
  l.filterMap (fun e => match e with
    | .reg off v m => (Reg.ofOffset off).map (fun r => (r, v, m))
    | .load _ _ => none)

/-- The instances of a stem among written registers. -/
def wrote (ws : List Reg) (st : Stem) : List Nat := (ws.filter (fun r => r.stem == st)).map Reg.inst

/-- A register differs between two states in the bits of a mask. -/
def differs (s t : State) (st : Stem) (i : Nat) (m : W32 := 0xFFFFFFFF#32) : Bool := (s.reg st i ^^^ t.reg st i) &&& m != 0

/-- A site that a register names in either state is not idle: named where its enabling bit is set. -/
def namedBusy (s t : State) (en : Field) (site : Field) (i : Nat) : Bool :=
  (s.bitOf en i && !(t.idle (s.fieldOf site i))) || (t.bitOf en i && !(t.idle (t.fieldOf site i)))

/-- A value lies outside two bounds. -/
def outside (lo hi v : Int) : Bool := decide (v < lo) || decide (hi < v)

/-- The checks of TMG (R29, R96, R105). -/
def checkTmg (s t : State) (ws : List Reg) : List (Bool × Nat) :=
  let sites := wrote ws .TMG_SITE_CFG ++ wrote ws .TMG_FX_STB
  let skew (n : Nat) : Int := signed 21 (t.fieldOf TMG_CH_TIM_FX_SKEW n)
  let tims := wrote ws .TMG_CH_TIM
  let moved := (wrote ws .TMG_CH_CFG).any (fun n =>
    differs s t .TMG_CH_CFG n 0x9F00 && namedBusy s t TMG_CH_CFG_ASSIGNED TMG_CH_CFG_SITE n)
  let siteCfg := (wrote ws .TMG_SITE_CFG).any (fun n => differs s t .TMG_SITE_CFG n && !(t.idle n)) ||
    (wrote ws .TMG_FX_STB).any (fun n => differs s t .TMG_FX_STB n && !(t.idle n))
  let busy (st : Stem) : Bool := (wrote ws st).any (fun n => differs s t st n && namedBusy s t TMG_CH_CFG_ASSIGNED TMG_CH_CFG_SITE n)
  let mode := (wrote ws .TMG_SITE_CFG).any (fun n => t.bitOf TMG_SITE_CFG_MODE n && !(t.feature 7))
  let fixed := sites.any (fun n => t.bitOf TMG_SITE_CFG_MODE n &&
    (outside 125000 1000000 (t.fieldOf TMG_SITE_CFG_FX_PERIOD n) ||
      decide (t.fieldOf TMG_SITE_CFG_FX_PERIOD n ≤ t.fieldOf TMG_FX_STB_STB_OFS n)))
  let sums := (tims ++ wrote ws .TMG_DSK_DRV ++ wrote ws .TMG_DSK_CMP).any (fun n =>
    outside (-3000000) 12000000 (signed 25 (t.fieldOf TMG_DSK_DRV_OFFSET n) + skew n) ||
    outside (-3000000) 12000000 (signed 25 (t.fieldOf TMG_DSK_CMP_OFFSET n) + skew n))
  [(moved || siteCfg || busy .TMG_CH_TIM || busy .TMG_DSK_DRV || busy .TMG_DSK_CMP, Status.wrongState),
   ((wrote ws .TMG_CH_CFG).any (fun n => t.fieldOf TMG_CH_CFG_QUIET n == 3), Status.badArgument),
   (mode || fixed || sums || tims.any (fun n => outside (-1000000) 1000000 (skew n)), Status.badArgument)]

/-- The checks of VST and CST (R116, R134, R229). -/
def checkVst (s t : State) (ws : List Reg) : List (Bool × Nat) :=
  let maps := wrote ws .VST_SYMMAP
  let mks := wrote ws .VST_MK_CFG
  let wins := wrote ws .VST_WIN_CFG
  let pools := wrote ws .CST_POOL_CFG
  let total := (List.range 7).foldl (fun a p => a + t.fieldOf CST_POOL_CFG_MIN p) 0
  [(maps.any (fun n => differs s t .VST_SYMMAP n && !(t.idle n)), Status.wrongState),
   (maps.any (fun n => (List.range 5).any (fun k => decide (9 < bits (t.reg .VST_SYMMAP n) (4 * k + 3) (4 * k)))), Status.badArgument),
   (mks.any (fun k => differs s t .VST_MK_CFG k 0x9F000000 && namedBusy s t VST_MK_CFG_EN VST_MK_CFG_SITE k), Status.wrongState),
   (mks.any (fun k => t.fieldOf VST_MK_CFG_PW k == 0), Status.badArgument),
   (wins.any (fun n => differs s t .VST_WIN_CFG n && !(t.idle n)), Status.wrongState),
   (wins.any (fun n => decide (2048 < t.fieldOf VST_WIN_CFG_WIN_EXTRA n)), Status.badArgument),
   (!pools.isEmpty && (pools.any (fun p => decide (t.fieldOf CST_POOL_CFG_MAX_M1 p + 1 < t.fieldOf CST_POOL_CFG_MIN p)) ||
     decide (65472 < total) || decide (8191 < t.fieldOf CST_POOL_CFG_MAX_M1 3)), Status.badArgument)]

/-- The sites of an enabled group. -/
def State.groupSites (s : State) (g : Nat) : List Nat := if s.bitOf SEQ_LS_CFG_EN g then maskList (s.reg .SEQ_LS_MASK g) 32 else []

/-- The greatest ARG of a condition source; none for a reserved one (R170). -/
def argMax (src : Nat) : Option Nat := [0, 0, 0, 127, 127, 15, 127, 15, 15, 31, 63, 0][src]?

/-- The checks of SEQ (R169, R188, R194). -/
def checkSeq (s t : State) (ws : List Reg) : List (Bool × Nat) :=
  let csl := wrote ws .SEQ_CSL_CFG
  let cslBad (i : Nat) : Bool :=
    (match argMax (t.fieldOf SEQ_CSL_CFG_SRC i) with | some m => decide (m < t.fieldOf SEQ_CSL_CFG_ARG i) | none => true) ||
    (t.bitOf SEQ_CSL_CFG_SPAN i && !(t.feature 4)) || (t.bitOf SEQ_CSL_CFG_SPAN_AND i && t.bitOf SEQ_CSL_CFG_STICKY i)
  let groups := wrote ws .SEQ_LS_MASK ++ wrote ws .SEQ_LS_CFG
  let span := !(wrote ws .SEQ_SPAN_CFG).isEmpty || !(wrote ws .SEQ_SPAN_LAT).isEmpty
  let member (n : Nat) : Nat := ((List.range 8).filter (fun g => (t.groupSites g).contains n)).length + (if t.inSpan n then 1 else 0)
  let groupBad (g : Nat) : Bool := t.bitOf SEQ_LS_CFG_EN g &&
    (!(t.feature 8) || decide ((t.groupSites g).length < 2) || (t.groupSites g).any (fun n => decide (1 < member n)) ||
      decide ((t.groupSites g).length ≤ t.fieldOf SEQ_LS_CFG_MAX_SPLIT g))
  let groupBusy (g : Nat) : Bool := (differs s t .SEQ_LS_MASK g || differs s t .SEQ_LS_CFG g) &&
    (maskList (s.reg .SEQ_LS_MASK g ||| t.reg .SEQ_LS_MASK g) 32).any (fun n => !(t.idle n))
  let spanBad := (t.bitOf SEQ_SPAN_CFG_EN 0 && (!(t.feature 4) || decide (1 < member (t.fieldOf SEQ_SPAN_CFG_SITE 0)))) ||
    outside 32 1024 (t.fieldOf SEQ_SPAN_LAT_L_SPAN 0)
  let spanBusy := (differs s t .SEQ_SPAN_CFG 0 || differs s t .SEQ_SPAN_LAT 0) && namedBusy s t SEQ_SPAN_CFG_EN SEQ_SPAN_CFG_SITE 0
  [(csl.any (fun i => differs s t .SEQ_CSL_CFG i && !(t.idle (i / 16))), Status.wrongState), (csl.any cslBad, Status.badArgument),
   (groups.any groupBusy, Status.wrongState), (groups.any groupBad, Status.badArgument),
   (span && spanBusy, Status.wrongState), (span && spanBad, Status.badArgument)]

/-- The stems of an acquisition unit that a commit may change only while the unit is IDLE. -/
def aqStems : List Stem :=
  [.CAP_AQ_SRC, .CAP_AQ_CFG, .CAP_AQ_PRE, .CAP_AQ_HOLD, .CAP_AQ_TMO, .CAP_AQ_TRIG, .CAP_AQ_LEVEL, .CAP_AQ_HYST, .CAP_AQ_MASK]

/-- The checks of CAP (R256 and its register section). -/
def checkCap (s t : State) (ws : List Reg) : List (Bool × Nat) :=
  let logs : List Stem := [.CAP_FLOG_BASE, .CAP_FLOG_LEN, .CAP_FLOG_CFG]
  let units := aqStems.flatMap (fun st => wrote ws st)
  let digital (a : Nat) : Bool := !(t.bitOf CAP_AQ_SRC_TYPE a)
  let unitBad (a : Nat) : Bool :=
    let l := (t.fieldOf CAP_AQ_CFG_LEN_M1 a + 1) * 512
    let pre := t.fieldOf CAP_AQ_PRE_PRE a
    let k := t.fieldOf CAP_AQ_CFG_AVG_K a
    let ofs : Int := signed 19 (t.fieldOf CAP_AQ_MASK_OFS a)
    decide (8 < t.fieldOf CAP_AQ_TRIG_SRC a) || decide (l ≤ pre) || decide (12 < k) || (k != 0 && digital a) ||
    ((t.fieldOf CAP_AQ_TRIG_SRC a == 7 || t.bitOf CAP_AQ_MASK_EN a) && digital a) ||
    (outside (-(pre : Int)) ((l : Int) - pre - (t.fieldOf CAP_AQ_MASK_LEN_M1 a + 1)) ofs) ||
    (t.bitOf CAP_AQ_CFG_CLASS a && t.fieldOf CAP_AQ_TMO_TIMEOUT a == 0)
  let logBad (n : Nat) : Bool :=
    (t.fieldOf CAP_FLOG_CFG_POLICY n == 1 && t.fieldOf CAP_FLOG_CFG_N n == 0) ||
    !(t.inGddr (t.fieldOf CAP_FLOG_BASE_BASE n * 128) ((t.fieldOf CAP_FLOG_LEN_LEN_M1 n + 1) * 128))
  [(logs.any (fun st => (wrote ws st).any (fun n => differs s t st n && !(t.idle n))), Status.wrongState),
   (aqStems.any (fun st => (wrote ws st).any (fun a => differs s t st a && (t.aq a).st != 0)), Status.wrongState),
   (units.any unitBad || (logs.flatMap (fun st => wrote ws st)).any logBad, Status.badArgument),
   ((wrote ws .CAP_TO_CFG).any (fun k => t.fieldOf CAP_TO_CFG_PW k == 0), Status.badArgument)]

/-- The checks of TIA and ADC (R275, R295). -/
def checkTia (s t : State) (ws : List Reg) : List (Bool × Nat) :=
  let running (n : Nat) : Bool := t.fieldOf TIA_STAT_STATE n == 1
  let three : List Stem := [.TIA_CH_CFG, .TIA_N, .TIA_GATE]
  let rx := wrote ws .TIA_RX_CFG
  let chBad (n : Nat) : Bool := t.fieldOf TIA_CH_CFG_START_POL n == 3 || t.fieldOf TIA_CH_CFG_STOP_POL n == 3 ||
    ((t.fieldOf TIA_CH_CFG_MODE n == 1 || t.fieldOf TIA_CH_CFG_MODE n == 2) && !(t.bitOf TIA_CH_CFG_GATE n))
  let entries := wrote ws .ADC_SEQ
  let adcs := (wrote ws .ADC_CFG ++ entries).map (· / 64)
  let held (i : Nat) : Bool := decide (2 ≤ t.fieldOf ADC_STAT_STATE (i / 64 * 64))
  let short (a : Nat) : Bool :=
    let n := t.fieldOf ADC_CFG_LEN_M1 (64 * a) + 1
    decide (n ≤ 4) && (List.range n).any (fun e => t.fieldOf ADC_SEQ_K (64 * a + e) != t.fieldOf ADC_SEQ_K (64 * a))
  [(three.any (fun st => (wrote ws st).any (fun n => differs s t st n && running n)), Status.wrongState),
   (rx.any (fun n => differs s t .TIA_RX_CFG n && (running n || namedBusy s t TMG_CH_CFG_ASSIGNED TMG_CH_CFG_SITE n)), Status.wrongState),
   ((wrote ws .TIA_CH_CFG).any chBad || rx.any (fun n => decide (64 < t.fieldOf TIA_RX_CFG_HOLDOFF n)) ||
     (wrote ws .TIA_GATE).any (fun n => t.fieldOf TIA_GATE_GATE n == 0), Status.badArgument),
   ((wrote ws .ADC_CFG).any (fun i => differs s t .ADC_CFG i && held i) || entries.any (fun i => differs s t .ADC_SEQ i && held i),
     Status.wrongState),
   ((wrote ws .ADC_CFG).any (fun i => decide (4 < t.fieldOf ADC_CFG_SRC i)) ||
     entries.any (fun i => decide (39 < t.fieldOf ADC_SEQ_INPUT i) || decide (t.fieldOf ADC_SEQ_SETTLE i < 4) ||
       decide (12 < t.fieldOf ADC_SEQ_K i)) || adcs.any short, Status.badArgument)]

/-- The checks of SUP (R299, R310). -/
def checkSup (s t : State) (ws : List Reg) : List (Bool × Nat) :=
  let glb := !(wrote ws .SUP_GLB_CFG).isEmpty
  let cfg := wrote ws .SUP_CFG
  [(glb && differs s t .SUP_GLB_CFG 0 && (List.range 32).any (fun c => t.supState c != 0), Status.wrongState),
   (cfg.any (fun c => differs s t .SUP_CFG c 0xFE000000 && namedBusy s t SUP_CFG_OWNED SUP_CFG_SITE c), Status.wrongState),
   ((glb && outside 200 800 (t.fieldOf SUP_GLB_CFG_DIV 0)) || cfg.any (fun c => t.fieldOf SUP_CFG_SS_DIV c == 0) ||
     (wrote ws .SUP_MON_CFG).any (fun c => (List.range 4).any (fun m => bits (t.reg .SUP_MON_CFG c) (4 * m + 1) (4 * m) == 3)) ||
     (wrote ws .SUP_THR_V).any (fun c => decide (t.fieldOf SUP_THR_V_OV c ≤ t.fieldOf SUP_THR_V_UV c)) ||
     (wrote ws .SUP_VSET).any (fun c => decide (4000 < t.fieldOf SUP_VSET_VSET c)), Status.badArgument)]

/-- The FABRIC blocks that a port's advertised counts need beyond those it holds (R354). -/
def State.fabricMore (s : State) (p : Nat) : Nat := fabricBlocks (s.vcTotals p) - (s.port p).blocks.length

/-- The checks of MEM, KLK, NTU and HSK (R222, R318, R354, R372). -/
def checkRest (s t : State) (ws : List Reg) : List (Bool × Nat) :=
  let ks := wrote ws .MEM_NR_CFG
  let vcs := wrote ws .KLK_VC_CFG
  let ntu := !(wrote ws .NTU_ROLE).isEmpty || !(wrote ws .NTU_PTP_CFG).isEmpty
  let ptp := t.fieldOf NTU_PTP_CFG_ROLE 0
  let ntuBad := t.fieldOf NTU_ROLE_ROLE 0 == 3 || ptp == 3 ||
    (t.fieldOf NTU_ROLE_ROLE 0 == 2 && (t.fieldOf NTU_ROLE_DOWN 0).testBit (t.fieldOf NTU_ROLE_UP_PORT 0)) ||
    (t.bitOf NTU_ROLE_SRC 0 && ptp == 0) || (ptp != 0 && !(t.feature 6)) || t.fieldOf NTU_PTP_CFG_TRANSPORT 0 == 3
  [(ks.any (fun m => outside 6 16 (t.fieldOf MEM_NR_CFG_K m)) || (wrote ws .MEM_NR_SEED).any (fun m => t.reg .MEM_NR_SEED m == 0),
     Status.badArgument),
   (ks.any (fun m => decide (t.fieldOf MEM_NR_CFG_K m < s.fieldOf MEM_NR_CFG_K m)) && !(t.withinBudget t.admUsed), Status.bandwidth),
   (vcs.any (fun p => (t.vcTotals p).any (fun n => decide (n < 5))), Status.badArgument),
   ((wrote ws .KLK_MOD_ID).any (fun _ => t.fieldOf KLK_MOD_ID_TTL 0 == 0), Status.badArgument),
   (!vcs.isEmpty && !(t.mayTake 4 ((vcs.map t.fabricMore).foldl (· + ·) 0)), Status.noResource),
   (ntu && ntuBad, Status.badArgument),
   ((wrote ws .HSK_EVT_ROUTE).any (fun e => t.fieldOf HSK_EVT_ROUTE_TARGET e == 3), Status.badArgument)]

/-- The checks of the shadowed commands (R106, R137, and the sections of CAP and SUP). -/
def checkLoad (t : State) (e : Shadow) : List (Bool × Nat) :=
  match e with
  | .load (.tmgTsetLoad _ _ site _ count) data =>
    let n := site.toNat
    [(!(t.idle n) || (splitImages count.toNat data).any (fun img => imgN img != (t.siteChannels n).length), Status.wrongState)]
  | .load (.vstMktabLoad _ _ site _ _) _ => [(!(t.idle site.toNat), Status.wrongState)]
  | .load (.capAqMaskLoad _ _ unit _) _ => [((t.aq (unit.toNat % 16)).st != 0, Status.wrongState)]
  | .load (.supSet _ controllers op _) _ => t.supSetChecks controllers op
  | _ => []

/-- What R60's chapters refuse of each write of a shadow, one after another, with the LO halves that it writes held (R41). -/
def writesChecks : List (Reg × W32 × W32) → State → List (Bool × Nat)
  | [], _ => []
  | x :: r, s =>
    s.writeChecks 0 x.1 x.2.1 x.2.2 ++
    writesChecks r (if x.1.stem = .NTU_INC ∧ x.1.word = 0 then s.holdLo 0 .NTU_INC 0 (merged (s.reg .NTU_INC 0) x.2.1 x.2.2) else s)

/-- Every check of a commit: `s` is the state at the application beat, `t` what the shadow's writes make of it (R66). -/
def commitChecks (s t : State) (l : List Shadow) : List (Bool × Nat) :=
  let ws := (shadowRegs l).map (fun x => x.1)
  writesChecks (shadowRegs l) s ++
  checkTmg s t ws ++ checkVst s t ws ++ checkSeq s t ws ++ checkCap s t ws ++ checkTia s t ws ++ checkSup s t ws ++ checkRest s t ws ++
  l.flatMap (checkLoad t)

end Sys2Proof.Machine
end

