-- ==== Sys2Proof/Machine/Txn.lean ====
section
/-! DEFINITION. Configuration transactions and the selection of a profile (R64 to R72). -/

namespace Sys2Proof.Machine

/-- A commit stands for a selected profile: mode 8 + p (the model's own, for SYS_PROFILE_SELECT). -/
def Commit.profile (c : Commit) : Bool := decide (8 ≤ c.mode)

/-- The transaction that CFG_BEGIN opened for a mailbox. -/
def State.openTxn (s : State) (m : Nat) : Option Txn :=
  (s.txnOf m).filter (fun x => match x.pending with | some c => !c.profile | none => true)

/-- A mailbox's transaction leaves the list of open ones. -/
def State.closeTxn (m : Nat) (s : State) : State := s.withHst fun h => { h with txns := h.txns.filter (fun x => x.mb != m) }

/-- A mailbox that reads ROLLED is OPEN again (R70). -/
def State.unroll (m : Nat) (s : State) : State := if m < 16 ∧ (s.box m).st = 3 then s.setBox m { s.box m with st := 1 } else s

/-- CFG_BEGIN (R63, R64, R70). -/
def execCfgBegin (iss : Issuer) (s : State) : Host.Outcome State Fault Refusal :=
  let m := iss.mb.val
  let other := s.hst.txns.filter (fun x => x.mb != m)
  let held := match s.txnOf m with | some x => !x.rolled | none => false
  done <| s.command iss 0x8010 true
    [(!(s.feature 3), Status.badCommand), (held, Status.wrongState), (decide (4 ≤ other.length), Status.noResource)] fun s =>
      let s := (s.closeTxn m).unroll m
      (s.withHst fun h => { h with txns := h.txns ++ [⟨m, iss.tag, false, [], none⟩] }).complete iss Status.ok []

/-- CFG_COMMIT taken: refused, or pending (R66, R67, R70). AT_BOUNDARY with every named site idle runs as NEXT_BEAT. -/
def State.takeCommit (iss : Issuer) (mode : Nat) (lbc : Nat) (sites : W32) (s : State) : State :=
  let m := iss.mb.val
  let b := s.beat.lbc
  let now := mode == 0 || (mode == 2 && (maskList sites 32).all s.idle)
  let c : Commit := { iss := iss, mode := if now then 0 else mode, lbc := if mode = 1 then lbc else b + 1, sites := sites }
  let s := s.modTxn m fun x => { x with pending := some c }
  if now then s else s.complete iss Status.deferred []

/-- CFG_COMMIT. -/
def execCfgCommit (iss : Issuer) (mode : Byte) (lbc : W64) (sites : W32) (s : State) : Host.Outcome State Fault Refusal :=
  let k := mode.toNat
  let args := decide (2 < k) || (k == 1 && decide (lbc.toNat < s.beat.lbc + 800)) || (k == 2 && sites == 0)
  let x := s.openTxn iss.mb.val
  let rolled := match x with | some x => x.rolled | none => false
  let free := match x with | some x => x.pending.isNone | none => false
  done <| s.command iss 0x8011 (!(iss.mb == 16 && k == 1)) [] fun s =>
    if rolled then s.complete iss Status.rolledBack []
    else match lowest [(args, Status.badArgument), (!free, Status.wrongState)] with
      | some st => s.complete iss st []
      | none => s.takeCommit iss k lbc.toNat sites

/-- CFG_ROLLBACK: a pending commit ends with ROLLED_BACK; the shadow is discarded and the transaction closed (R69, R70). -/
def execCfgRollback (iss : Issuer) (s : State) : Host.Outcome State Fault Refusal :=
  let m := iss.mb.val
  done <| s.command iss 0x8012 true [] fun s =>
    match s.openTxn m with
    | none => s.complete iss Status.wrongState []
    | some x =>
      let s := (s.closeTxn m).unroll m
      let s := match x.pending with | some c => s.complete c.iss Status.rolledBack [] | none => s
      s.complete iss Status.ok [shadowSize x.entries]

/-- SYS_PROFILE_SELECT: what the profile writes waits as a commit for the next boundary (R71, R72, R3). A profile that is
empty or fails its check, for which R72 names no status here, is refused with WRONG_STATE (DESIGN CHOICE, log entry 77). -/
def execSysProfileSelect (iss : Issuer) (profile : Byte) (s : State) : Host.Outcome State Fault Refusal :=
  let p := profile.toNat
  let m := iss.mb.val
  let state := (List.range 32).any (fun n => !(s.idle n)) || !s.hst.txns.isEmpty || s.profileEmpty p
  done <| s.command iss 0x8020 true
    [(decide (3 < p), Status.badArgument), (decide (p ≤ 3) && state, Status.wrongState),
     (decide (p ≤ 3) && decide (s.backed < s.profileNeed p), Status.noResource)] fun s =>
      let c : Commit := { iss := iss, mode := 8 + p, lbc := s.beat.lbc + 1, sites := 0 }
      s.withHst fun h => { h with txns := h.txns ++ [⟨m, iss.tag, false, s.profileWrites p, some c⟩] }

/-- The writes of a shadow, in its order. -/
def State.writeAll (l : List Shadow) (s : State) : State :=
  each (shadowRegs l) (fun x t => t.writeReg 0 x.1 x.2.1 x.2.2) s

/-- A shadowed command takes effect. -/
def State.applyLoad (e : Shadow) (s : State) : State :=
  match e with
  | .load (.tmgTsetLoad _ _ site first count) data => s.loadTsets site.toNat first.toNat (splitImages count.toNat data)
  | .load (.vstMktabLoad _ _ site first count) data => s.loadMarks site.toNat first.toNat (splitEntries 16 count.toNat data)
  | .load (.capAqMaskLoad _ _ unit bins) data => s.loadMask unit.toNat bins.toNat data
  | .load (.supSet _ controllers op vset) _ => s.supSet controllers op vset
  | _ => s

/-- What the written registers do, from the state `old` before the writes, and the shadowed commands; NTU_INC is in force from the
application beat on (R66). -/
def State.settleAll (old : State) (l : List Shadow) (s : State) : State :=
  (each l State.applyLoad (each (shadowRegs l) (fun x t => State.settleWrite old x.1 t) s)).takeInc

/-- The final completion of a commit; none where its mailbox was reset (R38, R59). -/
def State.endCommit (c : Commit) (status : Nat) (res : List Nat) (s : State) : State :=
  if c.muted then s else s.complete c.iss status res

/-- A due commit at its application beat: every check on the state and on what its writes make of it; refused whole, with
the transaction left open, or applied whole and closed (R66). -/
def State.applyCommit (m : Nat) (x : Txn) (c : Commit) (s : State) : State :=
  let t := s.writeAll x.entries
  let b := s.beat.lbc
  let idle := (c.profile && (List.range 32).any (fun n => !(s.idle n)), Status.wrongState)
  match lowest (idle :: commitChecks s t x.entries) with
  | some st => (if c.profile then s.closeTxn m else s.modTxn m fun x => { x with pending := none }).endCommit c st []
  | none =>
    let s := (State.settleAll s x.entries t).closeTxn m
    let s := when c.profile (State.putField HST_STATE_PROFILE 0 (c.mode - 8)) s
    s.endCommit c Status.ok ([b % 2 ^ 32, b / 2 ^ 32 % 2 ^ 32] ++ (if c.profile then [] else [shadowSize x.entries]))

/-- What stands above the commits at a boundary: the faults presented are latched and contained, due aborts take place, due burst
starts and the thread state changes of the boundary (precedences 1 to 3 of R23). -/
def State.upToCommits (s : State) : State :=
  ((((s.latchFaults).takeAborts (List.range 32)).enterQuiets).startAll).crossThreads

/-- The due commit of a mailbox, if any. -/
def State.dueCommit (s : State) (m : Nat) : Option (Txn × Commit) :=
  (s.txnOf m).bind (fun x => (x.pending.filter s.commitDue).map (fun c => (x, c)))

/-- What stands above new requests at a boundary: the due commits too, in the order of R68, a due throttle tick (R425), and the
events that waited for them (precedences 1 to 4 of R23). -/
def State.upToRequests (s : State) : State :=
  (each (List.range 17) (fun m s => match s.dueCommit m with | some x => s.applyCommit m x.1 x.2 | none => s)
    s.upToCommits).throttle.exchangeOnce

/-- CFG_APPLY: a mailbox's pending commit, once it is due, after what stands above it at its boundary (R23); a lower mailbox's due
commit comes first (R66, R68). -/
def execCfgApply (mb : Fin 17) (s : State) : Host.Outcome State Fault Refusal :=
  done <| s.live fun s => State.exchangeOnce <|
    let s := s.upToCommits
    if (List.range mb.val).any (fun m => (s.dueCommit m).isSome) then s
    else match s.dueCommit mb.val with
      | some x => s.applyCommit mb.val x.1 x.2
      | none => s

end Sys2Proof.Machine
end

