-- ==== Sys2Proof/Machine/Start.lean ====
section
/-! DEFINITION. Requests that stand below all else at a beat boundary: the start and stop of bursts (R23, R141, R157 to R159). -/

namespace Sys2Proof.Machine

/-- A request of mailbox `iss.mb` is taken at precedence 5, after what stands above it at its boundary (R23). -/
def State.requested (iss : Issuer) (run : State → State) (s : State) : State :=
  if s.canTake iss.mb.val then run s.upToRequests else s

/-- SEQ_BURST_START, after all that stands above it at its boundary (R23): all checks are made when the command is taken; if any site
fails one, none is armed (R157). Version 1 carries mode NOW alone (R76). -/
def execSeqBurstStart (iss : Issuer) (sites : W32) (program mode : Byte) (entry : W16) (when_ : W64) (nanos : W32) (s : State) :
    Host.Outcome State Fault Refusal :=
  done <| State.requested iss (fun s =>
    if !(s.canTake iss.mb.val) then s
    else
      let at_ := s.startBeat mode when_ nanos
      match s.judge 0x0120 (!(iss.mb == 16 && (mode == 1 || mode == 2))) (issuerCheck iss :: s.startChecks sites program mode entry when_ nanos) with
      | some st =>
        let s := if st = Status.thermal then (s.countUp THM_REFUSED_COUNT 0 1).event (1136 + 4) else s
        s.complete iss st []
      | none =>
        (s.pinAll.armBurst (maskList sites 32) program.toNat entry.toNat at_).defer iss
          (.seqBurstStart iss sites program mode entry when_ nanos) at_ [sites.toNat, 0]) s

/-- BURST_START_BEAT: the start beat of a burst has come (precedence 3 of R23). -/
def execBurstStartBeat (index : Nat) (s : State) : Host.Outcome State Fault Refusal :=
  done <| s.live fun s =>
    match s.hst.deferred[index]? with
    | some d => if s.startDue index then s.startThreads index d else s
    | none => s

/-- SEQ_BURST_STOP, at precedence 5: an abort that Husk has decided in the same beat stands (R23, R159). -/
def execSeqBurstStop (iss : Issuer) (sites : W32) (mode : Byte) (s : State) : Host.Outcome State Fault Refusal :=
  done <| State.requested iss (fun s => s.command iss 0x0121 true [(sites == 0 || decide (2 < mode.toNat), Status.badArgument)] fun s =>
    let l := maskList sites 32
    match mode.toNat with
    | 0 =>
      let l := l.filter (fun n => !(s.idle n))
      (each l (fun n => State.abortDue n 6) s).complete iss Status.ok [listMask l]
    | 1 =>
      let l := l.filter s.issuing
      (each l (fun n s => s.requestStop n s.beat.lbc 4) s).complete iss Status.ok [listMask l]
    | _ =>
      let l := l.filter (fun n => (s.thr n).st == 1 && !((s.thr n).abortsBy (s.beat.lbc + 1)))
      (each l (fun n s => (s.endThread n 0).leaveStart n 0) s).complete iss Status.ok [listMask l]) s

end Sys2Proof.Machine
end

