-- ==== Sys2Proof/Machine/Desc.lean ====
section
/-! DEFINITION. From descriptors to commands: the command table, the service of the mailboxes, the version 1 mailbox,
deferred commands, direct writes, and the register service of applets (R49, R52 to R54, R56, R75, R76, R379, R479). -/

namespace Sys2Proof.Machine

/-! ### The command table -/

/-- A field of a descriptor. -/
def u8 (l : List Byte) (o : Nat) : Byte := BitVec.ofNat 8 (leAt l o 1)
def u16 (l : List Byte) (o : Nat) : W16 := BitVec.ofNat 16 (leAt l o 2)
def u32 (l : List Byte) (o : Nat) : W32 := BitVec.ofNat 32 (leAt l o 4)
def u64 (l : List Byte) (o : Nat) : W64 := BitVec.ofNat 64 (leAt l o 8)

/-- The command of a code, with its arguments from a descriptor, and where its argument fields lie: offset and size. None
for a code that is not assigned (R56). -/
def commandOf (iss : Issuer) (code : Nat) (l : List Byte) : Option (Instr × List (Nat × Nat)) :=
  match code with
  | 0x0001 => some (.tmgTsetLoad iss (u64 l 8) (u8 l 0x10) (u8 l 0x11) (u16 l 0x12), [(8, 12)])
  | 0x0002 => some (.tmgTsetRead iss (u64 l 8) (u8 l 0x10) (u8 l 0x11), [(8, 10)])
  | 0x0003 => some (.tmgEdgeQuery iss (u8 l 8) (u8 l 9) (u8 l 10), [(8, 3)])
  | 0x0101 => some (.seqUcodeLoad iss (u64 l 8) (u8 l 0x10), [(8, 9)])
  | 0x0102 => some (.seqUcodeVerify iss (u8 l 8), [(8, 1)])
  | 0x0110 => some (.seqProgLoad iss (u64 l 8) (u8 l 0x10) (u16 l 0x12), [(8, 9), (0x12, 2)])
  | 0x0111 => some (.seqProgFree iss (u8 l 8), [(8, 1)])
  | 0x0120 => some (.seqBurstStart iss (u32 l 8) (u8 l 12) (u8 l 13) (u16 l 14) (u64 l 16) (u32 l 24), [(8, 20)])
  | 0x0121 => some (.seqBurstStop iss (u32 l 8) (u8 l 12), [(8, 5)])
  | 0x0130 => some (.seqThrRead iss (u64 l 8) (u8 l 0x10), [(8, 9)])
  | 0x0140 => some (.seqCslSet iss (u32 l 8) (u8 l 12) (u8 l 13), [(8, 6)])
  | 0x0201 => some (.vstDirWrite iss (u64 l 8) (u16 l 0x10) (u32 l 0x12), [(8, 14)])
  | 0x0202 => some (.vstDirRead iss (u64 l 8) (u16 l 0x10) (u32 l 0x12), [(8, 14)])
  | 0x0203 => some (.vstSegVerify iss (u16 l 8), [(8, 2)])
  | 0x0204 => some (.vstMktabLoad iss (u64 l 8) (u8 l 0x10) (u8 l 0x11) (u16 l 0x12), [(8, 12)])
  | 0x0301 => some (.capAqArm iss (u16 l 8), [(8, 2)])
  | 0x0302 => some (.capAqDisarm iss (u16 l 8), [(8, 2)])
  | 0x0303 => some (.capAqTrig iss (u16 l 8), [(8, 2)])
  | 0x0304 => some (.capAqRead iss (u64 l 8) (u8 l 0x10) (u8 l 0x11), [(8, 10)])
  | 0x0305 => some (.capAqMaskLoad iss (u64 l 8) (u8 l 0x10) (u16 l 0x12), [(8, 9), (0x12, 2)])
  | 0x0401 => some (.tiaStart iss (u64 l 8) (u64 l 16) (u8 l 24) (u64 l 32), [(8, 17), (32, 8)])
  | 0x0402 => some (.tiaStop iss (u64 l 8) (u64 l 16), [(8, 16)])
  | 0x0403 => some (.tiaStatRead iss (u64 l 8) (u8 l 0x10), [(8, 9)])
  | 0x0501 => some (.adcSelfcal iss (u8 l 8), [(8, 1)])
  | 0x0502 => some (.adcArm iss (u8 l 8), [(8, 1)])
  | 0x0503 => some (.adcStop iss (u8 l 8) (u8 l 9), [(8, 2)])
  | 0x0504 => some (.adcTrig iss (u8 l 8), [(8, 1)])
  | 0x0505 => some (.adcOpenwire iss (u64 l 8) (u64 l 16) (u8 l 24) (u8 l 25) (u16 l 26) (u16 l 28), [(8, 22)])
  | 0x0601 => some (.supSet iss (u32 l 8) (u8 l 12) (u16 l 14), [(8, 5), (14, 2)])
  | 0x0602 => some (.supSelftest iss (u8 l 8) (u8 l 9), [(8, 2)])
  | 0x0901 => some (.klkPortCtl iss (u8 l 8) (u8 l 9), [(8, 2)])
  | 0x0902 => some (.klkPrbs iss (u64 l 8) (u8 l 16) (u8 l 17) (u8 l 18) (u8 l 19) (u8 l 20), [(8, 13)])
  | 0x0903 => some (.klkTrigSend iss (u8 l 8), [(8, 1)])
  | 0x0A01 => some (.hstMbOpen iss (u8 l 8) (u8 l 9) (u8 l 10) (u8 l 11) (u8 l 12) (u16 l 14), [(8, 5), (14, 2)])
  | 0x0A02 => some (.hstMbClose iss (u8 l 8), [(8, 1)])
  | 0x0A03 => some (.hstMbReset iss (u8 l 8), [(8, 1)])
  | 0x0A10 => some (.hstWinSet iss (u64 l 8), [(8, 8)])
  | 0x0A20 => some (.hstRegWrite iss (u64 l 8) (u32 l 16) (u32 l 20), [(8, 16)])
  | 0x0A21 => some (.hstRegRead iss (u64 l 8), [(8, 8)])
  | 0x0A30 => some (.hstFwStore iss (u64 l 8) (u32 l 16), [(8, 12)])
  | 0x0B01 => some (.ntuTodRead iss, [])
  | 0x0B02 => some (.ntuTodStep iss (u8 l 8) (u64 l 16) (u64 l 24) (u32 l 32), [(8, 1), (16, 20)])
  | 0x0B03 => some (.ntuAlmArm iss (u8 l 8) (u8 l 9) (u8 l 10) (u8 l 11) (u64 l 16) (u32 l 24) (u32 l 28), [(8, 4), (16, 16)])
  | 0x0B04 => some (.ntuAlmDisarm iss (u32 l 8), [(8, 4)])
  | 0x0B05 => some (.ntuTxTimed iss (u64 l 8) (u16 l 16) (u8 l 18) (u8 l 19) (u64 l 24) (u32 l 32), [(8, 12), (24, 12)])
  | 0x0C01 => some (.mgtAppletLoad iss (u64 l 8) (u8 l 16) (u8 l 17) (u8 l 18) (u8 l 19) (u32 l 20) (u32 l 24), [(8, 20)])
  | 0x0C02 => some (.mgtAppletStop iss (u8 l 8), [(8, 1)])
  | 0x0C03 => some (.mgtDmaHost iss (u64 l 8) (u64 l 16) (u32 l 24) (u8 l 28), [(8, 21)])
  | 0x0C04 => some (.mgtCoreDump iss (u64 l 8) (u8 l 16), [(8, 9)])
  | 0x0D01 => some (.calRun iss (u8 l 8) (u8 l 9) (u8 l 10) (u8 l 11) (u32 l 12), [(8, 8)])
  | 0x0D02 => some (.calStore iss (u32 l 8), [(8, 4)])
  | 0x0D03 => some (.calRestore iss (u32 l 8) (u8 l 12), [(8, 5)])
  | 0x0F01 => some (.hskRecRead iss (u64 l 8) (u32 l 16) (u16 l 20), [(8, 14)])
  | 0x8001 => some (.sysHello iss (u32 l 8) (u32 l 12) (u32 l 16) (u32 l 20), [(8, 16)])
  | 0x8002 => some (.sysAgree iss, [])
  | 0x8010 => some (.cfgBegin iss, [])
  | 0x8011 => some (.cfgCommit iss (u8 l 8) (u64 l 16) (u32 l 24), [(8, 1), (16, 12)])
  | 0x8012 => some (.cfgRollback iss, [])
  | 0x8020 => some (.sysProfileSelect iss (u8 l 8), [(8, 1)])
  | 0x8021 => some (.sysProfileStore iss (u8 l 8), [(8, 1)])
  | 0x8030 => some (.sysShutdownLogRead iss (u64 l 8) (u16 l 16) (u16 l 18), [(8, 12)])
  | 0x8031 => some (.sysShutdownLogClear iss, [])
  | 0x8040 => some (.ledgerSnap iss, [])
  | _ => none

/-- A byte of a descriptor that is neither its head nor one of its argument fields is not 0, or a reserved flag is set
(R10, R49). -/
def reservedSet (l : List Byte) (fields : List (Nat × Nat)) : Bool :=
  leAt l 2 2 / 2 != 0 ||
  (List.range 56).any (fun i => (l.getD (8 + i) 0) != 0 && !(fields.any (fun f => decide (f.1 ≤ 8 + i) && decide (8 + i < f.1 + f.2))))

/-- The command that a descriptor of a mailbox spells, its issuer with tag, NOWAIT and the reserved check. -/
def descriptorOf (mb : Fin 17) (l : List Byte) : Option Instr :=
  let iss : Issuer := ⟨mb, u32 l 4, (leAt l 2 2).testBit 0, false⟩
  match commandOf iss (leAt l 0 2) l with
  | none => none
  | some (_, fields) =>
    match commandOf { iss with reserved := reservedSet l fields } (leAt l 0 2) l with
    | some (c, _) => some c
    | none => none

/-- The meaning of each Sesame command. -/
def runSesame (c : Instr) (s : State) : Host.Outcome State Fault Refusal :=
  match c with
  | .hstMbOpen iss m a b v n t => execHstMbOpen iss m a b v n t s
  | .hstMbClose iss m => execHstMbClose iss m s
  | .hstMbReset iss m => execHstMbReset iss m s
  | .hstWinSet iss base => execHstWinSet iss base s
  | .hstRegWrite iss a v m => execHstRegWrite iss a v m s
  | .hstRegRead iss a => execHstRegRead iss a s
  | .sysHello iss a b c d => execSysHello iss a b c d s
  | .sysAgree iss => execSysAgree iss s
  | .cfgBegin iss => execCfgBegin iss s
  | .cfgCommit iss mode lbc sites => execCfgCommit iss mode lbc sites s
  | .cfgRollback iss => execCfgRollback iss s
  | .sysProfileSelect iss p => execSysProfileSelect iss p s
  | .sysProfileStore iss p => execSysProfileStore iss p s
  | .sysShutdownLogRead iss d f n => execSysShutdownLogRead iss d f n s
  | .sysShutdownLogClear iss => execSysShutdownLogClear iss s
  | .ledgerSnap iss => execLedgerSnap iss s
  | .tmgTsetLoad iss a n f k => execTmgTsetLoad iss a n f k s
  | .tmgTsetRead iss a n t => execTmgTsetRead iss a n t s
  | .tmgEdgeQuery iss c t p => execTmgEdgeQuery iss c t p s
  | .vstDirWrite iss a f n => execVstDirWrite iss a f n s
  | .vstDirRead iss a f n => execVstDirRead iss a f n s
  | .vstSegVerify iss n => execVstSegVerify iss n s
  | .vstMktabLoad iss a n f k => execVstMktabLoad iss a n f k s
  | .seqUcodeLoad iss a m => execSeqUcodeLoad iss a m s
  | .seqUcodeVerify iss m => execSeqUcodeVerify iss m s
  | .seqProgLoad iss a p n => execSeqProgLoad iss a p n s
  | .seqProgFree iss p => execSeqProgFree iss p s
  | .seqBurstStart iss m p mode e w n => execSeqBurstStart iss m p mode e w n s
  | .seqBurstStop iss m mode => execSeqBurstStop iss m mode s
  | .seqThrRead iss a n => execSeqThrRead iss a n s
  | .seqCslSet iss m k op => execSeqCslSet iss m k op s
  | .capAqArm iss m => execCapAqArm iss m s
  | .capAqDisarm iss m => execCapAqDisarm iss m s
  | .capAqTrig iss m => execCapAqTrig iss m s
  | .capAqRead iss a u n => execCapAqRead iss a u n s
  | .capAqMaskLoad iss a u n => execCapAqMaskLoad iss a u n s
  | .tiaStart iss m0 m1 mode lbc => execTiaStart iss m0 m1 mode lbc s
  | .tiaStop iss m0 m1 => execTiaStop iss m0 m1 s
  | .tiaStatRead iss a n => execTiaStatRead iss a n s
  | .adcSelfcal iss m => execAdcSelfcal iss m s
  | .adcArm iss m => execAdcArm iss m s
  | .adcStop iss m mode => execAdcStop iss m mode s
  | .adcTrig iss m => execAdcTrig iss m s
  | .adcOpenwire iss a m c i t h => execAdcOpenwire iss a m c i t h s
  | .supSet iss m op v => execSupSet iss m op v s
  | .supSelftest iss c m => execSupSelftest iss c m s
  | .klkPortCtl iss m op => execKlkPortCtl iss m op s
  | .klkPrbs iss m op p r f n => execKlkPrbs iss m op p r f n s
  | .klkTrigSend iss n => execKlkTrigSend iss n s
  | .ntuTodRead iss => execNtuTodRead iss s
  | .ntuTodStep iss mode lbc v n => execNtuTodStep iss mode lbc v n s
  | .ntuAlmArm iss a f l n t ns p => execNtuAlmArm iss a f l n t ns p s
  | .ntuAlmDisarm iss m => execNtuAlmDisarm iss m s
  | .ntuTxTimed iss a n p q t ns => execNtuTxTimed iss a n p q t ns s
  | .mgtAppletLoad iss a k t e q m n => execMgtAppletLoad iss a k t e q m n s
  | .mgtAppletStop iss k => execMgtAppletStop iss k s
  | .mgtDmaHost iss b p n d => execMgtDmaHost iss b p n d s
  | .mgtCoreDump iss a k => execMgtCoreDump iss a k s
  | .calRun iss sc mode set f m => execCalRun iss sc mode set f m s
  | .calStore iss m => execCalStore iss m s
  | .calRestore iss m k => execCalRestore iss m k s
  | .hskRecRead iss a f n => execHskRecRead iss a f n s
  | .hstFwStore iss a n => execHstFwStore iss a n s
  | _ => .next s

/-- A descriptor runs: an unassigned code is answered with BAD_COMMAND (R56, R57). -/
def State.runDescriptor (mb : Fin 17) (l : List Byte) (s : State) : Host.Outcome State Fault Refusal :=
  match descriptorOf mb l with
  | some c => runSesame c s
  | none => done (s.complete ⟨mb, u32 l 4, false, false⟩ Status.badCommand [])

/-! ### The service of mailboxes (R52, R54, R479) -/

/-- A mailbox has a descriptor that may be started: one is waiting, the first completion of the one before is posted, and
the ring has room beyond what is owed (R52, R54). -/
def State.mayStart (s : State) (m : Nat) : Bool :=
  let b := s.box m
  s.canTake m && b.sqHead != b.sqTail && decide (s.owed m < b.cqFree) &&
  !(s.hst.txns.any (fun x => x.mb == m && (match x.pending with | some c => (c.mode == 0 || c.profile) && !c.muted | none => false))) &&
  !(match s.hst.winMove with | some w => w.iss.mb.val == m && !w.muted | none => false)

/-- The next mailbox in the round: the first after the one served last that may start a descriptor (R479). -/
def State.nextBox (s : State) : Option Nat := ((List.range 16).map (fun i => (s.hst.last + 1 + i) % 16)).find? s.mayStart

/-- How many argument bytes version 1 carries of a command: up to 0x13, less those of a field that lies partly beyond it
(R76). -/
def v1Carried (code : Nat) : Nat :=
  if [0x0120, 0x0401, 0x0402, 0x0505, 0x0B02, 0x0B03, 0x0C03, 0x8011].contains code then 8
  else if code = 0x0201 ∨ code = 0x0202 then 10 else 12

/-- The descriptor that the version 1 mailbox holds. -/
def State.v1Descriptor (s : State) : List Byte :=
  let n := v1Carried ((s.v1Word 0).toNat % 65536)
  leBytes 4 (s.v1Word 0).toNat ++ leBytes 4 0 ++ ([1, 2, 3].flatMap (fun i => leBytes 4 (s.v1Word i).toNat)).take n ++
  List.replicate (56 - n) 0

/-- The command of the version 1 mailbox starts; it counts as the start of its beat (R479). -/
def State.startV1 (s : State) : Host.Outcome State Fault Refusal :=
  (s.withHst fun h => { h with v1Wait := false, startedAt := some s.beat.lbc }).runDescriptor 16 s.v1Descriptor

/-- A command of the version 1 mailbox waits and may be started. -/
def State.v1Due (s : State) : Bool := s.hst.v1Wait && s.canTake 16

/-- DESCRIPTOR_START: the mailbox whose turn it is takes the descriptor at SQ_HEAD, at most one in a beat; a command that waits in the
version 1 mailbox, which takes the place of MB0 to MB15 in the rounds, starts first (R479). -/
def execDescriptorStart (mb : Fin 16) (s : State) : Host.Outcome State Fault Refusal :=
  if s.hst.startedAt = some s.beat.lbc then done s
  else if s.v1Due then s.startV1
  else if s.nextBox ≠ some mb.val then done s
  else
    let m := mb.val
    let b := s.box m
    let l := s.mem (0x4000000000 + b.sqBase * 256 + 64 * b.sqHead) 64
    let now := s.beat.lbc
    let s := (s.setBox m { b with sqHead := (b.sqHead + 1) % 2 ^ b.sqLog }).withHst fun h => { h with last := m, startedAt := some now }
    s.runDescriptor ⟨m, by omega⟩ l

/-! ### The version 1 mailbox (R75, R76) -/

/-- V1_GO: ignored while BUSY and while version 2 is in use; else BUSY is set, and the command starts, or waits while firmware does not
serve or has started another descriptor in this beat (R74 to R76, R479). -/
def execV1Go (s : State) : Host.Outcome State Fault Refusal :=
  if !s.running || s.fieldOf HST_STATE_SESAME 0 == 2 || (s.v1Word 8).getLsbD 1 then done s
  else
    let s := s.setV1 8 (s.v1Word 8 ||| 2)
    if s.canTake 16 ∧ s.hst.startedAt ≠ some s.beat.lbc then s.startV1 else done (s.withHst fun h => { h with v1Wait := true })

/-! ### Deferred commands (R53, R405) -/

/-- DEFERRED_START: the work that a deferred command waited for has ended, and it begins. -/
def execDeferredStart (index : Nat) (s : State) : Host.Outcome State Fault Refusal :=
  done <| s.live fun s =>
    let b := s.beat.lbc
    let start (due : Nat) (s : State) : State := s.withHst fun h => { h with
      deferred := h.deferred.modify index (fun d => { d with started := true, due := due }) }
    match s.hst.deferred[index]? with
    | none => s
    | some d =>
      if d.started ∨ d.outcome.isSome ∨ s.shutDown then s
      else match d.cmd with
      | .seqUcodeVerify _ m => if (clusterThreads m).all s.idle then start (b + 16384 * (maskList m 8).length) s else s
      | .adcSelfcal _ m => if s.adcsFree (maskList m 2) && !s.deviceRuns then start 0 (s.adcBusy (maskList m 2) selfcalBeats) else s
      | .adcOpenwire _ _ inputs c _ settle _ =>
        if s.adcState (c.toNat % 2) = 1 && !s.deviceRuns then
          start 0 (s.adcBusy [c.toNat % 2] (ceilDiv (openwireClocks (maskList inputs 38) settle.toNat * 8) 5))
        else s
      | .supSelftest _ c m =>
        let k := c.toNat % 32
        if s.supOwnerIdle k && s.supState k == 0 && !(s.supCalibrates k) then start (b + 40000 * (maskList m 4).length) s else s
      | .calRun _ scope _ _ _ inst =>
        if s.calFree scope inst && s.mayRun scope then start 0 (if scope = 2 then s.adcBusy (maskList inst 2) selfcalBeats else s) else s
      | _ => s

/-- A deferred command that acts at its end does so, and is answered; the state as it is where it cannot end yet. -/
def State.endDeferredRun (d : Deferred) (facts : RunFacts) (s t : State) : State :=
  match d.cmd with
  | .tmgTsetLoad _ _ site first count =>
    (t.loadTsets site.toNat first.toNat (splitImages count.toNat d.bytes)).finish d Status.ok [count.toNat]
  | .vstDirWrite _ _ first count =>
    match t.lockedIn first.toNat count.toNat with
    | some n => t.finish d Status.wrongState [0, n]
    | none => (t.writeDir first.toNat (splitEntries 32 count.toNat d.bytes)).finish d Status.ok [count.toNat]
  | .vstDirRead _ dest _ count => (t.setMem dest.toNat d.bytes).finish d Status.ok [count.toNat]
  | .vstSegVerify .. => if s.classDeferred 3 then s else t.finish d Status.ok (t.segReport d.bytes)
  | .vstMktabLoad _ _ site first count =>
    (t.loadMarks site.toNat first.toNat (splitEntries 16 count.toNat d.bytes)).finish d Status.ok [count.toNat]
  | .seqUcodeLoad _ _ clusters => t.runUcodeLoad d clusters facts.badCopies
  | .seqUcodeVerify _ clusters => if d.started ∧ d.due ≤ s.beat.lbc then t.runUcodeVerify d clusters else s
  | .seqProgLoad _ _ program countM1 => t.runProgLoad d program countM1
  | .capAqRead _ dest unit slot => if s.classDeferred 0 then s else t.runAqRead d dest unit slot
  | .adcStop .. =>
    if (List.range 2).any (fun a => (d.data.getD 0 0).testBit a && (s.adc a).stopping) then s else t.finish d Status.ok d.data
  | .calRestore _ sets source => (t.restoreSets sets source.toNat).finish d Status.ok [sets.toNat]
  | .mgtAppletLoad _ image core _ _ _ _ _ => t.appletStart d core.toNat image.toNat
  | .mgtAppletStop _ core => (t.appletReset core.toNat).finish d Status.ok d.data
  | .sysShutdownLogRead _ dest first count =>
    let r := t.readLog dest.toNat first.toNat count.toNat
    r.2.finish d Status.ok r.1
  | _ => s

/-- DEFERRED_COMPLETION: a deferred command whose outcome is known, or that acts at its end, leaves the list and posts its
final completion. -/
def execDeferredCompletion (index : Nat) (facts : RunFacts) (s : State) : Host.Outcome State Fault Refusal :=
  done <| s.live fun s =>
    match s.hst.deferred[index]? with
    | none => s
    | some d =>
      if s.shutDown then s
      else
        let t := s.dropDeferred index
        match d.outcome with
        | some (status, res) => t.finish d status res
        | none => State.endDeferredRun d facts s t

/-! ### Direct writes and the register service of applets (R9, R379) -/

/-- A write of a fast-page word by the host (R39). -/
def State.writeFast (o : Nat) (v : W32) (s : State) : Host.Outcome State Fault Refusal :=
  if o = 0x110 ∨ o = 0x114 then done (s.writeReg 0 ⟨.HSK_ACK, 0, (o - 0x110) / 4⟩ v 0xFFFFFFFF)
  else if 0x1000 ≤ o ∧ o < 0x1100 then
    let m := (o - 0x1000) / 0x10
    if o % 0x10 = 0 then done (s.writeSqTail m v) else if o % 0x10 = 4 then done (s.writeCqHead m v) else done s
  else if 0x3000 ≤ o ∧ o < 0x3010 then done (s.setV1 ((o - 0x3000) / 4) v)
  else if o = 0x3020 then
    let s := if v.getLsbD 2 then s.setV1 8 (s.v1Word 8 &&& 3) else s
    if v.getLsbD 0 then execV1Go s else done s
  else if 0xE000 ≤ o ∧ o < 0xE400 ∧ o % 4 = 0 then
    let k := (o - 0xE000) / 4
    done (s.withHst fun h => { h with msix := h.msix.set msixReset k (if k % 4 = 3 then v &&& 1 else v) })
  else done s

/-- The doorbell that an internal address names: engine and queue (R394). -/
def doorbellAt (a : Nat) : Option (Nat × Nat) :=
  let base := regBase + 0xC100000
  let o := a - base
  if base ≤ a ∧ o < 0x10000 ∧ o % 8 = 0 ∧ o % 0x1000 < 32 then some (o / 0x1000, o % 0x1000 / 8) else none

/-- A write by a Hazel core: firmware reaches every register and doorbell, an applet the doorbells of its own engines
(R379, R394). -/
def State.writeCore (k a : Nat) (v : W32) (s : State) : State :=
  match doorbellAt a with
  | some (e, q) => if k < 2 ∨ (s.grant k).engineList.contains e then s.ringDoorbell e q v.toNat else s
  | none =>
    match regAt a with
    | some r => if k < 2 then State.settleWrite s r (s.writeReg (k + 1) r v 0xFFFFFFFF) else s
    | none => s

/-- A second write by the host, of the upper word of an 8-byte write. -/
def thenWrite (a : Nat) (v : W32) (o : Host.Outcome State Fault Refusal) : Host.Outcome State Fault Refusal :=
  match o with
  | .next t => t.writeFast a v
  | o => o

/-- REGISTER_WRITE: a fast-page word, or a register word, by its access code; an 8-byte write
writes the LO and then the HI word in one step (R41). -/
def execRegisterWrite (who : Writer) (addr : W64) (value : Written) (s : State) : Host.Outcome State Fault Refusal :=
  let a := addr.toNat
  if !s.running then done s
  else match who, value.wide with
    | .host, none => s.writeFast a value.value
    | .host, some h => thenWrite (a + 4) h (s.writeFast a value.value)
    | .hazel k, none => done (s.writeCore k.val a value.value)
    | .hazel k, some h => done ((s.writeCore k.val a value.value).writeCore k.val (a + 4) h)

/-- A grant names a channel: it is assigned to one of the grant's sites. -/
def State.grantsChannel (s : State) (g : Grant) (ch : Nat) : Bool :=
  s.bitOf TMG_CH_CFG_ASSIGNED ch && g.sites.getLsbD (s.fieldOf TMG_CH_CFG_SITE ch)

/-- An applet's grant reaches a register: that of a granted site, thread or channel, of a supply or a marker ball that a
granted site owns, of its Sprout threads, engines or receive queues; no other unit, no alarm, nothing module-wide (R379). -/
def State.granted (s : State) (g : Grant) (r : Reg) : Bool :=
  let i := r.inst
  let f := r.stem.info
  match r.stem with
  | .SEQ_GR => g.sites.getLsbD (i / 16)
  | .SEQ_CSL_CFG => g.sites.getLsbD (i / 16)
  | .VST_MK_CFG => s.bitOf VST_MK_CFG_EN i && g.sites.getLsbD (s.fieldOf VST_MK_CFG_SITE i)
  | .MGT_SPR_THR => g.threads.contains i
  | .MGT_SPR_FLOW => g.threads.contains i
  | .MGT_DEQ_CFG => g.engineList.contains (i / 4)
  | .MGT_DE_STAT => g.engineList.contains i
  | .MGT_RXQ_CFG => g.queues.testBit i
  | .MGT_RXQ_STAT => g.queues.testBit i
  | .MGT_RXQ_REL => g.queues.testBit i
  | _ =>
    if f.sub = 6 then f.count == 32 && s.bitOf SUP_CFG_OWNED i && g.sites.getLsbD (s.fieldOf SUP_CFG_SITE i)
    else if 4 < f.sub then false
    else if f.count = 128 then s.grantsChannel g i
    else f.count == 32 && g.sites.getLsbD i

/-- Firmware answers an applet's request by the rules of HST_REG_WRITE and HST_REG_READ outside a transaction; a register outside the
grant is BAD_ARGUMENT (R60, R379). -/
def State.serveRegister (core : Fin 8) (addr : W64) (write : Option (W32 × W32)) (s : State) : State :=
  let k := core.val
  let g := s.grant k
  let put (st : Nat) (v : W32) (s : State) : State :=
    s.withMgt fun m => { m with answers := m.answers.set (fun _ => (0, 0)) k (st, v.toNat) }
  let r := regAt addr.toNat
  let outside := match r with | some r => !(s.granted g r) | none => true
  let more : List (Bool × Nat) := match r, write with
    | some r, some (v, m) => (r.stem.info.txn, Status.wrongState) :: s.writeChecks (k + 1) r v m
    | _, _ => []
  match s.judge (if write.isSome then 0x0A20 else 0x0A21) true ((outside, Status.badArgument) :: (if outside then [] else more)), r with
  | some st, _ => put st 0 s
  | none, none => s
  | none, some r =>
    match write with
    | some (v, m) => put Status.ok 0 (s.writeReg (k + 1) r v m)
    | none => let x := (s.beforeRead r).readReg (.hazel core) r; put Status.ok x.1 x.2

/-- APPLET_REG_REQUEST: an applet's request is answered, or waits until READY (R377, R379). -/
def execAppletRegRequest (core : Fin 8) (addr : W64) (write : Option (W32 × W32)) (s : State) : Host.Outcome State Fault Refusal :=
  done <| s.live fun s =>
    if core.val < 2 ∨ (s.grant core.val).count = 0 ∨ s.coreState core.val ≠ 1 ∨ s.shutDown then s
    else if s.ready then s.serveRegister core addr write
    else s.withMgt fun m => { m with requests := m.requests ++ [.appletRegRequest core addr write] }

/-- The requests that waited for READY are served in their order (R377). -/
def State.serveRequests (s : State) : State :=
  each s.mgt.requests (fun i s =>
    match i with
    | .appletRegRequest core addr write => s.serveRegister core addr write
    | .watchdogRestart core => s.restartDog core.val
    | _ => s) (s.withMgt fun m => { m with requests := [] })

end Sys2Proof.Machine
end

