-- ==== Sys2Proof/Machine/Boot.lean ====
section
/-! DEFINITION. Reset, the beat generator, the pod PLLs, the beat boundary, and boot (R14 to R22, R455 to R463). -/

namespace Sys2Proof.Machine

/-! ### Reset (R456 to R459) -/

/-- The state that a reset leaves: everything at its reset value but what lies outside its reach, which is the ordering
code, the non-volatile store, host memory, the levels at the balls, and a thermal shutdown with the store write that it settles
(R430, R431, R459). -/
def State.resetBy (s : State) : State :=
  let fresh : State := {
    beat := { gpio := s.beat.gpio.map (fun g => { pin := g.pin }), tap := s.beat.tap }
    nor := s.nor
    hostMem := s.hostMem
    hst := { perst := s.hst.perst }
    cal := { abandoned := s.cal.abandoned, store := if s.thm.shutdown.isSome then s.cal.store else none }
    cap := { ti := s.cap.ti }
    thm := { shutdown := s.thm.shutdown, latch := s.thm.latch }
    klk := { seed := s.free }
    free := s.free + 8
    pending := s.pending }
  let fresh := fresh.setReg .HST_ID 0 0 (s.reg .HST_ID 0)
  when s.shutDown (State.putField HST_STATE_FW_STATE 0 2) fresh

/-- PORST_N_FALL. -/
def execPorstNFall (s : State) : Host.Outcome State Fault Refusal := done s.resetBy

/-- POWER_MONITOR_RESET: a reset, which lasts until PORST_N rises again (log entry 31); a fall of VDD_IO also clears the
shutdown latch (R456). -/
def execPowerMonitorReset (rail : Rail) (s : State) : Host.Outcome State Fault Refusal :=
  match rail with
  | .vddCore => done s.resetBy
  | .vddIo => done (s.withThm fun t => { t with shutdown := none, latch := false }).resetBy

/-- PORST_N_RISE: the PROF balls are sampled, and the beat generator starts in REF_WAIT (R16, R72). -/
def execPorstNRise (prof : BitVec 2) (s : State) : Host.Outcome State Fault Refusal :=
  if s.beat.phase = .held then
    done ((s.putField HST_STATE_PROF_BALLS 0 prof.toNat).withBeat fun b => { b with phase := .refWait })
  else done s

/-! ### Board management balls and JTAG (R472, R473) -/

/-- The level of a GPIO ball: what an output drives, what the board drives an input to, or the pull-down's 0 (R472). -/
def State.gpioLevel (s : State) (i : Nat) : Bool :=
  match s.beat.gpio[i]? with
  | some g => if g.out then g.drive else g.pin.getD false
  | none => false

/-- IDCODE: the low four bits of DIE_REV, part number 0x8128, the manufacturer, and 1 (R473). -/
def State.idcode (s : State) : W32 :=
  BitVec.ofNat 32 (s.fieldOf HST_ID_DIE_REV 0 % 16 * 2 ^ 28 + 0x8128 * 2 ^ 12 + Config.manufacturer.toNat * 2 + 1)

/-- Boundary scan is available: PORST_N is low, or FW_STATE is BOOT (R473). -/
def State.scanOpen (s : State) : Bool := s.beat.phase == .held || s.fieldOf HST_STATE_FW_STATE 0 == 0

/-- The state after a cycle of TCK. -/
def TapState.next (t : TapState) (tms : Bool) : TapState :=
  match t, tms with
  | .reset, true => .reset
  | .reset, false => .idle
  | .idle, true => .selectDr
  | .idle, false => .idle
  | .selectDr, true => .selectIr
  | .selectDr, false => .captureDr
  | .captureDr, true => .exit1Dr
  | .captureDr, false => .shiftDr
  | .shiftDr, true => .exit1Dr
  | .shiftDr, false => .shiftDr
  | .exit1Dr, true => .updateDr
  | .exit1Dr, false => .pauseDr
  | .pauseDr, true => .exit2Dr
  | .pauseDr, false => .pauseDr
  | .exit2Dr, true => .updateDr
  | .exit2Dr, false => .shiftDr
  | .updateDr, true => .selectDr
  | .updateDr, false => .idle
  | .selectIr, true => .reset
  | .selectIr, false => .captureIr
  | .captureIr, true => .exit1Ir
  | .captureIr, false => .shiftIr
  | .shiftIr, true => .exit1Ir
  | .shiftIr, false => .shiftIr
  | .exit1Ir, true => .updateIr
  | .exit1Ir, false => .pauseIr
  | .pauseIr, true => .exit2Ir
  | .pauseIr, false => .pauseIr
  | .exit2Ir, true => .updateIr
  | .exit2Ir, false => .shiftIr
  | .updateIr, true => .selectDr
  | .updateIr, false => .idle

/-- The port changed. -/
def State.modTap (f : Tap → Tap) (s : State) : State := s.withBeat fun b => { b with tap := f b.tap }

/-- The instruction that is in force while boundary scan is available (R473). -/
def State.scanCode (s : State) : Option Byte := if s.scanOpen then s.beat.tap.ir else none

/-- The instruction selects the boundary-scan register, which is available while PORST_N is low or FW_STATE is BOOT (R473). -/
def State.scans (s : State) : Bool :=
  match s.scanCode with | some i => Config.jtagScans i | none => false

/-- The 1,524 signal balls: the channels' and the lanes' pairs, and the positions of R468 (R465 to R468). -/
def signalBalls : List Ball :=
  (List.range 1024).map (fun i => .channel (i / 8) (i / 2 % 4) (i % 2 == 1)) ++
  (List.range 168).map (fun i => .lane (i / 4) (i / 2 % 2 == 1) (i % 2 == 1)) ++ (List.range 332).map .place

/-- The ball is one of the JTAG port's own, which have no cells (IEEE 1149.1; PRESUMED, log entry 99). -/
def ballOfPort (b : Ball) : Bool := match b with | .place p => decide (303 ≤ p ∧ p ≤ 307) | _ => false

/-- The boundary-scan register, which covers every signal ball (R473; log entry 99). -/
def scanCells : List ScanCell :=
  Config.scanOrder ++ ((signalBalls.filter (fun b => !ballOfPort b && Config.scanOrder.all (fun c => c.ball != some b))).map
    (fun b => { part := .input, ball := some b }))

/-- The level that the module's own logic, or the board as State holds it, gives a ball; none where State does not hold it: clocks,
analogue balls, comparator and lane pairs, and an open-drain ball that the module releases. -/
def State.ownLevel (s : State) (b : Ball) : Option Bool :=
  match b with
  | .channel n 0 neg => some (xor (s.pip n).drv neg)
  | .channel n 1 neg => some (xor (s.pip n).den neg)
  | .channel _ _ _ => none
  | .lane _ _ _ => none
  | .place p =>
    if 6 ≤ p ∧ p < 38 then some (xor (s.mkBall ((p - 6) / 2)) (p % 2 == 1))
    else if 38 ≤ p ∧ p < 70 then some (xor (s.cap.ti.getD ((p - 38) / 2) false) (p % 2 == 1))
    else if 70 ≤ p ∧ p < 86 then some (xor (s.toBall ((p - 70) / 2)) (p % 2 == 1))
    else if 88 ≤ p ∧ p < 280 then
      match (p - 88) % 6 with
      | 0 => some (s.sup ((p - 88) / 6)).pwm
      | 1 => some (s.supEn ((p - 88) / 6))
      | _ => none
    else if p = 294 then some (s.beat.phase != .held)
    else if p = 295 then some s.hst.perst
    else if p = 298 then if s.thm.latch then some false else none
    else if p = 299 then some s.thm.latch
    else if p = 300 then if s.faultNLow then some false else none
    else if p = 306 then
      if s.beat.tap.st == .shiftDr || s.beat.tap.st == .shiftIr then s.beat.tap.shift.head? else none
    else if 308 ≤ p ∧ p < 324 then some (s.gpioLevel (p - 308))
    else none

/-- The P ball of the pair to which a ball belongs, and whether the ball is the N ball of it. -/
def ballPair (b : Ball) : Ball × Bool :=
  match b with
  | .channel n x neg => (.channel n x false, neg)
  | .lane l r neg => (.lane l r false, neg)
  | .place p => if p < 86 ∧ p % 2 = 1 then (.place (p - 1), true) else (.place p, false)

/-- The cell that drives a ball, by its place in the register, with what releases the ball. -/
def outputCell (b : Ball) : Option (Nat × Option (Nat × Bool)) :=
  (scanCells.zipIdx.filterMap fun c =>
    match c.1.part with
    | .output k => if c.1.ball = some b then some (c.2, k) else none
    | _ => none).head?

/-- The test signal of IEEE 1149.6 inverts what the cells put on the lane pairs: the pulse while the port stands in Run-Test/Idle,
the train at every second cycle of TCK there (R473; PRESUMED, log entry 99). -/
def State.scanInverts (s : State) (b : Ball) (code : Byte) : Bool :=
  match b with
  | .lane _ _ _ => (Config.jtagPulses code && s.beat.tap.st == .idle) || (Config.jtagTrains code && s.beat.tap.train)
  | _ => false

/-- The level at a ball: that of its updated cell where the instruction in force has the cells drive the balls, the board's where its
control cell releases it, and else the level of the module's own logic; none where State does not hold it (R473; log entry 99). -/
def State.ballLevel (s : State) (b : Ball) : Option Bool :=
  let p := ballPair b
  match s.scanCode with
  | some code =>
    if Config.jtagDrives code then
      match outputCell p.1 with
      | some (i, control) =>
        let cell : Nat → Bool := fun k => s.beat.tap.cells.getD k false
        if (match control with | some (k, off) => cell k == off | none => false) then
          match b with
          | .place q => if 308 ≤ q ∧ q < 324 then some (((s.beat.gpio[q - 308]?).bind Gpio.pin).getD false) else none
          | _ => none
        else some (xor (xor (cell i) (s.scanInverts b code)) p.2)
      | none => s.ownLevel b
    else s.ownLevel b
  | none => s.ownLevel b

/-- What the cells of the boundary-scan register capture: the levels at their balls; a free value for a control cell and for a ball
whose level State does not hold. -/
def State.captureCells : List ScanCell → State → List Bool × State
  | [], s => ([], s)
  | c :: cs, s =>
    match (if c.part = .control then none else c.ball.bind s.ballLevel) with
    | some v => let x := State.captureCells cs s; (v :: x.1, x.2)
    | none => let d := s.draw; let x := State.captureCells cs d.2; (d.1.getLsbD 0 :: x.1, x.2)

/-- The data register that the instruction selects is captured: the boundary-scan cells, IDCODE, or the one bit of BYPASS. -/
def State.captureDr (s : State) : State :=
  if s.scans then let x := State.captureCells scanCells s; x.2.modTap fun t => { t with shift := x.1 }
  else
    let id := match s.beat.tap.ir with | some i => Config.jtagIdcode i | none => true
    let l := if id then (List.range 32).map s.idcode.getLsbD else [false]
    s.modTap fun t => { t with shift := l }

/-- A cycle of TCK in the state that it finds: TDI is shifted in at the far end, an instruction or the boundary-scan cells are updated
(IEEE 1149.1). -/
def State.tck (tms tdi : Bool) (s : State) : State :=
  let s := match s.beat.tap.st with
    | .reset => s.modTap fun t => { t with ir := none }
    | .captureDr => s.captureDr
    | .captureIr => s.modTap fun t => { t with shift := true :: List.replicate 7 false }
    | .shiftDr => s.modTap fun t => { t with shift := t.shift.drop 1 ++ [tdi] }
    | .shiftIr => s.modTap fun t => { t with shift := t.shift.drop 1 ++ [tdi] }
    | .updateIr => s.modTap fun t => { t with ir := some (BitVec.ofNat 8 (t.shift.foldr (fun (b : Bool) a => 2 * a + b.toNat) 0)) }
    | .updateDr => when s.scans (State.modTap fun t => { t with cells := t.shift }) s
    | .idle => s.modTap fun t => { t with train := (match t.ir with | some i => Config.jtagTrains i | none => false) && !t.train }
    | _ => s
  s.modTap fun t => { t with st := t.st.next tms, train := t.train && t.st == .idle && !tms }

/-- I2C_READ: fast-page word 4w, for w up to 0xFF, in RUN; no other word is selected. The JTAG pins work at any time (R473). -/
def execI2cRead (access : BoardAccess) (s : State) : Host.Outcome State Fault Refusal :=
  match access with
  | .i2c w => done <| s.live fun s => if w.toNat < 256 then (s.readFast .i2c (4 * w.toNat)).2 else s
  | .tck tms tdi => done (s.tck tms tdi)
  | .trst => done (s.modTap fun _ => { })

/-! ### The beat generator (R16, R18) -/

/-- A window passes: 100 MHz within 0.5 %. -/
def windowPasses (milliCycles : Nat) : Bool := decide (995000 ≤ milliCycles) && decide (milliCycles ≤ 1005000)

/-- REF_WINDOW. -/
def execRefWindow (milliCycles : Nat) (s : State) : Host.Outcome State Fault Refusal :=
  let ok := windowPasses milliCycles
  if s.beat.phase = .held then done s
  else
    let s := s.putBit NTU_BEAT_STAT_REF_OK 0 ok
    match s.beat.phase, ok with
    | .refWait, true => done (s.withBeat fun b => { b with phase := .beatLock })
    | .beatLock, false => done (s.withBeat fun b => { b with phase := .refWait })
    | .run, true => done (s.withBeat fun b => { b with regained := true })
    | _, _ => done s

/-- BEAT_PLL_LOCK: RUN is entered with LBC 0, and HC0 and HC1 leave reset (R16, R20, R374), but not in a thermal shutdown
(R431). -/
def execBeatPllLock (s : State) : Host.Outcome State Fault Refusal :=
  if s.beat.phase = .beatLock then
    let s := (s.putBit NTU_BEAT_STAT_BEAT_LOCK 0 true).withBeat fun b => { b with phase := .run, lbc := 0 }
    done (when (!s.shutDown) (each [0, 1] State.startCore) s)
  else done s

/-- BEAT_LOCK_TIMEOUT. -/
def execBeatLockTimeout (s : State) : Host.Outcome State Fault Refusal :=
  if s.beat.phase = .beatLock then done (s.withBeat fun b => { b with phase := .refWait }) else done s

/-- REFCLK_LOSS: holdover, with the C3 fault of NTU; BEAT_LOCK is clear until the PLL has relocked (DEDUCED, log entry
62). -/
def execRefclkLoss (s : State) : Host.Outcome State Fault Refusal :=
  done <| s.live fun s =>
    if s.bitOf NTU_BEAT_STAT_HOLDOVER 0 then s
    else
      let s := ((s.putBit NTU_BEAT_STAT_HOLDOVER 0 true).putBit NTU_BEAT_STAT_REF_LOSS 0 true).putBit NTU_BEAT_STAT_BEAT_LOCK 0 false
      (s.withBeat fun b => { b with regained := false }).fault 11 3 0x0B01 0 0

/-- HOLDOVER_RELOCK: after a window has passed again, the PLL is locked and HOLDOVER clears. -/
def execHoldoverRelock (s : State) : Host.Outcome State Fault Refusal :=
  done <| s.live fun s => if s.beat.regained then
    (s.putBit NTU_BEAT_STAT_HOLDOVER 0 false).putBit NTU_BEAT_STAT_BEAT_LOCK 0 true else s

/-! ### The pod PLLs (R17, R19) -/

/-- POD_LOCK of a pod set or cleared. -/
def State.setPodLock (k : Nat) (b : Bool) (s : State) : State :=
  let w := s.reg .NTU_BEAT_STAT 0
  let m : W32 := BitVec.ofNat 32 (2 ^ (16 + k))
  s.setReg .NTU_BEAT_STAT 0 0 (if b then w ||| m else w &&& ~~~m)

/-- POD_PLL_LOCK. -/
def execPodPllLock (pod : Fin 16) (s : State) : Host.Outcome State Fault Refusal :=
  done <| s.live (State.setPodLock pod.val true)

/-- POD_LOCK_TIMEOUT: 1 ms after RUN, each pod not locked has its fault. -/
def execPodLockTimeout (s : State) : Host.Outcome State Fault Refusal :=
  done <| s.live fun s =>
    if s.beat.podsJudged || decide (s.beat.lbc < 800000) then s
    else
      let l := (List.range 16).filter (fun k => !(s.podLocked k))
      each l (fun k => State.raiseNow ⟨0, 2, 0x0001, k, 0, false, none⟩) (s.withBeat fun b => { b with podsJudged := true })

/-- POD_PLL_UNLOCK: the fault names every site with a channel in the pod, which its containment aborts. -/
def execPodPllUnlock (pod : Fin 16) (s : State) : Host.Outcome State Fault Refusal :=
  done <| s.live fun s =>
    let k := pod.val
    if !(s.podLocked k) then s
    else ((s.setPodLock k false).podLost k).fault 0 2 0x0002 k (BitVec.ofNat 32 (listMask (s.podSites k)))

/-! ### The beat boundary (R20, R22) -/

/-- The outputs of the channels follow the transitions whose times lie before the new beat. -/
def State.settlePips (s : State) : State :=
  each ((List.range 128).filter (fun ch => !(s.pip ch).queue.isEmpty)) (fun ch => State.modPip ch (Pip.settle (s.beat.lbc + 1))) s

/-- The internal marker events of the beat `b` that has ended reach the slots, the acquisition units and the converters
that name them (R132, R170, R247, R286). -/
def State.exchangeMarks (b : Nat) (s : State) : State :=
  each s.seq.imNow (fun x s =>
    ((s.happenAll 10 x.1 (b + 1)).triggerAll 2 x.1 (b * beatFs + x.2 * coarseFs)).adcTrigger 1 x.1 (b + 1) false) s

/-- A thread's allowance gains a quarter of its stream rate in every beat, up to one full pad; a fraction of a byte is
carried to the next beat (R215). -/
def State.gainAllowance (n : Nat) (s : State) : State :=
  let t := s.thr n
  let a := s.allowance n
  if t.pMin = 0 ∨ (t.padTop : Int) ≤ a then s
  else
    let sum := t.padFrac + t.rowSize * 312500
    let b := a + (sum / t.pMin : Nat)
    let full := decide ((t.padTop : Int) ≤ b)
    (s.putField VST_PAD_ALLOW_ALLOWANCE n (twos 25 (if full then t.padTop else b))).modThr n fun t => { t with
      padFrac := if full then 0 else sum % t.pMin }

/-- A thread's allowance gains, and while it is RUNNING, WAITING or STALLED its lead is shown and stalled beats are counted
(R211, R225). -/
def State.threadBeat (n : Nat) (s : State) : State :=
  let s := s.gainAllowance n
  let t := s.thr n
  if t.st < 1 ∨ 4 < t.st then s
  else
    if t.st = 1 then s
    else
      let lead := min 0xFFFF (s.lead n)
      let s := s.putField VST_WIN_STAT_LEAD n lead
      let s := s.putField VST_WIN_STAT_MIN_LEAD n (min lead (s.fieldOf VST_WIN_STAT_MIN_LEAD n))
      when (t.st == 4) (State.countUp VST_STALL_BEATS_BEATS n 1) s

/-- The check of the store's ledger (R208). -/
def State.checkLedger (s : State) : State :=
  let sum := (List.range 7).foldl (fun a p => a + s.hold p) s.freeBlocks
  when (sum != 65536) (State.fault 7 3 0x0701 0 0) s

/-- What the beat that ends still does: events of earlier beats that still wait are exchanged, passes that ended within it are counted,
drops reported, T windows closed, COND frames sent, staged records written, and the balls follow the transitions of the beat. -/
def State.endBeat (s : State) : State :=
  let s := each [0, 1] (fun a s => s.adcPassEnd a s.beatEnd) s.exchange
  let s := s.pipeStages.reportDrops.closeWindows.spanFlush.drainLogs.settlePips
  let e := 8 * (s.beat.lbc + 1)
  (s.settleMarks e).settleOutputs e

/-- What the new beat begins with: LBC and ToD advance, and what waited for the boundary takes effect: first the pipelined work, then,
before any request of the beat, all that R23 puts above requests (R22, R23); the events of the beat that ended are exchanged by the
routing that the commits of the boundary leave (R449). -/
def State.beginBeat (s : State) : State :=
  let b := s.beat.lbc
  let s := s.advanceTod.withBeat fun x => { x with lbc := b + 1 }
  let s := (each [0, 1] (fun a => State.adcPassEnd a ((b + 1) * beatFs)) s.sendAlarms).exchangeMarks b
  let s := s.settleRefresh.serveAll.supLatchAgain
  let s := match s.hsk.inject with
    | some v => (s.setReg .HSK_INJECT 0 0 v).withHsk fun h => { h with inject := none }
    | none => s
  (each (List.range 32) State.leaveStall (each (List.range 32) State.threadBeat s)).checkLedger.checkCompletions.endWinMove.upToRequests

/-- BEAT_BOUNDARY. -/
def execBeatBoundary (s : State) : Host.Outcome State Fault Refusal := done <| s.live fun s => s.endBeat.beginBeat

/-! ### Boot (R461 to R463) -/

/-- A firmware slot is valid, no erase of it having been abandoned (R416, R462). -/
def State.imageValid (s : State) (k : Nat) : Bool :=
  let h := s.norBytes (imageSlot k) 4096
  imageOk h (s.norBytes (imageSlot k + 0x1000) (leAt h 0x10 4)) &&
  !(s.cal.abandoned.any (fun b => decide (imageSlot k ≤ b) && decide (b < imageSlot k + 0x800000)))

/-- SEQ of a firmware slot. -/
def State.imageSeq (s : State) (k : Nat) : Nat := leAt (s.norBytes (imageSlot k) 256) 0xB0 4

/-- The slot that the boot ROM starts: the valid one with the higher SEQ. -/
def State.bootSlot (s : State) : Option Nat :=
  match s.imageValid 0, s.imageValid 1 with
  | true, true => some (if s.imageSeq 0 < s.imageSeq 1 then 1 else 0)
  | true, false => some 0
  | false, true => some 1
  | false, false => none

/-- The boot ROM or firmware is at work in BOOT: the image has been loaded or not, as `loaded` says. -/
def State.booting (s : State) (loaded : Bool) : Bool :=
  s.running && s.fieldOf HST_STATE_FW_STATE 0 == 0 && !s.shutDown && !s.beat.noImage && s.beat.image.isSome == loaded

/-- BOOT_ROM_LOAD: the image is started, or HST_FW_VERSION reads 0xFFFF_FFFF. -/
def execBootRomLoad (s : State) : Host.Outcome State Fault Refusal :=
  if s.booting false then
    match s.bootSlot with
    | some k =>
      done ((s.setReg .HST_FW_VERSION 0 0 (BitVec.ofNat 32 (leAt (s.norBytes (imageSlot k) 256) 8 4))).withBeat fun b =>
        { b with image := some k })
    | none => done ((s.setReg .HST_FW_VERSION 0 0 0xFFFFFFFF).withBeat fun b => { b with noImage := true })
  else done s

/-- A microword with its parity bits (R148). -/
def microword (op next operand : Nat) : Nat :=
  let w := op * 2 ^ 30 + next * 2 ^ 16 + operand
  let v : BitVec 40 := BitVec.ofNat 40 w
  w + (if parity v 8 0 then 2 ^ 36 else 0) + (if parity v 17 9 then 2 ^ 37 else 0) + (if parity v 26 18 then 2 ^ 38 else 0) +
    (if parity v 35 27 then 2 ^ 39 else 0)

/-- The routines of Apsodan's image: address, micro-op, OPERAND, NEXT (R151). -/
def imageRoutines : List (Nat × Nat × Nat × Nat) :=
  [(0x0001, 0x20, 0, 0x0100), (0x0002, 0x20, 1, 0x0100), (0x0003, 0x12, 0x0101, 0x0102), (0x0004, 0x10, 0x0104, 0x0105),
   (0x0005, 0x24, 0, 0x0106), (0x0006, 0x25, 0, 0x0100), (0x0007, 0x26, 0, 0x0100), (0x0008, 0x2A, 0, 0x0100),
   (0x0009, 0x2B, 0, 0x0107), (0x000A, 0x2B, 0, 0x0108), (0x000B, 0x28, 0, 0x0100), (0x000C, 0x29, 0, 0x0100)] ++
  [(0x000D, 0x2B, 0, 0x0109), (0x000E, 0x2B, 0, 0x010A), (0x000F, 0x2C, 0, 0x0100), (0x0010, 0x2E, 0, 0x010B),
   (0x0011, 0x2D, 0, 0x0100), (0x0100, 0x01, 0, 0), (0x0101, 0x11, 0x0103, 0x0102), (0x0102, 0x21, 0, 0x0100),
   (0x0103, 0x27, 0, 0x0100), (0x0104, 0x23, 0, 0x0100), (0x0105, 0x22, 0, 0x0100), (0x0106, 0x26, 0, 0x0100)] ++
  [(0x0107, 0x20, 2, 0x0100), (0x0108, 0x20, 3, 0x0100), (0x0109, 0x20, 4, 0x0100), (0x010A, 0x20, 5, 0x0100), (0x010B, 0x02, 0, 0x010B)]

/-- The word of Apsodan's image at an address: UOP 0x3F where no routine stands. -/
def bootWord (a : Nat) : Nat :=
  match imageRoutines.find? (fun x => x.1 == a) with
  | some (_, op, operand, next) => microword op next operand
  | none => 0x0FC0000000

/-- The CRC of the image's entries (R162), the same for every release (R161). -/
def imageCrc : W32 := crc32 ((List.range 16384).flatMap (fun a => leBytes 8 (bootWord a)))

/-- Apsodan's image in every copy of the control store; its VERSION is the release's, a free value (R161). -/
def State.loadUcode (s : State) : State :=
  let d := s.draw
  let s := d.2.withSeq fun q => { q with
    ucode := (List.range 8).foldl (fun t c => imageRoutines.foldl (fun t x => t.set (fun _ => 0x0FC0000000) (16384 * c + x.1) (bootWord x.1)) t) [] }
  each (List.range 8) (fun c s =>
    let s := (s.setReg .SEQ_CS_CRC c 0 imageCrc).setReg .SEQ_CS_VER c 0 (lo32 d.1)
    s.putBit SEQ_CS_STAT_LOADED c true) s

/-- A block of the log that is neither erased nor holds valid records is erased (17_thermal, after R433). -/
def State.bootErase (s : State) : State :=
  each s.logUnsound (fun b s =>
    (s.eraseNor b (b + 0x10000)).withCal fun c => { c with abandoned := c.abandoned.filter (· != b) }) s

/-- The shutdown records are counted; any of them raises the fault and the event (R433). -/
def State.bootLog (s : State) : State :=
  let s := s.countLog
  when (s.bitOf THM_STAT_SD_LOG 0) (fun s => (s.fault 14 1 0x0E04 (s.fieldOf THM_STAT_RECORDS 0) 0).event (1136 + 9)) s

/-- Every site's fail log has its four staging blocks (R239). -/
def State.bootStaging (s : State) : State :=
  each (List.range 32) (fun site s =>
    let r := State.takeBlocks 2 4 s
    r.2.modLog site fun l => { l with blocks := r.1 }) s

/-- The profile that the balls select is applied, or P0 with the fault where it is empty, fails its check or needs more
pattern memory than is backed (R72, R322). -/
def State.bootProfile (s : State) : State :=
  let p := s.fieldOf HST_STATE_PROF_BALLS 0
  let bad := s.profileEmpty p || decide (s.backed < s.profileNeed p)
  let q := if bad then 0 else p
  let s := when bad (State.fault 10 1 0x0A05 p 0) s
  let l := s.profileWrites q
  (State.settleAll s l (s.writeAll l)).putField HST_STATE_PROFILE 0 q

/-- FIRMWARE_BOOT: steps 2 to 5 of R463, once the sensors have converted for the first time and both firmware cores run; the bad factory
copies, the devices that fail training and the converters' factors are what boot finds. -/
def execFirmwareBoot (failedDevices : W32) (factoryBad : BitVec 19) (adc0 adc1 : AdcFactors) (s : State) :
    Host.Outcome State Fault Refusal :=
  if s.booting true && !s.beat.booted && s.converted && [0, 1].all (fun k => s.coreState k != 2) then
    let s := ((s.bootErase.bootSets factoryBad).bootLog.train failedDevices).loadUcode
    let s := ((s.selfcal 0 adc0).selfcal 1 adc1).bootStaging.bootProfile
    done ((s.putField HST_STATE_FW_STATE 0 1).withBeat fun b => { b with booted := true }).serveRequests
  else done s

/-- FIRMWARE_RESTART: the trapped firmware cores run again, and FW_STATE reads READY where boot had been completed before; else
firmware boots anew from step 2 of R463 (R377). A module without a valid image starts no firmware (R462). -/
def execFirmwareRestart (s : State) : Host.Outcome State Fault Refusal :=
  done <| s.live fun s =>
    let l := [0, 1].filter (fun k => s.coreState k == 2)
    if l.isEmpty ∨ s.thm.latch ∨ s.beat.noImage then s
    else
      let s := each l State.startCore s
      if s.faultStop || !s.beat.booted then s else (s.putField HST_STATE_FW_STATE 0 1).serveRequests

end Sys2Proof.Machine
end

