-- ==== Sys2Proof/Machine/Dispatch.lean ====
section
/-! DEFINITION. The effect of each command on everything but the queue: one arm per command, each one call of its meaning. -/

namespace Sys2Proof.Machine

def exec (i : Instr) (s : State) : Host.Outcome State Fault Refusal :=
  match i with
  | .hstMbOpen iss mailbox sqLog2 cqLog2 vector countM1 time => Sys2Proof.Machine.execHstMbOpen iss mailbox sqLog2 cqLog2 vector countM1 time s
  | .hstMbClose iss mailbox => Sys2Proof.Machine.execHstMbClose iss mailbox s
  | .hstMbReset iss mailbox => Sys2Proof.Machine.execHstMbReset iss mailbox s
  | .hstWinSet iss base => Sys2Proof.Machine.execHstWinSet iss base s
  | .hstRegWrite iss addr value mask => Sys2Proof.Machine.execHstRegWrite iss addr value mask s
  | .hstRegRead iss addr => Sys2Proof.Machine.execHstRegRead iss addr s
  | .sysHello iss feat0 feat1 feat2 feat3 => Sys2Proof.Machine.execSysHello iss feat0 feat1 feat2 feat3 s
  | .sysAgree iss => Sys2Proof.Machine.execSysAgree iss s
  | .cfgBegin iss => Sys2Proof.Machine.execCfgBegin iss s
  | .cfgCommit iss mode lbc sites => Sys2Proof.Machine.execCfgCommit iss mode lbc sites s
  | .cfgRollback iss => Sys2Proof.Machine.execCfgRollback iss s
  | .sysProfileSelect iss profile => Sys2Proof.Machine.execSysProfileSelect iss profile s
  | .sysProfileStore iss profile => Sys2Proof.Machine.execSysProfileStore iss profile s
  | .sysShutdownLogRead iss dest first count => Sys2Proof.Machine.execSysShutdownLogRead iss dest first count s
  | .sysShutdownLogClear iss => Sys2Proof.Machine.execSysShutdownLogClear iss s
  | .ledgerSnap iss => Sys2Proof.Machine.execLedgerSnap iss s
  | .tmgTsetLoad iss source site first count => Sys2Proof.Machine.execTmgTsetLoad iss source site first count s
  | .tmgTsetRead iss dest site tset => Sys2Proof.Machine.execTmgTsetRead iss dest site tset s
  | .tmgEdgeQuery iss channel tset path => Sys2Proof.Machine.execTmgEdgeQuery iss channel tset path s
  | .vstDirWrite iss source first count => Sys2Proof.Machine.execVstDirWrite iss source first count s
  | .vstDirRead iss dest first count => Sys2Proof.Machine.execVstDirRead iss dest first count s
  | .vstSegVerify iss segment => Sys2Proof.Machine.execVstSegVerify iss segment s
  | .vstMktabLoad iss source site first count => Sys2Proof.Machine.execVstMktabLoad iss source site first count s
  | .seqUcodeLoad iss source clusters => Sys2Proof.Machine.execSeqUcodeLoad iss source clusters s
  | .seqUcodeVerify iss clusters => Sys2Proof.Machine.execSeqUcodeVerify iss clusters s
  | .seqProgLoad iss source program countM1 => Sys2Proof.Machine.execSeqProgLoad iss source program countM1 s
  | .seqProgFree iss program => Sys2Proof.Machine.execSeqProgFree iss program s
  | .seqBurstStart iss sites program mode entry when nanos => Sys2Proof.Machine.execSeqBurstStart iss sites program mode entry when nanos s
  | .seqBurstStop iss sites mode => Sys2Proof.Machine.execSeqBurstStop iss sites mode s
  | .seqThrRead iss dest thread => Sys2Proof.Machine.execSeqThrRead iss dest thread s
  | .seqCslSet iss sites slot op => Sys2Proof.Machine.execSeqCslSet iss sites slot op s
  | .capAqArm iss units => Sys2Proof.Machine.execCapAqArm iss units s
  | .capAqDisarm iss units => Sys2Proof.Machine.execCapAqDisarm iss units s
  | .capAqTrig iss units => Sys2Proof.Machine.execCapAqTrig iss units s
  | .capAqRead iss dest unit slot => Sys2Proof.Machine.execCapAqRead iss dest unit slot s
  | .capAqMaskLoad iss source unit bins => Sys2Proof.Machine.execCapAqMaskLoad iss source unit bins s
  | .tiaStart iss mask0 mask1 mode lbc => Sys2Proof.Machine.execTiaStart iss mask0 mask1 mode lbc s
  | .tiaStop iss mask0 mask1 => Sys2Proof.Machine.execTiaStop iss mask0 mask1 s
  | .tiaStatRead iss dest channel => Sys2Proof.Machine.execTiaStatRead iss dest channel s
  | .adcSelfcal iss converters => Sys2Proof.Machine.execAdcSelfcal iss converters s
  | .adcArm iss converters => Sys2Proof.Machine.execAdcArm iss converters s
  | .adcStop iss converters mode => Sys2Proof.Machine.execAdcStop iss converters mode s
  | .adcTrig iss converters => Sys2Proof.Machine.execAdcTrig iss converters s
  | .adcOpenwire iss dest inputs converter current settle thresh => Sys2Proof.Machine.execAdcOpenwire iss dest inputs converter current settle thresh s
  | .supSet iss controllers op vset => Sys2Proof.Machine.execSupSet iss controllers op vset s
  | .supSelftest iss controller comparators => Sys2Proof.Machine.execSupSelftest iss controller comparators s
  | .klkPortCtl iss ports op => Sys2Proof.Machine.execKlkPortCtl iss ports op s
  | .klkPrbs iss lanes op pattern rate flags exponent => Sys2Proof.Machine.execKlkPrbs iss lanes op pattern rate flags exponent s
  | .klkTrigSend iss number => Sys2Proof.Machine.execKlkTrigSend iss number s
  | .ntuTodRead iss => Sys2Proof.Machine.execNtuTodRead iss s
  | .ntuTodStep iss mode lbc value nanos => Sys2Proof.Machine.execNtuTodStep iss mode lbc value nanos s
  | .ntuAlmArm iss alarm flags line number seconds nanos period => Sys2Proof.Machine.execNtuAlmArm iss alarm flags line number seconds nanos period s
  | .ntuAlmDisarm iss alarms => Sys2Proof.Machine.execNtuAlmDisarm iss alarms s
  | .ntuTxTimed iss source length port queue seconds nanos => Sys2Proof.Machine.execNtuTxTimed iss source length port queue seconds nanos s
  | .mgtAppletLoad iss image core threads engines queues sites quota => Sys2Proof.Machine.execMgtAppletLoad iss image core threads engines queues sites quota s
  | .mgtAppletStop iss core => Sys2Proof.Machine.execMgtAppletStop iss core s
  | .mgtDmaHost iss bus phys length direction => Sys2Proof.Machine.execMgtDmaHost iss bus phys length direction s
  | .mgtCoreDump iss dest core => Sys2Proof.Machine.execMgtCoreDump iss dest core s
  | .mgtDeqResume engine queue cancel => Sys2Proof.Machine.execMgtDeqResume engine queue cancel s
  | .calRun iss scope mode set flags instances => Sys2Proof.Machine.execCalRun iss scope mode set flags instances s
  | .calStore iss sets => Sys2Proof.Machine.execCalStore iss sets s
  | .calRestore iss sets source => Sys2Proof.Machine.execCalRestore iss sets source s
  | .hskRecRead iss dest first count => Sys2Proof.Machine.execHskRecRead iss dest first count s
  | .hstFwStore iss source length => Sys2Proof.Machine.execHstFwStore iss source length s
  | .v1Go => Sys2Proof.Machine.execV1Go s
  | .sqTailWrite mb value => Sys2Proof.Machine.execSqTailWrite mb value s
  | .cqHeadWrite mb value => Sys2Proof.Machine.execCqHeadWrite mb value s
  | .hskAckWrite high value => Sys2Proof.Machine.execHskAckWrite high value s
  | .hskInjectWrite who value => Sys2Proof.Machine.execHskInjectWrite who value s
  | .seqGrWrite index value => Sys2Proof.Machine.execSeqGrWrite index value s
  | .ntuIncWrite who high value => Sys2Proof.Machine.execNtuIncWrite who high value s
  | .supLatchClear controller value => Sys2Proof.Machine.execSupLatchClear controller value s
  | .mgtRxqRelWrite queue value => Sys2Proof.Machine.execMgtRxqRelWrite queue value s
  | .dmaDoorbellWrite engine queue value => Sys2Proof.Machine.execDmaDoorbellWrite engine queue value s
  | .registerWrite who addr value => Sys2Proof.Machine.execRegisterWrite who addr value s
  | .loWordRead read addr => Sys2Proof.Machine.execLoWordRead read addr s
  | .readClearRead path addr => Sys2Proof.Machine.execReadClearRead path addr s
  | .todNsRead path => Sys2Proof.Machine.execTodNsRead path s
  | .tiaCntLoRead read channel => Sys2Proof.Machine.execTiaCntLoRead read channel s
  | .i2cRead access => Sys2Proof.Machine.execI2cRead access s
  | .bar2Access offset write readLen => Sys2Proof.Machine.execBar2Access offset write readLen s
  | .functionLevelReset => Sys2Proof.Machine.execFunctionLevelReset s
  | .perstNAssert => Sys2Proof.Machine.execPerstNAssert s
  | .perstNRise => Sys2Proof.Machine.execPerstNRise s
  | .pcieLinkSettle rate lanes => Sys2Proof.Machine.execPcieLinkSettle rate lanes s
  | .porstNRise prof => Sys2Proof.Machine.execPorstNRise prof s
  | .porstNFall => Sys2Proof.Machine.execPorstNFall s
  | .powerMonitorReset rail => Sys2Proof.Machine.execPowerMonitorReset rail s
  | .refWindow milliCycles => Sys2Proof.Machine.execRefWindow milliCycles s
  | .beatPllLock => Sys2Proof.Machine.execBeatPllLock s
  | .beatLockTimeout => Sys2Proof.Machine.execBeatLockTimeout s
  | .refclkLoss => Sys2Proof.Machine.execRefclkLoss s
  | .holdoverRelock => Sys2Proof.Machine.execHoldoverRelock s
  | .podPllLock pod => Sys2Proof.Machine.execPodPllLock pod s
  | .podLockTimeout => Sys2Proof.Machine.execPodLockTimeout s
  | .podPllUnlock pod => Sys2Proof.Machine.execPodPllUnlock pod s
  | .beatBoundary => Sys2Proof.Machine.execBeatBoundary s
  | .bootRomLoad => Sys2Proof.Machine.execBootRomLoad s
  | .firmwareBoot failedDevices factoryBad adc0 adc1 => Sys2Proof.Machine.execFirmwareBoot failedDevices factoryBad adc0 adc1 s
  | .firmwareRestart => Sys2Proof.Machine.execFirmwareRestart s
  | .descriptorStart mb => Sys2Proof.Machine.execDescriptorStart mb s
  | .completionPost mb => Sys2Proof.Machine.execCompletionPost mb s
  | .deferredCompletion index facts => Sys2Proof.Machine.execDeferredCompletion index facts s
  | .deferredStart index => Sys2Proof.Machine.execDeferredStart index s
  | .msixCoalesceTimeout mb => Sys2Proof.Machine.execMsixCoalesceTimeout mb s
  | .msixSend vector => Sys2Proof.Machine.execMsixSend vector s
  | .cfgApply mb => Sys2Proof.Machine.execCfgApply mb s
  | .burstStartBeat index => Sys2Proof.Machine.execBurstStartBeat index s
  | .nop thr => Sys2Proof.Machine.execNop thr s
  | .fetch thr => Sys2Proof.Machine.execFetch thr s
  | .park thr => Sys2Proof.Machine.execPark thr s
  | .lsDecb thr => Sys2Proof.Machine.execLsDecb thr s
  | .bgZero thr => Sys2Proof.Machine.execBgZero thr s
  | .bflag thr => Sys2Proof.Machine.execBflag thr s
  | .pqPush thr => Sys2Proof.Machine.execPqPush thr s
  | .lsPush thr => Sys2Proof.Machine.execLsPush thr s
  | .lsBack thr => Sys2Proof.Machine.execLsBack thr s
  | .lsPop thr => Sys2Proof.Machine.execLsPop thr s
  | .csPush thr => Sys2Proof.Machine.execCsPush thr s
  | .csPop thr => Sys2Proof.Machine.execCsPop thr s
  | .pcImm thr => Sys2Proof.Machine.execPcImm thr s
  | .pcExit thr => Sys2Proof.Machine.execPcExit thr s
  | .grSet thr => Sys2Proof.Machine.execGrSet thr s
  | .grAdd thr => Sys2Proof.Machine.execGrAdd thr s
  | .arm thr => Sys2Proof.Machine.execArm thr s
  | .armTo thr => Sys2Proof.Machine.execArmTo thr s
  | .mkSet thr => Sys2Proof.Machine.execMkSet thr s
  | .sofSet thr => Sys2Proof.Machine.execSofSet thr s
  | .haltQ thr => Sys2Proof.Machine.execHaltQ thr s
  | .ibufRefill thr => Sys2Proof.Machine.execIbufRefill thr s
  | .vectorIssue thr => Sys2Proof.Machine.execVectorIssue thr s
  | .mkPulseEnd ball => Sys2Proof.Machine.execMkPulseEnd ball s
  | .tsetEmptyDetect thr => Sys2Proof.Machine.execTsetEmptyDetect thr s
  | .outputPipeSchedule thr => Sys2Proof.Machine.execOutputPipeSchedule thr s
  | .calOffsetUpdate => Sys2Proof.Machine.execCalOffsetUpdate s
  | .compareResult ch cph cpl ofs => Sys2Proof.Machine.execCompareResult ch cph cpl ofs s
  | .compareInputResolve ch low level => Sys2Proof.Machine.execCompareInputResolve ch low level s
  | .conditionSlotSet thr slot => Sys2Proof.Machine.execConditionSlotSet thr slot s
  | .branchDecision thr => Sys2Proof.Machine.execBranchDecision thr s
  | .branchEffect thr => Sys2Proof.Machine.execBranchEffect thr s
  | .padReady thr pad => Sys2Proof.Machine.execPadReady thr pad s
  | .padExpire thr pad => Sys2Proof.Machine.execPadExpire thr pad s
  | .waitTimeout thr => Sys2Proof.Machine.execWaitTimeout thr s
  | .joinRelease group => Sys2Proof.Machine.execJoinRelease group s
  | .joinTimeout thr => Sys2Proof.Machine.execJoinTimeout thr s
  | .spansyncRelease => Sys2Proof.Machine.execSpansyncRelease s
  | .spansyncTimeout => Sys2Proof.Machine.execSpansyncTimeout s
  | .spanKeepalive => Sys2Proof.Machine.execSpanKeepalive s
  | .spanLinkLate member => Sys2Proof.Machine.execSpanLinkLate member s
  | .siteAbort site => Sys2Proof.Machine.execSiteAbort site s
  | .quietStateEntry ch => Sys2Proof.Machine.execQuietStateEntry ch s
  | .streamFetchRequest thr => Sys2Proof.Machine.execStreamFetchRequest thr s
  | .streamGranuleArrive thr => Sys2Proof.Machine.execStreamGranuleArrive thr s
  | .blockAllocate pool => Sys2Proof.Machine.execBlockAllocate pool s
  | .blockFree pool block => Sys2Proof.Machine.execBlockFree pool block s
  | .cstRead word flipped => Sys2Proof.Machine.execCstRead word flipped s
  | .memGranuleAccess cls granule write mismatches => Sys2Proof.Machine.execMemGranuleAccess cls granule write mismatches s
  | .edcWindowEnd mc => Sys2Proof.Machine.execEdcWindowEnd mc s
  | .gddr6TempRead mc a b => Sys2Proof.Machine.execGddr6TempRead mc a b s
  | .deviceLost device => Sys2Proof.Machine.execDeviceLost device s
  | .failBitCapture site => Sys2Proof.Machine.execFailBitCapture site s
  | .failRecordTimeout site => Sys2Proof.Machine.execFailRecordTimeout site s
  | .failLogFlush site => Sys2Proof.Machine.execFailLogFlush site s
  | .captureSample unit => Sys2Proof.Machine.execCaptureSample unit s
  | .aqSample unit => Sys2Proof.Machine.execAqSample unit s
  | .aqMonitorTimeout unit => Sys2Proof.Machine.execAqMonitorTimeout unit s
  | .aqHoldoffEnd unit => Sys2Proof.Machine.execAqHoldoffEnd unit s
  | .toPulseEnd out => Sys2Proof.Machine.execToPulseEnd out s
  | .tdcEdge ch level ofs => Sys2Proof.Machine.execTdcEdge ch level ofs s
  | .tdcHoldoffEnd ch level => Sys2Proof.Machine.execTdcHoldoffEnd ch level s
  | .tdcMeasure ch => Sys2Proof.Machine.execTdcMeasure ch s
  | .tdcRunEnd ch => Sys2Proof.Machine.execTdcRunEnd ch s
  | .freqGateEnd ch => Sys2Proof.Machine.execFreqGateEnd ch s
  | .adcTriggerTake adc => Sys2Proof.Machine.execAdcTriggerTake adc s
  | .adcConversion adc raw => Sys2Proof.Machine.execAdcConversion adc raw s
  | .adcResultWrite adc => Sys2Proof.Machine.execAdcResultWrite adc s
  | .adcSelfcalEnd adc factors => Sys2Proof.Machine.execAdcSelfcalEnd adc factors s
  | .adcOpenwireEnd adc values => Sys2Proof.Machine.execAdcOpenwireEnd adc values s
  | .supPeriodStart sc sample => Sys2Proof.Machine.execSupPeriodStart sc sample s
  | .peakComparatorTrip sc sensed => Sys2Proof.Machine.execPeakComparatorTrip sc sensed s
  | .supComparatorTrip sc sensed => Sys2Proof.Machine.execSupComparatorTrip sc sensed s
  | .softStartStep sc => Sys2Proof.Machine.execSoftStartStep sc s
  | .rampDownDone sc => Sys2Proof.Machine.execRampDownDone sc s
  | .enableBlankingEnd sc peakBand sensed => Sys2Proof.Machine.execEnableBlankingEnd sc peakBand sensed s
  | .supSelftestEnd index failed => Sys2Proof.Machine.execSupSelftestEnd index failed s
  | .thmConversion counts estimates => Sys2Proof.Machine.execThmConversion counts estimates s
  | .throttleTick => Sys2Proof.Machine.execThrottleTick s
  | .shutdownRecordWrite programmed => Sys2Proof.Machine.execShutdownRecordWrite programmed s
  | .coreWatchdogExpiry core => Sys2Proof.Machine.execCoreWatchdogExpiry core s
  | .watchdogRestart core => Sys2Proof.Machine.execWatchdogRestart core s
  | .coreTrap core cause => Sys2Proof.Machine.execCoreTrap core cause s
  | .appletRegRequest core addr write => Sys2Proof.Machine.execAppletRegRequest core addr write s
  | .expect thread tokens => Sys2Proof.Machine.execExpect thread tokens s
  | .post poster target value => Sys2Proof.Machine.execPost poster target value s
  | .threadYield thread taken => Sys2Proof.Machine.execThreadYield thread taken s
  | .threadCreate creator thread core prio flow ringVa ringLen => Sys2Proof.Machine.execThreadCreate creator thread core prio flow ringVa ringLen s
  | .threadRelease releaser thread => Sys2Proof.Machine.execThreadRelease releaser thread s
  | .completionDelivery => Sys2Proof.Machine.execCompletionDelivery s
  | .cqRefuseRetry producer => Sys2Proof.Machine.execCqRefuseRetry producer s
  | .dmaDescriptorStart engine => Sys2Proof.Machine.execDmaDescriptorStart engine s
  | .dmaGranuleMove engine hostData => Sys2Proof.Machine.execDmaGranuleMove engine hostData s
  | .faultLatch => Sys2Proof.Machine.execFaultLatch s
  | .faultRecordWrite => Sys2Proof.Machine.execFaultRecordWrite s
  | .klFrameReceive port wire => Sys2Proof.Machine.execKlFrameReceive port wire s
  | .condReceive port => Sys2Proof.Machine.execCondReceive port s
  | .trigReceive port => Sys2Proof.Machine.execTrigReceive port s
  | .noticeReceive port => Sys2Proof.Machine.execNoticeReceive port s
  | .timeReceive port ofs => Sys2Proof.Machine.execTimeReceive port ofs s
  | .dataReceive port => Sys2Proof.Machine.execDataReceive port s
  | .ctrlReceive port => Sys2Proof.Machine.execCtrlReceive port s
  | .linkReceive port frame => Sys2Proof.Machine.execLinkReceive port frame s
  | .frameTransmit crossing => Sys2Proof.Machine.execFrameTransmit crossing s
  | .replayTimeout port => Sys2Proof.Machine.execReplayTimeout port s
  | .refuseReplay port => Sys2Proof.Machine.execRefuseReplay port s
  | .signalDetect port lanes => Sys2Proof.Machine.execSignalDetect port lanes s
  | .laneLock port lanes => Sys2Proof.Machine.execLaneLock port lanes s
  | .eqAgreed port => Sys2Proof.Machine.execEqAgreed port s
  | .negotiateExchange port partner => Sys2Proof.Machine.execNegotiateExchange port partner s
  | .creditInit port partnerId partnerSession partnerCredits => Sys2Proof.Machine.execCreditInit port partnerId partnerSession partnerCredits s
  | .trainingTimeout port => Sys2Proof.Machine.execTrainingTimeout port s
  | .lossOfSignal port lanes => Sys2Proof.Machine.execLossOfSignal port lanes s
  | .noPartnerRetry port => Sys2Proof.Machine.execNoPartnerRetry port s
  | .laneLoss port lane errors => Sys2Proof.Machine.execLaneLoss port lane errors s
  | .prbsCheck lane received => Sys2Proof.Machine.execPrbsCheck lane received s
  | .dreqSend port ofs => Sys2Proof.Machine.execDreqSend port ofs s
  | .syncSend port ofs => Sys2Proof.Machine.execSyncSend port ofs s
  | .syncLoss => Sys2Proof.Machine.execSyncLoss s
  | .ptpMessage eth ofs event => Sys2Proof.Machine.execPtpMessage eth ofs event s
  | .ethernetLinkDown eth => Sys2Proof.Machine.execEthernetLinkDown eth s
  | .todStepApply => Sys2Proof.Machine.execTodStepApply s
  | .alarmFire alarm => Sys2Proof.Machine.execAlarmFire alarm s
  | .timedFrameLaunch port queue => Sys2Proof.Machine.execTimedFrameLaunch port queue s
  | .calRunBegin calclkCount refErrPpb vrefUv => Sys2Proof.Machine.execCalRunBegin calclkCount refErrPpb vrefUv s
  | .calStepEnd fail measured => Sys2Proof.Machine.execCalStepEnd fail measured s
  | .c3Recalibration => Sys2Proof.Machine.execC3Recalibration s
  | .storeWrite facts => Sys2Proof.Machine.execStoreWrite facts s
  | .tiEdge input rising coarse => Sys2Proof.Machine.execTiEdge input rising coarse s
  | .tdcStartBeat ch => Sys2Proof.Machine.execTdcStartBeat ch s
  | .threadPreempt core => Sys2Proof.Machine.execThreadPreempt core s
  | .supComparatorResolve sc monitor input => Sys2Proof.Machine.execSupComparatorResolve sc monitor input s
  | .alignmentMarkerReceive port position width => Sys2Proof.Machine.execAlignmentMarkerReceive port position width s
  | .periodicReadRetraining mc => Sys2Proof.Machine.execPeriodicReadRetraining mc s
  | .refreshInterval mc => Sys2Proof.Machine.execRefreshInterval mc s
  | .pBaseRecompute milliwatts => Sys2Proof.Machine.execPBaseRecompute milliwatts s
  | .ethernetLinkUp eth => Sys2Proof.Machine.execEthernetLinkUp eth s

end Sys2Proof.Machine
end

