-- ==== Sys2Proof/Safety.lean ====
section
/-! DEFINITION. What the statements call a canonical state and a safe run, and the conditions under which a command is
served. -/

namespace Sys2Proof.Machine

/-- The register file and the memories are in their canonical form: keys strictly rising, no entry equal to what an
unlisted key reads as. -/
def State.canon (s : State) : Bool :=
  s.regs.wf regReset && Memory.wf ramDefault s.ram && Memory.wf norDefault s.nor && Memory.wf hostDefault s.hostMem

/-- A run of `n` steps ends in no fault and no refusal. -/
def State.safeFor (s : State) (n : Nat) : Prop := ∃ t, Host.Core.run Sys2Proof.core n s = .next t

/-- Firmware serves a command of `iss` and the state gates of R57 are open: RUN, READY, agreed, no shutdown, and the
mailbox accepts (R39, R46, R56, R74, R431). -/
abbrev State.serves (s : State) (iss : Issuer) : Prop :=
  s.canTake iss.mb.val = true ∧ s.ready = true ∧ s.agreed = true ∧ iss.reserved = false

/-- The state in which a command of code `k` is judged: the start and the stop of bursts come after what stands above them at their
boundary (precedence 5 of R23). -/
def State.judgedIn (s : State) (k : Nat) : State := if k = 0x0120 ∨ k = 0x0121 then s.upToRequests else s

/-- The micro-op commands of a thread, each with its code (R149). -/
def microOps (x : Fin 32) : List (Instr × Nat) :=
  [(.nop x, 0x00), (.fetch x, 0x01), (.park x, 0x02), (.lsDecb x, 0x10), (.bgZero x, 0x11), (.bflag x, 0x12), (.pqPush x, 0x20),
   (.lsPush x, 0x21), (.lsBack x, 0x22), (.lsPop x, 0x23), (.csPush x, 0x24), (.csPop x, 0x25), (.pcImm x, 0x26), (.pcExit x, 0x27),
   (.grSet x, 0x28), (.grAdd x, 0x29), (.arm x, 0x2A), (.armTo x, 0x2B), (.mkSet x, 0x2C), (.sofSet x, 0x2D), (.haltQ x, 0x2E)]

/-- A thread's engine reads a word in this beat, and no word that its cluster reads fails its parity or is illegal (R149, R150,
R163). -/
abbrev State.soundAt (s : State) (n : Nat) : Prop :=
  s.running = true ∧ s.reads n = true ∧ (s.clusterReads (n / 4)).any (fun x => x.2.2.1 != 0 || x.2.2.2) = false

/-- The state in which a thread's microword is executed: an injection of the cluster's checker is performed, and the decisions of the
beat have fallen (R180, R446). -/
def State.decided (n : Nat) (s : State) : State := (s.performInjection (n / 4)).decideNow n

/-- The word that a thread's engine reads. -/
def State.wordAt (s : State) (n : Nat) : Nat := s.uword (n / 4) (s.thr n).ua

/-- A thread's engine executes the micro-op `code` in this beat: its word and those of its cluster are sound, and no decision of the
beat has taken its beat (R149, R180). -/
abbrev State.atOp (s : State) (n code : Nat) : Prop :=
  s.soundAt n ∧ (s.decided n).reads n = true ∧ uop ((s.decided n).wordAt n) = code

/-- The state in which a micro-op acts: the engine has gone on to the word's next address (R149). -/
def State.onward (n : Nat) (s : State) : State := (s.decided n).nextWord n ((s.decided n).wordAt n)

/-- The parts of the state beside the register file: the beat count, the rest of the beat generator, and the others as
`State` has them. -/
inductive Part where
  | lbc | beat | ram | nor | hostMem | hsk | hst | cst | ntu | seq | klk | cal | cap | meas | mgt | thm | free
  deriving DecidableEq, Repr

/-- A part of the state is the same in `s` and `t`. -/
def State.same (s t : State) : Part → Prop
  | .lbc => t.beat.lbc = s.beat.lbc
  | .beat => { t.beat with lbc := 0 } = { s.beat with lbc := 0 }
  | .ram => t.ram = s.ram
  | .nor => t.nor = s.nor
  | .hostMem => t.hostMem = s.hostMem
  | .hsk => t.hsk = s.hsk
  | .hst => t.hst = s.hst
  | .cst => t.cst = s.cst
  | .ntu => t.ntu = s.ntu
  | .seq => t.seq = s.seq
  | .klk => t.klk = s.klk
  | .cal => t.cal = s.cal
  | .cap => t.cap = s.cap
  | .meas => t.meas = s.meas
  | .mgt => t.mgt = s.mgt
  | .thm => t.thm = s.thm
  | .free => t.free = s.free

/-- The issuer and the command code of a Sesame command (R56, R58 and the command tables); none for every other row. -/
def sesame (c : Instr) : Option (Issuer × Nat) :=
  match c with
  | .tmgTsetLoad iss .. => some (iss, 0x0001)
  | .tmgTsetRead iss .. => some (iss, 0x0002)
  | .tmgEdgeQuery iss .. => some (iss, 0x0003)
  | .seqUcodeLoad iss .. => some (iss, 0x0101)
  | .seqUcodeVerify iss .. => some (iss, 0x0102)
  | .seqProgLoad iss .. => some (iss, 0x0110)
  | .seqProgFree iss .. => some (iss, 0x0111)
  | .seqBurstStart iss .. => some (iss, 0x0120)
  | .seqBurstStop iss .. => some (iss, 0x0121)
  | .seqThrRead iss .. => some (iss, 0x0130)
  | .seqCslSet iss .. => some (iss, 0x0140)
  | .vstDirWrite iss .. => some (iss, 0x0201)
  | .vstDirRead iss .. => some (iss, 0x0202)
  | .vstSegVerify iss .. => some (iss, 0x0203)
  | .vstMktabLoad iss .. => some (iss, 0x0204)
  | .capAqArm iss .. => some (iss, 0x0301)
  | .capAqDisarm iss .. => some (iss, 0x0302)
  | .capAqTrig iss .. => some (iss, 0x0303)
  | .capAqRead iss .. => some (iss, 0x0304)
  | .capAqMaskLoad iss .. => some (iss, 0x0305)
  | .tiaStart iss .. => some (iss, 0x0401)
  | .tiaStop iss .. => some (iss, 0x0402)
  | .tiaStatRead iss .. => some (iss, 0x0403)
  | .adcSelfcal iss .. => some (iss, 0x0501)
  | .adcArm iss .. => some (iss, 0x0502)
  | .adcStop iss .. => some (iss, 0x0503)
  | .adcTrig iss .. => some (iss, 0x0504)
  | .adcOpenwire iss .. => some (iss, 0x0505)
  | .supSet iss .. => some (iss, 0x0601)
  | .supSelftest iss .. => some (iss, 0x0602)
  | .klkPortCtl iss .. => some (iss, 0x0901)
  | .klkPrbs iss .. => some (iss, 0x0902)
  | .klkTrigSend iss .. => some (iss, 0x0903)
  | .hstMbOpen iss .. => some (iss, 0x0A01)
  | .hstMbClose iss .. => some (iss, 0x0A02)
  | .hstMbReset iss .. => some (iss, 0x0A03)
  | .hstWinSet iss .. => some (iss, 0x0A10)
  | .hstRegWrite iss .. => some (iss, 0x0A20)
  | .hstRegRead iss .. => some (iss, 0x0A21)
  | .hstFwStore iss .. => some (iss, 0x0A30)
  | .ntuTodRead iss .. => some (iss, 0x0B01)
  | .ntuTodStep iss .. => some (iss, 0x0B02)
  | .ntuAlmArm iss .. => some (iss, 0x0B03)
  | .ntuAlmDisarm iss .. => some (iss, 0x0B04)
  | .ntuTxTimed iss .. => some (iss, 0x0B05)
  | .mgtAppletLoad iss .. => some (iss, 0x0C01)
  | .mgtAppletStop iss .. => some (iss, 0x0C02)
  | .mgtDmaHost iss .. => some (iss, 0x0C03)
  | .mgtCoreDump iss .. => some (iss, 0x0C04)
  | .calRun iss .. => some (iss, 0x0D01)
  | .calStore iss .. => some (iss, 0x0D02)
  | .calRestore iss .. => some (iss, 0x0D03)
  | .hskRecRead iss .. => some (iss, 0x0F01)
  | .sysHello iss .. => some (iss, 0x8001)
  | .sysAgree iss .. => some (iss, 0x8002)
  | .cfgBegin iss .. => some (iss, 0x8010)
  | .cfgCommit iss .. => some (iss, 0x8011)
  | .cfgRollback iss .. => some (iss, 0x8012)
  | .sysProfileSelect iss .. => some (iss, 0x8020)
  | .sysProfileStore iss .. => some (iss, 0x8021)
  | .sysShutdownLogRead iss .. => some (iss, 0x8030)
  | .sysShutdownLogClear iss .. => some (iss, 0x8031)
  | .ledgerSnap iss .. => some (iss, 0x8040)
  | _ => none

/-- The bytes of GDDR6 and the Central Store outside the `n` bytes from address `a` read in `t` as in `s`. -/
abbrev State.ramKept (s t : State) (a n : Nat) : Prop := ∀ k, k < a ∨ a + n ≤ k → t.ram.get ramDefault k = s.ram.get ramDefault k

/-- The line of a fault with no VN (R435, R443). -/
def State.faultLine (s : State) (sub cls code detail : Nat) (mask : W32) : Nat × FaultRec :=
  (s.beat.lbc + 1, ⟨sub, cls, code, detail, mask, false, none⟩)

end Sys2Proof.Machine
end

