-- ==== Sys2Proof/Machine/Changes.lean ====
section
/-! DEFINITION. What each command may change: the parts of the state, and the register stems. Everything else it leaves as
it is. -/

namespace Sys2Proof.Machine

/-- The parts of the state that a command may change. -/
def changedParts (c : Instr) : List Part :=
  match c with
  | .hstMbOpen .. => [.ram, .hsk, .hst, .cst]
  | .hstMbClose .. => [.ram, .hsk, .hst, .cst]
  | .hstMbReset .. => [.ram, .hsk, .hst]
  | .hstWinSet .. => [.ram, .hsk, .hst]
  | .hstRegWrite .. => [.ram, .hsk, .hst, .cst, .ntu, .seq, .klk, .cal, .meas, .mgt, .free]
  | .hstRegRead .. => [.ram, .hsk, .hst, .mgt, .free]
  | .sysHello .. => [.ram, .hsk, .hst, .cst, .mgt, .free]
  | .sysAgree .. => [.ram, .hsk, .hst, .cst]
  | .cfgBegin .. => [.ram, .hsk, .hst]
  | .cfgCommit .. => [.ram, .hsk, .hst]
  | .cfgRollback .. => [.ram, .hsk, .hst]
  | .sysProfileSelect .. => [.ram, .hsk, .hst]
  | .sysProfileStore .. => [.ram, .hsk, .hst, .cal, .free]
  | .sysShutdownLogRead .. => [.ram, .hsk, .hst]
  | .sysShutdownLogClear .. => [.ram, .hsk, .hst, .cal]
  | .ledgerSnap .. => [.ram, .hsk, .hst]
  | .tmgTsetLoad .. => [.ram, .hsk, .hst]
  | .tmgTsetRead .. => [.ram, .hsk, .hst]
  | .tmgEdgeQuery .. => [.ram, .hsk, .hst]
  | .vstDirWrite .. => [.ram, .hsk, .hst, .seq]
  | .vstDirRead .. => [.ram, .hsk, .hst]
  | .vstSegVerify .. => [.ram, .hsk, .hst]
  | .vstMktabLoad .. => [.ram, .hsk, .hst]
  | .seqUcodeLoad .. => [.ram, .hsk, .hst]
  | .seqUcodeVerify .. => [.ram, .hsk, .hst]
  | .seqProgLoad .. => [.ram, .hsk, .hst]
  | .seqProgFree .. => [.ram, .hsk, .hst, .cst, .seq]
  | .seqBurstStart .. => [.ram, .hsk, .hst, .cst, .ntu, .seq, .klk, .cal, .cap, .meas, .mgt, .thm, .free]
  | .seqBurstStop .. => [.ram, .hsk, .hst, .cst, .ntu, .seq, .klk, .cal, .cap, .meas, .mgt, .thm, .free]
  | .seqThrRead .. => [.ram, .hsk, .hst]
  | .seqCslSet .. => [.ram, .hsk, .hst, .seq]
  | .capAqArm .. => [.ram, .hsk, .hst, .cst, .seq, .cap]
  | .capAqDisarm .. => [.ram, .hsk, .hst, .cst, .cap]
  | .capAqTrig .. => [.ram, .hsk, .hst, .seq, .klk, .cap]
  | .capAqRead .. => [.ram, .hsk, .hst]
  | .capAqMaskLoad .. => [.ram, .hsk, .hst, .cap]
  | .tiaStart .. => [.ram, .hsk, .hst, .meas]
  | .tiaStop .. => [.ram, .hsk, .hst, .meas]
  | .tiaStatRead .. => [.ram, .hsk, .hst]
  | .adcSelfcal .. => [.ram, .hsk, .hst]
  | .adcArm .. => [.ram, .hsk, .hst, .meas]
  | .adcStop .. => [.ram, .hsk, .hst, .meas]
  | .adcTrig .. => [.ram, .hsk, .hst, .meas]
  | .adcOpenwire .. => [.ram, .hsk, .hst]
  | .supSet .. => [.ram, .hsk, .hst, .seq, .meas]
  | .supSelftest .. => [.ram, .hsk, .hst]
  | .klkPortCtl .. => [.ram, .hsk, .hst, .ntu, .klk]
  | .klkPrbs .. => [.ram, .hsk, .hst, .klk]
  | .klkTrigSend .. => [.ram, .hsk, .hst, .klk]
  | .ntuTodRead .. => [.ram, .hsk, .hst]
  | .ntuTodStep .. => [.ram, .hsk, .hst]
  | .ntuAlmArm .. => [.ram, .hsk, .hst, .ntu]
  | .ntuAlmDisarm .. => [.ram, .hsk, .hst, .ntu, .seq, .klk, .cap, .meas]
  | .ntuTxTimed .. => [.ram, .hsk, .hst]
  | .mgtAppletLoad .. => [.ram, .hsk, .hst, .mgt]
  | .mgtAppletStop .. => [.ram, .hsk, .hst]
  | .mgtDmaHost .. => [.ram, .hsk, .hst, .mgt]
  | .mgtCoreDump .. => [.ram, .hsk, .hst]
  | .mgtDeqResume .. => [.ram, .hsk, .hst, .mgt, .free]
  | .calRun .. => [.ram, .hsk, .hst]
  | .calStore .. => [.ram, .hsk, .hst, .cal]
  | .calRestore .. => [.ram, .hsk, .hst]
  | .hskRecRead .. => [.ram, .hsk, .hst]
  | .hstFwStore .. => [.ram, .hsk, .hst, .cal]
  | .v1Go => [.ram, .hsk, .hst, .cst, .ntu, .seq, .klk, .cal, .cap, .meas, .mgt, .thm, .free]
  | .sqTailWrite .. => [.hsk, .hst]
  | .cqHeadWrite .. => [.hsk, .hst]
  | .hskAckWrite .. => [.ram, .hsk, .hst, .seq, .klk, .cal, .meas, .mgt, .free]
  | .hskInjectWrite .. => [.hsk]
  | .seqGrWrite .. => []
  | .ntuIncWrite .. => [.hsk, .hst, .ntu]
  | .supLatchClear .. => [.meas]
  | .mgtRxqRelWrite .. => [.hsk, .cst, .klk, .mgt]
  | .dmaDoorbellWrite .. => [.mgt]
  | .registerWrite .. => [.ram, .hsk, .hst, .cst, .ntu, .seq, .klk, .cal, .cap, .meas, .mgt, .thm, .free]
  | .loWordRead .. => [.hsk, .hst, .mgt, .free]
  | .readClearRead .. => [.hsk, .hst, .mgt, .free]
  | .todNsRead .. => [.hst]
  | .tiaCntLoRead .. => [.hst]
  | .i2cRead .. => [.beat, .hst, .free]
  | .bar2Access .. => [.ram, .hsk, .hst, .free]
  | .functionLevelReset => [.ram, .hsk, .hst, .cst]
  | .perstNAssert => [.hst]
  | .perstNRise => [.ram, .hsk, .hst, .cst]
  | .pcieLinkSettle .. => [.hsk, .hst]
  | .porstNRise .. => [.beat]
  | .porstNFall => [.lbc, .beat, .ram, .hsk, .hst, .cst, .ntu, .seq, .klk, .cal, .cap, .meas, .mgt, .thm, .free]
  | .powerMonitorReset .. =>
    [.lbc, .beat, .ram, .hsk, .hst, .cst, .ntu, .seq, .klk, .cal, .cap, .meas, .mgt, .thm, .free]
  | .refWindow .. => [.beat]
  | .beatPllLock => [.lbc, .beat, .mgt]
  | .beatLockTimeout => [.beat]
  | .refclkLoss => [.beat, .hsk]
  | .holdoverRelock => []
  | .podPllLock .. => []
  | .podLockTimeout => [.beat, .hsk]
  | .podPllUnlock .. => [.hsk, .cal]
  | .beatBoundary => [.lbc, .beat, .ram, .hsk, .hst, .cst, .ntu, .seq, .klk, .cal, .cap, .meas, .mgt, .thm, .free]
  | .bootRomLoad => [.beat]
  | .firmwareBoot .. => [.beat, .ram, .nor, .hsk, .hst, .cst, .ntu, .seq, .klk, .cal, .cap, .meas, .mgt, .free]
  | .firmwareRestart => [.ram, .hsk, .hst, .cst, .ntu, .seq, .klk, .cal, .meas, .mgt, .free]
  | .descriptorStart .. => [.ram, .hsk, .hst, .cst, .ntu, .seq, .klk, .cal, .cap, .meas, .mgt, .thm, .free]
  | .completionPost .. => [.ram, .hst]
  | .deferredCompletion .. => [.ram, .hsk, .hst, .cst, .seq, .cal, .mgt, .free]
  | .deferredStart .. => [.hst, .meas]
  | .msixCoalesceTimeout .. => [.hst]
  | .msixSend .. => [.hostMem, .hsk, .hst, .mgt, .free]
  | .cfgApply .. => [.ram, .hsk, .hst, .cst, .ntu, .seq, .klk, .cal, .cap, .meas, .mgt, .free]
  | .burstStartBeat .. => [.hsk, .hst, .cst, .seq, .cap, .meas]
  | .nop .. => [.hsk, .seq]
  | .fetch .. => [.hsk, .seq]
  | .park .. => [.hsk, .seq]
  | .lsDecb .. => [.hsk, .seq]
  | .bgZero .. => [.hsk, .seq]
  | .bflag .. => [.hsk, .seq]
  | .pqPush .. => [.hsk, .seq]
  | .lsPush .. => [.hsk, .seq]
  | .lsBack .. => [.hsk, .seq]
  | .lsPop .. => [.hsk, .seq]
  | .csPush .. => [.hsk, .seq]
  | .csPop .. => [.hsk, .seq]
  | .pcImm .. => [.hsk, .seq]
  | .pcExit .. => [.hsk, .seq]
  | .grSet .. => [.hsk, .seq]
  | .grAdd .. => [.hsk, .seq]
  | .arm .. => [.hsk, .seq]
  | .armTo .. => [.hsk, .seq]
  | .mkSet .. => [.hsk, .seq]
  | .sofSet .. => [.hsk, .seq]
  | .haltQ .. => [.hsk, .seq]
  | .ibufRefill .. => [.seq]
  | .vectorIssue .. => [.hsk, .cst, .seq, .cap, .meas, .free]
  | .mkPulseEnd .. => [.seq]
  | .tsetEmptyDetect .. => [.hsk, .seq]
  | .outputPipeSchedule .. => [.seq]
  | .calOffsetUpdate => [.cal]
  | .compareResult .. => [.hsk, .seq]
  | .compareInputResolve .. => [.seq, .meas]
  | .conditionSlotSet .. => [.hsk, .seq, .klk, .cap]
  | .branchDecision .. => [.hsk, .seq]
  | .branchEffect .. => [.seq, .free]
  | .padReady .. => [.seq]
  | .padExpire .. => [.hsk, .seq]
  | .waitTimeout .. => [.hsk, .seq]
  | .joinRelease .. => [.seq]
  | .joinTimeout .. => [.hsk, .seq]
  | .spansyncRelease => [.seq]
  | .spansyncTimeout => [.hsk, .seq, .free]
  | .spanKeepalive => [.seq]
  | .spanLinkLate .. => [.hsk]
  | .siteAbort .. => [.hsk, .hst, .cst, .seq, .cap, .meas]
  | .quietStateEntry .. => [.seq]
  | .streamFetchRequest .. => [.seq]
  | .streamGranuleArrive .. => [.seq]
  | .blockAllocate .. => [.cst]
  | .blockFree .. => [.hsk, .cst]
  | .cstRead .. => [.hsk, .cap]
  | .memGranuleAccess .. => [.ram, .hsk, .seq, .cap, .meas, .free]
  | .edcWindowEnd .. => [.hsk, .meas]
  | .gddr6TempRead .. => [.hsk, .meas]
  | .deviceLost .. => [.hsk, .meas]
  | .failBitCapture .. => [.ram, .hsk, .hst, .seq, .cap]
  | .failRecordTimeout .. => [.cap]
  | .failLogFlush .. => [.ram, .cap]
  | .captureSample .. => [.seq, .cap]
  | .aqSample .. => [.ram, .hsk, .seq, .klk, .cap]
  | .aqMonitorTimeout .. => [.hsk, .seq, .cap]
  | .aqHoldoffEnd .. => [.cap]
  | .toPulseEnd .. => [.cap]
  | .tdcEdge .. => [.hsk, .meas]
  | .tdcHoldoffEnd .. => [.meas]
  | .tdcMeasure .. => [.meas]
  | .tdcRunEnd .. => [.hsk, .meas]
  | .freqGateEnd .. => [.hsk, .meas]
  | .adcTriggerTake .. => [.hsk, .meas]
  | .adcConversion .. => [.hsk, .meas]
  | .adcResultWrite .. => [.hsk, .cap, .meas]
  | .adcSelfcalEnd .. => [.hsk, .hst]
  | .adcOpenwireEnd .. => [.ram, .hsk, .hst]
  | .supPeriodStart .. => [.hsk, .seq, .meas]
  | .peakComparatorTrip .. => [.hsk, .seq, .meas]
  | .supComparatorTrip .. => [.hsk, .seq, .meas]
  | .softStartStep .. => [.meas]
  | .rampDownDone .. => [.meas]
  | .enableBlankingEnd .. => [.hsk, .seq, .meas]
  | .supSelftestEnd .. => [.hsk, .hst]
  | .thmConversion .. => [.hsk, .meas, .thm, .free]
  | .throttleTick => [.hsk, .thm]
  | .shutdownRecordWrite .. => [.nor, .cal, .thm, .free]
  | .coreWatchdogExpiry .. => [.ram, .hsk, .hst, .cal, .mgt, .free]
  | .watchdogRestart .. => [.mgt]
  | .coreTrap .. => [.ram, .hsk, .hst, .cal, .mgt, .free]
  | .appletRegRequest .. => [.ram, .hsk, .hst, .cst, .ntu, .seq, .klk, .cal, .meas, .mgt, .free]
  | .expect .. => [.free]
  | .post .. => [.hsk, .hst, .mgt, .free]
  | .threadYield .. => [.mgt]
  | .threadCreate .. => [.mgt]
  | .threadRelease .. => [.mgt]
  | .completionDelivery => [.ram, .hsk, .hst, .mgt, .free]
  | .cqRefuseRetry .. => [.mgt]
  | .dmaDescriptorStart .. => [.ram, .hsk, .hst, .mgt, .free]
  | .dmaGranuleMove .. => [.ram, .hostMem, .hsk, .hst, .cst, .klk, .mgt, .free]
  | .faultLatch => [.ram, .hsk, .hst, .seq, .klk, .cal, .meas, .mgt, .free]
  | .faultRecordWrite => [.hsk]
  | .klFrameReceive .. => [.hsk, .hst, .ntu, .klk]
  | .condReceive .. => [.hsk, .seq, .klk]
  | .trigReceive .. => [.hsk, .seq, .klk, .cap, .meas]
  | .noticeReceive .. => [.hsk, .klk]
  | .timeReceive .. => [.hsk, .ntu, .klk]
  | .dataReceive .. => [.ram, .hsk, .hst, .klk, .mgt, .free]
  | .ctrlReceive .. => [.ram, .hsk, .klk]
  | .linkReceive .. => [.hsk, .hst, .ntu, .klk]
  | .frameTransmit .. => [.hsk, .hst, .ntu, .klk]
  | .replayTimeout .. => [.hsk, .hst, .ntu, .klk]
  | .refuseReplay .. => [.klk]
  | .signalDetect .. => [.klk]
  | .laneLock .. => [.klk]
  | .eqAgreed .. => [.klk]
  | .negotiateExchange .. => [.hsk, .hst, .ntu, .klk]
  | .creditInit .. => [.hsk, .cst, .ntu, .klk]
  | .trainingTimeout .. => [.hsk, .hst, .ntu, .klk]
  | .lossOfSignal .. => [.hsk, .hst, .ntu, .klk]
  | .noPartnerRetry .. => [.klk]
  | .laneLoss .. => [.hsk, .hst, .ntu, .klk]
  | .prbsCheck .. => [.hsk, .klk]
  | .dreqSend .. => [.ntu, .klk]
  | .syncSend .. => [.ntu, .klk]
  | .syncLoss => [.hsk]
  | .ptpMessage .. => [.ntu]
  | .ethernetLinkDown .. => [.hst, .ntu]
  | .todStepApply => [.hsk, .hst, .cst, .ntu, .seq, .cap, .meas]
  | .alarmFire .. => [.hsk, .hst, .ntu, .seq, .klk, .cap, .meas]
  | .timedFrameLaunch .. => [.hst, .ntu, .klk, .free]
  | .calRunBegin .. => [.hsk, .hst, .seq, .cal, .meas]
  | .calStepEnd .. => [.hsk, .hst, .cal, .meas, .free]
  | .c3Recalibration => [.hsk, .hst, .seq, .cal, .meas]
  | .storeWrite .. => [.nor, .hsk, .hst, .cal]
  | .tiEdge .. => [.hsk, .seq, .klk, .cap, .meas]
  | .tdcStartBeat .. => [.meas]
  | .threadPreempt .. => [.mgt]
  | .supComparatorResolve .. => [.hsk, .seq, .meas]
  | .alignmentMarkerReceive .. => [.hsk, .hst, .ntu, .klk]
  | .periodicReadRetraining .. => [.meas]
  | .refreshInterval .. => []
  | .pBaseRecompute .. => []
  | .ethernetLinkUp .. => [.ntu, .klk]

/-- Every stem but some. -/
def Stem.but (l : List Stem) : List Stem := Stem.all.filter (fun st => !(l.contains st))

/-- The register stems that a command may change. -/
def changedStems (c : Instr) : List Stem :=
  match c with
  | .hstMbOpen .. => [.CST_FREE, .CST_HOLD, .HSK_EVT_PEND]
  | .hstMbClose .. => [.CST_FREE, .CST_HOLD, .CST_LEDGER_STAT, .HSK_EVT_PEND]
  | .hstMbReset .. => [.HSK_EVT_PEND]
  | .hstWinSet .. => [.HSK_EVT_PEND]
  | .hstRegWrite .. =>
    Stem.but [.TMG_SITE_STAT, .SEQ_THR_STAT, .SEQ_THR_END, .SEQ_THR_PC, .SEQ_THR_VN, .SEQ_CS_STAT, .SEQ_CS_CRC,
      .SEQ_CS_VER, .SEQ_CS_ERR, .VST_IM_COLL, .VST_POS, .VST_WIN_STAT, .VST_PAD_ALLOW, .VST_STALL_BEATS,
      .VST_STALL_EVTS, .VST_ADM_BUDGET, .VST_ADM_USED, .VST_ADM_CHG, .CAP_FLOG_STAT, .CAP_FLOG_WP, .CAP_FAIL_VEC,
      .CAP_FIRST_VN, .CAP_FLOG_LOST, .CAP_CH_FCNT, .CAP_AQ_STAT, .CAP_AQ_IGN, .CAP_AQ_MASKV, .TIA_STAT, .TIA_LOST,
      .TIA_ERR, .TIA_LAST, .TIA_CNT, .TIA_SUM, .TIA_SSQ, .TIA_MIN, .TIA_MAX, .TIA_MEAN, .TIA_SDEV, .TIA_IVL, .ADC_RES,
      .ADC_OVR, .ADC_PASS, .ADC_CALF, .SUP_LOOP, .MEM_CTL_STAT, .MEM_IL, .MEM_TEMP, .MEM_EDC_CNT, .KLK_PORT_STAT,
      .KLK_CRED, .KLK_HOP, .KLK_CRC_ERR, .KLK_REPLAY, .KLK_REFUSE, .KLK_PRBS_STAT, .KLK_PRBS_ERR, .HST_ID,
      .HST_FW_VERSION, .HST_G_FAILED, .HST_FEAT, .NTU_LBC, .NTU_SERVO_STAT, .NTU_KL_OFS, .MGT_SPR_CONSUMED,
      .MGT_DE_STAT, .MGT_RXQ_REL, .CAL_REF_ERR, .CAL_SET_SEQ, .THM_TEMP, .THM_HOT, .THM_G_TEMP, .THM_SNS_FAIL,
      .THM_P_BASE, .THM_P_RT, .THM_P_NRT, .THM_REFUSED, .THM_STAT, .HSK_REC_SEQ]
  | .hstRegRead .. =>
    [.TMG_CH_STAT, .VST_IM_COLL, .VST_STALL_BEATS, .VST_STALL_EVTS, .CAP_FLOG_LOST, .CAP_AQ_IGN, .TIA_LOST, .TIA_ERR,
      .ADC_OVR, .KLK_CRC_ERR, .KLK_REPLAY, .KLK_REFUSE, .KLK_DROP, .KLK_PRBS_ERR, .MGT_SPR_POSTED, .MGT_CQ_STAT,
      .MGT_RXQ_STAT, .THM_REFUSED, .HSK_EVT_PEND, .HSK_REC_LOST]
  | .sysHello .. =>
    [.CST_FREE, .CST_HOLD, .CST_LEDGER_STAT, .HST_STATE, .HST_FEAT, .MGT_CORE_STAT, .MGT_SPR_THR, .MGT_SPR_FLOW,
      .MGT_SPR_POSTED, .MGT_CQ_STAT, .HSK_EVT_PEND]
  | .sysAgree .. => [.CST_FREE, .CST_HOLD, .CST_LEDGER_STAT, .HST_STATE, .HST_FEAT, .HSK_EVT_PEND]
  | .cfgBegin .. => [.HSK_EVT_PEND]
  | .cfgCommit .. => [.HSK_EVT_PEND]
  | .cfgRollback .. => [.HSK_EVT_PEND]
  | .sysProfileSelect .. => [.HSK_EVT_PEND]
  | .sysProfileStore .. => [.CAL_STAT, .HSK_EVT_PEND]
  | .sysShutdownLogRead .. => [.HSK_EVT_PEND]
  | .sysShutdownLogClear .. => [.CAL_STAT, .HSK_EVT_PEND]
  | .ledgerSnap .. => [.HSK_EVT_PEND]
  | .tmgTsetLoad .. => [.HSK_EVT_PEND]
  | .tmgTsetRead .. => [.HSK_EVT_PEND]
  | .tmgEdgeQuery .. => [.HSK_EVT_PEND]
  | .vstDirWrite .. => [.HSK_EVT_PEND]
  | .vstDirRead .. => [.HSK_EVT_PEND]
  | .vstSegVerify .. => [.HSK_EVT_PEND]
  | .vstMktabLoad .. => [.HSK_EVT_PEND]
  | .seqUcodeLoad .. => [.HSK_EVT_PEND]
  | .seqUcodeVerify .. => [.HSK_EVT_PEND]
  | .seqProgLoad .. => [.HSK_EVT_PEND]
  | .seqProgFree .. => [.CST_FREE, .CST_HOLD, .CST_LEDGER_STAT, .HSK_EVT_PEND]
  | .seqBurstStart .. =>
    Stem.but [.SEQ_THR_STAT, .SEQ_THR_PC, .SEQ_THR_VN, .SEQ_CS_STAT, .SEQ_CS_CRC, .SEQ_CS_VER, .SEQ_CS_ERR,
      .VST_IM_COLL, .VST_POS, .VST_ADM_BUDGET, .VST_ADM_USED, .CAP_AQ_IGN, .CAP_AQ_MASKV, .TIA_STAT, .TIA_LOST,
      .TIA_ERR, .TIA_MEAN, .TIA_SDEV, .ADC_RES, .ADC_OVR, .ADC_PASS, .ADC_CALF, .SUP_LOOP, .MEM_CTL_STAT, .MEM_IL,
      .MEM_TEMP, .MEM_EDC_CNT, .KLK_CRED, .KLK_HOP, .KLK_CRC_ERR, .KLK_REPLAY, .KLK_REFUSE, .KLK_PRBS_ERR, .HST_ID,
      .HST_FW_VERSION, .HST_G_FAILED, .HST_FEAT, .NTU_LBC, .NTU_KL_OFS, .MGT_SPR_CONSUMED, .MGT_DE_STAT, .MGT_RXQ_REL,
      .CAL_REF_ERR, .CAL_SET_SEQ, .THM_TEMP, .THM_HOT, .THM_G_TEMP, .THM_SNS_FAIL, .THM_P_BASE, .THM_P_RT, .THM_P_NRT,
      .THM_STAT, .HSK_REC_SEQ]
  | .seqBurstStop .. =>
    Stem.but [.SEQ_THR_STAT, .SEQ_THR_PC, .SEQ_THR_VN, .SEQ_CS_STAT, .SEQ_CS_CRC, .SEQ_CS_VER, .SEQ_CS_ERR,
      .VST_IM_COLL, .VST_POS, .VST_WIN_STAT, .VST_STALL_BEATS, .VST_STALL_EVTS, .VST_ADM_BUDGET, .VST_ADM_USED,
      .CAP_AQ_IGN, .CAP_AQ_MASKV, .TIA_STAT, .TIA_LOST, .TIA_ERR, .TIA_MEAN, .TIA_SDEV, .ADC_RES, .ADC_OVR, .ADC_PASS,
      .ADC_CALF, .SUP_LOOP, .MEM_CTL_STAT, .MEM_IL, .MEM_TEMP, .MEM_EDC_CNT, .KLK_CRED, .KLK_HOP, .KLK_CRC_ERR,
      .KLK_REPLAY, .KLK_REFUSE, .KLK_PRBS_ERR, .HST_ID, .HST_FW_VERSION, .HST_G_FAILED, .HST_FEAT, .NTU_LBC,
      .NTU_KL_OFS, .MGT_SPR_CONSUMED, .MGT_DE_STAT, .MGT_RXQ_REL, .CAL_REF_ERR, .CAL_SET_SEQ, .THM_TEMP, .THM_HOT,
      .THM_G_TEMP, .THM_SNS_FAIL, .THM_P_BASE, .THM_P_RT, .THM_P_NRT, .THM_REFUSED, .THM_STAT, .HSK_REC_SEQ]
  | .seqThrRead .. => [.HSK_EVT_PEND]
  | .seqCslSet .. => [.HSK_EVT_PEND]
  | .capAqArm .. => [.CAP_AQ_STAT, .CAP_AQ_MASKV, .CST_FREE, .CST_HOLD, .HSK_EVT_PEND]
  | .capAqDisarm .. => [.CAP_AQ_STAT, .CST_FREE, .CST_HOLD, .CST_LEDGER_STAT, .HSK_EVT_PEND]
  | .capAqTrig .. => [.CAP_AQ_STAT, .CAP_AQ_IGN, .CAP_AQ_MASKV, .KLK_DROP, .HSK_EVT_PEND]
  | .capAqRead .. => [.HSK_EVT_PEND]
  | .capAqMaskLoad .. => [.HSK_EVT_PEND]
  | .tiaStart .. => [.HSK_EVT_PEND]
  | .tiaStop .. => [.TIA_STAT, .HSK_EVT_PEND]
  | .tiaStatRead .. => [.HSK_EVT_PEND]
  | .adcSelfcal .. => [.HSK_EVT_PEND]
  | .adcArm .. => [.ADC_STAT, .ADC_PASS, .HSK_EVT_PEND]
  | .adcStop .. => [.ADC_STAT, .ADC_PASS, .HSK_EVT_PEND]
  | .adcTrig .. => [.ADC_STAT, .ADC_PASS, .HSK_EVT_PEND]
  | .adcOpenwire .. => [.HSK_EVT_PEND]
  | .supSet .. => [.SUP_VSET, .SUP_STAT, .HSK_EVT_PEND]
  | .supSelftest .. => [.HSK_EVT_PEND]
  | .klkPortCtl .. => [.KLK_PORT_STAT, .NTU_SERVO_STAT, .HSK_EVT_PEND]
  | .klkPrbs .. => [.KLK_PRBS_STAT, .KLK_PRBS_ERR, .HSK_EVT_PEND]
  | .klkTrigSend .. => [.KLK_DROP, .HSK_EVT_PEND]
  | .ntuTodRead .. => [.HSK_EVT_PEND]
  | .ntuTodStep .. => [.HSK_EVT_PEND]
  | .ntuAlmArm .. => [.NTU_ALM_STAT, .HSK_EVT_PEND]
  | .ntuAlmDisarm .. => [.CAP_AQ_STAT, .CAP_AQ_IGN, .CAP_AQ_MASKV, .KLK_DROP, .NTU_ALM_STAT, .HSK_EVT_PEND]
  | .ntuTxTimed .. => [.HSK_EVT_PEND]
  | .mgtAppletLoad .. => [.HSK_EVT_PEND]
  | .mgtAppletStop .. => [.HSK_EVT_PEND]
  | .mgtDmaHost .. => [.HSK_EVT_PEND]
  | .mgtCoreDump .. => [.HSK_EVT_PEND]
  | .mgtDeqResume .. => [.MGT_SPR_THR, .MGT_SPR_POSTED, .MGT_CQ_STAT, .HSK_EVT_PEND]
  | .calRun .. => [.HSK_EVT_PEND]
  | .calStore .. => [.CAL_STAT, .HSK_EVT_PEND]
  | .calRestore .. => [.HSK_EVT_PEND]
  | .hskRecRead .. => [.HSK_EVT_PEND]
  | .hstFwStore .. => [.CAL_STAT, .HSK_EVT_PEND]
  | .v1Go =>
    Stem.but [.SEQ_THR_STAT, .SEQ_THR_PC, .SEQ_THR_VN, .SEQ_CS_STAT, .SEQ_CS_CRC, .SEQ_CS_VER, .SEQ_CS_ERR, .VST_POS,
      .VST_ADM_BUDGET, .VST_ADM_USED, .TIA_MEAN, .TIA_SDEV, .ADC_RES, .ADC_CALF, .SUP_LOOP, .MEM_CTL_STAT, .MEM_IL,
      .MEM_TEMP, .MEM_EDC_CNT, .KLK_CRED, .KLK_HOP, .HST_ID, .HST_FW_VERSION, .HST_G_FAILED, .NTU_LBC, .NTU_KL_OFS,
      .MGT_SPR_CONSUMED, .MGT_DE_STAT, .MGT_RXQ_REL, .CAL_REF_ERR, .CAL_SET_SEQ, .THM_TEMP, .THM_HOT, .THM_G_TEMP,
      .THM_SNS_FAIL, .THM_P_BASE, .THM_P_RT, .THM_P_NRT, .THM_STAT, .HSK_REC_SEQ]
  | .sqTailWrite .. => [.HSK_EVT_PEND]
  | .cqHeadWrite .. => [.HSK_EVT_PEND]
  | .hskAckWrite .. =>
    [.ADC_STAT, .SUP_STAT, .KLK_DROP, .HST_STATE, .MGT_CORE_STAT, .MGT_SPR_THR, .MGT_SPR_FLOW, .MGT_SPR_POSTED,
      .MGT_CQ_STAT, .CAL_STAT, .CAL_SET_STAT, .HSK_STATUS, .HSK_EVT_PEND, .HSK_REC_LOST]
  | .hskInjectWrite .. => []
  | .seqGrWrite .. => [.SEQ_GR]
  | .ntuIncWrite .. => []
  | .supLatchClear .. => [.SUP_STAT]
  | .mgtRxqRelWrite .. => [.CST_FREE, .CST_HOLD, .CST_LEDGER_STAT, .MGT_RXQ_STAT]
  | .dmaDoorbellWrite .. => []
  | .registerWrite .. =>
    Stem.but [.SEQ_THR_STAT, .SEQ_THR_PC, .SEQ_THR_VN, .SEQ_CS_STAT, .SEQ_CS_CRC, .SEQ_CS_VER, .SEQ_CS_ERR, .VST_POS,
      .VST_ADM_BUDGET, .VST_ADM_USED, .TIA_MEAN, .TIA_SDEV, .ADC_RES, .ADC_CALF, .SUP_LOOP, .MEM_CTL_STAT, .MEM_IL,
      .MEM_TEMP, .MEM_EDC_CNT, .KLK_CRED, .KLK_HOP, .HST_ID, .HST_FW_VERSION, .HST_G_FAILED, .NTU_LBC, .NTU_KL_OFS,
      .MGT_SPR_CONSUMED, .MGT_DE_STAT, .MGT_RXQ_REL, .CAL_REF_ERR, .CAL_SET_SEQ, .THM_TEMP, .THM_HOT, .THM_G_TEMP,
      .THM_SNS_FAIL, .THM_P_BASE, .THM_P_RT, .THM_P_NRT, .THM_STAT, .HSK_REC_SEQ]
  | .loWordRead .. =>
    [.TMG_CH_STAT, .VST_IM_COLL, .VST_STALL_BEATS, .VST_STALL_EVTS, .CAP_FLOG_LOST, .CAP_AQ_IGN, .TIA_LOST, .TIA_ERR,
      .ADC_OVR, .KLK_CRC_ERR, .KLK_REPLAY, .KLK_REFUSE, .KLK_DROP, .KLK_PRBS_ERR, .MGT_SPR_POSTED, .MGT_CQ_STAT,
      .MGT_RXQ_STAT, .THM_REFUSED, .HSK_REC_LOST]
  | .readClearRead .. =>
    [.TMG_CH_STAT, .VST_IM_COLL, .VST_STALL_BEATS, .VST_STALL_EVTS, .CAP_FLOG_LOST, .CAP_AQ_IGN, .TIA_LOST, .TIA_ERR,
      .ADC_OVR, .KLK_CRC_ERR, .KLK_REPLAY, .KLK_REFUSE, .KLK_DROP, .KLK_PRBS_ERR, .MGT_SPR_POSTED, .MGT_CQ_STAT,
      .MGT_RXQ_STAT, .THM_REFUSED, .HSK_REC_LOST]
  | .todNsRead .. => []
  | .tiaCntLoRead .. =>
    [.TMG_CH_STAT, .VST_IM_COLL, .VST_STALL_BEATS, .VST_STALL_EVTS, .CAP_FLOG_LOST, .CAP_AQ_IGN, .TIA_LOST, .TIA_ERR,
      .ADC_OVR, .KLK_CRC_ERR, .KLK_REPLAY, .KLK_REFUSE, .KLK_DROP, .KLK_PRBS_ERR, .MGT_CQ_STAT, .MGT_RXQ_STAT,
      .THM_REFUSED, .HSK_REC_LOST]
  | .i2cRead .. =>
    [.TMG_CH_STAT, .VST_IM_COLL, .VST_STALL_BEATS, .VST_STALL_EVTS, .CAP_FLOG_LOST, .CAP_AQ_IGN, .TIA_LOST, .TIA_ERR,
      .ADC_OVR, .KLK_CRC_ERR, .KLK_REPLAY, .KLK_REFUSE, .KLK_DROP, .KLK_PRBS_ERR, .MGT_CQ_STAT, .MGT_RXQ_STAT,
      .THM_REFUSED, .HSK_REC_LOST]
  | .bar2Access .. => []
  | .functionLevelReset => [.CST_FREE, .CST_HOLD, .CST_LEDGER_STAT, .HST_STATE, .HST_FEAT]
  | .perstNAssert => []
  | .perstNRise => [.CST_FREE, .CST_HOLD, .CST_LEDGER_STAT, .HST_STATE, .HST_FEAT]
  | .pcieLinkSettle .. => []
  | .porstNRise .. => [.HST_STATE]
  | .porstNFall => Stem.but []
  | .powerMonitorReset .. => Stem.but []
  | .refWindow .. => [.NTU_BEAT_STAT]
  | .beatPllLock => [.NTU_BEAT_STAT, .MGT_CORE_STAT]
  | .beatLockTimeout => []
  | .refclkLoss => [.NTU_BEAT_STAT]
  | .holdoverRelock => [.NTU_BEAT_STAT]
  | .podPllLock .. => [.NTU_BEAT_STAT]
  | .podLockTimeout => []
  | .podPllUnlock .. => [.NTU_BEAT_STAT]
  | .beatBoundary =>
    Stem.but [.SEQ_THR_STAT, .SEQ_THR_PC, .SEQ_THR_VN, .SEQ_CS_STAT, .SEQ_CS_CRC, .SEQ_CS_VER, .SEQ_CS_ERR, .VST_POS,
      .VST_STALL_EVTS, .VST_ADM_BUDGET, .VST_ADM_USED, .TIA_STAT, .TIA_MEAN, .TIA_SDEV, .ADC_RES, .ADC_OVR, .ADC_CALF,
      .SUP_LOOP, .MEM_CTL_STAT, .MEM_IL, .MEM_TEMP, .KLK_CRED, .KLK_HOP, .KLK_CRC_ERR, .KLK_REPLAY, .KLK_REFUSE,
      .KLK_PRBS_ERR, .HST_ID, .HST_FW_VERSION, .HST_G_FAILED, .HST_FEAT, .NTU_LBC, .NTU_KL_OFS, .MGT_SPR_CONSUMED,
      .MGT_DE_STAT, .MGT_RXQ_REL, .CAL_REF_ERR, .CAL_SET_SEQ, .THM_TEMP, .THM_HOT, .THM_G_TEMP, .THM_SNS_FAIL,
      .THM_P_BASE, .THM_P_RT, .THM_P_NRT, .THM_REFUSED, .THM_STAT, .HSK_REC_SEQ]
  | .bootRomLoad => [.HST_FW_VERSION]
  | .firmwareBoot .. =>
    Stem.but [.SEQ_THR_STAT, .SEQ_THR_END, .SEQ_THR_PC, .SEQ_THR_VN, .SEQ_CS_ERR, .VST_POS, .VST_WIN_STAT,
      .VST_PAD_ALLOW, .VST_ADM_BUDGET, .VST_ADM_USED, .VST_ADM_CHG, .CAP_FLOG_STAT, .CAP_FLOG_WP, .CAP_FAIL_VEC,
      .CAP_FIRST_VN, .CAP_CH_FCNT, .CAP_AQ_STAT, .CAP_AQ_MASKV, .TIA_STAT, .TIA_LAST, .TIA_CNT, .TIA_SUM, .TIA_SSQ,
      .TIA_MIN, .TIA_MAX, .TIA_MEAN, .TIA_SDEV, .TIA_IVL, .ADC_RES, .ADC_PASS, .SUP_LOOP, .MEM_TEMP, .MEM_EDC_CNT,
      .KLK_CRED, .KLK_HOP, .HST_ID, .HST_FW_VERSION, .HST_FEAT, .NTU_LBC, .NTU_KL_OFS, .MGT_SPR_CONSUMED,
      .MGT_DE_STAT, .MGT_RXQ_REL, .CAL_REF_ERR, .THM_TEMP, .THM_HOT, .THM_G_TEMP, .THM_SNS_FAIL, .THM_P_BASE,
      .THM_P_RT, .THM_P_NRT, .HSK_REC_SEQ]
  | .firmwareRestart =>
    Stem.but [.TMG_SITE_STAT, .SEQ_THR_STAT, .SEQ_THR_END, .SEQ_THR_PC, .SEQ_THR_VN, .SEQ_CS_STAT, .SEQ_CS_CRC,
      .SEQ_CS_VER, .SEQ_CS_ERR, .VST_POS, .VST_WIN_STAT, .VST_PAD_ALLOW, .VST_ADM_BUDGET, .VST_ADM_USED, .VST_ADM_CHG,
      .CAP_FLOG_STAT, .CAP_FLOG_WP, .CAP_FAIL_VEC, .CAP_FIRST_VN, .CAP_CH_FCNT, .CAP_AQ_STAT, .CAP_AQ_MASKV,
      .TIA_STAT, .TIA_LAST, .TIA_CNT, .TIA_SUM, .TIA_SSQ, .TIA_MIN, .TIA_MAX, .TIA_MEAN, .TIA_SDEV, .TIA_IVL,
      .ADC_RES, .ADC_PASS, .ADC_CALF, .SUP_LOOP, .MEM_CTL_STAT, .MEM_IL, .MEM_TEMP, .MEM_EDC_CNT, .KLK_PORT_STAT,
      .KLK_CRED, .KLK_HOP, .KLK_PRBS_STAT, .HST_ID, .HST_FW_VERSION, .HST_G_FAILED, .HST_FEAT, .NTU_LBC,
      .NTU_SERVO_STAT, .NTU_KL_OFS, .MGT_SPR_CONSUMED, .MGT_DE_STAT, .MGT_RXQ_REL, .CAL_REF_ERR, .CAL_SET_SEQ,
      .THM_TEMP, .THM_HOT, .THM_G_TEMP, .THM_SNS_FAIL, .THM_P_BASE, .THM_P_RT, .THM_P_NRT, .THM_STAT, .HSK_REC_SEQ]
  | .descriptorStart .. =>
    Stem.but [.SEQ_THR_STAT, .SEQ_THR_PC, .SEQ_THR_VN, .SEQ_CS_STAT, .SEQ_CS_CRC, .SEQ_CS_VER, .SEQ_CS_ERR, .VST_POS,
      .VST_ADM_BUDGET, .VST_ADM_USED, .TIA_MEAN, .TIA_SDEV, .ADC_RES, .ADC_CALF, .SUP_LOOP, .MEM_CTL_STAT, .MEM_IL,
      .MEM_TEMP, .MEM_EDC_CNT, .KLK_CRED, .KLK_HOP, .HST_ID, .HST_FW_VERSION, .HST_G_FAILED, .NTU_LBC, .NTU_KL_OFS,
      .MGT_SPR_CONSUMED, .MGT_DE_STAT, .MGT_RXQ_REL, .CAL_REF_ERR, .CAL_SET_SEQ, .THM_TEMP, .THM_HOT, .THM_G_TEMP,
      .THM_SNS_FAIL, .THM_P_BASE, .THM_P_RT, .THM_P_NRT, .THM_STAT, .HSK_REC_SEQ]
  | .completionPost .. => []
  | .deferredCompletion .. =>
    [.SEQ_CS_STAT, .SEQ_CS_CRC, .SEQ_CS_VER, .SEQ_CS_ERR, .CST_FREE, .CST_HOLD, .CST_LEDGER_STAT, .NTU_DLY_TX,
      .NTU_DLY_RX, .MGT_CORE_STAT, .MGT_SPR_THR, .MGT_SPR_FLOW, .MGT_SPR_POSTED, .MGT_CQ_STAT, .MGT_ASID_ROOT,
      .CAL_SET_STAT, .HSK_EVT_PEND]
  | .deferredStart .. => [.ADC_STAT]
  | .msixCoalesceTimeout .. => []
  | .msixSend .. => [.MGT_SPR_POSTED]
  | .cfgApply .. =>
    Stem.but [.SEQ_THR_STAT, .SEQ_THR_PC, .SEQ_THR_VN, .SEQ_CS_STAT, .SEQ_CS_CRC, .SEQ_CS_VER, .SEQ_CS_ERR,
      .VST_IM_COLL, .VST_POS, .VST_WIN_STAT, .VST_STALL_BEATS, .VST_STALL_EVTS, .VST_ADM_BUDGET, .VST_ADM_USED,
      .CAP_AQ_IGN, .CAP_AQ_MASKV, .TIA_STAT, .TIA_LOST, .TIA_ERR, .TIA_MEAN, .TIA_SDEV, .ADC_RES, .ADC_OVR, .ADC_PASS,
      .ADC_CALF, .SUP_LOOP, .MEM_CTL_STAT, .MEM_IL, .MEM_TEMP, .MEM_EDC_CNT, .KLK_CRED, .KLK_HOP, .KLK_CRC_ERR,
      .KLK_REPLAY, .KLK_REFUSE, .KLK_PRBS_ERR, .HST_ID, .HST_FW_VERSION, .HST_G_FAILED, .HST_FEAT, .NTU_LBC,
      .NTU_KL_OFS, .MGT_SPR_CONSUMED, .MGT_DE_STAT, .MGT_RXQ_REL, .CAL_REF_ERR, .CAL_SET_SEQ, .THM_TEMP, .THM_HOT,
      .THM_G_TEMP, .THM_SNS_FAIL, .THM_P_BASE, .THM_P_RT, .THM_P_NRT, .THM_REFUSED, .THM_STAT, .HSK_REC_SEQ]
  | .burstStartBeat .. =>
    [.SEQ_THR_END, .SEQ_BR_STAT, .VST_ADM_CHG, .CAP_FLOG_STAT, .CAP_FLOG_WP, .CAP_FAIL_VEC, .CAP_FIRST_VN,
      .CAP_FLOG_LOST, .CAP_CH_FCNT, .CAP_AQ_STAT, .TIA_LAST, .TIA_CNT, .TIA_SUM, .TIA_SSQ, .TIA_MIN, .TIA_MAX,
      .TIA_IVL, .CST_FREE, .CST_HOLD, .CST_LEDGER_STAT, .HSK_EVT_PEND]
  | .nop .. => [.SEQ_GR, .SEQ_CS_STAT, .SEQ_CS_ERR, .SEQ_BR_STAT, .VST_PAD_ALLOW, .HSK_INJECT, .HSK_EVT_PEND]
  | .fetch .. => [.SEQ_GR, .SEQ_CS_STAT, .SEQ_CS_ERR, .SEQ_BR_STAT, .VST_PAD_ALLOW, .HSK_INJECT, .HSK_EVT_PEND]
  | .park .. => [.SEQ_GR, .SEQ_CS_STAT, .SEQ_CS_ERR, .SEQ_BR_STAT, .VST_PAD_ALLOW, .HSK_INJECT, .HSK_EVT_PEND]
  | .lsDecb .. => [.SEQ_GR, .SEQ_CS_STAT, .SEQ_CS_ERR, .SEQ_BR_STAT, .VST_PAD_ALLOW, .HSK_INJECT, .HSK_EVT_PEND]
  | .bgZero .. => [.SEQ_GR, .SEQ_CS_STAT, .SEQ_CS_ERR, .SEQ_BR_STAT, .VST_PAD_ALLOW, .HSK_INJECT, .HSK_EVT_PEND]
  | .bflag .. => [.SEQ_GR, .SEQ_CS_STAT, .SEQ_CS_ERR, .SEQ_BR_STAT, .VST_PAD_ALLOW, .HSK_INJECT, .HSK_EVT_PEND]
  | .pqPush .. => [.SEQ_GR, .SEQ_CS_STAT, .SEQ_CS_ERR, .SEQ_BR_STAT, .VST_PAD_ALLOW, .HSK_INJECT, .HSK_EVT_PEND]
  | .lsPush .. => [.SEQ_GR, .SEQ_CS_STAT, .SEQ_CS_ERR, .SEQ_BR_STAT, .VST_PAD_ALLOW, .HSK_INJECT, .HSK_EVT_PEND]
  | .lsBack .. => [.SEQ_GR, .SEQ_CS_STAT, .SEQ_CS_ERR, .SEQ_BR_STAT, .VST_PAD_ALLOW, .HSK_INJECT, .HSK_EVT_PEND]
  | .lsPop .. => [.SEQ_GR, .SEQ_CS_STAT, .SEQ_CS_ERR, .SEQ_BR_STAT, .VST_PAD_ALLOW, .HSK_INJECT, .HSK_EVT_PEND]
  | .csPush .. => [.SEQ_GR, .SEQ_CS_STAT, .SEQ_CS_ERR, .SEQ_BR_STAT, .VST_PAD_ALLOW, .HSK_INJECT, .HSK_EVT_PEND]
  | .csPop .. => [.SEQ_GR, .SEQ_CS_STAT, .SEQ_CS_ERR, .SEQ_BR_STAT, .VST_PAD_ALLOW, .HSK_INJECT, .HSK_EVT_PEND]
  | .pcImm .. => [.SEQ_GR, .SEQ_CS_STAT, .SEQ_CS_ERR, .SEQ_BR_STAT, .VST_PAD_ALLOW, .HSK_INJECT, .HSK_EVT_PEND]
  | .pcExit .. => [.SEQ_GR, .SEQ_CS_STAT, .SEQ_CS_ERR, .SEQ_BR_STAT, .VST_PAD_ALLOW, .HSK_INJECT, .HSK_EVT_PEND]
  | .grSet .. => [.SEQ_GR, .SEQ_CS_STAT, .SEQ_CS_ERR, .SEQ_BR_STAT, .VST_PAD_ALLOW, .HSK_INJECT, .HSK_EVT_PEND]
  | .grAdd .. => [.SEQ_GR, .SEQ_CS_STAT, .SEQ_CS_ERR, .SEQ_BR_STAT, .VST_PAD_ALLOW, .HSK_INJECT, .HSK_EVT_PEND]
  | .arm .. => [.SEQ_GR, .SEQ_CS_STAT, .SEQ_CS_ERR, .SEQ_BR_STAT, .VST_PAD_ALLOW, .HSK_INJECT, .HSK_EVT_PEND]
  | .armTo .. => [.SEQ_GR, .SEQ_CS_STAT, .SEQ_CS_ERR, .SEQ_BR_STAT, .VST_PAD_ALLOW, .HSK_INJECT, .HSK_EVT_PEND]
  | .mkSet .. => [.SEQ_GR, .SEQ_CS_STAT, .SEQ_CS_ERR, .SEQ_BR_STAT, .VST_PAD_ALLOW, .HSK_INJECT, .HSK_EVT_PEND]
  | .sofSet .. => [.SEQ_GR, .SEQ_CS_STAT, .SEQ_CS_ERR, .SEQ_BR_STAT, .VST_PAD_ALLOW, .HSK_INJECT, .HSK_EVT_PEND]
  | .haltQ .. => [.SEQ_GR, .SEQ_CS_STAT, .SEQ_CS_ERR, .SEQ_BR_STAT, .VST_PAD_ALLOW, .HSK_INJECT, .HSK_EVT_PEND]
  | .ibufRefill .. => []
  | .vectorIssue .. =>
    [.TMG_CH_CFG, .SEQ_THR_END, .SEQ_GR, .SEQ_BR_STAT, .VST_SITE_STAT, .VST_POS, .VST_PAD_ALLOW, .VST_STALL_EVTS,
      .VST_ADM_CHG, .CAP_FAIL_VEC, .CAP_FIRST_VN, .CAP_CH_FCNT, .CAP_AQ_STAT, .TIA_LAST, .TIA_CNT, .TIA_SUM, .TIA_SSQ,
      .TIA_MIN, .TIA_MAX, .TIA_IVL, .CST_FREE, .CST_HOLD, .CST_LEDGER_STAT, .HSK_INJECT, .HSK_EVT_PEND]
  | .mkPulseEnd .. => []
  | .tsetEmptyDetect .. => []
  | .outputPipeSchedule .. => [.TMG_CH_STAT, .TMG_SITE_STAT]
  | .calOffsetUpdate => [.CAL_SET_STAT]
  | .compareResult .. => [.HSK_EVT_PEND]
  | .compareInputResolve .. => [.TMG_CH_STAT]
  | .conditionSlotSet .. => [.CAP_AQ_STAT, .CAP_AQ_IGN, .CAP_AQ_MASKV, .KLK_DROP, .HSK_EVT_PEND]
  | .branchDecision .. => [.SEQ_GR, .VST_PAD_ALLOW]
  | .branchEffect .. => [.SEQ_BR_STAT]
  | .padReady .. => []
  | .padExpire .. => [.SEQ_GR, .VST_PAD_ALLOW]
  | .waitTimeout .. => [.SEQ_GR, .VST_PAD_ALLOW]
  | .joinRelease .. => [.SEQ_BR_STAT]
  | .joinTimeout .. => [.SEQ_GR, .SEQ_BR_STAT, .VST_PAD_ALLOW, .HSK_EVT_PEND]
  | .spansyncRelease => [.SEQ_BR_STAT]
  | .spansyncTimeout => [.SEQ_GR, .SEQ_BR_STAT, .VST_PAD_ALLOW, .HSK_EVT_PEND]
  | .spanKeepalive => []
  | .spanLinkLate .. => []
  | .siteAbort .. =>
    [.SEQ_THR_END, .SEQ_BR_STAT, .VST_ADM_CHG, .CAP_FAIL_VEC, .CAP_FIRST_VN, .CAP_CH_FCNT, .CAP_AQ_STAT, .TIA_LAST,
      .TIA_CNT, .TIA_SUM, .TIA_SSQ, .TIA_MIN, .TIA_MAX, .TIA_IVL, .CST_FREE, .CST_HOLD, .CST_LEDGER_STAT,
      .HSK_EVT_PEND]
  | .quietStateEntry .. => [.TMG_CH_CFG, .TMG_CH_STAT, .TMG_SITE_STAT]
  | .streamFetchRequest .. => []
  | .streamGranuleArrive .. => []
  | .blockAllocate .. => [.CST_FREE, .CST_HOLD]
  | .blockFree .. => [.CST_FREE, .CST_HOLD, .CST_LEDGER_STAT]
  | .cstRead .. => [.CAP_FLOG_STAT, .CAP_FLOG_WP, .CAP_FLOG_LOST, .CST_LEDGER_STAT, .HSK_INJECT]
  | .memGranuleAccess .. => [.MEM_EDC_CNT, .HSK_INJECT]
  | .edcWindowEnd .. => []
  | .gddr6TempRead .. => [.MEM_TEMP, .THM_G_TEMP, .HSK_EVT_PEND]
  | .deviceLost .. => [.MEM_CTL_STAT]
  | .failBitCapture .. =>
    [.CAP_FLOG_STAT, .CAP_FLOG_WP, .CAP_FAIL_VEC, .CAP_FIRST_VN, .CAP_FLOG_LOST, .CAP_CH_FCNT, .HSK_EVT_PEND]
  | .failRecordTimeout .. => [.CAP_FLOG_STAT, .CAP_FLOG_WP, .CAP_FLOG_LOST]
  | .failLogFlush .. => [.CAP_FLOG_STAT, .CAP_FLOG_WP, .CAP_FLOG_LOST]
  | .captureSample .. => []
  | .aqSample .. => [.CAP_AQ_STAT, .CAP_AQ_IGN, .CAP_AQ_MASKV, .KLK_DROP, .HSK_EVT_PEND]
  | .aqMonitorTimeout .. => [.CAP_AQ_STAT, .CAP_AQ_MASKV, .HSK_EVT_PEND]
  | .aqHoldoffEnd .. => [.CAP_AQ_STAT]
  | .toPulseEnd .. => []
  | .tdcEdge .. => [.TIA_LOST, .HSK_EVT_PEND]
  | .tdcHoldoffEnd .. => [.TIA_ERR]
  | .tdcMeasure .. => [.TIA_STAT, .TIA_ERR, .TIA_LAST, .TIA_CNT, .TIA_SUM, .TIA_SSQ, .TIA_MIN, .TIA_MAX, .TIA_IVL]
  | .tdcRunEnd .. => [.TIA_STAT, .TIA_MEAN, .TIA_SDEV, .HSK_EVT_PEND]
  | .freqGateEnd .. => [.TIA_LOST, .TIA_ERR, .HSK_EVT_PEND]
  | .adcTriggerTake .. => [.ADC_STAT, .ADC_OVR, .ADC_PASS, .HSK_EVT_PEND]
  | .adcConversion .. => [.ADC_STAT, .ADC_PASS, .HSK_EVT_PEND]
  | .adcResultWrite .. => [.ADC_RES, .ADC_STAT, .ADC_PASS, .HSK_EVT_PEND]
  | .adcSelfcalEnd .. => [.ADC_STAT, .ADC_CALF, .HSK_EVT_PEND]
  | .adcOpenwireEnd .. => [.ADC_STAT, .HSK_EVT_PEND]
  | .supPeriodStart .. => [.SUP_STAT, .SUP_LOOP, .HSK_EVT_PEND]
  | .peakComparatorTrip .. => [.SUP_STAT, .HSK_EVT_PEND]
  | .supComparatorTrip .. => [.SUP_STAT, .HSK_EVT_PEND]
  | .softStartStep .. => [.SUP_STAT]
  | .rampDownDone .. => [.SUP_STAT]
  | .enableBlankingEnd .. => [.SUP_STAT, .HSK_EVT_PEND]
  | .supSelftestEnd .. => [.SUP_STAT]
  | .thmConversion .. =>
    [.SUP_STAT, .HST_STATE, .MGT_CORE_STAT, .THM_TEMP, .THM_HOT, .THM_PLIM_STAT, .THM_SNS_FAIL, .THM_SNS_ACK,
      .THM_P_NRT, .HSK_EVT_PEND]
  | .throttleTick => [.THM_PLIM_STAT, .HSK_EVT_PEND]
  | .shutdownRecordWrite .. => []
  | .coreWatchdogExpiry .. =>
    [.ADC_STAT, .HST_STATE, .MGT_CORE_STAT, .MGT_SPR_THR, .MGT_SPR_FLOW, .MGT_SPR_POSTED, .MGT_CQ_STAT, .CAL_STAT,
      .HSK_EVT_PEND]
  | .watchdogRestart .. => []
  | .coreTrap .. =>
    [.ADC_STAT, .HST_STATE, .MGT_CORE_STAT, .MGT_SPR_THR, .MGT_SPR_FLOW, .MGT_SPR_POSTED, .MGT_CQ_STAT, .CAL_STAT,
      .HSK_EVT_PEND]
  | .appletRegRequest .. =>
    Stem.but [.TMG_SITE_STAT, .SEQ_THR_STAT, .SEQ_THR_END, .SEQ_THR_PC, .SEQ_THR_VN, .SEQ_CS_STAT, .SEQ_CS_CRC,
      .SEQ_CS_VER, .SEQ_CS_ERR, .VST_POS, .VST_WIN_STAT, .VST_PAD_ALLOW, .VST_ADM_BUDGET, .VST_ADM_USED, .VST_ADM_CHG,
      .CAP_FLOG_STAT, .CAP_FLOG_WP, .CAP_FAIL_VEC, .CAP_FIRST_VN, .CAP_CH_FCNT, .CAP_AQ_STAT, .CAP_AQ_MASKV,
      .TIA_STAT, .TIA_LAST, .TIA_CNT, .TIA_SUM, .TIA_SSQ, .TIA_MIN, .TIA_MAX, .TIA_MEAN, .TIA_SDEV, .TIA_IVL,
      .ADC_RES, .ADC_PASS, .ADC_CALF, .SUP_LOOP, .MEM_CTL_STAT, .MEM_IL, .MEM_TEMP, .MEM_EDC_CNT, .KLK_PORT_STAT,
      .KLK_CRED, .KLK_HOP, .KLK_PRBS_STAT, .HST_ID, .HST_FW_VERSION, .HST_G_FAILED, .HST_FEAT, .NTU_LBC,
      .NTU_SERVO_STAT, .NTU_KL_OFS, .MGT_SPR_CONSUMED, .MGT_DE_STAT, .MGT_RXQ_REL, .CAL_REF_ERR, .CAL_SET_SEQ,
      .THM_TEMP, .THM_HOT, .THM_G_TEMP, .THM_SNS_FAIL, .THM_P_BASE, .THM_P_RT, .THM_P_NRT, .THM_STAT, .HSK_REC_SEQ]
  | .expect .. => [.MGT_SPR_THR]
  | .post .. => [.MGT_SPR_POSTED, .MGT_CQ_STAT]
  | .threadYield .. => [.MGT_SPR_THR]
  | .threadCreate .. => [.MGT_SPR_THR, .MGT_SPR_FLOW]
  | .threadRelease .. => [.MGT_SPR_THR, .MGT_SPR_FLOW]
  | .completionDelivery => [.MGT_SPR_THR, .MGT_SPR_POSTED, .MGT_SPR_CONSUMED, .MGT_RXQ_STAT]
  | .cqRefuseRetry .. => [.MGT_SPR_POSTED, .MGT_CQ_STAT, .MGT_RXQ_STAT]
  | .dmaDescriptorStart .. => [.MGT_SPR_POSTED, .MGT_CQ_STAT, .HSK_EVT_PEND]
  | .dmaGranuleMove .. =>
    [.CST_FREE, .CST_HOLD, .KLK_DROP, .MGT_SPR_THR, .MGT_SPR_POSTED, .MGT_CQ_STAT, .MGT_ASID_ROOT, .MGT_RXQ_STAT,
      .HSK_EVT_PEND]
  | .faultLatch =>
    [.ADC_STAT, .SUP_STAT, .KLK_DROP, .HST_STATE, .MGT_CORE_STAT, .MGT_SPR_THR, .MGT_SPR_FLOW, .MGT_SPR_POSTED,
      .MGT_CQ_STAT, .CAL_STAT, .CAL_SET_STAT, .HSK_STATUS, .HSK_EVT_PEND, .HSK_REC_LOST]
  | .faultRecordWrite => [.HSK_REC_SEQ]
  | .klFrameReceive .. =>
    [.KLK_PORT_STAT, .KLK_HOP, .KLK_CRC_ERR, .KLK_REPLAY, .KLK_REFUSE, .KLK_DROP, .NTU_SERVO_STAT, .HSK_EVT_PEND]
  | .condReceive .. => [.KLK_DROP, .HSK_EVT_PEND]
  | .trigReceive .. => [.CAP_AQ_STAT, .CAP_AQ_IGN, .CAP_AQ_MASKV, .KLK_DROP, .HSK_EVT_PEND]
  | .noticeReceive .. => [.KLK_DROP, .HSK_EVT_PEND]
  | .timeReceive .. => [.KLK_PORT_STAT, .KLK_HOP, .NTU_SERVO_STAT, .NTU_KL_OFS, .HSK_EVT_PEND]
  | .dataReceive .. => [.KLK_DROP, .MGT_SPR_POSTED, .MGT_CQ_STAT, .MGT_RXQ_STAT, .HSK_EVT_PEND]
  | .ctrlReceive .. => [.KLK_DROP, .HSK_EVT_PEND]
  | .linkReceive .. =>
    [.KLK_PORT_STAT, .KLK_HOP, .KLK_CRC_ERR, .KLK_REPLAY, .KLK_REFUSE, .KLK_DROP, .NTU_SERVO_STAT, .HSK_EVT_PEND]
  | .frameTransmit .. => [.KLK_DROP, .HSK_INJECT, .HSK_EVT_PEND]
  | .replayTimeout .. => [.KLK_PORT_STAT, .KLK_REPLAY, .NTU_SERVO_STAT, .HSK_EVT_PEND]
  | .refuseReplay .. => []
  | .signalDetect .. => [.KLK_PORT_STAT]
  | .laneLock .. => [.KLK_PORT_STAT]
  | .eqAgreed .. => [.KLK_PORT_STAT]
  | .negotiateExchange .. => [.KLK_PORT_STAT, .KLK_HOP, .KLK_DROP, .NTU_SERVO_STAT, .HSK_EVT_PEND]
  | .creditInit .. => [.CST_FREE, .CST_HOLD, .CST_LEDGER_STAT, .KLK_PORT_STAT, .KLK_HOP, .KLK_DROP, .HSK_EVT_PEND]
  | .trainingTimeout .. => [.KLK_PORT_STAT, .KLK_DROP, .NTU_SERVO_STAT, .HSK_EVT_PEND]
  | .lossOfSignal .. => [.KLK_PORT_STAT, .KLK_DROP, .NTU_SERVO_STAT, .HSK_EVT_PEND]
  | .noPartnerRetry .. => [.KLK_PORT_STAT]
  | .laneLoss .. => [.KLK_PORT_STAT, .KLK_HOP, .KLK_REPLAY, .KLK_DROP, .NTU_SERVO_STAT, .HSK_EVT_PEND]
  | .prbsCheck .. => [.KLK_PRBS_STAT, .KLK_PRBS_ERR, .HSK_EVT_PEND]
  | .dreqSend .. => []
  | .syncSend .. => []
  | .syncLoss => [.NTU_SERVO_STAT]
  | .ptpMessage .. => [.NTU_SERVO_STAT]
  | .ethernetLinkDown .. => []
  | .todStepApply =>
    [.SEQ_THR_END, .SEQ_BR_STAT, .VST_ADM_CHG, .CAP_FLOG_STAT, .CAP_FLOG_WP, .CAP_FAIL_VEC, .CAP_FIRST_VN,
      .CAP_FLOG_LOST, .CAP_CH_FCNT, .CAP_AQ_STAT, .TIA_LAST, .TIA_CNT, .TIA_SUM, .TIA_SSQ, .TIA_MIN, .TIA_MAX,
      .TIA_IVL, .CST_FREE, .CST_HOLD, .CST_LEDGER_STAT, .NTU_SERVO_STAT, .NTU_ALM_STAT, .HSK_EVT_PEND]
  | .alarmFire .. => [.CAP_AQ_STAT, .CAP_AQ_IGN, .CAP_AQ_MASKV, .KLK_DROP, .NTU_ALM_STAT, .HSK_EVT_PEND]
  | .timedFrameLaunch .. => []
  | .calRunBegin .. => [.TMG_CH_STAT, .TMG_SITE_STAT, .TIA_STAT, .ADC_STAT, .CAL_STAT, .CAL_REF_ERR, .HSK_EVT_PEND]
  | .calStepEnd .. => [.ADC_STAT, .CAL_STAT, .CAL_SET_STAT]
  | .c3Recalibration => [.TMG_CH_STAT, .TMG_SITE_STAT, .TIA_STAT, .ADC_STAT, .HSK_EVT_PEND]
  | .storeWrite .. => [.CAL_STAT, .CAL_SET_STAT, .CAL_SET_SEQ, .THM_STAT]
  | .tiEdge .. => [.CAP_AQ_STAT, .CAP_AQ_IGN, .CAP_AQ_MASKV, .KLK_DROP, .HSK_EVT_PEND]
  | .tdcStartBeat .. =>
    [.TIA_STAT, .TIA_LOST, .TIA_ERR, .TIA_LAST, .TIA_CNT, .TIA_SUM, .TIA_SSQ, .TIA_MIN, .TIA_MAX, .TIA_MEAN,
      .TIA_SDEV, .TIA_IVL]
  | .threadPreempt .. => [.MGT_SPR_THR]
  | .supComparatorResolve .. => [.SUP_STAT, .HSK_EVT_PEND]
  | .alignmentMarkerReceive .. => [.KLK_PORT_STAT, .KLK_HOP, .KLK_REPLAY, .NTU_SERVO_STAT, .HSK_EVT_PEND]
  | .periodicReadRetraining .. => []
  | .refreshInterval .. => [.MEM_CTL_STAT]
  | .pBaseRecompute .. => [.THM_P_BASE]
  | .ethernetLinkUp .. => [.KLK_PRBS_STAT]

/-- A state is reached from another by changing no more than some parts and some register stems. -/
def State.within (s t : State) (parts : List Part) (stems : List Stem) : Prop :=
  (∀ p : Part, parts.contains p = false → s.same t p) ∧
  (∀ (st : Stem) (i w : Nat), stems.contains st = false → t.reg st i w = s.reg st i w)

end Sys2Proof.Machine
end

