-- ==== Sys2Proof/Certificates/Slice0/Obligations.lean ====
section
/-! DEFINITION. The statements for the provers. -/

open Sys2Proof Sys2Proof.Machine

/-- For every command c and state s, a step of s with c at the front of its queue is exec of c on s with the queue's rest;
on an empty queue the block idles (the idling is the model's choice, log entry 1). (Rests on 00_scope.md;
95_what_each_step_holds.md.) -/
def Obligations.StepTakesFrontCommand : Prop :=
  (∀ (c : Instr) (s : State), step { s with pending := c :: s.pending } = exec c s) ∧
  ∀ s : State, s.pending = [] → step s = .next s

/-- For every state s whose register file and memories are canonical (keys strictly rising, no entry equal to its reset or
unwritten value), if a step of s answers a next state t, then t is canonical too. (Rests on 00_scope.md; 02_sesame.md;
12_gddr6.md.) -/
def Obligations.StepKeepsCanonicalForm : Prop :=
  ∀ s t : State, s.canon = true → step s = .next t → t.canon = true

/-- After reset the register file and the three memories (GDDR6 and the Central Store, the store, host memory) are
canonical and list nothing: a byte not listed reads as the model has it (log entries 3, 19 and 20); the queue is
empty, the beat generator is held with LBC 0 (R16, R20), MB0 is OPEN with 64-entry rings at BAR2 offsets 0 and 0x1000
and MB1 to MB15 are CLOSED (R46), no feature set is agreed and firmware is in BOOT (R39). (Rests on 01_beat.md;
02_sesame.md.) -/
def Obligations.ResetIsCanonical : Prop :=
  State.reset.canon = true ∧ State.reset.pending = [] ∧ State.reset.regs = [] ∧
  State.reset.ram = [] ∧ State.reset.nor = [] ∧ State.reset.hostMem = [] ∧
  State.reset.beat.phase = .held ∧ State.reset.beat.lbc = 0 ∧
  (let b := State.reset.box 0
   b.st = 1 ∧ b.sqBase * 256 = 0 ∧ 2 ^ b.sqLog = 64 ∧ b.cqBase * 256 = 0x1000 ∧ 2 ^ b.cqLog = 64) ∧
  (∀ m : Fin 16, m ≠ 0 → (State.reset.box m.val).st = 0) ∧
  State.reset.agreed = false ∧ State.reset.ready = false ∧ State.reset.faultStop = false

/-- For every command c and state s, if exec of c on s answers a next state t, then the queue is unchanged, every part of
the state that `changedParts c` does not list (GDDR6 and the Central Store, the non-volatile store, host memory, the
LBC, the beat generator, and each subsystem's state) is the same in t as in s, and every word of every register stem
that `changedStems c` does not list reads in t as in s. (Rests on 00_scope.md; 95_what_each_step_holds.md;
18_husk.md.) -/
def Obligations.CommandFrame : Prop :=
  ∀ (c : Instr) (s t : State), exec c s = .next t →
    t.pending = s.pending ∧ (∀ p : Part, p ∉ changedParts c → s.same t p) ∧
    ∀ st : Stem, st ∉ changedStems c → ∀ i w : Nat, t.reg st i w = s.reg st i w

/-- For every command c and state s, if exec of c on s answers a next state t: the LBC is 0 after the entry to RUN
(BEAT_PLL_LOCK in BEAT_LOCK) and after a module reset (PORST_N_FALL, or POWER_MONITOR_RESET, a fall of the supply); it
is one more after a BEAT_BOUNDARY in RUN; and every other command leaves it as it was (holdover, time-of-day steps and
firmware restarts among them). (Formalises R20.) -/
def Obligations.LbcCountsBeatsOnly : Prop :=
  ∀ (c : Instr) (s t : State), exec c s = .next t →
    t.beat.lbc = match c with
      | .beatPllLock => if s.beat.phase = .beatLock then 0 else s.beat.lbc
      | .beatBoundary => if s.running then s.beat.lbc + 1 else s.beat.lbc
      | .porstNFall => 0
      | .powerMonitorReset _ => 0
      | _ => s.beat.lbc

/-- For every Sesame command c of code k and every state: where its mailbox cannot be served nothing changes; the start
and stop of bursts are judged after what stands above them at their boundary (R23); in FAULT_STOP a command that R440
does not accept is answered WRONG_STATE; outside FAULT_STOP and before agreement a command that R56 does not accept is
answered NOT_AGREED; in both cases whatever its arguments and reserved fields hold, and nothing but the completion
happens. For every Sesame command c whose descriptor has a reserved field that is not 0, at a served mailbox with the
state gates open, exec answers the next state in which nothing happens but a completion with BAD_ARGUMENT, or with a
lower code of R57 that applies as well (BUSY, BAD_COMMAND), or with ROLLED_BACK where the mailbox has a transaction
that was rolled back (R70). (Rests on R23; R56; R57; R440; R10; R70; 02_sesame.md; 18_husk.md.) -/
def Obligations.SesameGatesHold : Prop :=
  (
  ∀ (c : Instr) (iss : Issuer) (k : Nat) (s : State), sesame c = some (iss, k) →
    (s.canTake iss.mb.val = false → exec c s = .next s) ∧
    (s.canTake iss.mb.val = true →
      let u := s.judgedIn k
      (u.canTake iss.mb.val = false → exec c s = .next u) ∧
      (u.canTake iss.mb.val = true → u.faultStop = true → stopAccepts k = false →
        exec c s = .next (u.complete iss Status.wrongState [])) ∧
      (u.canTake iss.mb.val = true → u.faultStop = false → u.agreed = false → openAccepts k = false →
        exec c s = .next (u.complete iss Status.notAgreed [])))) ∧
  (
  ∀ (c : Instr) (iss : Issuer) (k : Nat) (s : State), sesame c = some (iss, k) → iss.reserved = true →
    s.canTake iss.mb.val = true →
    let u := s.judgedIn k
    u.canTake iss.mb.val = true → u.gate k = none →
    ∃ (st : Nat) (res : List Nat), exec c s = .next (u.complete iss st res) ∧
      (st ∈ [Status.busy, Status.badCommand, Status.badArgument] ∨
        st = Status.rolledBack ∧ ∃ x, u.txnOf iss.mb.val = some x ∧ x.rolled = true))

/-- A completion posted to an open mailbox with a free entry (R54), no GDDR6 controller being lost, writes at CQ_TAIL of
its completion ring the descriptor's tag, the status, PHASE and SQ_HEAD, and RES0 to RES5 (unused words 0); every
other byte of GDDR6 and the Central Store reads as before; CQ_TAIL goes on by one round the ring, and PHASE flips when
it wraps. (Formalises R50.) -/
def Obligations.CompletionEntryWritten : Prop :=
  ∀ (s : State) (iss : Issuer) (status : Nat) (res : List Nat), iss.mb ≠ 16 → (s.box iss.mb.val).st ≠ 0 →
    (s.box iss.mb.val).cqFree ≠ 0 → s.meas.lost = false → status < 0x10000 →
    let b := s.box iss.mb.val
    let a := 0x4000000000 + b.cqBase * 256 + 32 * b.cqTail
    let t := s.complete iss status res
    t.memNat a 4 = iss.tag.toNat ∧ t.memNat (a + 4) 2 = status ∧
    t.memNat (a + 6) 2 = (if b.phase then 0x8000 else 0) + b.sqHead % 4096 ∧
    (∀ i < 6, t.memNat (a + 8 + 4 * i) 4 = res.getD i 0 % 2 ^ 32) ∧
    s.ramKept t a 32 ∧ t.regs = s.regs ∧
    (t.box iss.mb.val).cqTail = (if b.cqTail + 1 = 2 ^ b.cqLog then 0 else b.cqTail + 1) ∧
    (t.box iss.mb.val).phase = (if b.cqTail + 1 = 2 ^ b.cqLog then !b.phase else b.phase)

/-- From a served version 2 mailbox: HST_MB_OPEN of a closed mailbox 1 to 15 with log2 sizes 1 to 12, a vector below 64
and room in the MAILBOX pool takes the two runs of free blocks, zeroes the rings, opens the mailbox with its vector
and coalescing and answers OK with both BAR2 offsets; HST_MB_CLOSE of another open mailbox that owes nothing and has
no transaction frees its blocks and closes it; HST_MB_RESET of another open mailbox discards what it owes, zeroes both
rings and its pointers and leaves it OPEN. (That the lowest run is taken is the model's choice, log entry 8.) (Rests
on R46; R51; R58; R59; R480; 02_sesame.md.) -/
def Obligations.MailboxesOpenCloseReset : Prop :=
  (∀ (iss : Issuer) (m a b v n : Byte) (time : W16) (s : State) (x y : Nat), s.serves iss → iss.mb ≠ 16 →
    1 ≤ m.toNat → m.toNat ≤ 15 → 1 ≤ a.toNat → a.toNat ≤ 12 → 1 ≤ b.toNat → b.toNat ≤ 12 → v.toNat ≤ 63 →
    (s.box m.toNat).st = 0 → s.runFrom (ringBlocks a.toNat 64) 0 8192 = some x →
    (s.takeRun 3 x (ringBlocks a.toNat 64)).runFrom (ringBlocks b.toNat 32) 0 8192 = some y →
    s.mayTake 3 (ringBlocks a.toNat 64 + ringBlocks b.toNat 32) = true →
    let box : Mailbox := { sqBase := 8 * x, sqLog := a.toNat, cqBase := 8 * y, cqLog := b.toNat, st := 1, vector := v.toNat,
                           count := n.toNat + 1, time := time.toNat }
    exec (.hstMbOpen iss m a b v n time) s = .next ((((((s.takeRun 3 x (ringBlocks a.toNat 64)).takeRun 3 y
      (ringBlocks b.toNat 32)).zeroRings box).setBox m.toNat box)).complete iss Status.ok [2048 * x, 2048 * y])) ∧
  (∀ (iss : Issuer) (m : Byte) (s : State), s.serves iss → iss.mb ≠ 16 → 1 ≤ m.toNat → m.toNat ≤ 15 → m.toNat ≠ iss.mb.val →
    (s.box m.toNat).st ≠ 0 → s.owed m.toNat = 0 → s.txnOf m.toNat = none →
    exec (.hstMbClose iss m) s = .next ((((s.mute m.toNat).freeBlockList 3 (s.box m.toNat).blocks).setBox m.toNat { }).complete iss
      Status.ok [])) ∧
  ∀ (iss : Issuer) (m : Byte) (s : State), s.serves iss → iss.mb ≠ 16 → m.toNat ≤ 15 → m.toNat ≠ iss.mb.val →
    (s.box m.toNat).st ≠ 0 →
    let b := s.box m.toNat
    let clean : Mailbox := { b with sqTail := 0, cqHead := 0, sqHead := 0, cqTail := 0, st := 1, phase := true, fresh := 0, oldest := 0 }
    exec (.hstMbReset iss m) s = .next ((((s.mute m.toNat).zeroRings b).setBox m.toNat clean).complete iss Status.ok [])

/-- At a served mailbox: HST_WIN_SET of a base whose 240 MiB are backed starts a move of the window, after one that has
begun has ended, and the end of a move sets the window base and posts OK (that it ends with its beat is the model's
choice, log entry 30); HST_REG_READ of an assigned word answers its value and does what a read of it does;
HST_REG_WRITE outside a transaction of a register that is not transaction-only, whose chapter refuses nothing, writes
it under its mask; it is WRONG_STATE for a transaction-only register, and for one that only firmware writes; in an
open transaction without a pending commit and with room any other goes into the shadow and changes nothing else; an
unassigned address is BAD_ARGUMENT for both; LEDGER_SNAP answers FREE and the seven HOLD counts, and the LBC. (Rests
on R3; R43; R60; R65; R67; R210; R478; 02_sesame.md.) -/
def Obligations.WindowAndRegistersServed : Prop :=
  (∀ (iss : Issuer) (base : W64) (s : State), s.serves iss → s.windowOk base.toNat = true →
    exec (.hstWinSet iss base) s = .next (s.endWinMove.withHst fun h => { h with winMove := some ⟨iss, base.toNat, false⟩ })) ∧
  (∀ (w : WinMove) (s : State), s.hst.winMove = some w → w.muted = false →
    s.endWinMove = (s.withHst fun h => { h with winBase := w.base, winMove := none }).complete w.iss Status.ok []) ∧
  (∀ (iss : Issuer) (a : W64) (r : Reg) (s : State), s.serves iss → regAt a.toNat = some r →
    let u := s.beforeRead r
    exec (.hstRegRead iss a) s = .next ((u.readReg .sesame r).2.complete iss Status.ok [(u.readReg .sesame r).1.toNat])) ∧
  (∀ (iss : Issuer) (a : W64) (s : State), s.serves iss → regAt a.toNat = none →
    exec (.hstRegRead iss a) s = .next (s.complete iss Status.badArgument [])) ∧
  (∀ (iss : Issuer) (a : W64) (v m : W32) (r : Reg) (s : State), s.serves iss → s.txnOf iss.mb.val = none → regAt a.toNat = some r →
    (r.stem.info.txn = false → (∀ p ∈ s.writeChecks 0 r v m, p.1 = false) → exec (.hstRegWrite iss a v m) s =
      .next ((s.writeReg 0 r v m).complete iss Status.ok [])) ∧
    (r.stem.info.txn = true ∨ r.stem.info.fwOnly = true → exec (.hstRegWrite iss a v m) s = .next (s.complete iss Status.wrongState []))) ∧
  (∀ (iss : Issuer) (a : W64) (v m : W32) (s : State), s.serves iss → s.txnOf iss.mb.val = none → regAt a.toNat = none →
    exec (.hstRegWrite iss a v m) s = .next (s.complete iss Status.badArgument [])) ∧
  (∀ (iss : Issuer) (a : W64) (v m : W32) (x : Txn) (s : State), s.serves iss → s.txnOf iss.mb.val = some x → x.rolled = false →
    x.pending = none → (∃ r, regAt a.toNat = some r ∧ r.stem.info.fwOnly = false) →
    shadowSize (addShadow x.entries (.reg (a.toNat - regBase) v m)) ≤ 4096 →
    exec (.hstRegWrite iss a v m) s = .next ((s.modTxn iss.mb.val fun y =>
      { y with entries := addShadow x.entries (.reg (a.toNat - regBase) v m) }).complete iss Status.ok [])) ∧
  ∀ (iss : Issuer) (s : State), s.serves iss → (∀ p < 7, s.hold p < 0x10000) → s.freeBlocks < 0x10000 →
    exec (.ledgerSnap iss) s = .next (s.complete iss Status.ok [s.hold 0 * 0x10000 + s.freeBlocks, s.hold 2 * 0x10000 + s.hold 1,
      s.hold 4 * 0x10000 + s.hold 3, s.hold 6 * 0x10000 + s.hold 5, s.beat.lbc % 2 ^ 32, s.beat.lbc / 2 ^ 32 % 2 ^ 32])

/-- At a mailbox that firmware serves: SYS_HELLO before agreement keeps the host's words, takes applet cores to RESET and
answers the device's words and the version; after agreement, with no transaction open and no other mailbox owing, it
first clears the agreement and closes every mailbox but the issuing one and MB0. SYS_AGREE with words kept whose AND
with the device's has the bit of the mailbox's protocol fixes that AND, sets AGREED and SESAME and forgets the words;
without the bit it answers NOT_AGREED and nothing is agreed; without words it answers WRONG_STATE. (Rests on R61; R62;
R63; R74; 02_sesame.md.) -/
def Obligations.AgreementIsNegotiated : Prop :=
  (∀ (iss : Issuer) (a b c d : W32) (s : State), s.canTake iss.mb.val = true → iss.reserved = false → s.agreed = false →
    exec (.sysHello iss a b c d) s = .next (((each ([2, 3, 4, 5, 6, 7].filter (fun k => s.coreState k == 1)) State.appletReset s).withHst
      fun h => { h with hello := some [a, b, c, d] }).complete iss Status.ok [0x3FF, 0, 0, 0, 0x0200])) ∧
  (∀ (iss : Issuer) (a b c d : W32) (s : State), s.canTake iss.mb.val = true → iss.reserved = false → s.agreed = true →
    s.hst.txns = [] → (∀ k < 17, k ≠ iss.mb.val → s.owed k = 0) →
    let u := each ((List.range 16).filter (fun k => k != 0 && k != iss.mb.val)) State.closeBox s.clearAgreement
    exec (.sysHello iss a b c d) s = .next (((each ([2, 3, 4, 5, 6, 7].filter (fun k => u.coreState k == 1)) State.appletReset u).withHst
      fun h => { h with hello := some [a, b, c, d] }).complete iss Status.ok [0x3FF, 0, 0, 0, 0x0200])) ∧
  (∀ (iss : Issuer) (words : List W32) (s : State), s.canTake iss.mb.val = true → iss.reserved = false → s.hst.hello = some words →
    ((agreedSet words).getD 0 0).getLsbD (if iss.mb = 16 then 1 else 0) = true →
    let u := s.fixAgreement (iss.mb == 16) (agreedSet words)
    exec (.sysAgree iss) s = .next (u.complete iss Status.ok ((agreedSet words).map BitVec.toNat)) ∧ u.agreed = true ∧
      u.fieldOf HST_STATE_SESAME 0 = (if iss.mb = 16 then 1 else 2) ∧ u.hst.hello = none) ∧
  (∀ (iss : Issuer) (words : List W32) (s : State), s.canTake iss.mb.val = true → iss.reserved = false → s.hst.hello = some words →
    ((agreedSet words).getD 0 0).getLsbD (if iss.mb = 16 then 1 else 0) = false →
    exec (.sysAgree iss) s = .next (s.complete iss Status.notAgreed [])) ∧
  (∀ (iss : Issuer) (s : State), s.canTake iss.mb.val = true → iss.reserved = false → s.hst.hello = none →
    exec (.sysAgree iss) s = .next (s.complete iss Status.wrongState [])) ∧
  ∀ a b c d : W32, agreedSet [a, b, c, d] = [a &&& 0x3FF, 0, 0, 0]

/-- With CFG_TXN agreed: CFG_BEGIN at a mailbox with no transaction open, or a rolled-back one, and at most three open
elsewhere opens a fresh empty one that carries its tag (a ROLLED mailbox is OPEN again). CFG_COMMIT of an open
transaction that is not rolled back and has no commit pending makes it pending: NEXT_BEAT for the next boundary and
with no DEFERRED; AT_LBC, at least 800 beats ahead, for that LBC with DEFERRED; AT_BOUNDARY with a site not idle for
its first idle boundary with DEFERRED. CFG_COMMIT of a rolled-back one answers ROLLED_BACK. CFG_ROLLBACK closes the
transaction, ends a pending commit with ROLLED_BACK and answers OK with the shadow's entries; with none open it
answers WRONG_STATE. CFG_APPLY of a mailbox whose pending commit is due once the faults, aborts, starts and thread
changes of the boundary are taken, no lower mailbox having one due (R23, R68; log entry 11): where every check passes
on the state and on what the writes make of it, the writes take effect, the transaction is closed and OK is posted
with the LBC and the number of entries; where one fails, its status is posted, nothing is applied (registers, pattern
memory but for the completion, and every subsystem stay) and the transaction stays open without the pending commit.
The commit of a profile (R71) needs every site idle then too: its registers take effect, HST_STATE.PROFILE names it,
and OK is posted with the LBC; with a check that fails, nothing is applied and the selection ends with the status.
Then the events of the beat that ended are exchanged unless another commit of this boundary is awaited (log entry 11).
SYS_PROFILE_SELECT of a stored profile, all sites idle and no transaction open, makes the profile's writes such a
commit for the next boundary. (Rests on R63; R64; R66; R69; R70; R23; R68; R71; R72; 02_sesame.md.) -/
def Obligations.TransactionsBeginCommitAndApply : Prop :=
  (
  (∀ (iss : Issuer) (s : State), s.serves iss → s.feature 3 = true →
    (match s.txnOf iss.mb.val with | some x => x.rolled = true | none => True) →
    (s.hst.txns.filter (fun x => x.mb != iss.mb.val)).length < 4 →
    exec (.cfgBegin iss) s = .next ((((s.closeTxn iss.mb.val).unroll iss.mb.val).withHst fun h =>
      { h with txns := h.txns ++ [⟨iss.mb.val, iss.tag, false, [], none⟩] }).complete iss Status.ok [])) ∧
  (∀ (iss : Issuer) (lbc : W64) (sites : W32) (x : Txn) (s : State), s.serves iss → s.openTxn iss.mb.val = some x →
    x.rolled = false → x.pending = none →
    exec (.cfgCommit iss 0 lbc sites) s = .next (s.modTxn iss.mb.val fun y => { y with pending := some ⟨iss, 0, s.beat.lbc + 1, sites, false⟩ }) ∧
    (iss.mb ≠ 16 → s.beat.lbc + 800 ≤ lbc.toNat → exec (.cfgCommit iss 1 lbc sites) s =
      .next ((s.modTxn iss.mb.val fun y => { y with pending := some ⟨iss, 1, lbc.toNat, sites, false⟩ }).complete iss Status.deferred [])) ∧
    (sites ≠ 0 → (maskList sites 32).all s.idle = false → exec (.cfgCommit iss 2 lbc sites) s =
      .next ((s.modTxn iss.mb.val fun y => { y with pending := some ⟨iss, 2, s.beat.lbc + 1, sites, false⟩ }).complete iss Status.deferred []))) ∧
  (∀ (iss : Issuer) (mode : Byte) (lbc : W64) (sites : W32) (x : Txn) (s : State), s.serves iss → iss.mb ≠ 16 →
    s.openTxn iss.mb.val = some x → x.rolled = true →
    exec (.cfgCommit iss mode lbc sites) s = .next (s.complete iss Status.rolledBack [])) ∧
  (∀ (iss : Issuer) (x : Txn) (s : State), s.serves iss → s.openTxn iss.mb.val = some x →
    let u := (s.closeTxn iss.mb.val).unroll iss.mb.val
    exec (.cfgRollback iss) s = .next ((match x.pending with | some c => u.complete c.iss Status.rolledBack [] | none => u).complete iss
      Status.ok [shadowSize x.entries])) ∧
  ∀ (iss : Issuer) (s : State), s.serves iss → s.openTxn iss.mb.val = none →
    exec (.cfgRollback iss) s = .next (s.complete iss Status.wrongState [])) ∧
  (
  (∀ (mb : Fin 17) (x : Txn) (c : Commit) (s : State), s.running = true →
    let u := s.upToCommits
    let w := u.writeAll x.entries
    let v := (State.settleAll u x.entries w).closeTxn mb.val
    let b := u.beat.lbc
    u.dueCommit mb.val = some (x, c) → (∀ m < mb.val, u.dueCommit m = none) →
    (c.profile = false →
      (lowest (commitChecks u w x.entries) = none →
        exec (.cfgApply mb) s = .next (v.endCommit c Status.ok [b % 2 ^ 32, b / 2 ^ 32 % 2 ^ 32, shadowSize x.entries]).exchangeOnce) ∧
      (∀ st : Nat, lowest (commitChecks u w x.entries) = some st →
        exec (.cfgApply mb) s = .next ((u.modTxn mb.val fun y => { y with pending := none }).endCommit c st []).exchangeOnce)) ∧
    (c.profile = true →
      let idle := (!((List.range 32).all u.idle), Status.wrongState)
      (lowest (idle :: commitChecks u w x.entries) = none →
        exec (.cfgApply mb) s = .next ((v.putField HST_STATE_PROFILE 0 (c.mode - 8)).endCommit c Status.ok
          [b % 2 ^ 32, b / 2 ^ 32 % 2 ^ 32]).exchangeOnce) ∧
      (∀ st : Nat, lowest (idle :: commitChecks u w x.entries) = some st →
        exec (.cfgApply mb) s = .next ((u.closeTxn mb.val).endCommit c st []).exchangeOnce))) ∧
  ∀ (iss : Issuer) (p : Byte) (s : State), s.serves iss → p.toNat ≤ 3 → (∀ n < 32, s.idle n = true) → s.hst.txns = [] →
    s.profileEmpty p.toNat = false → s.profileNeed p.toNat ≤ s.backed →
    exec (.sysProfileSelect iss p) s = .next (s.withHst fun h => { h with
      txns := [⟨iss.mb.val, iss.tag, false, s.profileWrites p.toNat, some ⟨iss, 8 + p.toNat, s.beat.lbc + 1, 0, false⟩⟩] }))

/-- In RUN, a doorbell write (its low 12 bits) to a mailbox that is not closed raises the doorbell event; then an SQ_TAIL
below the entry count that keeps the ring at most one short of full, and a CQ_HEAD below the entry count, are taken,
in ERROR too; any other value puts the mailbox in ERROR and raises fault 0x0A04 with its cause; at a CLOSED mailbox
nothing happens but the fault. MSIX_COALESCE_TIMEOUT of a mailbox with unsignalled entries whose oldest is as old as
the coalescing time clears their count and owes the mailbox's vector a message. MSIX_SEND of a vector that is owed one
or has one pending (after the events of the beat are exchanged), with the link up, MSI-X enabled and the function in
D0 (log entries 7 and 57): where neither the vector nor the function is masked, the vector's data is written to host
memory at its address and the debt and the pending bit are cleared; where one is, the pending bit is set. (Rests on
R47; R48; R54; R36; R55; R450; 02_sesame.md; 18_husk.md.) -/
def Obligations.DoorbellsAndMessagesAct : Prop :=
  (
  ∀ (mb : Fin 16) (v : W32) (s : State), s.running = true →
    let m := mb.val
    let b := s.box m
    let n := 2 ^ b.sqLog
    let k := v.toNat % 4096
    let u := s.event (1104 + 2 * m)
    let queued := (b.sqTail + n - b.sqHead) % n + (k + n - b.sqTail) % n
    let wrong (cause : Nat) : State := (u.setBox m { b with st := 2 }).fault 10 0 0x0A04 (cause * 16 + m) 0
    (b.st ≠ 0 →
      (k < n → queued < n → exec (.sqTailWrite mb v) s = .next (u.setBox m { b with sqTail := k })) ∧
      (n ≤ k → exec (.sqTailWrite mb v) s = .next (wrong 0)) ∧
      (k < n → n ≤ queued → exec (.sqTailWrite mb v) s = .next (wrong 1)) ∧
      (k < 2 ^ b.cqLog → exec (.cqHeadWrite mb v) s = .next (u.setBox m { b with cqHead := k })) ∧
      (2 ^ b.cqLog ≤ k → exec (.cqHeadWrite mb v) s = .next (wrong 0))) ∧
    (b.st = 0 → exec (.sqTailWrite mb v) s = .next (s.fault 10 0 0x0A04 (32 + m) 0) ∧
      exec (.cqHeadWrite mb v) s = .next (s.fault 10 0 0x0A04 (32 + m) 0))) ∧
  (
  (∀ (mb : Fin 16) (s : State), s.running = true → (s.box mb.val).fresh ≠ 0 →
    (s.box mb.val).oldest + (s.box mb.val).time ≤ s.beat.lbc →
    exec (.msixCoalesceTimeout mb) s = .next ((s.setBox mb.val { s.box mb.val with fresh := 0 }).signal (s.box mb.val).vector)) ∧
  ∀ (v : Fin 64) (s : State), s.running = true →
    let e := s.exchange
    let bit : W64 := BitVec.ofNat 64 (2 ^ v.val)
    let masked := e.hst.config.msixMask = true ∨ (e.msixWord (4 * v.val + 3)).getLsbD 0 = true
    e.hst.msixOwed.getLsbD v.val = true ∨ e.hst.msixPend.getLsbD v.val = true → e.hst.link.isSome = true →
    e.hst.config.msixEnable = true → e.hst.config.d3hot = false →
    (¬masked → exec (.msixSend v) s =
      .next ((e.withHst fun h => { h with msixOwed := h.msixOwed &&& ~~~bit, msixPend := h.msixPend &&& ~~~bit }).setHost
        (join64 (e.msixWord (4 * v.val)) (e.msixWord (4 * v.val + 1))).toNat (leBytes 4 (e.msixWord (4 * v.val + 2)).toNat))) ∧
    (masked → exec (.msixSend v) s =
      .next (e.withHst fun h => { h with msixOwed := h.msixOwed &&& ~~~bit, msixPend := h.msixPend ||| bit })))

/-- Nothing starts where a descriptor or a version 1 command has been started in this beat. DESCRIPTOR_START for the
mailbox whose turn it is, with no command waiting in the version 1 mailbox, advances SQ_HEAD by one round its ring,
notes the mailbox as served last in this beat, and then does exactly what the command does that the 64 bytes at
SQ_HEAD spell, or answers BAD_COMMAND with the descriptor's tag where they spell none; in either case it answers a
next state. Where a version 1 command waits and its mailbox is served, DESCRIPTOR_START does the same with the version
1 words. V1_GO, where version 2 is not in use and the version 1 mailbox is not BUSY, sets BUSY and does the same at
once, or lets the command wait where the mailbox is not served or a start has been made in this beat. (Rests on R49;
R52; R54; R56; R74; R76; R479; 02_sesame.md.) -/
def Obligations.DescriptorsAreServedInTurn : Prop :=
  (∀ (mb : Fin 16) (s : State), s.hst.startedAt = some s.beat.lbc → exec (.descriptorStart mb) s = .next s) ∧
  (∀ (mb : Fin 16) (s : State), s.nextBox = some mb.val → s.v1Due = false → s.hst.startedAt ≠ some s.beat.lbc →
    let b := s.box mb.val
    let l := s.mem (0x4000000000 + b.sqBase * 256 + 64 * b.sqHead) 64
    let u := (s.setBox mb.val { b with sqHead := (b.sqHead + 1) % 2 ^ b.sqLog }).withHst fun h =>
      { h with last := mb.val, startedAt := some s.beat.lbc }
    (∃ t, exec (.descriptorStart mb) s = .next t) ∧
    (∀ c, descriptorOf ⟨mb.val, by omega⟩ l = some c → exec (.descriptorStart mb) s = exec c u) ∧
    (descriptorOf ⟨mb.val, by omega⟩ l = none →
      exec (.descriptorStart mb) s = .next (u.complete ⟨⟨mb.val, by omega⟩, u32 l 4, false, false⟩ Status.badCommand []))) ∧
  (∀ (mb : Fin 16) (s : State), s.v1Due = true → s.hst.startedAt ≠ some s.beat.lbc →
    let u := s.withHst fun h => { h with v1Wait := false, startedAt := some s.beat.lbc }
    (∃ t, exec (.descriptorStart mb) s = .next t) ∧
    (∀ c, descriptorOf 16 s.v1Descriptor = some c → exec (.descriptorStart mb) s = exec c u) ∧
    (descriptorOf 16 s.v1Descriptor = none →
      exec (.descriptorStart mb) s = .next (u.complete ⟨16, u32 s.v1Descriptor 4, false, false⟩ Status.badCommand []))) ∧
  ∀ s : State, s.running = true → s.fieldOf HST_STATE_SESAME 0 ≠ 2 → (s.v1Word 8).getLsbD 1 = false →
    let w := s.setV1 8 (s.v1Word 8 ||| 2)
    let u := w.withHst fun h => { h with v1Wait := false, startedAt := some s.beat.lbc }
    (w.canTake 16 = true → s.hst.startedAt ≠ some s.beat.lbc →
      (∃ t, exec .v1Go s = .next t) ∧
      (∀ c, descriptorOf 16 s.v1Descriptor = some c → exec .v1Go s = exec c u) ∧
      (descriptorOf 16 s.v1Descriptor = none →
        exec .v1Go s = .next (u.complete ⟨16, u32 s.v1Descriptor 4, false, false⟩ Status.badCommand []))) ∧
    (w.canTake 16 = false ∨ s.hst.startedAt = some s.beat.lbc → exec .v1Go s = .next (w.withHst fun h => { h with v1Wait := true }))

/-- COMPLETION_POST writes the oldest completion held for a mailbox into its ring once it has room, and it leaves the
list. DEFERRED_START marks a waiting command as begun once what it waits for has ended, with the beat at which it is
due: SEQ_UCODE_VERIFY when its clusters' threads are idle, ADC_SELFCAL and ADC_OPENWIRE when their converters are free
and no DEVICE calibration runs, SUP_SELFTEST when its controller is OFF and its site idle and no calibration holds it,
CAL_RUN when its resources are free and no other run goes before it. DEFERRED_COMPLETION of a command whose outcome is
known takes it off the list and posts that outcome. Of one that acts at its end: TMG_TSET_LOAD leaves the timing sets
named as its images, VST_MKTAB_LOAD the marker entries and VST_DIR_WRITE the directory entries named as its bytes, and
no other, but WRONG_STATE and nothing where a running thread locks one; VST_DIR_READ and SYS_SHUTDOWN_LOG_READ write
their copies; VST_SEG_VERIFY, once its class is not deferred, answers the CRC computed and the two checks;
SEQ_UCODE_LOAD leaves every named copy with the image's words, version and CRC, LOADED and not SUSPECT, but SUSPECT,
with ABORTED_FAULT, where a copy reads back wrong; SEQ_UCODE_VERIFY, once due, marks SUSPECT exactly the named copies
with bad parity or CRC and answers them; SEQ_PROG_LOAD gives the program its blocks and fills them with its
instructions, or is WRONG_STATE or NO_RESOURCE; CAP_AQ_READ writes the slot's header and samples; CAL_RESTORE leaves
VALID_T and DIRTY of the sets named; MGT_APPLET_LOAD starts the core with its tables (their place is the model's, log
entry 41), and MGT_APPLET_STOP puts it in RESET without its grant; ADC_STOP waits for its converters to stop. (Rests
on R53; R54; R106; R125; R126; R165; R166; R257; R374; R378; R404; 02_sesame.md.) -/
def Obligations.DeferredCommandsAreAnswered : Prop :=
  (∀ (mb : Fin 17) (before : List Completion) (c : Completion) (after : List Completion) (s : State), s.running = true →
    s.hst.held = before ++ c :: after → (∀ x ∈ before, x.mb ≠ mb.val) → c.mb = mb.val → (s.box mb.val).cqFree ≠ 0 →
    exec (.completionPost mb) s = .next ((s.withHst fun h => { h with held := before ++ after }).writeEntry c)) ∧
  (∀ (i : Nat) (d : Deferred) (facts : RunFacts) (st : Nat) (res : List Nat) (s : State), s.running = true → s.shutDown = false →
    s.hst.deferred[i]? = some d → d.outcome = some (st, res) →
    exec (.deferredCompletion i facts) s = .next ((s.dropDeferred i).finish d st res)) ∧
  (∀ (i : Nat) (d : Deferred) (facts : RunFacts) (s : State), s.running = true → s.shutDown = false → s.hst.deferred[i]? = some d →
    d.outcome = none →
    let u := s.dropDeferred i
    let run := exec (.deferredCompletion i facts) s
    (∀ iss source site first count, d.cmd = .tmgTsetLoad iss source site first count → first.toNat + count.toNat ≤ 256 →
      ∃ t : State, run = .next (t.finish d Status.ok [count.toNat]) ∧ { t with seq := u.seq } = u ∧
        (∀ k < count.toNat, t.tset site.toNat (first.toNat + k) = (splitImages count.toNat d.bytes).getD k []) ∧
        ∀ n k, k < 256 → (n ≠ site.toNat ∨ k < first.toNat ∨ first.toNat + count.toNat ≤ k) → t.tset n k = s.tset n k) ∧
    (∀ iss source site first count, d.cmd = .vstMktabLoad iss source site first count → first.toNat + count.toNat ≤ 256 →
      ∃ t : State, run = .next (t.finish d Status.ok [count.toNat]) ∧ { t with seq := u.seq } = u ∧
        (∀ k < count.toNat, t.mkEntry site.toNat (first.toNat + k) = (splitEntries 16 count.toNat d.bytes).getD k []) ∧
        ∀ n k, k < 256 → (n ≠ site.toNat ∨ k < first.toNat ∨ first.toNat + count.toNat ≤ k) → t.mkEntry n k = s.mkEntry n k) ∧
    (∀ iss source first count, d.cmd = .vstDirWrite iss source first count →
      (∀ n, u.lockedIn first.toNat count.toNat = some n → run = .next (u.finish d Status.wrongState [0, n])) ∧
      (u.lockedIn first.toNat count.toNat = none →
        ∃ t : State, run = .next (t.finish d Status.ok [count.toNat]) ∧ { t with seq := u.seq } = u ∧
          (∀ k < count.toNat, t.dirEntry (first.toNat + k) = (splitEntries 32 count.toNat d.bytes).getD k []) ∧
          ∀ k, (k < first.toNat ∨ first.toNat + count.toNat ≤ k) → t.dirEntry k = s.dirEntry k)) ∧
    (∀ iss dest first count, d.cmd = .vstDirRead iss dest first count →
      run = .next ((u.setMem dest.toNat d.bytes).finish d Status.ok [count.toNat])) ∧
    (∀ iss dest first count, d.cmd = .sysShutdownLogRead iss dest first count →
      ∃ t : State, run = .next (t.finish d Status.ok (u.readLog dest.toNat first.toNat count.toNat).1) ∧ { t with ram := u.ram } = u ∧
        t.ram = (u.readLog dest.toNat first.toNat count.toNat).2.ram) ∧
    (∀ iss seg, d.cmd = .vstSegVerify iss seg →
      let crc := (crc32 (u.crcBytes d.bytes)).toNat
      run = .next (if s.classDeferred 3 then s else u.finish d Status.ok
        [crc, (if crc = entCrc d.bytes then 0 else 1) + (if u.listOk d.bytes then 0 else 2)])) ∧
    (∀ iss source clusters, d.cmd = .seqUcodeLoad iss source clusters →
      let l := d.bytes
      let bad := clusters &&& facts.badCopies
      ∃ t : State, (bad = 0 → run = .next (t.finish d Status.ok [leAt l 8 4, leAt l 0x10 4])) ∧
        (bad ≠ 0 → run = .next (t.finish d Status.abortedFault [])) ∧
        ∀ c < 8, (clusters.getLsbD c = true →
          (∀ a < 16384, t.uword c a = imgWord l a) ∧ t.reg .SEQ_CS_VER c 0 = BitVec.ofNat 32 (leAt l 8 4) ∧
          t.reg .SEQ_CS_CRC c 0 = BitVec.ofNat 32 (leAt l 0x10 4) ∧ t.bitOf SEQ_CS_STAT_LOADED c = true ∧
          t.bitOf SEQ_CS_STAT_SUSPECT c = facts.badCopies.getLsbD c) ∧
          (clusters.getLsbD c = false → (∀ a < 16384, t.uword c a = s.uword c a) ∧ t.reg .SEQ_CS_STAT c 0 = s.reg .SEQ_CS_STAT c 0)) ∧
    (∀ iss clusters, d.cmd = .seqUcodeVerify iss clusters →
      let wrong (c : Nat) : Bool := clusters.getLsbD c && (!(s.badWords c).isEmpty || s.crcDiffers c)
      (d.started = false ∨ s.beat.lbc < d.due → run = .next s) ∧
      (d.started = true → d.due ≤ s.beat.lbc →
        ∃ t : State, run = .next (t.finish d Status.ok [listMask ((List.range 8).filter wrong),
            (((maskList clusters 8).map (fun c => (s.badWords c).length)).foldl (· + ·) 0),
            listMask ((maskList clusters 8).filter s.crcDiffers)]) ∧
          t.seq = s.seq ∧ t.hsk.lines.length = s.hsk.lines.length + ((List.range 8).filter wrong).length ∧
          ∀ c < 8, t.bitOf SEQ_CS_STAT_SUSPECT c = (wrong c || s.bitOf SEQ_CS_STAT_SUSPECT c))) ∧
    (∀ iss source p count, d.cmd = .seqProgLoad iss source p count →
      let k := count.toNat + 1
      let v := u.freeBlockList 6 (u.prog p.toNat).blocks
      (u.progUsed p.toNat = true → run = .next (u.finish d Status.wrongState [])) ∧
      (u.progUsed p.toNat = false → v.mayTake 6 (progBlocks k) = false → run = .next (u.finish d Status.noResource [])) ∧
      (u.progUsed p.toNat = false → v.mayTake 6 (progBlocks k) = true →
        let l := (v.takeBlocks 6 (progBlocks k)).1
        ∃ t : State, run = .next (t.finish d Status.ok [l.length]) ∧ t.prog p.toNat = { count := k, blocks := l } ∧
          (∀ q, q ≠ p.toNat → t.prog q = u.prog q) ∧ t.regs = (v.takeBlocks 6 (progBlocks k)).2.regs ∧
          (s.meas.lost = false → ∀ j < l.length,
            let part := (d.bytes.drop (2048 * j)).take 2048
            t.mem (blockAddr (l.getD j 0)) part.length = part))) ∧
    (∀ iss dest unit slot, d.cmd = .capAqRead iss dest unit slot →
      let c := u.aqSlot unit.toNat slot.toNat
      let base := match c.trig with | some t => t - u.aqPre unit.toNat | none => 0
      (s.classDeferred 0 = true → run = .next s) ∧
      (s.classDeferred 0 = false →
        ∃ img, run = .next ((u.setMem dest.toNat img).finish d Status.ok [img.length]) ∧ img.length = 32 + 4 * c.samples ∧
          leAt img 0 8 = c.lbc % 2 ^ 64 ∧ leAt img 0x10 4 = c.samples % 2 ^ 32 ∧
          ∀ j < c.samples, (img.drop (32 + 4 * j)).take 4 = u.mem (u.aqAddr unit.toNat slot.toNat (base + j)) 4)) ∧
    (∀ iss converters mode, d.cmd = .adcStop iss converters mode →
      run = .next (if ∃ a : Fin 2, (d.data.getD 0 0).testBit a.val = true ∧ (s.adc a.val).stopping = true then s
        else u.finish d Status.ok d.data)) ∧
    (∀ iss sets source, d.cmd = .calRestore iss sets source →
      ∃ t : State, run = .next (t.finish d Status.ok [sets.toNat]) ∧
        ∀ id < 19, (sets.getLsbD id = true →
          t.fieldOf CAL_SET_STAT_VALID_T id = (if source = 0
            then leAt (s.norBytes (slotBase id (s.fieldOf CAL_SET_STAT_SLOT id)) 256) 0x14 1 % 32 else if id = 18 then 1 else 31) ∧
          t.bitOf CAL_SET_STAT_DIRTY id = (source != 0 && s.fieldOf CAL_SET_STAT_SOURCE id == 2)) ∧
          (sets.getLsbD id = false → t.reg .CAL_SET_STAT id 0 = s.reg .CAL_SET_STAT id 0)) ∧
    (∀ iss image core threads engines queues sites quota, d.cmd = .mgtAppletLoad iss image core threads engines queues sites quota →
      core.toNat < 8 → (s.grant core.toNat).count ≠ 0 → s.coreState core.toNat = 0 →
      let k := core.toNat
      let h := u.mem image.toNat 64
      let n := leAt h 0x18 4
      let p := ceilDiv (n + leAt h 0x1C 4) 4096
      let x := u.takePages k (p + tablePages p) [(image.toNat, image.toNat + 64 + n)]
      (x.1 = none → ∃ t : State, run = .next (t.finish d Status.noResource []) ∧ t.grant k = { } ∧ t.regs = s.regs ∧ t.ram = s.ram) ∧
      (∀ a, x.1 = some a → ∃ t : State, run = .next (t.finish d Status.ok d.data) ∧ t.coreState k = 1 ∧ t.grant k = s.grant k ∧
        t.reg64 .MGT_ASID_ROOT k = BitVec.ofNat 64 (a + 4096 * p) ∧
        t.ram = (State.mapPages (a + 4096 * p) p (leAt h 8 8) a (a + 4096 * p + 4096)
          ((x.2.setMem a (u.mem (image.toNat + 64) n ++ List.replicate (leAt h 0x1C 4) 0)).setMem (a + 4096 * p)
            (List.replicate 4096 0))).ram)) ∧
    (∀ iss core, d.cmd = .mgtAppletStop iss core → core.toNat < 8 →
      ∃ t : State, run = .next (t.finish d Status.ok d.data) ∧ t.coreState core.toNat = 0 ∧ t.grant core.toNat = { })) ∧
  ∀ (i : Nat) (d : Deferred) (s : State), s.running = true → s.shutDown = false → s.hst.deferred[i]? = some d → d.started = false →
    d.outcome = none →
    let start (due : Nat) (s : State) : State := s.withHst fun h => { h with
      deferred := h.deferred.modify i (fun d => { d with started := true, due := due }) }
    (∀ iss m, d.cmd = .seqUcodeVerify iss m → (clusterThreads m).all s.idle = true →
      exec (.deferredStart i) s = .next (start (s.beat.lbc + 16384 * (maskList m 8).length) s)) ∧
    (∀ iss m, d.cmd = .adcSelfcal iss m → s.adcsFree (maskList m 2) = true → s.deviceRuns = false →
      exec (.deferredStart i) s = .next (start 0 (s.adcBusy (maskList m 2) selfcalBeats))) ∧
    (∀ iss a inputs c cur settle thr, d.cmd = .adcOpenwire iss a inputs c cur settle thr → s.adcState (c.toNat % 2) = 1 → s.deviceRuns = false →
      exec (.deferredStart i) s = .next (start 0 (s.adcBusy [c.toNat % 2]
        (ceilDiv (openwireClocks (maskList inputs 38) settle.toNat * 8) 5)))) ∧
    (∀ iss c m, d.cmd = .supSelftest iss c m → s.supOwnerIdle (c.toNat % 32) = true → s.supState (c.toNat % 32) = 0 →
      s.supCalibrates (c.toNat % 32) = false →
      exec (.deferredStart i) s = .next (start (s.beat.lbc + 40000 * (maskList m 4).length) s)) ∧
    (∀ iss scope mode set fl inst, d.cmd = .calRun iss scope mode set fl inst → s.calFree scope inst = true → s.mayRun scope = true →
      exec (.deferredStart i) s = .next (start 0 (if scope = 2 then s.adcBusy (maskList inst 2) selfcalBeats else s)))

/-- In RUN, for every path and register that the path maps: LO_WORD_READ of a LO word snaps both halves (TIA_CNT_LO: the
whole statistics block of the channel) for that path and answers the live low half, or by an 8-byte read the whole
live value; a later HI read over that path returns the half snapped, whatever the live value is by then.
READ_CLEAR_READ of a word with read-clear fields answers the live word and clears those bits, and no such word is part
of a snapshot, but of MGT_CQ_STAT, whose OUTSTANDING is the one that the last read of MGT_SPR_POSTED_LO snapped while
REFUSED is live (log entry 98). TOD_NS_READ answers the nanoseconds and snaps seconds, fraction and epoch together.
TIA_CNT_LO_READ over a path of Sesame or a vendor core snaps the channel's eight registers of statistics and answers
CNT's low half, or all of CNT. I2C_READ of word w below 256 reads fast-page offset 4w, and nothing for any other word;
a cycle of TCK moves the TAP alone, in whatever phase the module is; in Capture-DR it takes the level of every ball
with a boundary-scan cell where that register is selected, and else IDCODE or the bypass bit, in Update-DR the cells
take what was shifted in; TRST_N low resets it (log entry 99). A read of a register window's unassigned word by
firmware returns 0. (Rests on R9; R21; R41; R42; R274; R473; 02_sesame.md; 09_tdc.md.) -/
def Obligations.ReadsTakeTheirSnapshots : Prop :=
  (∀ (p : Path) (a : W64) (r : Reg) (s : State), s.running = true → pathReg p a.toNat = some r → takesSnap r = true →
    let u := s.beforeRead r
    let snapped := each (snapWords r) (fun x t => t.setSnap p (regKey x.stem x.inst x.word) (u.view x)) u
    exec (.loWordRead ⟨p, false⟩ a) s = .next ((snapped.clearRead r).answer p ((u.view r).zeroExtend 64)) ∧
    (∃ t, exec (.loWordRead ⟨p, true⟩ a) s = .next t ∧
      t.hst.answers.get (fun _ => 0) (pathKey p) = join64 (u.view r) (u.view ⟨r.stem, r.inst, 1⟩)) ∧
    ∀ x ∈ snapWords r, snapped.snap p (regKey x.stem x.inst x.word) = u.view x ∧
      ∀ v : State, v.hst.snaps = snapped.hst.snaps → fromSnap x = true →
        (v.readReg p x).1 = if x.stem = .MGT_CQ_STAT then (u.view x &&& 0xFFFF) ||| (v.view x &&& 0xFFFF0000) else u.view x) ∧
  (∀ (p : Path) (a : W64) (r : Reg) (s : State), s.running = true → pathReg p a.toNat = some r →
    (r.stem.word r.inst r.word).rc ≠ 0 →
    let u := s.beforeRead r
    let held := u.snap p (regKey r.stem r.inst r.word)
    let v := if r.stem = .MGT_CQ_STAT then (held &&& 0xFFFF) ||| (u.view r &&& 0xFFFF0000) else u.view r
    exec (.readClearRead p a) s = .next ((u.setReg r.stem r.inst r.word
      (u.reg r.stem r.inst r.word &&& ~~~(BitVec.ofNat 32 (r.stem.word r.inst r.word).rc))).answer p (v.zeroExtend 64)) ∧
    takesSnap r = false ∧ (r.stem ≠ .MGT_CQ_STAT → fromSnap r = false)) ∧
  (∀ (p : Path) (s : State), s.running = true →
    exec (.todNsRead p) s = .next ((((s.setSnap p (todKey 0x214) (BitVec.ofNat 32 s.ntu.sec)).setSnap p (todKey 0x218)
      (BitVec.ofNat 32 (fld 31 16 (s.ntu.frac / 65536) + fld 15 0 (s.ntu.sec / 2 ^ 32)))).setSnap p (todKey 0x300)
      (BitVec.ofNat 32 (s.ntu.epoch * 256))).answer p ((BitVec.ofNat 32 s.ntu.ns).zeroExtend 64))) ∧
  (∀ (p : Path) (ch : Fin 128) (wide : Bool) (s : State), s.running = true → (p = .sesame ∨ p = .hazel 0 ∨ p = .hazel 1) →
    ∃ t, exec (.tiaCntLoRead ⟨p, wide⟩ ch) s = .next t ∧
      t.hst.answers.get (fun _ => 0) (pathKey p) =
        (if wide then join64 (s.reg .TIA_CNT ch.val 0) (s.reg .TIA_CNT ch.val 1) else (s.reg .TIA_CNT ch.val 0).zeroExtend 64) ∧
      ∀ st ∈ blockStems, ∀ w < st.info.words, t.snap p (regKey st ch.val w) = s.reg st ch.val w) ∧
  (∀ (w : W16) (s : State), s.running = true →
    exec (.i2cRead (.i2c w)) s = .next (if w.toNat < 256 then (s.readFast .i2c (4 * w.toNat)).2 else s)) ∧
  (∀ (tms tdi : Bool) (s : State), ∃ t, exec (.i2cRead (.tck tms tdi)) s = .next t ∧ t.beat.tap.st = s.beat.tap.st.next tms ∧
    { t with beat := { t.beat with tap := s.beat.tap }, free := s.free } = s ∧
    (s.beat.tap.st = .captureDr → ∀ (i : Nat) (c : ScanCell) (b : Ball) (v : Bool), scanCells[i]? = some c → c.part ≠ .control → c.ball = some b → s.ballLevel b = some v →
      if s.scans = true then t.beat.tap.shift.length = scanCells.length ∧ t.beat.tap.shift[i]? = some v
      else t.beat.tap.shift = if s.beat.tap.ir.all Config.jtagIdcode then (List.range 32).map s.idcode.getLsbD else [false]) ∧
    (s.beat.tap.st = .updateDr → t.beat.tap.cells = if s.scans = true then s.beat.tap.shift else s.beat.tap.cells)) ∧
  (∀ (p : Path) (a : W64) (s : State), s.running = true → unassigned p a.toNat = true →
    exec (.loWordRead ⟨p, false⟩ a) s = .next (s.answer p 0) ∧ exec (.readClearRead p a) s = .next (s.answer p 0)) ∧
  ∀ s : State, exec (.i2cRead .trst) s = .next (s.withBeat fun b => { b with tap := { } })

/-- In RUN: a BAR2 write into the window stores its bytes at window base plus offset, and one into MAILBOX blocks at that
Central Store offset; a read there returns the bytes; above the backed range a write is dropped and a read is answered
with some bytes (their value is free, log entry 69); outside the MAILBOX pool, and in the window while it moves, a
write is dropped and a read returns all ones, with fault 0x0A03. The configuration header holds the device ID, the
class code, the two 64-bit BARs and the pointer to the capability list, whose standard part is power management, PCI
Express and MSI-X (at addresses that log entry 57 names). A Function Level Reset, and PERST_N rising, leaves nothing
agreed, no host words, no transaction but a profile selection already taken, whose completion is discarded, the
version 1 status words 0, the configuration space as at reset (log entry 57), MB0 in its reset layout and MB1 to MB15
CLOSED. PERST_N low takes the link down. The link settling with PERST_N high sets its rate and width, with fault
0x0A02 below 8.0 GT/s or x8. (Rests on R3; R35; R36; R37; R38; R43; R44; R460; R481; 00_scope.md; 02_sesame.md;
19_module.md.) -/
def Obligations.BarAndLinkCommands : Prop :=
  (∀ (o : BitVec 28) (l : List Byte) (s : State), s.running = true →
    let a := s.hst.winBase + (o.toNat - 0x1000000)
    (0x1000000 ≤ o.toNat → s.hst.winMove = none → exec (.bar2Access o (some l) 0) s = .next (if s.inRam a l.length then s.setMem a l else s)) ∧
    (0x1000000 ≤ o.toNat → s.hst.winMove ≠ none →
      exec (.bar2Access o (some l) 0) s = .next (s.fault 10 0 0x0A03 (0x80000000 + o.toNat) 0)) ∧
    (o.toNat < 0x1000000 → s.inMailbox o.toNat l.length = true →
      exec (.bar2Access o (some l) 0) s = .next (s.setMem (0x4000000000 + o.toNat) l)) ∧
    (o.toNat < 0x1000000 → s.inMailbox o.toNat l.length = false →
      exec (.bar2Access o (some l) 0) s = .next (s.fault 10 0 0x0A03 o.toNat 0))) ∧
  (∀ (o : BitVec 28) (n : Nat) (s : State), s.running = true →
    let a := s.hst.winBase + (o.toNat - 0x1000000)
    let ones := s.withHst fun h => { h with bar2Read := List.replicate n 0xFF }
    (0x1000000 ≤ o.toNat → s.hst.winMove = none → s.inRam a n = true → exec (.bar2Access o none n) s =
      .next (s.withHst fun h => { h with bar2Read := s.mem a n })) ∧
    (0x1000000 ≤ o.toNat → s.hst.winMove = none → s.inRam a n = false → ∃ t, exec (.bar2Access o none n) s = .next t ∧
      t.ram = s.ram ∧ t.regs = s.regs ∧ t.hsk = s.hsk ∧ t.hst = { s.hst with bar2Read := t.hst.bar2Read }) ∧
    (0x1000000 ≤ o.toNat → s.hst.winMove ≠ none →
      exec (.bar2Access o none n) s = .next (ones.fault 10 0 0x0A03 (0x80000000 + o.toNat) 0)) ∧
    (o.toNat < 0x1000000 → s.inMailbox o.toNat n = true →
      exec (.bar2Access o none n) s = .next (s.withHst fun h => { h with bar2Read := s.mem (0x4000000000 + o.toNat) n })) ∧
    (o.toNat < 0x1000000 → s.inMailbox o.toNat n = false →
      exec (.bar2Access o none n) s = .next (ones.fault 10 0 0x0A03 o.toNat 0))) ∧
  (∀ s : State, (s.configWord 0).toNat / 2 ^ 16 = 0x8128 ∧ (s.configWord 8).toNat / 2 ^ 8 = 0x118000 ∧
    (s.configWord 0x10).toNat % 2 ^ 16 = 4 ∧ (s.configWord 0x18).toNat % 2 ^ 28 = 0xC ∧
    s.configWord 0x20 = 0 ∧ s.configWord 0x24 = 0 ∧ (s.configWord 0x04).getLsbD 20 = true ∧ s.configWord 0x34 = 0x40 ∧
    (s.configWord 0x40).toNat % 2 ^ 16 = 0x5001 ∧ (s.configWord 0x50).toNat % 2 ^ 16 = 0x9010 ∧ (s.configWord 0x90).toNat % 2 ^ 16 = 0x11) ∧
  (∀ s : State, s.running = true → ∀ c ∈ [Instr.functionLevelReset, Instr.perstNRise],
    ∃ t, exec c s = .next t ∧ t.agreed = false ∧ t.hst.hello = none ∧ t.hst.config = { } ∧
      (∀ x ∈ t.hst.txns, ∃ k, x.pending = some k ∧ k.profile = true ∧ k.muted = true) ∧ t.box 0 = Mailbox.reset 0 ∧
      (∀ m : Fin 16, m ≠ 0 → (t.box m.val).st = 0) ∧ (∀ i ∈ [4, 5, 6, 7, 8], t.v1Word i = 0) ∧ t.beat = s.beat ∧ (c = .perstNRise → t.hst.perst = true)) ∧
  (∀ s : State, exec .perstNAssert s = .next (s.withHst fun h => { h with perst := false, link := none })) ∧
  ∀ (rate : Fin 5) (lanes : Nat) (s : State), s.running = true → s.hst.perst = true → lanes ∈ [1, 2, 4, 8] →
    let u := s.withHst fun h => { h with link := some (rate.val, lanes) }
    exec (.pcieLinkSettle rate lanes) s = .next (if rate.val < 2 ∨ lanes < 8 then u.fault 10 0 0x0A02 (lanes * 256 + rate.val) 0 else u)

/-- A PORST_N fall, and the power monitor for either rail, leave the beat generator held with LBC 0, every register but
the ordering code and FW_STATE at its reset value, nothing in GDDR6 and the Central Store listed (their contents are
undefined, log entry 3), no fault, mailbox, burst, port, measuring, Hazel or calibration state, while what lies
outside stays: the non-volatile store with its abandoned erases, host memory, the levels at the GPIO pins, the TI
inputs, PERST_N, the TAP, the queue, and a thermal shutdown with the access of the store that it completes; the ports
draw new session numbers (log entry 93). A fall of VDD_IO also ends the shutdown. PORST_N rising on a held module
samples the PROF balls and enters REF_WAIT. In RUN and BOOT with no shutdown: before an image is chosen BOOT_ROM_LOAD
starts the valid slot with the higher SEQ and shows its version, or, where neither is valid, HST_FW_VERSION reads
0xFFFF_FFFF and nothing is started; with an image started, the sensors converted once, no firmware core TRAPPED, no
request of an applet waiting and the boot not done yet, FIRMWARE_BOOT does the boot steps, erases the blocks of the
shutdown log that are neither erased nor hold a valid record, and leaves FW_STATE READY; before the first conversion
it changes nothing. FIRMWARE_RESTART is stated with the cores (HazelCoresRunAndStop). (Rests on R16; R431; R456; R459;
R39; R462; R463; 01_beat.md; 19_module.md; 17_thermal.md.) -/
def Obligations.ResetsAndBootLeaveTheirState : Prop :=
  (
  (∀ (c : Instr) (s : State), (c = .porstNFall ∨ ∃ r, c = .powerMonitorReset r) →
    ∃ t, exec c s = .next t ∧ t.beat = { gpio := s.beat.gpio.map (fun g => { pin := g.pin }), tap := s.beat.tap } ∧ (∀ st i w, st ≠ .HST_ID → st ≠ .HST_STATE → t.reg st i w = regReset (regKey st i w)) ∧
      t.reg .HST_ID 0 0 = s.reg .HST_ID 0 0 ∧ t.ram = [] ∧ t.hsk = { } ∧ t.hst = { perst := s.hst.perst } ∧ t.cst = { } ∧ t.ntu = { } ∧
      t.seq = { } ∧ t.klk = { seed := s.free } ∧ t.meas = { } ∧ t.mgt = { } ∧ t.nor = s.nor ∧ t.hostMem = s.hostMem ∧ t.cap = { ti := s.cap.ti } ∧
      t.pending = s.pending ∧
      (c ≠ .powerMonitorReset .vddIo → t.thm = { latch := s.thm.latch, shutdown := s.thm.shutdown } ∧
        t.cal = { abandoned := s.cal.abandoned, store := if s.thm.shutdown.isSome then s.cal.store else none }) ∧
      (c = .powerMonitorReset .vddIo → t.thm = { } ∧ t.cal = { abandoned := s.cal.abandoned })) ∧
  ∀ (prof : BitVec 2) (s : State), s.beat.phase = .held →
    ∃ t, exec (.porstNRise prof) s = .next t ∧ t.beat = { s.beat with phase := .refWait } ∧
      t.fieldOf HST_STATE_PROF_BALLS 0 = prof.toNat ∧ ∀ st i w, st ≠ .HST_STATE → t.reg st i w = s.reg st i w) ∧
  (
  (∀ s : State, s.booting false = true →
    (∀ k, s.bootSlot = some k → ∃ t, exec .bootRomLoad s = .next t ∧ t.beat = { s.beat with image := some k } ∧
      t.reg .HST_FW_VERSION 0 0 = BitVec.ofNat 32 (leAt (s.norBytes (imageSlot k) 256) 8 4)) ∧
    (s.bootSlot = none → ∃ t, exec .bootRomLoad s = .next t ∧ t.beat = { s.beat with noImage := true } ∧
      t.reg .HST_FW_VERSION 0 0 = 0xFFFFFFFF)) ∧
  (∀ (g : W32) (bad : BitVec 19) (a b : AdcFactors) (s : State), s.booting true = true →
    (s.beat.booted = false → s.mgt.requests = [] → s.converted = true → s.coreState 0 ≠ 2 → s.coreState 1 ≠ 2 →
      ∃ t, exec (.firmwareBoot g bad a b) s = .next t ∧ t.ready = true ∧ t.beat = { s.beat with booted := true } ∧
        t.nor = (each s.logUnsound (fun b u => u.eraseNor b (b + 0x10000)) s).nor) ∧
    (s.converted = false → exec (.firmwareBoot g bad a b) s = .next s)))

/-- A passing REFCLK window in REF_WAIT enters BEAT_LOCK and a failing one in BEAT_LOCK returns to REF_WAIT, REF_OK
showing the window's result; the lock in BEAT_LOCK enters RUN with LBC 0, sets BEAT_LOCK and, no thermal shutdown
being under way, starts HC0 and HC1; the lock timeout returns to REF_WAIT. In RUN, a REFCLK loss outside holdover sets
HOLDOVER and REF_LOSS and raises the C3 fault 0x0B01; after a window has passed again (REF_WINDOW in RUN), the relock
clears HOLDOVER. (That BEAT_LOCK is clear in between is deduced, log entry 62.) In RUN: a pod's lock sets its POD_LOCK
bit and no other; at 800,000 beats or later, once, the timeout raises C2 fault 0x0001, presented in that beat, with an
empty site mask for every pod not locked, in ascending order; a locked pod's loss clears its bit, and the C2 fault
0x0002 names the pod and every site with a channel in it. In RUN a BEAT_BOUNDARY answers the state in which the beat
that ends has done what it still does and the new one begins: the LBC is one more; ToD, in units of 2^-32 ns and
within its 48-bit seconds, has advanced by NTU_INC plus the term of a running slew; a written NTU_INC and a written
HSK_INJECT that waited for the boundary are in their registers and wait no longer, no commit being pending. What R23
puts above new requests (faults, aborts, quiet states, starts, thread changes, due commits, a throttle tick) is done
last in it, before any request of the new beat is taken (log entry 11). (Rests on R16; R18; R20; R17; R19; R482; R22;
R215; R355; R445; 01_beat.md; 14_time.md.) -/
def Obligations.BeatGeneratorPodsAndBoundary : Prop :=
  (
  (∀ (n : Nat) (s : State), s.beat.phase ≠ .held →
    let u := s.putBit NTU_BEAT_STAT_REF_OK 0 (windowPasses n)
    (s.beat.phase = .refWait → windowPasses n = true → exec (.refWindow n) s = .next (u.withBeat fun b => { b with phase := .beatLock })) ∧
    (s.beat.phase = .beatLock → windowPasses n = false → exec (.refWindow n) s = .next (u.withBeat fun b => { b with phase := .refWait })) ∧
    (s.beat.phase = .run → windowPasses n = true → exec (.refWindow n) s = .next (u.withBeat fun b => { b with regained := true }))) ∧
  (∀ n : Nat, windowPasses n = true ↔ 995 * 1000 ≤ n ∧ n ≤ 1005 * 1000) ∧
  (∀ s : State, s.beat.phase = .beatLock →
    (∃ t, exec .beatPllLock s = .next t ∧ t.beat.phase = .run ∧ t.beat.lbc = 0 ∧ t.bitOf NTU_BEAT_STAT_BEAT_LOCK 0 = true ∧
      (s.shutDown = false → t.coreState 0 = 1 ∧ t.coreState 1 = 1)) ∧
    exec .beatLockTimeout s = .next (s.withBeat fun b => { b with phase := .refWait })) ∧
  ∀ s : State, s.running = true →
    (s.bitOf NTU_BEAT_STAT_HOLDOVER 0 = false →
      ∃ t, exec .refclkLoss s = .next t ∧ t.bitOf NTU_BEAT_STAT_HOLDOVER 0 = true ∧ t.bitOf NTU_BEAT_STAT_REF_LOSS 0 = true ∧
        t.bitOf NTU_BEAT_STAT_BEAT_LOCK 0 = false ∧ t.hsk.lines = s.hsk.lines ++ [s.faultLine 11 3 0x0B01 0 0] ∧ t.beat.phase = .run ∧ t.beat.regained = false) ∧
    (s.beat.regained = true →
      ∃ t, exec .holdoverRelock s = .next t ∧ t.bitOf NTU_BEAT_STAT_HOLDOVER 0 = false ∧
        t.bitOf NTU_BEAT_STAT_BEAT_LOCK 0 = true ∧ t.beat = s.beat)) ∧
  (
  (∀ (k : Fin 16) (s : State), s.running = true →
    ∃ t, exec (.podPllLock k) s = .next t ∧ t.podLocked k.val = true ∧ ∀ j : Fin 16, j ≠ k → t.podLocked j.val = s.podLocked j.val) ∧
  (∀ s : State, s.running = true → s.beat.podsJudged = false → 800000 ≤ s.beat.lbc →
    ∃ t, exec .podLockTimeout s = .next t ∧ t.beat.podsJudged = true ∧
      t.hsk.lines = s.hsk.lines ++ ((List.range 16).filter (fun k => !(s.podLocked k))).map (fun k =>
        (s.beat.lbc, ⟨0, 2, 0x0001, k, 0, false, none⟩))) ∧
  ∀ (k : Fin 16) (s : State), s.running = true → s.podLocked k.val = true →
    ∃ t, exec (.podPllUnlock k) s = .next t ∧ t.podLocked k.val = false ∧
      t.hsk.lines = s.hsk.lines ++ [s.faultLine 0 2 0x0002 k.val (BitVec.ofNat 32 (listMask (s.podSites k.val)))]) ∧
  (
  ∀ s : State, s.running = true → ((s.tod : Int) + s.inc + slewNow s.ntu.slew).toNat < 2 ^ 48 * (1000000000 * 2 ^ 32) →
    ∃ t, exec .beatBoundary s = .next t ∧ t = s.endBeat.beginBeat ∧ t.beat.lbc = s.beat.lbc + 1 ∧
      t.tod = ((s.tod : Int) + s.inc + slewNow s.ntu.slew).toNat ∧ (∃ u : State, t = u.upToRequests ∧ u.beat.lbc = s.beat.lbc + 1) ∧
      ((∀ x ∈ s.hst.txns, x.pending = none) → t.ntu.slew = s.ntu.slew - slewNow s.ntu.slew ∧
        (∀ v, s.ntu.inc = some v → t.reg64 .NTU_INC 0 = v ∧ t.ntu.inc = none) ∧
        (∀ v, s.hsk.inject = some v → t.reg .HSK_INJECT 0 0 = v ∧ t.hsk.inject = none)))

/-- NTU_TOD_READ answers the six words of the present ToD, LBC and epoch. NTU_TOD_STEP with mode 0 or 1, an application
beat of 0 or at least 800 beats ahead and, absolute, seconds below 2^48 and nanoseconds below 10^9, with no slew or
step pending and the vendor servo not owning ToD, is accepted for that beat. TOD_STEP_APPLY of the first step that is
due: within 1 us it starts a slew and leaves ToD and epoch; beyond 1 us ToD takes the new value where that lies in its
range, the epoch goes on by one modulo 256, no alarm stays armed by time, and NTU raises the C0 fault 0x0B04; with
none due it takes the servo's step, or does nothing. A LO half written to NTU_INC is held for its writer; a HI half
makes the value that the next boundary takes; outside the range of R356 it is ignored, with the fault 0x0B02 where
firmware or an applet wrote it; an 8-byte write is a LO and then a HI write. While the vendor servo owns NTU_INC a
write of the host changes nothing. (Rests on R41; R355; R356; R357; R358; R359; R368; 14_time.md.) -/
def Obligations.TimeIsReadSetAndStepped : Prop :=
  (∀ (iss : Issuer) (s : State), s.serves iss → exec (.ntuTodRead iss) s = .next (s.complete iss Status.ok
    [s.ntu.ns, s.ntu.sec % 2 ^ 32, s.ntu.frac / 2 ^ 16 * 2 ^ 16 + s.ntu.sec / 2 ^ 32 % 2 ^ 16, s.beat.lbc % 2 ^ 32,
     s.beat.lbc / 2 ^ 32 % 2 ^ 32, s.ntu.epoch + (if s.bitOf NTU_SERVO_STAT_SLEWING 0 then 256 else 0)])) ∧
  (∀ (iss : Issuer) (mode : Byte) (lbc value : W64) (nanos : W32) (s : State), s.serves iss → iss.mb ≠ 16 → mode.toNat ≤ 1 →
    (lbc = 0 ∨ s.beat.lbc + 800 ≤ lbc.toNat) → (mode = 1 → value.toNat < 2 ^ 48 ∧ nanos.toNat < 1000000000) →
    s.servoOwns = false → s.ntu.slew = 0 → s.stepPending = false →
    exec (.ntuTodStep iss mode lbc value nanos) s = .next (s.defer iss (.ntuTodStep iss mode lbc value nanos)
      (if lbc = 0 then s.beat.lbc + 1 else lbc.toNat) [])) ∧
  (∀ (i : Nat) (d : Deferred) (iss : Issuer) (mode : Byte) (lbc value : W64) (nanos : W32) (s : State), s.running = true →
    s.hst.deferred[i]? = some d → d.cmd = .ntuTodStep iss mode lbc value nanos → d.outcome = none → d.due ≤ s.beat.lbc →
    (∀ e ∈ s.hst.deferred.take i, ∀ a b c f g, e.cmd = .ntuTodStep a b c f g → e.outcome ≠ none ∨ s.beat.lbc < e.due) →
    let delta := s.stepDelta mode value nanos
    (delta.natAbs ≤ 1000 * 2 ^ 32 → ∃ t, exec .todStepApply s = .next t ∧
      t.ntu.slew = delta ∧ t.tod = s.tod ∧ t.ntu.epoch = s.ntu.epoch ∧ t.bitOf NTU_SERVO_STAT_SLEWING 0 = decide (delta ≠ 0) ∧
      ∃ e, t.hst.deferred[i]? = some e ∧ e.outcome = some (Status.ok, [d.due % 2 ^ 32, d.due / 2 ^ 32, 1, s.ntu.epoch])) ∧
    (1000 * 2 ^ 32 < delta.natAbs → ∃ t, exec .todStepApply s = .next t ∧
      (0 ≤ s.tod + delta → (s.tod + delta).toNat < 2 ^ 48 * (1000000000 * 2 ^ 32) → t.tod = (s.tod + delta).toNat) ∧
      t.ntu.epoch = (s.ntu.epoch + 1) % 256 ∧ (∀ a : Fin 32, t.fieldOf NTU_ALM_STAT_STATE a.val ≠ 1) ∧
      t.hsk.lines.getLast? = some (s.faultLine 11 0 0x0B04 t.ntu.epoch 0) ∧
      ∃ e, t.hst.deferred[i]? = some e ∧ e.outcome = some (Status.ok, [d.due % 2 ^ 32, d.due / 2 ^ 32, 0, t.ntu.epoch]))) ∧
  (∀ s : State, s.running = true →
    (∀ e ∈ s.hst.deferred, ∀ a b c f g, e.cmd = .ntuTodStep a b c f g → e.outcome ≠ none ∨ s.beat.lbc < e.due) →
    exec .todStepApply s = .next (match s.ntu.servoStep with
      | some o => (s.withNtu fun n => { n with servoStep := none }).correctTod (o * 65536) true
      | none => s)) ∧
  (∀ (high : Bool) (w : Written) (s : State), s.running = true → s.servoOwns = true → exec (.ntuIncWrite .host high w) s = .next s) ∧
  ∀ (who : Writer) (v : W32) (s : State), s.running = true → (who = .host → s.servoOwns = false) →
    let held := s.holdLo (writerKey who) .NTU_INC 0 v
    let taken (x : W64) (u : State) : State := if 0x13FAE147B ≤ x.toNat ∧ x.toNat ≤ 0x14051EB85
      then u.withNtu fun n => { n with inc := some x } else if who = .host then u else u.fault 11 0 0x0B02 (lo32 x).toNat 0
    exec (.ntuIncWrite who false ⟨v, none⟩) s = .next held ∧
    exec (.ntuIncWrite who true ⟨v, none⟩) s = .next (taken (join64 (s.heldOf (writerKey who) .NTU_INC 0) v) s) ∧
    ∀ (high : Bool) (h : W32), exec (.ntuIncWrite who high ⟨v, some h⟩) s = .next (taken (join64 v h) held)

/-- NTU_ALM_ARM of an alarm 0 to 31 that is not armed, for a time after the present ToD, with valid fields and a period of
0 or at least 1,000 ns, arms it (state 1 by time, 2 beat-anchored, with the beat of R359 and the period in beats) and
is deferred. ALARM_FIRE of an alarm that is due sets its event's pending bit, counts one more firing in the present
beat, has a TRIG frame wait for the boundary where it carries one, disarms a one-shot and moves a periodic one on by
its period. NTU_ALM_DISARM of a non-empty mask, none of the named alarms being due in this beat, ends the arming of
those that are armed and answers their mask. (Rests on R359; R361; R362; 14_time.md.) -/
def Obligations.AlarmsArmFireAndDisarm : Prop :=
  (∀ (iss : Issuer) (alarm flags line number : Byte) (sec : W64) (ns period : W32) (s : State), s.serves iss → iss.mb ≠ 16 →
    alarm.toNat < 32 → flags.toNat < 8 → line.toNat < 64 → sec.toNat < 2 ^ 48 → ns.toNat < 1000000000 →
    (period = 0 ∨ 1000 ≤ period.toNat) → s.tod < (sec.toNat * 1000000000 + ns.toNat) * 2 ^ 32 →
    s.fieldOf NTU_ALM_STAT_STATE alarm.toNat = 0 →
    let cmd := Instr.ntuAlmArm iss alarm flags line number sec ns period
    let a (next p : Nat) : Alarm := { next := next, period := p, im := if flags.getLsbD 1 then some line.toNat else none,
                                      trig := if flags.getLsbD 2 then some number.toNat else none }
    let armed (x : Alarm) (st : Nat) : State := ((s.modAlarm alarm.toNat fun _ => x).putField NTU_ALM_STAT_STATE alarm.toNat st).putBit
      NTU_ALM_STAT_CANCELLED alarm.toNat false
    (flags.getLsbD 0 = false →
      exec cmd s = .next ((armed (a (sec.toNat * 1000000000 + ns.toNat) period.toNat) 1).defer iss cmd 0 [])) ∧
    (flags.getLsbD 0 = true → exec cmd s = .next ((armed (a (s.lbcOf ((sec.toNat * 1000000000 + ns.toNat) * 2 ^ 32))
      (roundDiv (period.toNat * 2 ^ 32) s.inc).toNat) 2).defer iss cmd 0 []))) ∧
  (∀ (i : Fin 32) (s : State), s.running = true → s.alarmDue i.val = true →
    ∃ t, exec (.alarmFire i) s = .next t ∧ (t.reg .HSK_EVT_PEND ((1072 + i.val) / 32)).getLsbD ((1072 + i.val) % 32) = true ∧
      (t.alarm i.val).fired = (s.alarm i.val).fired + 1 ∧ (t.alarm i.val).last = s.beat.lbc ∧
      t.ntu.trigs = s.ntu.trigs ++ (s.alarm i.val).trig.toList ∧
      ((s.alarm i.val).period = 0 → t.fieldOf NTU_ALM_STAT_STATE i.val = 0) ∧
      ((s.alarm i.val).period ≠ 0 → t.fieldOf NTU_ALM_STAT_STATE i.val = s.fieldOf NTU_ALM_STAT_STATE i.val ∧
        (t.alarm i.val).next = (s.alarm i.val).next + (s.alarm i.val).period)) ∧
  ∀ (iss : Issuer) (m : W32) (s : State), s.serves iss → m ≠ 0 → (∀ i ∈ maskList m 32, s.alarmDue i = false) →
    let armed := (maskList m 32).filter (fun i => s.fieldOf NTU_ALM_STAT_STATE i != 0)
    exec (.ntuAlmDisarm iss m) s = .next ((each armed (fun i => State.alarmOver i Status.ok 1) s).complete iss Status.ok [listMask armed])

/-- NTU_TX_TIMED of a frame whose shape fits its port, whose launch time is at most 1 s ahead and not before any queued in
its queue, with room and the link up, takes its bytes and waits, LATE where its time has passed. TIMED_FRAME_LAUNCH
launches the oldest frame of a queue once the next beat's ToD exceeds its time, no frame of the port has an earlier
one, and not to KelorLink in FAULT_STOP; else it leaves it queued. ETHERNET_LINK_DOWN takes the link down and returns
its queued frames with WRONG_STATE; ETHERNET_LINK_UP takes it up and ends a PRBS test of its lane. (Rests on R363;
R364; R365; 14_time.md.) -/
def Obligations.TimedFramesWaitAndLaunch : Prop :=
  (∀ (iss : Issuer) (a : W64) (n : W16) (p q : Byte) (sec : W64) (ns : W32) (s : State), s.serves iss → iss.mb ≠ 16 →
    let img := s.mem a.toNat n.toNat
    let t := sec.toNat * 1000000000 + ns.toNat
    a.toNat % 8 = 0 → inStore a.toNat n.toNat = true → p.toNat ≤ 9 → q.toNat ≤ 7 → sec.toNat < 2 ^ 48 → ns.toNat < 1000000000 →
    (p.toNat < 8 → 8 ≤ n.toNat ∧ (leAt img 0 1 % 16 = 5 ∨ leAt img 0 1 % 16 = 6) ∧ leAt img 0 2 / 16 % 64 ≤ 32 ∧
      n.toNat = 8 + 8 * (leAt img 0 2 / 16 % 64)) →
    (8 ≤ p.toNat → 64 ≤ n.toNat ∧ n.toNat ≤ 1518) → (∀ x ∈ s.timedQueue p.toNat q.toNat, x ≤ t) →
    t * 2 ^ 32 ≤ s.tod + 1000000000 * 2 ^ 32 → (s.timedQueue p.toNat q.toNat).length < 64 → s.timedLink p.toNat = true →
    exec (.ntuTxTimed iss a n p q sec ns) s = .next (s.defer iss (.ntuTxTimed iss a n p q sec ns) 0
      ((if t * 2 ^ 32 < s.tod then 1 else 0) :: img.map BitVec.toNat))) ∧
  (∀ (p : Fin 10) (q : Fin 8) (before : List Deferred) (d : Deferred) (after : List Deferred) (x : Nat) (s : State), s.running = true →
    s.hst.deferred = before ++ d :: after → (∀ e ∈ before, ∀ y, e.timed ≠ some (p.val, q.val, y)) → d.timed = some (p.val, q.val, x) →
    exec (.timedFrameLaunch p q) s = .next (if x * 2 ^ 32 < s.nextTod ∧ s.earlierTimed p.val x = false ∧ ¬ (s.faultStop = true ∧ p.val < 8)
      then s.launch p.val before.length d else s)) ∧
  ∀ (e : Fin 2) (s : State), s.running = true →
    (∃ t, exec (.ethernetLinkDown e) s = .next t ∧ t.ntu.eth = s.ntu.eth.set e.val false ∧
      t.hst.deferred.length = s.hst.deferred.length ∧ (∀ q : Fin 8, t.timedQueue (8 + e.val) q.val = []) ∧
      ∀ (i : Nat) (d : Deferred) (q x : Nat), s.hst.deferred[i]? = some d → d.timed = some (8 + e.val, q, x) →
        ∃ f : Deferred, t.hst.deferred[i]? = some f ∧ f.outcome = some (Status.wrongState, [])) ∧
    exec (.ethernetLinkUp e) s = .next ((s.withNtu fun n => { n with eth := n.eth.set e.val true }).endTest [40 + e.val])

/-- In RUN: TIME_RECEIVE takes the oldest TIME arrival of a port, frees its buffers, and hears a SYNC, answers a DREQ with
a DRESP that carries the receive time of the lane its header crossed (in FAULT_STOP it does not), or takes the
exchange of a DRESP; without a TIME arrival nothing changes. Outside FAULT_STOP, in which neither sends, DREQ_SEND of
a follower's ACTIVE up port with no DREQ outstanding and 50,000 beats after the last queues a DREQ and notes that one
is outstanding; SYNC_SEND of a root's or follower's ACTIVE down port 8,000 beats after the last queues a SYNC (each
with the transmit time that it would have at its command's offset, written anew when it is sent: log entry 85).
SYNC_LOSS after 16 intervals without a SYNC, in a follower that has not lost time yet, sets UP_LOST, clears LOCKED and
raises the C1 fault 0x0B03. PTP_MESSAGE at a port that does not run PTP, or of another domain or transport, changes
nothing; a one-step Sync of the followed master notes its offset, which steers ToD less the mean delay where a root's
servo takes PTP; a Delay_Req at a master's port of the delay request-response profile is answered with a Delay_Resp
that carries its receive time; a Sync sent is followed by a Follow_Up that carries its transmit time (log entry 96 for
the messages' fields). (Rests on R347; R363; R366; R367; R368; R369; R371; R440; 14_time.md.) -/
def Obligations.TimeTravelsOverTheLinks : Prop :=
  (∀ (p : Fin 8) (ofs : Nat) (before : List Arrival) (x : Arrival) (after : List Arrival) (s : State), s.running = true →
    (s.port p.val).inbox = before ++ x :: after → (∀ y ∈ before, y.frame.type ≠ 4) → x ∉ before → x.frame.type = 4 →
    let t := s.modPort p.val fun q => { q with inbox := before ++ after }
    let rx := t.stamp (4 * p.val + x.lane) false ofs
    let u := t.consumed p.val x
    exec (.timeReceive p ofs) s = .next (match x.frame.aux.toNat % 16 with
      | 0 => u.syncHeard p.val rx x.frame
      | 1 => if s.faultStop = true then u else u.queueFrame p.val 1 8 0 (u.timeFrame 2 (stampBytes rx ++ List.replicate 12 0))
      | 2 => u.delayHeard p.val rx x.frame
      | _ => u)) ∧
  (∀ (p : Fin 8) (ofs : Nat) (s : State), s.running = true → (∀ y ∈ (s.port p.val).inbox, y.frame.type ≠ 4) →
    exec (.timeReceive p ofs) s = .next s) ∧
  (∀ (p : Fin 8) (ofs : Nat) (s : State), s.running = true → s.fieldOf NTU_ROLE_ROLE 0 = 2 → s.fieldOf NTU_ROLE_UP_PORT 0 = p.val →
    s.portState p.val = 6 → s.faultStop = false → (s.delay p.val).asked = false → (∀ b, (s.delay p.val).sentAt = some b → b + 50000 ≤ s.beat.lbc) →
    exec (.dreqSend p ofs) s = .next ((s.modDelay p.val fun d => { d with sentAt := some s.beat.lbc, asked := true, t1 := none }).queueFrame
      p.val 1 8 0 (s.timeFrame 1 (s.goesAt p.val ofs ++ List.replicate 12 0)))) ∧
  (∀ (p : Fin 8) (ofs : Nat) (s : State), s.running = true → (s.fieldOf NTU_ROLE_ROLE 0 = 1 ∨ s.fieldOf NTU_ROLE_ROLE 0 = 2) →
    (s.reg .NTU_ROLE 0).getLsbD p.val = true → s.portState p.val = 6 → s.faultStop = false →
    (∀ b, s.ntu.syncAt.get (fun _ => none) p.val = some b → b + 8000 ≤ s.beat.lbc) →
    exec (.syncSend p ofs) s = .next ((s.withNtu fun n => { n with syncAt := n.syncAt.set (fun _ => none) p.val (some s.beat.lbc) }).queueFrame
      p.val 1 8 0 (s.timeFrame 0 (s.goesAt p.val ofs ++ List.replicate 12 0)))) ∧
  (∀ (p : Fin 8) (ofs : Nat) (s : State), s.running = true → s.faultStop = true →
    exec (.syncSend p ofs) s = .next s ∧ exec (.dreqSend p ofs) s = .next s) ∧
  (∀ s : State, s.running = true → s.ntu.lastSync + 128000 ≤ s.beat.lbc → s.fieldOf NTU_ROLE_ROLE 0 = 2 →
    s.bitOf NTU_SERVO_STAT_UP_LOST 0 = false →
    ∃ t, exec .syncLoss s = .next t ∧ t.bitOf NTU_SERVO_STAT_UP_LOST 0 = true ∧ t.bitOf NTU_SERVO_STAT_LOCKED 0 = false ∧
      t.hsk.lines = s.hsk.lines ++ [s.faultLine 11 1 0x0B03 (s.fieldOf NTU_ROLE_UP_PORT 0) 0] ∧ t.ntu = s.ntu) ∧
  ∀ (e : Fin 2) (ofs : Nat) (s : State), s.running = true → ofs < beatFs →
    (∀ ev, e.val ∉ s.ptpPorts → exec (.ptpMessage e ofs ev) s = .next s) ∧
    (e.val ∈ s.ptpPorts → (∀ m : PtpMessage,
      ((m.domain ≠ s.fieldOf NTU_PTP_CFG_DOMAIN 0 ∨ m.transport ≠ s.fieldOf NTU_PTP_CFG_TRANSPORT 0) →
        exec (.ptpMessage e ofs (.received m)) s = .next s) ∧
      (m.domain = s.fieldOf NTU_PTP_CFG_DOMAIN 0 → m.transport = s.fieldOf NTU_PTP_CFG_TRANSPORT 0 →
        (m.kind = .sync → m.twoStep = false →
          let d := s.stamp (40 + e.val) false ofs - m.correction - m.time
          let u := s.modPtp e.val fun x => { x with behind := d }
          exec (.ptpMessage e ofs (.received m)) s = .next (if s.ptpFrom e.val m = false then s else if s.fieldOf NTU_ROLE_ROLE 0 = 1 ∧ s.bitOf NTU_ROLE_SRC 0 = true ∧
            s.bitOf NTU_ROLE_SERVO_HOST 0 = false then u.servo (d - (s.ptp e.val).delay) else u)) ∧
        (m.kind = .delayReq → s.ptpPeer = false → (∀ x, s.ptpSlave ≠ some (e.val, x)) →
          exec (.ptpMessage e ofs (.received m)) s = .next (s.modPtp e.val fun x => { x with out := x.out ++
            [⟨.delayResp, m.transport, m.domain, m.seq, Config.ptpIdentity e.val, m.source, false, m.correction,
              s.stamp (40 + e.val) false ofs, []⟩] })))) ∧
      ∀ (m : PtpMessage) (r : List PtpMessage), (s.ptp e.val).out = m :: r → m.kind = .sync →
        exec (.ptpMessage e ofs .sent) s = .next (s.modPtp e.val fun x => { x with out := r ++
          [⟨.followUp, s.fieldOf NTU_PTP_CFG_TRANSPORT 0, s.fieldOf NTU_PTP_CFG_DOMAIN 0, m.seq, Config.ptpIdentity e.val, 0, false, 0,
            s.stamp (40 + e.val) true ofs, []⟩] }))

/-- With no store write running or owed and the temperature window open: SYS_PROFILE_STORE of P1 to P3 begins the write of
the live configuration to the profile's slot not in force (its layout is the model's, log entry 17);
SYS_SHUTDOWN_LOG_CLEAR begins the erasure of the 16 blocks of the log; HST_FW_STORE of a valid image in GDDR6 begins
its write to the slot not started, header page 0 last; CAL_STORE of sets 0 to 18 that no calibration holds begins
their writes in order. SYS_SHUTDOWN_LOG_READ of valid arguments answers at once for at most 16 records and is deferred
beyond. (Rests on R71; R73; R410; R412; R413; R415; R417; R432; R433; R464; 16_calibration.md; 17_thermal.md.) -/
def Obligations.StoreCommandsBeginTheirWrite : Prop :=
  (∀ s : State, s.storeBusy = false → s.storeWindow = true →
    (∀ (iss : Issuer) (p : Byte), s.serves iss → p ≠ 0 → p.toNat ≤ 3 →
      let d := s.draw
      let w := d.2.slotSteps (0x20 + p.toNat) 1 (d.2.profileBody d.1)
      exec (.sysProfileStore iss p) s = .next (d.2.beginStore iss (.sysProfileStore iss p) w.1 [w.2])) ∧
    (∀ iss : Issuer, s.serves iss → exec (.sysShutdownLogClear iss) s = .next (s.beginStore iss (.sysShutdownLogClear iss)
      (eraseSteps 0 0x1D00000 0x100000 ++ [⟨.recount, 0, 0, []⟩]) [16])) ∧
    (∀ (iss : Issuer) (a : W64) (n : W32), s.serves iss → s.badGddr a 8 n.toNat = false →
      let h := (s.mem a.toNat n.toNat).take 4096
      let body := (s.mem a.toNat n.toNat).drop 4096
      let k := match s.beat.image with | some k => 1 - k | none => 0
      let seq := match s.beat.image with | some k => leAt (s.norBytes (imageSlot k) 256) 0xB0 4 + 1 | none => 1
      let g := h.take 0xB0 ++ leBytes 4 seq ++ h.drop 0xB4
      imageOk h body = true → n.toNat = 4096 + leAt h 0x10 4 →
      exec (.hstFwStore iss a n) s = .next (s.beginStore iss (.hstFwStore iss a n)
        (eraseSteps (0x100 + k) (imageSlot k) 0x800000 ++ programSteps (0x100 + k) (imageSlot k + 0x1000) body ++
          programSteps (0x100 + k) (imageSlot k + 256) (g.drop 256) ++
          [⟨.verify, 0x100 + k, imageSlot k, []⟩, ⟨.program, 0x100 + k, imageSlot k, g.take 256⟩]) [k, seq % 2 ^ 32])) ∧
    ∀ (iss : Issuer) (m : W32), s.serves iss → m ≠ 0 → m.toNat < 2 ^ 19 → (∀ id ∈ maskList m 19, s.setHeld id = false) →
      exec (.calStore iss m) s = .next (s.beginStore iss (.calStore iss m) (s.storeSteps (maskList m 19)) [m.toNat])) ∧
  ∀ (iss : Issuer) (a : W64) (first n : W16) (s : State), s.serves iss → (a = 0 ∨ s.badRam a 8 (256 * n.toNat) = false) →
    first.toNat ≤ 4095 → n.toNat ≤ 4096 →
    let r := s.readLog a.toNat first.toNat n.toNat
    (n.toNat ≤ 16 → exec (.sysShutdownLogRead iss a first n) s = .next (r.2.complete iss Status.ok r.1)) ∧
    (16 < n.toNat → exec (.sysShutdownLogRead iss a first n) s = .next (s.defer iss (.sysShutdownLogRead iss a first n) 0 []))

/-- With a store write in progress and no shutdown begun, STORE_WRITE: with no step left ends it with OK; an erase or
program with the window open and VDD_IO at 1.71 V or more makes that access and goes on; else it ends with
REJECTED_THERMAL and, if anything was written, the C0 fault 0x0D05; a read-back that matches goes on, one that differs
ends it with ABORTED_FAULT and the C1 fault of a set or an image. After a shutdown has begun nothing is written.
SHUTDOWN_RECORD_WRITE ends the shutdown in the latched state: a program under way is completed, an erase abandoned,
and with a page finished in time the record, whose byte 7 says which, is programmed with its CRC into the first erased
page of the log outside an abandoned block. (Rests on R412; R413; R415; R416; R430; R432; R464; 16_calibration.md;
17_thermal.md.) -/
def Obligations.StoreWriteStepsInOrder : Prop :=
  (∀ (j : StoreJob) (facts : RunFacts) (s : State), s.running = true → s.cal.store = some j →
    (s.shutDown = true → exec (.storeWrite facts) s = .next s) ∧
    (s.shutDown = false → j.steps = [] → exec (.storeWrite facts) s = .next (s.endStore j Status.ok j.res)) ∧
    ∀ (x : StoreStep) (r : List StoreStep), s.shutDown = false → j.steps = x :: r →
      (x.op = .verify → facts.readBackOk = true → exec (.storeWrite facts) s = .next (s.settleStore j r)) ∧
      (x.op = .verify → facts.readBackOk = false → exec (.storeWrite facts) s = .next (((if x.id < 0x100
        then s.fault 13 1 0x0D06 x.id 0 else s.fault 10 1 0x0A01 (x.id - 0x100) 0).endStore j Status.abortedFault []))) ∧
      (x.op ≠ .verify → s.storeWindow = true → 1710 ≤ facts.vddIo →
        exec (.storeWrite facts) s = .next ((s.storeAccess x).settleStore { j with written := true } r)) ∧
      (x.op ≠ .verify → s.storeWindow = false ∨ facts.vddIo < 1710 → exec (.storeWrite facts) s =
        .next ((if j.written then s.fault 13 0 0x0D05 (x.id % 256) 0 else s).endStore j Status.thermal []))) ∧
  ∀ (l : List Byte) (s : State), s.thm.shutdown = some l →
    (∀ b : Bool, ∃ t, exec (.shutdownRecordWrite b) s = .next t ∧ t.thm.latch = true ∧ t.thm.shutdown = none) ∧
    ∀ a : Nat,
      let u : Nat × State := match s.cal.store.bind (fun j => j.steps.head?) with
        | some x => if x.op = .erase then (2, s.abandonErase x.addr) else if x.op = .program then (1, s.storeAccess x) else (0, s)
        | none => (0, s)
      logPages.find? (fun a => u.2.erased a && !(u.2.abandonedAt a)) = some a →
      let rec_ := l.take 7 ++ leBytes 1 u.1 ++ l.drop 8
      exec (.shutdownRecordWrite true) s = .next (((u.2.setNor a (rec_ ++ leBytes 4 (crc32 rec_).toNat)).withCal fun c =>
        { c with store := none }).withThm fun t => { t with shutdown := none, latch := true })

/-- CAL_RUN with valid scope, mode, set, flags and instances, no other run (scope ADC apart) or store write in the way, no
recovery run owed, its work free and no run before it where NOWAIT is set, and its controllers OFF for scope SUP, is
deferred; CAL_RESTORE of sets with a valid source that no calibration holds is deferred. CAL_OFFSET_UPDATE of a READY
module, 1 ms after the last, brings every value in force up to date. CAL_RUN_BEGIN of a TRIM run takes its scope and
shows it in CAL_STAT.RUN where its clock is present, waits, for scope DEVICE, until both converters are IDLE or UNCAL,
and ends with ABORTED_FAULT and the fault 0x0D01 where its clock is absent. C3_RECALIBRATION, owed, with every
controller OFF or TRIPPED and no run that holds an instance, holds every channel, stops both converters and starts a
DEVICE run in TRIM mode. (Rests on R400; R404; R405; R406; R407; R408; R409; R418; 16_calibration.md.) -/
def Obligations.CalibrationRunsAreTaken : Prop :=
  (∀ (iss : Issuer) (scope mode set flags : Byte) (inst : W32) (s : State), s.serves iss → scope.toNat ≤ 3 → mode.toNat ≤ 1 →
    (scope ≠ 2 → mode = 1 → set.toNat ≤ 4) → flags.toNat ≤ 1 → (scope = 0 → inst ≠ 0 ∧ inst.toNat < 65536) → (scope = 1 → inst = 0) →
    (scope = 2 → inst ≠ 0 ∧ inst.toNat < 4) → (scope = 3 → inst ≠ 0 ∧ ∀ c ∈ maskList inst 32, s.supState c = 0) →
    (scope ≠ 2 → s.cal.recal = false ∧ s.hst.deferred.any runOf = false) → (flags = 1 → s.storeBusy = false) →
    (iss.nowait = true → s.calFree scope inst = true ∧ s.mayRun scope = true) →
    exec (.calRun iss scope mode set flags inst) s = .next (s.defer iss (.calRun iss scope mode set flags inst) 0 [])) ∧
  (∀ (iss : Issuer) (m : W32) (source : Byte) (s : State), s.serves iss → m ≠ 0 → m.toNat < 2 ^ 19 → source.toNat ≤ 1 →
    (∀ id ∈ maskList m 19, s.setHeld id = false ∧ s.noSource source.toNat id = false) →
    exec (.calRestore iss m source) s = .next (s.defer iss (.calRestore iss m source) 0 [])) ∧
  (∀ s : State, s.running = true → s.ready = true → (∀ a, s.cal.updated = some a → a + 800000 ≤ s.beat.lbc) →
    exec .calOffsetUpdate s = .next (s.withCal fun c => { c with updated := some s.beat.lbc }).followAll) ∧
  (∀ (before : List Deferred) (d : Deferred) (after : List Deferred) (iss : Issuer) (scope set flags : Byte) (inst : W32) (n : Nat)
      (ppb uv : Int) (s : State), s.running = true → s.hst.deferred = before ++ d :: after → (∀ e ∈ before, activeRun e = false) →
    activeRun d = true → d.cmd = .calRun iss scope 0 set flags inst → scope.toNat ≤ 3 → s.cal.run = none → s.storing d.cmd = false →
    let nominal := if s.bitOf CAL_CFG_CALCLK_100 0 then 100000 else 10000
    let present := n * 200 ≤ nominal * 201 ∧ nominal * 199 ≤ n * 200
    (scope.toNat ≤ 1 → ¬ present → ∃ t, exec (.calRunBegin n ppb uv) s = .next t ∧ t.cal.run = none ∧ t.fieldOf CAL_STAT_RUN 0 = 0 ∧
      t.bitOf CAL_STAT_CALCLK_OK 0 = false ∧ t.hsk.lines.getLast? = some (s.faultLine 13 0 0x0D01 1 0) ∧
      ∃ e, t.hst.deferred[before.length]? = some e ∧ e.outcome = some (Status.abortedFault, [])) ∧
    (scope = 1 → present → s.adcsFree [0, 1] = false → exec (.calRunBegin n ppb uv) s = .next s) ∧
    (scope.toNat ≤ 1 → present → (scope = 1 → s.adcsFree [0, 1] = true) → ∃ t, exec (.calRunBegin n ppb uv) s = .next t ∧ t.cal.run.isSome = true ∧
      t.fieldOf CAL_STAT_RUN 0 = scope.toNat + 1 ∧ t.bitOf CAL_STAT_CALCLK_OK 0 = true ∧ t.reg .CAL_REF_ERR 0 = BitVec.ofInt 32 ppb) ∧
    (2 ≤ scope.toNat → ∃ t, exec (.calRunBegin n ppb uv) s = .next t ∧ t.cal.run.isSome = true ∧
      t.fieldOf CAL_STAT_RUN 0 = scope.toNat + 1)) ∧
  ∀ s : State, s.running = true → s.ready = true → s.cal.recal = true → (∀ c : Fin 32, s.supState c.val = 0 ∨ s.supState c.val = 4) →
    (s.hst.deferred.any s.calibrates = true → exec .c3Recalibration s = .next s) ∧ (s.hst.deferred.any s.calibrates = false →
    let iss : Issuer := ⟨0, 0, false, false⟩
    let d : Deferred := { iss := iss, cmd := .calRun iss 1 0 0 0 0, started := true, muted := true, taken := s.beat.lbc, due := 0, data := [] }
    let u := (s.withCal fun c => { c with recal := false }).withHst fun h => { h with deferred := h.deferred ++ [d] }
    exec .c3Recalibration s = .next (each [0, 1] State.adcStopAtEnd (each (List.range 128) State.holdChannel u)))

/-- At the end of the front step of a run: the ADC step begins once both converters are free and ends when both have left
their procedure; any other step before its time changes nothing; a failing one, with a value outside the limits of
R403 or a tap table that does not rise, an integral error beyond 2 LSB, or a pod that is not locked or has lost its
lock, fails the instance: its FAILED bit and the C1 fault 0x0D02 say so, and where steps remain the run goes on
without the pod's others and the live sets are what they were; a pod's steps 2 to 5 that pass add their measurements
and go on; a last step that passes applies the measurements at once in TRIM (a pod's set as it stood is kept), or
keeps them for the run's end in SET. A measurement applied in SET j is that set's quantity, which is then valid, and
no other's; in TRIM every valid set's quantity moves by the difference from the interpolated value, a tap code within
0 to 1,023; either way the set is DIRTY. What an edge step measures are, for each sweep, its offset, ideal less
measured, and the 256 tap codes nearest to f x 610.3515625 fs, which fail where they do not rise. A pod finished by
the last step of a TRIM run whose temperature has changed by more than 2 °C since the run's start fails. (Rests on
R401; R402; R403; R406; R409; R411; 16_calibration.md.) -/
def Obligations.CalibrationStepsEnd : Prop :=
  (∀ (r : Run) (step inst : Nat) (rest : List (Nat × Nat)) (integral : List Int) (m : StepData) (s : State), s.running = true →
    s.cal.run = some r → r.steps = (step, inst) :: rest →
    let out := exec (.calStepEnd integral m) s
    let found := StepData.quantities step m
    let pod : Bool := decide (2 ≤ step ∧ step ≤ 6)
    let bad : Bool := measuredBad step integral found || (pod && (!(s.podLocked inst) || r.lost.contains inst))
    let acc := (if step = 2 ∨ pod = false then [] else r.acc) ++ found
    (step = 1 → r.adcOn = false → out = .next s.enterStep) ∧
    (step = 1 → r.adcOn = true → s.adcState 0 ≠ 4 → s.adcState 1 ≠ 4 → out = .next (s.nextStep rest)) ∧
    (step = 1 → r.adcOn = true → (s.adcState 0 = 4 ∨ s.adcState 1 = 4) → out = .next s) ∧
    (step ≠ 1 → s.beat.lbc < r.stepAt + stepBeats step → out = .next s) ∧
    (step ≠ 1 → r.stepAt + stepBeats step ≤ s.beat.lbc →
      (bad = true → step ≤ 7 → inst < 32 → (pod = true → inst < 16) →
        let left := if pod = true then rest.filter (fun x => x.1 < 2 || 6 < x.1 || x.2 != inst) else rest
        ∃ t, out = .next t ∧ t.bitOf CAL_SET_STAT_FAILED (if step = 0 then 17 else if step = 7 then 16 else inst) = true ∧
          s.faultLine 13 1 0x0D02 (r.scope * 65536 + step * 256 + inst) 0 ∈ t.hsk.lines ∧
          (left ≠ [] → t.cal.live = s.cal.live ∧ t.cal.force = s.cal.force ∧ t.cal.offs = s.cal.offs ∧ ∃ q, t.cal.run = some q ∧
            q.steps = left ∧ q.passed = r.passed ∧
            q.failed = r.failed ||| (if (step = 7 ∧ r.scope = 3) ∨ pod = true then 2 ^ inst else 0))) ∧
      (bad = false → pod = true → step ≠ 6 → out = .next ((s.withCal fun c => { c with run := some { r with acc := acc } }).nextStep rest)) ∧
      (bad = false → (pod = false ∨ step = 6) →
        let x : Finished := ⟨if step = 0 then 128 else if step = 7 then 64 + inst else inst, acc⟩
        let bit := if (step = 7 ∧ r.scope = 3) ∨ step = 6 then 2 ^ inst else 0
        (r.setTo = none → out = .next (((s.withCal fun c => { c with run := some { r with
          passed := r.passed ||| bit, acc := [], saved := r.saved ++ (if step = 6 then [s.copySet inst] else []) } }).applyMeasured x none).nextStep rest)) ∧
        (∀ j, r.setTo = some j → out = .next ((s.withCal fun c => { c with run := some { r with
          passed := r.passed ||| bit, acc := [], finished := r.finished ++ [x] } }).nextStep rest)) ∧
        ∀ a b, step = 6 → rest = [] → r.setTo = none → r.store = false → inst < 16 → inst ∈ r.ids → s.podTemp inst = some a →
          r.temps.getD inst none = some b → 8 < (a - b).natAbs →
          ∃ t, out = .next t ∧ t.bitOf CAL_SET_STAT_FAILED inst = true ∧ t.cal.run = none))) ∧
  (∀ (step : Nat) (integral : List Int) (l : List Measured), measuredBad step integral l = true ↔
    (step = 2 ∧ ∃ e ∈ integral, 2000 < e.natAbs) ∨ (1 ≤ step ∧ ∃ m ∈ l, Measured.bad (decide (step ≤ 6)) m = true) ∨
    (1 ≤ step ∧ step ≤ 6 ∧ notMonotonic l = true)) ∧
  (∀ m : Measured, let r := m.offset % 4132
    (Measured.bad false m = true ↔ m.value ≤ -32768 ∨ 32767 ≤ m.value) ∧
    (r < 3612 → r % 516 < 4 → (Measured.bad true m = true ↔ 312500 < m.value.natAbs)) ∧
    (r < 3612 → 4 ≤ r % 516 → (Measured.bad true m = true ↔ m.value < 0 ∨ 1023 < m.value)) ∧
    (3612 ≤ r → r < 3614 → (Measured.bad true m = true ↔ m.value ≤ -128 ∨ 127 ≤ m.value)) ∧
    (3616 ≤ r → r < 4128 → (Measured.bad true m = true ↔ m.value < 1 ∨ 1024 < m.value))) ∧
  (∀ w : Sweep, notMonotonic (Sweep.quantities w) = true ↔ ∃ f < 255, nearestTap w.delays (f + 1) ≤ nearestTap w.delays f) ∧
  (∀ (x : Finished) (m : Measured) (s : State), x.measured = [m] → (x.inst < 16 ∨ (64 ≤ x.inst ∧ x.inst < 96) ∨ x.inst = 128) →
    let id := if x.inst < 64 then x.inst else if x.inst < 128 then 16 else 17
    let q := if x.inst < 64 then m.offset % 33056 else if x.inst < 128 then 16 * (x.inst - 64) + m.offset % 16 else 0
    let fits (v : Int) : Prop := if unsignedPlace id q = true then 0 ≤ v ∧ v < 2 ^ (8 * m.size) else -2 ^ (8 * m.size) ≤ 2 * v ∧ 2 * v < 2 ^ (8 * m.size)
    q + m.size ≤ strideOf id →
    (∀ j < 5, let u := s.applyMeasured x (some j)
      u.bitOf CAL_SET_STAT_DIRTY id = true ∧ (u.validT id).testBit j = true ∧ (fits m.value → u.quantity id q m.size j = m.value) ∧
      ∀ k < 5, k ≠ j → u.quantity id q m.size k = s.quantity id q m.size k) ∧
    let u := s.applyMeasured x none
    u.bitOf CAL_SET_STAT_DIRTY id = true ∧ u.validT id = s.validT id ∧
    ∀ j < 5,
      let w := s.quantity id q m.size j + (m.value - s.valueAt id q m.size ((s.setTemp id).getD 0))
      let v := if tapPlace id q = true then max 0 (min 1023 w) else w
      ((s.validT id).testBit j = true → fits v → u.quantity id q m.size j = v) ∧
      ((s.validT id).testBit j = false → u.quantity id q m.size j = s.quantity id q m.size j)) ∧
  ∀ w : Sweep, let base := 4132 * w.pip.val + 516 * w.path.val
    StepData.quantities 4 ⟨[w], []⟩ = ⟨base, 4, w.ideal - w.measured⟩ :: (List.range 256).map (fun f => ⟨base + 4 + 2 * f, 2, nearestTap w.delays f⟩)

/-- A THM_CONVERSION of 48 counts, 8,000 beats after the last, leaves each sensor that is not failed at the reading of
R420, T_hot at the value of THM_HOT's sensor, with no sensor's value above it, and the estimates taken. It judges a
sensor failed by its band, by 10,000 identical counts or by 100 conversions off the median of at least two valid
neighbours, with the C1 fault 0x0E01, the event 1141 and its THM_SNS_FAIL and THM_SNS_ACK bits for one that fails now;
a failed sensor's value is the hottest valid neighbour's reading plus 10 °C, or the hottest valid sensor's. Where P_RT
and the classes running exceed PLIM it defers the next class with event 1138; else the class deferred last resumes
where it fits with 4 W to spare, and event 1139 says when none is left. A valid sensor at 125 °C or more in its second
conversion begins a shutdown: the C3 fault 0x0E03, FW_STATE at FAULT_STOP, the cores in RESET and every controller in
START or ON or RAMP_DOWN in RAMP_DOWN. At a beat that is a multiple of 8,000,000, judged once, THROTTLE_TICK raises
THR by one up to 15 while T_hot exceeds 100 °C; at a multiple of 80,000,000, with T_hot below 95 °C and no rise in the
last 80,000,000 beats, it lowers THR by one, or sets UP_BLOCKED while a sensor failure is unacknowledged. Otherwise
THR is unchanged, and at no other beat anything. With T_hot at 95 °C or above it leaves UP_BLOCKED clear.
P_BASE_RECOMPUTE of a READY module sets P_BASE. (Rests on R420; R421; R422; R424; R425; R427; R428; R430;
17_thermal.md.) -/
def Obligations.TemperatureGovernsPower : Prop :=
  (∀ (counts est : List Nat) (s : State), s.running = true → counts.length = 48 →
    (∀ a, s.thm.lastConv = some a → a + 8000 ≤ s.beat.lbc) →
    ∃ t, exec (.thmConversion counts est) s = .next t ∧ t.thm.lastConv = some s.beat.lbc ∧ t.thm.estimates = est ∧
      (∀ i : Fin 48, t.sensorFailed i.val = false →
        t.fieldOf THM_TEMP_TEMP i.val = twos 16 ((s.factors i.val).reading (counts.getD i.val 0))) ∧
      t.tHot = t.temp (t.fieldOf THM_HOT_SENSOR 0) ∧ (∀ i : Fin 48, t.temp i.val ≤ t.tHot) ∧
      let read (i : Nat) : Int := (s.factors i).reading (counts.getD i 0)
      let same (i : Nat) : Nat := if (s.sensor i).raw = some (counts.getD i 0) then (s.sensor i).same + 1 else 1
      let own (i : Nat) : Nat := (if (s.factors i).inBand (counts.getD i 0) then 0 else 1) + (if 10000 ≤ same i then 4 else 0)
      let beside (i : Nat) : List Int := ((neighbours i).filter (fun j => !(s.sensorFailed j) && own j == 0)).map read
      let off (i : Nat) : Nat := if 2 ≤ (beside i).length ∧ 60 < (read i - median (beside i)).natAbs then (s.sensor i).off + 1 else 0
      let cause (i : Nat) : Nat := own i + (if 100 ≤ off i then 2 else 0)
      let good (l : List Nat) : List Int := (l.filter (fun j => !(t.sensorFailed j))).map read
      let nrt := (List.range 4).foldl (fun a j => if s.classDeferred j then a else a + est.getD j 0) 0
      let hot (i : Nat) : Prop := t.sensorFailed i = false ∧ 500 ≤ read i ∧ 1 ≤ (s.sensor i).hot
      (∀ i : Fin 48, t.sensorFailed i.val = (s.sensorFailed i.val || cause i.val != 0)) ∧
      (∀ i : Fin 48, s.sensorFailed i.val = false → cause i.val ≠ 0 →
        s.faultLine 14 1 0x0E01 (cause i.val * 256 + i.val) 0 ∈ t.hsk.lines ∧ (t.reg .HSK_EVT_PEND 35).getLsbD 21 = true ∧
        (t.reg64 .THM_SNS_FAIL 0).getLsbD i.val = true ∧ (t.reg64 .THM_SNS_ACK 0).getLsbD i.val = true) ∧
      (∀ i : Fin 48, t.sensorFailed i.val = true →
        (∀ m, highest (good (neighbours i.val)) = some m → t.fieldOf THM_TEMP_TEMP i.val = twos 16 (m + 40)) ∧
        (good (neighbours i.val) = [] → ∀ m, highest (good (List.range 48)) = some m → t.fieldOf THM_TEMP_TEMP i.val = twos 16 (m + 40))) ∧
      (∀ j : Fin 4, s.classDeferred j.val = false → (∀ k < j.val, s.classDeferred k = true) → t.plimMw < s.pRt + nrt →
        t.classDeferred j.val = true ∧ (t.reg .HSK_EVT_PEND 35).getLsbD 18 = true ∧
        ∀ k : Fin 4, k ≠ j → t.classDeferred k.val = s.classDeferred k.val) ∧
      (∀ j : Fin 4, s.classDeferred j.val = true → (∀ k : Fin 4, j < k → s.classDeferred k.val = false) → s.pRt + nrt ≤ t.plimMw →
        (t.plimMw < s.pRt + nrt + est.getD j.val 0 + 4000 → ∀ k : Fin 4, t.classDeferred k.val = s.classDeferred k.val) ∧
        (s.pRt + nrt + est.getD j.val 0 + 4000 ≤ t.plimMw → t.classDeferred j.val = false)) ∧
      ((∃ j : Fin 4, s.classDeferred j.val = true) → (∀ j : Fin 4, t.classDeferred j.val = false) →
        (t.reg .HSK_EVT_PEND 35).getLsbD 19 = true) ∧
      (∀ i : Fin 48, s.shutDown = false → hot i.val → (∀ k < i.val, ¬ hot k) →
        t.thm.shutdown.isSome = true ∧ t.fieldOf HST_STATE_FW_STATE 0 = 2 ∧ (∀ k < 8, t.coreState k = 0) ∧
        s.faultLine 14 3 0x0E03 (t.fieldOf THM_TEMP_TEMP i.val * 65536 + i.val) 0 ∈ t.hsk.lines ∧
        ∀ c : Fin 32, s.supState c.val ∈ [1, 2, 3] → t.supState c.val = 3) ∧
      ((∀ i : Fin 48, ¬ hot i.val) → t.thm.shutdown = s.thm.shutdown)) ∧
  (∀ s : State, s.running = true → s.beat.lbc % 8000000 = 0 → s.thm.lastTick ≠ some s.beat.lbc → s.converted = true →
    let thr := s.fieldOf THM_PLIM_STAT_THR 0
    (400 < s.tHot → ∃ t, exec .throttleTick s = .next t ∧ t.fieldOf THM_PLIM_STAT_THR 0 = min 15 (thr + 1) ∧
      t.bitOf THM_PLIM_STAT_UP_BLOCKED 0 = false ∧ (thr < 15 → t.thm.raisedAt = some s.beat.lbc)) ∧
    (380 ≤ s.tHot → ∃ t, exec .throttleTick s = .next t ∧ t.bitOf THM_PLIM_STAT_UP_BLOCKED 0 = false) ∧
    (s.tHot ≤ 400 → (380 ≤ s.tHot ∨ s.beat.lbc % 80000000 ≠ 0 ∨ ∃ a, s.thm.raisedAt = some a ∧ s.beat.lbc < a + 80000000) →
      ∃ t, exec .throttleTick s = .next t ∧ t.fieldOf THM_PLIM_STAT_THR 0 = thr) ∧
    (s.tHot < 380 → s.beat.lbc % 80000000 = 0 → (∀ a, s.thm.raisedAt = some a → a + 80000000 ≤ s.beat.lbc) →
      (thr = 0 ∨ s.reg64 .THM_SNS_ACK 0 = 0 → ∃ t, exec .throttleTick s = .next t ∧ t.fieldOf THM_PLIM_STAT_THR 0 = thr - 1 ∧
        t.bitOf THM_PLIM_STAT_UP_BLOCKED 0 = false) ∧
      (thr ≠ 0 → s.reg64 .THM_SNS_ACK 0 ≠ 0 → ∃ t, exec .throttleTick s = .next t ∧ t.fieldOf THM_PLIM_STAT_THR 0 = thr ∧
        t.bitOf THM_PLIM_STAT_UP_BLOCKED 0 = true))) ∧
  (∀ s : State, s.running = true → s.beat.lbc % 8000000 ≠ 0 → exec .throttleTick s = .next s) ∧
  ∀ (mw : Nat) (s : State), s.running = true → s.ready = true →
    exec (.pBaseRecompute mw) s = .next (s.putField THM_P_BASE_MW 0 (min mw (2 ^ 20 - 1)))

/-- When a TDC's run ends (TDC_RUN_END) with CNT values, SUM and SSQ, MEAN is floor(SUM × 65,536 / CNT) as a signed 64-bit
value, and SDEV is the v with v × CNT ≤ sqrt((CNT × SSQ - SUM²) × 2^32) < (v + 1) × CNT, for SUM² ≤ CNT × SSQ (as the
sums of squares always are), within the widths of R272; it is 0 for CNT = 1. TDC_START_BEAT of a run that is due
clears both. TDC_RUN_END of a run that has not ended and TDC_START_BEAT of none that is due change nothing, both leave
both words of every other channel, and every other command but the module resets leaves both words of every channel.
(Formalises R273.) -/
def Obligations.TdcStatisticsAreExact : Prop :=
  (∀ (ch : Fin 128) (s : State), s.running = true → (s.tdc ch.val).ended = true →
    let cnt := (s.reg64 .TIA_CNT ch.val).toNat
    let sum := (s.reg64 .TIA_SUM ch.val).toInt
    let ssq := s.tdcSsq ch.val
    cnt ≠ 0 → sum.natAbs * sum.natAbs ≤ cnt * ssq → cnt ≤ 2 ^ 32 →
    ∃ (t : State) (v : Nat), exec (.tdcRunEnd ch) s = .next t ∧
      t.reg64 .TIA_MEAN ch.val = BitVec.ofInt 64 (Int.floor ((sum * 65536 : ℚ) / cnt)) ∧
      t.reg64 .TIA_SDEV ch.val = BitVec.ofNat 64 v ∧
      (v * cnt) ^ 2 ≤ (cnt * ssq - sum.natAbs * sum.natAbs) * 2 ^ 32 ∧
      (cnt * ssq - sum.natAbs * sum.natAbs) * 2 ^ 32 < ((v + 1) * cnt) ^ 2 ∧
      (cnt = 1 → ssq = sum.natAbs * sum.natAbs → v = 0)) ∧
  (∀ (ch : Fin 128) (b : Nat) (s : State), s.running = true → (s.tdc ch.val).startAt = some b → b ≤ s.beat.lbc →
    ∃ t, exec (.tdcStartBeat ch) s = .next t ∧ t.reg64 .TIA_MEAN ch.val = 0 ∧ t.reg64 .TIA_SDEV ch.val = 0) ∧
  (∀ (ch : Fin 128) (s : State), s.running = true →
    ((s.tdc ch.val).ended = false → exec (.tdcRunEnd ch) s = .next s) ∧
    ((∀ b, (s.tdc ch.val).startAt = some b → s.beat.lbc < b) → exec (.tdcStartBeat ch) s = .next s)) ∧
  (∀ (ch n : Fin 128) (s t : State), ch ≠ n → (exec (.tdcRunEnd ch) s = .next t ∨ exec (.tdcStartBeat ch) s = .next t) →
    t.reg64 .TIA_MEAN n.val = s.reg64 .TIA_MEAN n.val ∧ t.reg64 .TIA_SDEV n.val = s.reg64 .TIA_SDEV n.val) ∧
  ∀ (c : Instr) (s t : State), exec c s = .next t → (∀ ch, c ≠ .tdcRunEnd ch) → (∀ ch, c ≠ .tdcStartBeat ch) →
    c ≠ .porstNFall → (∀ r, c ≠ .powerMonitorReset r) →
    ∀ ch : Fin 128, t.reg64 .TIA_MEAN ch.val = s.reg64 .TIA_MEAN ch.val ∧ t.reg64 .TIA_SDEV ch.val = s.reg64 .TIA_SDEV ch.val

/-- TIA_START of a non-empty mask, in mode NOW or at a beat at least 800 ahead, whose TDCs are not RUNNING or started,
whose TWIN channels are assigned, whose CH_CH pairs share a site, and whose pods are not under calibration, notes the
start beat of each. TDC_START_BEAT of a run that is due clears its statistics, sets MIN to 0x7FFFFFFF and MAX to
0x80000000 and reads RUNNING. TIA_STOP ends the runs that take values and answers their mask. TDC_RUN_END of an ended
run reads DONE and raises event 4 n + 1. TIA_STAT_READ of a channel below 128 writes its 80-byte record. (Rests on
R269; R270; R271; R272; R276; 09_tdc.md.) -/
def Obligations.TdcRunsStartAndEnd : Prop :=
  (∀ (iss : Issuer) (m0 m1 : W64) (mode : Byte) (lbc : W64) (s : State), s.serves iss → (iss.mb ≠ 16 ∨ mode = 0) → tiaMask m0 m1 ≠ [] →
    mode.toNat ≤ 1 → (mode = 1 → s.beat.lbc + 800 ≤ lbc.toNat) →
    let site (n : Nat) : Option Nat := if s.bitOf TMG_CH_CFG_ASSIGNED n then some (s.fieldOf TMG_CH_CFG_SITE n) else none
    (∀ n ∈ tiaMask m0 m1, s.fieldOf TIA_STAT_STATE n ≠ 1 ∧ (s.tdc n).startAt = none ∧
      (s.bitOf TIA_CH_CFG_GATE n = true → site n ≠ none) ∧
      (s.fieldOf TIA_CH_CFG_MODE n = 1 → site (s.fieldOf TIA_CH_CFG_REF_CH n) = site n) ∧ s.podCalibrating (n / 8) = false) →
    let b := if mode = 1 then lbc.toNat else s.beat.lbc + 1
    exec (.tiaStart iss m0 m1 mode lbc) s = .next ((each (tiaMask m0 m1) (fun n => State.modTdc n fun t => { t with startAt := some b }) s).complete
      iss Status.ok [b % 2 ^ 32, b / 2 ^ 32 % 2 ^ 32])) ∧
  (∀ (ch : Fin 128) (b : Nat) (s : State), s.running = true → (s.tdc ch.val).startAt = some b → b ≤ s.beat.lbc →
    ∃ t, exec (.tdcStartBeat ch) s = .next t ∧ t.fieldOf TIA_STAT_STATE ch.val = 1 ∧ t.reg64 .TIA_CNT ch.val = 0 ∧
      t.reg64 .TIA_SUM ch.val = 0 ∧ t.tdcSsq ch.val = 0 ∧ t.reg .TIA_MIN ch.val = 0x7FFFFFFF ∧ t.reg .TIA_MAX ch.val = 0x80000000 ∧
      t.reg64 .TIA_IVL ch.val = 0 ∧ t.reg .TIA_LAST ch.val = 0 ∧ (t.tdc ch.val).startAt = none ∧ (t.tdc ch.val).began = b) ∧
  (∀ (iss : Issuer) (m0 m1 : W64) (s : State), s.serves iss → tiaMask m0 m1 ≠ [] →
    let hit := (tiaMask m0 m1).filter s.tdcTakes
    exec (.tiaStop iss m0 m1) s = .next ((each hit (fun n => State.tdcEnd n true) s).complete iss Status.ok
      ((List.range 4).map (fun k => listMask hit / 2 ^ (32 * k) % 2 ^ 32)))) ∧
  (∀ (ch : Fin 128) (s : State), s.running = true → (s.tdc ch.val).ended = true →
    ∃ t, exec (.tdcRunEnd ch) s = .next t ∧ t.fieldOf TIA_STAT_STATE ch.val = 2 ∧ (t.tdc ch.val).ended = false ∧
      (t.reg .HSK_EVT_PEND ((4 * ch.val + 1) / 32)).getLsbD ((4 * ch.val + 1) % 32) = true) ∧
  ∀ (iss : Issuer) (a : W64) (ch : Byte) (s : State), s.serves iss → ch.toNat < 128 → s.badRam a 8 80 = false →
    exec (.tiaStatRead iss a ch) s = .next ((s.setMem a.toNat (s.tiaRecord ch.toNat)).complete iss Status.ok [80])

/-- A TDC_EDGE is ignored while the input is UNRESOLVED, in the dead time, or where the level does not change; otherwise
the level is accepted, the dead time of max(450 ps, HOLDOFF coarse steps) begins, and in EDGE_EDGE under CONT an edge
of a named polarity whose timestamp, the time less the compare deskew in LSB, does not lie before the start beat
enters a buffer that holds fewer than 64. TDC_HOLDOFF_END takes the present level and counts a glitch where it differs
from the one accepted. COMPARE_INPUT_RESOLVE of an UNRESOLVED input, not in beat 0, clears its bit and gives its level
to a detector on it. TDC_MEASURE takes the oldest timestamp of a beat to the measurement of its mode: in EDGE_EDGE the
open start of the same window gives a value with every timestamp under one polarity and with one of STOP_POL
otherwise, and START_POL opens anew; in CH_CH the start and the stop of one vector give a value, and one without its
mate waits; a timestamp after a loss begins anew. A value in the range of R268 adds 1 to CNT, itself to SUM, its
square to SSQ and the edges but one to IVL, lowers MIN, raises MAX, is LAST, and ends the run as the Nth; outside the
range it is a MISS. FREQ_GATE_END closes a gate once no timestamp of its beats can come any more, and the next follows
at once. A timestamp is rounded down to an LSB (log entry 37). (Rests on R88; R260; R262; R263; R264; R265; R268;
R272; 09_tdc.md.) -/
def Obligations.TdcEdgesAreTimestamped : Prop :=
  (∀ (ch : Fin 128) (level : Bool) (ofs : Nat) (s : State), s.running = true →
    let n := ch.val
    let lv := s.tdcLevel n level
    let now := s.now + ofs
    let stamp : Int := ((now : Int) - signed 25 (s.fieldOf TMG_DSK_CMP_OFFSET n)) * 2048 / 1250000
    (s.tdcUnresolved n = true ∨ (∃ e l, (s.tdc n).hold = some (e, l) ∧ now < e) ∨ (s.tdc n).level = some lv →
      exec (.tdcEdge ch level ofs) s = .next s) ∧
    (s.tdcUnresolved n = false → (∀ e l, (s.tdc n).hold = some (e, l) → e ≤ now) → (s.tdc n).level ≠ some lv →
      ∃ t, exec (.tdcEdge ch level ofs) s = .next t ∧ (t.tdc n).level = some lv ∧
        (t.tdc n).hold = some (now + max 450000 (s.fieldOf TIA_RX_CFG_HOLDOFF n * 156250), lv) ∧
        (s.tdcTakes n = true → s.fieldOf TIA_CH_CFG_MODE n = 0 → s.bitOf TIA_CH_CFG_GATE n = false →
          ((s.tdc n).began * 2048 : Nat) ≤ stamp →
          (polarity (s.fieldOf TIA_CH_CFG_START_POL n) lv = true ∨ polarity (s.fieldOf TIA_CH_CFG_STOP_POL n) lv = true) →
          (s.tdc n).buffer.length < 64 →
          (t.tdc n).buffer.map (fun x => (x.time, x.rising)) = (s.tdc n).buffer.map (fun x => (x.time, x.rising)) ++
            [(stamp, lv)]))) ∧
  (∀ (ch : Fin 128) (level set : Bool) (e : Nat) (s : State), s.running = true → (s.tdc ch.val).hold = some (e, set) →
    e < (s.beat.lbc + 1) * beatFs →
    let lv := s.tdcLevel ch.val level
    let u := s.modTdc ch.val fun t => { t with hold := none, level := some lv }
    exec (.tdcHoldoffEnd ch level) s = .next (if lv = set then u else u.countUp TIA_ERR_GLITCH ch.val 1)) ∧
  (∀ (ch : Fin 128) (low level : Bool) (s : State), s.running = true →
    let f := if low then TMG_CH_STAT_CPL_UNRES else TMG_CH_STAT_CPH_UNRES
    (s.bitOf f ch.val = false ∨ s.beat.lbc = 0 → exec (.compareInputResolve ch low level) s = .next s) ∧
    (s.bitOf f ch.val = true → s.beat.lbc ≠ 0 → ∃ t, exec (.compareInputResolve ch low level) s = .next t ∧ t.bitOf f ch.val = false ∧
      (t.tdc ch.val).level = if s.bitOf TIA_CH_CFG_IN ch.val = low then some (s.tdcLevel ch.val level) else (s.tdc ch.val).level)) ∧
  (∀ (ch : Fin 128) (x : Stamp) (r : List Stamp) (s : State), s.running = true → (s.tdc ch.val).buffer = x :: r →
    (s.tdc ch.val).lastMeasure ≠ some s.beat.lbc →
    let n := ch.val
    let u := s.modTdc n fun t => { t with buffer := r, lastMeasure := some s.beat.lbc, lossSeen := t.lossSeen && !r.isEmpty }
    let opens (v : Option Stamp) (s : State) : State := s.modTdc n fun t => { t with start := v }
    let a := s.fieldOf TIA_CH_CFG_START_POL n
    let b := s.fieldOf TIA_CH_CFG_STOP_POL n
    let open_ := (s.tdc n).start.filter (fun o => o.win == x.win && !x.fresh)
    let old := if x.fresh then [] else (s.tdc n).halves
    let mate := old.find? (fun o => o.stop != x.stop && o.win.map TWin.vec == x.win.map TWin.vec)
    (s.fieldOf TIA_CH_CFG_MODE n = 0 →
      (∀ o, open_ = some o → a = b ∨ polarity b x.rising = true →
        exec (.tdcMeasure ch) s = .next ((opens (if a = b then some x else none) u).tdcValue n (x.time - o.time) 0 x.win)) ∧
      (open_ = none ∨ (a ≠ b ∧ polarity b x.rising = false) →
        exec (.tdcMeasure ch) s = .next (if a = b ∨ polarity a x.rising = true then opens (some x) u
          else if open_ = none then opens none u else u))) ∧
    (s.fieldOf TIA_CH_CFG_MODE n = 1 →
      (∀ o, mate = some o → exec (.tdcMeasure ch) s = .next ((u.modTdc n fun t => { t with halves := old.erase o }).tdcValue n
        (if x.stop then x.time - o.time else o.time - x.time) 0 x.win)) ∧
      (mate = none → exec (.tdcMeasure ch) s = .next (u.modTdc n fun t => { t with halves := (old ++ [x]).drop (old.length - 63) }))) ∧
    (s.fieldOf TIA_CH_CFG_MODE n = 2 → ∀ w, x.win = some w → exec (.tdcMeasure ch) s = .next (u.tdcValue n
      (x.time - lsbOf (w.start + 15000000 + (if s.bitOf TIA_CH_CFG_REF n then w.stb else 0) : Nat)) 0 x.win)) ∧
    (s.fieldOf TIA_CH_CFG_MODE n = 3 → (x.edges = 0 ∨ x.fresh = true) →
      exec (.tdcMeasure ch) s = .next (u.modTdc n fun t => { t with start := some x })) ∧
    (s.fieldOf TIA_CH_CFG_MODE n = 3 → x.edges ≠ 0 → x.fresh = false → ∀ o, (s.tdc n).start = some o →
      exec (.tdcMeasure ch) s = .next ((u.modTdc n fun t => { t with start := none }).tdcValue n (x.time - o.time) x.edges x.win))) ∧
  (∀ (ch : Fin 128) (v : Int) (edges : Nat) (win : Option TWin) (s : State),
    let n := ch.val
    let t := s.tdcValue n v edges win
    (2 ^ 31 - 1 < v.natAbs → t = s.countUp TIA_ERR_MISS n 1) ∧
    (v.natAbs ≤ 2 ^ 31 - 1 → s.tdcTakes n = false → t = s) ∧
    (v.natAbs ≤ 2 ^ 31 - 1 → s.tdcTakes n = true →
      t.reg64 .TIA_CNT n = s.reg64 .TIA_CNT n + 1 ∧ t.reg64 .TIA_SUM n = s.reg64 .TIA_SUM n + BitVec.ofInt 64 v ∧
      t.tdcSsq n = (s.tdcSsq n + v.natAbs * v.natAbs) % 2 ^ 96 ∧
      signed 32 (t.reg .TIA_MIN n).toNat = min (signed 32 (s.reg .TIA_MIN n).toNat) v ∧
      signed 32 (t.reg .TIA_MAX n).toNat = max (signed 32 (s.reg .TIA_MAX n).toNat) v ∧
      signed 32 (t.reg .TIA_LAST n).toNat = v ∧ t.reg64 .TIA_IVL n = s.reg64 .TIA_IVL n + BitVec.ofNat 64 (edges - 1) ∧
      t.fieldOf TIA_ERR_MISS n = s.fieldOf TIA_ERR_MISS n ∧
      (t.tdc n).ended = decide ((s.reg .TIA_N n).toNat ≤ (s.reg64 .TIA_CNT n).toNat))) ∧
  ∀ (ch : Fin 128) (s : State), s.running = true → s.tdcTakes ch.val = true → s.fieldOf TIA_CH_CFG_MODE ch.val = 3 →
    s.bitOf TIA_CH_CFG_GATE ch.val = false →
    ((((s.tdc ch.val).gate + s.fieldOf TIA_GATE_GATE ch.val) * 2048 : Nat) : Int) ≤
      ((s.now : Int) - signed 25 (s.fieldOf TMG_DSK_CMP_OFFSET ch.val)) * 2048 / 1250000 →
    exec (.freqGateEnd ch) s = .next ((s.closeGate ch.val none).modTdc ch.val fun t => { t with
      gate := (s.tdc ch.val).gate + s.fieldOf TIA_GATE_GATE ch.val })

/-- With a mask of converters 0 and 1 that is not empty: ADC_SELFCAL is deferred (under NOWAIT where its converters are
IDLE or UNCAL and no DEVICE calibration runs); ADC_ARM of IDLE converters that no procedure or calibration holds
clears their flags and pass counts and arms them; ADC_STOP stops those ARMED or RUNNING, at once, or at the end of the
pass with its answer deferred while one runs; ADC_TRIG sends each a soft trigger for the next beat and answers which
will take it as things stand at the command (log entry 84). ADC_OPENWIRE, at a mailbox other than the version 1 one,
of valid inputs of one converter whose supplies are off is deferred (under NOWAIT where it is IDLE and no DEVICE
calibration runs). (Rests on R285; R286; R287; R288; R291; R292; R294; 10_adc.md.) -/
def Obligations.ConverterCommandsAct : Prop :=
  (∀ (iss : Issuer) (m : Byte) (s : State), s.serves iss → m ≠ 0 → m.toNat < 4 →
    ((iss.nowait = true → s.deviceRuns = false ∧ ∀ a ∈ maskList m 2, s.adcState a < 2) →
      exec (.adcSelfcal iss m) s = .next (s.defer iss (.adcSelfcal iss m) 0 [])) ∧
    ((∀ a ∈ maskList m 2, s.adcState a = 1 ∧ s.adcHeld a = false) →
      exec (.adcArm iss m) s = .next ((each (maskList m 2) (fun a s =>
        (((((s.putBit ADC_STAT_TRIG_OVERRUN (64 * a) false).putBit ADC_STAT_CLIP (64 * a) false).setReg64 .ADC_PASS (64 * a) 0).modAdc a
          fun x => { x with dropSeen := false, clipSeen := false, stopping := false, ends := none }).setAdc a 2)) s).complete iss Status.ok
            [listMask (maskList m 2)])) ∧
    (let u := (s.adcPassEnd 0 s.now).adcPassEnd 1 (s.adcPassEnd 0 s.now).now
     let l := (maskList m 2).filter (fun a => u.adcState a == 2 || u.adcState a == 3)
     exec (.adcStop iss m 0) s = .next ((each l State.adcStopNow u).complete iss Status.ok [listMask l]) ∧
     exec (.adcStop iss m 1) s = .next (if ∃ a ∈ l, u.adcState a = 3
       then (each l State.adcStopAtEnd u).defer iss (.adcStop iss m 1) 0 [listMask l]
       else (each l State.adcStopAtEnd u).complete iss Status.ok [listMask l]) ∧
     exec (.adcTrig iss m) s = .next ((each (maskList m 2) (fun a => State.modAdc a fun x => { x with
       trigs := x.trigs ++ [(u.beat.lbc + 1, 0)] }) u).complete iss Status.ok [listMask ((maskList m 2).filter u.adcWouldTake)]))) ∧
  ∀ (iss : Issuer) (a inputs : W64) (c cur : Byte) (settle thr : W16) (s : State), s.serves iss → iss.mb ≠ 16 → inputs ≠ 0 →
    inputs.toNat < 2 ^ 38 →
    c.toNat ≤ 1 → cur.toNat ≤ 1 → 4 ≤ settle.toNat → s.badRam a 8 (16 * (maskList inputs 38).length) = false →
    (∀ i ∈ maskList inputs 38, ∀ k, senseOf c.toNat i = some k → s.fieldOf SUP_STAT_STATE k = 0 ∨ s.fieldOf SUP_STAT_STATE k = 4) →
    (iss.nowait = true → s.deviceRuns = false ∧ s.adcState c.toNat = 1) →
    exec (.adcOpenwire iss a inputs c cur settle thr) s = .next (s.defer iss (.adcOpenwire iss a inputs c cur settle thr) 0 [])

/-- Of a converter with no pass end due: the first due trigger is taken, starting a pass with its event at the next
instant (after the longest SETTLE in short mode) when ARMED, held pending by a RUNNING SINGLE one without a pending
one, dropped and counted by another RUNNING one (the first since ADC_ARM sets TRIG_OVERRUN with its event), and
ignored otherwise. A pass that has ended is counted, with its event in SINGLE mode, and the converter goes IDLE where
it stops, begins its next stretch in CONTINUOUS mode or the pending trigger's pass at that instant, and is ARMED
otherwise. A conversion at an instant of this beat joins its entry's result with the corrected code, and the sequence
goes on; the last one sets the instant at which the pass ends. A conversion that joins adds its code to the sum of its
entry; the last of them makes the result. A result available by this beat's end is written with its value, next SEQNO,
CLIP and K, leaves the list, raises its events, and reaches the acquisition units that take its entry and are not
idle. After its time a self-calibration writes its factors and reads IDLE, or UNCAL with the C2 fault 0x0501, and its
command notes it; an open-wire test writes one record for each input, reads IDLE, and answers the open ones. (Rests on
R279; R282; R283; R284; R285; R287; R289; R290; R291; R292; R293; 10_adc.md.) -/
def Obligations.ConvertersConvertAndReport : Prop :=
  (∀ (adc : Fin 2) (x : Nat × Nat) (s : State), s.running = true → (s.adc adc.val).ends = none →
    firstTrig ((s.adc adc.val).trigs.filter (fun x => decide (x.1 ≤ s.beat.lbc))) = some x →
    let a := adc.val
    let u := s.modAdc a fun u => { u with trigs := u.trigs.erase x }
    (s.adcState a = 2 → ∃ t, exec (.adcTriggerTake adc) s = .next t ∧ t.adcState a = 3 ∧ t.fieldOf ADC_STAT_ENTRY (64 * a) = 0 ∧
      t.adc a = { s.adc a with
        trigs := (s.adc a).trigs.erase x, base := ceilDiv s.now 2000000 + (if s.adcShort a then s.adcLongest a else 0),
        entry := 0, conv := 0, sums := [], clips := [] } ∧ t.hsk.occ = s.hsk.occ ++ [(640 + 8 * a, s.beat.lbc)]) ∧
    (s.adcState a = 3 → s.adcCont a = false → s.bitOf ADC_STAT_PENDING (64 * a) = false →
      exec (.adcTriggerTake adc) s = .next (u.putBit ADC_STAT_PENDING (64 * a) true)) ∧
    (s.adcState a = 3 → s.adcCont a = true ∨ s.bitOf ADC_STAT_PENDING (64 * a) = true →
      ∃ t, exec (.adcTriggerTake adc) s = .next t ∧ t.adcState a = 3 ∧
        t.adc a = { s.adc a with trigs := (s.adc a).trigs.erase x, dropSeen := true } ∧
        t.fieldOf ADC_OVR_COUNT (64 * a) = min (s.fieldOf ADC_OVR_COUNT (64 * a) + 1) (2 ^ 32 - 1) ∧
        ((s.adc a).dropSeen = true → t.hsk.occ = s.hsk.occ) ∧
        ((s.adc a).dropSeen = false → t.bitOf ADC_STAT_TRIG_OVERRUN (64 * a) = true ∧
          t.hsk.occ = s.hsk.occ ++ [(640 + 8 * a + 2, s.beat.lbc)])) ∧
    (s.adcState a ≠ 2 → s.adcState a ≠ 3 → exec (.adcTriggerTake adc) s = .next u)) ∧
  (∀ (adc : Fin 2) (e : Nat) (s : State), s.running = true → (s.adc adc.val).ends = some e → e * 2000000 ≤ s.now →
    firstTrig ((s.adc adc.val).trigs.filter (fun x => decide (x.1 ≤ s.beat.lbc))) = none →
    let a := adc.val
    let x := s.adc a
    ∃ t, exec (.adcTriggerTake adc) s = .next t ∧ t.reg64 .ADC_PASS (64 * a) = s.reg64 .ADC_PASS (64 * a) + 1 ∧
      (s.adcCont a = false → (640 + 8 * a + 1, s.beat.lbc) ∈ t.hsk.occ) ∧ (t.adc a).ends = none ∧
      (x.stopping = true → t.adcState a = 1 ∧ t.bitOf ADC_STAT_PENDING (64 * a) = false) ∧
      (x.stopping = false → s.adcCont a = true →
        t.adcState a = s.adcState a ∧ (t.adc a).base = e ∧ (t.adc a).entry = 0 ∧ (t.adc a).conv = 0) ∧
      (x.stopping = false → s.adcCont a = false → s.bitOf ADC_STAT_PENDING (64 * a) = true →
        t.adcState a = 3 ∧ t.bitOf ADC_STAT_PENDING (64 * a) = false ∧ (t.adc a).entry = 0 ∧ (t.adc a).conv = 0 ∧
        (t.adc a).base = e + (if s.adcShort a then s.adcLongest a else 0) ∧ (640 + 8 * a, s.beat.lbc) ∈ t.hsk.occ) ∧
      (x.stopping = false → s.adcCont a = false → s.bitOf ADC_STAT_PENDING (64 * a) = false → t.adcState a = 2)) ∧
  (∀ (adc : Fin 2) (raw : Int) (s : State), s.running = true → s.adcState adc.val = 3 → (s.adc adc.val).ends = none →
    s.adcInstant adc.val * 2000000 ≤ s.beatEnd →
    let a := adc.val
    let x := s.adc a
    let at_ := s.adcInstant a
    let code := adcCode raw (signed 16 (s.reg .ADC_CALF (64 * a)).toNat) (s.reg .ADC_CALF (64 * a + 1)).toNat
    let next (s : State) : State := s.modAdc a fun x => { x with conv := x.conv + 1 }
    let last (e : Nat) (s : State) : State := s.modAdc a fun x => { x with ends := some e }
    (s.adcShort a = true → exec (.adcConversion adc raw) s = .next (
      let u := s.adcJoin a (x.conv % s.adcLen a) at_ code (decide (s.adcPass a < x.conv + 1 + s.adcLen a))
      if x.conv + 1 = s.adcPass a then last (x.base + s.adcPass a) u else next u)) ∧
    (s.adcShort a = false → exec (.adcConversion adc raw) s = .next (
      let fin := x.conv + 1 == 2 ^ s.adcK a x.entry
      let u := s.adcJoin a x.entry at_ code fin
      if fin = false then next u
      else if x.entry + 1 = s.adcLen a then last (at_ + 1) u
      else u.modAdc a fun x => { x with base := at_ + 1, entry := x.entry + 1, conv := 0 }))) ∧
  (∀ (adc : Fin 2) (e : Fin 64) (at_ : Nat) (code : Int) (s : State),
    let a := adc.val
    let x := s.adc a
    let sum := x.sums.get (fun _ => 0) e.val + code
    let clipped := code == -8192 || code == 8191 || x.clips.contains e.val
    let k := s.adcK a e.val
    let go := s.adcJoin a e.val at_ code false
    let fin := s.adcJoin a e.val at_ code true
    go.fieldOf ADC_STAT_ENTRY (64 * a) = e.val ∧ (go.adc a).out = x.out ∧ (go.adc a).sums.get (fun _ => 0) e.val = sum ∧
    (go.adc a).clips.contains e.val = clipped ∧
    fin.fieldOf ADC_STAT_ENTRY (64 * a) = e.val ∧ (fin.adc a).sums.get (fun _ => 0) e.val = 0 ∧
    (fin.adc a).out = x.out ++ [⟨e.val, sum / (2 ^ ((k + 1) / 2) : Nat), clipped, k, at_⟩]) ∧
  (∀ (adc : Fin 2) (r : AdcOut) (rest : List AdcOut) (s : State), s.running = true → (s.adc adc.val).ends = none →
    (s.adc adc.val).out = r :: rest → (r.last + 12) * 2000000 ≤ s.beatEnd →
    let a := adc.val
    let i := 64 * a + r.entry
    ∃ t, exec (.adcResultWrite adc) s = .next t ∧ (t.adc a).out = rest ∧ t.reg .ADC_RES i = BitVec.ofInt 32 r.value ∧
      t.fieldOf ADC_RES_SEQNO i = (s.fieldOf ADC_RES_SEQNO i + 1) % 65536 ∧
      t.bitOf ADC_RES_CLIP i = r.clip ∧ t.fieldOf ADC_RES_K i = r.k % 16 ∧
      (r.clip = true → (s.adc a).clipSeen = false →
        t.bitOf ADC_STAT_CLIP (64 * a) = true ∧ (640 + 8 * a + 3, s.beat.lbc) ∈ t.hsk.occ) ∧
      (s.bitOf ADC_SEQ_EVT i = true → (512 + i, s.beat.lbc) ∈ t.hsk.occ) ∧
      ∀ u : Fin 16, (t.aq u.val).input = (s.aq u.val).input ++
        (if s.bitOf CAP_AQ_SRC_TYPE u.val = true ∧ s.fieldOf CAP_AQ_SRC_CONV u.val = a ∧ s.fieldOf CAP_AQ_SRC_ENTRY u.val = r.entry ∧
            1 ≤ (s.aq u.val).st ∧ (s.aq u.val).st ≤ 4 then
          [⟨r.value, s.beat.lbc + 1, r.last * 2000000, 0, s.adcPass a * 2000000, s.adcShort a⟩] else [])) ∧
  (∀ (adc : Fin 2) (f : AdcFactors) (s : State), s.running = true → s.adcState adc.val = 4 → (s.adc adc.val).busyTill ≤ s.beat.lbc →
    s.hst.deferred.any (selfcalOf adc.val) = true →
    ∃ t, exec (.adcSelfcalEnd adc f) s = .next t ∧
      t.hst.deferred = modFirst (selfcalOf adc.val) (noteSelfcal adc.val (badFactor f).isNone) s.hst.deferred ∧
      (badFactor f = none → t.adcState adc.val = 1 ∧ t.hsk.lines = s.hsk.lines ∧
        t.reg .ADC_CALF (64 * adc.val) = BitVec.ofNat 32 (twos 16 f.offset) ∧
        t.reg .ADC_CALF (64 * adc.val + 1) = BitVec.ofNat 32 (f.gain % 2 ^ 20) ∧
        ∀ i : Fin 12, t.reg .ADC_CALF (64 * adc.val + 2 + i.val) = BitVec.ofNat 32 (twos 16 (f.stages.getD i.val 0))) ∧
      ∀ i, badFactor f = some i → t.adcState adc.val = 0 ∧ (∀ j w, t.reg .ADC_CALF j w = s.reg .ADC_CALF j w) ∧
        t.hsk.lines = s.hsk.lines ++ [s.faultLine 5 2 0x0501 (i % 16 * 16 + adc.val) 0]) ∧
  ∀ (adc : Fin 2) (values : List (List Int)) (before : List Deferred) (d : Deferred) (after : List Deferred) (iss : Issuer) (a inputs : W64)
      (c cur : Byte) (settle thr : W16) (s : State), s.running = true → s.adcState adc.val = 4 → (s.adc adc.val).busyTill ≤ s.beat.lbc →
    s.hst.deferred = before ++ d :: after → (∀ e ∈ before, openwireOf adc.val e = false) → openwireOf adc.val d = true →
    d.cmd = .adcOpenwire iss a inputs c cur settle thr →
    let l := maskList inputs 38
    let recs := l.zipIdx.map (fun p => openwireRecord p.1 thr.toNat (values.getD p.2 []))
    let m := listMask ((l.zip recs).filterMap (fun p => if leAt p.2 1 1 = 0 then none else some p.1))
    ∃ t, exec (.adcOpenwireEnd adc values) s = .next t ∧ t.adcState adc.val = 1 ∧ t.ram = (s.setMem a.toNat recs.flatten).ram ∧
      t.hst.deferred = before ++ { d with outcome := some (Status.ok, [m % 2 ^ 32, m / 2 ^ 32, 16 * l.length]) } :: after

/-- SUP_SET of a non-empty mask, OP 0 to 2 and VSET at most 4,000 or 0xFFFF, outside a transaction and refused by none of
the checks of ON, after the trips of its controllers that still wait in the beat: VSET becomes the one given, or with
0xFFFF stays; ON takes OFF and RAMP_DOWN to START, OFF takes START and ON to RAMP_DOWN and TRIPPED to OFF, OFF_NOW
takes any to OFF, and no other controller moves. ON of one that is TRIPPED after those trips is WRONG_STATE. In a
transaction with room it goes into the shadow. SUP_SELFTEST of comparators of an OFF controller is deferred (under
NOWAIT with its owner idle); at its time a failure marks the controller SUSPECT with the C0 fault 0x0602 and a pass of
all four clears the mark. SUP_LATCH_CLEAR releases the latches it names. SOFT_START_STEP, SS_DIV beats after the last,
moves VSET_ACT by one code toward VSET, or toward 0 in RAMP_DOWN, and START becomes ON when it is reached.
RAMP_DOWN_DONE 20 us after VSET_ACT reached 0 reads OFF. (Rests on R65; R304; R306; R307; R309; 11_supplies.md.) -/
def Obligations.SuppliesAreCommanded : Prop :=
  (∀ (iss : Issuer) (m : W32) (op : Byte) (v : W16) (s : State), s.serves iss → m ≠ 0 → op.toNat ≤ 2 → (v = 0xFFFF ∨ v.toNat ≤ 4000) →
    let w := s.tripsFirst m
    let unheld : Prop := w.cal.recal = false ∧ ∀ d ∈ w.hst.deferred, w.atWork d = true → ∀ c ∈ maskList m 32, c ∉ d.sups
    (s.txnOf iss.mb.val = none → (op = 1 → unheld ∧ ∀ c ∈ maskList m 32, w.supState c ≠ 4 ∧ w.bitOf SUP_STAT_SUSPECT c = false) →
      ∃ t : State, exec (.supSet iss m op v) s = .next (t.complete iss Status.ok [m.toNat]) ∧ ∀ c : Fin 32,
        (m.getLsbD c.val = true →
          t.fieldOf SUP_VSET_VSET c.val = (if v = 0xFFFF then s.fieldOf SUP_VSET_VSET c.val else v.toNat) ∧
          (op = 0 → t.supState c.val = if w.supState c.val = 1 ∨ w.supState c.val = 2 then 3 else if w.supState c.val = 4 then 0 else w.supState c.val) ∧
          (op = 1 → t.supState c.val = if w.supState c.val = 0 ∨ w.supState c.val = 3 then 1 else w.supState c.val) ∧
          (op = 2 → t.supState c.val = 0)) ∧
        (m.getLsbD c.val = false → t.reg .SUP_VSET c.val = s.reg .SUP_VSET c.val ∧ t.reg .SUP_STAT c.val = s.reg .SUP_STAT c.val)) ∧
    (s.txnOf iss.mb.val = none → op = 1 → unheld → (∃ c ∈ maskList m 32, w.supState c = 4) →
      exec (.supSet iss m op v) s = .next (s.complete iss Status.wrongState [])) ∧
    (s.restOfBeat = [] → w = s) ∧
    (∀ (c : Fin 32) (x : MonitorInput), m.getLsbD c.val = true → s.restOfBeat = [.supComparatorTrip c x] →
      exec (.supComparatorTrip c x) s = if s.running = true then .next w else .next s) ∧
    ∀ x, s.txnOf iss.mb.val = some x → x.rolled = false → x.pending = none →
      shadowSize (addShadow x.entries (.load (.supSet iss m op v) [])) ≤ 4096 →
      exec (.supSet iss m op v) s = .next ((s.modTxn iss.mb.val fun x => { x with
        entries := addShadow x.entries (.load (.supSet iss m op v) []) }).complete iss Status.ok [m.toNat])) ∧
  (∀ (iss : Issuer) (c m : Byte) (s : State), s.serves iss → c.toNat < 32 → m ≠ 0 → m.toNat < 16 → s.supState c.toNat = 0 →
    (iss.nowait = true → s.supOwnerIdle c.toNat = true) →
    exec (.supSelftest iss c m) s = .next (s.defer iss (.supSelftest iss c m) 0 [])) ∧
  (∀ (i : Nat) (failed : BitVec 4) (d : Deferred) (iss : Issuer) (c m : Byte) (s : State), s.running = true → s.hst.deferred[i]? = some d →
    d.cmd = .supSelftest iss c m → d.started = true → d.outcome = none → d.due ≤ s.beat.lbc → m.toNat < 16 → c.toNat < 32 →
    let bad := failed.toNat &&& m.toNat
    ∃ t, exec (.supSelftestEnd i failed) s = .next t ∧
      t.hst.deferred = s.hst.deferred.set i { d with outcome := some (Status.ok, [m.toNat - bad, bad]) } ∧
      (bad ≠ 0 → t.bitOf SUP_STAT_SUSPECT c.toNat = true ∧ t.hsk.lines = s.hsk.lines ++ [s.faultLine 6 0 0x0602 (bad * 256 + c.toNat) 0]) ∧
      (bad = 0 → t.hsk.lines = s.hsk.lines ∧
        t.bitOf SUP_STAT_SUSPECT c.toNat = if m = 15 then false else s.bitOf SUP_STAT_SUSPECT c.toNat)) ∧
  (∀ (c : Fin 32) (v : W32) (s : State), s.running = true →
    ∃ t, exec (.supLatchClear c v) s = .next t ∧
      ∀ m : Fin 4, t.supLatch c.val m.val = (s.supLatch c.val m.val && !(v.getLsbD m.val))) ∧
  (∀ (c : Fin 32) (s : State), s.running = true → s.supEn c.val = true → (s.sup c.val).fresh = false →
    (s.sup c.val).stepAt + (if (s.sup c.val).fast then 1 else s.fieldOf SUP_CFG_SS_DIV c.val) ≤ s.beat.lbc →
    let goal := if s.supState c.val = 3 then 0 else s.fieldOf SUP_VSET_VSET c.val
    let a := (s.sup c.val).act
    ∃ t, exec (.softStartStep c) s = .next t ∧ (t.sup c.val).stepAt = s.beat.lbc ∧
      (t.sup c.val).act = (if a < goal then a + 1 else if goal < a then a - 1 else a) ∧
      t.supState c.val = if s.supState c.val = 1 ∧ (t.sup c.val).act = goal then 2 else s.supState c.val) ∧
  ∀ (c : Fin 32) (b : Nat) (s : State), s.running = true → (s.sup c.val).zeroAt = some b → s.supState c.val = 3 → b + 16000 ≤ s.beat.lbc →
    ∃ t, exec (.rampDownDone c) s = .next t ∧ t.supState c.val = 0 ∧ (t.sup c.val).pwm = false

/-- At a beat with (LBC - floor(c DIV / 32)) mod DIV = 0, once, SUP_PERIOD_START takes the sample and, with EN still high
after the latches of the last period are released and VSET_ACT known, puts the command of one period ago into force,
raises PWM unless the command is 0 or a held PEAK latch forbids it, and computes the next command by R302.
PEAK_COMPARATOR_TRIP ends the on-time where, 40 ns into it and not past the duty limit, the sensed current reaches the
command less the slope ramp, or at the duty limit, and else does nothing; a period that the comparator ends with the
command at ILIM trips the PEAK monitor. A comparator that reads its input beyond its threshold, or still within the 2
LSB of hysteresis of a threshold that it has crossed (on which side they lie: log entry 90), and is neither blanked
nor UNRESOLVED, sets its latch with its event and action; the others leave every latch, the state and the pending
events as they are. SUP_COMPARATOR_RESOLVE of an UNRESOLVED comparator to an input outside its band clears its marks
and then judges the input. ENABLE_BLANKING_END marks the comparators whose 20 us have passed (UV not in START)
UNRESOLVED and INBAND where in their band, and judges the others. (Rests on R299; R300; R301; R302; R303; R304; R305;
R311; 11_supplies.md.) -/
def Obligations.SuppliesRegulateAndTrip : Prop :=
  (∀ (c : Fin 32) (x : BitVec 12) (s : State), s.running = true → s.supDiv ≠ 0 →
    ((s.beat.lbc : Int) - (c.val * s.supDiv / 32 : Nat)) % s.supDiv = 0 → (s.sup c.val).period ≠ some s.beat.lbc →
    (s.supNewPeriod c.val).supEn c.val = true → (s.sup c.val).fresh = false →
    let y := s.sup c.val
    let e : Int := y.act - x.toNat
    ∃ t, exec (.supPeriodStart c x) s = .next t ∧ t.fieldOf SUP_LOOP_SAMPLE c.val = x.toNat ∧
      t.fieldOf SUP_LOOP_CMD c.val = y.u.toNat % 4096 ∧ (t.sup c.val).e1 = e ∧ (t.sup c.val).e2 = y.e1 ∧
      (t.sup c.val).pwm = !(y.u == 0 || (s.supLatch c.val 3 && s.supLsw c.val 3)) ∧
      (t.sup c.val).u = supCommand (signed 16 (s.fieldOf SUP_COMP_A_A0 c.val)) (signed 16 (s.fieldOf SUP_COMP_A_A1 c.val))
        (signed 16 (s.fieldOf SUP_COMP_B_A2 c.val)) y.u e y.e1 y.e2 (s.fieldOf SUP_THR_I_ILIM c.val)) ∧
  (∀ (c : Fin 32) (sense : Int) (ofs : Fin 1250000) (b : Nat) (s : State), s.running = true → (s.sup c.val).pwm = true →
    (s.sup c.val).period = some b →
    let fs := (s.beat.lbc - b) * 1250000 + ofs.val
    let limit := s.supDiv * 1250000 * (if s.fieldOf SUP_CFG_RAMP c.val = 0 then 50 else 90) / 100
    let reached : Bool := decide (40000000 ≤ fs ∧ fs ≤ limit ∧
      ((16000000 * s.fieldOf SUP_LOOP_CMD c.val : Nat) : Int) - (s.fieldOf SUP_CFG_RAMP c.val * fs : Nat) ≤ 400 * sense)
    let limited := reached && s.fieldOf SUP_LOOP_CMD c.val == s.fieldOf SUP_THR_I_ILIM c.val
    let u := s.modSup c.val fun x => { x with pwm := false, limited := limited }
    (reached = true ∨ limit ≤ fs → exec (.peakComparatorTrip c ⟨sense, ofs⟩) s =
      .next (if limited = true ∧ s.supWatches c.val 3 = true then u.supTrip c.val 3 else u)) ∧
    (reached = false → fs < limit → exec (.peakComparatorTrip c ⟨sense, ofs⟩) s = .next s)) ∧
  (∀ (c : Fin 32) (m : Fin 4) (v : Int) (s : State), s.running = true →
    let beyond : Bool := match m.val with
      | 0 => decide ((5000 * s.fieldOf SUP_THR_V_OV c.val : Nat) < v)
      | 1 => decide (v < (5000 * s.fieldOf SUP_THR_V_UV c.val : Nat))
      | 2 => decide ((160 * s.fieldOf SUP_THR_I_OC c.val : Nat) < v)
      | _ => (s.sup c.val).limited
    let band : Bool := match m.val with
      | 0 => decide ((5000 * s.fieldOf SUP_THR_V_OV c.val : Nat) - 10000 < v)
      | 1 => decide (v < (5000 * s.fieldOf SUP_THR_V_UV c.val : Nat) + 10000)
      | 2 => decide ((160 * s.fieldOf SUP_THR_I_OC c.val : Nat) - 320 < v)
      | _ => false
    let reads := beyond || ((s.sup c.val).tripped.testBit m.val && band)
    (reads = false ∨ s.supWatches c.val m.val = false → ∃ t, exec (.supComparatorTrip c ⟨m, v⟩) s = .next t ∧
      (∀ k : Fin 4, t.supLatch c.val k.val = s.supLatch c.val k.val) ∧ t.supState c.val = s.supState c.val ∧ t.regs = s.regs ∧
      t.hsk = s.hsk ∧ (m.val < 3 → (t.sup c.val).tripped.testBit m.val = reads)) ∧
    (reads = true → s.supWatches c.val m.val = true → s.supTesting c.val = false → s.supLatch c.val m.val = false →
      ∃ t, exec (.supComparatorTrip c ⟨m, v⟩) s = .next t ∧ t.supLatch c.val m.val = true ∧
        ((s.sup c.val).prev.testBit m.val = false → t.bitOf ⟨.HSK_EVT_PEND, 0, (656 + 4 * c.val + m.val) % 32, (656 + 4 * c.val + m.val) % 32⟩
          ((656 + 4 * c.val + m.val) / 32) = true ∧
          (s.supAction c.val m.val = 2 → s.supEn c.val = true → t.supState c.val = 4)))) ∧
  (∀ (c : Fin 32) (m : Fin 4) (v : Int) (s : State), s.running = true →
    let u := s.setReg .SUP_STAT c.val 0 (s.reg .SUP_STAT c.val &&& ~~~(BitVec.ofNat 32 (2 ^ (8 + m.val) + 2 ^ (4 + m.val))))
    ((s.reg .SUP_STAT c.val).getLsbD (8 + m.val) = true → s.supBand c.val m.val v = false →
      exec (.supComparatorResolve c m v) s = .next (u.supJudge c.val m.val (u.supOver c.val m.val v))) ∧
    ((s.reg .SUP_STAT c.val).getLsbD (8 + m.val) = false ∨ s.supBand c.val m.val v = true → exec (.supComparatorResolve c m v) s = .next s)) ∧
  ∀ (c : Fin 32) (peak : Bool) (volts amps : Int) (b : Nat) (s : State), s.running = true → (s.sup c.val).enAt = some b →
    b + 16000 ≤ s.beat.lbc →
    let l := (List.range 4).filter (fun m => (s.sup c.val).blank.testBit m && !(m == 1 && s.supState c.val == 1))
    let input (m : Nat) : Int := if m = 2 then amps else volts
    let inBand (m : Nat) : Bool := if m = 3 then peak else s.supBand c.val m (input m)
    let band := listMask (l.filter inBand)
    let v := s.modSup c.val fun x => { x with blank := x.blank &&& (15 - listMask l) }
    let u := v.setReg .SUP_STAT c.val 0 (s.reg .SUP_STAT c.val &&& ~~~(BitVec.ofNat 32 (listMask l * 272)) ||| BitVec.ofNat 32 (band * 272))
    exec (.enableBlankingEnd c peak ⟨volts, amps⟩) s = .next (each l (fun m s =>
      s.supJudge c.val m (m != 3 && !(inBand m) && s.supOver c.val m (input m))) u)

/-- In RUN, a host write of a fast-page word does what R39 gives the word: a doorbell of mailbox m moves SQ_TAIL or
CQ_HEAD, words 0 to 3 of the version 1 mailbox store the value, word 0x3020 without GO clears DONE where CLEAR is set,
an MSI-X table word stores it (of vector control bit 0 only), HSK_ACK clears the status bits written with 1 but for
those that a fault of this boundary has set or found set, and every offset that the page does not list, or that is
read-only, is ignored; an 8-byte write is the write of the lower word and then of the upper one, of words that are no
64-bit register too (log entry 88). HSK_ACK_WRITE of either half does the same at once; the faults presented at this
boundary are latched before the bits clear (R441). (Rests on R39; R46; R47; R75; R441; 02_sesame.md; 18_husk.md.) -/
def Obligations.FastPageWritesAct : Prop :=
  (∀ (a : W64) (v : W32) (s : State), s.running = true →
    (∀ m < 16, a.toNat = 0x1000 + 0x10 * m → exec (.registerWrite .host a ⟨v, none⟩) s = .next (s.writeSqTail m v)) ∧
    (∀ m < 16, a.toNat = 0x1004 + 0x10 * m → exec (.registerWrite .host a ⟨v, none⟩) s = .next (s.writeCqHead m v)) ∧
    (∀ i < 4, a.toNat = 0x3000 + 4 * i → exec (.registerWrite .host a ⟨v, none⟩) s = .next (s.setV1 i v)) ∧
    (a.toNat = 0x3020 → v.getLsbD 0 = false →
      exec (.registerWrite .host a ⟨v, none⟩) s = .next (if v.getLsbD 2 then s.setV1 8 (s.v1Word 8 &&& 3) else s)) ∧
    (∀ i < 64, ∀ j < 4, a.toNat = 0xE000 + 16 * i + 4 * j → ∃ t, exec (.registerWrite .host a ⟨v, none⟩) s = .next t ∧
      t.msixWord (4 * i + j) = (if j = 3 then v &&& 1 else v) ∧
      (∀ k, k ≠ 4 * i + j → t.msixWord k = s.msixWord k) ∧ { t.hst with msix := s.hst.msix } = s.hst ∧ { t with hst := s.hst } = s) ∧
    (a.toNat = 0x110 → exec (.registerWrite .host a ⟨v, none⟩) s = exec (.hskAckWrite false v) s) ∧
    (a.toNat = 0x114 → exec (.registerWrite .host a ⟨v, none⟩) s = exec (.hskAckWrite true v) s) ∧
    (a.toNat < 0x110 ∨ 0x118 ≤ a.toNat ∧ a.toNat < 0x1000 ∨ 0x1100 ≤ a.toNat ∧ a.toNat < 0x3000 ∨
      0x3010 ≤ a.toNat ∧ a.toNat < 0x3020 ∨ 0x3024 ≤ a.toNat ∧ a.toNat < 0xE000 ∨ 0xE400 ≤ a.toNat →
      exec (.registerWrite .host a ⟨v, none⟩) s = .next s) ∧
    ∀ h : W32, exec (.registerWrite .host a ⟨v, some h⟩) s =
      (match exec (.registerWrite .host a ⟨v, none⟩) s with | .next t => t.writeFast (a.toNat + 4) h | o => o)) ∧
  ∀ (high : Bool) (v : W32) (s : State), s.running = true →
    let w : W64 := if high then v.zeroExtend 64 <<< 32 else v.zeroExtend 64
    let u := s.latchFaults
    let keep : W64 := if u.hsk.freshBeat = s.beat.lbc then u.hsk.fresh else 0
    (s.presented = [] → u = s) ∧
    ∃ t, exec (.hskAckWrite high v) s = .next t ∧ t.status = u.status &&& ~~~(w &&& ~~~keep) ∧ t.hsk = u.hsk ∧
      { t with regs := u.regs } = u

/-- In RUN: a firmware core's write of a register word acts on that register; its write of a doorbell, and an applet's of
a doorbell of its own engines, sets the queue's tail; an applet's write of anything else is ignored; an 8-byte write
is the write of the lower word and then of the upper one (log entry 88). DMA_DOORBELL_WRITE sets the tail of an
enabled queue, modulo its ring (log entry 105), and of a disabled one nothing. MGT_RXQ_REL_WRITE releases that number
of the oldest frames (log entry 25). SEQ_GR_WRITE stores the value while the thread is idle and is ignored else.
HSK_INJECT_WRITE by the host or firmware, while FAULT_INJECT is agreed, of a valid value is held for the next
boundary; any other is ignored. APPLET_REG_REQUEST of an applet core in RUN with a grant, while firmware is READY, the
module agreed and no shutdown pending: a request for an unassigned address or a register outside the grant is answered
with BAD_ARGUMENT and changes nothing; a read of a register inside it answers its value, with what a read of it does;
a write of a transaction-only register inside it answers WRONG_STATE, since no register of a grant has a check of a
lower status, and changes nothing else; a write of another that its chapter does not refuse is done under its mask and
answered OK. (Rests on R139; R379; R394; R398; R445; R60; R478; 15_hazel.md; 18_husk.md.) -/
def Obligations.CoreAndAppletAccessesAct : Prop :=
  (
  (∀ (k : Fin 8) (a : W64) (v : W32) (s : State), s.running = true →
    (∀ r, doorbellAt a.toNat = none → regAt a.toNat = some r → k.val < 2 → exec (.registerWrite (.hazel k) a ⟨v, none⟩) s =
      .next (State.settleWrite s r (s.writeReg (k.val + 1) r v 0xFFFFFFFF))) ∧
    (∀ (e : Fin 16) (q : Fin 4), doorbellAt a.toNat = some (e.val, q.val) → (k.val < 2 ∨ (s.grant k.val).engineList.contains e.val = true) →
      exec (.registerWrite (.hazel k) a ⟨v, none⟩) s = exec (.dmaDoorbellWrite e q v) s) ∧
    (2 ≤ k.val → (∀ e q, doorbellAt a.toNat = some (e, q) → (s.grant k.val).engineList.contains e = false) →
      exec (.registerWrite (.hazel k) a ⟨v, none⟩) s = .next s) ∧
    ∀ h : W32, exec (.registerWrite (.hazel k) a ⟨v, some h⟩) s = .next ((s.writeCore k.val a.toNat v).writeCore k.val (a.toNat + 4) h)) ∧
  (∀ (e : Fin 16) (q : Fin 4) (v : W32) (s : State), s.running = true →
    (s.bitOf MGT_DEQ_CFG_EN (4 * e.val + q.val) = true → ∃ t, exec (.dmaDoorbellWrite e q v) s = .next t ∧
      t.dq e.val q.val = { s.dq e.val q.val with tail := v.toNat % 2 ^ s.fieldOf MGT_DEQ_CFG_LOG2 (4 * e.val + q.val) }) ∧
    (s.bitOf MGT_DEQ_CFG_EN (4 * e.val + q.val) = false → exec (.dmaDoorbellWrite e q v) s = .next s)) ∧
  (∀ (q : Fin 8) (v : W32) (s : State), s.running = true → ∃ t, exec (.mgtRxqRelWrite q v) s = .next t ∧
    (t.rxq q.val).frames = (s.rxq q.val).frames.drop v.toNat) ∧
  (∀ (i : Fin 512) (v : W32) (s : State), s.running = true →
    (s.idle (i.val / 16) = true → ∃ t, exec (.seqGrWrite i v) s = .next t ∧ t.reg .SEQ_GR i.val = v ∧ { t with regs := s.regs } = s) ∧
    (s.idle (i.val / 16) = false → exec (.seqGrWrite i v) s = .next s)) ∧
  ∀ (who : Writer) (v : W32) (s : State), s.running = true →
    ((∀ k : Fin 8, who = .hazel k → k.val < 2) → s.feature 9 = true → injectOk v = true →
      exec (.hskInjectWrite who v) s = .next (s.withHsk fun h => { h with inject := some (v &&& 0xCF00FF00) })) ∧
    (s.feature 9 = false ∨ injectOk v = false ∨ (∃ k : Fin 8, who = .hazel k ∧ 2 ≤ k.val) → exec (.hskInjectWrite who v) s = .next s)) ∧
  (
  ∀ (core : Fin 8) (a : W64) (w : Option (W32 × W32)) (s : State), s.running = true → 2 ≤ core.val → (s.grant core.val).count ≠ 0 →
    s.coreState core.val = 1 → s.ready = true → s.agreed = true → s.shutDown = false →
    let put (st : Nat) (v : W32) (t : State) : State :=
      t.withMgt fun m => { m with answers := m.answers.set (fun _ => (0, 0)) core.val (st, v.toNat) }
    ((regAt a.toNat = none ∨ ∃ r, regAt a.toNat = some r ∧ s.granted (s.grant core.val) r = false) →
      exec (.appletRegRequest core a w) s = .next (put Status.badArgument 0 s)) ∧
    ∀ r, regAt a.toNat = some r → s.granted (s.grant core.val) r = true →
      (let x := (s.beforeRead r).readReg (.hazel core) r
       w = none → exec (.appletRegRequest core a w) s = .next (put Status.ok x.1 x.2)) ∧
      ∀ v m, w = some (v, m) →
        (r.stem.info.txn = true → exec (.appletRegRequest core a w) s = .next (put Status.wrongState 0 s)) ∧
        (r.stem.info.txn = false → (∀ p ∈ s.writeChecks (core.val + 1) r v m, p.1 = false) → exec (.appletRegRequest core a w) s =
          .next (put Status.ok 0 (s.writeReg (core.val + 1) r v m))))

/-- In RUN, MEM_GRANULE_ACCESS outside the backed range is answered as an address-map fault, and of a LOST controller with
a poisoned read or a write that its writer is told has failed, with nothing else changed but that a stream read's
granule is lost to the passes that await it. Of a controller not LOST whose queue is empty and whose channel may take
an activate, outside a fault injection and, for background work, its deferral, it is performed in this step: with at
most four mismatching repeats each is counted in MEM_EDC_CNT, nothing is raised, a read is answered with its 128 bytes
and leaves memory, and a write changes exactly the bytes that its mask selects; with a fifth, four are counted and
0x0803 is raised with the granule, C2 with the waiting sites for a stream read, whose granule the threads that await
it lose, and C0 for every other; a read is answered poisoned, and of memory at most a write's granule changes. While
the channel may take no activate the request joins the queue (what a queued write has stored, log entry 78): a read
promotes the queued writes of its granule, and a write that finds 64 writes queued waits at its port. No unmatched
write of a channel is chosen while a promoted one of it that waits for nothing stands queued. In RUN: EDC_WINDOW_END
of a window of 1 ms (800,000 beats) zeroes the repeats, and where they exceed THRESH raises C0 0x0801, INJ where it
was above THRESH only by injected repeats, and schedules a read retraining; PERIODIC_READ_RETRAINING carries it out.
GDDR6_TEMP_READ of an ACTIVE controller, 1 ms after the last, puts both valid readings into MEM_TEMP and THM_G_TEMP
and wants the doubled rate above 85 degrees and the normal one below 80; a failed readout of device A reads 0x8000,
wants the doubled rate and raises C0 0x0802. REFRESH_INTERVAL takes over the wanted rates. DEVICE_LOST of a device of
an ACTIVE controller makes it LOST, marks the device failed and raises C3 0x0805. (Rests on R3; R314; R315; R317;
R319; R320; R323; R428; R316; R446; 12_gddr6.md.) -/
def Obligations.Gddr6GranulesAndControllers : Prop :=
  (
  ∀ (cls : MemClass) (g n : Nat) (w : Option (List (Option Byte))) (s : State), s.running = true →
    (s.backed / 128 ≤ g → exec (.memGranuleAccess cls g w n) s = .next (s.answerMem g .mapFault)) ∧
    (g < s.backed / 128 →
      let p := s.place6 g
      let m := p.mc
      let r : MemReq := ⟨cls, g, w, n, [], false⟩
      (s.ctlState m = 3 → exec (.memGranuleAccess cls g w n) s =
        .next ((if cls = .stream ∧ w = none then s.loseGranule g else s).answerMem g (if w = none then .poisoned else .failed))) ∧
      (s.ctlState m ≠ 3 → (s.ctl m).queue = [] → (s.ctl m).held = [] → (s.ctl m).free p.ch ≤ s.beat.lbc → s.meas.lost = false →
        (w = none → s.injected 4 m = false) → (cls = .background → s.classDeferred 3 = false) → ∃ t, exec (.memGranuleAccess cls g w n) s = .next t ∧ (t.ctl m).queue = [] ∧
        t.reg64 .MEM_EDC_CNT m = s.reg64 .MEM_EDC_CNT m + BitVec.ofNat 64 (min n 4) ∧ s.ramKept t (128 * g) 128 ∧
        (n ≤ 4 → t.hsk = s.hsk ∧ t.meas.answer = some (g, if w = none then .data (s.mem (128 * g) 128) else .written) ∧
          ∀ i < 128, t.ram.get ramDefault (128 * g + i) =
            (match w with | some l => (match l[i]? with | some (some b) => b | _ => s.ram.get ramDefault (128 * g + i))
                          | none => s.ram.get ramDefault (128 * g + i))) ∧
        (4 < n → t.meas.answer = some (g, if w = none then .poisoned else .failed) ∧
          t.hsk.lines = s.hsk.lines ++ [(s.beat.lbc + 1, ⟨8, if cls = .stream ∧ w = none then 2 else 0, 0x0803, g % 2 ^ 30,
            if cls = .stream ∧ w = none then BitVec.ofNat 32 (s.awaiting g) else 0, false, none⟩)] ∧ (w = none → t.ram = s.ram) ∧
          (cls = .stream → w = none → ∀ th : Fin 32, t.thr th.val =
            if th.val ∈ s.awaiters g then (s.thr th.val).lose g else s.thr th.val))) ∧
      (s.ctlState m ≠ 3 → s.beat.lbc < (s.ctl m).free p.ch → exec (.memGranuleAccess cls g w n) s = .next (s.accept6 m r)) ∧
      (w = none → s.accept6 m r = s.modCtl m fun c => { c with queue := (c.queue.map (fun e =>
        if e.granule = g ∧ e.write.isSome then { e with promoted := true } else e)) ++ [{ r with data := s.mem (128 * g) 128 }] }) ∧
      (w ≠ none → 64 ≤ (writes (s.ctl m).queue).length → s.accept6 m r = s.modCtl m fun c => { c with held := c.held ++ [r] }) ∧
      ∀ (ch i : Nat) (x : MemReq), s.next6 m ch = some (x, i) → (s.ctl m).queue[i]? = some x ∧ (s.place6 x.granule).ch = ch ∧
        x.ready ((s.ctl m).queue.take i) = true ∧ (x.write.isSome = true → x.promoted = false →
          ∀ y ∈ (s.ctl m).queue.zipIdx, y.1.promoted = true → (s.place6 y.1.granule).ch = ch →
            y.1.ready ((s.ctl m).queue.take y.2) = false))) ∧
  (
  ∀ (mc : Fin 16) (s : State), s.running = true →
    ((s.ctl mc.val).window + 800000 ≤ s.beat.lbc → ∃ t, exec (.edcWindowEnd mc) s = .next t ∧ (t.ctl mc.val).edc = 0 ∧
      (t.ctl mc.val).window = s.beat.lbc ∧
      (s.fieldOf MEM_EDC_CFG_THRESH 0 < (s.ctl mc.val).edc → (t.ctl mc.val).retrain = true ∧
        t.hsk.lines = s.hsk.lines ++ [(s.beat.lbc + 1, ⟨8, 0, 0x0801, mc.val, 0,
          decide ((s.ctl mc.val).edc - (s.ctl mc.val).edcInjected ≤ s.fieldOf MEM_EDC_CFG_THRESH 0), none⟩)]) ∧
      ((s.ctl mc.val).edc ≤ s.fieldOf MEM_EDC_CFG_THRESH 0 → (t.ctl mc.val).retrain = (s.ctl mc.val).retrain ∧ t.hsk = s.hsk)) ∧
    exec (.periodicReadRetraining mc) s = .next (s.modCtl mc.val fun c => { c with retrain := false }) ∧
    (∀ a b : Int, s.ctlState mc.val = 2 → (∀ r, (s.ctl mc.val).readAt = some r → r + 800000 ≤ s.beat.lbc) →
      -2 ^ 15 < a → a < 2 ^ 15 → -2 ^ 15 < b → b < 2 ^ 15 → ∃ t, exec (.gddr6TempRead mc (some a) (some b)) s = .next t ∧
        signed 16 (t.fieldOf MEM_TEMP_TEMP_A mc.val) = a ∧ signed 16 (t.fieldOf MEM_TEMP_TEMP_B mc.val) = b ∧
        signed 16 (t.fieldOf THM_G_TEMP_TEMP (2 * mc.val)) = a ∧ signed 16 (t.fieldOf THM_G_TEMP_TEMP (2 * mc.val + 1)) = b ∧
        (340 < a → (t.ctl mc.val).wantA = true) ∧ (a < 320 → (t.ctl mc.val).wantA = false) ∧
        (340 < b → (t.ctl mc.val).wantB = true) ∧ (b < 320 → (t.ctl mc.val).wantB = false) ∧ t.hsk.lines = s.hsk.lines) ∧
    (∀ b : Int, s.ctlState mc.val = 2 → (∀ r, (s.ctl mc.val).readAt = some r → r + 800000 ≤ s.beat.lbc) →
      ∃ t, exec (.gddr6TempRead mc none (some b)) s = .next t ∧ t.fieldOf MEM_TEMP_TEMP_A mc.val = 0x8000 ∧
        t.fieldOf THM_G_TEMP_TEMP (2 * mc.val) = 0x8000 ∧ (t.ctl mc.val).wantA = true ∧
        t.hsk.lines = s.hsk.lines ++ [s.faultLine 8 0 0x0802 (2 * mc.val) 0]) ∧
    (s.ctlState mc.val = 2 → exec (.refreshInterval mc) s =
      .next ((s.putBit MEM_CTL_STAT_DBL_A mc.val (s.ctl mc.val).wantA).putBit MEM_CTL_STAT_DBL_B mc.val (s.ctl mc.val).wantB)) ∧
    ∀ d : Fin 32, d.val / 2 = mc.val → s.ctlState mc.val = 2 → ∃ t, exec (.deviceLost d) s = .next t ∧ t.ctlState mc.val = 3 ∧
      t.meas.lost = true ∧ t.bitOf (if d.val % 2 = 0 then MEM_CTL_STAT_FAIL_A else MEM_CTL_STAT_FAIL_B) mc.val = true ∧
      t.hsk.lines = s.hsk.lines ++ [s.faultLine 8 3 0x0805 d.val 0])

/-- In RUN: BLOCK_ALLOCATE for a pool that has room (HOLD below MAX, and FREE less 1 covering what the other pools may
still claim) and for which a block is free tags that block, with FREE one less and HOLD one more; without room it
changes nothing. BLOCK_FREE of a block whose tag names the pool is the inverse; of any other block it changes no count
and no tag and raises C1 0x0702 with the pool and the block. CST_READ of a word without an error changes nothing; with
one bit in error it raises C1 0x0703; with two, in a STREAM or PAD block, C2 0x0704 with the holding sites. (Which
free block is picked is the model's choice, log entry 9; the transit of one step, log entry 10.) (Rests on R204; R205;
R206; R208; R209; 07_streaming.md.) -/
def Obligations.BlocksKeepTheirBooks : Prop :=
  (∀ (p : Fin 7) (s : State), s.running = true → s.freeBlocks ≤ 65536 → s.hold p.val ≤ 65536 →
    (∀ b, s.hold p.val < s.fieldOf CST_POOL_CFG_MAX_M1 p.val + 1 → s.reserved p.val ≤ s.freeBlocks - 1 → 1 ≤ s.freeBlocks →
      s.pickBlock p.val = some b → ∃ t, exec (.blockAllocate p) s = .next t ∧ s.owner b = 0 ∧ t.owner b = p.val + 1 ∧
        (∀ x, x ≠ b → t.owner x = s.owner x) ∧ t.freeBlocks = s.freeBlocks - 1 ∧ t.hold p.val = s.hold p.val + 1 ∧
        (∀ q : Fin 7, q ≠ p → t.hold q.val = s.hold q.val)) ∧
    (s.fieldOf CST_POOL_CFG_MAX_M1 p.val + 1 ≤ s.hold p.val ∨ s.freeBlocks < s.reserved p.val + 1 →
      exec (.blockAllocate p) s = .next s)) ∧
  (∀ (p : Fin 7) (b : Fin 65536) (s : State), s.running = true → s.freeBlocks < 65536 → s.hold p.val ≤ 65536 →
    (s.owner b.val = p.val + 1 → ∃ t, exec (.blockFree p b) s = .next t ∧ t.owner b.val = 0 ∧ (∀ x, x ≠ b.val → t.owner x = s.owner x) ∧
      t.freeBlocks = s.freeBlocks + 1 ∧ t.hold p.val = s.hold p.val - 1 ∧ (∀ q : Fin 7, q ≠ p → t.hold q.val = s.hold q.val)) ∧
    (s.owner b.val ≠ p.val + 1 → ∃ t, exec (.blockFree p b) s = .next t ∧ t.cst = s.cst ∧ t.freeBlocks = s.freeBlocks ∧
      (∀ q : Fin 7, t.hold q.val = s.hold q.val) ∧ t.hsk.lines = s.hsk.lines ++ [s.faultLine 7 1 0x0702 (p.val * 2 ^ 29 + b.val) 0])) ∧
  ∀ (word : Nat) (s : State), s.running = true → word / 256 < 65536 → s.injected 1 (word / 8 % 256) = false →
    s.injected 2 (word / 8 % 256) = false →
    exec (.cstRead word 0) s = .next s ∧
    (∃ t, exec (.cstRead word 1) s = .next t ∧ t.cst = s.cst ∧ t.ram = s.ram ∧
      t.hsk.lines = s.hsk.lines ++ [s.faultLine 7 1 0x0703 (word / 256) 0]) ∧
    (s.owner (word / 256) = 1 ∨ s.owner (word / 256) = 2 → ∃ t, exec (.cstRead word 2) s = .next t ∧ t.cst = s.cst ∧
      t.hsk.lines = s.hsk.lines ++ [s.faultLine 7 2 0x0704 ((s.owner (word / 256) - 1) * 2 ^ 29 + word / 256) (BitVec.ofNat 32 (s.holders (word / 256)))])

/-- In RUN: FAULT_LATCH with no fault presented by this beat (one is presented the beat after its detection, or in the
beat that its chapter names) latches nothing; else it takes all that are presented, sets the status bit of each
recorded class, and queues and contains them together; then the events of the beats before are exchanged, unless a
commit of this boundary is awaited (log entry 11). Of a single fault, none having been latched in this beat before, of
class C0 whose bit is clear it leaves one record of that class and beat; of one whose bit is set it records the next
class with ESCALATED; of a C3 while a C3 bit is set the module enters FAULT_STOP. FAULT_RECORD_WRITE with none lost
moves up to four records in a beat, in order, under the next SEQNOs, and 256 are kept. HSK_REC_READ from a served
version 2 mailbox with a count of 1 to 256 and a destination in memory, 8-aligned, writes the records from the SEQNO
on and answers their number and the first: from the record of that SEQNO where the ring holds it (log entry 110), all
of them where it is older, none where it is not yet written. (Rests on R435; R436; R437; R439; R440; R443; R444; R449;
R451; 18_husk.md.) -/
def Obligations.FaultsAreLatchedAndRecorded : Prop :=
  (∀ s : State, s.running = true →
    let later := s.hsk.lines.filter (fun x => decide (s.beat.lbc < x.1))
    (later = s.hsk.lines → exec .faultLatch s = .next s.exchangeOnce) ∧
    (later ≠ s.hsk.lines → exec .faultLatch s = .next
      ((each s.latchedAll State.enqueueRecord (s.withHsk fun h => { h with lines := later })).contain s.latchedAll).exchangeOnce) ∧
    (s.commitAwaited = true → s.exchangeOnce = s) ∧ (s.commitAwaited = false → s.exchangeOnce = s.exchange) ∧
    ∀ f : FaultRec, s.presented = [f] → f.sub < 16 → s.hsk.freshBeat ≠ s.beat.lbc → (∀ r ∈ s.hsk.queue, r.lbc ≠ s.beat.lbc) →
      (f.cls = 0 → s.status.getLsbD (4 * f.sub) = false → s.hsk.queue.length < 64 → ∃ t : State, exec .faultLatch s = .next t.exchangeOnce ∧ t.hsk.lines = later ∧
        t.status = s.status ||| BitVec.ofNat 64 (2 ^ (4 * f.sub)) ∧
        t.hsk.queue = s.hsk.queue ++ [⟨f, 0, false, false, s.beat.lbc, s.ntu.sec, s.ntu.frac, s.ntu.ns, s.ntu.epoch⟩]) ∧
      (f.cls = 0 → s.status.getLsbD (4 * f.sub) = true → s.hsk.queue.length < 64 → ∃ t : State, exec .faultLatch s = .next t.exchangeOnce ∧ t.hsk.lines = later ∧
        t.status = s.status ||| BitVec.ofNat 64 (2 ^ (4 * f.sub + 1)) ∧
        t.hsk.queue = s.hsk.queue ++ [⟨f, 1, true, false, s.beat.lbc, s.ntu.sec, s.ntu.frac, s.ntu.ns, s.ntu.epoch⟩]) ∧
      (f.cls = 3 → s.status &&& c3Bits ≠ 0 → ∃ t : State, exec .faultLatch s = .next t.exchangeOnce ∧ t.faultStop = true)) ∧
  (∀ s : State, s.running = true → s.hsk.lost = 0 → s.hsk.ring.length ≤ 256 →
    let room := if s.hsk.movedAt = s.beat.lbc then 4 - s.hsk.moved else 4
    ∃ t, exec .faultRecordWrite s = .next t ∧ t.hsk.queue = s.hsk.queue.drop room ∧
    t.reg .HSK_REC_SEQ 0 = s.reg .HSK_REC_SEQ 0 + BitVec.ofNat 32 (min room s.hsk.queue.length) ∧ t.hsk.ring.length ≤ 256 ∧
    (t.hsk.ring.drop (t.hsk.ring.length - min room s.hsk.queue.length)).map Prod.snd = s.hsk.queue.take room ∧ t.hsk.lines = s.hsk.lines ∧
    t.hsk.movedAt = s.beat.lbc ∧ t.hsk.moved = 4 - room + min room s.hsk.queue.length) ∧
  ∀ (iss : Issuer) (dest : W64) (first : W32) (count : W16) (s : State), s.serves iss → iss.mb ≠ 16 → 1 ≤ count.toNat →
    count.toNat ≤ 256 → s.badRam dest 8 (64 * count.toNat) = false →
    let l := (s.recordsFrom first.toNat).take count.toNat
    (∀ before x after, s.hsk.ring = before ++ x :: after → (∀ p ∈ before, p.1 ≠ first.toNat) → x.1 = first.toNat →
      s.recordsFrom first.toNat = x :: after) ∧
    ((∀ p ∈ s.hsk.ring, p.1 ≠ first.toNat) → s.recordsFrom first.toNat =
      if first.toNat < (s.reg .HSK_REC_SEQ 0).toNat then s.hsk.ring else []) ∧
    exec (.hskRecRead iss dest first count) s = .next ((s.setMem dest.toNat (l.flatMap (fun p => Record.bytes p.1 p.2))).complete iss
      Status.ok [l.length, match l.head? with | some p => p.1 | none => (s.reg .HSK_REC_SEQ 0).toNat, (s.reg .HSK_REC_SEQ 0).toNat])

/-- In RUN, of a running Sprout thread with no POST of its own waiting: EXPECT adds its tokens to the thread's counter (a
sum beyond 16 bits leaves a free value: log entry 48); POST to a thread outside its applet's grant does nothing; else,
behind the events of earlier beats, enters the queue, or with the queue full waits, or is refused and counted under
CQ_REFUSE, and its thread holds the status that it returns; THREAD_YIELD leaves the thread WAITING while its counter
or BLOCKED count is not 0 and lets the next of its flow go on, else READY, and its core takes its list's head;
THREAD_RELEASE frees a thread of its own range. THREAD_CREATE of a free thread of the creator's range, on a core of
it, with a ring of 16 to 1,024 entries, creates it. THREAD_PREEMPT of a core in RUN with a switch request, whose
list's head stands above its running thread, exchanges the two. (Rests on R380; R381; R382; R383; R379; R385; R387;
15_hazel.md.) -/
def Obligations.SproutThreadsAct : Prop :=
  (∀ (x : Fin 1024) (n : W16) (s : State), s.running = true → s.acting x.val = true →
    (s.fieldOf MGT_SPR_THR_C x.val + n.toNat < 65536 →
      exec (.expect x n) s = .next (s.putField MGT_SPR_THR_C x.val (s.fieldOf MGT_SPR_THR_C x.val + n.toNat))) ∧
    (65536 ≤ s.fieldOf MGT_SPR_THR_C x.val + n.toNat → ∃ t, exec (.expect x n) s = .next t ∧ t.free = s.free + 1)) ∧
  (∀ (p x : Fin 1024) (v : W32) (s : State), s.running = true → s.acting p.val = true →
    let c : Entry := ⟨x.val, 2, 0, p.val, 1, v.toNat, 0⟩
    let e (b : Bool) : State := s.exchange.modSpr p.val fun y => { y with refused := b }
    let full := s.exchange.cqFull
    let own := s.reaches ((s.rangeOf p.val).getD 0) x.val
    (own = false → exec (.post p x v) s = .next s) ∧
    (own = true → full = false → exec (.post p x v) s = .next ((e false).enqueue c)) ∧
    (own = true → full = true → s.exchange.refusing = true → exec (.post p x v) s = .next (e true).refused) ∧
    (own = true → full = true → s.exchange.refusing = false →
      exec (.post p x v) s = .next ((e false).withMgt fun m => { m with posts := m.posts ++ [(p.val, c)] }))) ∧
  (∀ (x : Fin 1024) (n : Nat) (s : State), s.running = true → s.acting x.val = true →
    let u := s.modSpr x.val fun y => { y with fill := y.fill - n, since := s.beat.lbc }
    let w := u.putField MGT_SPR_THR_STATE x.val 1
    (s.fieldOf MGT_SPR_THR_C x.val = 0 → (s.spr x.val).blocked = 0 →
      exec (.threadYield x n) s = .next ((u.putField MGT_SPR_THR_STATE x.val 3).settleCore (s.sprCore x.val))) ∧
    (s.fieldOf MGT_SPR_THR_C x.val ≠ 0 ∨ (s.spr x.val).blocked ≠ 0 → exec (.threadYield x n) s =
      .next ((w.flowNext (s.sprFlow x.val)).settleCore (s.sprCore x.val)))) ∧
  (∀ (c x : Fin 1024) (k : Fin 8) (prio : Fin 32) (flow : Option (Fin 256)) (va : W64) (n : Nat) (s : State), s.running = true →
    s.sprState x.val = 0 → (c = x ∧ s.coreState k.val = 1 ∨ s.acting c.val = true) → s.rangeOf c.val = s.rangeOf x.val →
    (s.rangeOf x.val = some 0 ∧ k.val < 2 ∨ 2 ≤ k.val ∧ s.rangeOf x.val = some k.val) → 16 ≤ n → n ≤ 1024 →
    exec (.threadCreate c x k prio flow va n) s = .next ((((s.setReg .MGT_SPR_THR x.val 0 (BitVec.ofNat 32 (1 * 2 ^ 29 +
      prio.val * 2 ^ 24 + k.val * 2 ^ 21 + (if flow.isSome then 2 ^ 20 else 0)))).setReg .MGT_SPR_FLOW x.val 0
      (BitVec.ofNat 32 (match flow with | some f => f.val | none => 0))).modSpr x.val fun _ => { ringVa := va.toNat, ringLen := n }).wake x.val)) ∧
  (∀ (r x : Fin 1024) (s : State), s.running = true → s.acting r.val = true → s.rangeOf r.val = s.rangeOf x.val →
    exec (.threadRelease r x) s = .next (s.freeThread x.val)) ∧
  ∀ (k : Fin 8) (r x : Nat) (s : State), s.running = true → k.val ∈ s.mgt.switches → s.coreState k.val = 1 →
    s.runningOn k.val = some r → s.readyHead k.val = some x → s.sprPrio r < s.sprPrio x →
    ∃ t, exec (.threadPreempt k) s = .next t ∧ t.sprState r = 3 ∧ t.sprState x = 4 ∧ (t.spr r).since = s.beat.lbc ∧
      t.mgt.switches = s.mgt.switches.erase k.val

/-- In RUN, with no occurrence to exchange: COMPLETION_DELIVERY a second time in a beat changes nothing; of a queue of one
entry for a thread that is not FREE and whose counter is not 0, nothing else waiting, it empties the queue, counts
CONSUMED and takes one token; where the thread's ring has room one more entry fills it, and with the last token an
unblocked WAITING thread of no flow is READY or RUNNING; where the ring is full the entry is discarded with C0 0x0C05
and the next will say so. CQ_REFUSE_RETRY of a producer whose retry is due posts its completion, or is refused and
counted again for 64 beats later. (Rests on R384; R385; R386; R387; R388; 15_hazel.md.) -/
def Obligations.CompletionsReachTheirThreads : Prop :=
  (∀ s : State, s.running = true → s.hsk.occ = [] → s.mgt.delivered = some s.beat.lbc → exec .completionDelivery s = .next s) ∧
  (∀ (e : Entry) (s : State), s.running = true → s.hsk.occ = [] → s.mgt.delivered ≠ some s.beat.lbc → s.mgt.queue = [e] → e.thread < 1024 →
    s.mgt.heldEvents = [] → s.mgt.posts = [] → (∀ k < 16, (s.engine k).owed = []) → (∀ q < 8, (s.rxq q).wait = []) →
    s.sprState e.thread ≠ 0 → 1 ≤ s.fieldOf MGT_SPR_THR_C e.thread →
    ∃ t, exec .completionDelivery s = .next t ∧ t.mgt.queue = [] ∧
      t.reg64 .MGT_SPR_CONSUMED 0 = s.reg64 .MGT_SPR_CONSUMED 0 + 1 ∧
      t.fieldOf MGT_SPR_THR_C e.thread = s.fieldOf MGT_SPR_THR_C e.thread - 1 ∧
      ((s.spr e.thread).fill < (s.spr e.thread).ringLen → (t.spr e.thread).fill = (s.spr e.thread).fill + 1 ∧
        (t.spr e.thread).overflowed = false) ∧
      ((s.spr e.thread).ringLen ≤ (s.spr e.thread).fill → (t.spr e.thread).fill = (s.spr e.thread).fill ∧
        (t.spr e.thread).overflowed = true ∧ t.hsk.lines = s.hsk.lines ++ [s.faultLine 12 0 0x0C05 e.thread 0]) ∧
      (s.fieldOf MGT_SPR_THR_C e.thread = 1 → (s.spr e.thread).blocked = 0 → s.sprState e.thread = 1 → s.sprFlow e.thread = none →
        t.sprState e.thread = 3 ∨ t.sprState e.thread = 4)) ∧
  ∀ (p : Fin 24) (a : Nat) (s : State), s.running = true → a ≤ s.beat.lbc →
    (∀ c l, p.val < 16 → (s.engine p.val).owed = c :: l → (s.engine p.val).retryAt = some a →
      (s.cqFull = false → exec (.cqRefuseRetry p) s = .next ((s.modEngine p.val fun x => { x with
        owed := l, retryAt := if l.isEmpty then none else some s.beat.lbc }).enqueue c)) ∧
      (s.cqFull = true → exec (.cqRefuseRetry p) s = .next (s.refused.modEngine p.val fun x => { x with retryAt := some (s.beat.lbc + 64) }))) ∧
    (∀ f l, 16 ≤ p.val → (s.rxq (p.val - 16)).wait = f :: l → (s.rxq (p.val - 16)).retryAt = some a →
      (s.cqFull = false → exec (.cqRefuseRetry p) s = .next ((s.modRxq (p.val - 16) fun x => { x with
        wait := l, retryAt := if l.isEmpty then none else some s.beat.lbc }).rxDeliver (p.val - 16) f)) ∧
      (s.cqFull = true → exec (.cqRefuseRetry p) s =
        .next (s.refused.modRxq (p.val - 16) fun x => { x with retryAt := some (s.beat.lbc + 64) })))

/-- In RUN, of a core in state RUN: CORE_TRAP leaves it TRAPPED, an applet core with C2 0x0C01 for its sites, a firmware
core with C3 0x0C02, FW_STATE BOOT outside FAULT_STOP, no deferred command and no moving window left, and a BUSY
converter as it was before; of another core it changes nothing. The watchdog expires 100 ms (80,000,000 beats) after
its restart, as a trap. WATCHDOG_RESTART of an applet core outside READY waits as a request. FIRMWARE_RESTART, where
an image is valid, runs the trapped firmware cores and, where boot was complete and outside FAULT_STOP, reads READY
and serves the requests that waited. At a served mailbox MGT_APPLET_LOAD (APPLETS agreed, version 2) of a good image
for a core in RESET with masks no other applet holds and room makes the grant and is deferred (the lowest range, log
entry 26); MGT_APPLET_STOP of an applet core not in RESET is deferred; MGT_CORE_DUMP of a TRAPPED applet core writes
its register state, whose length and bytes the manual leaves open. (Rests on R374; R375; R376; R377; R378; R462; R463;
15_hazel.md.) -/
def Obligations.HazelCoresRunAndStop : Prop :=
  (∀ (k : Fin 8) (cause : W16) (s : State), s.running = true →
    (s.coreState k.val ≠ 1 → exec (.coreTrap k cause) s = .next s) ∧
    (s.coreState k.val = 1 → ∃ t l, exec (.coreTrap k cause) s = .next t ∧ t.coreState k.val = 2 ∧
      (2 ≤ k.val → t.hsk.lines = s.hsk.lines ++ s.faultLine 12 2 0x0C01 (cause.toNat * 65536 + k.val) (s.grant k.val).sites :: l) ∧
      (k.val < 2 → t.hsk.lines = s.hsk.lines ++ s.faultLine 12 3 0x0C02 (cause.toNat * 65536 + k.val) 0 :: l ∧ t.hst.deferred = [] ∧
        t.hst.winMove = none ∧ t.hst.winBase = s.hst.winBase ∧
        (∀ a : Fin 2, t.adcState a.val = if s.adcState a.val = 4 then (s.adc a.val).was % 8 else s.adcState a.val) ∧
        t.fieldOf HST_STATE_FW_STATE 0 = if s.faultStop then 2 else 0)) ∧
    (s.coreState k.val = 1 → s.mgt.dogs.get (fun _ => 0) k.val + 80000000 ≤ s.beat.lbc →
      ∃ t, exec (.coreWatchdogExpiry k) s = .next t ∧ t.coreState k.val = 2) ∧
    (s.beat.lbc < s.mgt.dogs.get (fun _ => 0) k.val + 80000000 → exec (.coreWatchdogExpiry k) s = .next s) ∧
    (s.coreState k.val = 1 → (k.val < 2 ∨ s.ready = true) → ∃ t, exec (.watchdogRestart k) s = .next t ∧
      t.mgt.dogs.get (fun _ => 0) k.val = s.beat.lbc ∧ t.regs = s.regs) ∧
    (s.coreState k.val = 1 → 2 ≤ k.val → s.ready = false →
      exec (.watchdogRestart k) s = .next (s.withMgt fun m => { m with requests := m.requests ++ [.watchdogRestart k] }))) ∧
  (∀ s : State, s.running = true → s.thm.latch = false →
    (s.beat.noImage = true → exec .firmwareRestart s = .next s) ∧
    (s.beat.noImage = false → (s.coreState 0 = 2 ∨ s.coreState 1 = 2) →
      let u := each ([0, 1].filter (fun k => s.coreState k == 2)) State.startCore s
      (s.faultStop = true ∨ s.beat.booted = false → exec .firmwareRestart s = .next u) ∧
      (s.faultStop = false → s.beat.booted = true → exec .firmwareRestart s = .next (u.putField HST_STATE_FW_STATE 0 1).serveRequests) ∧
      (∀ k < 2, u.coreState k = if s.coreState k = 2 then 1 else s.coreState k) ∧
      ∀ v : State, v.mgt.requests = [] → v.serveRequests = v)) ∧
  (∀ (iss : Issuer) (image : W64) (core threads engines queues : Byte) (sites quota : W32) (r : Nat) (s : State), s.serves iss →
    s.feature 5 = true → iss.mb ≠ 16 → 2 ≤ core.toNat → core.toNat ≤ 7 → image.toNat % 8 = 0 → 1 ≤ threads.toNat → threads.toNat ≤ 128 →
    1 ≤ quota.toNat → quota.toNat ≤ 4096 → s.imageBad image.toNat = false →
    s.grantedElse core.toNat (fun g => g.sites.toNat) sites.toNat = false → s.grantedElse core.toNat (fun g => g.engines) engines.toNat = false →
    s.grantedElse core.toNat (fun g => g.queues) queues.toNat = false → s.coreState core.toNat = 0 → s.freeRange threads.toNat = some r →
    ([2, 3, 4, 5, 6, 7].map (fun j => (s.grant j).quota)).sum + quota.toNat ≤ s.backed / 0x100000 → s.mayTake 5 1 = true →
    let h := s.mem image.toNat 64
    exec (.mgtAppletLoad iss image core threads engines queues sites quota) s = .next ((s.withMgt fun m => { m with
      grants := m.grants.set (fun _ => { }) core.toNat ⟨r, threads.toNat, engines.toNat, queues.toNat, sites, quota.toNat, leAt h 0x10 8⟩ }).defer iss
      (.mgtAppletLoad iss image core threads engines queues sites quota) 0 [r, leAt h 0x20 4])) ∧
  ∀ (iss : Issuer) (core : Byte) (s : State), s.serves iss → 2 ≤ core.toNat → core.toNat ≤ 7 →
    (s.coreState core.toNat ≠ 0 → exec (.mgtAppletStop iss core) s =
      .next (s.defer iss (.mgtAppletStop iss core) 0 [(s.grant core.toNat).count, (s.grant core.toNat).quota])) ∧
    ∀ dest : W64, s.coreState core.toNat = 2 → s.badRam dest 8 (Config.coreDumpLength core.toNat).val = false →
      exec (.mgtCoreDump iss dest core) s = .next ((s.setMem dest.toNat ((List.range (Config.coreDumpLength core.toNat).val).map
        (Config.coreDumpByte (s.mgt.dumps.get (fun _ => 0) core.toNat)))).complete iss Status.ok [(Config.coreDumpLength core.toNat).val])

/-- In RUN: DMA_DESCRIPTOR_START of a free engine takes the descriptor at the head of the highest ready queue into
service, resumes one begun before, ends a bad one with REJECTED (lengths: log entry 39), and with no queue ready takes
a transfer of MGT_DMA_HOST. DMA_GRANULE_MOVE does nothing without a transfer, with a completion held up, or in
FAULT_STOP; else the next at most 256 bytes of a COPY or the pattern of a FILL stand at the destination; after the
last the descriptor ends DONE; at a 4 KiB boundary a higher queue with a started descriptor pre-empts it, PROGRESS and
PREEMPTED written, and else it goes on. Where a page does not translate, nothing is moved, PROGRESS, FAULT and
FAULT_VA are written, thread 1 is told, BLOCKED counts, the event is raised and the queue stops. A SEND queues its
frame, or delivers it to the module itself, and ends DONE once the frame has left. A descriptor that ends has PROGRESS
and its STATUS written, leaves the ring, posts its completion unless NO_POST is set, and raises its event. A transfer
of MGT_DMA_HOST moves its next bytes by the tables of ASID 1 as firmware has them for it (log entry 97), pauses at a 4
KiB boundary for a queue, and ends OK, or with ABORTED_FAULT where a page does not translate. MGT_DEQ_RESUME lets a
faulted queue go on from its progress, or cancels its descriptor. MGT_DMA_HOST from a served version 2 mailbox of a
length in memory waits for one of DE0 to DE7 that has the fewest (log entry 27). (Rests on R387; R392; R393; R394;
R395; R396; R397; R389; 15_hazel.md.) -/
def Obligations.DmaEnginesMoveGranules : Prop :=
  let posted (s t : State) (e : Nat) (c : Entry) : Prop := (t.engine e).owed = [c] ∨ { c with lbc := s.beat.lbc } ∈ t.mgt.queue
  let wrote (s v t : State) (e q status prog : Nat) : Prop := t.ram =
    ((v.setMem (s.descAddr e q + 0x20) (leBytes 8 prog)).setMem (s.descAddr e q + 0x28) (leBytes 4 status)).ram
  let ended (s v t : State) (e q : Nat) (d : Desc) (status prog : Nat) : Prop := wrote s v t e q status prog ∧
    t.dq e q = { s.dq e q with head := ((s.dq e q).head + 1) % s.dqSize e q, cur := none, prog := 0, faulted := false } ∧
    (t.engine e).serving = none ∧ (976 + 2 * e, s.beat.lbc) ∈ t.hsk.occ ∧
    (d.flags.testBit 2 = false → s.reaches (s.dqAsid e q) d.thread = true → posted s t e ⟨d.thread, 0, 0, 4 * e + q, 1, d.tag, 0⟩)
  (∀ (e : Fin 16) (q : Nat) (s : State), s.running = true → s.engineFree e.val = true →
    ([3, 2, 1, 0].find? (s.dqReady e.val) = some q →
      let l := s.mem (s.descAddr e.val q) 64
      (∀ d : Desc, (s.dq e.val q).cur = some d → exec (.dmaDescriptorStart e) s = .next (s.modEngine e.val fun x => { x with serving := some q })) ∧
      ((s.dq e.val q).cur = none → descBad l (s.dqAsid e.val q) = true →
        ∃ t, exec (.dmaDescriptorStart e) s = .next t ∧ ended s s t e.val q (descOf l) 5 (s.dq e.val q).prog ∧ t.hostMem = s.hostMem) ∧
      ((s.dq e.val q).cur = none → descBad l (s.dqAsid e.val q) = false → ∃ t, exec (.dmaDescriptorStart e) s = .next t ∧
        t.dq e.val q = { s.dq e.val q with cur := some (descOf l), prog := 0 } ∧ (t.engine e.val).serving = some q ∧
        (t.engine e.val).sent = false)) ∧
    ([3, 2, 1, 0].find? (s.dqReady e.val) = none → (s.engine e.val).jobs ≠ [] →
      exec (.dmaDescriptorStart e) s = .next (s.modEngine e.val fun x => { x with serving := some 4 }))) ∧
  (∀ (eng : Fin 16) (host : List Byte) (s : State), s.running = true →
    let e := eng.val
    let run := exec (.dmaGranuleMove eng host) s
    (s.faultStop = true ∨ (s.engine e).owed ≠ [] ∨ (s.engine e).serving = none → run = .next s) ∧
    (s.faultStop = false → (s.engine e).owed = [] → s.dmaDeferred = false →
      (∀ (q : Nat) (d : Desc), q < 4 → (s.engine e).serving = some q → (s.dq e q).cur = some d →
        let k := (s.dq e q).prog
        let n := min 256 (d.len - k)
        (∀ va u, (if d.op = 2 then (s.engine e).sent = false ∧ s.granule e q d.len d 0 = (.inl va, u) else s.granule e q n d k = (.inl va, u)) →
          ∃ t, run = .next t ∧ t.dq e q = { s.dq e q with faulted := true } ∧ (t.engine e).serving = none ∧
            t.ram = (((u.setMem (s.descAddr e q + 0x20) (leBytes 8 k)).setMem (s.descAddr e q + 0x28) (leBytes 4 3)).setMem
              (s.descAddr e q + 0x30) (leBytes 8 va)).ram ∧ t.hostMem = s.hostMem ∧ (976 + 2 * e + 1, s.beat.lbc) ∈ t.hsk.occ ∧
            posted s t e ⟨1, 0, 1, 4 * e + q, 1, d.tag, 0⟩ ∧
            (s.blocks e q d = true → (t.spr d.thread).blocked = (s.spr d.thread).blocked + 1)) ∧
        (∀ (a b : List (Nat × Nat)) (u : State), d.op ≠ 2 → s.granule e q n d k = (.inr (a, b), u) →
          (d.op ≠ 1 → d.flags.testBit 0 = true → n ≤ host.length) →
          let l : List Byte := if d.op = 1 then (List.range n).map (fun i => BitVec.ofNat 8 (d.src / 256 ^ (i % 8)))
            else if d.flags.testBit 0 then host.take n else u.readPieces a
          let v := if d.flags.testBit 1 then u.setHost (d.dst + k) l else u.writePieces b l
          let higher := [3, 2, 1].any (fun h => decide (q < h) && s.dqReady e h)
          (k + n = d.len → ∃ t, run = .next t ∧ t.hostMem = v.hostMem ∧ ended s v t e q d 1 d.len) ∧
          (k + n ≠ d.len → (k + n) % 4096 ≠ 0 ∨ higher = false → ∃ t, run = .next t ∧ t.hostMem = v.hostMem ∧ t.ram = v.ram ∧
            t.dq e q = { s.dq e q with prog := k + n } ∧ (t.engine e).serving = some q ∧
            (d.flags.testBit 1 = true → v.ram = s.ram ∧ v.hostMem = s.hostMem.setList hostDefault (d.dst + k) l) ∧
            ∀ p, d.flags.testBit 1 = false → s.meas.lost = false → b = [(p, n)] →
              t.mem p n = l ∧ s.ramKept t p n ∧ t.hostMem = s.hostMem) ∧
          (k + n ≠ d.len → (k + n) % 4096 = 0 → higher = true →
            let x := (v.modDq e q fun y => { y with prog := k + n }).granule e q (min 256 (d.len - (k + n))) d (k + n)
            (∀ r w, x = (.inr r, w) → ∃ t, run = .next t ∧ t.hostMem = v.hostMem ∧ wrote s w t e q 2 (k + n) ∧
              t.dq e q = { s.dq e q with prog := k + n } ∧ (t.engine e).serving = none) ∧
            ∀ va w, x = (.inl va, w) → ∃ t, run = .next t ∧ t.hostMem = v.hostMem ∧ (t.engine e).serving = none ∧
              t.dq e q = { s.dq e q with prog := k + n, faulted := true })) ∧
        (d.op = 2 → (s.engine e).sent = true →
          let waits := (List.range 8).any (fun p => (s.port p).queue.any (fun x => x.origin == 9 + e))
          (waits = true → run = .next s) ∧
          (waits = false → ∃ t, run = .next t ∧ ended s s t e q d 1 d.len ∧ (t.engine e).sent = false)) ∧
        ∀ (a b : List (Nat × Nat)) (u : State), d.op = 2 → (s.engine e).sent = false → s.granule e q d.len d 0 = (.inr (a, b), u) →
          (d.flags.testBit 0 = true → d.len ≤ host.length) →
          let f := u.ownFrame 5 (d.dst / 65536 % 8) (d.dst % 2048) (if d.flags.testBit 0 then host.take d.len else u.readPieces a)
          let rx := f.aux.toNat % 8
          let sent (t : State) : State := t.modEngine e fun x => { x with sent := true }
          (u.isOwn (d.dst % 2048) = false → run = .next (sent (u.sendRouted (9 + e) f))) ∧
          (u.isOwn (d.dst % 2048) = true → u.bitOf MGT_RXQ_CFG_EN rx = false → run = .next (sent (u.countUp MGT_RXQ_STAT_DISCARD rx 1))) ∧
          (u.isOwn (d.dst % 2048) = true → u.bitOf MGT_RXQ_CFG_EN rx = true →
            (∀ blk w, u.takeBlock 4 = (some blk, w) → run = .next (sent ((w.setMem (0x4000000000 + 2048 * blk) (frameImage f)).postRx rx
              ⟨8, 2, frameBuffers f, 2048 * blk⟩))) ∧
            ∀ w, u.takeBlock 4 = (none, w) → run = .next w)) ∧
      (∀ (j : Job) (l : List Job), (s.engine e).serving = some 4 → (s.engine e).jobs = j :: l →
        let n := min 256 (j.len - j.moved)
        let at_ := j.phys + j.moved
        let m := (s.mapJob (j.phys, j.phys + j.len) at_).mapJob (j.phys, j.phys + j.len) (at_ + n - 1)
        let answered (t : State) (status moved : Nat) : Prop := (t.engine e).jobs = l ∧ (t.engine e).serving = none ∧
          t.hst.deferred = modFirst j.hit (fun d => { d with outcome := some (status, [moved]) }) s.hst.deferred
        (∀ va u, m.pieces 1 at_ n (if j.toHost then 2 else 3) = (.inl va, u) → ∃ t, run = .next t ∧ answered t Status.abortedFault j.moved ∧
          t.ram = u.ram ∧ t.hostMem = s.hostMem) ∧
        ∀ p u, m.pieces 1 at_ n (if j.toHost then 2 else 3) = (.inr p, u) → (j.toHost = false → n ≤ host.length) → ∃ t, run = .next t ∧
          (j.toHost = true → t.ram = u.ram ∧ t.hostMem = s.hostMem.setList hostDefault (j.bus + j.moved) (u.readPieces p)) ∧
          (j.toHost = false → t.hostMem = s.hostMem ∧ t.ram = (u.writePieces p (host.take n)).ram) ∧
          (j.moved + n = j.len → answered t Status.ok j.len) ∧
          (j.moved + n ≠ j.len → (t.engine e).jobs = { j with moved := j.moved + n } :: l ∧ t.hst.deferred = s.hst.deferred ∧
            (t.engine e).serving =
              if (j.moved + n) % 4096 = 0 ∧ [3, 2, 1, 0].any (s.dqReady e) = true then none else some 4)))) ∧
  (∀ (e : Fin 16) (q : Fin 4) (d : Desc) (s : State), s.running = true → s.ready = true → (s.dq e.val q.val).faulted = true →
    (s.dq e.val q.val).cur = some d →
    (∃ t, exec (.mgtDeqResume e q false) s = .next t ∧ t.dq e.val q.val = { s.dq e.val q.val with faulted := false } ∧
      (s.blocks e.val q.val d = true → (t.spr d.thread).blocked = (s.spr d.thread).blocked - 1)) ∧
    ∃ t, exec (.mgtDeqResume e q true) s = .next t ∧ wrote s s t e.val q.val 4 (s.dq e.val q.val).prog ∧
      t.dq e.val q.val = { s.dq e.val q.val with
        head := ((s.dq e.val q.val).head + 1) % s.dqSize e.val q.val, cur := none, prog := 0, faulted := false } ∧
      (976 + 2 * e.val, s.beat.lbc) ∈ t.hsk.occ) ∧
  ∀ (iss : Issuer) (bus phys : W64) (n : W32) (dir : Byte) (s : State), s.serves iss → iss.mb ≠ 16 → n ≠ 0 → dir.toNat ≤ 1 →
    s.inRam phys.toNat n.toNat = true → ∃ e < 8, (∀ j < 8, (s.engine e).jobs.length ≤ (s.engine j).jobs.length) ∧
    exec (.mgtDmaHost iss bus phys n dir) s = .next ((s.defer iss (.mgtDmaHost iss bus phys n dir) 0 []).modEngine e fun x =>
      { x with jobs := x.jobs ++ [⟨iss, bus.toNat, phys.toNat, n.toNat, dir == 1, 0⟩] })

/-- In RUN a port goes through the states of R344: a signal leads from DETECT to ALIGN, lock on usable lanes to EQ,
agreement to NEGOTIATE, an exchange back to ALIGN at the fast rate where both sides run version 2, else to CREDIT_INIT
with a set of R344 among the common lanes, and CREDIT_INIT to ACTIVE, resumed where each side presents the partner and
the session numbers agreed last, else fresh once no receive buffer is held, both numbers one up (that a side presents
its number of before, and what it agreed last, is log entry 93). A duplicate module ID (C1 0x0907), an overdue state,
or a loss of signal fails the attempt: DETECT, and at the third NO_PARTNER with C0 0x0901, which 1 s with AUTO_RETRY
ends. KLK_PORT_CTL at a served mailbox, of enabled ports, retrains them; NO_PARTNER goes to DETECT, and op 2 touches
no other. (Rests on R11; R344; R345; R346; 13_kelorlink.md.) -/
def Obligations.PortsTrain : Prop :=
  ∀ (p : Fin 8) (s : State), s.running = true →
    let st := s.portState p.val
    let q := s.port p.val
    let att := s.fieldOf KLK_PORT_STAT_ATTEMPTS p.val
    let failed (t : State) : Prop := (att < 2 → t.portState p.val = 1 ∧ t.fieldOf KLK_PORT_STAT_ATTEMPTS p.val = att + 1) ∧
      (2 ≤ att → t.portState p.val = 7 ∧ t.hsk.lines.getLast? = some (s.faultLine 9 0 0x0901 p.val 0))
    (∀ l : BitVec 4, st = 1 → l ≠ 0 → ∃ t, exec (.signalDetect p l) s = .next t ∧ t.portState p.val = 2 ∧ (t.port p.val).set = l.toNat ∧
      (t.port p.val).fast = false ∧ (t.port p.val).since = s.beat.lbc) ∧
    (∀ l : BitVec 4, st = 2 → l ≠ 0 → ∃ t, exec (.laneLock p l) s = .next t ∧ t.portState p.val = 3 ∧ (t.port p.val).set = laneSet l) ∧
    (st = 3 → ∃ t, exec (.eqAgreed p) s = .next t ∧ t.portState p.val = 4) ∧
    (∀ n : Partner, st = 4 →
      let both := n.offersV2 && !n.v1Only && !(s.bitOf KLK_PORT_CFG_V1_ONLY p.val)
      let lanes := laneSet (BitVec.ofNat 4 q.set &&& n.lanes)
      let same := n.idValid && s.bitOf KLK_MOD_ID_VALID 0 && n.id.toNat == s.fieldOf KLK_MOD_ID_ID 0
      (same = true → ∃ t, exec (.negotiateExchange p n) s = .next t ∧ failed t ∧
        s.faultLine 9 1 0x0907 (n.id.toNat * 65536 + p.val) 0 ∈ t.hsk.lines) ∧
      (same = false → both = true → q.fast = false → ∃ t, exec (.negotiateExchange p n) s = .next t ∧ t.portState p.val = 2 ∧
        (t.port p.val).fast = true ∧ t.fieldOf KLK_PORT_STAT_ATTEMPTS p.val = att) ∧
      (same = false → (both = false ∨ q.fast = true) → lanes ≠ 0 → ∃ t, exec (.negotiateExchange p n) s = .next t ∧
        t.portState p.val = 5 ∧ t.portV2 p.val = q.fast ∧ t.fieldOf KLK_PORT_STAT_LANES p.val = lanes ∧
        t.fieldOf KLK_PORT_STAT_PARTNER p.val = n.id.toNat) ∧
      (same = false → (both = false ∨ q.fast = true) → lanes = 0 → ∃ t, exec (.negotiateExchange p n) s = .next t ∧ failed t)) ∧
    (∀ (i : BitVec 11) (x : Presented) (c : W32), st = 5 →
      let same := q.agreed = some (i.toNat, x.own.toNat, s.session p.val) ∧ q.fresh = false ∧
        x.agreed = some (s.portId p.val, BitVec.ofNat 16 (s.session p.val))
      (same → ∃ t, exec (.creditInit p i x c) s = .next t ∧ t.portState p.val = 6 ∧
        t.bitOf KLK_PORT_STAT_RESUMED p.val = true ∧ (t.port p.val).replay = q.retry ∧ (t.port p.val).seq = q.seq) ∧
      (¬ same →
        (q.held.any (· != 0) = false → ∃ t, exec (.creditInit p i x c) s = .next t ∧ t.portState p.val = 6 ∧
          t.bitOf KLK_PORT_STAT_RESUMED p.val = false ∧ (t.port p.val).retry = [] ∧ (t.port p.val).seq = 0 ∧ (t.port p.val).ack = 4095 ∧
          (t.port p.val).agreed = some (i.toNat, (x.own.toNat + 1) % 65536, (s.session p.val + 1) % 65536) ∧
          (t.port p.val).session = some ((s.session p.val + 1) % 65536)) ∧
        (q.held.any (· != 0) = true → ∃ t, exec (.creditInit p i x c) s = .next t ∧ t.portState p.val = 5 ∧ (t.port p.val).retry = []))) ∧
    (∀ d, (st = 2 ∧ d = 1600000 ∨ st = 3 ∧ d = 40000000 ∨ st = 4 ∧ d = 800000 ∨ st = 5 ∧ d = 8000000) →
      (q.since + d ≤ s.beat.lbc → ∃ t, exec (.trainingTimeout p) s = .next t ∧ failed t) ∧
      (s.beat.lbc < q.since + d → exec (.trainingTimeout p) s = .next s)) ∧
    (∀ l : BitVec 4, (2 ≤ st ∧ st ≤ 5 ∧ l.toNat &&& q.set ≠ 0 ∨ st = 6 ∧ l.toNat &&& q.set = q.set) →
      ∃ t, exec (.lossOfSignal p l) s = .next t ∧ failed t) ∧
    (st = 7 → s.bitOf KLK_PORT_CFG_AUTO_RETRY p.val = true → q.since + 800000000 ≤ s.beat.lbc →
      ∃ t, exec (.noPartnerRetry p) s = .next t ∧ t.portState p.val = 1 ∧ t.fieldOf KLK_PORT_STAT_ATTEMPTS p.val = 0) ∧
    ∀ (iss : Issuer) (m op : Byte), s.serves iss → op.toNat ≤ 2 → p.val ∈ maskList m 8 → (∀ i ∈ maskList m 8, s.portState i ≠ 0) →
      ∃ t, exec (.klkPortCtl iss m op) s = .next t ∧ t.portState p.val = if st = 7 then 1 else if op = 2 then st else 2

/-- In RUN, of an ACTIVE port with its frame boundaries known: a sequenced frame that fails its checks is counted and
NAKed (version 1 loses the boundaries); one whose SEQ is ACK_SEQ + 1 is accepted where its VC has buffers, and without
them is a credit overrun (C1 0x0906, fresh retraining) on version 2 and refused on version 1; a duplicate changes
nothing; a gap sets NAK. A LINK frame in error is treated as any other; a good one without NAK takes the frames up to
its ACK_SEQ out of the retry buffer and on version 2 adds the buffers newly freed to the credits; one with NAK replays
once for its ACK_SEQ, and that an advance of ACK_SEQ ends. REFUSE_REPLAY replays 64 beats after a REFUSE. A version 1
marker of the port's own width gives the boundaries back, and a narrower one narrows the port; so does a narrower lane
set that a LINK frame tells in AUX[3:0], reported as a loss, or the lanes lost that it tells in AUX[7:4] (log entry
94). The line bits of an alignment block are read back as the payload bits they were made of, and the block has one
comma, at its start. (Rests on R327; R328; R329; R334; R336; R337; R338; R340; R341; R343; 13_kelorlink.md.) -/
def Obligations.FramesAreAccepted : Prop :=
  (∀ (i : Fin 4) (payload : List Bool), payload.length = 8192 →
    let line := alignmentBlock i.val payload
    line.length = 8846 ∧ line.take 24 = comma ∧ hasComma (line.drop 1) = false ∧ readBlock i.val line = some payload) ∧
  ∀ (p : Fin 8) (s : State), s.running = true → s.portState p.val = 6 →
    let q := s.port p.val
    (∀ (f : Frame) (place : Nat), q.lost = false → f.type ≠ 7 →
      let lane := (s.portLanes p.val).getD ((if s.portV2 p.val then place else place / 2) % (s.portLanes p.val).length) 0
      let n := frameBuffers f
      let v := vcOf f.type
      (frameOk f = false → ∃ t, exec (.klFrameReceive p (.frame f place)) s = .next t ∧ t.port p.val = { q with nak := true, lost := !(s.portV2 p.val) } ∧
        t.reg .KLK_CRC_ERR p.val = (s.countUp KLK_CRC_ERR_COUNT p.val 1).reg .KLK_CRC_ERR p.val) ∧
      (frameOk f = true → f.seq.toNat = (q.ack + 1) % 4096 → q.held.getD v 0 + n ≤ q.total.getD v 0 →
        exec (.klFrameReceive p (.frame f place)) s = .next (s.modPort p.val fun q => { q with
          ack := f.seq.toNat, nak := false, refuse := false, held := modAt q.held v (· + n), arrivals := q.arrivals + 1, inbox := q.inbox ++ [⟨v, f, q.arrivals, lane⟩] })) ∧
      (frameOk f = true → f.seq.toNat = (q.ack + 1) % 4096 → q.total.getD v 0 < q.held.getD v 0 + n →
        (s.portV2 p.val = true → ∃ t, exec (.klFrameReceive p (.frame f place)) s = .next t ∧ t.portState p.val = 2 ∧ (t.port p.val).fresh = true ∧
          s.faultLine 9 1 0x0906 (v * 16384 + p.val) 0 ∈ t.hsk.lines) ∧
        (s.portV2 p.val = false → exec (.klFrameReceive p (.frame f place)) s = .next (s.modPort p.val fun q => { q with refuse := true }))) ∧
      (frameOk f = true → f.seq.toNat ≠ (q.ack + 1) % 4096 →
        ((q.ack + 4096 - f.seq.toNat) % 4096 ≤ 2047 → exec (.klFrameReceive p (.frame f place)) s = .next s) ∧
        (2047 < (q.ack + 4096 - f.seq.toNat) % 4096 →
          exec (.klFrameReceive p (.frame f place)) s = .next (s.modPort p.val fun q => { q with nak := true })))) ∧
    (∀ f : Frame, q.lost = false → f.type = 7 → (f.len ≠ 1 ∨ f.payload.length ≠ 8 ∨ f.crcOk = false) →
      ∃ t, exec (.linkReceive p f) s = .next t ∧ t.port p.val = { q with nak := true, lost := !(s.portV2 p.val) }) ∧
    (∀ (f : Frame) (before after : List Sent) (x : Sent), q.lost = false → f.type = 7 → f.len = 1 → f.payload.length = 8 → f.crcOk = true →
      let w := leAt f.payload 0 8
      w / 2 ^ 13 % 2 = 0 → w / 2 ^ 14 % 2 = 0 → f.aux.toNat % 16 = 0 → q.retry = before ++ x :: after → x.frame.seq.toNat = w % 4096 →
      (∀ y ∈ before, y.frame.seq.toNat ≠ w % 4096) →
      ∃ t, exec (.linkReceive p f) s = .next t ∧ (t.port p.val).retry = after ∧ (t.port p.val).acked = w % 4096 ∧ (t.port p.val).replays = 0 ∧ (t.port p.val).naked = none ∧
        (s.portV2 p.val = true → ∀ v < 4, (t.port p.val).credits.getD v 0 = q.credits.getD v 0 +
          (w / 2 ^ (16 + 12 * v) % 4096 + 4096 - q.retSeen.getD v 0) % 4096) ∧
        (s.portV2 p.val = false → (t.port p.val).credits = q.credits)) ∧
    (∀ f : Frame, q.lost = false → f.type = 7 → f.len = 1 → f.payload.length = 8 → f.crcOk = true → f.aux.toNat % 16 = 0 →
      let w := leAt f.payload 0 8
      w / 2 ^ 13 % 2 = 1 → w / 2 ^ 14 % 2 = 0 → q.retry ≠ [] → (∀ y ∈ q.retry, y.frame.seq.toNat ≠ w % 4096) → q.replays < 16 →
      ∃ t, exec (.linkReceive p f) s = .next t ∧ (t.port p.val).retry = q.retry ∧ (t.port p.val).naked = some (w % 4096) ∧
        (q.naked ≠ some (w % 4096) → (t.port p.val).replay = q.retry ∧ (t.port p.val).replays = q.replays + 1) ∧
        (q.naked = some (w % 4096) → (t.port p.val).replay = q.replay ∧ (t.port p.val).replays = q.replays)) ∧
    (∀ f : Frame, q.lost = false → q.retry = [] → (∀ a, q.changeAt = some a → a + 1600 ≤ s.beat.lbc) →
      f.type = 7 → f.len = 1 → f.payload.length = 8 → f.crcOk = true →
      let used := s.fieldOf KLK_PORT_STAT_LANES p.val
      let told := f.aux.toNat % 16
      let lost := f.aux.toNat / 16 % 16 &&& used
      let own := lanesLeft used lost (s.blockErrors p.val [])
      let left (l : Nat) : Prop := ∃ t, exec (.linkReceive p f) s = .next t ∧ t.portState p.val = 6 ∧
        t.fieldOf KLK_PORT_STAT_LANES p.val = l ∧ t.bitOf KLK_PORT_STAT_DEGRADED p.val = true ∧
        t.hsk.lines = s.hsk.lines ++ [s.faultLine 9 1 0x0902 ((15 - l) * 16 + p.val) 0]
      told ≠ 0 → told &&& used = told → (lost = 0 → told ≠ used → left told) ∧
        (lost ≠ 0 → own ≠ 0 → (oneLane told = false ∨ oneLane own = false ∨ told &&& lost ≠ 0) → left own)) ∧
    (∀ b, q.refusedAt = some b → b + 64 ≤ s.beat.lbc →
      exec (.refuseReplay p) s = .next (s.modPort p.val fun q => { q with refusedAt := none, replay := q.retry })) ∧
    ∀ i w : Nat, s.portV2 p.val = false → i ∈ s.portLanes p.val →
      let n := (s.portLanes p.val).length
      (w = n → exec (.alignmentMarkerReceive p i w) s = .next (s.modPort p.val fun q => { q with lost := false, missed := q.missed.set i 0 })) ∧
      (w < n → w = 1 → exec (.alignmentMarkerReceive p i w) s = .next (s.followLanes p.val (listMask [i]))) ∧
      (w < n → w = 2 → exec (.alignmentMarkerReceive p i w) s = .next (s.followLanes p.val (if i < 2 then 3 else 12)))

/-- In RUN, of an ACTIVE port: FRAME_TRANSMIT with a replay in progress sends its next frame; with none, the first queued
frame that the order of R339 and the credits allow and for which the retry buffer has room, with the next SEQ, kept
for retry and its buffers deducted on version 2 (stated for frames that are neither TIME nor timed, with no
injection); without a valid module ID a frame other than TIME's is dropped instead; with nothing to send an IDLE word
goes and only the word stream changes (one IDLE word a command is log entry 85). On version 2 a frame joins the words
of the block under way, and one that would not fit whole leaves the block filled with IDLE words and begins the next
behind a LINK frame. REPLAY_TIMEOUT 2,048 beats after the last advance replays what is unacknowledged, after 16
replays without an advance instead raising C1 0x0904 and retraining. LANE_LOSS of a lane in use narrows the port by
R347, DEGRADED, with C1 0x0902, and the lanes left keep what they have received; a further loss within 2 µs is folded
in without a second report (log entry 85); with no lane left the attempt fails. (Rests on R332; R338; R339; R340;
R347; 13_kelorlink.md.) -/
def Obligations.FramesAreSent : Prop :=
  ∀ (p : Fin 8) (s : State), s.running = true → s.portState p.val = 6 →
    let q := s.port p.val
    (∀ (ofs : Nat) x l, q.replay = x :: l → ∃ t, exec (.frameTransmit ⟨p, ofs⟩) s = .next t ∧ (t.port p.val).replay = l ∧
      (t.port p.val).retry.length = q.retry.length ∧ (t.port p.val).queue = q.queue) ∧
    (∀ ofs : Nat, q.replay = [] → (s.nextFrame p.val = none ∨ ∃ x, s.nextFrame p.val = some x ∧ q.room x.frame = false ∧ (s.portValid p.val = true ∨ x.vc = 1)) →
      ∃ t, exec (.frameTransmit ⟨p, ofs⟩) s = .next t ∧ t.regs = s.regs ∧
        t.port p.val = { q with out := (t.port p.val).out, nak := (t.port p.val).nak, refuse := (t.port p.val).refuse } ∧
        (s.portV2 p.val = true → q.out.words ≠ [] → q.out.words.length + 1 < 256 * s.portWidth p.val →
          t.port p.val = { q with out := { q.out with words := q.out.words ++ [0] } })) ∧
    (∀ (ofs : Nat) x, q.replay = [] → s.nextFrame p.val = some x → s.portValid p.val = false → x.vc ≠ 1 →
      exec (.frameTransmit ⟨p, ofs⟩) s = .next ((s.dropSent p.val x).putIdle p.val)) ∧
    (∀ (ofs : Nat) x, q.replay = [] → s.nextFrame p.val = some x → (s.portValid p.val = true ∨ x.vc = 1) → q.room x.frame = true → x.frame.type ≠ 4 → x.timed = none →
      s.injected 5 p.val = false →
      let f : Frame := { x.frame with seq := BitVec.ofNat 12 q.seq, src := if 8 ≤ x.origin then s.portId p.val else x.frame.src }
      let fw := frameWords { f with crcOk := true }
      let m := q.out.words.length
      let full := 256 * s.portWidth p.val
      ∃ t, exec (.frameTransmit ⟨p, ofs⟩) s = .next t ∧
        (t.port p.val).retry = q.retry ++ [{ x with frame := f }] ∧
        (t.port p.val).queue = q.queue.erase x ∧ (t.port p.val).seq = (q.seq + 1) % 4096 ∧
        (t.port p.val).credits = (if s.portV2 p.val then modAt q.credits x.vc (· - frameBuffers x.frame) else q.credits) ∧
        (s.portV2 p.val = true → 0 < m → fw.length = frameBytes x.frame / 4 →
          (m + fw.length < full → (t.port p.val).out.words = q.out.words ++ fw) ∧
          (m + fw.length = full → (t.port p.val).out.words = [] ∧ (t.port p.val).out.last = q.out.words ++ fw) ∧
          (full < m + fw.length → 5 + fw.length < full → (t.port p.val).out.words = frameWords (s.linkFrame p.val) ++ fw ∧
            (t.port p.val).out.last = q.out.words ++ List.replicate (full - m) 0))) ∧
    (q.retry ≠ [] → q.ackedAt + 2048 ≤ s.beat.lbc →
      (q.replays < 16 → ∃ t, exec (.replayTimeout p) s = .next t ∧
        t.port p.val = { q with replays := q.replays + 1, replay := q.retry, ackedAt := s.beat.lbc } ∧
        t.reg .KLK_REPLAY p.val = (s.countUp KLK_REPLAY_COUNT p.val 1).reg .KLK_REPLAY p.val) ∧
      (16 ≤ q.replays → ∃ t, exec (.replayTimeout p) s = .next t ∧ t.portState p.val = 2 ∧ (t.port p.val).replays = 0 ∧
        (s.beat.lbc + 1, ⟨9, 1, 0x0904, q.acked * 65536 + p.val, 0, q.injected, none⟩) ∈ t.hsk.lines)) ∧
    (s.beat.lbc < q.ackedAt + 2048 → exec (.replayTimeout p) s = .next s) ∧
    ∀ (i : Fin 4) (errors : List Nat),
      let set := s.fieldOf KLK_PORT_STAT_LANES p.val
      let left := lanesLeft set (2 ^ i.val) (s.blockErrors p.val errors)
      let again := lanesLeft q.before (q.gone ||| 2 ^ i.val) (s.blockErrors p.val errors)
      (s.laneUsed p.val i.val = false → exec (.laneLoss p i errors) s = .next s) ∧
      (∀ a, q.changeAt = some a → s.beat.lbc < a + 1600 → s.laneUsed p.val i.val = true → again ≠ 0 → q.retry = [] →
        ∃ t, exec (.laneLoss p i errors) s = .next t ∧ t.portState p.val = 6 ∧ t.fieldOf KLK_PORT_STAT_LANES p.val = again ∧
          t.hsk.lines = s.hsk.lines ∧ (t.port p.val).changeAt = some a) ∧
      ((∀ a, q.changeAt = some a → a + 1600 ≤ s.beat.lbc) →
      (set.testBit i.val = true → left ≠ 0 → q.retry = [] → ∃ t, exec (.laneLoss p i errors) s = .next t ∧ t.portState p.val = 6 ∧
        t.fieldOf KLK_PORT_STAT_LANES p.val = left ∧ t.bitOf KLK_PORT_STAT_DEGRADED p.val = true ∧
        t.hsk.lines = s.hsk.lines ++ [s.faultLine 9 1 0x0902 ((15 - left) * 16 + p.val) 0] ∧
        ∀ j : Fin 4, left.testBit j.val = true → t.rxLane p.val j.val = s.rxLane p.val j.val ∧
          (t.port p.val).missed.getD j.val 0 = q.missed.getD j.val 0) ∧
      (set.testBit i.val = true → left = 0 → ∃ t, exec (.laneLoss p i errors) s = .next t ∧ (t.portState p.val = 1 ∨ t.portState p.val = 7)))

/-- In RUN the receive events take the oldest arrival of their type, and without one change nothing: COND hears a
condition of this module's span from another module and goes on; TRIG triggers the units that name its number unless
it is the module's own and goes on; NOTICE is recorded as C0 0x0F02 with its source and event 1167 and goes on; CTRL
for this module stands in the buffers found for it and is consumed, and DATA for this module enters the bound receive
queue that AUX names, in the buffers found for it (log entry 28), or is counted and released where the queue is
unbound; either for another module is sent on. KLK_TRIG_SEND at a served mailbox under a valid module ID floods the
trigger and answers the ports. The module ID is the one the port took at its last NEGOTIATE. (Rests on R196; R334;
R349; R350; R398; R447; 13_kelorlink.md; 15_hazel.md.) -/
def Obligations.ArrivalsAreTaken : Prop :=
  (∀ (p : Fin 8) (s : State), s.running = true →
    let none_ (k : Nat) : Prop := ∀ x ∈ (s.port p.val).inbox, x.frame.type ≠ k
    (none_ 1 → exec (.condReceive p) s = .next s) ∧ (none_ 2 → exec (.trigReceive p) s = .next s) ∧
    (none_ 3 → exec (.noticeReceive p) s = .next s) ∧ (none_ 5 → exec (.dataReceive p) s = .next s) ∧
    (none_ 6 → exec (.ctrlReceive p) s = .next s) ∧
    ∀ x, (s.port p.val).inbox.find? (fun y => y.frame.type == x.frame.type) = some x →
      let u := s.modPort p.val fun q => { q with inbox := q.inbox.erase x }
      let me := s.portId p.val
      let valid := s.portValid p.val
      let l := x.frame.payload
      (x.frame.type = 1 → (leAt l 6 2 = s.fieldOf SEQ_SPAN_CFG_SPAN 0 → x.frame.src ≠ me →
          exec (.condReceive p) s = .next ((u.condHeard ⟨x.frame.src.toNat, leAt l 0 6, leAt l 8 4, leAt l 12 2 % 8, leAt l 14 2, []⟩).floodOn p.val x)) ∧
        (leAt l 6 2 ≠ s.fieldOf SEQ_SPAN_CFG_SPAN 0 ∨ x.frame.src = me → exec (.condReceive p) s = .next (u.floodOn p.val x))) ∧
      (x.frame.type = 2 → ((valid = false ∨ x.frame.src ≠ me) →
          exec (.trigReceive p) s = .next ((u.trigHeard (x.frame.aux.toNat % 256)).floodOn p.val x)) ∧
        (valid = true → x.frame.src = me → exec (.trigReceive p) s = .next (u.floodOn p.val x))) ∧
      (x.frame.type = 3 → exec (.noticeReceive p) s =
        .next (((u.fault 15 0 0x0F02 (leAt l 2 1 % 32 * 65536 + x.frame.src.toNat) 0).event 1167).floodOn p.val x)) ∧
      (x.frame.type = 6 → (valid = true → x.frame.dest = me →
          (∀ a, u.frameOffset p.val (frameBuffers x.frame) = some a →
            exec (.ctrlReceive p) s = .next ((u.setMem (0x4000000000 + a) (frameImage x.frame)).consumed p.val x)) ∧
          (u.frameOffset p.val (frameBuffers x.frame) = none → exec (.ctrlReceive p) s = .next (u.consumed p.val x))) ∧
        (valid = false ∨ x.frame.dest ≠ me → exec (.ctrlReceive p) s = .next (u.forward p.val x))) ∧
      (x.frame.type = 5 → (valid = false ∨ x.frame.dest ≠ me → exec (.dataReceive p) s = .next (u.forward p.val x)) ∧
        (valid = true → x.frame.dest = me →
          let q := x.frame.aux.toNat % 8
          (s.bitOf MGT_RXQ_CFG_EN q = false → exec (.dataReceive p) s = .next ((u.countUp MGT_RXQ_STAT_DISCARD q 1).consumed p.val x)) ∧
          (∀ a, s.bitOf MGT_RXQ_CFG_EN q = true → u.frameOffset p.val (frameBuffers x.frame) = some a → exec (.dataReceive p) s =
            .next ((u.setMem (0x4000000000 + a) (frameImage x.frame)).postRx q ⟨p.val, x.vc, frameBuffers x.frame, a⟩))))) ∧
  ∀ (iss : Issuer) (n : Byte) (s : State), s.serves iss → s.bitOf KLK_MOD_ID_VALID 0 = true →
    exec (.klkTrigSend iss n) s = .next ((s.flood 2 n.toNat []).complete iss Status.ok [listMask ((s.floodPorts 8).filter s.portValid)])

/-- KLK_PRBS at a served mailbox (INJECT on version 2 only), of existing lanes whose ports are disabled: START with valid
fields starts each lane's generator and checker anew with its count 0 and not LOCKED; STOP ends the test; INJECT asks
for one inverted bit, or one in 2^N with N from 10 to 31. In RUN, PRBS_CHECK of a lane not in test, or whose port is
enabled, changes nothing; of a checker that holds its pattern and has 63 bits without error a right bit locks it; once
locked a right bit changes no register and a wrong one is counted, the first of a KelorLink lane raising event 1008 +
8p + 7. (For Ethernet lanes log entry 29 says which link is disabled.) (Rests on R352; 13_kelorlink.md.) -/
def Obligations.LanesAreTested : Prop :=
  (∀ (iss : Issuer) (m : W64) (op pattern rate flags exponent : Byte) (s : State), s.serves iss → m ≠ 0 →
    (∀ l < 64, m.getLsbD l = true → (l < 32 ∨ l = 40 ∨ l = 41) ∧ s.laneFree l = true) →
    (op = 0 → pattern.toNat ≤ 3 → rate.toNat ≤ 1 → flags.toNat ≤ 1 → ∃ t, exec (.klkPrbs iss m op pattern rate flags exponent) s = .next t ∧
      ∀ l < 64, (m.getLsbD l = true → t.lane l = { on := true, pattern := pattern.toNat, rate := rate.toNat, loop := flags.getLsbD 0 } ∧
        t.reg .KLK_PRBS_ERR l = 0 ∧ t.bitOf KLK_PRBS_STAT_LOCKED l = false) ∧ (m.getLsbD l = false → t.lane l = s.lane l)) ∧
    (op = 1 → ∃ t, exec (.klkPrbs iss m op pattern rate flags exponent) s = .next t ∧
      ∀ l < 64, m.getLsbD l = true → t.lane l = { s.lane l with on := false } ∧ t.bitOf KLK_PRBS_STAT_LOCKED l = false) ∧
    (op = 2 → iss.mb ≠ 16 → (exponent = 0 ∨ 10 ≤ exponent.toNat ∧ exponent.toNat ≤ 31) → ∃ t, exec (.klkPrbs iss m op pattern rate flags exponent) s = .next t ∧
      ∀ l < 64, m.getLsbD l = true → t.lane l = { s.lane l with once := exponent == 0, exp := exponent.toNat })) ∧
  ∀ (l : Fin 42) (b : Bool) (s : State), s.running = true →
    let y := s.lane l.val
    let want := prbsNext y.pattern y.sr
    (y.on = false ∨ s.laneFree l.val = false → exec (.prbsCheck l b) s = .next s) ∧
    (y.on = true → s.laneFree l.val = true → y.loop = false →
      (s.bitOf KLK_PRBS_STAT_LOCKED l.val = true → b = want → ∃ t, exec (.prbsCheck l b) s = .next t ∧ t.regs = s.regs) ∧
      (s.bitOf KLK_PRBS_STAT_LOCKED l.val = true → b ≠ want → ∃ t, exec (.prbsCheck l b) s = .next t ∧
        t.fieldOf KLK_PRBS_ERR_COUNT l.val = (s.countUp KLK_PRBS_ERR_COUNT l.val 1).fieldOf KLK_PRBS_ERR_COUNT l.val ∧
        (t.lane l.val).seen = true ∧
        (y.seen = false → l.val < 32 → (t.reg .HSK_EVT_PEND ((1008 + 8 * (l.val / 4) + 7) / 32)).getLsbD ((1008 + 8 * (l.val / 4) + 7) % 32) = true)) ∧
      (s.bitOf KLK_PRBS_STAT_LOCKED l.val = false → b = want → (prbsTaps y.pattern).1 ≤ y.have_ → y.good = 63 →
        ∃ t, exec (.prbsCheck l b) s = .next t ∧ t.bitOf KLK_PRBS_STAT_LOCKED l.val = true ∧ (t.lane l.val).good = 64) ∧
      (s.bitOf KLK_PRBS_STAT_LOCKED l.val = false → b ≠ want → ∃ t, exec (.prbsCheck l b) s = .next t ∧ (t.lane l.val).good = 0))

/-- At a served mailbox, outside a transaction: TMG_TSET_LOAD and VST_MKTAB_LOAD of checked images for an idle site are
deferred with the bytes as they stand; TMG_TSET_READ writes the live image, or 16 zeros of an empty set;
TMG_EDGE_QUERY of an assigned channel of a loaded set with an index below its count answers the quantised time, the
tap code and whether the edge is disabled. From a version 2 mailbox VST_DIR_WRITE of checked entries, none of them
locked or to be locked in this beat by what waits for its threads (R23), writes up to 256 of them at once and more
later, and of an entry that fails its check, or is locked, nothing, with the first such entry; VST_DIR_READ writes up
to 256 as they stand, or takes them with it; VST_SEG_VERIFY of a VALID entry is deferred with the entry. (Rests on
R90; R106; R107; R108; R125; R126; R135; R136; R137; 03_pips.md; 04_segments.md.) -/
def Obligations.PatternMemoriesAreLoadedAndRead : Prop :=
  ∀ (iss : Issuer) (s : State), s.serves iss →
    (∀ (a : W64) (site first : Byte) (n : W16) (l : List (List Byte)), s.txnOf iss.mb.val = none → a.toNat % 8 = 0 → site.toNat < 32 →
      1 ≤ n.toNat → first.toNat + n.toNat ≤ 256 → s.readImages a.toNat first.toNat n.toNat = (l, none) → s.idle site.toNat = true →
      exec (.tmgTsetLoad iss a site first n) s = .next (s.defer iss (.tmgTsetLoad iss a site first n) 0 (numbers l.flatten))) ∧
    (∀ (a : W64) (site first : Byte) (n : W16), s.txnOf iss.mb.val = none → site.toNat < 32 → 1 ≤ first.toNat → 1 ≤ n.toNat →
      first.toNat + n.toNat ≤ 256 → s.badRam a 16 (16 * n.toNat) = false →
      (∀ e ∈ splitEntries 16 n.toNat (s.mem a.toNat (16 * n.toNat)), mkEntryOk e = true) → s.idle site.toNat = true →
      exec (.vstMktabLoad iss a site first n) s = .next (s.defer iss (.vstMktabLoad iss a site first n) 0
        (numbers (s.mem a.toNat (16 * n.toNat))))) ∧
    (∀ (a : W64) (site t : Byte), site.toNat < 32 →
      let img := s.tset site.toNat t.toNat
      let b := if img = [] then List.replicate 16 0 else img
      s.badRam a 8 b.length = false → exec (.tmgTsetRead iss a site t) s = .next ((s.setMem a.toNat b).complete iss Status.ok [b.length])) ∧
    (∀ ch t p : Byte, ch.toNat < 128 → p.toNat ≤ 6 → s.bitOf TMG_CH_CFG_ASSIGNED ch.toNat = true →
      let site := s.fieldOf TMG_CH_CFG_SITE ch.toNat
      let img := s.tset site t.toNat
      let i := (s.siteChannels site).findIdx (· == ch.toNat)
      img ≠ [] → i < imgN img →
      let time : Int := if p.toNat = 6 then 0 else (imgEdgeWord img i p.toNat % 2 ^ 37 : Nat)
      let r := quantise (time + s.deskew ch.toNat (p.toNat == 4 || p.toNat == 5) (s.fixedMode site) + s.calOffset ch.toNat p.toNat)
      exec (.tmgEdgeQuery iss ch t p) s = .next (s.complete iss Status.ok [twos 32 r.1, r.2,
        twos 32 (s.force ch.toNat (516 * p.toNat + 4 + 2 * r.2)), if p.toNat ≠ 6 ∧ imgEdge img i p.toNat = none then 1 else 0])) ∧
    (∀ (a : W64) (first : W16) (n : W32), iss.mb ≠ 16 → 1 ≤ n.toNat → first.toNat + n.toNat ≤ 65536 →
      s.badRam a 32 (32 * n.toNat) = false →
      let data := s.mem a.toNat (32 * n.toNat)
      let l := splitEntries 32 n.toNat data
      let held (k : Nat) : Prop := s.locked (first.toNat + k) = true ∨
        ∃ m : Fin 32, s.idle m.val = false ∧ first.toNat + k ∈ (s.threadsAhead.thr m.val).locks
      (s.restOfBeat = [] → s.threadsAhead = s) ∧
      ((∀ e ∈ l, s.entryOk e = true) → ∀ k < n.toNat, held k → (∀ i < k, ¬ held i) →
        exec (.vstDirWrite iss a first n) s = .next (s.complete iss Status.wrongState [0, first.toNat + k])) ∧
      ((∀ e ∈ l, s.entryOk e = true) → (∀ k < n.toNat, ¬ held k) →
        (n.toNat ≤ 256 → exec (.vstDirWrite iss a first n) s = .next ((s.writeDir first.toNat l).complete iss Status.ok [n.toNat])) ∧
        (256 < n.toNat → exec (.vstDirWrite iss a first n) s = .next (s.defer iss (.vstDirWrite iss a first n) 0 (numbers data)))) ∧
      (∀ i e, l[i]? = some e → s.entryOk e = false → (∀ x ∈ l.take i, s.entryOk x = true) →
        exec (.vstDirWrite iss a first n) s = .next (s.complete iss Status.badArgument [0, first.toNat + i])) ∧
      (n.toNat ≤ 256 → exec (.vstDirRead iss a first n) s =
        .next ((s.setMem a.toNat (s.dirBytes first.toNat n.toNat)).complete iss Status.ok [n.toNat])) ∧
      (256 < n.toNat → exec (.vstDirRead iss a first n) s =
        .next (s.defer iss (.vstDirRead iss a first n) 0 (numbers (s.dirBytes first.toNat n.toNat))))) ∧
    ∀ seg : W16, entValid (s.dirEntry seg.toNat) = true →
      exec (.vstSegVerify iss seg) s = .next (s.defer iss (.vstSegVerify iss seg) 0 (numbers (s.dirEntry seg.toNat)))

/-- At a served mailbox: SEQ_UCODE_LOAD of an image that passes the checks of R162 for clusters whose threads are idle is
deferred with the image; SEQ_UCODE_VERIFY of clusters, idle or without NOWAIT, is deferred; SEQ_PROG_LOAD of legal PIs
in GDDR6 for an unused program number, with room in the SYS pool, is deferred with them, and an illegal PI refuses the
command with its number; SEQ_PROG_FREE of a loaded, unused program frees its blocks; SEQ_THR_READ writes the record of
R168; SEQ_CSL_SET clears the slot of every named thread, or makes it happen in the next beat on those whose slot has
SRC SOFT. (Rests on R139; R147; R162; R165; R166; R167; R168; R201; 05_sequencer.md; 06_branching.md.) -/
def Obligations.MicrocodeAndProgramsAreServed : Prop :=
  ∀ (iss : Issuer) (s : State), s.serves iss →
    (∀ (a : W64) (m : Byte), m ≠ 0 → s.badRam a 8 131136 = false → ucodeOk (s.mem a.toNat 131136) = true →
      (∀ n ∈ clusterThreads m, s.idle n = true) →
      exec (.seqUcodeLoad iss a m) s = .next (s.defer iss (.seqUcodeLoad iss a m) 0 (numbers (s.mem a.toNat 131136)))) ∧
    (∀ m : Byte, m ≠ 0 → (iss.nowait = false ∨ ∀ n ∈ clusterThreads m, s.idle n = true) →
      exec (.seqUcodeVerify iss m) s = .next (s.defer iss (.seqUcodeVerify iss m) 0 [])) ∧
    (∀ (a : W64) (p : Byte) (n : W16), p.toNat < 32 → s.badGddr a 8 (8 * (n.toNat + 1)) = false →
      let data := s.mem a.toNat (8 * (n.toNat + 1))
      let l := splitEntries 8 (n.toNat + 1) data
      ((∀ e ∈ l, piOk (n.toNat + 1) (BitVec.ofNat 64 (ofLE e)) = true) → s.progUsed p.toNat = false →
        s.progFits p.toNat (n.toNat + 1) = true →
        exec (.seqProgLoad iss a p n) s = .next (s.defer iss (.seqProgLoad iss a p n) 0 (numbers data))) ∧
      (∀ i e, l[i]? = some e → piOk (n.toNat + 1) (BitVec.ofNat 64 (ofLE e)) = false →
        (∀ x ∈ l.take i, piOk (n.toNat + 1) (BitVec.ofNat 64 (ofLE x)) = true) →
        exec (.seqProgLoad iss a p n) s = .next (s.complete iss Status.badArgument [0, i]))) ∧
    (∀ p : Byte, p.toNat < 32 → s.progUsed p.toNat = false → (s.prog p.toNat).count ≠ 0 →
      exec (.seqProgFree iss p) s = .next (((s.freeBlockList 6 (s.prog p.toNat).blocks).setProg p.toNat { }).complete iss Status.ok
        [(s.prog p.toNat).blocks.length])) ∧
    (∀ (a : W64) (n : Byte), n.toNat < 32 → s.badRam a 8 256 = false →
      exec (.seqThrRead iss a n) s = .next ((s.setMem a.toNat (s.thrRecord n.toNat)).complete iss Status.ok [256])) ∧
    ∀ (m : W32) (k : Byte), m ≠ 0 → k.toNat ≤ 15 →
      exec (.seqCslSet iss m k 0) s = .next ((each (maskList m 32) (fun n => State.clearSlot n k.toNat) s).complete iss Status.ok [m.toNat]) ∧
      let l := (maskList m 32).filter (fun n => s.fieldOf SEQ_CSL_CFG_SRC (16 * n + k.toNat) == 11)
      exec (.seqCslSet iss m k 1) s =
        .next ((each l (fun n => State.happen n k.toNat (s.beat.lbc + 1) none) s).complete iss Status.ok [listMask l])

/-- At a served mailbox (version 1 in mode NOW alone), SEQ_BURST_START, after all that stands above it at its boundary
(R23: faults, aborts, starts and thread changes, commits), whose checks of R157, R158, R221 and R429 all pass pins the
GDDR6 pages of the VALID segments and arms every named site for the start beat and is deferred to it; if any check
fails no site is armed and no block is held. BURST_START_BEAT of a start that is due first takes the aborts due at its
sites; where that ends the start nothing more happens; else its ARMED threads enter RUNNING or WAITING with their fail
counts and log positions cleared, and the start's outcome is OK with the start beat, or ABORTED_FAULT where a named
site was aborted; before its beat nothing changes. SEQ_BURST_STOP, after the same, aborts the named threads that are
not idle, asks those that issue to halt at the end of their pass, or takes back to IDLE the ARMED ones that no abort
is to end. (Rests on R23; R157; R158; R159; R221; R228; R232; R238; R429; 05_sequencer.md.) -/
def Obligations.BurstsStartAndStop : Prop :=
  (∀ (iss : Issuer) (sites nanos : W32) (p mode : Byte) (entry : W16) (at_ : W64) (s : State), s.serves iss →
    (iss.mb ≠ 16 ∨ mode ≠ 1 ∧ mode ≠ 2) →
    let u := s.upToRequests
    u.serves iss →
    ((∀ c ∈ u.startChecks sites p mode entry at_ nanos, c.1 = false) → exec (.seqBurstStart iss sites p mode entry at_ nanos) s =
      .next ((u.pinAll.armBurst (maskList sites 32) p.toNat entry.toNat (u.startBeat mode at_ nanos)).defer iss
        (.seqBurstStart iss sites p mode entry at_ nanos) (u.startBeat mode at_ nanos) [sites.toNat, 0])) ∧
    (∀ c ∈ u.startChecks sites p mode entry at_ nanos, c.1 = true →
      ∃ t, exec (.seqBurstStart iss sites p mode entry at_ nanos) s = .next t ∧ t.seq = u.seq ∧ t.cst = u.cst ∧
        t.hst.deferred = u.hst.deferred)) ∧
  (∀ (i : Nat) (d : Deferred) (iss : Issuer) (sites nanos : W32) (p mode : Byte) (entry : W16) (at_ : W64) (s : State), s.running = true →
    s.hst.deferred[i]? = some d → d.cmd = .seqBurstStart iss sites p mode entry at_ nanos → d.outcome = none →
    (s.beat.lbc < d.due → exec (.burstStartBeat i) s = .next s) ∧
    (d.due ≤ s.beat.lbc →
      let u := s.takeAborts (maskList (BitVec.ofNat 32 (d.data.getD 0 0)) 32)
      ∀ x : Deferred, u.hst.deferred[i]? = some x →
      (x.outcome.isSome = true → exec (.burstStartBeat i) s = .next u) ∧
      (x.outcome = none → ∃ t, exec (.burstStartBeat i) s = .next t ∧
        (∀ n : Fin 32, (x.data.getD 0 0).testBit n.val = true → (u.thr n.val).st = 1 → ((t.thr n.val).st = 2 ∨ (t.thr n.val).st = 3) ∧
          t.reg64 .CAP_FAIL_VEC n.val = 0 ∧ t.reg64 .CAP_FLOG_WP n.val = 0 ∧ t.reg .CAP_FLOG_LOST n.val = 0 ∧ (t.failLog n.val).staged = []) ∧
        (∀ n : Fin 32, (x.data.getD 0 0).testBit n.val = false ∨ (u.thr n.val).st ≠ 1 → t.thr n.val = u.thr n.val) ∧
        ∃ e : Deferred, t.hst.deferred[i]? = some e ∧ e.outcome =
          some (if x.data.getD 1 0 = 0 then (Status.ok, [x.due % 2 ^ 32, x.due / 2 ^ 32 % 2 ^ 32]) else (Status.abortedFault, []))))) ∧
  ∀ (iss : Issuer) (sites : W32) (s : State), s.serves iss → sites ≠ 0 →
    let u := s.upToRequests
    let l (f : Nat → Bool) := (maskList sites 32).filter f
    let mine (n : Nat) : Bool := (u.thr n).st == 1 && !((u.thr n).abortsBy (u.beat.lbc + 1))
    u.serves iss →
    exec (.seqBurstStop iss sites 0) s = .next ((each (l fun n => !u.idle n) (fun n => State.abortDue n 6) u).complete iss Status.ok
      [listMask (l fun n => !u.idle n)]) ∧
    exec (.seqBurstStop iss sites 1) s = .next ((each (l u.issuing) (fun n t => t.requestStop n t.beat.lbc 4) u).complete iss Status.ok
      [listMask (l u.issuing)]) ∧
    exec (.seqBurstStop iss sites 2) s = .next ((each (l mine) (fun n t => (t.endThread n 0).leaveStart n 0) u).complete
      iss Status.ok [listMask (l mine)])

/-- In RUN, a thread that is not parked and reads a microword, while no damaged word is read in its cluster, first takes
the decisions of the beat, an injection armed at its cluster being performed with the words (R446); in the beat of a
decision to branch no microword takes effect (R180). Else it executes the micro-op of its word as R149 says, and goes
on to NEXT: NOP does nothing more; FETCH takes the PI at PC from the instruction buffer and goes to its dispatch word,
repeats while the buffer does not hold it, and past the program parks; PARK parks; LS_DECB, BG_ZERO and BFLAG take
OPERAND or NEXT by their condition; LS_PUSH, LS_POP, CS_PUSH and CS_POP change the stacks; LS_BACK, CS_POP, PC_IMM and
PC_EXIT change PC, with a refill after a miss; on a full or empty stack the engine parks with the C2 fault of R160.
Whatever the micro-op, a command of one that the word does not hold changes nothing more, and a parked engine executes
nothing, and reads nothing (log entry 101). IBUF_REFILL ends a refill that is due: the buffer holds the program's PIs
from F or PC - 32 to PC + 31. (Rests on R142; R148; R149; R150; R152; R155; R160; R163; R180; 05_sequencer.md.) -/
def Obligations.ControlMicroOpsAct : Prop :=
  ∀ (x : Fin 32) (s : State),
    let n := x.val
    let s0 := s
    let s := s0.decided n
    let t := s.thr n
    let u := s0.onward n
    let held := s.spendBeat n
    let target := uoperand (s.wordAt n) % 2 ^ 14
    let crash (r : Host.Outcome State Fault Refusal) (code : Nat) : Prop := ∃ v, r = .next v ∧ (v.thr n).parked = true ∧
      v.hsk.lines = s.hsk.lines ++ [(s.beat.lbc + 1, ⟨1, 2, code, fld 31 16 t.pc, BitVec.ofNat 32 (2 ^ n), false,
        some (t.vn, (s.reg .VST_POS n).toNat, s.fieldOf VST_POS_SEG n)⟩)]
    (∀ c ∈ microOps x, (s0.running = true → s0.reads n = false → exec c.1 s0 = .next s0) ∧
      (s0.soundAt n → s.reads n = false ∨ uop (s.wordAt n) ≠ c.2 → exec c.1 s0 = .next s)) ∧
    (s0.atOp n 0x00 → exec (.nop x) s0 = .next u) ∧
    (s0.atOp n 0x01 →
      ((s.prog t.prog).count ≤ t.pc → exec (.fetch x) s0 = .next (u.modThr n fun y => { y with parked := true })) ∧
      (t.pc < (s.prog t.prog).count → (∀ e ∈ t.ib, e.1 ≠ t.pc) → exec (.fetch x) s0 = .next held) ∧
      (∀ w, t.pc < (s.prog t.prog).count → t.ib.find? (fun e => e.1 == t.pc) = some (t.pc, w) → exec (.fetch x) s0 =
        .next ((u.modThr n fun y => { y with ir := w, pc := t.pc + 1, ua := piOp w }).slide n))) ∧
    (s0.atOp n 0x02 → exec (.park x) s0 = .next (u.modThr n fun y => { y with parked := true })) ∧
    (s0.atOp n 0x10 → (t.ls = [] → crash (exec (.lsDecb x) s0) 0x0104) ∧
      (∀ pc l, t.ls = (pc, 0) :: l → exec (.lsDecb x) s0 = .next (u.modThr n fun y => { y with ua := target })) ∧
      (∀ pc k l, t.ls = (pc, k + 1) :: l → exec (.lsDecb x) s0 = .next (u.modThr n fun y => { y with ls := (pc, k) :: l }))) ∧
    (s0.atOp n 0x11 → (s.gr n (piSel t.ir) = 0 → exec (.bgZero x) s0 = .next (u.modThr n fun y => { y with ua := target })) ∧
      (s.gr n (piSel t.ir) ≠ 0 → exec (.bgZero x) s0 = .next u)) ∧
    (s0.atOp n 0x12 → let b := t.ir.getLsbD (52 + uoperand (s.wordAt n) / 2 ^ 14)
      (b = true → exec (.bflag x) s0 = .next (u.modThr n fun y => { y with ua := target })) ∧ (b = false → exec (.bflag x) s0 = .next u)) ∧
    (s0.atOp n 0x21 → (16 ≤ t.ls.length → crash (exec (.lsPush x) s0) 0x0103) ∧
      (t.ls.length < 16 → exec (.lsPush x) s0 = .next (u.modThr n fun y => { y with
        ls := (t.pc, if t.ir.getLsbD 52 then (s.gr n (piSel t.ir) - 1).toNat else bits t.ir 31 0) :: t.ls }))) ∧
    (s0.atOp n 0x22 → (t.ls = [] → crash (exec (.lsBack x) s0) 0x0104) ∧
      (∀ e l, t.ls = e :: l → exec (.lsBack x) s0 = .next (u.jumpPc n e.1))) ∧
    (s0.atOp n 0x23 → (t.ls = [] → crash (exec (.lsPop x) s0) 0x0104) ∧
      (∀ e l, t.ls = e :: l → exec (.lsPop x) s0 = .next (u.modThr n fun y => { y with ls := l }))) ∧
    (s0.atOp n 0x24 → (16 ≤ t.cs.length → crash (exec (.csPush x) s0) 0x0105) ∧
      (t.cs.length < 16 → exec (.csPush x) s0 = .next (u.modThr n fun y => { y with cs := t.pc :: t.cs }))) ∧
    (s0.atOp n 0x25 → (t.cs = [] → crash (exec (.csPop x) s0) 0x0106) ∧
      (∀ pc l, t.cs = pc :: l → exec (.csPop x) s0 = .next ((u.modThr n fun y => { y with cs := l }).jumpPc n pc))) ∧
    (s0.atOp n 0x26 → ∃ v, exec (.pcImm x) s0 = .next v ∧ (v.thr n).pc = bits t.ir 15 0 ∧
      (max t.ibFrom (t.pc - 32) ≤ bits t.ir 15 0 → bits t.ir 15 0 ≤ t.pc + 31 → (v.thr n).refill = t.refill) ∧
      (bits t.ir 15 0 < t.ibFrom ∨ bits t.ir 15 0 < t.pc - 32 ∨ t.pc + 31 < bits t.ir 15 0 → (v.thr n).refill = some (s.beat.lbc + 26) ∧ (v.thr n).ib = [])) ∧
    (s0.atOp n 0x27 → exec (.pcExit x) s0 = .next (u.jumpPc n (bits t.ir 47 32))) ∧
    (s0.running = true → let s := s0
      let t := s.thr n
      ∀ d, t.refill = some d → (s.beat.lbc < d → exec (.ibufRefill x) s = .next s) ∧
      (d ≤ s.beat.lbc → t.ib = [] → exec (.ibufRefill x) s = .next (s.modThr n fun y => { y with
        refill := none
        ib := (List.range (min (t.pc + 32) (s.prog t.prog).count - max t.ibFrom (t.pc - 32))).map (fun k =>
          (max t.ibFrom (t.pc - 32) + k, s.pi t.prog (max t.ibFrom (t.pc - 32) + k))) })))

/-- In RUN, a thread that is not parked and reads a sound microword with the micro-op's code (no damaged word being read
in its cluster, and no decision of the beat having taken its beat; an injection armed there is performed): GR_SET and
GR_ADD write GR[SEL]; MK_SET and SOF_SET hold the pending marker and mode; PQ_PUSH queues the item that IR spells as
the kind of OPERAND (none for a PLAYN of no pass) and repeats while the queue holds 8; HALT_Q queues a HALT and
discards marker and mode; ARM arms the lowest free pad and repeats while 8 are armed, ARM_TO one that waits for the
next item where its timeout is not 0. If any word that the cluster's threads read in the beat is damaged, the micro-
op, whichever it is, is a machine check instead: reported in this beat, the copy is SUSPECT, the C2 fault 0x0101, or
0x0102 for an illegal word, names the four sites, and each of the four threads that is not idle parks and its site
aborts. A parked engine executes none of them. (Rests on R144; R145; R146; R149; R163; R175; R180; 05_sequencer.md;
06_branching.md.) -/
def Obligations.ItemMicroOpsAct : Prop :=
  ∀ (x : Fin 32) (s : State),
    let n := x.val
    let s0 := s
    let s := s0.decided n
    let t := s.thr n
    let u := s0.onward n
    let held := s.spendBeat n
    (s0.atOp n 0x28 → exec (.grSet x) s0 = .next (u.setReg .SEQ_GR (16 * n + piSel t.ir) 0 (BitVec.ofNat 32 (bits t.ir 31 0)))) ∧
    (s0.atOp n 0x29 → exec (.grAdd x) s0 =
      .next (u.setReg .SEQ_GR (16 * n + piSel t.ir) 0 (s.gr n (piSel t.ir) + BitVec.ofNat 32 (bits t.ir 31 0)))) ∧
    (s0.atOp n 0x2C → exec (.mkSet x) s0 = .next (u.modThr n fun y => { y with pendMark := bits t.ir 7 0 })) ∧
    (s0.atOp n 0x2D → exec (.sofSet x) s0 = .next (u.modThr n fun y => { y with pendSof := some (bits t.ir 1 0) })) ∧
    (s0.atOp n 0x20 →
      let ir := setBits t.ir 63 56 (pushOp (uoperand (s.wordAt n) % 8))
      (8 ≤ t.queue.length → exec (.pqPush x) s0 = .next held) ∧
      (t.queue.length < 8 → itemOfPi ir (s.grs n) 0 (t.pc - 1) 0 = none → exec (.pqPush x) s0 = .next u) ∧
      (∀ i : Item, t.queue.length < 8 → itemOfPi ir (s.grs n) 0 (t.pc - 1) 0 = some i → ∃ v, exec (.pqPush x) s0 = .next v ∧
        (v.thr n).serial = t.serial + 1 ∧ (v.thr n).pendPad = none ∧ ∃ e : Item, (v.thr n).queue = t.queue ++ [e] ∧ e.kind = i.kind ∧
          e.id = t.serial ∧ e.timeoutPad = t.pendPad ∧
          (i.kind ≠ .join → i.kind ≠ .spansync → e.marker = t.pendMark ∧ e.sof = t.pendSof ∧ (v.thr n).pendMark = 0 ∧ (v.thr n).pendSof = none) ∧
          (i.kind = .join ∨ i.kind = .spansync → (v.thr n).pendMark = t.pendMark ∧ (v.thr n).pendSof = t.pendSof))) ∧
    (s0.atOp n 0x2E → (8 ≤ t.queue.length → exec (.haltQ x) s0 = .next held) ∧
      (t.queue.length < 8 → ∃ v, exec (.haltQ x) s0 = .next v ∧ (v.thr n).pendMark = 0 ∧ (v.thr n).pendSof = none ∧
        ∃ e : Item, (v.thr n).queue = t.queue ++ [e] ∧ e.kind = .halt ∧ e.code = bits t.ir 15 0)) ∧
    (s0.atOp n 0x2A → (s.freePad n = none → exec (.arm x) s0 = .next held) ∧
      (∀ i, s.freePad n = some i → exec (.arm x) s0 = .next (u.armPad n i (bits t.ir 15 0) (t.pc - 1) false t.ir))) ∧
    (s0.atOp n 0x2B → (bits t.ir 47 32 = 0 → exec (.armTo x) s0 = .next u) ∧
      (bits t.ir 47 32 ≠ 0 → s.freePad n = none → exec (.armTo x) s0 = .next held) ∧
      (∀ i, bits t.ir 47 32 ≠ 0 → s.freePad n = some i → exec (.armTo x) s0 =
        .next ((u.armPad n i (bits t.ir 31 16) (t.pc - 1) true t.ir).modThr n fun y => { y with pendPad := some i }))) ∧
    (∀ c ∈ microOps x, s0.running = true → s0.reads n = false → exec c.1 s0 = .next s0) ∧
    (s0.running = true → s0.reads n = true →
      let reads := s0.clusterReads (n / 4)
      let checked (v : State) (code : Nat) : Prop := (∀ c ∈ microOps x, exec c.1 s0 = .next v) ∧
        v.bitOf SEQ_CS_STAT_SUSPECT (n / 4) = true ∧ ∃ f, v.hsk.lines = s0.hsk.lines ++ [(s0.beat.lbc, f)] ∧ f.sub = 1 ∧ f.cls = 2 ∧
          f.code = code ∧ f.mask = BitVec.ofNat 32 (15 * 16 ^ (n / 4)) ∧
          ∀ m : Fin 32, (m.val / 4 = n / 4 → s0.idle m.val = false →
            (v.thr m.val).parked = true ∧ (v.thr m.val).abortsBy (s0.beat.lbc + 1) = true) ∧
            (m.val / 4 ≠ n / 4 ∨ s0.idle m.val = true → v.thr m.val = s0.thr m.val)
      (reads.any (fun c => c.2.2.1 != 0) = true → ∃ v, checked v 0x0101) ∧
      (reads.any (fun c => c.2.2.1 != 0) = false → reads.any (fun c => c.2.2.2) = true → ∃ v, checked v 0x0102))

/-- In RUN: a thread that issues, with no decision, stop or abort standing and in no lockstep group, whose next start S
lies in the beat and whose period P takes it past the beat, issues from the row held at its issue point one vector
with start S, that row and the next VN, and its next start is S + P; an idle thread issues none. OUTPUT_PIPE_SCHEDULE
schedules every vector issued 8 beats ago. Two beats after its issue a vector of an empty timing set leaves the pipe
and puts the C2 fault 0x0003 on TMG's line in that beat. At beat 1 of an abort the thread is ABORTED with its queue
empty, its engine parked, the reason in SEQ_THR_END, no vector left that was issued in the last 12 beats, and, if its
burst had started, the channels to take their quiet state where the grid next starts after beat 1, with no strobe at
or after that cut. A quiet state due in the beat is entered. A marker pulse that ends in the beat deasserts its ball,
once the actions that reach the ball before its end are taken and none of them has moved it. (The cut and the quiet
start by vector-grid times are log entries 58, 72 and 100.) (Rests on R25; R26; R77; R78; R91; R99; R103; R119; R131;
03_pips.md; 04_segments.md.) -/
def Obligations.VectorsIssueOnTheGrid : Prop :=
  ∀ (x : Fin 32) (s : State), s.running = true →
    let n := x.val
    let t := s.thr n
    (∀ (it : Item) (p : Pass) (row : List Byte), s.issuing n = true → t.st ≠ 4 → t.abortAt = none → t.taken = none → t.atEnds = [] →
      t.stopAt = none → t.stopNext = none → t.blocked = false → s.memberOf n = none → s.headItem n = some it → t.began.isSome = true →
      it.kind ≠ .halt → it.kind ≠ .join → it.kind ≠ .spansync → t.passOf it = some p → p.ended = false → p.checked = true →
      p.rowBytes p.row = some row → s.sparseBad p.entry p.row = none → entCrcEn p.entry = false → t.next < (s.beat.lbc + 1) * beatFs →
      let period := if entFixed p.entry then s.fieldOf TMG_SITE_CFG_FX_PERIOD n else imgPeriod (s.tset n (rowTset row))
      (s.beat.lbc + 1) * beatFs ≤ t.next + period →
      ∃ u v, exec (.vectorIssue x) s = .next u ∧ (u.thr n).pipe = t.pipe ++ [v] ∧ v.start = t.next ∧ v.period = period ∧
        v.seg = p.seg ∧ v.row = p.row ∧ v.vn = t.nextVn ∧ v.issued = s.beat.lbc ∧ (u.thr n).next = t.next + period ∧
        (u.thr n).nextVn = (t.nextVn + 1) % 2 ^ 48) ∧
    (s.issuing n = false → exec (.vectorIssue x) s = .next s) ∧
    (∃ u, exec (.outputPipeSchedule x) s = .next u ∧ ∀ v ∈ (u.thr n).pipe, v.issued + 8 ≤ s.beat.lbc → v.scheduled = true) ∧
    (∀ v, s.issuing n = true → t.pipe.find? (fun v => v.period == 0 && decide (v.issued + 2 ≤ s.beat.lbc)) = some v →
      ∃ u, exec (.tsetEmptyDetect x) s = .next u ∧ (u.thr n).pipe = t.pipe.filter (fun w => w.no != v.no) ∧
        u.hsk.lines = s.hsk.lines ++ [(s.beat.lbc, ⟨0, 2, 0x0003, fld 15 8 v.tset + fld 4 0 n, BitVec.ofNat 32 (2 ^ n), false, some (v.vn, v.row, v.seg)⟩)]) ∧
    (∀ b r, t.abortAt = some (b, r) →
      (b ≤ s.beat.lbc → ∃ u, exec (.siteAbort x) s = .next u ∧ (u.thr n).st = 6 ∧ (u.thr n).queue = [] ∧ (u.thr n).parked = true ∧
        (u.thr n).abortAt = none ∧ u.armedPads n = [] ∧ u.fieldOf SEQ_THR_END_REASON n = r % 16 ∧ (∀ v ∈ (u.thr n).pipe, v.issued + 12 ≤ b) ∧
        (t.st ≠ 1 → let cut := (b + 1) * beatFs
          ∀ ch ∈ s.siteChannels n, (u.pip ch).quietAt = some (gridAfter t.next t.lastPeriod cut : Int) ∧
            (u.pip ch).cutAt = some (cut : Int) ∧ ∀ y ∈ (u.pip ch).strobes, y.grid < cut)) ∧
      (s.beat.lbc < b → exec (.siteAbort x) s = .next s)) ∧
    (∀ (ch : Fin 128) (g : Int), (s.pip ch.val).quietAt = some g →
      (g < (s.now + beatFs : Nat) → ∃ u, exec (.quietStateEntry ch) s = .next u ∧ u.bitOf TMG_CH_CFG_IN_QUIET ch.val = true ∧
        (u.pip ch.val).quietAt = none) ∧
      ((s.now + beatFs : Nat) ≤ g → exec (.quietStateEntry ch) s = .next s)) ∧
    ∀ (k : Fin 16) (e : Nat), (s.mark k.val).ends = some e →
      (e < 8 * (s.beat.lbc + 1) → let u := s.settleBall k.val e
        exec (.mkPulseEnd k) s = .next (if (u.mark k.val).ends = some e then u.setMark k.val { on := false, ends := none } else u)) ∧
      (8 * (s.beat.lbc + 1) ≤ e → exec (.mkPulseEnd k) s = .next s)

/-- In RUN the threads of one shared stream fetch as one. For a thread that shares its stream with none: a fetch request
asks, where a burst is on, the allowance is not negative and the window has room, for the next granule of the first
pass that wants one: of the items up to the first that repeats while 64 beats of rows are not asked for and the lead
is below 512 beats, then of what waits behind that, then of the former up to a lead of 512 beats (the shares: log
entry 79), and does nothing otherwise; the oldest fetch that arrives enters the pass that asked for it, unless GDDR6
could not correct it (R320), and leaves the list. A pad that is armed, or taken with its effect beat to come, and not
READY becomes READY with its rows; the rows of one that has landed early go to the stream that took it, and the pad
becomes READY too where it stands for the same rows; a READY pad, and one that is neither, is left as it is. A JIF pad
whose item has been issued, and for which no happening can count, is disarmed; a pad of a timeout is not. (Rests on
R178; R179; R211; R212; R214; R215; R225; 07_streaming.md; 06_branching.md.) -/
def Obligations.StreamsFetchTheirRows : Prop :=
  ∀ (x : Fin 32) (s : State), s.running = true →
    let n := x.val
    let t := s.thr n
    (∀ y : Fin 32, s.sharers y.val = s.sharers n → exec (.streamFetchRequest y) s = exec (.streamFetchRequest x) s ∧
      exec (.streamGranuleArrive y) s = exec (.streamGranuleArrive x) s) ∧
    (s.sharers n = [n] →
      let may := 1 ≤ t.st ∧ t.st ≤ 4 ∧ 0 ≤ s.allowance n ∧ t.granules < 16 * t.window
      let near := t.asked false < 64 * beatFs ∧ s.leadAhead n < 512
      let back := t.waiting < 16 * (t.window - t.winExtra) ∧ t.asked true < 512 * beatFs
      let asks (p : Pass) : Prop := ∃ u, exec (.streamFetchRequest x) s = .next u ∧
        (u.thr n).flight = t.flight ++ [⟨p.item, p.passNo, p.ask, s.beat.lbc⟩] ∧
        (u.thr n).stream = t.stream.map (fun q => if q.no = p.no then { q with ask := q.ask + 1 } else q)
      (∀ p, may → t.wants false = some p → (near ∨ ¬ back ∧ s.leadAhead n < 512) → asks p) ∧
      (∀ p, may → t.wants true = some p → ¬ near → back → asks p) ∧
      (may → ¬ near → ¬ back → 512 ≤ s.leadAhead n → exec (.streamFetchRequest x) s = .next s) ∧
      (¬ may → exec (.streamFetchRequest x) s = .next s) ∧
      (t.flight = [] → exec (.streamGranuleArrive x) s = .next s) ∧
      ∀ f r, t.flight = f :: r → ∃ u, exec (.streamGranuleArrive x) s = .next u ∧ (u.thr n).flight = r ∧
        ∀ p, t.stream.find? (fun q => q.item == f.item && q.passNo == f.passNo) = some p →
          (p.gone.contains f.granule = true → (u.thr n).stream = t.stream) ∧
          (p.gone.contains f.granule = false → p.addGranule f.granule (s.mem (entBase p.entry + 128 * f.granule) 128) ∈ (u.thr n).stream ∧
          ∀ q ∈ t.stream, q.no ≠ p.no → q.replay = false → q ∈ (u.thr n).stream)) ∧
    ∀ i : Fin 8,
      let p := s.pad n i.val
      let rows := p.rows.map s.fillPass
      let own : Pad := { p with ready := true, rows := rows }
      let same := p.ready = false ∧ p.rows.length = p.feed.length ∧ ∀ y ∈ p.rows.zip p.feed, y.1.sameFill y.2 = true
      let after (q : Pad) := (s.setPad n i.val { q with feed := [] }).feedStream n (p.feed.map s.fillPass)
      let taken := t.taken.map Prod.fst = some i.val
      (p.feed = [] → (p.ready = true ∨ p.armed = false ∧ ¬ taken → exec (.padReady x i) s = .next s) ∧
        (p.ready = false → p.armed = true ∨ taken → exec (.padReady x i) s = .next (s.setPad n i.val own))) ∧
      (p.feed ≠ [] → (same → exec (.padReady x i) s = .next (after own)) ∧ (¬ same → exec (.padReady x i) s = .next (after p))) ∧
      ((s.slot n p.slot).beat ≠ some (s.beat.lbc - 1) →
        (∀ y, p.armed = true → p.timeout = false → p.live.bind Live.last = some y → y.2.1 + 1 < s.beat.lbc → s.padWaits n p = false →
          exec (.padExpire x i) s = .next (s.setPad n i.val { p with armed := false })) ∧
        (p.timeout = true ∨ p.live.bind Live.last = none ∨ s.padWaits n p = true → exec (.padExpire x i) s = .next s))

/-- In RUN: the oldest strobe of a channel is judged from the beat of its result on: it leaves the channel's list, and its
vector holds the result; before that, and with no strobe, nothing happens. A slot with a happening due is set in the
beat, a STICKY one held, those happenings are gone, and the units that watch it are triggered; with none due nothing
happens. A decision of an issuing thread with none standing, and no abort of its own beat or an earlier one of effect,
is the first that applies of stop-on-fail IMMEDIATE, the true immediate pad armed longest ago (it is taken: the engine
goes on at target + 1 from the checkpoint, every pad is disarmed, then the landing item's own timeout pad armed, the
effect is due in the next beat), and the true AT_END pads, each requested for the next beat, and after those a WAIT or
MATCH ends; else nothing happens. At the effect beat the landing item takes the place of queue and stream. A WAIT at
its limit takes its timeout pad where nothing else stands. (Rests on R84; R87; R170; R172; R173; R174; R180; R183;
R185; R186; R187; 06_branching.md.) -/
def Obligations.DecisionsAreTakenInOrder : Prop :=
  ∀ (x : Fin 32) (s : State), s.running = true →
    let n := x.val
    let t := s.thr n
    let d := s.beat.lbc
    (∀ (ch : Fin 128) (h l : Bool) (ofs : Nat), ((s.pip ch.val).strobes = [] → exec (.compareResult ch h l ofs) s = .next s) ∧
      ∀ b rest, (s.pip ch.val).strobes = b :: rest →
        let read := s.strobeRead ch.val b h l
        let beat := beatOf (b.time (passes b.sym read) ofs)
        (d < beat → exec (.compareResult ch h l ofs) s = .next s) ∧
        (beat ≤ d → ∃ u, exec (.compareResult ch h l ofs) s = .next u ∧ (u.pip ch.val).strobes = rest ∧
          ∀ v, (s.thr b.thr).pipe.find? (fun v => v.no == b.vec) = some v → (u.thr b.thr).pipe = (s.thr b.thr).pipe.map fun w =>
            if w.no = v.no then (if b.sym = 8 then v.sampled ch.val read else v.judged ch.val b (passes b.sym read) read beat) else w)) ∧
    (∀ k : Fin 16,
      let due := s.hapsDue n k.val
      let v := s.slot n k.val
      (due = [] → exec (.conditionSlotSet x k) s = .next s) ∧
      (due ≠ [] → exec (.conditionSlotSet x k) s = .next
        (((s.modThr n fun y => { y with haps := y.haps.filter (fun h => !(h.slot == k.val && decide (h.beat ≤ d))) }).setSlot n k.val {
          sticky := if v.sticky.isNone && s.bitOf SEQ_CSL_CFG_STICKY (16 * n + k.val) then some d else v.sticky
          beat := some d
          of_ := (if v.beat = some d then v.of_ else []) ++ due.map Hap.of_ }).triggerAll 4 (n + 32 * k.val) s.now))) ∧
    (s.issuing n = false ∨ t.abortsBy (d + 1) = true ∨ t.taken.isSome = true ∨ t.stopAt.isSome = true →
      exec (.branchDecision x) s = .next s) ∧
    (s.issuing n = true → t.abortsBy (d + 1) = false → t.taken = none → t.stopAt = none →
      let failed := t.haps.find? (fun h => h.slot == 16 && decide (h.beat + 1 ≤ d))
      let stop := failed.isSome && (t.sof == 1 || s.fieldOf CAP_FLOG_CFG_POLICY n == 3)
      let jifs := (s.armedPads n).filter (fun i => !(s.pad n i).timeout)
      let now := jifs.filter (fun i => !(s.pad n i).atEnd && (s.padValue n i).1)
      let ends := jifs.filter (fun i => (s.pad n i).atEnd && (s.padValue n i).1 && !(t.atEnds.any (fun x => x.1 == i)) &&
        !(t.stream.any (fun p => p.atEnd == some i)))
      (stop = true → ∃ u, exec (.branchDecision x) s = .next u ∧ (u.thr n).stopAt = some ⟨d + 1, 3, true⟩) ∧
      (∀ i, stop = false → s.oldestPad n now = some i → ∃ u, exec (.branchDecision x) s = .next u ∧ (u.thr n).taken = some (i, d + 1) ∧
        (u.thr n).pc = (s.pad n i).target + 1 ∧ (u.thr n).ls = (s.pad n i).ls ∧ (u.thr n).cs = (s.pad n i).cs ∧
        (∀ k ∈ u.armedPads n, k = if i = 0 then 1 else 0) ∧
        (u.thr n).stopAt = none ∧ (∀ y ∈ (u.thr n).queue, y.timeoutPad = none ∧ y.pushed ≠ d) ∧
        ((∀ it, (s.pad n i).landing = some it → it.limit = 0 ∨ it.repeats = false) → u.armedPads n = [] ∧ (u.thr n).parked = false)) ∧
      (stop = false → now = [] → ∃ u, exec (.branchDecision x) s = .next u ∧ (u.thr n).taken = none ∧
        (∀ i ∈ ends, (i, d + 1) ∈ (u.thr n).atEnds) ∧ (failed.isSome = true → t.sof = 2 → (8, d + 1) ∈ (u.thr n).atEnds)) ∧
      ∀ it, failed = none → now = [] → ends = [] → s.headItem n = some it → (it.kind = .wait ∨ it.kind = .matchPass) → t.waitEnd = none →
        (s.slotValue n it.slot it.neg t.itemLive (d - 1)).1 = true →
        ∃ u, exec (.branchDecision x) s = .next u ∧ (u.thr n).waitEnd = some (d + 1)) ∧
    (s.issuing n = false → exec (.branchEffect x) s = .next s) ∧
    (∀ i e, s.issuing n = true → t.taken = some (i, e) → e ≤ d → ∃ u, exec (.branchEffect x) s = .next u ∧ (u.thr n).taken = none ∧
      (u.thr n).began = none ∧ (u.thr n).stream = (s.pad n i).rows ∧
      (u.thr n).queue = (s.pad n i).landing.toList) ∧
    (∀ it i, s.issuing n = true → s.headItem n = some it → it.kind = .wait → it.timeoutPad = some i →
      (∀ e, t.expires it = some e → e ≤ d + 1 →
        let u := s.decideBeat n
        (u.undecided n = true → exec (.waitTimeout x) s = .next (u.takePad n i none)) ∧
        (u.undecided n = false → exec (.waitTimeout x) s = .next u)) ∧
      ((∀ e, t.expires it = some e → d + 1 < e) → exec (.waitTimeout x) s = .next s))

/-- In RUN: a JOIN that every member of a group has reached releases two beats after the last arrival, every member's next
start at the boundary and no member split, and does nothing before; at a member's timeout before that, the other
decisions of the beat come first, then those that wait leave, and they are the group. For the member site of an
enabled span: a SPANSYNC that has arrived releases at the boundary that every member's arrival gives, and not before;
its own expiry is sent once, and at the boundary of the earliest expiry the member leaves for its timeout target with
its event; a member that sent nothing for 16 beats puts a frame for the present burst beat; a member that nothing came
from for L_span beats puts the C2 fault 0x010A on SEQ's line, with no vector, unless an abort by that beat stands.
With no span site each does nothing, but that a SPANSYNC of a thread in no span leaves by its own limit (log entry
83). (Rests on R146; R192; R193; R194; R196; R197; R198; R199; R200; 06_branching.md.) -/
def Obligations.JoinsAndSpansRelease : Prop :=
  ∀ s : State, s.running = true →
    let calm (m : Nat) : Prop := ∀ it e, s.headItem m = some it → it.kind = .spansync → (s.thr m).expires it = some e → s.beat.lbc + 1 < e
    (∀ g : Fin 8, ∀ m0 it, (s.group g.val).members.head? = some m0 → s.headItem m0 = some it →
      let ms := (s.group g.val).members
      let last := ms.foldl (fun a m => max a ((s.thr m).arrived.getD 0)) 0
      (it.kind = .join → (s.joined g.val it.pi).length = ms.length → last + 2 ≤ s.beat.lbc → ∃ u, exec (.joinRelease g) s = .next u ∧
        (∀ m ∈ ms, (u.thr m).next = s.now) ∧ (u.group g.val).splits = []) ∧
      (it.kind ≠ .join ∨ (s.joined g.val it.pi).length ≠ ms.length ∨ s.beat.lbc < last + 2 → exec (.joinRelease g) s = .next s)) ∧
    (∀ (x : Fin 32) (it : Item), s.headItem x.val = some it →
      (∀ g e, it.kind = .join → (s.thr x.val).expires it = some e → e ≤ s.beat.lbc + 1 → (s.thr x.val).taken = none → s.issuing x.val = true →
        s.memberOf x.val = some g → (s.joined g it.pi).length ≠ (s.group g).members.length →
        let u := each (s.joined g it.pi) State.decideBeat s
        (u.undecided x.val = false → exec (.joinTimeout x) s = .next u) ∧
        (u.undecided x.val = true → ∃ v, exec (.joinTimeout x) s = .next v ∧ (v.group g).members = s.joined g it.pi ∧ (v.group g).splits = [] ∧
          ∀ m ∈ s.joined g it.pi, u.undecided m = true → ((u.headItem m).bind Item.timeoutPad).isSome = true → (v.thr m).taken.isSome = true)) ∧
      (it.kind ≠ .join ∨ (s.thr x.val).expires it = none ∨ s.issuing x.val = false ∨ s.allWait x.val it = true →
        exec (.joinTimeout x) s = .next s)) ∧
    (s.spanSite = none → exec .spansyncRelease s = .next s ∧ exec .spanKeepalive s = .next s ∧ (∀ m, exec (.spanLinkLate m) s = .next s) ∧
      ((∀ m, calm m) → exec .spansyncTimeout s = .next s) ∧
      ∀ (x : Fin 32) it i e, s.inSpan x.val = false → (∀ m, m ≠ x.val → calm m) → s.headItem x.val = some it → it.kind = .spansync →
        it.timeoutPad = some i → (s.thr x.val).expires it = some e → e ≤ s.beat.lbc + 1 → s.issuing x.val = true →
        ((s.decideBeat x.val).undecided x.val = true → exec .spansyncTimeout s = .next ((s.decideBeat x.val).takePad x.val i none)) ∧
        ((s.decideBeat x.val).undecided x.val = false → exec .spansyncTimeout s = .next (s.decideBeat x.val))) ∧
    ∀ n, s.spanSite = some n →
      (∀ it, s.headItem n = some it → it.kind = .spansync → (s.thr n).arrived.isSome = true →
        (∀ r, s.spanRelease it.pi = some r →
          (r ≤ s.burstBeat n → ∃ u, exec .spansyncRelease s = .next u ∧ (u.thr n).next = s.now ∧ u.spanHeard 1 it.pi = []) ∧
          (s.burstBeat n < r → exec .spansyncRelease s = .next s)) ∧
        (s.spanRelease it.pi = none → exec .spansyncRelease s = .next s) ∧
        let own := match (s.thr n).expires it with | some e => decide (e ≤ s.beat.lbc) | none => false
        let sent := (s.spanHeard 2 it.pi).any (fun x => x.1 == s.fieldOf KLK_MOD_ID_ID 0)
        let u := if own && !sent then s.spanPut (s.burstBeat n) 0 2 it.pi [] else s
        (∀ m, m ≠ n → calm m) →
        (u.spanExpiry it.pi = none → exec .spansyncTimeout s = .next u) ∧
        ∀ e i, u.spanExpiry it.pi = some e → it.timeoutPad = some i →
          (e ≤ s.burstBeat n → exec .spansyncTimeout s =
            .next ((((u.spanForget it.pi e).event (848 + 4 * n + 3)).release n s.now).jumpAtEnd n i true)) ∧
          (s.burstBeat n < e → exec .spansyncTimeout s = .next u)) ∧
      (s.issuing n = true → s.seq.span.sentAt + 16 ≤ s.beat.lbc → ∃ u, exec .spanKeepalive s = .next u ∧
        u.seq.span.out.any (fun c => c.member == s.fieldOf KLK_MOD_ID_ID 0 && c.beat == s.burstBeat n) = true) ∧
      (s.issuing n = false ∨ s.beat.lbc < s.seq.span.sentAt + 16 → exec .spanKeepalive s = .next s) ∧
      ∀ m : BitVec 11,
        let heard := ((s.seq.span.last.find? (fun x => x.1 == m.toNat)).map Prod.snd).getD (s.thr n).startBeat
        let late := m.toNat ≠ s.fieldOf KLK_MOD_ID_ID 0 ∧ s.issuing n = true ∧ heard + s.lSpan ≤ s.beat.lbc
        (late → (s.thr n).abortsBy (s.beat.lbc + 2) = false → ∃ u f, exec (.spanLinkLate m) s = .next u ∧ u.hsk.lines = s.hsk.lines ++ [(s.beat.lbc + 1, f)] ∧ f.sub = 1 ∧ f.cls = 2 ∧
          f.code = 0x010A ∧ f.detail = fld 31 16 (s.fieldOf SEQ_SPAN_CFG_SPAN 0) + fld 10 0 m.toNat ∧ f.mask = BitVec.ofNat 32 (2 ^ n) ∧ f.vn = none) ∧
        (late → (s.thr n).abortsBy (s.beat.lbc + 2) = true → exec (.spanLinkLate m) s = .next s) ∧
        (¬ late → exec (.spanLinkLate m) s = .next s)

/-- At a served mailbox, with units named: CAP_AQ_ARM of units none of which is armed, with room in the CAPTURE pool, puts
each at slot 0 with nothing recorded, READY where PRE is 0 and else in FILL; CAP_AQ_DISARM makes each IDLE without
blocks and answers how many it freed, the masks stay, and no read of them is pending; CAP_AQ_TRIG triggers the named
units whose SRC is SOFT at the start of the beat and answers which; CAP_AQ_READ of a complete slot, or of a FROZEN
unit, into memory is deferred; CAP_AQ_MASK_LOAD of 1 to 4,096 bins for an IDLE unit outside a transaction loads them,
and a bin whose lower bound exceeds its upper one refuses the command with its number. (Rests on R60; R65; R242; R244;
R246; R247; R253; R257; R258; 08_capture.md.) -/
def Obligations.AcquisitionUnitsAreServed : Prop :=
  ∀ (iss : Issuer) (s : State), s.serves iss →
    (∀ m : W16, m ≠ 0 →
      let l := maskList m 16
      ((∀ a ∈ l, (s.aq a).st = 0 ∨ (s.aq a).st = 5 ∨ (s.aq a).st = 6) →
        (let need := ((l.filter (fun a => (s.aq a).st == 0)).map s.aqBlocks).foldl (· + ·) 0
         need = 0 ∨ s.mayTake 2 need = true) →
        ∃ u : State, exec (.capAqArm iss m) s = .next (u.complete iss Status.ok [m.toNat]) ∧ ∀ a ∈ l, (u.aq a).slot = 0 ∧
          (u.aq a).slots = [] ∧ (u.aq a).st = if s.aqPre a = 0 then 2 else 1) ∧
      (∃ u : State, exec (.capAqDisarm iss m) s = .next (u.complete iss Status.ok
          [(l.map (fun a => (s.aq a).blocks.length)).foldl (· + ·) 0]) ∧
        (∀ a ∈ l, (u.aq a).st = 0 ∧ (u.aq a).blocks = [] ∧ (u.aq a).slots = [] ∧ (u.aq a).mask = (s.aq a).mask) ∧
        ∀ d ∈ u.hst.deferred, ∀ i a k e, d.cmd = .capAqRead i a k e → k.toNat ∉ l) ∧
      (let soft := l.filter (fun a => s.fieldOf CAP_AQ_TRIG_SRC a == 1)
       exec (.capAqTrig iss m) s = .next ((each soft (fun a t => t.aqTrigger a t.now) s).complete iss Status.ok [listMask soft]))) ∧
    (∀ (dest : W64) (a i : Byte), a.toNat < 16 → i.toNat < 16 →
      s.badRam dest 8 (32 + 4 * (s.aqSlot a.toNat i.toNat).samples) = false →
      ((s.aqSlot a.toNat i.toNat).complete = true ∨ (s.aq a.toNat).st = 6 →
        exec (.capAqRead iss dest a i) s = .next (s.defer iss (.capAqRead iss dest a i) 0 [])) ∧
      ((s.aqSlot a.toNat i.toNat).complete = false → (s.aq a.toNat).st ≠ 6 →
        exec (.capAqRead iss dest a i) s = .next (s.complete iss Status.wrongState []))) ∧
    ∀ (src : W64) (a : Byte) (n : W16), a.toNat < 16 → 1 ≤ n.toNat → n.toNat ≤ 4096 → s.badRam src 8 (8 * n.toNat) = false →
      s.txnOf iss.mb.val = none → (s.aq a.toNat).st = 0 →
      let img := s.mem src.toNat (8 * n.toNat)
      (maskBad img n.toNat = none →
        exec (.capAqMaskLoad iss src a n) s = .next ((s.loadMask a.toNat n.toNat img).complete iss Status.ok [n.toNat])) ∧
      ∀ b, maskBad img n.toNat = some b →
        exec (.capAqMaskLoad iss src a n) s = .next (s.complete iss Status.badArgument [0, b])

/-- In RUN: of the vectors of an armed digital unit's site that have a C on a channel of its window and owe it a sample,
the one whose sample is due first, two beats after the last strobe of those channels, gives it, once, and none before;
an IDLE, DONE or FROZEN unit takes none. The oldest sample of a unit is taken from the beat in which it reaches it on:
it is stored at the next place of the slot's ring, of the next slot's where a crossing that it makes is placed on the
sample before it and completes the slot, or joins the running average, where the one that would complete it waits
while acquisition post-processing is deferred (R428); before, and without one, nothing happens. A monitor unit READY
for TIMEOUT beats forces a trigger on its latest sample, or on the next, and before that does nothing. A hold-off that
is over leads to READY with PRE samples, else to FILL; one that is not stays. A trigger output's pulse that ends in
the beat deasserts it. An edge of a TI ball sets its level, is a happening of the slots that name it two beats later
if it rises, and triggers the units of its polarity and the converters; a level that does not change does nothing.
(Rests on R170; R241; R244; R247; R250; R251; R252; R253; R428; 08_capture.md.) -/
def Obligations.AcquisitionUnitsCapture : Prop :=
  ∀ (x : Fin 16) (s : State), s.running = true →
    let a := x.val
    let u := s.aq a
    let site := s.fieldOf CAP_AQ_SRC_SITE a
    let k := s.fieldOf CAP_AQ_CFG_AVG_K a
    let off := u.st = 0 ∨ u.st = 5 ∨ u.st = 6
    (off ∨ s.bitOf CAP_AQ_SRC_TYPE a = true → exec (.captureSample x) s = .next s) ∧
    (¬ off → s.bitOf CAP_AQ_SRC_TYPE a = false →
      let w := s.fieldOf CAP_AQ_SRC_WIN a
      let due := (s.thr site).pipe.filter (fun v => s.owesSample a v && v.sampleDue w s.beat.lbc)
      (due = [] → exec (.captureSample x) s = .next s) ∧
      ∀ v, due.foldl (earlierSample w) none = some v → (∀ y ∈ due, v.sampleBeat w ≤ y.sampleBeat w) ∧
        ∃ t, exec (.captureSample x) s = .next t ∧ (t.aq a).input = u.input ++ (s.digitalSample a v).toList ∧
          ∀ y ∈ (t.thr site).pipe, y.no = v.no → y.given.contains a = true) ∧
    (u.input = [] → exec (.aqSample x) s = .next s) ∧
    (∀ y r, u.input = y :: r →
      (s.beat.lbc < y.reach → exec (.aqSample x) s = .next s) ∧
      (y.reach ≤ s.beat.lbc →
        (k = 0 → off → exec (.aqSample x) s = .next (s.modAq a fun w => { w with input := r })) ∧
        (k = 0 → ¬ off → s.meas.lost = false →
          let crossed := s.fieldOf CAP_AQ_TRIG_SRC a = 7 ∧ ((s.aqCrossing a y).1.any (fun f => decide (f < 256))) = true
          let v := if crossed then s.aqLevel a ((s.aqCrossing a y).1.getD 0) y else s
          let at_ := v.aqAddr a (v.aq a).slot (v.aq a).cur.n
          ((v.aq a).stopped = false → ∃ t, exec (.aqSample x) s = .next t ∧ t.memNat at_ 4 = twos 32 y.value ∧ t.ramKept s at_ 4) ∧
          (crossed → u.st = 2 → s.aqPre a + 1 ≤ u.cur.n → (v.aqSlot a u.slot).trig = some (u.cur.n - 1) ∧ (v.aqSlot a u.slot).forced = false ∧
            (v.aqSlot a u.slot).frac = ((s.aqCrossing a y).1.getD 0))) ∧
        (k ≠ 0 → 2 ^ k ≤ u.avgN + 1 → s.classDeferred 0 = true → exec (.aqSample x) s = .next s) ∧
        (k ≠ 0 → u.avgN + 1 < 2 ^ k → exec (.aqSample x) s =
          .next (s.modAq a fun w => { w with input := r, avgN := u.avgN + 1, avgSum := u.avgSum + y.value })))) ∧
    (let due := s.bitOf CAP_AQ_CFG_CLASS a = true ∧ u.st = 2 ∧ u.readySince + s.fieldOf CAP_AQ_TMO_TIMEOUT a ≤ s.beat.lbc
     (due → u.cur.n = 0 → exec (.aqMonitorTimeout x) s = .next (s.modAq a fun w => { w with forceNext := true })) ∧
     (due → u.cur.n ≠ 0 → ∃ t, exec (.aqMonitorTimeout x) s = .next t ∧ (t.aqSlot a u.slot).trig = some (u.cur.n - 1) ∧
       (t.aqSlot a u.slot).forced = true) ∧
     (¬ due → exec (.aqMonitorTimeout x) s = .next s)) ∧
    (let over_ := if s.bitOf CAP_AQ_CFG_HOLD_EV a then s.fieldOf CAP_AQ_HOLD_HOLD a ≤ u.holdCount
       else u.since + s.fieldOf CAP_AQ_HOLD_HOLD a ≤ s.beat.lbc
     (u.st = 4 → over_ → ∃ t, exec (.aqHoldoffEnd x) s = .next t ∧ (t.aq a).st = (if s.aqPre a ≤ u.cur.n then 2 else 1) ∧
       (t.aq a).cur = u.cur) ∧
     (u.st ≠ 4 ∨ ¬ over_ → exec (.aqHoldoffEnd x) s = .next s)) ∧
    (∀ (o : Fin 8) (e : Nat), (s.cap.tos.get (fun _ => ({ } : Mk)) o.val).ends = some e →
      (e < 8 * (s.beat.lbc + 1) → ∃ t, exec (.toPulseEnd o) s = .next t ∧ (t.cap.tos.get (fun _ => ({ } : Mk)) o.val).on = false) ∧
      (8 * (s.beat.lbc + 1) ≤ e → exec (.toPulseEnd o) s = .next s)) ∧
    ∀ (rise : Bool) (c : Fin 8), (s.cap.ti.getD a false = rise → exec (.tiEdge x rise c) s = .next s) ∧
      (s.cap.ti.getD a false ≠ rise →
        let l := (List.range 16).filter (fun b => s.fieldOf CAP_AQ_TRIG_SRC b == 3 && s.fieldOf CAP_AQ_TRIG_ARG b % 16 == a &&
          s.bitOf CAP_AQ_TRIG_POL b == !rise)
        let v := s.withCap fun y => { y with ti := y.ti.set a rise }
        exec (.tiEdge x rise c) s = .next ((each l (fun b => State.aqTrigger b (s.beat.lbc * 1250000 + c.val * 156250))
          (if rise then v.happenAll 5 a (s.beat.lbc + 2) else v)).adcTrigger 2 a (s.beat.lbc + 2) rise))

/-- In RUN: the fail bits of a site's vectors whose results are two beats old are taken: each vector counts once in
CAP_FAIL_VEC with its first, the earliest failing vector of the burst so far gives CAP_FIRST_VN its VN, and each bit
adds one to CAP_CH_FCNT of its channel; with POLICY ALL a failing vector whose bits are all in and whose windows have
ended, the only one waiting, opens a record where none is open, or joins the open one that it continues; with no bit
due and no vector complete the registers stay. An open record without a merge for 1,024 beats closes: it is staged and
WP counts its bytes where the region and the staging have room; where the region is full, or has been, or would hold
only part of it (log entry 63), its vectors are lost and FULL and LOST are set; where the staging is full they are
lost and LOST is set. After a halt or an abort, with every vector judged, the log is flushed: no record is open or
staged, and FLUSHED is set; before, nothing happens. (Rests on R230; R231; R232; R233; R234; R235; R236; R238; R239;
R240; 08_capture.md.) -/
def Obligations.FailsAreCountedAndLogged : Prop :=
  ∀ (x : Fin 32) (s : State), s.running = true →
    let n := x.val
    let l := s.failLog n
    let pipe := (s.thr n).pipe
    let due (v : Vec) : List (Nat × Nat) := v.bitsDue.filter (fun y => decide (y.2 + 2 ≤ s.beat.lbc))
    ((pipe.map Vec.no).Nodup → (∀ v ∈ pipe, ∀ y ∈ v.bitsDue, y.1 < 128) → ∃ t, exec (.failBitCapture x) s = .next t ∧
      t.reg64 .CAP_FAIL_VEC n = s.reg64 .CAP_FAIL_VEC n + BitVec.ofNat 64 (pipe.filter (fun v => !(due v).isEmpty && !v.counted)).length ∧
      (∀ c < 128, t.fieldOf CAP_CH_FCNT_COUNT c =
        min (s.fieldOf CAP_CH_FCNT_COUNT c + ((pipe.flatMap due).filter (fun y => y.1 == c)).length) (2 ^ 32 - 1)) ∧
      ((∀ v ∈ pipe, due v ≠ [] → ∃ k, l.firstNo = some k ∧ k ≤ v.no) → t.reg64 .CAP_FIRST_VN n = s.reg64 .CAP_FIRST_VN n) ∧
      (∀ v ∈ pipe, due v ≠ [] → (∀ w ∈ pipe, due w ≠ [] → v.no ≤ w.no) → (∀ k, l.firstNo = some k → v.no < k) →
        t.reg64 .CAP_FIRST_VN n = BitVec.ofNat 64 (2 ^ 63 + v.vn)) ∧
      (∀ v ∈ pipe, v.taken = false → (∀ w ∈ pipe, w.taken = false → w = v) → v.scheduled = true → v.todo = [] → due v = v.bitsDue →
        v.fails ≠ [] → v.lastBeat + 2 ≤ s.beat.lbc → (∀ y ∈ v.early, y.2.2 < s.beat.lbc) → s.fieldOf CAP_FLOG_CFG_POLICY n = 0 →
        let f := (v.chs.zipIdx.filter (fun y => v.fails.contains y.1)).map Prod.snd
        (l.record = none → (t.failLog n).record =
          some ⟨v.vn, v.seg, v.row, v.pass, 0, f, !v.invalid.isEmpty, false, v.chs.length, s.beat.lbc⟩) ∧
        (∀ r, l.record = some r → v.vn = (r.vn + r.run + 1) % 2 ^ 48 → v.pass = r.pass → v.seg = r.seg → r.fails = f →
          r.invalid = !v.invalid.isEmpty → r.run < 65535 →
          (t.failLog n).record = some { r with run := r.run + 1, last := s.beat.lbc }))) ∧
    ((∀ v ∈ pipe, due v = []) → (∀ v, pipe.find? (fun v => !v.taken) = some v → v.complete s.beat.lbc = false) →
      exec (.failBitCapture x) s = .next (s.prune n)) ∧
    (∀ r, l.record = some r → r.last + 1024 ≤ s.beat.lbc →
      let b := r.bytes r.width l.gap
      let full := s.bitOf CAP_FLOG_CFG_WRAP n = false ∧ (s.bitOf CAP_FLOG_STAT_FULL n = true ∨ s.logRegion n < l.total + b.length)
      (full → ∃ t, exec (.failRecordTimeout x) s = .next t ∧ (t.failLog n).record = none ∧ (t.failLog n).staged = l.staged ∧
        t.bitOf CAP_FLOG_STAT_FULL n = true ∧ t.bitOf CAP_FLOG_STAT_LOST n = true) ∧
      (¬ full → 8192 < l.waiting + b.length → ∃ t, exec (.failRecordTimeout x) s = .next t ∧ (t.failLog n).record = none ∧
        (t.failLog n).staged = l.staged ∧ (t.failLog n).gap = true ∧ t.bitOf CAP_FLOG_STAT_LOST n = true) ∧
      (¬ full → l.waiting + b.length ≤ 8192 → ∃ t, exec (.failRecordTimeout x) s = .next t ∧ (t.failLog n).record = none ∧
        (t.failLog n).staged = l.staged ++ [⟨b, r.run + 1, l.total, false⟩] ∧
        t.reg64 .CAP_FLOG_WP n = BitVec.ofNat 64 (l.total + b.length))) ∧
    ((∀ r, l.record = some r → s.beat.lbc < r.last + 1024) → exec (.failRecordTimeout x) s = .next s) ∧
    (let judged := pipe.all (fun v => v.taken || (v.scheduled && v.todo.isEmpty && v.compared.isEmpty))
     let over_ := s.issuing n = false ∧ judged = true ∧ l.unflushed = true
     (over_ → l.waiting ≤ 8192 → ∃ t, exec (.failLogFlush x) s = .next t ∧ (t.failLog n).record = none ∧ (t.failLog n).staged = [] ∧
       t.bitOf CAP_FLOG_STAT_FLUSHED n = true) ∧
     (¬ over_ → exec (.failLogFlush x) s = .next s))
end

