-- ==== Sys2Proof/Laws/State.lean ====
section
/-! SUPPORT. What each update of the state leaves in each field: one law for a field and an update, true by unfolding. -/

namespace Sys2Proof.Machine

@[simp] theorem State.setReg_beat (s : State) (st : Stem) (i w : Nat) (v : W32) : (s.setReg st i w v).beat = s.beat := rfl
@[simp] theorem State.setReg_regs (s : State) (st : Stem) (i w : Nat) (v : W32) : (s.setReg st i w v).regs = s.regs.set regReset (regKey st i w) v := rfl
@[simp] theorem State.setReg_ram (s : State) (st : Stem) (i w : Nat) (v : W32) : (s.setReg st i w v).ram = s.ram := rfl
@[simp] theorem State.setReg_nor (s : State) (st : Stem) (i w : Nat) (v : W32) : (s.setReg st i w v).nor = s.nor := rfl
@[simp] theorem State.setReg_hostMem (s : State) (st : Stem) (i w : Nat) (v : W32) : (s.setReg st i w v).hostMem = s.hostMem := rfl
@[simp] theorem State.setReg_hsk (s : State) (st : Stem) (i w : Nat) (v : W32) : (s.setReg st i w v).hsk = s.hsk := rfl
@[simp] theorem State.setReg_hst (s : State) (st : Stem) (i w : Nat) (v : W32) : (s.setReg st i w v).hst = s.hst := rfl
@[simp] theorem State.setReg_cst (s : State) (st : Stem) (i w : Nat) (v : W32) : (s.setReg st i w v).cst = s.cst := rfl
@[simp] theorem State.setReg_ntu (s : State) (st : Stem) (i w : Nat) (v : W32) : (s.setReg st i w v).ntu = s.ntu := rfl
@[simp] theorem State.setReg_seq (s : State) (st : Stem) (i w : Nat) (v : W32) : (s.setReg st i w v).seq = s.seq := rfl
@[simp] theorem State.setReg_klk (s : State) (st : Stem) (i w : Nat) (v : W32) : (s.setReg st i w v).klk = s.klk := rfl
@[simp] theorem State.setReg_cal (s : State) (st : Stem) (i w : Nat) (v : W32) : (s.setReg st i w v).cal = s.cal := rfl
@[simp] theorem State.setReg_cap (s : State) (st : Stem) (i w : Nat) (v : W32) : (s.setReg st i w v).cap = s.cap := rfl
@[simp] theorem State.setReg_meas (s : State) (st : Stem) (i w : Nat) (v : W32) : (s.setReg st i w v).meas = s.meas := rfl
@[simp] theorem State.setReg_mgt (s : State) (st : Stem) (i w : Nat) (v : W32) : (s.setReg st i w v).mgt = s.mgt := rfl
@[simp] theorem State.setReg_thm (s : State) (st : Stem) (i w : Nat) (v : W32) : (s.setReg st i w v).thm = s.thm := rfl
@[simp] theorem State.setReg_free (s : State) (st : Stem) (i w : Nat) (v : W32) : (s.setReg st i w v).free = s.free := rfl
@[simp] theorem State.setReg_pending (s : State) (st : Stem) (i w : Nat) (v : W32) : (s.setReg st i w v).pending = s.pending := rfl

@[simp] theorem State.withHsk_beat (s : State) (f : Hsk → Hsk) : (s.withHsk f).beat = s.beat := rfl
@[simp] theorem State.withHsk_regs (s : State) (f : Hsk → Hsk) : (s.withHsk f).regs = s.regs := rfl
@[simp] theorem State.withHsk_ram (s : State) (f : Hsk → Hsk) : (s.withHsk f).ram = s.ram := rfl
@[simp] theorem State.withHsk_nor (s : State) (f : Hsk → Hsk) : (s.withHsk f).nor = s.nor := rfl
@[simp] theorem State.withHsk_hostMem (s : State) (f : Hsk → Hsk) : (s.withHsk f).hostMem = s.hostMem := rfl
@[simp] theorem State.withHsk_hsk (s : State) (f : Hsk → Hsk) : (s.withHsk f).hsk = f s.hsk := rfl
@[simp] theorem State.withHsk_hst (s : State) (f : Hsk → Hsk) : (s.withHsk f).hst = s.hst := rfl
@[simp] theorem State.withHsk_cst (s : State) (f : Hsk → Hsk) : (s.withHsk f).cst = s.cst := rfl
@[simp] theorem State.withHsk_ntu (s : State) (f : Hsk → Hsk) : (s.withHsk f).ntu = s.ntu := rfl
@[simp] theorem State.withHsk_seq (s : State) (f : Hsk → Hsk) : (s.withHsk f).seq = s.seq := rfl
@[simp] theorem State.withHsk_klk (s : State) (f : Hsk → Hsk) : (s.withHsk f).klk = s.klk := rfl
@[simp] theorem State.withHsk_cal (s : State) (f : Hsk → Hsk) : (s.withHsk f).cal = s.cal := rfl
@[simp] theorem State.withHsk_cap (s : State) (f : Hsk → Hsk) : (s.withHsk f).cap = s.cap := rfl
@[simp] theorem State.withHsk_meas (s : State) (f : Hsk → Hsk) : (s.withHsk f).meas = s.meas := rfl
@[simp] theorem State.withHsk_mgt (s : State) (f : Hsk → Hsk) : (s.withHsk f).mgt = s.mgt := rfl
@[simp] theorem State.withHsk_thm (s : State) (f : Hsk → Hsk) : (s.withHsk f).thm = s.thm := rfl
@[simp] theorem State.withHsk_free (s : State) (f : Hsk → Hsk) : (s.withHsk f).free = s.free := rfl
@[simp] theorem State.withHsk_pending (s : State) (f : Hsk → Hsk) : (s.withHsk f).pending = s.pending := rfl

@[simp] theorem State.withHst_beat (s : State) (f : Hst → Hst) : (s.withHst f).beat = s.beat := rfl
@[simp] theorem State.withHst_regs (s : State) (f : Hst → Hst) : (s.withHst f).regs = s.regs := rfl
@[simp] theorem State.withHst_ram (s : State) (f : Hst → Hst) : (s.withHst f).ram = s.ram := rfl
@[simp] theorem State.withHst_nor (s : State) (f : Hst → Hst) : (s.withHst f).nor = s.nor := rfl
@[simp] theorem State.withHst_hostMem (s : State) (f : Hst → Hst) : (s.withHst f).hostMem = s.hostMem := rfl
@[simp] theorem State.withHst_hsk (s : State) (f : Hst → Hst) : (s.withHst f).hsk = s.hsk := rfl
@[simp] theorem State.withHst_hst (s : State) (f : Hst → Hst) : (s.withHst f).hst = f s.hst := rfl
@[simp] theorem State.withHst_cst (s : State) (f : Hst → Hst) : (s.withHst f).cst = s.cst := rfl
@[simp] theorem State.withHst_ntu (s : State) (f : Hst → Hst) : (s.withHst f).ntu = s.ntu := rfl
@[simp] theorem State.withHst_seq (s : State) (f : Hst → Hst) : (s.withHst f).seq = s.seq := rfl
@[simp] theorem State.withHst_klk (s : State) (f : Hst → Hst) : (s.withHst f).klk = s.klk := rfl
@[simp] theorem State.withHst_cal (s : State) (f : Hst → Hst) : (s.withHst f).cal = s.cal := rfl
@[simp] theorem State.withHst_cap (s : State) (f : Hst → Hst) : (s.withHst f).cap = s.cap := rfl
@[simp] theorem State.withHst_meas (s : State) (f : Hst → Hst) : (s.withHst f).meas = s.meas := rfl
@[simp] theorem State.withHst_mgt (s : State) (f : Hst → Hst) : (s.withHst f).mgt = s.mgt := rfl
@[simp] theorem State.withHst_thm (s : State) (f : Hst → Hst) : (s.withHst f).thm = s.thm := rfl
@[simp] theorem State.withHst_free (s : State) (f : Hst → Hst) : (s.withHst f).free = s.free := rfl
@[simp] theorem State.withHst_pending (s : State) (f : Hst → Hst) : (s.withHst f).pending = s.pending := rfl

@[simp] theorem State.withCst_beat (s : State) (f : Cst → Cst) : (s.withCst f).beat = s.beat := rfl
@[simp] theorem State.withCst_regs (s : State) (f : Cst → Cst) : (s.withCst f).regs = s.regs := rfl
@[simp] theorem State.withCst_ram (s : State) (f : Cst → Cst) : (s.withCst f).ram = s.ram := rfl
@[simp] theorem State.withCst_nor (s : State) (f : Cst → Cst) : (s.withCst f).nor = s.nor := rfl
@[simp] theorem State.withCst_hostMem (s : State) (f : Cst → Cst) : (s.withCst f).hostMem = s.hostMem := rfl
@[simp] theorem State.withCst_hsk (s : State) (f : Cst → Cst) : (s.withCst f).hsk = s.hsk := rfl
@[simp] theorem State.withCst_hst (s : State) (f : Cst → Cst) : (s.withCst f).hst = s.hst := rfl
@[simp] theorem State.withCst_cst (s : State) (f : Cst → Cst) : (s.withCst f).cst = f s.cst := rfl
@[simp] theorem State.withCst_ntu (s : State) (f : Cst → Cst) : (s.withCst f).ntu = s.ntu := rfl
@[simp] theorem State.withCst_seq (s : State) (f : Cst → Cst) : (s.withCst f).seq = s.seq := rfl
@[simp] theorem State.withCst_klk (s : State) (f : Cst → Cst) : (s.withCst f).klk = s.klk := rfl
@[simp] theorem State.withCst_cal (s : State) (f : Cst → Cst) : (s.withCst f).cal = s.cal := rfl
@[simp] theorem State.withCst_cap (s : State) (f : Cst → Cst) : (s.withCst f).cap = s.cap := rfl
@[simp] theorem State.withCst_meas (s : State) (f : Cst → Cst) : (s.withCst f).meas = s.meas := rfl
@[simp] theorem State.withCst_mgt (s : State) (f : Cst → Cst) : (s.withCst f).mgt = s.mgt := rfl
@[simp] theorem State.withCst_thm (s : State) (f : Cst → Cst) : (s.withCst f).thm = s.thm := rfl
@[simp] theorem State.withCst_free (s : State) (f : Cst → Cst) : (s.withCst f).free = s.free := rfl
@[simp] theorem State.withCst_pending (s : State) (f : Cst → Cst) : (s.withCst f).pending = s.pending := rfl

@[simp] theorem State.withNtu_beat (s : State) (f : Ntu → Ntu) : (s.withNtu f).beat = s.beat := rfl
@[simp] theorem State.withNtu_regs (s : State) (f : Ntu → Ntu) : (s.withNtu f).regs = s.regs := rfl
@[simp] theorem State.withNtu_ram (s : State) (f : Ntu → Ntu) : (s.withNtu f).ram = s.ram := rfl
@[simp] theorem State.withNtu_nor (s : State) (f : Ntu → Ntu) : (s.withNtu f).nor = s.nor := rfl
@[simp] theorem State.withNtu_hostMem (s : State) (f : Ntu → Ntu) : (s.withNtu f).hostMem = s.hostMem := rfl
@[simp] theorem State.withNtu_hsk (s : State) (f : Ntu → Ntu) : (s.withNtu f).hsk = s.hsk := rfl
@[simp] theorem State.withNtu_hst (s : State) (f : Ntu → Ntu) : (s.withNtu f).hst = s.hst := rfl
@[simp] theorem State.withNtu_cst (s : State) (f : Ntu → Ntu) : (s.withNtu f).cst = s.cst := rfl
@[simp] theorem State.withNtu_ntu (s : State) (f : Ntu → Ntu) : (s.withNtu f).ntu = f s.ntu := rfl
@[simp] theorem State.withNtu_seq (s : State) (f : Ntu → Ntu) : (s.withNtu f).seq = s.seq := rfl
@[simp] theorem State.withNtu_klk (s : State) (f : Ntu → Ntu) : (s.withNtu f).klk = s.klk := rfl
@[simp] theorem State.withNtu_cal (s : State) (f : Ntu → Ntu) : (s.withNtu f).cal = s.cal := rfl
@[simp] theorem State.withNtu_cap (s : State) (f : Ntu → Ntu) : (s.withNtu f).cap = s.cap := rfl
@[simp] theorem State.withNtu_meas (s : State) (f : Ntu → Ntu) : (s.withNtu f).meas = s.meas := rfl
@[simp] theorem State.withNtu_mgt (s : State) (f : Ntu → Ntu) : (s.withNtu f).mgt = s.mgt := rfl
@[simp] theorem State.withNtu_thm (s : State) (f : Ntu → Ntu) : (s.withNtu f).thm = s.thm := rfl
@[simp] theorem State.withNtu_free (s : State) (f : Ntu → Ntu) : (s.withNtu f).free = s.free := rfl
@[simp] theorem State.withNtu_pending (s : State) (f : Ntu → Ntu) : (s.withNtu f).pending = s.pending := rfl

@[simp] theorem State.withSeq_beat (s : State) (f : Pattern → Pattern) : (s.withSeq f).beat = s.beat := rfl
@[simp] theorem State.withSeq_regs (s : State) (f : Pattern → Pattern) : (s.withSeq f).regs = s.regs := rfl
@[simp] theorem State.withSeq_ram (s : State) (f : Pattern → Pattern) : (s.withSeq f).ram = s.ram := rfl
@[simp] theorem State.withSeq_nor (s : State) (f : Pattern → Pattern) : (s.withSeq f).nor = s.nor := rfl
@[simp] theorem State.withSeq_hostMem (s : State) (f : Pattern → Pattern) : (s.withSeq f).hostMem = s.hostMem := rfl
@[simp] theorem State.withSeq_hsk (s : State) (f : Pattern → Pattern) : (s.withSeq f).hsk = s.hsk := rfl
@[simp] theorem State.withSeq_hst (s : State) (f : Pattern → Pattern) : (s.withSeq f).hst = s.hst := rfl
@[simp] theorem State.withSeq_cst (s : State) (f : Pattern → Pattern) : (s.withSeq f).cst = s.cst := rfl
@[simp] theorem State.withSeq_ntu (s : State) (f : Pattern → Pattern) : (s.withSeq f).ntu = s.ntu := rfl
@[simp] theorem State.withSeq_seq (s : State) (f : Pattern → Pattern) : (s.withSeq f).seq = f s.seq := rfl
@[simp] theorem State.withSeq_klk (s : State) (f : Pattern → Pattern) : (s.withSeq f).klk = s.klk := rfl
@[simp] theorem State.withSeq_cal (s : State) (f : Pattern → Pattern) : (s.withSeq f).cal = s.cal := rfl
@[simp] theorem State.withSeq_cap (s : State) (f : Pattern → Pattern) : (s.withSeq f).cap = s.cap := rfl
@[simp] theorem State.withSeq_meas (s : State) (f : Pattern → Pattern) : (s.withSeq f).meas = s.meas := rfl
@[simp] theorem State.withSeq_mgt (s : State) (f : Pattern → Pattern) : (s.withSeq f).mgt = s.mgt := rfl
@[simp] theorem State.withSeq_thm (s : State) (f : Pattern → Pattern) : (s.withSeq f).thm = s.thm := rfl
@[simp] theorem State.withSeq_free (s : State) (f : Pattern → Pattern) : (s.withSeq f).free = s.free := rfl
@[simp] theorem State.withSeq_pending (s : State) (f : Pattern → Pattern) : (s.withSeq f).pending = s.pending := rfl

@[simp] theorem State.withCap_beat (s : State) (f : Capture → Capture) : (s.withCap f).beat = s.beat := rfl
@[simp] theorem State.withCap_regs (s : State) (f : Capture → Capture) : (s.withCap f).regs = s.regs := rfl
@[simp] theorem State.withCap_ram (s : State) (f : Capture → Capture) : (s.withCap f).ram = s.ram := rfl
@[simp] theorem State.withCap_nor (s : State) (f : Capture → Capture) : (s.withCap f).nor = s.nor := rfl
@[simp] theorem State.withCap_hostMem (s : State) (f : Capture → Capture) : (s.withCap f).hostMem = s.hostMem := rfl
@[simp] theorem State.withCap_hsk (s : State) (f : Capture → Capture) : (s.withCap f).hsk = s.hsk := rfl
@[simp] theorem State.withCap_hst (s : State) (f : Capture → Capture) : (s.withCap f).hst = s.hst := rfl
@[simp] theorem State.withCap_cst (s : State) (f : Capture → Capture) : (s.withCap f).cst = s.cst := rfl
@[simp] theorem State.withCap_ntu (s : State) (f : Capture → Capture) : (s.withCap f).ntu = s.ntu := rfl
@[simp] theorem State.withCap_seq (s : State) (f : Capture → Capture) : (s.withCap f).seq = s.seq := rfl
@[simp] theorem State.withCap_klk (s : State) (f : Capture → Capture) : (s.withCap f).klk = s.klk := rfl
@[simp] theorem State.withCap_cal (s : State) (f : Capture → Capture) : (s.withCap f).cal = s.cal := rfl
@[simp] theorem State.withCap_cap (s : State) (f : Capture → Capture) : (s.withCap f).cap = f s.cap := rfl
@[simp] theorem State.withCap_meas (s : State) (f : Capture → Capture) : (s.withCap f).meas = s.meas := rfl
@[simp] theorem State.withCap_mgt (s : State) (f : Capture → Capture) : (s.withCap f).mgt = s.mgt := rfl
@[simp] theorem State.withCap_thm (s : State) (f : Capture → Capture) : (s.withCap f).thm = s.thm := rfl
@[simp] theorem State.withCap_free (s : State) (f : Capture → Capture) : (s.withCap f).free = s.free := rfl
@[simp] theorem State.withCap_pending (s : State) (f : Capture → Capture) : (s.withCap f).pending = s.pending := rfl

@[simp] theorem State.withMeas_beat (s : State) (f : Meas → Meas) : (s.withMeas f).beat = s.beat := rfl
@[simp] theorem State.withMeas_regs (s : State) (f : Meas → Meas) : (s.withMeas f).regs = s.regs := rfl
@[simp] theorem State.withMeas_ram (s : State) (f : Meas → Meas) : (s.withMeas f).ram = s.ram := rfl
@[simp] theorem State.withMeas_nor (s : State) (f : Meas → Meas) : (s.withMeas f).nor = s.nor := rfl
@[simp] theorem State.withMeas_hostMem (s : State) (f : Meas → Meas) : (s.withMeas f).hostMem = s.hostMem := rfl
@[simp] theorem State.withMeas_hsk (s : State) (f : Meas → Meas) : (s.withMeas f).hsk = s.hsk := rfl
@[simp] theorem State.withMeas_hst (s : State) (f : Meas → Meas) : (s.withMeas f).hst = s.hst := rfl
@[simp] theorem State.withMeas_cst (s : State) (f : Meas → Meas) : (s.withMeas f).cst = s.cst := rfl
@[simp] theorem State.withMeas_ntu (s : State) (f : Meas → Meas) : (s.withMeas f).ntu = s.ntu := rfl
@[simp] theorem State.withMeas_seq (s : State) (f : Meas → Meas) : (s.withMeas f).seq = s.seq := rfl
@[simp] theorem State.withMeas_klk (s : State) (f : Meas → Meas) : (s.withMeas f).klk = s.klk := rfl
@[simp] theorem State.withMeas_cal (s : State) (f : Meas → Meas) : (s.withMeas f).cal = s.cal := rfl
@[simp] theorem State.withMeas_cap (s : State) (f : Meas → Meas) : (s.withMeas f).cap = s.cap := rfl
@[simp] theorem State.withMeas_meas (s : State) (f : Meas → Meas) : (s.withMeas f).meas = f s.meas := rfl
@[simp] theorem State.withMeas_mgt (s : State) (f : Meas → Meas) : (s.withMeas f).mgt = s.mgt := rfl
@[simp] theorem State.withMeas_thm (s : State) (f : Meas → Meas) : (s.withMeas f).thm = s.thm := rfl
@[simp] theorem State.withMeas_free (s : State) (f : Meas → Meas) : (s.withMeas f).free = s.free := rfl
@[simp] theorem State.withMeas_pending (s : State) (f : Meas → Meas) : (s.withMeas f).pending = s.pending := rfl

@[simp] theorem State.withCal_beat (s : State) (f : Cal → Cal) : (s.withCal f).beat = s.beat := rfl
@[simp] theorem State.withCal_regs (s : State) (f : Cal → Cal) : (s.withCal f).regs = s.regs := rfl
@[simp] theorem State.withCal_ram (s : State) (f : Cal → Cal) : (s.withCal f).ram = s.ram := rfl
@[simp] theorem State.withCal_nor (s : State) (f : Cal → Cal) : (s.withCal f).nor = s.nor := rfl
@[simp] theorem State.withCal_hostMem (s : State) (f : Cal → Cal) : (s.withCal f).hostMem = s.hostMem := rfl
@[simp] theorem State.withCal_hsk (s : State) (f : Cal → Cal) : (s.withCal f).hsk = s.hsk := rfl
@[simp] theorem State.withCal_hst (s : State) (f : Cal → Cal) : (s.withCal f).hst = s.hst := rfl
@[simp] theorem State.withCal_cst (s : State) (f : Cal → Cal) : (s.withCal f).cst = s.cst := rfl
@[simp] theorem State.withCal_ntu (s : State) (f : Cal → Cal) : (s.withCal f).ntu = s.ntu := rfl
@[simp] theorem State.withCal_seq (s : State) (f : Cal → Cal) : (s.withCal f).seq = s.seq := rfl
@[simp] theorem State.withCal_klk (s : State) (f : Cal → Cal) : (s.withCal f).klk = s.klk := rfl
@[simp] theorem State.withCal_cal (s : State) (f : Cal → Cal) : (s.withCal f).cal = f s.cal := rfl
@[simp] theorem State.withCal_cap (s : State) (f : Cal → Cal) : (s.withCal f).cap = s.cap := rfl
@[simp] theorem State.withCal_meas (s : State) (f : Cal → Cal) : (s.withCal f).meas = s.meas := rfl
@[simp] theorem State.withCal_mgt (s : State) (f : Cal → Cal) : (s.withCal f).mgt = s.mgt := rfl
@[simp] theorem State.withCal_thm (s : State) (f : Cal → Cal) : (s.withCal f).thm = s.thm := rfl
@[simp] theorem State.withCal_free (s : State) (f : Cal → Cal) : (s.withCal f).free = s.free := rfl
@[simp] theorem State.withCal_pending (s : State) (f : Cal → Cal) : (s.withCal f).pending = s.pending := rfl

@[simp] theorem State.withMgt_beat (s : State) (f : Mgt → Mgt) : (s.withMgt f).beat = s.beat := rfl
@[simp] theorem State.withMgt_regs (s : State) (f : Mgt → Mgt) : (s.withMgt f).regs = s.regs := rfl
@[simp] theorem State.withMgt_ram (s : State) (f : Mgt → Mgt) : (s.withMgt f).ram = s.ram := rfl
@[simp] theorem State.withMgt_nor (s : State) (f : Mgt → Mgt) : (s.withMgt f).nor = s.nor := rfl
@[simp] theorem State.withMgt_hostMem (s : State) (f : Mgt → Mgt) : (s.withMgt f).hostMem = s.hostMem := rfl
@[simp] theorem State.withMgt_hsk (s : State) (f : Mgt → Mgt) : (s.withMgt f).hsk = s.hsk := rfl
@[simp] theorem State.withMgt_hst (s : State) (f : Mgt → Mgt) : (s.withMgt f).hst = s.hst := rfl
@[simp] theorem State.withMgt_cst (s : State) (f : Mgt → Mgt) : (s.withMgt f).cst = s.cst := rfl
@[simp] theorem State.withMgt_ntu (s : State) (f : Mgt → Mgt) : (s.withMgt f).ntu = s.ntu := rfl
@[simp] theorem State.withMgt_seq (s : State) (f : Mgt → Mgt) : (s.withMgt f).seq = s.seq := rfl
@[simp] theorem State.withMgt_klk (s : State) (f : Mgt → Mgt) : (s.withMgt f).klk = s.klk := rfl
@[simp] theorem State.withMgt_cal (s : State) (f : Mgt → Mgt) : (s.withMgt f).cal = s.cal := rfl
@[simp] theorem State.withMgt_cap (s : State) (f : Mgt → Mgt) : (s.withMgt f).cap = s.cap := rfl
@[simp] theorem State.withMgt_meas (s : State) (f : Mgt → Mgt) : (s.withMgt f).meas = s.meas := rfl
@[simp] theorem State.withMgt_mgt (s : State) (f : Mgt → Mgt) : (s.withMgt f).mgt = f s.mgt := rfl
@[simp] theorem State.withMgt_thm (s : State) (f : Mgt → Mgt) : (s.withMgt f).thm = s.thm := rfl
@[simp] theorem State.withMgt_free (s : State) (f : Mgt → Mgt) : (s.withMgt f).free = s.free := rfl
@[simp] theorem State.withMgt_pending (s : State) (f : Mgt → Mgt) : (s.withMgt f).pending = s.pending := rfl

@[simp] theorem State.withThm_beat (s : State) (f : Thm → Thm) : (s.withThm f).beat = s.beat := rfl
@[simp] theorem State.withThm_regs (s : State) (f : Thm → Thm) : (s.withThm f).regs = s.regs := rfl
@[simp] theorem State.withThm_ram (s : State) (f : Thm → Thm) : (s.withThm f).ram = s.ram := rfl
@[simp] theorem State.withThm_nor (s : State) (f : Thm → Thm) : (s.withThm f).nor = s.nor := rfl
@[simp] theorem State.withThm_hostMem (s : State) (f : Thm → Thm) : (s.withThm f).hostMem = s.hostMem := rfl
@[simp] theorem State.withThm_hsk (s : State) (f : Thm → Thm) : (s.withThm f).hsk = s.hsk := rfl
@[simp] theorem State.withThm_hst (s : State) (f : Thm → Thm) : (s.withThm f).hst = s.hst := rfl
@[simp] theorem State.withThm_cst (s : State) (f : Thm → Thm) : (s.withThm f).cst = s.cst := rfl
@[simp] theorem State.withThm_ntu (s : State) (f : Thm → Thm) : (s.withThm f).ntu = s.ntu := rfl
@[simp] theorem State.withThm_seq (s : State) (f : Thm → Thm) : (s.withThm f).seq = s.seq := rfl
@[simp] theorem State.withThm_klk (s : State) (f : Thm → Thm) : (s.withThm f).klk = s.klk := rfl
@[simp] theorem State.withThm_cal (s : State) (f : Thm → Thm) : (s.withThm f).cal = s.cal := rfl
@[simp] theorem State.withThm_cap (s : State) (f : Thm → Thm) : (s.withThm f).cap = s.cap := rfl
@[simp] theorem State.withThm_meas (s : State) (f : Thm → Thm) : (s.withThm f).meas = s.meas := rfl
@[simp] theorem State.withThm_mgt (s : State) (f : Thm → Thm) : (s.withThm f).mgt = s.mgt := rfl
@[simp] theorem State.withThm_thm (s : State) (f : Thm → Thm) : (s.withThm f).thm = f s.thm := rfl
@[simp] theorem State.withThm_free (s : State) (f : Thm → Thm) : (s.withThm f).free = s.free := rfl
@[simp] theorem State.withThm_pending (s : State) (f : Thm → Thm) : (s.withThm f).pending = s.pending := rfl

@[simp] theorem State.withKlk_beat (s : State) (f : Klk → Klk) : (s.withKlk f).beat = s.beat := rfl
@[simp] theorem State.withKlk_regs (s : State) (f : Klk → Klk) : (s.withKlk f).regs = s.regs := rfl
@[simp] theorem State.withKlk_ram (s : State) (f : Klk → Klk) : (s.withKlk f).ram = s.ram := rfl
@[simp] theorem State.withKlk_nor (s : State) (f : Klk → Klk) : (s.withKlk f).nor = s.nor := rfl
@[simp] theorem State.withKlk_hostMem (s : State) (f : Klk → Klk) : (s.withKlk f).hostMem = s.hostMem := rfl
@[simp] theorem State.withKlk_hsk (s : State) (f : Klk → Klk) : (s.withKlk f).hsk = s.hsk := rfl
@[simp] theorem State.withKlk_hst (s : State) (f : Klk → Klk) : (s.withKlk f).hst = s.hst := rfl
@[simp] theorem State.withKlk_cst (s : State) (f : Klk → Klk) : (s.withKlk f).cst = s.cst := rfl
@[simp] theorem State.withKlk_ntu (s : State) (f : Klk → Klk) : (s.withKlk f).ntu = s.ntu := rfl
@[simp] theorem State.withKlk_seq (s : State) (f : Klk → Klk) : (s.withKlk f).seq = s.seq := rfl
@[simp] theorem State.withKlk_klk (s : State) (f : Klk → Klk) : (s.withKlk f).klk = f s.klk := rfl
@[simp] theorem State.withKlk_cal (s : State) (f : Klk → Klk) : (s.withKlk f).cal = s.cal := rfl
@[simp] theorem State.withKlk_cap (s : State) (f : Klk → Klk) : (s.withKlk f).cap = s.cap := rfl
@[simp] theorem State.withKlk_meas (s : State) (f : Klk → Klk) : (s.withKlk f).meas = s.meas := rfl
@[simp] theorem State.withKlk_mgt (s : State) (f : Klk → Klk) : (s.withKlk f).mgt = s.mgt := rfl
@[simp] theorem State.withKlk_thm (s : State) (f : Klk → Klk) : (s.withKlk f).thm = s.thm := rfl
@[simp] theorem State.withKlk_free (s : State) (f : Klk → Klk) : (s.withKlk f).free = s.free := rfl
@[simp] theorem State.withKlk_pending (s : State) (f : Klk → Klk) : (s.withKlk f).pending = s.pending := rfl

@[simp] theorem State.withBeat_beat (s : State) (f : Beat → Beat) : (s.withBeat f).beat = f s.beat := rfl
@[simp] theorem State.withBeat_regs (s : State) (f : Beat → Beat) : (s.withBeat f).regs = s.regs := rfl
@[simp] theorem State.withBeat_ram (s : State) (f : Beat → Beat) : (s.withBeat f).ram = s.ram := rfl
@[simp] theorem State.withBeat_nor (s : State) (f : Beat → Beat) : (s.withBeat f).nor = s.nor := rfl
@[simp] theorem State.withBeat_hostMem (s : State) (f : Beat → Beat) : (s.withBeat f).hostMem = s.hostMem := rfl
@[simp] theorem State.withBeat_hsk (s : State) (f : Beat → Beat) : (s.withBeat f).hsk = s.hsk := rfl
@[simp] theorem State.withBeat_hst (s : State) (f : Beat → Beat) : (s.withBeat f).hst = s.hst := rfl
@[simp] theorem State.withBeat_cst (s : State) (f : Beat → Beat) : (s.withBeat f).cst = s.cst := rfl
@[simp] theorem State.withBeat_ntu (s : State) (f : Beat → Beat) : (s.withBeat f).ntu = s.ntu := rfl
@[simp] theorem State.withBeat_seq (s : State) (f : Beat → Beat) : (s.withBeat f).seq = s.seq := rfl
@[simp] theorem State.withBeat_klk (s : State) (f : Beat → Beat) : (s.withBeat f).klk = s.klk := rfl
@[simp] theorem State.withBeat_cal (s : State) (f : Beat → Beat) : (s.withBeat f).cal = s.cal := rfl
@[simp] theorem State.withBeat_cap (s : State) (f : Beat → Beat) : (s.withBeat f).cap = s.cap := rfl
@[simp] theorem State.withBeat_meas (s : State) (f : Beat → Beat) : (s.withBeat f).meas = s.meas := rfl
@[simp] theorem State.withBeat_mgt (s : State) (f : Beat → Beat) : (s.withBeat f).mgt = s.mgt := rfl
@[simp] theorem State.withBeat_thm (s : State) (f : Beat → Beat) : (s.withBeat f).thm = s.thm := rfl
@[simp] theorem State.withBeat_free (s : State) (f : Beat → Beat) : (s.withBeat f).free = s.free := rfl
@[simp] theorem State.withBeat_pending (s : State) (f : Beat → Beat) : (s.withBeat f).pending = s.pending := rfl

@[simp] theorem State.setNor_beat (s : State) (a : Nat) (l : List Byte) : (s.setNor a l).beat = s.beat := rfl
@[simp] theorem State.setNor_regs (s : State) (a : Nat) (l : List Byte) : (s.setNor a l).regs = s.regs := rfl
@[simp] theorem State.setNor_ram (s : State) (a : Nat) (l : List Byte) : (s.setNor a l).ram = s.ram := rfl
@[simp] theorem State.setNor_nor (s : State) (a : Nat) (l : List Byte) : (s.setNor a l).nor = s.nor.setList norDefault a l := rfl
@[simp] theorem State.setNor_hostMem (s : State) (a : Nat) (l : List Byte) : (s.setNor a l).hostMem = s.hostMem := rfl
@[simp] theorem State.setNor_hsk (s : State) (a : Nat) (l : List Byte) : (s.setNor a l).hsk = s.hsk := rfl
@[simp] theorem State.setNor_hst (s : State) (a : Nat) (l : List Byte) : (s.setNor a l).hst = s.hst := rfl
@[simp] theorem State.setNor_cst (s : State) (a : Nat) (l : List Byte) : (s.setNor a l).cst = s.cst := rfl
@[simp] theorem State.setNor_ntu (s : State) (a : Nat) (l : List Byte) : (s.setNor a l).ntu = s.ntu := rfl
@[simp] theorem State.setNor_seq (s : State) (a : Nat) (l : List Byte) : (s.setNor a l).seq = s.seq := rfl
@[simp] theorem State.setNor_klk (s : State) (a : Nat) (l : List Byte) : (s.setNor a l).klk = s.klk := rfl
@[simp] theorem State.setNor_cal (s : State) (a : Nat) (l : List Byte) : (s.setNor a l).cal = s.cal := rfl
@[simp] theorem State.setNor_cap (s : State) (a : Nat) (l : List Byte) : (s.setNor a l).cap = s.cap := rfl
@[simp] theorem State.setNor_meas (s : State) (a : Nat) (l : List Byte) : (s.setNor a l).meas = s.meas := rfl
@[simp] theorem State.setNor_mgt (s : State) (a : Nat) (l : List Byte) : (s.setNor a l).mgt = s.mgt := rfl
@[simp] theorem State.setNor_thm (s : State) (a : Nat) (l : List Byte) : (s.setNor a l).thm = s.thm := rfl
@[simp] theorem State.setNor_free (s : State) (a : Nat) (l : List Byte) : (s.setNor a l).free = s.free := rfl
@[simp] theorem State.setNor_pending (s : State) (a : Nat) (l : List Byte) : (s.setNor a l).pending = s.pending := rfl

@[simp] theorem State.eraseNor_beat (s : State) (a e : Nat) : (s.eraseNor a e).beat = s.beat := rfl
@[simp] theorem State.eraseNor_regs (s : State) (a e : Nat) : (s.eraseNor a e).regs = s.regs := rfl
@[simp] theorem State.eraseNor_ram (s : State) (a e : Nat) : (s.eraseNor a e).ram = s.ram := rfl
@[simp] theorem State.eraseNor_nor (s : State) (a e : Nat) : (s.eraseNor a e).nor = s.nor.clear a e := rfl
@[simp] theorem State.eraseNor_hostMem (s : State) (a e : Nat) : (s.eraseNor a e).hostMem = s.hostMem := rfl
@[simp] theorem State.eraseNor_hsk (s : State) (a e : Nat) : (s.eraseNor a e).hsk = s.hsk := rfl
@[simp] theorem State.eraseNor_hst (s : State) (a e : Nat) : (s.eraseNor a e).hst = s.hst := rfl
@[simp] theorem State.eraseNor_cst (s : State) (a e : Nat) : (s.eraseNor a e).cst = s.cst := rfl
@[simp] theorem State.eraseNor_ntu (s : State) (a e : Nat) : (s.eraseNor a e).ntu = s.ntu := rfl
@[simp] theorem State.eraseNor_seq (s : State) (a e : Nat) : (s.eraseNor a e).seq = s.seq := rfl
@[simp] theorem State.eraseNor_klk (s : State) (a e : Nat) : (s.eraseNor a e).klk = s.klk := rfl
@[simp] theorem State.eraseNor_cal (s : State) (a e : Nat) : (s.eraseNor a e).cal = s.cal := rfl
@[simp] theorem State.eraseNor_cap (s : State) (a e : Nat) : (s.eraseNor a e).cap = s.cap := rfl
@[simp] theorem State.eraseNor_meas (s : State) (a e : Nat) : (s.eraseNor a e).meas = s.meas := rfl
@[simp] theorem State.eraseNor_mgt (s : State) (a e : Nat) : (s.eraseNor a e).mgt = s.mgt := rfl
@[simp] theorem State.eraseNor_thm (s : State) (a e : Nat) : (s.eraseNor a e).thm = s.thm := rfl
@[simp] theorem State.eraseNor_free (s : State) (a e : Nat) : (s.eraseNor a e).free = s.free := rfl
@[simp] theorem State.eraseNor_pending (s : State) (a e : Nat) : (s.eraseNor a e).pending = s.pending := rfl

@[simp] theorem State.setHost_beat (s : State) (a : Nat) (l : List Byte) : (s.setHost a l).beat = s.beat := rfl
@[simp] theorem State.setHost_regs (s : State) (a : Nat) (l : List Byte) : (s.setHost a l).regs = s.regs := rfl
@[simp] theorem State.setHost_ram (s : State) (a : Nat) (l : List Byte) : (s.setHost a l).ram = s.ram := rfl
@[simp] theorem State.setHost_nor (s : State) (a : Nat) (l : List Byte) : (s.setHost a l).nor = s.nor := rfl
@[simp] theorem State.setHost_hostMem (s : State) (a : Nat) (l : List Byte) : (s.setHost a l).hostMem = s.hostMem.setList hostDefault a l := rfl
@[simp] theorem State.setHost_hsk (s : State) (a : Nat) (l : List Byte) : (s.setHost a l).hsk = s.hsk := rfl
@[simp] theorem State.setHost_hst (s : State) (a : Nat) (l : List Byte) : (s.setHost a l).hst = s.hst := rfl
@[simp] theorem State.setHost_cst (s : State) (a : Nat) (l : List Byte) : (s.setHost a l).cst = s.cst := rfl
@[simp] theorem State.setHost_ntu (s : State) (a : Nat) (l : List Byte) : (s.setHost a l).ntu = s.ntu := rfl
@[simp] theorem State.setHost_seq (s : State) (a : Nat) (l : List Byte) : (s.setHost a l).seq = s.seq := rfl
@[simp] theorem State.setHost_klk (s : State) (a : Nat) (l : List Byte) : (s.setHost a l).klk = s.klk := rfl
@[simp] theorem State.setHost_cal (s : State) (a : Nat) (l : List Byte) : (s.setHost a l).cal = s.cal := rfl
@[simp] theorem State.setHost_cap (s : State) (a : Nat) (l : List Byte) : (s.setHost a l).cap = s.cap := rfl
@[simp] theorem State.setHost_meas (s : State) (a : Nat) (l : List Byte) : (s.setHost a l).meas = s.meas := rfl
@[simp] theorem State.setHost_mgt (s : State) (a : Nat) (l : List Byte) : (s.setHost a l).mgt = s.mgt := rfl
@[simp] theorem State.setHost_thm (s : State) (a : Nat) (l : List Byte) : (s.setHost a l).thm = s.thm := rfl
@[simp] theorem State.setHost_free (s : State) (a : Nat) (l : List Byte) : (s.setHost a l).free = s.free := rfl
@[simp] theorem State.setHost_pending (s : State) (a : Nat) (l : List Byte) : (s.setHost a l).pending = s.pending := rfl

@[simp] theorem State.draw_fst (s : State) : s.draw.1 = Config.freeValue s.free := rfl
@[simp] theorem State.draw_snd (s : State) : s.draw.2 = { s with free := s.free + 1 } := rfl

/-- A state that differs from another in its memory alone. -/
def State.sameButRam (s t : State) : Prop := t = { s with ram := t.ram }

theorem State.setMem_sameButRam (s : State) (a : Nat) (l : List Byte) : s.sameButRam (s.setMem a l) := by
  unfold State.setMem
  split
  · suffices ∀ (z : List (Byte × Nat)) (t : State), s.sameButRam t → s.sameButRam (each z
        (fun p t => if t.lostAt (a + p.2) then t else { t with ram := t.ram.set ramDefault (a + p.2) p.1 }) t) from
      this _ s rfl
    intro z
    induction z with
    | nil => intro t h; exact h
    | cons x z ih =>
      intro t h
      refine ih _ ?_
      dsimp only
      split
      · exact h
      · unfold State.sameButRam at h ⊢; rw [h]
  · rfl

@[simp] theorem State.setMem_beat (s : State) (a : Nat) (l : List Byte) : (s.setMem a l).beat = s.beat := by
  rw [State.setMem_sameButRam s a l]
@[simp] theorem State.setMem_regs (s : State) (a : Nat) (l : List Byte) : (s.setMem a l).regs = s.regs := by
  rw [State.setMem_sameButRam s a l]
@[simp] theorem State.setMem_nor (s : State) (a : Nat) (l : List Byte) : (s.setMem a l).nor = s.nor := by
  rw [State.setMem_sameButRam s a l]
@[simp] theorem State.setMem_hostMem (s : State) (a : Nat) (l : List Byte) : (s.setMem a l).hostMem = s.hostMem := by
  rw [State.setMem_sameButRam s a l]
@[simp] theorem State.setMem_hsk (s : State) (a : Nat) (l : List Byte) : (s.setMem a l).hsk = s.hsk := by
  rw [State.setMem_sameButRam s a l]
@[simp] theorem State.setMem_hst (s : State) (a : Nat) (l : List Byte) : (s.setMem a l).hst = s.hst := by
  rw [State.setMem_sameButRam s a l]
@[simp] theorem State.setMem_cst (s : State) (a : Nat) (l : List Byte) : (s.setMem a l).cst = s.cst := by
  rw [State.setMem_sameButRam s a l]
@[simp] theorem State.setMem_ntu (s : State) (a : Nat) (l : List Byte) : (s.setMem a l).ntu = s.ntu := by
  rw [State.setMem_sameButRam s a l]
@[simp] theorem State.setMem_seq (s : State) (a : Nat) (l : List Byte) : (s.setMem a l).seq = s.seq := by
  rw [State.setMem_sameButRam s a l]
@[simp] theorem State.setMem_klk (s : State) (a : Nat) (l : List Byte) : (s.setMem a l).klk = s.klk := by
  rw [State.setMem_sameButRam s a l]
@[simp] theorem State.setMem_cal (s : State) (a : Nat) (l : List Byte) : (s.setMem a l).cal = s.cal := by
  rw [State.setMem_sameButRam s a l]
@[simp] theorem State.setMem_cap (s : State) (a : Nat) (l : List Byte) : (s.setMem a l).cap = s.cap := by
  rw [State.setMem_sameButRam s a l]
@[simp] theorem State.setMem_meas (s : State) (a : Nat) (l : List Byte) : (s.setMem a l).meas = s.meas := by
  rw [State.setMem_sameButRam s a l]
@[simp] theorem State.setMem_mgt (s : State) (a : Nat) (l : List Byte) : (s.setMem a l).mgt = s.mgt := by
  rw [State.setMem_sameButRam s a l]
@[simp] theorem State.setMem_thm (s : State) (a : Nat) (l : List Byte) : (s.setMem a l).thm = s.thm := by
  rw [State.setMem_sameButRam s a l]
@[simp] theorem State.setMem_free (s : State) (a : Nat) (l : List Byte) : (s.setMem a l).free = s.free := by
  rw [State.setMem_sameButRam s a l]
@[simp] theorem State.setMem_pending (s : State) (a : Nat) (l : List Byte) : (s.setMem a l).pending = s.pending := by
  rw [State.setMem_sameButRam s a l]

end Sys2Proof.Machine
end

