-- ==== Sys2Proof/Laws/Tab.lean ====
section
/-! SUPPORT. The laws of tables: what a write changes, and that every write keeps the canonical form. -/

namespace Sys2Proof.Machine

theorem Tab.wfAbove_mono {α : Type} [DecidableEq α] (d : Nat → α) :
    ∀ (t : Tab α) (a b : Nat), a ≤ b → Tab.wfAbove d t b = true → Tab.wfAbove d t a = true
  | [], _, _, _, _ => rfl
  | (k, v) :: r, a, b, hab, h => by
    simp only [Tab.wfAbove, Bool.and_eq_true, decide_eq_true_eq] at h ⊢
    exact ⟨⟨by omega, h.1.2⟩, h.2⟩

theorem Tab.wfAbove_without {α : Type} [DecidableEq α] (d : Nat → α) (i : Nat) :
    ∀ (t : Tab α) (b : Nat), Tab.wfAbove d t b = true → Tab.wfAbove d (Tab.without t i) b = true
  | [], _, _ => rfl
  | (k, v) :: r, b, h => by
    simp only [Tab.wfAbove, Bool.and_eq_true, decide_eq_true_eq] at h
    have ih := Tab.wfAbove_without d i r (k + 1) h.2
    unfold Tab.without at ih ⊢
    rw [List.filter_cons]
    split
    · simp only [Tab.wfAbove, Bool.and_eq_true, decide_eq_true_eq]; exact ⟨h.1, ih⟩
    · exact Tab.wfAbove_mono d _ b (k + 1) (by omega) ih

theorem Tab.without_ne {α : Type} (t : Tab α) (i : Nat) : ∀ p ∈ Tab.without t i, p.1 ≠ i := by
  intro p hp
  simpa using (List.mem_filter.1 hp).2

theorem Tab.wfAbove_insert {α : Type} [DecidableEq α] (d : Nat → α) : ∀ (t : Tab α) (i : Nat) (x : α) (b : Nat),
    b ≤ i → x ≠ d i → (∀ p ∈ t, p.1 ≠ i) → Tab.wfAbove d t b = true → Tab.wfAbove d (Tab.insert t i x) b = true
  | [], i, x, b, hb, hx, _, _ => by simp [Tab.insert, Tab.wfAbove, hb, hx]
  | (k, v) :: r, i, x, b, hb, hx, hn, h => by
    simp only [Tab.wfAbove, Bool.and_eq_true, decide_eq_true_eq] at h
    have hk : k ≠ i := hn (k, v) (by simp)
    unfold Tab.insert
    split
    · simp only [Tab.wfAbove, Bool.and_eq_true, decide_eq_true_eq]
      exact ⟨⟨hb, hx⟩, ⟨by omega, h.1.2⟩, h.2⟩
    · simp only [Tab.wfAbove, Bool.and_eq_true, decide_eq_true_eq]
      exact ⟨h.1, Tab.wfAbove_insert d r i x (k + 1) (by omega) hx (fun p hp => hn p (List.mem_cons_of_mem _ hp)) h.2⟩

theorem Tab.wfAbove_set {α : Type} [DecidableEq α] (d : Nat → α) (t : Tab α) (i : Nat) (x : α) (b : Nat)
    (hb : b ≤ i) (h : Tab.wfAbove d t b = true) : Tab.wfAbove d (Tab.set d t i x) b = true := by
  unfold Tab.set
  split
  · exact Tab.wfAbove_without d i t b h
  · exact Tab.wfAbove_insert d _ i x b hb ‹_› (Tab.without_ne t i) (Tab.wfAbove_without d i t b h)

/-- A write keeps the canonical form. -/
theorem Tab.wf_set {α : Type} [DecidableEq α] (d : Nat → α) (t : Tab α) (i : Nat) (x : α) (h : Tab.wf d t = true) :
    Tab.wf d (Tab.set d t i x) = true :=
  Tab.wfAbove_set d t i x 0 (Nat.zero_le _) h

/-- A write of many values keeps the canonical form. -/
theorem Tab.wf_setList {α : Type} [DecidableEq α] (d : Nat → α) (l : List α) :
    ∀ (t : Tab α) (i : Nat), Tab.wf d t = true → Tab.wf d (Tab.setList d t i l) = true := by
  induction l with
  | nil => intro t i h; exact h
  | cons x r ih => intro t i h; exact ih _ _ (Tab.wf_set d t i x h)

theorem Tab.wfAbove_clear {α : Type} [DecidableEq α] (d : Nat → α) (lo hi : Nat) :
    ∀ (t : Tab α) (b : Nat), Tab.wfAbove d t b = true → Tab.wfAbove d (Tab.clear t lo hi) b = true
  | [], _, _ => rfl
  | (k, v) :: r, b, h => by
    simp only [Tab.wfAbove, Bool.and_eq_true, decide_eq_true_eq] at h
    have ih := Tab.wfAbove_clear d lo hi r (k + 1) h.2
    unfold Tab.clear at ih ⊢
    rw [List.filter_cons]
    split
    · simp only [Tab.wfAbove, Bool.and_eq_true, decide_eq_true_eq]; exact ⟨h.1, ih⟩
    · exact Tab.wfAbove_mono d _ b (k + 1) (by omega) ih

/-- Clearing a range keeps the canonical form. -/
theorem Tab.wf_clear {α : Type} [DecidableEq α] (d : Nat → α) (t : Tab α) (lo hi : Nat) (h : Tab.wf d t = true) :
    Tab.wf d (Tab.clear t lo hi) = true :=
  Tab.wfAbove_clear d lo hi t 0 h

theorem Tab.get_absent {α : Type} (d : Nat → α) (i : Nat) : ∀ (t : Tab α), (∀ p ∈ t, p.1 ≠ i) → Tab.get d t i = d i
  | [], _ => rfl
  | (k, v) :: r, h => by
    unfold Tab.get
    rw [if_neg (h (k, v) (by simp))]
    exact Tab.get_absent d i r (fun p hp => h p (List.mem_cons_of_mem _ hp))

theorem Tab.get_insert_same {α : Type} (d : Nat → α) (i : Nat) (x : α) : ∀ (t : Tab α), (∀ p ∈ t, p.1 ≠ i) →
    Tab.get d (Tab.insert t i x) i = x
  | [], _ => by simp [Tab.insert, Tab.get]
  | (k, v) :: r, h => by
    unfold Tab.insert
    split
    · simp [Tab.get]
    · unfold Tab.get
      rw [if_neg (h (k, v) (by simp))]
      exact Tab.get_insert_same d i x r (fun p hp => h p (List.mem_cons_of_mem _ hp))

theorem Tab.get_insert_other {α : Type} (d : Nat → α) (i j : Nat) (x : α) (hj : j ≠ i) : ∀ (t : Tab α),
    Tab.get d (Tab.insert t i x) j = Tab.get d t j
  | [] => by simp [Tab.insert, Tab.get, hj.symm]
  | (k, v) :: r => by
    unfold Tab.insert
    split
    · simp [Tab.get, hj.symm]
    · simp only [Tab.get]
      rw [Tab.get_insert_other d i j x hj r]

theorem Tab.get_without_other {α : Type} (d : Nat → α) (i j : Nat) (hj : j ≠ i) : ∀ (t : Tab α),
    Tab.get d (Tab.without t i) j = Tab.get d t j
  | [] => rfl
  | (k, v) :: r => by
    have ih := Tab.get_without_other d i j hj r
    unfold Tab.without at ih ⊢
    rw [List.filter_cons]
    split
    · simp only [Tab.get]; rw [ih]
    · next hk =>
      have : k = i := by simpa using hk
      rw [ih, Tab.get, if_neg (by omega)]

/-- The value written is the value read. -/
theorem Tab.get_set_same {α : Type} [DecidableEq α] (d : Nat → α) (t : Tab α) (i : Nat) (x : α) :
    Tab.get d (Tab.set d t i x) i = x := by
  unfold Tab.set
  split
  · next h => rw [Tab.get_absent d i _ (Tab.without_ne t i), h]
  · exact Tab.get_insert_same d i x _ (Tab.without_ne t i)

/-- A write leaves every other key as it was. -/
theorem Tab.get_set_other {α : Type} [DecidableEq α] (d : Nat → α) (t : Tab α) (i j : Nat) (x : α) (h : j ≠ i) :
    Tab.get d (Tab.set d t i x) j = Tab.get d t j := by
  unfold Tab.set
  split
  · exact Tab.get_without_other d i j h t
  · rw [Tab.get_insert_other d i j x h, Tab.get_without_other d i j h]

/-- A write of many values leaves every key outside its range as it was. -/
theorem Tab.get_setList_other {α : Type} [DecidableEq α] (d : Nat → α) (l : List α) : ∀ (t : Tab α) (i j : Nat),
    j < i ∨ i + l.length ≤ j → Tab.get d (Tab.setList d t i l) j = Tab.get d t j := by
  induction l with
  | nil => intro t i j _; rfl
  | cons x r ih =>
    intro t i j h
    simp only [List.length_cons] at h
    unfold Tab.setList
    rw [ih _ _ _ (by omega), Tab.get_set_other d t i j x (by omega)]

/-- The values written are the values read. -/
theorem Tab.get_setList_inside {α : Type} [DecidableEq α] (d : Nat → α) (l : List α) : ∀ (t : Tab α) (i k : Nat)
    (hk : k < l.length), Tab.get d (Tab.setList d t i l) (i + k) = l[k] := by
  induction l with
  | nil => intro t i k hk; exact absurd hk (Nat.not_lt_zero _)
  | cons x r ih =>
    intro t i k hk
    unfold Tab.setList
    cases k with
    | zero => rw [Tab.get_setList_other d r _ _ _ (by omega)]; exact Tab.get_set_same d t i x
    | succ k =>
      have := ih (Tab.set d t i x) (i + 1) k (by simpa using hk)
      rw [show i + 1 + k = i + (k + 1) by omega] at this
      simpa using this

/-- The values read back from where a list was written are that list. -/
theorem Tab.getList_setList {α : Type} [DecidableEq α] (d : Nat → α) (l : List α) : ∀ (t : Tab α) (i : Nat),
    Tab.getList d (Tab.setList d t i l) i l.length = l := by
  induction l with
  | nil => intro t i; rfl
  | cons x r ih =>
    intro t i
    simp only [List.length_cons, Tab.getList]
    have hx := Tab.get_setList_inside d (x :: r) t i 0 (by simp)
    simp only [Nat.add_zero, List.getElem_cons_zero] at hx
    rw [hx]
    exact congrArg (x :: ·) (ih (Tab.set d t i x) (i + 1))

end Sys2Proof.Machine
end

