-- ==== Sys2Proof/Laws/Reg.lean ====
section
/-! SUPPORT. The laws of the register file and of the memories, through the operations that read and write them. -/

namespace Sys2Proof.Machine

theorem Stem.ctorIdx_inj {a b : Stem} (h : a.ctorIdx = b.ctorIdx) : a = b := by
  have := congrArg Stem.ofNat h
  rwa [Stem.ofNat_ctorIdx, Stem.ofNat_ctorIdx] at this

theorem Stem.ctorIdx_lt (a : Stem) : a.ctorIdx < 256 := by cases a <;> decide

/-- Different register words have different keys. -/
theorem regKey_inj {st st' : Stem} {i i' w w' : Nat} (hw : w < 4) (hw' : w' < 4) (h : regKey st i w = regKey st' i' w') :
    st = st' ∧ i = i' ∧ w = w' := by
  have a := Stem.ctorIdx_lt st
  have b := Stem.ctorIdx_lt st'
  unfold regKey at h
  exact ⟨Stem.ctorIdx_inj (by omega), by omega, by omega⟩

theorem State.canon_iff (s : State) : s.canon = true ↔
    Tab.wf regReset s.regs = true ∧ Tab.wf ramDefault s.ram = true ∧ Tab.wf norDefault s.nor = true ∧
    Tab.wf hostDefault s.hostMem = true := by
  simp [State.canon, Memory.wf, Bool.and_eq_true, and_assoc]

/-- A register word written reads as what was written. -/
theorem State.reg_setReg_same (s : State) (st : Stem) (i w : Nat) (v : W32) :
    (s.setReg st i w v).reg st i w = v :=
  Tab.get_set_same _ _ _ _

/-- A register word written leaves every other word as it was. -/
theorem State.reg_setReg_other (s : State) (st st' : Stem) (i i' w w' : Nat) (v : W32) (hw : w < 4) (hw' : w' < 4)
    (h : ¬(st = st' ∧ i = i' ∧ w = w')) : (s.setReg st i w v).reg st' i' w' = s.reg st' i' w' :=
  Tab.get_set_other _ _ _ _ _ (fun e => h (by
    have := regKey_inj hw' hw e
    exact ⟨this.1.symm, this.2.1.symm, this.2.2.symm⟩))

@[simp] theorem State.reg_withHsk (s : State) (f : Hsk → Hsk) (st : Stem) (i w : Nat) : (s.withHsk f).reg st i w = s.reg st i w := rfl
@[simp] theorem State.reg_withHst (s : State) (f : Hst → Hst) (st : Stem) (i w : Nat) : (s.withHst f).reg st i w = s.reg st i w := rfl
@[simp] theorem State.reg_withCst (s : State) (f : Cst → Cst) (st : Stem) (i w : Nat) : (s.withCst f).reg st i w = s.reg st i w := rfl
@[simp] theorem State.reg_withNtu (s : State) (f : Ntu → Ntu) (st : Stem) (i w : Nat) : (s.withNtu f).reg st i w = s.reg st i w := rfl
@[simp] theorem State.reg_withSeq (s : State) (f : Pattern → Pattern) (st : Stem) (i w : Nat) : (s.withSeq f).reg st i w = s.reg st i w := rfl
@[simp] theorem State.reg_withCap (s : State) (f : Capture → Capture) (st : Stem) (i w : Nat) : (s.withCap f).reg st i w = s.reg st i w := rfl
@[simp] theorem State.reg_withMeas (s : State) (f : Meas → Meas) (st : Stem) (i w : Nat) : (s.withMeas f).reg st i w = s.reg st i w := rfl
@[simp] theorem State.reg_withCal (s : State) (f : Cal → Cal) (st : Stem) (i w : Nat) : (s.withCal f).reg st i w = s.reg st i w := rfl
@[simp] theorem State.reg_withMgt (s : State) (f : Mgt → Mgt) (st : Stem) (i w : Nat) : (s.withMgt f).reg st i w = s.reg st i w := rfl
@[simp] theorem State.reg_withThm (s : State) (f : Thm → Thm) (st : Stem) (i w : Nat) : (s.withThm f).reg st i w = s.reg st i w := rfl
@[simp] theorem State.reg_withKlk (s : State) (f : Klk → Klk) (st : Stem) (i w : Nat) : (s.withKlk f).reg st i w = s.reg st i w := rfl
@[simp] theorem State.reg_withBeat (s : State) (f : Beat → Beat) (st : Stem) (i w : Nat) : (s.withBeat f).reg st i w = s.reg st i w := rfl
@[simp] theorem State.reg_setNor (s : State) (a : Nat) (l : List Byte) (st : Stem) (i w : Nat) : (s.setNor a l).reg st i w = s.reg st i w := rfl
@[simp] theorem State.reg_setHost (s : State) (a : Nat) (l : List Byte) (st : Stem) (i w : Nat) : (s.setHost a l).reg st i w = s.reg st i w := rfl
@[simp] theorem State.reg_setMem (s : State) (a : Nat) (l : List Byte) (st : Stem) (i w : Nat) : (s.setMem a l).reg st i w = s.reg st i w := by
  unfold State.reg; rw [State.setMem_regs]

/-- Bytes written to memory read back, while no controller is LOST. -/
theorem State.mem_setMem_same (s : State) (a : Nat) (l : List Byte) (hl : s.meas.lost = false) :
    (s.setMem a l).mem a l.length = l := by
  unfold State.mem
  rw [State.setMem_meas, hl]
  unfold State.setMem
  rw [hl]
  exact Tab.getList_setList _ _ _ _

/-- A byte outside the range written stays as it was. -/
theorem State.ram_setMem_other (s : State) (a : Nat) (l : List Byte) (j : Nat) (hl : s.meas.lost = false)
    (hj : j < a ∨ a + l.length ≤ j) : (s.setMem a l).ram.get ramDefault j = s.ram.get ramDefault j := by
  unfold State.setMem
  rw [hl]
  exact Tab.get_setList_other _ _ _ _ _ hj

/-- A word split at a field of `2 ^ k` values above `2 ^ lo`, and put together again with another value there. -/
theorem setBits_nat (x A B C v : Nat) (hA : 0 < A) (hv : v < B) (hx : x < A * (B * C)) :
    ∃ u r, u < C ∧ r < A ∧ x = A * (B * u + x / A % B) + r ∧ x - x / A % B * A + v * A = A * (B * u + v) + r ∧
      A * (B * u + v) + r < A * (B * C) := by
  have hB : 0 < B := Nat.lt_of_le_of_lt (Nat.zero_le _) hv
  have hr := Nat.mod_lt x hA
  have hq : x / A < B * C := Nat.div_lt_of_lt_mul hx
  have hu : x / A / B < C := Nat.div_lt_of_lt_mul hq
  have e : x = A * (B * (x / A / B) + x / A % B) + x % A := by
    rw [Nat.div_add_mod, Nat.div_add_mod]
  refine ⟨x / A / B, x % A, hu, hr, e, ?_, ?_⟩
  · generalize x / A % B = m at *
    generalize x / A / B = u at *
    generalize x % A = r at *
    rw [e, Nat.mul_add, Nat.mul_add, Nat.mul_comm m, Nat.mul_comm v]
    omega
  · have h1 : B * (x / A / B) + v + 1 ≤ B * C := by
      have : B * (x / A / B + 1) ≤ B * C := Nat.mul_le_mul_left _ hu
      rw [Nat.mul_add] at this
      omega
    have h2 : A * (B * (x / A / B) + v + 1) ≤ A * (B * C) := Nat.mul_le_mul_left _ h1
    rw [Nat.mul_add A _ 1] at h2
    omega

theorem setBits_toNat (w : W32) (hi lo v : Nat) (hhi : hi < 32) (hlo : lo ≤ hi) (hv : v < 2 ^ (hi + 1 - lo)) :
    ∃ u r, r < 2 ^ lo ∧ w.toNat = 2 ^ lo * (2 ^ (hi + 1 - lo) * u + bits w hi lo) + r ∧
      (setBits w hi lo v).toNat = 2 ^ lo * (2 ^ (hi + 1 - lo) * u + v) + r := by
  have hp : 2 ^ 32 = 2 ^ lo * (2 ^ (hi + 1 - lo) * 2 ^ (31 - hi)) := by
    rw [← Nat.pow_add, ← Nat.pow_add]; exact congrArg (2 ^ ·) (by omega)
  have hw := w.isLt
  rw [hp] at hw
  obtain ⟨u, r, _, hr, e, e2, hlt⟩ := setBits_nat w.toNat _ _ _ v (Nat.two_pow_pos lo) hv hw
  refine ⟨u, r, hr, e, ?_⟩
  unfold setBits fld
  rw [BitVec.toNat_ofNat, Nat.mod_eq_of_lt hv]
  show (w.toNat - w.toNat / 2 ^ lo % 2 ^ (hi + 1 - lo) * 2 ^ lo + v * 2 ^ lo) % 2 ^ 32 = _
  rw [e2, hp, Nat.mod_eq_of_lt hlt]

/-- A field that was set reads as the value set. -/
theorem bits_setBits_same (w : W32) (hi lo v : Nat) (hhi : hi < 32) (hlo : lo ≤ hi) (hv : v < 2 ^ (hi + 1 - lo)) :
    bits (setBits w hi lo v) hi lo = v := by
  obtain ⟨u, r, hr, _, e⟩ := setBits_toNat w hi lo v hhi hlo hv
  unfold bits
  rw [e, Nat.mul_add_div (Nat.two_pow_pos lo), Nat.div_eq_of_lt hr, Nat.add_zero, Nat.mul_add_mod, Nat.mod_eq_of_lt hv]

/-- A field that was set leaves every field below it and every field above it as it was. -/
theorem bits_setBits_other (w : W32) (hi lo v hi' lo' : Nat) (hhi : hi < 32) (hlo : lo ≤ hi) (hv : v < 2 ^ (hi + 1 - lo))
    (h : hi' < lo ∨ hi < lo') (hlo' : lo' ≤ hi') : bits (setBits w hi lo v) hi' lo' = bits w hi' lo' := by
  obtain ⟨u, r, hr, e0, e⟩ := setBits_toNat w hi lo v hhi hlo hv
  unfold bits
  have hm : bits w hi lo < 2 ^ (hi + 1 - lo) := Nat.mod_lt _ (Nat.two_pow_pos _)
  generalize bits w hi lo = m at e0 hm
  rw [e, e0]
  rcases h with h | h
  · obtain ⟨d, rfl⟩ := Nat.exists_eq_add_of_le (show lo' + (hi' + 1 - lo') ≤ lo by omega)
    have key : ∀ y, (2 ^ (lo' + (hi' + 1 - lo') + d) * y + r) / 2 ^ lo' % 2 ^ (hi' + 1 - lo') = r / 2 ^ lo' % 2 ^ (hi' + 1 - lo') := by
      intro y
      rw [Nat.pow_add, Nat.pow_add, Nat.mul_assoc, Nat.mul_assoc, Nat.mul_add_div (Nat.two_pow_pos _), Nat.mul_add_mod]
    rw [key, key]
  · obtain ⟨d, rfl⟩ := Nat.exists_eq_add_of_le (show lo + (hi + 1 - lo) ≤ lo' by omega)
    have key : ∀ y, y < 2 ^ (hi + 1 - lo) → (2 ^ lo * (2 ^ (hi + 1 - lo) * u + y) + r) / 2 ^ (lo + (hi + 1 - lo) + d) = u / 2 ^ d := by
      intro y hy
      rw [Nat.pow_add, Nat.pow_add, ← Nat.div_div_eq_div_mul, ← Nat.div_div_eq_div_mul, Nat.mul_add_div (Nat.two_pow_pos lo),
        Nat.div_eq_of_lt hr, Nat.add_zero, Nat.mul_add_div (Nat.two_pow_pos _), Nat.div_eq_of_lt hy, Nat.add_zero]
    rw [key v hv, key m hm]

/-- The conditions every field of the register tables meets. -/
def Field.sound (f : Field) : Bool := decide (f.word < 4) && decide (f.hi < 32) && decide (f.lo ≤ f.hi)

/-- A field that was set reads as the value set. -/
theorem State.fieldOf_putField_same (s : State) (f : Field) (i v : Nat) (hf : f.sound = true)
    (hv : v < 2 ^ (f.hi + 1 - f.lo)) : (s.putField f i v).fieldOf f i = v := by
  simp only [Field.sound, Bool.and_eq_true, decide_eq_true_eq] at hf
  unfold State.fieldOf State.putField
  rw [State.reg_setReg_same s _ _ _ _]
  exact bits_setBits_same _ _ _ _ hf.1.2 hf.2 hv

/-- A field that was set leaves the fields of other words, other instances and other bits as they were. -/
theorem State.fieldOf_putField_other (s : State) (f g : Field) (i j v : Nat) (hf : f.sound = true)
    (hg : g.sound = true) (hv : v < 2 ^ (f.hi + 1 - f.lo))
    (hd : ¬(f.stem = g.stem ∧ i = j ∧ f.word = g.word) ∨ g.hi < f.lo ∨ f.hi < g.lo) :
    (s.putField f i v).fieldOf g j = s.fieldOf g j := by
  simp only [Field.sound, Bool.and_eq_true, decide_eq_true_eq] at hf hg
  unfold State.fieldOf State.putField
  by_cases he : f.stem = g.stem ∧ i = j ∧ f.word = g.word
  · obtain ⟨h1, h2, h3⟩ := he
    rw [← h1, ← h2, ← h3, State.reg_setReg_same s _ _ _ _]
    exact bits_setBits_other _ _ _ _ _ _ hf.1.2 hf.2 hv (by tauto) hg.2
  · rw [State.reg_setReg_other s _ _ _ _ _ _ _ hf.1.1 hg.1.1 he]

end Sys2Proof.Machine
end

