-- ==== Sys2Proof/Laws/Kept.lean ====
section
/-! SUPPORT. What an operation leaves as it was, as one property with a footprint: a number whose bits 0 to 16 name the parts
of the state and whose bit 32 + k names register stem k. Its laws for the operations that everything else is made of. -/

namespace Sys2Proof.Machine

theorem State.same_refl (s : State) (p : Part) : s.same s p := by cases p <;> rfl
theorem State.same_trans {r s t : State} {p : Part} (h : r.same s p) (k : s.same t p) : r.same t p := by
  cases p <;> exact Eq.trans k h

/-- Footprint `m` has every bit of footprint `k`. -/
abbrev Covers (m k : Nat) : Prop := m &&& k = k
theorem Covers.trans {m k j : Nat} (h : Covers m k) (h' : Covers k j) : Covers m j := by
  unfold Covers at *; rw [← h', ← Nat.land_assoc, h]
theorem Covers.refl (m : Nat) : Covers m m := Nat.and_self m
theorem Covers.bit {m k i : Nat} (h : Covers m k) (hk : k.testBit i = true) : m.testBit i = true := by
  have := congrArg (fun n => Nat.testBit n i) h
  simp only [Nat.testBit_and, hk, Bool.and_true] at this
  exact this

/-- The footprint of one register stem. -/
def stemBit (st : Stem) : Nat := 2 ^ (32 + st.ctorIdx)

/-- What an operation of footprint `m` leaves so. -/
def Kept (m : Nat) (r t : State) : Prop :=
  (r.canon = true → t.canon = true) ∧ t.pending = r.pending ∧ r.free ≤ t.free ∧
  (∀ p : Part, m.testBit p.ctorIdx = false → r.same t p) ∧
  (∀ (st : Stem) (i w : Nat), m.testBit (32 + st.ctorIdx) = false → t.reg st i w = r.reg st i w)

theorem Kept.refl {m : Nat} (s : State) : Kept m s s :=
  ⟨id, rfl, Nat.le_refl _, fun p _ => State.same_refl s p, fun _ _ _ _ => rfl⟩
theorem Kept.trans {m : Nat} {r s t : State} (h : Kept m r s) (k : Kept m s t) : Kept m r t :=
  ⟨fun c => k.1 (h.1 c), k.2.1.trans h.2.1, h.2.2.1.trans k.2.2.1, fun p hp => State.same_trans (h.2.2.2.1 p hp) (k.2.2.2.1 p hp),
   fun st i w hp => (k.2.2.2.2 st i w hp).trans (h.2.2.2.2 st i w hp)⟩
theorem Kept.mono {m k : Nat} {r t : State} (h : Kept k r t) (hm : Covers m k) : Kept m r t := by
  have z : ∀ i, m.testBit i = false → k.testBit i = false := fun i hi => by
    by_contra e
    rw [hm.bit (by simpa using e)] at hi
    exact absurd hi (by decide)
  exact ⟨h.1, h.2.1, h.2.2.1, fun p hp => h.2.2.2.1 p (z _ hp), fun st i w hp => h.2.2.2.2 st i w (z _ hp)⟩

theorem kept_ite {m : Nat} {r a b : State} {c : Prop} [Decidable c] (ha : c → Kept m r a) (hb : ¬c → Kept m r b) : Kept m r (if c then a else b) := by
  split
  · exact ha ‹_›
  · exact hb ‹_›
theorem kept_ite_snd {m : Nat} {α : Type} {r : State} {a b : α × State} {c : Prop} [Decidable c] (ha : c → Kept m r a.2) (hb : ¬c → Kept m r b.2) : Kept m r (if c then a else b).2 := by
  split
  · exact ha ‹_›
  · exact hb ‹_›
theorem kept_snd {m : Nat} {α : Type} {r t : State} {p : α × State} {a : α} (h : Kept m r p.2) (e : p = (a, t)) : Kept m r t := by
  rw [e] at h; exact h
def OptKept (m : Nat) (r : State) (o : Option State) : Prop := ∀ t, o = some t → Kept m r t
theorem optKept_some {m : Nat} {r t : State} (h : Kept m r t) : OptKept m r (some t) := fun _ e => by injection e with e; exact e ▸ h
theorem optKept_none {m : Nat} {r : State} : OptKept m r none := fun _ e => nomatch e
theorem optKept_ite {m : Nat} {r : State} {a b : Option State} {c : Prop} [Decidable c] (ha : c → OptKept m r a) (hb : ¬c → OptKept m r b) : OptKept m r (if c then a else b) := by
  split
  · exact ha ‹_›
  · exact hb ‹_›

theorem optKept_or {m : Nat} {r : State} {a b : Option State} (ha : OptKept m r a) (hb : OptKept m r b) : OptKept m r (a.or b) := by
  cases a with
  | none => exact hb
  | some _ => exact ha
theorem optKept_getD {m : Nat} {r s : State} {a : Option State} (ha : OptKept m r a) (h : Kept m r s) : Kept m r (a.getD s) := by
  cases a with
  | none => exact h
  | some _ => exact ha _ rfl

theorem each_kept {m : Nat} {α : Type} {r : State} {f : α → State → State} (hf : ∀ x t, Kept m r t → Kept m r (f x t)) (l : List α) : ∀ {s : State}, Kept m r s → Kept m r (each l f s) := by
  induction l with
  | nil => intro s h; exact h
  | cons x l ih => intro s h; exact ih (hf x s h)
theorem foldl_kept {m : Nat} {α : Type} {r : State} {f : State → α → State} (hf : ∀ t x, Kept m r t → Kept m r (f t x)) (l : List α) : ∀ {s : State}, Kept m r s → Kept m r (l.foldl f s) := by
  induction l with
  | nil => intro s h; exact h
  | cons x l ih => intro s h; exact ih (hf s x h)
theorem when_kept {m : Nat} {r s : State} (h : Kept m r s) (c) (f) (hf : ∀ t, Kept m r t → Kept m r (f t)) : Kept m r (when c f s) := by
  unfold when; exact kept_ite (fun _ => hf s h) (fun _ => h)
theorem done_kept {m : Nat} {r s t : State} (h : Kept m r s) (e : done s = .next t) : Kept m r t := by
  unfold done at e; injection e with e; exact e ▸ h
theorem State.live_kept {m : Nat} {r s : State} (h : Kept m r s) (f) (hf : ∀ t, Kept m r t → Kept m r (f t)) : Kept m r (s.live f) := by
  unfold State.live; exact kept_ite (fun _ => hf s h) (fun _ => h)

theorem Part.ctorIdx_inj {p q : Part} (h : p.ctorIdx = q.ctorIdx) : p = q := by
  cases p <;> cases q <;> first | rfl | exact absurd h (by decide)

/-- One part changed, whose bit the footprint has. -/
theorem part_kept {m : Nat} {s t : State} (q : Part) (hm : Covers m (2 ^ q.ctorIdx)) (hc : s.canon = true → t.canon = true) (hp : t.pending = s.pending)
    (hf : s.free ≤ t.free) (hr : t.regs = s.regs) (ho : ∀ p, p ≠ q → s.same t p) : Kept m s t := by
  refine ⟨hc, hp, hf, fun p hb => ho p fun e => ?_, fun st i w _ => by unfold State.reg; rw [hr]⟩
  have := hm.bit (i := q.ctorIdx) (by simp [Nat.testBit_two_pow_self])
  rw [e, this] at hb
  exact absurd hb (by decide)

theorem State.setReg_kept {m : Nat} {r s : State} (st) (hm : Covers m (stemBit st)) (h : Kept m r s) (i w v) : Kept m r (s.setReg st i w v) := by
  refine h.trans ⟨fun c => ?_, rfl, Nat.le_refl _, fun p _ => by cases p <;> rfl, fun st' i' w' hb => ?_⟩
  · rw [State.canon_iff] at c ⊢
    exact ⟨Tab.wf_set _ _ _ _ c.1, c.2⟩
  · by_cases hst : st = st'
    · subst hst
      rw [hm.bit (by unfold stemBit; exact Nat.testBit_two_pow_self)] at hb
      exact absurd hb (by decide)
    · refine Tab.get_set_other _ _ _ _ _ (fun e => hst ?_)
      have a := Stem.ctorIdx_lt st
      have b := Stem.ctorIdx_lt st'
      unfold regKey at e
      exact Stem.ctorIdx_inj (by omega)

theorem State.putField_kept {m : Nat} {r s : State} (f) (hm : Covers m (stemBit f.stem)) (h : Kept m r s) (i v) : Kept m r (s.putField f i v) :=
  State.setReg_kept _ hm h _ _ _
theorem State.putBit_kept {m : Nat} {r s : State} (f) (hm : Covers m (stemBit f.stem)) (h : Kept m r s) (i v) : Kept m r (s.putBit f i v) :=
  State.setReg_kept _ hm h _ _ _
theorem State.countUp_kept {m : Nat} {r s : State} (f) (hm : Covers m (stemBit f.stem)) (h : Kept m r s) (i v) : Kept m r (s.countUp f i v) :=
  State.setReg_kept _ hm h _ _ _
theorem State.setReg64_kept {m : Nat} {r s : State} (st) (hm : Covers m (stemBit st)) (h : Kept m r s) (i v) : Kept m r (s.setReg64 st i v) :=
  State.setReg_kept _ hm (State.setReg_kept _ hm h _ _ _) _ _ _

theorem State.ram_kept {m : Nat} {r s : State} (hm : Covers m 4) (h : Kept m r s) (i x) : Kept m r { s with ram := s.ram.set ramDefault i x } := by
  refine h.trans (part_kept .ram hm (fun c => ?_) rfl (Nat.le_refl _) rfl (fun p hp => by cases p <;> first | rfl | exact absurd rfl hp))
  rw [State.canon_iff] at c ⊢
  exact ⟨c.1, Tab.wf_set _ _ _ _ c.2.1, c.2.2⟩
theorem State.setMem_kept {m : Nat} {r s : State} (hm : Covers m 4) (h : Kept m r s) (a l) : Kept m r (s.setMem a l) := by
  unfold State.setMem
  split
  · refine each_kept (fun p t ht => ?_) _ h
    refine kept_ite (fun _ => ht) (fun _ => State.ram_kept hm ht _ _)
  · refine h.trans (part_kept .ram hm (fun c => ?_) rfl (Nat.le_refl _) rfl (fun p hp => by cases p <;> first | rfl | exact absurd rfl hp))
    rw [State.canon_iff] at c ⊢
    exact ⟨c.1, Tab.wf_setList _ _ _ _ c.2.1, c.2.2⟩
theorem State.setNor_kept {m : Nat} {r s : State} (hm : Covers m 8) (h : Kept m r s) (a l) : Kept m r (s.setNor a l) := by
  refine h.trans (part_kept .nor hm (fun c => ?_) rfl (Nat.le_refl _) rfl (fun p hp => by cases p <;> first | rfl | exact absurd rfl hp))
  rw [State.canon_iff] at c ⊢
  exact ⟨c.1, c.2.1, Tab.wf_setList _ _ _ _ c.2.2.1, c.2.2.2⟩
theorem State.eraseNor_kept {m : Nat} {r s : State} (hm : Covers m 8) (h : Kept m r s) (a l) : Kept m r (s.eraseNor a l) := by
  refine h.trans (part_kept .nor hm (fun c => ?_) rfl (Nat.le_refl _) rfl (fun p hp => by cases p <;> first | rfl | exact absurd rfl hp))
  rw [State.canon_iff] at c ⊢
  exact ⟨c.1, c.2.1, Tab.wf_clear _ _ _ _ c.2.2.1, c.2.2.2⟩
theorem State.setHost_kept {m : Nat} {r s : State} (hm : Covers m 16) (h : Kept m r s) (a l) : Kept m r (s.setHost a l) := by
  refine h.trans (part_kept .hostMem hm (fun c => ?_) rfl (Nat.le_refl _) rfl (fun p hp => by cases p <;> first | rfl | exact absurd rfl hp))
  rw [State.canon_iff] at c ⊢
  exact ⟨c.1, c.2.1, c.2.2.1, Tab.wf_setList _ _ _ _ c.2.2.2⟩
theorem State.draw_kept {m : Nat} {r s : State} (hm : Covers m 0x10000) (h : Kept m r s) : Kept m r s.draw.2 :=
  h.trans (part_kept .free hm id rfl (Nat.le_succ _) rfl (fun p hp => by cases p <;> first | rfl | exact absurd rfl hp))
theorem State.withHsk_kept {m : Nat} {r s : State} (hm : Covers m 0x20) (h : Kept m r s) (f) : Kept m r (s.withHsk f) :=
  h.trans (part_kept .hsk hm id rfl (Nat.le_refl _) rfl (fun p hp => by cases p <;> first | rfl | exact absurd rfl hp))
theorem State.withHst_kept {m : Nat} {r s : State} (hm : Covers m 0x40) (h : Kept m r s) (f) : Kept m r (s.withHst f) :=
  h.trans (part_kept .hst hm id rfl (Nat.le_refl _) rfl (fun p hp => by cases p <;> first | rfl | exact absurd rfl hp))
theorem State.withCst_kept {m : Nat} {r s : State} (hm : Covers m 0x80) (h : Kept m r s) (f) : Kept m r (s.withCst f) :=
  h.trans (part_kept .cst hm id rfl (Nat.le_refl _) rfl (fun p hp => by cases p <;> first | rfl | exact absurd rfl hp))
theorem State.withNtu_kept {m : Nat} {r s : State} (hm : Covers m 0x100) (h : Kept m r s) (f) : Kept m r (s.withNtu f) :=
  h.trans (part_kept .ntu hm id rfl (Nat.le_refl _) rfl (fun p hp => by cases p <;> first | rfl | exact absurd rfl hp))
theorem State.withSeq_kept {m : Nat} {r s : State} (hm : Covers m 0x200) (h : Kept m r s) (f) : Kept m r (s.withSeq f) :=
  h.trans (part_kept .seq hm id rfl (Nat.le_refl _) rfl (fun p hp => by cases p <;> first | rfl | exact absurd rfl hp))
theorem State.withCap_kept {m : Nat} {r s : State} (hm : Covers m 0x1000) (h : Kept m r s) (f) : Kept m r (s.withCap f) :=
  h.trans (part_kept .cap hm id rfl (Nat.le_refl _) rfl (fun p hp => by cases p <;> first | rfl | exact absurd rfl hp))
theorem State.withMeas_kept {m : Nat} {r s : State} (hm : Covers m 0x2000) (h : Kept m r s) (f) : Kept m r (s.withMeas f) :=
  h.trans (part_kept .meas hm id rfl (Nat.le_refl _) rfl (fun p hp => by cases p <;> first | rfl | exact absurd rfl hp))
theorem State.withCal_kept {m : Nat} {r s : State} (hm : Covers m 0x800) (h : Kept m r s) (f) : Kept m r (s.withCal f) :=
  h.trans (part_kept .cal hm id rfl (Nat.le_refl _) rfl (fun p hp => by cases p <;> first | rfl | exact absurd rfl hp))
theorem State.withMgt_kept {m : Nat} {r s : State} (hm : Covers m 0x4000) (h : Kept m r s) (f) : Kept m r (s.withMgt f) :=
  h.trans (part_kept .mgt hm id rfl (Nat.le_refl _) rfl (fun p hp => by cases p <;> first | rfl | exact absurd rfl hp))
theorem State.withThm_kept {m : Nat} {r s : State} (hm : Covers m 0x8000) (h : Kept m r s) (f) : Kept m r (s.withThm f) :=
  h.trans (part_kept .thm hm id rfl (Nat.le_refl _) rfl (fun p hp => by cases p <;> first | rfl | exact absurd rfl hp))
theorem State.withKlk_kept {m : Nat} {r s : State} (hm : Covers m 0x400) (h : Kept m r s) (f) : Kept m r (s.withKlk f) :=
  h.trans (part_kept .klk hm id rfl (Nat.le_refl _) rfl (fun p hp => by cases p <;> first | rfl | exact absurd rfl hp))
theorem State.withBeat_kept {m : Nat} {r s : State} (hm : Covers m 2) (h : Kept m r s) (f) (hf : (f s.beat).lbc = s.beat.lbc) : Kept m r (s.withBeat f) :=
  h.trans (part_kept .beat hm id rfl (Nat.le_refl _) rfl (fun p hp => by cases p <;> first | rfl | exact hf | exact absurd rfl hp))
/-- The beat generator changed, its count too. -/
theorem State.withLbc_kept {m : Nat} {r s : State} (hm : Covers m 3) (h : Kept m r s) (f) : Kept m r (s.withBeat f) := by
  refine h.trans ⟨id, rfl, Nat.le_refl _, fun p hb => ?_, fun _ _ _ _ => rfl⟩
  cases p with
  | lbc => rw [hm.bit (by decide)] at hb; exact absurd hb (by decide)
  | beat => rw [hm.bit (by decide)] at hb; exact absurd hb (by decide)
  | _ => rfl
theorem State.withLbcOnly_kept {m : Nat} {r s : State} (hm : Covers m 1) (h : Kept m r s) (n : Nat) : Kept m r (s.withBeat fun b => { b with lbc := n }) :=
  h.trans (part_kept .lbc hm id rfl (Nat.le_refl _) rfl (fun p hp => by cases p <;> first | rfl | exact absurd rfl hp))

/-- A word written with the value it has reads as before, everywhere. -/
theorem State.setReg_id {m : Nat} {r s : State} (h : Kept m r s) (st i w v) (hv : v = s.reg st i w) : Kept m r (s.setReg st i w v) := by
  refine h.trans ⟨fun c => ?_, rfl, Nat.le_refl _, fun p _ => by cases p <;> rfl, fun st' i' w' _ => ?_⟩
  · rw [State.canon_iff] at c ⊢
    exact ⟨Tab.wf_set _ _ _ _ c.1, c.2⟩
  · by_cases hk : regKey st i w = regKey st' i' w'
    · have hx : s.reg st i w = s.reg st' i' w' := by unfold State.reg; rw [hk]
      have hy : (s.setReg st i w v).reg st' i' w' = (s.setReg st i w v).reg st i w := by unfold State.reg; rw [hk]
      rw [hy, State.reg_setReg_same, hv, hx]
    · exact Tab.get_set_other _ _ _ _ _ (fun e => hk e.symm)

/-- The register stems with a bit that software writes (R9: RW, W1C). -/
def writable : Nat := 0x3e041a4b027d0003dc4bfe2c003e3fe07013fe107f00000000
/-- The register stems with a field that a read clears (R9: RC). -/
def readClears : Nat := 0x80400010800005e00000004001808008018400004000000000
theorem not_writable (st : Stem) (h : writable.testBit (32 + st.ctorIdx) = false) (i w : Nat) : (st.word i w).rw = 0 ∧ (st.word i w).w1c = 0 := by
  cases st <;> first | exact absurd h (by decide +kernel) | exact ⟨rfl, rfl⟩
theorem not_readClears (st : Stem) (h : readClears.testBit (32 + st.ctorIdx) = false) (i w : Nat) : (st.word i w).rc = 0 := by
  cases st <;> first | exact absurd h (by decide +kernel) | rfl | (rcases w with _ | _ | w <;> rfl)
theorem covers_stem {m k : Nat} (h : Covers m k) {st : Stem} (hb : k.testBit (32 + st.ctorIdx) = true) : Covers m (stemBit st) := by
  refine h.trans ?_
  unfold Covers stemBit
  rw [Nat.and_two_pow, hb]; simp

theorem State.putWord_kept {m : Nat} {r s : State} (hm : Covers m 0x3e041a4b027d0003dc4bfe2c003e3fe07013fe107f00000000) (h : Kept m r s) (x v w) : Kept m r (State.putWord x v w s) := by
  unfold State.putWord
  by_cases hb : writable.testBit (32 + x.stem.ctorIdx) = true
  · exact State.setReg_kept _ (covers_stem hm hb) h _ _ _
  · have := not_writable x.stem (by simpa using hb) x.inst x.word
    refine State.setReg_id h _ _ _ _ ?_
    rw [this.1, this.2]
    have e : ∀ b : W32, b &&& 4294967295#32 = b := fun b => BitVec.and_allOnes
    simp [e]
theorem State.clearRead_kept {m : Nat} {r s : State} (hm : Covers m 0x80400010800005e00000004001808008018400004000000000) (h : Kept m r s) (x) : Kept m r (State.clearRead x s) := by
  unfold State.clearRead
  by_cases hb : readClears.testBit (32 + x.stem.ctorIdx) = true
  · exact kept_ite (fun _ => h) (fun _ => State.setReg_kept _ (covers_stem hm hb) h _ _ _)
  · rw [if_pos (not_readClears x.stem (by simpa using hb) x.inst x.word)]
    exact h
end Sys2Proof.Machine
end

