-- ==== Sys2Proof/Laws/KeptPattern.lean ====
section
/-! SUPPORT. What the operations and meanings of the output pipe, the pattern engine and its streams leave as it was. -/

namespace Sys2Proof.Machine

theorem State.raiseAt_kept {m : Nat} {r s : State} (hm : Covers m 0x20) (h : Kept m r s) (b) (f) : Kept m r (State.raiseAt b f s) := by
  unfold State.raiseAt
  repeat' (with_reducible first | assumption | exact Covers.trans hm (by decide) | apply State.withHsk_kept
                                | apply foldl_kept | apply kept_ite | apply kept_ite_snd | apply optKept_some
                                | exact optKept_none | apply optKept_ite | apply optKept_or | apply optKept_getD
                                | exact Kept.refl _ | dsimp only | intro _ | split)

theorem State.raise_kept {m : Nat} {r s : State} (hm : Covers m 0x20) (h : Kept m r s) (f)  : Kept m r (State.raise f s) := by
  unfold State.raise
  repeat' (with_reducible first | assumption | exact Covers.trans hm (by decide) | apply State.raiseAt_kept
                                | apply foldl_kept | apply kept_ite | apply kept_ite_snd | apply optKept_some
                                | exact optKept_none | apply optKept_ite | apply optKept_or | apply optKept_getD
                                | exact Kept.refl _ | dsimp only | intro _ | split)

theorem State.raiseNow_kept {m : Nat} {r s : State} (hm : Covers m 0x20) (h : Kept m r s) (f) : Kept m r (State.raiseNow f s) := by
  unfold State.raiseNow
  repeat' (with_reducible first | assumption | exact Covers.trans hm (by decide) | apply State.raiseAt_kept
                                | apply foldl_kept | apply kept_ite | apply kept_ite_snd | apply optKept_some
                                | exact optKept_none | apply optKept_ite | apply optKept_or | apply optKept_getD
                                | exact Kept.refl _ | dsimp only | intro _ | split)

theorem State.fault_kept {m : Nat} {r s : State} (hm : Covers m 0x20) (h : Kept m r s) (sub) (cls) (code) (detail) (mask)  : Kept m r (State.fault sub cls code detail mask s) := by
  unfold State.fault
  repeat' (with_reducible first | assumption | exact Covers.trans hm (by decide) | apply State.raise_kept)

theorem State.event_kept {m : Nat} {r s : State} (hm : Covers m 0x20000000000000000000000000000000000000000000000020) (h : Kept m r s) (e') : Kept m r (State.event e' s) := by
  unfold State.event
  repeat' (with_reducible first | assumption | exact Covers.trans hm (by decide) | apply State.setReg_kept
                                | apply State.withHsk_kept | apply State.setReg_kept | apply foldl_kept
                                | apply kept_ite | apply kept_ite_snd | apply optKept_some | exact optKept_none
                                | apply optKept_ite | apply optKept_or | apply optKept_getD | exact Kept.refl _
                                | dsimp only | intro _ | split)

theorem State.signal_kept {m : Nat} {r s : State} (hm : Covers m 0x40) (h : Kept m r s) (v)  : Kept m r (State.signal v s) := by
  unfold State.signal
  repeat' (with_reducible first | assumption | exact Covers.trans hm (by decide) | apply State.withHst_kept)

theorem State.retag_kept {m : Nat} {r s : State} (hm : Covers m 0x30000000000000000000000000000080) (h : Kept m r s) (b) (p)  : Kept m r (State.retag b p s) := by
  unfold State.retag
  repeat' (with_reducible first | assumption | exact Covers.trans hm (by decide) | apply State.setReg_kept
                                | apply State.withCst_kept)

theorem State.takeBlock_kept {m : Nat} {r s : State} (hm : Covers m 0x30000000000000000000000000000080) (h : Kept m r s) (p)  : Kept m r (State.takeBlock p s).2 := by
  unfold State.takeBlock
  repeat' (with_reducible first | assumption | exact Covers.trans hm (by decide) | apply State.retag_kept | apply foldl_kept
                                | apply kept_ite | apply kept_ite_snd | apply optKept_some | exact optKept_none
                                | apply optKept_ite | exact Kept.refl _ | dsimp only | intro _ | split)

theorem State.takeBlocks_kept {m : Nat} {r : State} (hm : Covers m 0x30000000000000000000000000000080) (p n : Nat) : ∀ {s : State}, Kept m r s → Kept m r (State.takeBlocks p n s).2 := by
  induction n with
  | zero => intro s h; exact h
  | succ n ih =>
    intro s h
    unfold State.takeBlocks
    have k := State.takeBlock_kept (hm.trans (by decide)) h p
    split
    · next e => rw [e] at k; exact k
    · next e => rw [e] at k; exact ih k

theorem State.freeBlock_kept {m : Nat} {r s : State} (hm : Covers m 0x700000000000000000000000000000a0) (h : Kept m r s) (p) (b)  : Kept m r (State.freeBlock p b s) := by
  unfold State.freeBlock
  repeat' (with_reducible first | assumption | exact Covers.trans hm (by decide) | apply State.setReg_kept
                                | apply State.withCst_kept | apply State.fault_kept | apply State.putBit_kept
                                | apply foldl_kept | apply kept_ite | apply kept_ite_snd | apply optKept_some
                                | exact optKept_none | apply optKept_ite | exact Kept.refl _ | dsimp only | intro _)

theorem State.freeBlockList_kept {m : Nat} {r s : State} (hm : Covers m 0x700000000000000000000000000000a0) (h : Kept m r s) (p) (l)  : Kept m r (State.freeBlockList p l s) := by
  unfold State.freeBlockList
  repeat' (with_reducible first | assumption | exact Covers.trans hm (by decide) | apply each_kept
                                | apply State.freeBlock_kept | apply foldl_kept | apply kept_ite | apply kept_ite_snd
                                | apply optKept_some | exact optKept_none | apply optKept_ite | exact Kept.refl _
                                | dsimp only | intro _)

theorem State.takeRun_kept {m : Nat} {r s : State} (hm : Covers m 0x30000000000000000000000000000080) (h : Kept m r s) (p) (b) (n)  : Kept m r (State.takeRun p b n s) := by
  unfold State.takeRun
  repeat' (with_reducible first | assumption | exact Covers.trans hm (by decide) | apply each_kept | apply State.retag_kept
                                | apply foldl_kept | apply kept_ite | apply kept_ite_snd | apply optKept_some
                                | exact optKept_none | apply optKept_ite | exact Kept.refl _ | dsimp only | intro _)

theorem State.setBox_kept {m : Nat} {r s : State} (hm : Covers m 0x40) (h : Kept m r s) (m') (b) : Kept m r (State.setBox m' b s) := by
  unfold State.setBox
  repeat' (with_reducible first | assumption | exact Covers.trans hm (by decide) | apply State.withHst_kept
                                | apply foldl_kept | apply kept_ite | apply kept_ite_snd | apply optKept_some
                                | exact optKept_none | apply optKept_ite | exact Kept.refl _ | dsimp only | intro _
                                | split)

theorem State.writeEntry_kept {m : Nat} {r s : State} (hm : Covers m 0x44) (h : Kept m r s) (c)  : Kept m r (State.writeEntry c s) := by
  unfold State.writeEntry
  repeat' (with_reducible first | assumption | exact Covers.trans hm (by decide) | apply State.setMem_kept | apply when_kept
                                | apply State.signal_kept | apply State.setBox_kept | apply foldl_kept | apply kept_ite
                                | apply kept_ite_snd | apply optKept_some | exact optKept_none | apply optKept_ite
                                | exact Kept.refl _ | dsimp only | intro _)

theorem State.setV1_kept {m : Nat} {r s : State} (hm : Covers m 0x40) (h : Kept m r s) (i) (v)  : Kept m r (State.setV1 i v s) := by
  unfold State.setV1
  repeat' (with_reducible first | assumption | exact Covers.trans hm (by decide) | apply State.withHst_kept)

theorem State.v1Report_kept {m : Nat} {r s : State} (hm : Covers m 0x40) (h : Kept m r s) (c)  : Kept m r (State.v1Report c s) := by
  unfold State.v1Report
  repeat' (with_reducible first | assumption | exact Covers.trans hm (by decide) | apply State.setV1_kept | apply each_kept
                                | apply State.signal_kept | apply foldl_kept | apply kept_ite | apply kept_ite_snd
                                | apply optKept_some | exact optKept_none | apply optKept_ite | exact Kept.refl _
                                | dsimp only | intro _)

theorem State.post_kept {m : Nat} {r s : State} (hm : Covers m 0x20000000000000000000000000000000000000000000000064) (h : Kept m r s) (c)  : Kept m r (State.post c s) := by
  unfold State.post
  repeat' (with_reducible first | assumption | exact Covers.trans hm (by decide) | apply State.v1Report_kept
                                | apply State.event_kept | apply State.withHst_kept | apply State.writeEntry_kept
                                | apply foldl_kept | apply kept_ite | apply kept_ite_snd | apply optKept_some
                                | exact optKept_none | apply optKept_ite | exact Kept.refl _ | dsimp only | intro _)

theorem State.complete_kept {m : Nat} {r s : State} (hm : Covers m 0x20000000000000000000000000000000000000000000000064) (h : Kept m r s) (iss) (status) (res)  : Kept m r (State.complete iss status res s) := by
  unfold State.complete
  repeat' (with_reducible first | assumption | exact Covers.trans hm (by decide) | apply State.post_kept)

theorem State.command_kept {m : Nat} {r s : State} (hm : Covers m 0x20000000000000000000000000000000000000000000000064) (h : Kept m r s) (iss) (code) (avail) (checks) (run) (hrun : ∀ y0, Kept m r y0 → Kept m r (run y0)) : Kept m r (State.command iss code avail checks run s) := by
  unfold State.command
  repeat' (with_reducible first | assumption | exact Covers.trans hm (by decide) | apply hrun | apply State.complete_kept
                                | apply foldl_kept | apply kept_ite | apply kept_ite_snd | apply optKept_some
                                | exact optKept_none | apply optKept_ite | exact Kept.refl _ | dsimp only | intro _ | split)

theorem State.defer_kept {m : Nat} {r s : State} (hm : Covers m 0x20000000000000000000000000000000000000000000000064) (h : Kept m r s) (iss) (cmd) (due) (data)  : Kept m r (State.defer iss cmd due data s) := by
  unfold State.defer
  repeat' (with_reducible first | assumption | exact Covers.trans hm (by decide) | apply State.complete_kept
                                | apply State.withHst_kept)

theorem State.dropDeferred_kept {m : Nat} {r s : State} (hm : Covers m 0x40) (h : Kept m r s) (i)  : Kept m r (State.dropDeferred i s) := by
  unfold State.dropDeferred
  repeat' (with_reducible first | assumption | exact Covers.trans hm (by decide) | apply State.withHst_kept)

theorem State.modDeferred_kept {m : Nat} {r s : State} (hm : Covers m 0x40) (h : Kept m r s) (hit) (f)  : Kept m r (State.modDeferred hit f s) := by
  unfold State.modDeferred
  repeat' (with_reducible first | assumption | exact Covers.trans hm (by decide) | apply State.withHst_kept)

theorem State.endDeferred_kept {m : Nat} {r s : State} (hm : Covers m 0x20000000000000000000000000000000000000000000000064) (h : Kept m r s) (hit) (status)  : Kept m r (State.endDeferred hit status s) := by
  unfold State.endDeferred
  repeat' (with_reducible first | assumption | exact Covers.trans hm (by decide) | apply State.withHst_kept
                                | apply State.complete_kept | apply foldl_kept | apply kept_ite | apply kept_ite_snd
                                | apply optKept_some | exact optKept_none | apply optKept_ite | exact Kept.refl _
                                | dsimp only | intro _)

theorem State.finish_kept {m : Nat} {r s : State} (hm : Covers m 0x20000000000000000000000000000000000000000000000064) (h : Kept m r s) (d) (status) (res)  : Kept m r (State.finish d status res s) := by
  unfold State.finish
  repeat' (with_reducible first | assumption | exact Covers.trans hm (by decide) | apply State.complete_kept
                                | apply foldl_kept | apply kept_ite | apply kept_ite_snd | apply optKept_some
                                | exact optKept_none | apply optKept_ite | exact Kept.refl _ | dsimp only | intro _)

theorem State.modPip_kept {m : Nat} {r s : State} (hm : Covers m 0x200) (h : Kept m r s) (ch) (f)  : Kept m r (State.modPip ch f s) := by
  unfold State.modPip
  repeat' (with_reducible first | assumption | exact Covers.trans hm (by decide) | apply State.withSeq_kept)

theorem State.modThr_kept {m : Nat} {r s : State} (hm : Covers m 0x200) (h : Kept m r s) (n) (f)  : Kept m r (State.modThr n f s) := by
  unfold State.modThr
  repeat' (with_reducible first | assumption | exact Covers.trans hm (by decide) | apply State.withSeq_kept)

theorem State.setTset_kept {m : Nat} {r s : State} (hm : Covers m 0x200) (h : Kept m r s) (site) (t) (img)  : Kept m r (State.setTset site t img s) := by
  unfold State.setTset
  repeat' (with_reducible first | assumption | exact Covers.trans hm (by decide) | apply State.withSeq_kept)

theorem State.drop_kept {m : Nat} {r s : State} (hm : Covers m 0xc000000200) (h : Kept m r s) (ch) (kind)  : Kept m r (State.drop ch kind s) := by
  unfold State.drop
  repeat' (with_reducible first | assumption | exact Covers.trans hm (by decide) | apply State.setReg_kept
                                | apply State.putBit_kept | apply State.countUp_kept | apply State.withSeq_kept)

theorem State.place_kept {m : Nat} {r s : State} (hm : Covers m 0x200) (h : Kept m r s) (ch) (c)  : Kept m r (State.place ch c s) := by
  unfold State.place
  repeat' (with_reducible first | assumption | exact Covers.trans hm (by decide) | apply State.modPip_kept)

theorem State.setLast_kept {m : Nat} {r s : State} (hm : Covers m 0x200) (h : Kept m r s) (ch) (path) (e') : Kept m r (State.setLast ch path e' s) := by
  unfold State.setLast
  repeat' (with_reducible first | assumption | exact Covers.trans hm (by decide) | apply State.modPip_kept
                                | apply foldl_kept | apply kept_ite | apply kept_ite_snd | apply optKept_some
                                | exact optKept_none | apply optKept_ite | apply optKept_or | apply optKept_getD
                                | exact Kept.refl _ | dsimp only | intro _ | split)

theorem State.edge_kept {m : Nat} {r s : State} (hm : Covers m 0xc000000200) (h : Kept m r s) (ch) (c) : Kept m r (State.edge ch c s) := by
  unfold State.edge
  repeat' (with_reducible first | assumption | exact Covers.trans hm (by decide) | apply State.place_kept
                                | apply State.setLast_kept | apply State.drop_kept | apply foldl_kept
                                | apply kept_ite | apply kept_ite_snd | apply optKept_some | exact optKept_none
                                | apply optKept_ite | apply optKept_or | apply optKept_getD | exact Kept.refl _
                                | dsimp only | intro _ | split)

theorem State.driveFree_kept {m : Nat} {r s : State} (hm : Covers m 0xc000000200) (h : Kept m r s) (ch) (v) (img) (i) (sym)  : Kept m r (State.driveFree ch v img i sym s) := by
  unfold State.driveFree
  repeat' (with_reducible first | assumption | exact Covers.trans hm (by decide) | apply State.edge_kept
                                | apply State.place_kept | apply foldl_kept | apply kept_ite | apply kept_ite_snd
                                | apply optKept_some | exact optKept_none | apply optKept_ite | apply optKept_or
                                | apply optKept_getD | exact Kept.refl _ | dsimp only | intro _ | split)

theorem State.addStrobe_kept {m : Nat} {r s : State} (hm : Covers m 0x200) (h : Kept m r s) (ch) (thr) (v) (b)  : Kept m r (State.addStrobe ch thr v b s) := by
  unfold State.addStrobe
  repeat' (with_reducible first | assumption | exact Covers.trans hm (by decide) | apply State.modPip_kept
                                | apply State.modThr_kept | apply foldl_kept | apply kept_ite | apply kept_ite_snd
                                | apply optKept_some | exact optKept_none | apply optKept_ite | exact Kept.refl _
                                | dsimp only | intro _ | split)

theorem State.strobeFree_kept {m : Nat} {r s : State} (hm : Covers m 0xc000000200) (h : Kept m r s) (ch) (thr) (v) (img) (i) (sym)  : Kept m r (State.strobeFree ch thr v img i sym s) := by
  unfold State.strobeFree
  repeat' (with_reducible first | assumption | exact Covers.trans hm (by decide) | apply State.setLast_kept
                                | apply State.drop_kept | apply when_kept | apply State.modPip_kept
                                | apply State.addStrobe_kept | apply foldl_kept | apply kept_ite | apply kept_ite_snd
                                | apply optKept_some | exact optKept_none | apply optKept_ite | apply optKept_or
                                | apply optKept_getD | exact Kept.refl _ | dsimp only | intro _ | split)

theorem State.scheduleFixed_kept {m : Nat} {r s : State} (hm : Covers m 0x200) (h : Kept m r s) (ch) (thr) (v) (i) (sym)  : Kept m r (State.scheduleFixed ch thr v i sym s) := by
  unfold State.scheduleFixed
  repeat' (with_reducible first | assumption | exact Covers.trans hm (by decide) | apply State.place_kept
                                | apply State.addStrobe_kept | apply foldl_kept | apply kept_ite | apply kept_ite_snd
                                | apply optKept_some | exact optKept_none | apply optKept_ite | apply optKept_or
                                | apply optKept_getD | exact Kept.refl _ | dsimp only | intro _ | split)

theorem State.scheduleChannel_kept {m : Nat} {r s : State} (hm : Covers m 0xc000000200) (h : Kept m r s) (thr) (v) (i) (ch)  : Kept m r (State.scheduleChannel thr v i ch s) := by
  unfold State.scheduleChannel
  repeat' (with_reducible first | assumption | exact Covers.trans hm (by decide) | apply State.scheduleFixed_kept
                                | apply State.driveFree_kept | apply State.strobeFree_kept | apply State.drop_kept
                                | apply State.modPip_kept | apply foldl_kept | apply kept_ite | apply kept_ite_snd
                                | apply optKept_some | exact optKept_none | apply optKept_ite | exact Kept.refl _
                                | dsimp only | intro _ | split)

theorem State.scheduleVec_kept {m : Nat} {r s : State} (hm : Covers m 0xc000000200) (h : Kept m r s) (thr) (v)  : Kept m r (State.scheduleVec thr v s) := by
  unfold State.scheduleVec
  repeat' (with_reducible first | assumption | exact Covers.trans hm (by decide) | apply State.scheduleChannel_kept
                                | apply State.modThr_kept | apply foldl_kept | apply kept_ite | apply kept_ite_snd
                                | apply optKept_some | exact optKept_none | apply optKept_ite | exact Kept.refl _
                                | dsimp only | intro _ | split)

theorem State.pipeStages_kept {m : Nat} {r s : State} (hm : Covers m 0x200) (h : Kept m r s)  : Kept m r (State.pipeStages s) := by
  unfold State.pipeStages
  repeat' (with_reducible first | assumption | exact Covers.trans hm (by decide) | apply each_kept
                                | apply State.modThr_kept | apply foldl_kept | apply kept_ite | apply kept_ite_snd
                                | apply optKept_some | exact optKept_none | apply optKept_ite | exact Kept.refl _
                                | dsimp only | intro _ | split)

theorem execOutputPipeSchedule_kept {m : Nat} {s : State} (hm : Covers m 0xc000000200) (thr) {t : State} (e : execOutputPipeSchedule thr s = .next t) : Kept m s t := by
  refine done_kept ?_ e
  repeat' (with_reducible first | assumption | exact Covers.trans hm (by decide) | apply State.live_kept
                                | apply State.scheduleVec_kept | apply foldl_kept | apply kept_ite | apply kept_ite_snd
                                | apply optKept_some | exact optKept_none | apply optKept_ite | exact Kept.refl _
                                | dsimp only | intro _)

theorem State.reportDrops_kept {m : Nat} {r s : State} (hm : Covers m 0x220) (h : Kept m r s)   : Kept m r (State.reportDrops s) := by
  unfold State.reportDrops
  repeat' (with_reducible first | assumption | exact Covers.trans hm (by decide) | apply State.fault_kept
                                | apply State.withSeq_kept | apply foldl_kept | apply kept_ite | apply kept_ite_snd
                                | apply optKept_some | exact optKept_none | apply optKept_ite | exact Kept.refl _
                                | dsimp only | intro _ | split)

theorem State.placeQuiet_kept {m : Nat} {r s : State} (hm : Covers m 0xc000000200) (h : Kept m r s) (ch) (t) (lead)  : Kept m r (State.placeQuiet ch t lead s) := by
  unfold State.placeQuiet
  repeat' (with_reducible first | assumption | exact Covers.trans hm (by decide) | apply State.place_kept
                                | apply State.drop_kept | apply State.modPip_kept | apply foldl_kept | apply kept_ite
                                | apply kept_ite_snd | apply optKept_some | exact optKept_none | apply optKept_ite
                                | apply optKept_or | apply optKept_getD | exact Kept.refl _ | dsimp only | intro _
                                | split)

theorem State.dropStrobe_kept {m : Nat} {r s : State} (hm : Covers m 0x200) (h : Kept m r s) (ch) (b)  : Kept m r (State.dropStrobe ch b s) := by
  unfold State.dropStrobe
  repeat' (with_reducible first | assumption | exact Covers.trans hm (by decide) | apply State.modThr_kept
                                | apply foldl_kept | apply kept_ite | apply kept_ite_snd | apply optKept_some
                                | exact optKept_none | apply optKept_ite | exact Kept.refl _ | dsimp only | intro _
                                | split)

theorem State.modTdc_kept {m : Nat} {r s : State} (hm : Covers m 0x2000) (h : Kept m r s) (n) (f)  : Kept m r (State.modTdc n f s) := by
  unfold State.modTdc
  repeat' (with_reducible first | assumption | exact Covers.trans hm (by decide) | apply State.withMeas_kept)

theorem State.setStats_kept {m : Nat} {r s : State} (hm : Covers m 0x27e000000000000000000000000) (h : Kept m r s) (n) (l) : Kept m r (State.setStats n l s) := by
  unfold State.setStats
  repeat' (with_reducible first | assumption | exact Covers.trans hm (by decide) | apply State.setReg_kept
                                | apply State.setReg_kept | apply foldl_kept | apply kept_ite | apply kept_ite_snd
                                | apply optKept_some | exact optKept_none | apply optKept_ite | exact Kept.refl _
                                | dsimp only | intro _ | split)

theorem State.forgetWindows_kept {m : Nat} {r s : State} (hm : Covers m 0x27e000000000000000000002000) (h : Kept m r s) (n) (vs) : Kept m r (State.forgetWindows n vs s) := by
  unfold State.forgetWindows
  repeat' (with_reducible first | assumption | exact Covers.trans hm (by decide) | apply State.setStats_kept
                                | apply State.modTdc_kept | apply foldl_kept | apply kept_ite | apply kept_ite_snd
                                | apply optKept_some | exact optKept_none | apply optKept_ite | apply optKept_or
                                | apply optKept_getD | exact Kept.refl _ | dsimp only | intro _ | split)

theorem State.dropWindows_kept {m : Nat} {r s : State} (hm : Covers m 0x27e000000000000000000002200) (h : Kept m r s) (ch) (hit) : Kept m r (State.dropWindows ch hit s) := by
  unfold State.dropWindows
  repeat' (with_reducible first | assumption | exact Covers.trans hm (by decide) | apply State.modPip_kept
                                | apply each_kept | apply State.forgetWindows_kept | apply foldl_kept
                                | apply kept_ite | apply kept_ite_snd | apply optKept_some | exact optKept_none
                                | apply optKept_ite | exact Kept.refl _ | dsimp only | intro _ | split)

theorem State.modLog_kept {m : Nat} {r s : State} (hm : Covers m 0x1000) (h : Kept m r s) (site) (f)  : Kept m r (State.modLog site f s) := by
  unfold State.modLog
  repeat' (with_reducible first | assumption | exact Covers.trans hm (by decide) | apply State.withCap_kept)

theorem State.retract_kept {m : Nat} {r s : State} (hm : Covers m 0x16000000000000001200) (h : Kept m r s) (site) (ch) (v) : Kept m r (State.retract site ch v s) := by
  unfold State.retract
  repeat' (with_reducible first | assumption | exact Covers.trans hm (by decide) | apply State.modThr_kept
                                | apply State.putField_kept | apply State.setReg64_kept | apply State.modLog_kept
                                | apply State.setReg64_kept | apply State.putField_kept | apply foldl_kept
                                | apply kept_ite | apply kept_ite_snd | apply optKept_some | exact optKept_none
                                | apply optKept_ite | apply optKept_or | apply optKept_getD | exact Kept.refl _
                                | dsimp only | intro _ | split)

theorem State.retractAll_kept {m : Nat} {r s : State} (hm : Covers m 0x16000000000000001200) (h : Kept m r s) (site) (ch) (cut) : Kept m r (State.retractAll site ch cut s) := by
  unfold State.retractAll
  repeat' (with_reducible first | assumption | exact Covers.trans hm (by decide) | apply each_kept
                                | apply State.retract_kept | apply foldl_kept | apply kept_ite | apply kept_ite_snd
                                | apply optKept_some | exact optKept_none | apply optKept_ite | apply optKept_or
                                | apply optKept_getD | exact Kept.refl _ | dsimp only | intro _ | split)

theorem State.cutChannel_kept {m : Nat} {r s : State} (hm : Covers m 0x27e000000000000000000002200) (h : Kept m r s) (ch) (cut)  : Kept m r (State.cutChannel ch cut s) := by
  unfold State.cutChannel
  repeat' (with_reducible first | assumption | exact Covers.trans hm (by decide) | apply each_kept
                                | apply State.dropStrobe_kept | apply State.modPip_kept
                                | apply State.dropWindows_kept | apply foldl_kept | apply kept_ite
                                | apply kept_ite_snd | apply optKept_some | exact optKept_none | apply optKept_ite
                                | apply optKept_or | apply optKept_getD | exact Kept.refl _ | dsimp only | intro _
                                | split)

theorem State.discardRows_kept {m : Nat} {r s : State} (hm : Covers m 0x27e000000000000000000002200) (h : Kept m r s) (ch) (b)  : Kept m r (State.discardRows ch b s) := by
  unfold State.discardRows
  repeat' (with_reducible first | assumption | exact Covers.trans hm (by decide) | apply each_kept
                                | apply State.dropStrobe_kept | apply State.modPip_kept
                                | apply State.dropWindows_kept | apply foldl_kept | apply kept_ite
                                | apply kept_ite_snd | apply optKept_some | exact optKept_none | apply optKept_ite
                                | apply optKept_or | apply optKept_getD | exact Kept.refl _ | dsimp only | intro _
                                | split)

theorem State.enterQuiet_kept {m : Nat} {r s : State} (hm : Covers m 0xc100000200) (h : Kept m r s) (ch) (t) : Kept m r (State.enterQuiet ch t s) := by
  unfold State.enterQuiet
  repeat' (with_reducible first | assumption | exact Covers.trans hm (by decide) | apply State.modPip_kept
                                | apply State.putBit_kept | apply State.placeQuiet_kept | apply State.putBit_kept
                                | apply foldl_kept | apply kept_ite | apply kept_ite_snd | apply optKept_some
                                | exact optKept_none | apply optKept_ite | exact Kept.refl _ | dsimp only | intro _
                                | split)

theorem State.siteQuiet_kept {m : Nat} {r s : State} (hm : Covers m 0x27e000016000000000000003200) (h : Kept m r s) (site) (t) (cut)  : Kept m r (State.siteQuiet site t cut s) := by
  unfold State.siteQuiet
  repeat' (with_reducible first | assumption | exact Covers.trans hm (by decide) | apply each_kept
                                | apply State.retractAll_kept | apply State.cutChannel_kept | apply State.modPip_kept
                                | apply State.withSeq_kept | apply foldl_kept | apply kept_ite | apply kept_ite_snd
                                | apply optKept_some | exact optKept_none | apply optKept_ite | apply optKept_or
                                | apply optKept_getD | exact Kept.refl _ | dsimp only | intro _ | split)

theorem State.enterQuiets_kept {m : Nat} {r s : State} (hm : Covers m 0xc100000200) (h : Kept m r s)  : Kept m r (State.enterQuiets s) := by
  unfold State.enterQuiets
  repeat' (with_reducible first | assumption | exact Covers.trans hm (by decide) | apply each_kept
                                | apply State.enterQuiet_kept | apply foldl_kept | apply kept_ite
                                | apply kept_ite_snd | apply optKept_some | exact optKept_none | apply optKept_ite
                                | apply optKept_or | apply optKept_getD | exact Kept.refl _ | dsimp only | intro _
                                | split)

theorem execQuietStateEntry_kept {m : Nat} {s : State} (hm : Covers m 0xc100000200) (ch) {t : State} (e : execQuietStateEntry ch s = .next t) : Kept m s t := by
  refine done_kept ?_ e
  repeat' (with_reducible first | assumption | exact Covers.trans hm (by decide) | apply State.live_kept
                                | apply State.enterQuiet_kept | apply foldl_kept | apply kept_ite
                                | apply kept_ite_snd | apply optKept_some | exact optKept_none | apply optKept_ite
                                | exact Kept.refl _ | dsimp only | intro _ | split)

theorem State.quietNow_kept {m : Nat} {r s : State} (hm : Covers m 0xc000000200) (h : Kept m r s) (ch)  : Kept m r (State.quietNow ch s) := by
  unfold State.quietNow
  repeat' (with_reducible first | assumption | exact Covers.trans hm (by decide) | apply State.modPip_kept
                                | apply State.placeQuiet_kept | apply foldl_kept | apply kept_ite
                                | apply kept_ite_snd | apply optKept_some | exact optKept_none | apply optKept_ite
                                | exact Kept.refl _ | dsimp only | intro _ | split)

theorem State.modPort_kept {m : Nat} {r s : State} (hm : Covers m 0x400) (h : Kept m r s) (p) (f)  : Kept m r (State.modPort p f s) := by
  unfold State.modPort
  repeat' (with_reducible first | assumption | exact Covers.trans hm (by decide) | apply State.withKlk_kept)

theorem State.queueFrame_kept {m : Nat} {r s : State} (hm : Covers m 0x400) (h : Kept m r s) (p) (vc) (origin) (no) (f)  : Kept m r (State.queueFrame p vc origin no f s) := by
  unfold State.queueFrame
  repeat' (with_reducible first | assumption | exact Covers.trans hm (by decide) | apply State.modPort_kept)

theorem State.dropFrame_kept {m : Nat} {r s : State} (hm : Covers m 0x20000000000001000000000000000000000000000000000420) (h : Kept m r s) (p)  : Kept m r (State.dropFrame p s) := by
  unfold State.dropFrame
  repeat' (with_reducible first | assumption | exact Covers.trans hm (by decide) | apply State.countUp_kept
                                | apply State.modPort_kept | apply State.fault_kept | apply State.event_kept
                                | apply foldl_kept | apply kept_ite | apply kept_ite_snd | apply optKept_some
                                | exact optKept_none | apply optKept_ite | exact Kept.refl _ | dsimp only | intro _)

theorem State.floodFrom_kept {m : Nat} {r s : State} (hm : Covers m 0x20000000000001000000000000000000000000000000000420) (h : Kept m r s) (origin) (no) (f)  : Kept m r (State.floodFrom origin no f s) := by
  unfold State.floodFrom
  repeat' (with_reducible first | assumption | exact Covers.trans hm (by decide) | apply each_kept
                                | apply State.queueFrame_kept | apply State.dropFrame_kept | apply foldl_kept
                                | apply kept_ite | apply kept_ite_snd | apply optKept_some | exact optKept_none
                                | apply optKept_ite | exact Kept.refl _ | dsimp only | intro _ | split)

theorem State.flood_kept {m : Nat} {r s : State} (hm : Covers m 0x20000000000001000000000000000000000000000000000420) (h : Kept m r s) (type) (aux) (payload)  : Kept m r (State.flood type aux payload s) := by
  unfold State.flood
  repeat' (with_reducible first | assumption | exact Covers.trans hm (by decide) | apply State.floodFrom_kept
                                | apply foldl_kept | apply kept_ite | apply kept_ite_snd | apply optKept_some
                                | exact optKept_none | apply optKept_ite | exact Kept.refl _ | dsimp only | intro _
                                | split)

theorem State.setDir_kept {m : Nat} {r s : State} (hm : Covers m 0x200) (h : Kept m r s) (seg) (e') : Kept m r (State.setDir seg e' s) := by
  unfold State.setDir
  repeat' (with_reducible first | assumption | exact Covers.trans hm (by decide) | apply State.withSeq_kept
                                | apply foldl_kept | apply kept_ite | apply kept_ite_snd | apply optKept_some
                                | exact optKept_none | apply optKept_ite | apply optKept_or | apply optKept_getD
                                | exact Kept.refl _ | dsimp only | intro _ | split)

theorem State.setMkEntry_kept {m : Nat} {r s : State} (hm : Covers m 0x200) (h : Kept m r s) (site) (code) (e') : Kept m r (State.setMkEntry site code e' s) := by
  unfold State.setMkEntry
  repeat' (with_reducible first | assumption | exact Covers.trans hm (by decide) | apply State.withSeq_kept
                                | apply foldl_kept | apply kept_ite | apply kept_ite_snd | apply optKept_some
                                | exact optKept_none | apply optKept_ite | apply optKept_or | apply optKept_getD
                                | exact Kept.refl _ | dsimp only | intro _ | split)

theorem State.placeMarker_kept {m : Nat} {r s : State} (hm : Covers m 0x200000000000200) (h : Kept m r s) (site) (code) (start) (period) (issued) (no) : Kept m r (State.placeMarker site code start period issued no s) := by
  unfold State.placeMarker
  repeat' (with_reducible first | assumption | exact Covers.trans hm (by decide) | apply when_kept
                                | apply State.putBit_kept | apply State.withSeq_kept | apply State.putBit_kept
                                | apply foldl_kept | apply kept_ite | apply kept_ite_snd | apply optKept_some
                                | exact optKept_none | apply optKept_ite | exact Kept.refl _ | dsimp only | intro _
                                | split)

theorem State.setMark_kept {m : Nat} {r s : State} (hm : Covers m 0x200) (h : Kept m r s) (k') (m') : Kept m r (State.setMark k' m' s) := by
  unfold State.setMark
  repeat' (with_reducible first | assumption | exact Covers.trans hm (by decide) | apply State.withSeq_kept
                                | apply foldl_kept | apply kept_ite | apply kept_ite_snd | apply optKept_some
                                | exact optKept_none | apply optKept_ite | apply optKept_or | apply optKept_getD
                                | exact Kept.refl _ | dsimp only | intro _ | split)

theorem State.actMark_kept {m : Nat} {r s : State} (hm : Covers m 0x200) (h : Kept m r s) (a)  : Kept m r (State.actMark a s) := by
  unfold State.actMark
  repeat' (with_reducible first | assumption | exact Covers.trans hm (by decide) | apply State.setMark_kept
                                | apply foldl_kept | apply kept_ite | apply kept_ite_snd | apply optKept_some
                                | exact optKept_none | apply optKept_ite | exact Kept.refl _ | dsimp only | intro _
                                | split)

theorem State.settleMarks_kept {m : Nat} {r s : State} (hm : Covers m 0x400000000000200) (h : Kept m r s) (coarse)  : Kept m r (State.settleMarks coarse s) := by
  unfold State.settleMarks
  repeat' (with_reducible first | assumption | exact Covers.trans hm (by decide) | apply each_kept
                                | apply State.actMark_kept | apply State.withSeq_kept | apply State.countUp_kept
                                | apply State.countUp_kept | apply foldl_kept | apply kept_ite | apply kept_ite_snd
                                | apply optKept_some | exact optKept_none | apply optKept_ite | exact Kept.refl _
                                | dsimp only | intro _ | split)

theorem State.settleBall_kept {m : Nat} {r s : State} (hm : Covers m 0x200) (h : Kept m r s) (k') (e') : Kept m r (State.settleBall k' e' s) := by
  unfold State.settleBall
  repeat' (with_reducible first | assumption | exact Covers.trans hm (by decide) | apply each_kept
                                | apply State.actMark_kept | apply State.withSeq_kept | apply foldl_kept
                                | apply kept_ite | apply kept_ite_snd | apply optKept_some | exact optKept_none
                                | apply optKept_ite | apply optKept_or | apply optKept_getD | exact Kept.refl _
                                | dsimp only | intro _ | split)

theorem execMkPulseEnd_kept {m : Nat} {s : State} (hm : Covers m 0x200) (ball) {t : State} (e : execMkPulseEnd ball s = .next t) : Kept m s t := by
  refine done_kept ?_ e
  repeat' (with_reducible first | assumption | exact Covers.trans hm (by decide) | apply State.live_kept
                                | apply State.settleBall_kept | apply State.setMark_kept | apply foldl_kept
                                | apply kept_ite | apply kept_ite_snd | apply optKept_some | exact optKept_none
                                | apply optKept_ite | apply optKept_or | apply optKept_getD | exact Kept.refl _
                                | dsimp only | intro _ | split)

theorem State.setSlot_kept {m : Nat} {r s : State} (hm : Covers m 0x200) (h : Kept m r s) (n) (k') (v) : Kept m r (State.setSlot n k' v s) := by
  unfold State.setSlot
  repeat' (with_reducible first | assumption | exact Covers.trans hm (by decide) | apply State.modThr_kept
                                | apply foldl_kept | apply kept_ite | apply kept_ite_snd | apply optKept_some
                                | exact optKept_none | apply optKept_ite | apply optKept_or | apply optKept_getD
                                | exact Kept.refl _ | dsimp only | intro _ | split)

theorem State.spanPut_kept {m : Nat} {r s : State} (hm : Covers m 0x200) (h : Kept m r s) (b) (slots) (flags) (pi) (nos) : Kept m r (State.spanPut b slots flags pi nos s) := by
  unfold State.spanPut
  repeat' (with_reducible first | assumption | exact Covers.trans hm (by decide) | apply State.withSeq_kept
                                | apply foldl_kept | apply kept_ite | apply kept_ite_snd | apply optKept_some
                                | exact optKept_none | apply optKept_ite | exact Kept.refl _ | dsimp only | intro _
                                | split)

theorem State.noteHap_kept {m : Nat} {r s : State} (hm : Covers m 0x200) (h : Kept m r s) (n) (h') : Kept m r (State.noteHap n h' s) := by
  unfold State.noteHap
  repeat' (with_reducible first | assumption | exact Covers.trans hm (by decide) | apply State.modThr_kept
                                | apply foldl_kept | apply kept_ite | apply kept_ite_snd | apply optKept_some
                                | exact optKept_none | apply optKept_ite | apply optKept_or | apply optKept_getD
                                | exact Kept.refl _ | dsimp only | intro _ | split)

theorem State.spanSet_kept {m : Nat} {r s : State} (hm : Covers m 0x200) (h : Kept m r s) (n) (k') (b) : Kept m r (State.spanSet n k' b s) := by
  unfold State.spanSet
  repeat' (with_reducible first | assumption | exact Covers.trans hm (by decide) | apply State.noteHap_kept
                                | apply foldl_kept | apply kept_ite | apply kept_ite_snd | apply optKept_some
                                | exact optKept_none | apply optKept_ite | apply optKept_or | apply optKept_getD
                                | exact Kept.refl _ | dsimp only | intro _ | split)

theorem State.happen_kept {m : Nat} {r s : State} (hm : Covers m 0x200) (h : Kept m r s) (n) (k') (b) (no) : Kept m r (State.happen n k' b no s) := by
  unfold State.happen
  repeat' (with_reducible first | assumption | exact Covers.trans hm (by decide) | apply State.noteHap_kept
                                | apply State.spanPut_kept | apply State.spanSet_kept | apply foldl_kept
                                | apply kept_ite | apply kept_ite_snd | apply optKept_some | exact optKept_none
                                | apply optKept_ite | apply optKept_or | apply optKept_getD | exact Kept.refl _
                                | dsimp only | intro _ | split)

theorem State.happenAll_kept {m : Nat} {r s : State} (hm : Covers m 0x200) (h : Kept m r s) (src) (arg) (b)  : Kept m r (State.happenAll src arg b s) := by
  unfold State.happenAll
  repeat' (with_reducible first | assumption | exact Covers.trans hm (by decide) | apply each_kept | apply State.happen_kept
                                | apply foldl_kept | apply kept_ite | apply kept_ite_snd | apply optKept_some
                                | exact optKept_none | apply optKept_ite | exact Kept.refl _ | dsimp only | intro _)

theorem State.useInjection_kept {m : Nat} {r s : State} (hm : Covers m 0x8000000000000000000000000000000000000000000000000) (h : Kept m r s)   : Kept m r (State.useInjection s) := by
  unfold State.useInjection
  repeat' (with_reducible first | assumption | exact Covers.trans hm (by decide) | apply State.putBit_kept | apply foldl_kept
                                | apply kept_ite | apply kept_ite_snd | apply optKept_some | exact optKept_none
                                | apply optKept_ite | exact Kept.refl _ | dsimp only | intro _)

theorem State.spanForget_kept {m : Nat} {r s : State} (hm : Covers m 0x200) (h : Kept m r s) (pi) (b) : Kept m r (State.spanForget pi b s) := by
  unfold State.spanForget
  repeat' (with_reducible first | assumption | exact Covers.trans hm (by decide) | apply State.withSeq_kept
                                | apply foldl_kept | apply kept_ite | apply kept_ite_snd | apply optKept_some
                                | exact optKept_none | apply optKept_ite | exact Kept.refl _ | dsimp only | intro _
                                | split)

theorem State.newPass_kept {m : Nat} {r s : State} (hm : Covers m 0x200) (h : Kept m r s) (n) (item) (seg) (first) (passNo) (linked) (replay)  : Kept m r (State.newPass n item seg first passNo linked replay s).2 := by
  unfold State.newPass
  repeat' (with_reducible first | assumption | exact Covers.trans hm (by decide) | apply State.modThr_kept
                                | apply foldl_kept | apply kept_ite | apply kept_ite_snd | apply optKept_some
                                | exact optKept_none | apply optKept_ite | apply optKept_or | apply optKept_getD
                                | exact Kept.refl _ | dsimp only | intro _ | split)

theorem State.planPass_kept {m : Nat} {r s : State} (hm : Covers m 0x200) (h : Kept m r s) (n) (item) (seg) (first) (passNo) (linked)  : Kept m r (State.planPass n item seg first passNo linked s) := by
  unfold State.planPass
  repeat' (with_reducible first | assumption | exact Covers.trans hm (by decide) | apply State.newPass_kept
                                | apply State.modThr_kept | apply foldl_kept | apply kept_ite | apply kept_ite_snd
                                | apply optKept_some | exact optKept_none | apply optKept_ite | exact Kept.refl _
                                | dsimp only | intro _ | split)

theorem State.planNext_kept {m : Nat} {r s : State} (hm : Covers m 0x200) (h : Kept m r s) (n) (l) : Kept m r (State.planNext n s l) := by
  induction l with
  | nil => exact h
  | cons it l ih =>
    unfold State.planNext
    repeat' (with_reducible first | assumption | exact Covers.trans hm (by decide) | apply State.planPass_kept
                                  | apply kept_ite | dsimp only | intro _ | split)

theorem State.askSide_kept {m : Nat} {r s : State} (hm : Covers m 0x200) (h : Kept m r s) (n) (back) : OptKept m r (State.askSide n back s) := by
  unfold State.askSide
  repeat' (with_reducible first | assumption | exact Covers.trans hm (by decide) | apply State.planNext_kept
                                | apply State.modThr_kept | apply foldl_kept | apply kept_ite | apply kept_ite_snd
                                | apply optKept_some | exact optKept_none | apply optKept_ite | exact Kept.refl _
                                | dsimp only | intro _ | split)

theorem State.fetchOne_kept {m : Nat} {r s : State} (hm : Covers m 0x200) (h : Kept m r s) (n)  : Kept m r (State.fetchOne n s) := by
  have a (b) : OptKept m r (State.askSide n b s) := State.askSide_kept (hm.trans (by decide)) h n b
  unfold State.fetchOne
  repeat' (with_reducible first | assumption | apply a | apply kept_ite | apply optKept_getD | apply optKept_or
                                | exact optKept_none | apply optKept_ite | dsimp only | intro _)

theorem State.modGroup_kept {m : Nat} {r s : State} (hm : Covers m 0x200) (h : Kept m r s) (g) (f)  : Kept m r (State.modGroup g f s) := by
  unfold State.modGroup
  repeat' (with_reducible first | assumption | exact Covers.trans hm (by decide) | apply State.withSeq_kept)

theorem State.askWith_kept {m : Nat} {r s : State} (hm : Covers m 0x200) (h : Kept m r s) (a) (f) (p) (m') : Kept m r (State.askWith a f p m' s) := by
  unfold State.askWith
  repeat' (with_reducible first | assumption | exact Covers.trans hm (by decide) | apply State.planPass_kept
                                | apply State.modThr_kept | apply foldl_kept | apply kept_ite | apply kept_ite_snd
                                | apply optKept_some | exact optKept_none | apply optKept_ite | apply optKept_or
                                | apply optKept_getD | exact Kept.refl _ | dsimp only | intro _ | split)

theorem State.takeUp_kept {m : Nat} {r s : State} (hm : Covers m 0x200) (h : Kept m r s) (n) (id) : Kept m r (State.takeUp n id s) := by
  unfold State.takeUp
  repeat' (with_reducible first | assumption | exact Covers.trans hm (by decide) | apply State.modThr_kept
                                | apply foldl_kept | apply kept_ite | apply kept_ite_snd | apply optKept_some
                                | exact optKept_none | apply optKept_ite | apply optKept_or | apply optKept_getD
                                | exact Kept.refl _ | dsimp only | intro _ | split)

theorem State.fetchShared_kept {m : Nat} {r s : State} (hm : Covers m 0x200) (h : Kept m r s) (l) : Kept m r (State.fetchShared l s) := by
  unfold State.fetchShared
  repeat' (with_reducible first | assumption | exact Covers.trans hm (by decide) | apply State.fetchOne_kept
                                | apply each_kept | apply State.askWith_kept | apply foldl_kept | apply kept_ite
                                | apply kept_ite_snd | apply optKept_some | exact optKept_none | apply optKept_ite
                                | apply optKept_or | apply optKept_getD | exact Kept.refl _ | dsimp only | intro _
                                | split)

theorem execStreamFetchRequest_kept {m : Nat} {s : State} (hm : Covers m 0x200) (thr) {t : State} (e : execStreamFetchRequest thr s = .next t) : Kept m s t := by
  refine done_kept ?_ e
  repeat' (with_reducible first | assumption | exact Covers.trans hm (by decide) | apply State.live_kept
                                | apply State.fetchShared_kept | apply foldl_kept | apply kept_ite
                                | apply kept_ite_snd | apply optKept_some | exact optKept_none | apply optKept_ite
                                | exact Kept.refl _ | dsimp only | intro _ | split)

theorem State.leaveStall_kept {m : Nat} {r s : State} (hm : Covers m 0x200) (h : Kept m r s) (n)  : Kept m r (State.leaveStall n s) := by
  unfold State.leaveStall
  repeat' (with_reducible first | assumption | exact Covers.trans hm (by decide) | apply each_kept
                                | apply State.modThr_kept | apply foldl_kept | apply kept_ite | apply kept_ite_snd
                                | apply optKept_some | exact optKept_none | apply optKept_ite | exact Kept.refl _
                                | dsimp only | intro _ | split)

theorem State.arriveAt_kept {m : Nat} {r s : State} (hm : Covers m 0x200) (h : Kept m r s) (f) (m') : Kept m r (State.arriveAt f m' s) := by
  unfold State.arriveAt
  repeat' (with_reducible first | assumption | exact Covers.trans hm (by decide) | apply State.modThr_kept
                                | apply foldl_kept | apply kept_ite | apply kept_ite_snd | apply optKept_some
                                | exact optKept_none | apply optKept_ite | apply optKept_or | apply optKept_getD
                                | exact Kept.refl _ | dsimp only | intro _ | split)

theorem State.arriveShared_kept {m : Nat} {r s : State} (hm : Covers m 0x200) (h : Kept m r s) (l) : Kept m r (State.arriveShared l s) := by
  unfold State.arriveShared
  repeat' (with_reducible first | assumption | exact Covers.trans hm (by decide) | apply each_kept
                                | apply State.arriveAt_kept | apply State.leaveStall_kept | apply foldl_kept
                                | apply kept_ite | apply kept_ite_snd | apply optKept_some | exact optKept_none
                                | apply optKept_ite | exact Kept.refl _ | dsimp only | intro _ | split)

theorem execStreamGranuleArrive_kept {m : Nat} {s : State} (hm : Covers m 0x200) (thr) {t : State} (e : execStreamGranuleArrive thr s = .next t) : Kept m s t :=
  done_kept (State.live_kept (Kept.refl s) _ fun _ h => State.arriveShared_kept (hm.trans (by decide)) h _) e

theorem State.alignItems_kept {m : Nat} {r s : State} (hm : Covers m 0x200) (h : Kept m r s) (l) : Kept m r (State.alignItems l s) := by
  unfold State.alignItems
  repeat' (with_reducible first | assumption | exact Covers.trans hm (by decide) | apply each_kept
                                | apply State.modThr_kept | apply foldl_kept | apply kept_ite | apply kept_ite_snd
                                | apply optKept_some | exact optKept_none | apply optKept_ite | exact Kept.refl _
                                | dsimp only | intro _ | split)

theorem State.rejoin_kept {m : Nat} {r s : State} (hm : Covers m 0x200) (h : Kept m r s) (a) (m') : Kept m r (State.rejoin a m' s) := by
  unfold State.rejoin
  repeat' (with_reducible first | assumption | exact Covers.trans hm (by decide) | apply State.modThr_kept
                                | apply foldl_kept | apply kept_ite | apply kept_ite_snd | apply optKept_some
                                | exact optKept_none | apply optKept_ite | apply optKept_or | apply optKept_getD
                                | exact Kept.refl _ | dsimp only | intro _ | split)

theorem State.pin_kept {m : Nat} {r s : State} (hm : Covers m 0x200) (h : Kept m r s) (l) : Kept m r (State.pin l s) := by
  unfold State.pin
  repeat' (with_reducible first | assumption | exact Covers.trans hm (by decide) | apply State.withSeq_kept
                                | apply foldl_kept | apply kept_ite | apply kept_ite_snd | apply optKept_some
                                | exact optKept_none | apply optKept_ite | exact Kept.refl _ | dsimp only | intro _
                                | split)

theorem State.pinAll_kept {m : Nat} {r s : State} (hm : Covers m 0x200) (h : Kept m r s)  : Kept m r (State.pinAll s) := by
  unfold State.pinAll
  repeat' (with_reducible first | assumption | exact Covers.trans hm (by decide) | apply State.pin_kept
                                | apply foldl_kept | apply kept_ite | apply kept_ite_snd | apply optKept_some
                                | exact optKept_none | apply optKept_ite | apply optKept_or | apply optKept_getD
                                | exact Kept.refl _ | dsimp only | intro _ | split)

theorem State.pinLog_kept {m : Nat} {r s : State} (hm : Covers m 0x200) (h : Kept m r s) (site) : Kept m r (State.pinLog site s) := by
  unfold State.pinLog
  repeat' (with_reducible first | assumption | exact Covers.trans hm (by decide) | apply State.pin_kept
                                | apply foldl_kept | apply kept_ite | apply kept_ite_snd | apply optKept_some
                                | exact optKept_none | apply optKept_ite | apply optKept_or | apply optKept_getD
                                | exact Kept.refl _ | dsimp only | intro _ | split)

theorem State.unpinAll_kept {m : Nat} {r s : State} (hm : Covers m 0x200) (h : Kept m r s)  : Kept m r (State.unpinAll s) := by
  unfold State.unpinAll
  repeat' (with_reducible first | assumption | exact Covers.trans hm (by decide) | apply State.withSeq_kept
                                | apply foldl_kept | apply kept_ite | apply kept_ite_snd | apply optKept_some
                                | exact optKept_none | apply optKept_ite | exact Kept.refl _ | dsimp only | intro _
                                | split)

theorem execBlockAllocate_kept {m : Nat} {s : State} (hm : Covers m 0x30000000000000000000000000000080) (pool) {t : State} (e : execBlockAllocate pool s = .next t) : Kept m s t := by
  refine done_kept ?_ e
  repeat' (with_reducible first | assumption | exact Covers.trans hm (by decide) | apply State.live_kept
                                | apply State.takeBlock_kept | apply foldl_kept | apply kept_ite | apply kept_ite_snd
                                | apply optKept_some | exact optKept_none | apply optKept_ite | exact Kept.refl _
                                | dsimp only | intro _)

theorem execBlockFree_kept {m : Nat} {s : State} (hm : Covers m 0x700000000000000000000000000000a0) (pool) (block) {t : State} (e : execBlockFree pool block s = .next t) : Kept m s t := by
  refine done_kept ?_ e
  repeat' (with_reducible first | assumption | exact Covers.trans hm (by decide) | apply State.live_kept
                                | apply State.freeBlock_kept | apply foldl_kept | apply kept_ite | apply kept_ite_snd
                                | apply optKept_some | exact optKept_none | apply optKept_ite | exact Kept.refl _
                                | dsimp only | intro _)

theorem State.storeRead_kept {m : Nat} {r s : State} (hm : Covers m 0x40000000000000000000000000000020) (h : Kept m r s) (word) (flipped) (inj)  : Kept m r (State.storeRead word flipped inj s) := by
  unfold State.storeRead
  repeat' (with_reducible first | assumption | exact Covers.trans hm (by decide) | apply State.raise_kept
                                | apply State.putBit_kept | apply foldl_kept | apply kept_ite | apply kept_ite_snd
                                | apply optKept_some | exact optKept_none | apply optKept_ite | exact Kept.refl _
                                | dsimp only | intro _)

theorem State.setProg_kept {m : Nat} {r s : State} (hm : Covers m 0x200) (h : Kept m r s) (p) (v)  : Kept m r (State.setProg p v s) := by
  unfold State.setProg
  repeat' (with_reducible first | assumption | exact Covers.trans hm (by decide) | apply State.withSeq_kept)

theorem State.setGr_kept {m : Nat} {r s : State} (hm : Covers m 0x100000000000) (h : Kept m r s) (n) (k') (v) : Kept m r (State.setGr n k' v s) := by
  unfold State.setGr
  repeat' (with_reducible first | assumption | exact Covers.trans hm (by decide) | apply State.setReg_kept
                                | apply State.setReg_kept | apply foldl_kept | apply kept_ite | apply kept_ite_snd
                                | apply optKept_some | exact optKept_none | apply optKept_ite | apply optKept_or
                                | apply optKept_getD | exact Kept.refl _ | dsimp only | intro _ | split)

theorem State.performInjection_kept {m : Nat} {r s : State} (hm : Covers m 0x8000000000000000000000000000000000000000000000200) (h : Kept m r s) (c) : Kept m r (State.performInjection c s) := by
  unfold State.performInjection
  repeat' (with_reducible first | assumption | exact Covers.trans hm (by decide) | apply State.useInjection_kept
                                | apply State.withSeq_kept | apply foldl_kept | apply kept_ite | apply kept_ite_snd
                                | apply optKept_some | exact optKept_none | apply optKept_ite | apply optKept_or
                                | apply optKept_getD | exact Kept.refl _ | dsimp only | intro _ | split)

theorem State.abortDue_kept {m : Nat} {r s : State} (hm : Covers m 0x200) (h : Kept m r s) (n) (reason)  : Kept m r (State.abortDue n reason s) := by
  unfold State.abortDue
  repeat' (with_reducible first | assumption | exact Covers.trans hm (by decide) | apply State.modThr_kept
                                | apply foldl_kept | apply kept_ite | apply kept_ite_snd | apply optKept_some
                                | exact optKept_none | apply optKept_ite | apply optKept_or | apply optKept_getD
                                | exact Kept.refl _ | dsimp only | intro _ | split)

theorem State.machineCheck_kept {m : Nat} {r s : State} (hm : Covers m 0x8000000000000000000000000000000000001200000000220) (h : Kept m r s) (c)  : Kept m r (State.machineCheck c s) := by
  unfold State.machineCheck
  repeat' (with_reducible first | assumption | exact Covers.trans hm (by decide) | apply State.performInjection_kept
                                | apply State.raiseNow_kept | apply State.putBit_kept | apply State.setReg_kept
                                | apply each_kept | apply when_kept | apply State.spanPut_kept
                                | apply State.modThr_kept | apply State.abortDue_kept | apply State.setReg_kept
                                | apply State.putBit_kept | apply foldl_kept | apply kept_ite | apply kept_ite_snd
                                | apply optKept_some | exact optKept_none | apply optKept_ite | apply optKept_or
                                | apply optKept_getD | exact Kept.refl _ | dsimp only | intro _ | split)

theorem State.spendBeat_kept {m : Nat} {r s : State} (hm : Covers m 0x200) (h : Kept m r s) (n)  : Kept m r (State.spendBeat n s) := by
  unfold State.spendBeat
  repeat' (with_reducible first | assumption | exact Covers.trans hm (by decide) | apply State.modThr_kept)

theorem State.nextWord_kept {m : Nat} {r s : State} (hm : Covers m 0x200) (h : Kept m r s) (n) (w)  : Kept m r (State.nextWord n w s) := by
  unfold State.nextWord
  repeat' (with_reducible first | assumption | exact Covers.trans hm (by decide) | apply State.modThr_kept
                                | apply State.spendBeat_kept)

theorem State.stackFault_kept {m : Nat} {r s : State} (hm : Covers m 0x220) (h : Kept m r s) (n) (code)  : Kept m r (State.stackFault n code s) := by
  unfold State.stackFault
  repeat' (with_reducible first | assumption | exact Covers.trans hm (by decide) | apply State.raise_kept
                                | apply State.modThr_kept)

theorem State.slide_kept {m : Nat} {r s : State} (hm : Covers m 0x200) (h : Kept m r s) (n) : Kept m r (State.slide n s) := by
  unfold State.slide
  repeat' (with_reducible first | assumption | exact Covers.trans hm (by decide) | apply State.modThr_kept
                                | apply foldl_kept | apply kept_ite | apply kept_ite_snd | apply optKept_some
                                | exact optKept_none | apply optKept_ite | exact Kept.refl _ | dsimp only | intro _
                                | split)

theorem State.jumpPc_kept {m : Nat} {r s : State} (hm : Covers m 0x200) (h : Kept m r s) (n) (pc)  : Kept m r (State.jumpPc n pc s) := by
  unfold State.jumpPc
  repeat' (with_reducible first | assumption | exact Covers.trans hm (by decide) | apply State.modThr_kept
                                | apply State.slide_kept | apply foldl_kept | apply kept_ite | apply kept_ite_snd
                                | apply optKept_some | exact optKept_none | apply optKept_ite | exact Kept.refl _
                                | dsimp only | intro _ | split)

theorem State.pushItem_kept {m : Nat} {r s : State} (hm : Covers m 0x200) (h : Kept m r s) (n) (it)  : Kept m r (State.pushItem n it s) := by
  unfold State.pushItem
  repeat' (with_reducible first | assumption | exact Covers.trans hm (by decide) | apply State.takeUp_kept
                                | apply State.modThr_kept | apply foldl_kept | apply kept_ite | apply kept_ite_snd
                                | apply optKept_some | exact optKept_none | apply optKept_ite | apply optKept_or
                                | apply optKept_getD | exact Kept.refl _ | dsimp only | intro _ | split)

theorem execIbufRefill_kept {m : Nat} {s : State} (hm : Covers m 0x200) (thr) {t : State} (e : execIbufRefill thr s = .next t) : Kept m s t := by
  refine done_kept ?_ e
  repeat' (with_reducible first | assumption | exact Covers.trans hm (by decide) | apply State.live_kept
                                | apply State.modThr_kept | apply State.slide_kept
                                | apply foldl_kept | apply kept_ite | apply kept_ite_snd | apply optKept_some
                                | exact optKept_none | apply optKept_ite | exact Kept.refl _ | dsimp only | intro _
                                | split)

theorem State.setPad_kept {m : Nat} {r s : State} (hm : Covers m 0x200) (h : Kept m r s) (n) (i) (p)  : Kept m r (State.setPad n i p s) := by
  unfold State.setPad
  repeat' (with_reducible first | assumption | exact Covers.trans hm (by decide) | apply State.modThr_kept)

theorem State.padChain_kept {m : Nat} {r : State} (hm : Covers m 0x200) (n : Nat) (it : Item) (k : Nat) : ∀ (seg first passNo : Nat) (linked : Bool) (rows : Nat) {s : State}, Kept m r s →
    Kept m r (State.padChain n it seg first passNo linked rows k s).2.2 := by
  induction k with
  | zero => intro _ _ _ _ _ s h; exact h
  | succ k ih =>
    intro seg first passNo linked rows s h
    have hn := State.newPass_kept (hm.trans (by decide)) h n it.id seg first passNo linked false
    unfold State.padChain
    dsimp only
    generalize (if !(entValid (s.newPass n it.id seg first passNo linked false).1.entry) then 0 else _) = own
    split
    · exact hn
    · split
      · exact ih _ _ _ _ _ hn
      · exact hn

theorem State.fillPad_kept {m : Nat} {r s : State} (hm : Covers m 0x4000000000000200) (h : Kept m r s) (n) (i) (pad) (old) (it) : Kept m r (State.fillPad n i pad old it s) := by
  unfold State.fillPad
  repeat' (with_reducible first | assumption | exact Covers.trans hm (by decide) | apply State.setPad_kept
                                | apply State.modThr_kept | apply State.padChain_kept | apply State.putField_kept
                                | apply State.putField_kept | apply foldl_kept | apply kept_ite | apply kept_ite_snd
                                | apply optKept_some | exact optKept_none | apply optKept_ite | apply optKept_or
                                | apply optKept_getD | exact Kept.refl _ | dsimp only | intro _ | split)

theorem State.armPad_kept {m : Nat} {r s : State} (hm : Covers m 0x4000000000000220) (h : Kept m r s) (n) (i) (target) (pc) (timeout) (w)  : Kept m r (State.armPad n i target pc timeout w s) := by
  unfold State.armPad
  repeat' (with_reducible first | assumption | exact Covers.trans hm (by decide) | apply State.modThr_kept
                                | apply State.raiseNow_kept | apply State.setPad_kept | apply State.fillPad_kept
                                | apply foldl_kept | apply kept_ite | apply kept_ite_snd | apply optKept_some
                                | exact optKept_none | apply optKept_ite | apply optKept_or | apply optKept_getD
                                | exact Kept.refl _ | dsimp only | intro _ | split)

theorem State.feedStream_kept {m : Nat} {r s : State} (hm : Covers m 0x200) (h : Kept m r s) (n) (rows)  : Kept m r (State.feedStream n rows s) := by
  unfold State.feedStream
  repeat' (with_reducible first | assumption | exact Covers.trans hm (by decide) | apply State.modThr_kept
                                | apply State.leaveStall_kept | apply foldl_kept | apply kept_ite
                                | apply kept_ite_snd | apply optKept_some | exact optKept_none | apply optKept_ite
                                | exact Kept.refl _ | dsimp only | intro _ | split)

theorem execPadReady_kept {m : Nat} {s : State} (hm : Covers m 0x200) (thr) (pad) {t : State} (e : execPadReady thr pad s = .next t) : Kept m s t := by
  refine done_kept ?_ e
  repeat' (with_reducible first | assumption | exact Covers.trans hm (by decide) | apply State.live_kept
                                | apply State.setPad_kept | apply State.feedStream_kept | apply foldl_kept
                                | apply kept_ite | apply kept_ite_snd | apply optKept_some | exact optKept_none
                                | apply optKept_ite | apply optKept_or | apply optKept_getD | exact Kept.refl _
                                | dsimp only | intro _ | split)

theorem State.modAq_kept {m : Nat} {r s : State} (hm : Covers m 0x1000) (h : Kept m r s) (a) (f)  : Kept m r (State.modAq a f s) := by
  unfold State.modAq
  repeat' (with_reducible first | assumption | exact Covers.trans hm (by decide) | apply State.withCap_kept)

theorem State.aqIgnore_kept {m : Nat} {r s : State} (hm : Covers m 0x20000000000000000000000000008000000000000000001020) (h : Kept m r s) (a)  : Kept m r (State.aqIgnore a s) := by
  unfold State.aqIgnore
  repeat' (with_reducible first | assumption | exact Covers.trans hm (by decide) | apply State.modAq_kept
                                | apply State.countUp_kept | apply when_kept | apply State.event_kept | apply foldl_kept
                                | apply kept_ite | apply kept_ite_snd | apply optKept_some | exact optKept_none
                                | apply optKept_ite | exact Kept.refl _ | dsimp only | intro _)

theorem State.aqState_kept {m : Nat} {r s : State} (hm : Covers m 0x4000000000000000001000) (h : Kept m r s) (a) (st)  : Kept m r (State.aqState a st s) := by
  unfold State.aqState
  repeat' (with_reducible first | assumption | exact Covers.trans hm (by decide) | apply State.modAq_kept
                                | apply State.putField_kept)

theorem State.aqFill_kept {m : Nat} {r s : State} (hm : Covers m 0x4000000000000000001000) (h : Kept m r s) (a)  : Kept m r (State.aqFill a s) := by
  unfold State.aqFill
  repeat' (with_reducible first | assumption | exact Covers.trans hm (by decide) | apply State.aqState_kept)

theorem State.aqComplete_kept {m : Nat} {r s : State} (hm : Covers m 0x20000000000000000000000000004000000000000000001020) (h : Kept m r s) (a) (short)  : Kept m r (State.aqComplete a short s) := by
  unfold State.aqComplete
  repeat' (with_reducible first | assumption | exact Covers.trans hm (by decide) | apply State.modAq_kept
                                | apply State.putField_kept | apply State.aqState_kept | apply State.event_kept
                                | apply State.aqFill_kept | apply State.putField_kept | apply foldl_kept
                                | apply kept_ite | apply kept_ite_snd | apply optKept_some | exact optKept_none
                                | apply optKept_ite | apply optKept_or | apply optKept_getD | exact Kept.refl _
                                | dsimp only | intro _ | split)

theorem State.aqFreeze_kept {m : Nat} {r s : State} (hm : Covers m 0x20000000000000000000000000014000000000000000001220) (h : Kept m r s) (a) (k') (bin) : Kept m r (State.aqFreeze a k' bin s) := by
  unfold State.aqFreeze
  repeat' (with_reducible first | assumption | exact Covers.trans hm (by decide) | apply State.modAq_kept
                                | apply State.aqState_kept | apply State.setReg_kept | apply State.event_kept
                                | apply State.happenAll_kept | apply State.setReg_kept | apply foldl_kept
                                | apply kept_ite | apply kept_ite_snd | apply optKept_some | exact optKept_none
                                | apply optKept_ite | apply optKept_or | apply optKept_getD | exact Kept.refl _
                                | dsimp only | intro _ | split)

theorem State.testHeld_kept {m : Nat} {r s : State} (hm : Covers m 0x20000000000000000000000000014000000000000000001220) (h : Kept m r s) (a) (trig)  : Kept m r (State.testHeld a trig s) := by
  unfold State.testHeld
  repeat' (with_reducible first | assumption | exact Covers.trans hm (by decide) | apply State.aqFreeze_kept
                                | apply foldl_kept | apply kept_ite | apply kept_ite_snd | apply optKept_some
                                | exact optKept_none | apply optKept_ite | exact Kept.refl _ | dsimp only | intro _ | split)

theorem State.aqPublish_kept {m : Nat} {r s : State} (hm : Covers m 0x20000000000001000000000000000000000000000000001620) (h : Kept m r s) (a)  : Kept m r (State.aqPublish a s) := by
  unfold State.aqPublish
  repeat' (with_reducible first | assumption | exact Covers.trans hm (by decide) | apply State.happenAll_kept
                                | apply State.flood_kept | apply State.withCap_kept | apply foldl_kept
                                | apply kept_ite | apply kept_ite_snd | apply optKept_some | exact optKept_none
                                | apply optKept_ite | exact Kept.refl _ | dsimp only | intro _ | split)

theorem State.aqAccept_kept {m : Nat} {r s : State} (hm : Covers m 0x20000000000000000000000000014000000000000000001220) (h : Kept m r s) (a) (k') (frac) (interp) (forced) : Kept m r (State.aqAccept a k' frac interp forced s) := by
  unfold State.aqAccept
  repeat' (with_reducible first | assumption | exact Covers.trans hm (by decide) | apply State.modAq_kept
                                | apply State.aqState_kept | apply State.event_kept | apply State.testHeld_kept
                                | apply State.aqComplete_kept | apply foldl_kept | apply kept_ite
                                | apply kept_ite_snd | apply optKept_some | exact optKept_none | apply optKept_ite
                                | apply optKept_or | apply optKept_getD | exact Kept.refl _ | dsimp only | intro _
                                | split)

theorem State.aqResolve_kept {m : Nat} {r : State} (hm : Covers m 0x2000000000000100000000000001c000000000000000001620) (t k : Nat) : ∀ (a : Nat) {s : State}, Kept m r s → Kept m r (State.aqResolve a t k s) := by
  induction k with
  | zero => intro _ s h; exact h
  | succ k ih =>
    intro a s h
    unfold State.aqResolve
    repeat' (with_reducible first | assumption | exact Covers.trans hm (by decide) | apply State.modAq_kept
                                  | apply State.aqIgnore_kept | apply State.aqPublish_kept | apply State.aqAccept_kept
                                  | apply each_kept | apply ih | apply foldl_kept | apply kept_ite | exact Kept.refl _
                                  | dsimp only | intro _ | split)

theorem State.aqTrigger_kept {m : Nat} {r s : State} (hm : Covers m 0x2000000000000100000000000001c000000000000000001620) (h : Kept m r s) (a) (t)  : Kept m r (State.aqTrigger a t s) := by
  unfold State.aqTrigger
  repeat' (with_reducible first | assumption | exact Covers.trans hm (by decide) | apply State.aqResolve_kept
                                | apply State.modAq_kept | apply State.aqIgnore_kept | apply foldl_kept | apply kept_ite
                                | apply kept_ite_snd | apply optKept_some | exact optKept_none | apply optKept_ite
                                | exact Kept.refl _ | dsimp only | intro _)

theorem State.triggerAll_kept {m : Nat} {r s : State} (hm : Covers m 0x2000000000000100000000000001c000000000000000001620) (h : Kept m r s) (src) (arg) (t)  : Kept m r (State.triggerAll src arg t s) := by
  unfold State.triggerAll
  repeat' (with_reducible first | assumption | exact Covers.trans hm (by decide) | apply each_kept
                                | apply State.aqTrigger_kept | apply foldl_kept | apply kept_ite | apply kept_ite_snd
                                | apply optKept_some | exact optKept_none | apply optKept_ite | exact Kept.refl _
                                | dsimp only | intro _ | split)

theorem State.aqFollow_kept {m : Nat} {r s : State} (hm : Covers m 0x2000000000000100000000000001c000000000000000001620) (h : Kept m r s) (a) (t)  : Kept m r (State.aqFollow a t s) := by
  unfold State.aqFollow
  repeat' (with_reducible first | assumption | exact Covers.trans hm (by decide) | apply each_kept
                                | apply State.aqTrigger_kept | apply foldl_kept | apply kept_ite | apply kept_ite_snd
                                | apply optKept_some | exact optKept_none | apply optKept_ite | exact Kept.refl _
                                | dsimp only | intro _ | split)

theorem State.aqLevel_kept {m : Nat} {r s : State} (hm : Covers m 0x2000000000000100000000000001c000000000000000001620) (h : Kept m r s) (a) (frac) (x1) : Kept m r (State.aqLevel a frac x1 s) := by
  unfold State.aqLevel
  repeat' (with_reducible first | assumption | exact Covers.trans hm (by decide) | apply State.aqIgnore_kept
                                | apply State.modAq_kept | apply State.aqAccept_kept | apply State.aqPublish_kept
                                | apply State.aqFollow_kept | apply foldl_kept | apply kept_ite | apply kept_ite_snd
                                | apply optKept_some | exact optKept_none | apply optKept_ite | apply optKept_or
                                | apply optKept_getD | exact Kept.refl _ | dsimp only | intro _ | split)

theorem State.aqPut_kept {m : Nat} {r s : State} (hm : Covers m 0x1004) (h : Kept m r s) (a) (x) : Kept m r (State.aqPut a x s) := by
  unfold State.aqPut
  repeat' (with_reducible first | assumption | exact Covers.trans hm (by decide) | apply State.setMem_kept
                                | apply State.modAq_kept | apply foldl_kept | apply kept_ite | apply kept_ite_snd
                                | apply optKept_some | exact optKept_none | apply optKept_ite | apply optKept_or
                                | apply optKept_getD | exact Kept.refl _ | dsimp only | intro _ | split)

theorem State.aqSettle_kept {m : Nat} {r s : State} (hm : Covers m 0x2000000000000100000000000001c000000000000000001620) (h : Kept m r s) (a) : Kept m r (State.aqSettle a s) := by
  unfold State.aqSettle
  repeat' (with_reducible first | assumption | exact Covers.trans hm (by decide) | apply State.aqAccept_kept
                                | apply each_kept | apply State.aqTrigger_kept | apply State.modAq_kept
                                | apply State.aqFreeze_kept | apply State.aqComplete_kept | apply State.aqState_kept
                                | apply foldl_kept | apply kept_ite | apply kept_ite_snd | apply optKept_some
                                | exact optKept_none | apply optKept_ite | apply optKept_or | apply optKept_getD
                                | exact Kept.refl _ | dsimp only | intro _ | split)

theorem State.aqStore_kept {m : Nat} {r s : State} (hm : Covers m 0x2000000000000100000000000001c000000000000000001624) (h : Kept m r s) (a) (x)  : Kept m r (State.aqStore a x s) := by
  unfold State.aqStore
  repeat' (with_reducible first | assumption | exact Covers.trans hm (by decide) | apply State.modAq_kept
                                | apply State.aqLevel_kept | apply State.aqPut_kept | apply State.aqSettle_kept
                                | apply foldl_kept | apply kept_ite | apply kept_ite_snd | apply optKept_some
                                | exact optKept_none | apply optKept_ite | apply optKept_or | apply optKept_getD
                                | exact Kept.refl _ | dsimp only | intro _ | split)

theorem State.aqTake_kept {m : Nat} {r s : State} (hm : Covers m 0x2000000000000100000000000001c000000000000000001624) (h : Kept m r s) (a)  : Kept m r (State.aqTake a s) := by
  unfold State.aqTake
  repeat' (with_reducible first | assumption | exact Covers.trans hm (by decide) | apply State.modAq_kept
                                | apply State.aqStore_kept | apply foldl_kept | apply kept_ite | apply kept_ite_snd
                                | apply optKept_some | exact optKept_none | apply optKept_ite | apply optKept_or
                                | apply optKept_getD | exact Kept.refl _ | dsimp only | intro _ | split)

theorem execAqSample_kept {m : Nat} {s : State} (hm : Covers m 0x2000000000000100000000000001c000000000000000001624) (unit) {t : State} (e : execAqSample unit s = .next t) : Kept m s t := by
  refine done_kept ?_ e
  repeat' (with_reducible first | assumption | exact Covers.trans hm (by decide) | apply State.live_kept
                                | apply State.aqTake_kept | apply foldl_kept | apply kept_ite | apply kept_ite_snd
                                | apply optKept_some | exact optKept_none | apply optKept_ite | exact Kept.refl _
                                | dsimp only | intro _)

theorem execAqMonitorTimeout_kept {m : Nat} {s : State} (hm : Covers m 0x20000000000000000000000000014000000000000000001220) (unit) {t : State} (e : execAqMonitorTimeout unit s = .next t) : Kept m s t := by
  refine done_kept ?_ e
  repeat' (with_reducible first | assumption | exact Covers.trans hm (by decide) | apply State.live_kept
                                | apply State.modAq_kept | apply State.aqAccept_kept | apply foldl_kept | apply kept_ite
                                | apply kept_ite_snd | apply optKept_some | exact optKept_none | apply optKept_ite
                                | exact Kept.refl _ | dsimp only | intro _)

theorem execAqHoldoffEnd_kept {m : Nat} {s : State} (hm : Covers m 0x4000000000000000001000) (unit) {t : State} (e : execAqHoldoffEnd unit s = .next t) : Kept m s t := by
  refine done_kept ?_ e
  repeat' (with_reducible first | assumption | exact Covers.trans hm (by decide) | apply State.live_kept
                                | apply State.aqFill_kept | apply foldl_kept | apply kept_ite | apply kept_ite_snd
                                | apply optKept_some | exact optKept_none | apply optKept_ite | exact Kept.refl _
                                | dsimp only | intro _)

theorem State.aqSiteOver_kept {m : Nat} {r s : State} (hm : Covers m 0x20000000000000000000000000004000000000000000001220) (h : Kept m r s) (site)  : Kept m r (State.aqSiteOver site s) := by
  unfold State.aqSiteOver
  repeat' (with_reducible first | assumption | exact Covers.trans hm (by decide) | apply each_kept | apply when_kept
                                | apply State.aqComplete_kept | apply State.modThr_kept | apply foldl_kept
                                | apply kept_ite | apply kept_ite_snd | apply optKept_some | exact optKept_none
                                | apply optKept_ite | apply optKept_or | apply optKept_getD | exact Kept.refl _
                                | dsimp only | intro _ | split)

theorem State.settleOutputs_kept {m : Nat} {r s : State} (hm : Covers m 0x1000) (h : Kept m r s) (coarse)  : Kept m r (State.settleOutputs coarse s) := by
  unfold State.settleOutputs
  repeat' (with_reducible first | assumption | exact Covers.trans hm (by decide) | apply State.withCap_kept
                                | apply foldl_kept | apply kept_ite | apply kept_ite_snd | apply optKept_some
                                | exact optKept_none | apply optKept_ite | exact Kept.refl _ | dsimp only | intro _
                                | split)

theorem execToPulseEnd_kept {m : Nat} {s : State} (hm : Covers m 0x1000) (out) {t : State} (e : execToPulseEnd out s = .next t) : Kept m s t := by
  refine done_kept ?_ e
  repeat' (with_reducible first | assumption | exact Covers.trans hm (by decide) | apply State.live_kept
                                | apply State.withCap_kept | apply foldl_kept | apply kept_ite | apply kept_ite_snd
                                | apply optKept_some | exact optKept_none | apply optKept_ite | exact Kept.refl _
                                | dsimp only | intro _ | split)

theorem State.giveSamples_kept {m : Nat} {r s : State} (hm : Covers m 0x200) (h : Kept m r s) (n) (a) (hit) : Kept m r (State.giveSamples n a hit s) := by
  unfold State.giveSamples
  repeat' (with_reducible first | assumption | exact Covers.trans hm (by decide) | apply State.modThr_kept
                                | apply foldl_kept | apply kept_ite | apply kept_ite_snd | apply optKept_some
                                | exact optKept_none | apply optKept_ite | apply optKept_or | apply optKept_getD
                                | exact Kept.refl _ | dsimp only | intro _ | split)

theorem State.prune_kept {m : Nat} {r s : State} (hm : Covers m 0x200) (h : Kept m r s) (n)  : Kept m r (State.prune n s) := by
  unfold State.prune
  repeat' (with_reducible first | assumption | exact Covers.trans hm (by decide) | apply State.modThr_kept
                                | apply foldl_kept | apply kept_ite | apply kept_ite_snd | apply optKept_some
                                | exact optKept_none | apply optKept_ite | apply optKept_or | apply optKept_getD
                                | exact Kept.refl _ | dsimp only | intro _ | split)

theorem execCaptureSample_kept {m : Nat} {s : State} (hm : Covers m 0x1200) (unit) {t : State} (e : execCaptureSample unit s = .next t) : Kept m s t := by
  refine done_kept ?_ e
  repeat' (with_reducible first | assumption | exact Covers.trans hm (by decide) | apply State.live_kept
                                | apply State.modAq_kept | apply State.giveSamples_kept | apply State.prune_kept
                                | apply foldl_kept | apply kept_ite | apply kept_ite_snd | apply optKept_some
                                | exact optKept_none | apply optKept_ite | apply optKept_or | apply optKept_getD
                                | exact Kept.refl _ | dsimp only | intro _ | split)

theorem State.leaveBurst_kept {m : Nat} {r s : State} (hm : Covers m 0x700000000000000800000000000002a0) (h : Kept m r s) (n)  : Kept m r (State.leaveBurst n s) := by
  unfold State.leaveBurst
  repeat' (with_reducible first | assumption | exact Covers.trans hm (by decide) | apply State.freeBlockList_kept
                                | apply State.withSeq_kept | apply State.modThr_kept | apply State.setReg_kept
                                | apply State.modGroup_kept | apply each_kept | apply State.unpinAll_kept
                                | apply State.setReg_kept | apply foldl_kept | apply kept_ite | apply kept_ite_snd
                                | apply optKept_some | exact optKept_none | apply optKept_ite | exact Kept.refl _
                                | dsimp only | intro _ | split)

theorem State.disarmAll_kept {m : Nat} {r s : State} (hm : Covers m 0x200) (h : Kept m r s) (n)  : Kept m r (State.disarmAll n s) := by
  unfold State.disarmAll
  repeat' (with_reducible first | assumption | exact Covers.trans hm (by decide) | apply each_kept | apply State.setPad_kept
                                | apply foldl_kept | apply kept_ite | apply kept_ite_snd | apply optKept_some
                                | exact optKept_none | apply optKept_ite | exact Kept.refl _ | dsimp only | intro _)

theorem State.endThread_kept {m : Nat} {r s : State} (hm : Covers m 0x700000000000000800000000000002a0) (h : Kept m r s) (n) (st)  : Kept m r (State.endThread n st s) := by
  unfold State.endThread
  repeat' (with_reducible first | assumption | exact Covers.trans hm (by decide) | apply State.disarmAll_kept
                                | apply State.modThr_kept | apply State.leaveBurst_kept | apply foldl_kept
                                | apply kept_ite | apply kept_ite_snd | apply optKept_some | exact optKept_none
                                | apply optKept_ite | exact Kept.refl _ | dsimp only | intro _ | split)

theorem State.halt_kept {m : Nat} {r s : State} (hm : Covers m 0x2000000000000000007000027e0040160800000200000032a0) (h : Kept m r s) (n) (reason) (code)  : Kept m r (State.halt n reason code s) := by
  unfold State.halt
  repeat' (with_reducible first | assumption | exact Covers.trans hm (by decide) | apply State.siteQuiet_kept
                                | apply State.endThread_kept | apply State.setReg_kept | apply State.aqSiteOver_kept
                                | apply State.event_kept)

theorem State.beginItem_kept {m : Nat} {r s : State} (hm : Covers m 0x200) (h : Kept m r s) (n) (it)  : Kept m r (State.beginItem n it s) := by
  unfold State.beginItem
  repeat' (with_reducible first | assumption | exact Covers.trans hm (by decide) | apply State.modThr_kept
                                | apply each_kept | apply State.setPad_kept | apply foldl_kept | apply kept_ite
                                | apply kept_ite_snd | apply optKept_some | exact optKept_none | apply optKept_ite
                                | exact Kept.refl _ | dsimp only | intro _ | split)

theorem State.dropJump_kept {m : Nat} {r s : State} (hm : Covers m 0x4000000000200) (h : Kept m r s) (n) (i)  : Kept m r (State.dropJump n i s) := by
  unfold State.dropJump
  repeat' (with_reducible first | assumption | exact Covers.trans hm (by decide) | apply State.setPad_kept
                                | apply State.putBit_kept)

theorem State.itemOver_kept {m : Nat} {r s : State} (hm : Covers m 0x4000000000200) (h : Kept m r s) (n) (it)  : Kept m r (State.itemOver n it s) := by
  unfold State.itemOver
  repeat' (with_reducible first | assumption | exact Covers.trans hm (by decide) | apply State.live_kept
                                | apply State.modThr_kept | apply each_kept | apply State.dropJump_kept
                                | apply State.setPad_kept | apply foldl_kept | apply kept_ite | apply kept_ite_snd
                                | apply optKept_some | exact optKept_none | apply optKept_ite | exact Kept.refl _
                                | dsimp only | intro _ | split)

theorem State.dropPass_kept {m : Nat} {r s : State} (hm : Covers m 0x200) (h : Kept m r s) (n) (p)  : Kept m r (State.dropPass n p s) := by
  unfold State.dropPass
  repeat' (with_reducible first | assumption | exact Covers.trans hm (by decide) | apply State.modThr_kept
                                | apply foldl_kept | apply kept_ite | apply kept_ite_snd | apply optKept_some
                                | exact optKept_none | apply optKept_ite | apply optKept_or | apply optKept_getD
                                | exact Kept.refl _ | dsimp only | intro _ | split)

theorem State.restore_kept {m : Nat} {r s : State} (hm : Covers m 0x100000000200) (h : Kept m r s) (n) (i)  : Kept m r (State.restore n i s) := by
  unfold State.restore
  repeat' (with_reducible first | assumption | exact Covers.trans hm (by decide) | apply each_kept
                                | apply State.setGr_kept | apply State.modThr_kept | apply State.slide_kept
                                | apply foldl_kept | apply kept_ite | apply kept_ite_snd | apply optKept_some
                                | exact optKept_none | apply optKept_ite | exact Kept.refl _ | dsimp only | intro _
                                | split)

theorem State.placeLanding_kept {m : Nat} {r s : State} (hm : Covers m 0x4000000000000220) (h : Kept m r s) (n) (i) : Kept m r (State.placeLanding n i s) := by
  unfold State.placeLanding
  repeat' (with_reducible first | assumption | exact Covers.trans hm (by decide) | apply State.setPad_kept
                                | apply State.modThr_kept | apply State.armPad_kept | apply foldl_kept
                                | apply kept_ite | apply kept_ite_snd | apply optKept_some | exact optKept_none
                                | apply optKept_ite | exact Kept.refl _ | dsimp only | intro _ | split)

theorem State.land_kept {m : Nat} {r s : State} (hm : Covers m 0x200) (h : Kept m r s) (n) (i)  : Kept m r (State.land n i s) := by
  unfold State.land
  repeat' (with_reducible first | assumption | exact Covers.trans hm (by decide) | apply State.setPad_kept
                                | apply State.spanForget_kept | apply State.modThr_kept | apply foldl_kept
                                | apply kept_ite | apply kept_ite_snd | apply optKept_some | exact optKept_none
                                | apply optKept_ite | apply optKept_or | apply optKept_getD | exact Kept.refl _
                                | dsimp only | intro _ | split)

theorem State.recordShadow_kept {m : Nat} {r s : State} (hm : Covers m 0x4000000010000) (h : Kept m r s) (n)  : Kept m r (State.recordShadow n s) := by
  unfold State.recordShadow
  repeat' (with_reducible first | assumption | exact Covers.trans hm (by decide) | apply State.putField_kept
                                | apply State.draw_kept | apply State.putField_kept | apply foldl_kept
                                | apply kept_ite | apply kept_ite_snd | apply optKept_some | exact optKept_none
                                | apply optKept_ite | exact Kept.refl _ | dsimp only | intro _ | split)

theorem State.countBranch_kept {m : Nat} {r s : State} (hm : Covers m 0x4000000010000) (h : Kept m r s) (n) (imm)  : Kept m r (State.countBranch n imm s) := by
  unfold State.countBranch
  repeat' (with_reducible first | assumption | exact Covers.trans hm (by decide) | apply State.countUp_kept
                                | apply State.recordShadow_kept | apply foldl_kept | apply kept_ite | apply kept_ite_snd
                                | apply optKept_some | exact optKept_none | apply optKept_ite | exact Kept.refl _
                                | dsimp only | intro _)

theorem State.clearSlot_kept {m : Nat} {r s : State} (hm : Covers m 0x200) (h : Kept m r s) (n) (k') : Kept m r (State.clearSlot n k' s) := by
  unfold State.clearSlot
  repeat' (with_reducible first | assumption | exact Covers.trans hm (by decide) | apply State.setSlot_kept
                                | apply foldl_kept | apply kept_ite | apply kept_ite_snd | apply optKept_some
                                | exact optKept_none | apply optKept_ite | apply optKept_or | apply optKept_getD
                                | exact Kept.refl _ | dsimp only | intro _ | split)

theorem State.jumpAtEnd_kept {m : Nat} {r s : State} (hm : Covers m 0x4004100000010220) (h : Kept m r s) (n) (i) (imm)  : Kept m r (State.jumpAtEnd n i imm s) := by
  unfold State.jumpAtEnd
  repeat' (with_reducible first | assumption | exact Covers.trans hm (by decide) | apply when_kept
                                | apply State.clearSlot_kept | apply State.disarmAll_kept | apply State.restore_kept
                                | apply State.placeLanding_kept | apply State.modThr_kept
                                | apply State.countBranch_kept | apply State.land_kept | apply foldl_kept
                                | apply kept_ite | apply kept_ite_snd | apply optKept_some | exact optKept_none
                                | apply optKept_ite | exact Kept.refl _ | dsimp only | intro _ | split)

theorem State.effectDue_kept {m : Nat} {r s : State} (hm : Covers m 0x4000000010200) (h : Kept m r s) (n)  : Kept m r (State.effectDue n s) := by
  unfold State.effectDue
  repeat' (with_reducible first | assumption | exact Covers.trans hm (by decide) | apply State.land_kept
                                | apply State.countBranch_kept | apply foldl_kept | apply kept_ite | apply kept_ite_snd
                                | apply optKept_some | exact optKept_none | apply optKept_ite | exact Kept.refl _
                                | dsimp only | intro _ | split)

theorem State.setPass_kept {m : Nat} {r s : State} (hm : Covers m 0x200) (h : Kept m r s) (n) (p)  : Kept m r (State.setPass n p s) := by
  unfold State.setPass
  repeat' (with_reducible first | assumption | exact Covers.trans hm (by decide) | apply State.modThr_kept)

theorem State.following_kept {m : Nat} {r s : State} (hm : Covers m 0x200) (h : Kept m r s) (n) (it) (p)  : Kept m r (State.following n it p s).2 := by
  unfold State.following
  repeat' (with_reducible first | assumption | exact Covers.trans hm (by decide) | apply State.planPass_kept
                                | apply foldl_kept | apply kept_ite | apply kept_ite_snd | apply optKept_some
                                | exact optKept_none | apply optKept_ite | exact Kept.refl _ | dsimp only | intro _
                                | split)

theorem State.putAtEnd_kept {m : Nat} {r s : State} (hm : Covers m 0x200) (h : Kept m r s) (n) (i) (p)  : Kept m r (State.putAtEnd n i p s) := by
  unfold State.putAtEnd
  repeat' (with_reducible first | assumption | exact Covers.trans hm (by decide) | apply State.setPass_kept
                                | apply foldl_kept | apply kept_ite | apply kept_ite_snd | apply optKept_some
                                | exact optKept_none | apply optKept_ite | exact Kept.refl _ | dsimp only | intro _ | split)

theorem State.requestJump_kept {m : Nat} {r s : State} (hm : Covers m 0x4000000000200) (h : Kept m r s) (n) (i)  : Kept m r (State.requestJump n i s) := by
  unfold State.requestJump
  repeat' (with_reducible first | assumption | exact Covers.trans hm (by decide) | apply State.dropJump_kept
                                | apply State.following_kept | apply State.putAtEnd_kept | apply State.putBit_kept
                                | apply State.putBit_kept | apply foldl_kept | apply kept_ite | apply kept_ite_snd
                                | apply optKept_some | exact optKept_none | apply optKept_ite | apply optKept_or
                                | apply optKept_getD | exact Kept.refl _ | dsimp only | intro _ | split)

theorem State.requestStop_kept {m : Nat} {r s : State} (hm : Covers m 0x200) (h : Kept m r s) (n) (e') (r') : Kept m r (State.requestStop n e' r' s) := by
  unfold State.requestStop
  repeat' (with_reducible first | assumption | exact Covers.trans hm (by decide) | apply State.modThr_kept
                                | apply State.setPass_kept | apply foldl_kept | apply kept_ite | apply kept_ite_snd
                                | apply optKept_some | exact optKept_none | apply optKept_ite | apply optKept_or
                                | apply optKept_getD | exact Kept.refl _ | dsimp only | intro _ | split)

theorem State.effects_kept {m : Nat} {r s : State} (hm : Covers m 0x4000000010200) (h : Kept m r s) (n)  : Kept m r (State.effects n s) := by
  unfold State.effects
  repeat' (with_reducible first | assumption | exact Covers.trans hm (by decide) | apply State.effectDue_kept
                                | apply State.modThr_kept | apply each_kept | apply State.requestStop_kept
                                | apply State.requestJump_kept | apply foldl_kept | apply kept_ite | apply kept_ite_snd
                                | apply optKept_some | exact optKept_none | apply optKept_ite | exact Kept.refl _
                                | dsimp only | intro _)

theorem State.stopIssue_kept {m : Nat} {r s : State} (hm : Covers m 0x220) (h : Kept m r s) (n) (f) : Kept m r (State.stopIssue n f s) := by
  unfold State.stopIssue
  repeat' (with_reducible first | assumption | exact Covers.trans hm (by decide) | apply State.modThr_kept
                                | apply State.raiseAt_kept | apply foldl_kept | apply kept_ite | apply kept_ite_snd
                                | apply optKept_some | exact optKept_none | apply optKept_ite | apply optKept_or
                                | apply optKept_getD | exact Kept.refl _ | dsimp only | intro _ | split)

theorem State.issueFault_kept {m : Nat} {r s : State} (hm : Covers m 0x220) (h : Kept m r s) (n) (sub) (code) (detail) (vn)  : Kept m r (State.issueFault n sub code detail vn s) := by
  unfold State.issueFault
  repeat' (with_reducible first | assumption | exact Covers.trans hm (by decide) | apply State.stopIssue_kept
                                | apply foldl_kept | apply kept_ite | apply kept_ite_snd | apply optKept_some
                                | exact optKept_none | apply optKept_ite | apply optKept_or | apply optKept_getD
                                | exact Kept.refl _ | dsimp only | intro _ | split)

theorem State.endPass_kept {m : Nat} {r s : State} (hm : Covers m 0x2000000000000000007000027e0040160840041200000132a0) (h : Kept m r s) (n) (it) (p)  : Kept m r (State.endPass n it p s) := by
  unfold State.endPass
  repeat' (with_reducible first | assumption | exact Covers.trans hm (by decide) | apply State.halt_kept
                                | apply State.jumpAtEnd_kept | apply State.itemOver_kept | apply State.dropPass_kept
                                | apply State.planPass_kept | apply foldl_kept | apply kept_ite | apply kept_ite_snd
                                | apply optKept_some | exact optKept_none | apply optKept_ite | exact Kept.refl _
                                | dsimp only | intro _ | split)

theorem State.arriveSpan_kept {m : Nat} {r s : State} (hm : Covers m 0x200) (h : Kept m r s) (n) (it)  : Kept m r (State.arriveSpan n it s) := by
  unfold State.arriveSpan
  repeat' (with_reducible first | assumption | exact Covers.trans hm (by decide) | apply State.beginItem_kept
                                | apply State.modThr_kept | apply State.spanPut_kept | apply foldl_kept
                                | apply kept_ite | apply kept_ite_snd | apply optKept_some | exact optKept_none
                                | apply optKept_ite | exact Kept.refl _ | dsimp only | intro _ | split)

theorem State.cross_kept {m : Nat} {r s : State} (hm : Covers m 0x2000000000000000007000027e0040160840041200000132a0) (h : Kept m r s) (n) (join) : OptKept m r (State.cross n join s) := by
  unfold State.cross
  repeat' (with_reducible first | assumption | exact Covers.trans hm (by decide) | apply State.recordShadow_kept
                                | apply State.halt_kept | apply State.issueFault_kept | apply State.itemOver_kept
                                | apply State.beginItem_kept | apply State.modThr_kept | apply State.spanForget_kept
                                | apply State.event_kept | apply State.jumpAtEnd_kept | apply State.arriveSpan_kept
                                | apply State.planPass_kept | apply State.endPass_kept | apply foldl_kept
                                | apply kept_ite | apply kept_ite_snd | apply optKept_some | exact optKept_none
                                | apply optKept_ite | apply optKept_or | apply optKept_getD | exact Kept.refl _
                                | dsimp only | intro _ | split)

theorem State.leaveQuiet_kept {m : Nat} {r s : State} (hm : Covers m 0x100000200) (h : Kept m r s) (n)  : Kept m r (State.leaveQuiet n s) := by
  unfold State.leaveQuiet
  repeat' (with_reducible first | assumption | exact Covers.trans hm (by decide) | apply each_kept
                                | apply State.modPip_kept | apply State.putBit_kept | apply State.putBit_kept
                                | apply foldl_kept | apply kept_ite | apply kept_ite_snd | apply optKept_some
                                | exact optKept_none | apply optKept_ite | apply optKept_or | apply optKept_getD
                                | exact Kept.refl _ | dsimp only | intro _ | split)

theorem State.emit_kept {m : Nat} {r s : State} (hm : Covers m 0xa00000100000200) (h : Kept m r s) (n) (p) (it) (counts) (row)  : Kept m r (State.emit n p it counts row s) := by
  unfold State.emit
  repeat' (with_reducible first | assumption | exact Covers.trans hm (by decide) | apply when_kept
                                | apply State.leaveQuiet_kept | apply State.modPip_kept | apply State.modThr_kept
                                | apply State.putBit_kept | apply State.setReg_kept | apply State.putField_kept
                                | apply State.placeMarker_kept | apply State.setReg_kept | apply State.putField_kept
                                | apply State.putBit_kept | apply foldl_kept | apply kept_ite | apply kept_ite_snd
                                | apply optKept_some | exact optKept_none | apply optKept_ite | exact Kept.refl _
                                | dsimp only | intro _ | split)

theorem State.underrun_kept {m : Nat} {r s : State} (hm : Covers m 0x20000000000000000000000000000000010000000000000220) (h : Kept m r s) (n) (it) (p) : Kept m r (State.underrun n it p s) := by
  unfold State.underrun
  repeat' (with_reducible first | assumption | exact Covers.trans hm (by decide) | apply State.modGroup_kept
                                | apply State.event_kept | apply State.modThr_kept | apply State.countUp_kept
                                | apply State.issueFault_kept | apply State.countUp_kept | apply foldl_kept
                                | apply kept_ite | apply kept_ite_snd | apply optKept_some | exact optKept_none
                                | apply optKept_ite | apply optKept_or | apply optKept_getD | exact Kept.refl _
                                | dsimp only | intro _ | split)

theorem State.advanceRow_kept {m : Nat} {r s : State} (hm : Covers m 0x4000000000200) (h : Kept m r s) (n) (it) (p) (row)  : Kept m r (State.advanceRow n it p row s) := by
  unfold State.advanceRow
  repeat' (with_reducible first | assumption | exact Covers.trans hm (by decide) | apply State.setPass_kept
                                | apply State.itemOver_kept | apply State.dropPass_kept | apply foldl_kept
                                | apply kept_ite | apply kept_ite_snd | apply optKept_some | exact optKept_none
                                | apply optKept_ite | exact Kept.refl _ | dsimp only | intro _ | split)

theorem State.attachStop_kept {m : Nat} {r s : State} (hm : Covers m 0x200) (h : Kept m r s) (n) (it) (p) : Kept m r (State.attachStop n it p s).2 := by
  unfold State.attachStop
  repeat' (with_reducible first | assumption | exact Covers.trans hm (by decide) | apply State.modThr_kept
                                | apply State.setPass_kept | apply foldl_kept | apply kept_ite | apply kept_ite_snd
                                | apply optKept_some | exact optKept_none | apply optKept_ite | exact Kept.refl _
                                | dsimp only | intro _ | split)

theorem State.issueVector_kept {m : Nat} {r s : State} (hm : Covers m 0x28000000000000000000000000000000010a04000100000220) (h : Kept m r s) (n) (it) (p)  : Kept m r (State.issueVector n it p s) := by
  unfold State.issueVector
  repeat' (with_reducible first | assumption | exact Covers.trans hm (by decide) | apply State.emit_kept
                                | apply State.issueFault_kept | apply State.attachStop_kept
                                | apply State.underrun_kept | apply State.setPass_kept | apply when_kept
                                | apply State.useInjection_kept | apply State.putBit_kept
                                | apply State.stopIssue_kept | apply State.advanceRow_kept | apply State.putBit_kept
                                | apply foldl_kept | apply kept_ite | apply kept_ite_snd | apply optKept_some
                                | exact optKept_none | apply optKept_ite | apply optKept_or | apply optKept_getD
                                | exact Kept.refl _ | dsimp only | intro _ | split)

theorem State.advance_kept {m : Nat} {r : State} (hm : Covers m 0x2800000000000000007000027e004016094a041201000132a0) (n) (join) (k : Nat) : ∀ {s : State}, Kept m r s → Kept m r (State.advance n join k s) := by
  induction k with
  | zero => intro s h; exact h
  | succ k ih =>
    intro s h
    unfold State.advance
    dsimp only
    refine kept_ite (fun _ => h) (fun _ => ?_)
    split
    · next e => exact ih (State.cross_kept (hm.trans (by decide)) h n join _ e)
    · repeat' (with_reducible first | assumption | exact Covers.trans hm (by decide) | apply ih
                                    | apply State.issueVector_kept | apply foldl_kept | apply kept_ite | exact Kept.refl _
                                    | dsimp only | intro _ | split)

theorem State.noteSkip_kept {m : Nat} {r s : State} (hm : Covers m 0x200) (h : Kept m r s) (n)  : Kept m r (State.noteSkip n s) := by
  unfold State.noteSkip
  repeat' (with_reducible first | assumption | exact Covers.trans hm (by decide) | apply State.modGroup_kept
                                | apply foldl_kept | apply kept_ite | apply kept_ite_snd | apply optKept_some
                                | exact optKept_none | apply optKept_ite | exact Kept.refl _ | dsimp only | intro _
                                | split)

theorem State.splitOff_kept {m : Nat} {r s : State} (hm : Covers m 0x4000000000220) (h : Kept m r s) (g) (m') : Kept m r (State.splitOff g m' s) := by
  unfold State.splitOff
  repeat' (with_reducible first | assumption | exact Covers.trans hm (by decide) | apply State.modGroup_kept
                                | apply State.putBit_kept | apply State.modThr_kept | apply State.issueFault_kept
                                | apply State.putBit_kept | apply foldl_kept | apply kept_ite | apply kept_ite_snd
                                | apply optKept_some | exact optKept_none | apply optKept_ite | apply optKept_or
                                | apply optKept_getD | exact Kept.refl _ | dsimp only | intro _ | split)

theorem State.lockstep_kept {m : Nat} {r s : State} (hm : Covers m 0x4000000000220) (h : Kept m r s) (g) : Kept m r (State.lockstep g s) := by
  unfold State.lockstep
  repeat' (with_reducible first | assumption | exact Covers.trans hm (by decide) | apply each_kept
                                | apply State.splitOff_kept | apply foldl_kept | apply kept_ite | apply kept_ite_snd
                                | apply optKept_some | exact optKept_none | apply optKept_ite | apply optKept_or
                                | apply optKept_getD | exact Kept.refl _ | dsimp only | intro _ | split)

theorem State.compareGroup_kept {m : Nat} {r s : State} (hm : Covers m 0x4000000000220) (h : Kept m r s) (g) : Kept m r (State.compareGroup g s) := by
  unfold State.compareGroup
  repeat' (with_reducible first | assumption | exact Covers.trans hm (by decide) | apply State.lockstep_kept
                                | apply foldl_kept | apply kept_ite | apply kept_ite_snd | apply optKept_some
                                | exact optKept_none | apply optKept_ite | exact Kept.refl _ | dsimp only | intro _
                                | split)

theorem State.advanceAll_kept {m : Nat} {r : State} (hm : Covers m 0x2800000000000000007000027e004016094a041201000132a0) (n) (k : Nat) : ∀ {s : State}, Kept m r s → Kept m r (State.advanceAll n k s) := by
  induction k with
  | zero => intro s h; exact h
  | succ k ih =>
    intro s h
    unfold State.advanceAll
    exact ih (State.advance_kept (hm.trans (by decide)) n _ 1 (State.noteSkip_kept (hm.trans (by decide)) h n))

theorem State.issueNow_kept {m : Nat} {r s : State} (hm : Covers m 0x2800000000000000007000027e004016094a041201000132a0) (h : Kept m r s) (n)  : Kept m r (State.issueNow n s) := by
  unfold State.issueNow
  repeat' (with_reducible first | assumption | exact Covers.trans hm (by decide) | apply State.effects_kept
                                | apply State.modThr_kept | apply State.advanceAll_kept
                                | apply State.compareGroup_kept | apply foldl_kept | apply kept_ite
                                | apply kept_ite_snd | apply optKept_some | exact optKept_none | apply optKept_ite
                                | exact Kept.refl _ | dsimp only | intro _ | split)

theorem State.crossAll_kept {m : Nat} {r : State} (hm : Covers m 0x2000000000000000007000027e0040160840041200000132a0) (n) (k : Nat) : ∀ {s : State}, Kept m r s → Kept m r (State.crossAll n k s) := by
  induction k with
  | zero => intro s h; exact h
  | succ k ih =>
    intro s h
    unfold State.crossAll
    have c := State.cross_kept (hm.trans (by decide)) (State.noteSkip_kept (hm.trans (by decide)) h n) n
      (fun s it => some (s.joinMet n it))
    split
    · exact h
    · split
      · rename_i t e
        rw [e] at c
        exact ih (c t rfl)
      · exact h

theorem State.crossThreads_kept {m : Nat} {r s : State} (hm : Covers m 0x2000000000000000007000027e0040160840041200000132a0) (h : Kept m r s)  : Kept m r (State.crossThreads s) := by
  unfold State.crossThreads
  repeat' (with_reducible first | assumption | exact Covers.trans hm (by decide) | apply each_kept
                                | apply State.effects_kept | apply State.crossAll_kept | apply foldl_kept
                                | apply kept_ite | apply kept_ite_snd | apply optKept_some | exact optKept_none
                                | apply optKept_ite | apply optKept_or | apply optKept_getD | exact Kept.refl _
                                | dsimp only | intro _ | split)

theorem execVectorIssue_kept {m : Nat} {s : State} (hm : Covers m 0x2800000000000000007000027e004016094a041201000132a0) (thr) {t : State} (e : execVectorIssue thr s = .next t) : Kept m s t := by
  refine done_kept ?_ e
  repeat' (with_reducible first | assumption | exact Covers.trans hm (by decide) | apply State.live_kept
                                | apply State.issueNow_kept | apply foldl_kept | apply kept_ite | apply kept_ite_snd
                                | apply optKept_some | exact optKept_none | apply optKept_ite | apply optKept_or
                                | apply optKept_getD | exact Kept.refl _ | dsimp only | intro _ | split)

theorem execTsetEmptyDetect_kept {m : Nat} {s : State} (hm : Covers m 0x220) (thr) {t : State} (e : execTsetEmptyDetect thr s = .next t) : Kept m s t := by
  refine done_kept ?_ e
  repeat' (with_reducible first | assumption | exact Covers.trans hm (by decide) | apply State.live_kept
                                | apply State.modThr_kept | apply State.raiseNow_kept | apply foldl_kept
                                | apply kept_ite | apply kept_ite_snd | apply optKept_some | exact optKept_none
                                | apply optKept_ite | apply optKept_or | apply optKept_getD | exact Kept.refl _
                                | dsimp only | intro _ | split)

theorem State.leaveStart_kept {m : Nat} {r s : State} (hm : Covers m 0x40) (h : Kept m r s) (n) (how)  : Kept m r (State.leaveStart n how s) := by
  unfold State.leaveStart
  repeat' (with_reducible first | assumption | exact Covers.trans hm (by decide) | apply State.modDeferred_kept)

theorem State.abortSite_kept {m : Nat} {r s : State} (hm : Covers m 0x2000000000000000007000027e0040160800040200000032e0) (h : Kept m r s) (n) (b1) (reason)  : Kept m r (State.abortSite n b1 reason s) := by
  unfold State.abortSite
  repeat' (with_reducible first | assumption | exact Covers.trans hm (by decide) | apply each_kept
                                | apply State.discardRows_kept | apply State.modThr_kept | apply State.withSeq_kept
                                | apply State.siteQuiet_kept | apply State.endThread_kept | apply State.setReg_kept
                                | apply when_kept | apply State.leaveStart_kept | apply State.event_kept
                                | apply State.aqSiteOver_kept | apply State.compareGroup_kept
                                | apply State.setReg_kept | apply foldl_kept | apply kept_ite | apply kept_ite_snd
                                | apply optKept_some | exact optKept_none | apply optKept_ite | exact Kept.refl _
                                | dsimp only | intro _ | split)

theorem State.takeAbort_kept {m : Nat} {r s : State} (hm : Covers m 0x2000000000000000007000027e0040160800040200000032e0) (h : Kept m r s) (n) : Kept m r (State.takeAbort n s) := by
  unfold State.takeAbort
  repeat' (with_reducible first | assumption | exact Covers.trans hm (by decide) | apply State.abortSite_kept
                                | apply foldl_kept | apply kept_ite | apply kept_ite_snd | apply optKept_some
                                | exact optKept_none | apply optKept_ite | exact Kept.refl _ | dsimp only | intro _
                                | split)

theorem State.takeAborts_kept {m : Nat} {r s : State} (hm : Covers m 0x2000000000000000007000027e0040160800040200000032e0) (h : Kept m r s) (l) : Kept m r (State.takeAborts l s) := by
  unfold State.takeAborts
  repeat' (with_reducible first | assumption | exact Covers.trans hm (by decide) | apply each_kept
                                | apply State.takeAbort_kept | apply foldl_kept | apply kept_ite | apply kept_ite_snd
                                | apply optKept_some | exact optKept_none | apply optKept_ite | apply optKept_or
                                | apply optKept_getD | exact Kept.refl _ | dsimp only | intro _ | split)

theorem execSiteAbort_kept {m : Nat} {s : State} (hm : Covers m 0x2000000000000000007000027e0040160800040200000032e0) (site) {t : State} (e : execSiteAbort site s = .next t) : Kept m s t := by
  refine done_kept ?_ e
  repeat' (with_reducible first | assumption | exact Covers.trans hm (by decide) | apply State.live_kept
                                | apply State.takeAbort_kept | apply foldl_kept | apply kept_ite
                                | apply kept_ite_snd | apply optKept_some | exact optKept_none | apply optKept_ite
                                | exact Kept.refl _ | dsimp only | intro _ | split)

theorem State.unresolved_kept {m : Nat} {r s : State} (hm : Covers m 0x20000000000000000000000000000000000000000000000220) (h : Kept m r s) (ch)  : Kept m r (State.unresolved ch s) := by
  unfold State.unresolved
  repeat' (with_reducible first | assumption | exact Covers.trans hm (by decide) | apply when_kept | apply State.event_kept
                                | apply State.modPip_kept | apply foldl_kept | apply kept_ite | apply kept_ite_snd
                                | apply optKept_some | exact optKept_none | apply optKept_ite | exact Kept.refl _
                                | dsimp only | intro _)

theorem State.compareHappen_kept {m : Nat} {r s : State} (hm : Covers m 0x200) (h : Kept m r s) (n) (no) (idx) (c) (last) (pass) (first) (all) : Kept m r (State.compareHappen n no idx c last pass first all s) := by
  unfold State.compareHappen
  repeat' (with_reducible first | assumption | exact Covers.trans hm (by decide) | apply each_kept
                                | apply State.happen_kept | apply when_kept | apply foldl_kept | apply kept_ite
                                | apply kept_ite_snd | apply optKept_some | exact optKept_none | apply optKept_ite
                                | exact Kept.refl _ | dsimp only | intro _ | split)

theorem State.takeResult_kept {m : Nat} {r s : State} (hm : Covers m 0x20000000000000000000000000000000000000000000000220) (h : Kept m r s) (c) (b) (rest) (read) (beat)  : Kept m r (State.takeResult c b rest read beat s) := by
  unfold State.takeResult
  repeat' (with_reducible first | assumption | exact Covers.trans hm (by decide) | apply State.unresolved_kept
                                | apply State.modPip_kept | apply State.modThr_kept | apply State.compareHappen_kept
                                | apply foldl_kept | apply kept_ite | apply kept_ite_snd | apply optKept_some
                                | exact optKept_none | apply optKept_ite | apply optKept_or | apply optKept_getD
                                | exact Kept.refl _ | dsimp only | intro _ | split)

theorem execCompareResult_kept {m : Nat} {s : State} (hm : Covers m 0x20000000000000000000000000000000000000000000000220) (ch) (cph) (cpl) (ofs) {t : State} (e : execCompareResult ch cph cpl ofs s = .next t) : Kept m s t := by
  refine done_kept ?_ e
  repeat' (with_reducible first | assumption | exact Covers.trans hm (by decide) | apply State.live_kept
                                | apply State.takeResult_kept | apply foldl_kept | apply kept_ite | apply kept_ite_snd
                                | apply optKept_some | exact optKept_none | apply optKept_ite | exact Kept.refl _
                                | dsimp only | intro _ | split)

theorem State.setSlotNow_kept {m : Nat} {r s : State} (hm : Covers m 0x2000000000000100000000000001c000000000000000001620) (h : Kept m r s) (n) (k') : Kept m r (State.setSlotNow n k' s) := by
  unfold State.setSlotNow
  repeat' (with_reducible first | assumption | exact Covers.trans hm (by decide) | apply State.modThr_kept
                                | apply State.setSlot_kept | apply State.triggerAll_kept | apply foldl_kept
                                | apply kept_ite | apply kept_ite_snd | apply optKept_some | exact optKept_none
                                | apply optKept_ite | apply optKept_or | apply optKept_getD | exact Kept.refl _
                                | dsimp only | intro _ | split)

theorem execConditionSlotSet_kept {m : Nat} {s : State} (hm : Covers m 0x2000000000000100000000000001c000000000000000001620) (thr) (slot) {t : State} (e : execConditionSlotSet thr slot s = .next t) : Kept m s t := by
  refine done_kept ?_ e
  repeat' (with_reducible first | assumption | exact Covers.trans hm (by decide) | apply State.live_kept
                                | apply State.setSlotNow_kept | apply foldl_kept | apply kept_ite | apply kept_ite_snd
                                | apply optKept_some | exact optKept_none | apply optKept_ite | exact Kept.refl _
                                | dsimp only | intro _)

theorem State.takePad_kept {m : Nat} {r s : State} (hm : Covers m 0x4000100000000220) (h : Kept m r s) (n) (i) (no)  : Kept m r (State.takePad n i no s) := by
  unfold State.takePad
  repeat' (with_reducible first | assumption | exact Covers.trans hm (by decide) | apply when_kept
                                | apply State.clearSlot_kept | apply State.disarmAll_kept | apply State.restore_kept
                                | apply State.placeLanding_kept | apply State.modThr_kept | apply foldl_kept
                                | apply kept_ite | apply kept_ite_snd | apply optKept_some | exact optKept_none
                                | apply optKept_ite | apply optKept_or | apply optKept_getD | exact Kept.refl _
                                | dsimp only | intro _ | split)

theorem State.decideBeat_kept {m : Nat} {r s : State} (hm : Covers m 0x4000100000000220) (h : Kept m r s) (n)  : Kept m r (State.decideBeat n s) := by
  unfold State.decideBeat
  repeat' (with_reducible first | assumption | exact Covers.trans hm (by decide) | apply State.modThr_kept
                                | apply State.takePad_kept | apply each_kept | apply when_kept
                                | apply State.clearSlot_kept | apply foldl_kept | apply kept_ite | apply kept_ite_snd
                                | apply optKept_some | exact optKept_none | apply optKept_ite | apply optKept_or
                                | apply optKept_getD | exact Kept.refl _ | dsimp only | intro _ | split)

theorem execBranchDecision_kept {m : Nat} {s : State} (hm : Covers m 0x4000100000000220) (thr) {t : State} (e : execBranchDecision thr s = .next t) : Kept m s t := by
  refine done_kept ?_ e
  repeat' (with_reducible first | assumption | exact Covers.trans hm (by decide) | apply State.live_kept
                                | apply State.decideBeat_kept | apply foldl_kept | apply kept_ite | apply kept_ite_snd
                                | apply optKept_some | exact optKept_none | apply optKept_ite | exact Kept.refl _
                                | dsimp only | intro _)

theorem execPadExpire_kept {m : Nat} {s : State} (hm : Covers m 0x4000100000000220) (thr) (pad) {t : State} (e : execPadExpire thr pad s = .next t) : Kept m s t := by
  refine done_kept ?_ e
  repeat' (with_reducible first | assumption | exact Covers.trans hm (by decide) | apply State.live_kept
                                | apply State.decideBeat_kept | apply State.setPad_kept
                                | apply foldl_kept | apply kept_ite | apply kept_ite_snd | apply optKept_some
                                | exact optKept_none | apply optKept_ite | exact Kept.refl _ | dsimp only | intro _
                                | split)

theorem execBranchEffect_kept {m : Nat} {s : State} (hm : Covers m 0x4000000010200) (thr) {t : State} (e : execBranchEffect thr s = .next t) : Kept m s t := by
  refine done_kept ?_ e
  repeat' (with_reducible first | assumption | exact Covers.trans hm (by decide) | apply State.live_kept
                                | apply State.effects_kept | apply foldl_kept | apply kept_ite | apply kept_ite_snd
                                | apply optKept_some | exact optKept_none | apply optKept_ite | exact Kept.refl _
                                | dsimp only | intro _)

theorem State.expireItem_kept {m : Nat} {r s : State} (hm : Covers m 0x4000100000000220) (h : Kept m r s) (n) (k') : Kept m r (State.expireItem n k' s) := by
  unfold State.expireItem
  repeat' (with_reducible first | assumption | exact Covers.trans hm (by decide) | apply State.decideBeat_kept
                                | apply State.takePad_kept | apply foldl_kept | apply kept_ite | apply kept_ite_snd
                                | apply optKept_some | exact optKept_none | apply optKept_ite | apply optKept_or
                                | apply optKept_getD | exact Kept.refl _ | dsimp only | intro _ | split)

theorem execWaitTimeout_kept {m : Nat} {s : State} (hm : Covers m 0x4000100000000220) (thr) {t : State} (e : execWaitTimeout thr s = .next t) : Kept m s t := by
  refine done_kept ?_ e
  repeat' (with_reducible first | assumption | exact Covers.trans hm (by decide) | apply State.live_kept
                                | apply State.expireItem_kept | apply foldl_kept | apply kept_ite
                                | apply kept_ite_snd | apply optKept_some | exact optKept_none | apply optKept_ite
                                | exact Kept.refl _ | dsimp only | intro _ | split)

theorem State.release_kept {m : Nat} {r s : State} (hm : Covers m 0x4000000000200) (h : Kept m r s) (n) (at_)  : Kept m r (State.release n at_ s) := by
  unfold State.release
  repeat' (with_reducible first | assumption | exact Covers.trans hm (by decide) | apply each_kept
                                | apply State.modPip_kept | apply State.itemOver_kept | apply State.modThr_kept
                                | apply foldl_kept | apply kept_ite | apply kept_ite_snd | apply optKept_some
                                | exact optKept_none | apply optKept_ite | apply optKept_or | apply optKept_getD
                                | exact Kept.refl _ | dsimp only | intro _ | split)

theorem State.releaseJoin_kept {m : Nat} {r s : State} (hm : Covers m 0x4000000000200) (h : Kept m r s) (g)  : Kept m r (State.releaseJoin g s) := by
  unfold State.releaseJoin
  repeat' (with_reducible first | assumption | exact Covers.trans hm (by decide) | apply each_kept
                                | apply State.release_kept | apply State.putBit_kept | apply State.alignItems_kept
                                | apply State.rejoin_kept | apply State.modGroup_kept | apply State.putBit_kept
                                | apply foldl_kept | apply kept_ite | apply kept_ite_snd | apply optKept_some
                                | exact optKept_none | apply optKept_ite | apply optKept_or | apply optKept_getD
                                | exact Kept.refl _ | dsimp only | intro _ | split)

theorem execJoinRelease_kept {m : Nat} {s : State} (hm : Covers m 0x4000000000200) (group) {t : State} (e : execJoinRelease group s = .next t) : Kept m s t := by
  refine done_kept ?_ e
  repeat' (with_reducible first | assumption | exact Covers.trans hm (by decide) | apply State.live_kept
                                | apply State.releaseJoin_kept | apply foldl_kept | apply kept_ite | apply kept_ite_snd
                                | apply optKept_some | exact optKept_none | apply optKept_ite | exact Kept.refl _
                                | dsimp only | intro _ | split)

theorem State.expireJoin_kept {m : Nat} {r s : State} (hm : Covers m 0x20000000000000000000000000000000004004100000000220) (h : Kept m r s) (n) (waiting)  : Kept m r (State.expireJoin n waiting s) := by
  unfold State.expireJoin
  repeat' (with_reducible first | assumption | exact Covers.trans hm (by decide) | apply each_kept
                                | apply State.modThr_kept | apply State.takePad_kept | apply State.event_kept
                                | apply State.putBit_kept | apply State.modGroup_kept | apply State.putBit_kept
                                | apply foldl_kept | apply kept_ite | apply kept_ite_snd | apply optKept_some
                                | exact optKept_none | apply optKept_ite | exact Kept.refl _ | dsimp only | intro _
                                | split)

theorem State.endJoin_kept {m : Nat} {r s : State} (hm : Covers m 0x20000000000000000000000000000000004004100000000220) (h : Kept m r s) (n) : Kept m r (State.endJoin n s) := by
  unfold State.endJoin
  repeat' (with_reducible first | assumption | exact Covers.trans hm (by decide) | apply each_kept
                                | apply State.decideBeat_kept | apply State.expireJoin_kept | apply foldl_kept
                                | apply kept_ite | apply kept_ite_snd | apply optKept_some | exact optKept_none
                                | apply optKept_ite | apply optKept_or | apply optKept_getD | exact Kept.refl _
                                | dsimp only | intro _ | split)

theorem execJoinTimeout_kept {m : Nat} {s : State} (hm : Covers m 0x20000000000000000000000000000000004004100000000220) (thr) {t : State} (e : execJoinTimeout thr s = .next t) : Kept m s t := by
  refine done_kept ?_ e
  repeat' (with_reducible first | assumption | exact Covers.trans hm (by decide) | apply State.live_kept
                                | apply State.endJoin_kept | apply foldl_kept | apply kept_ite | apply kept_ite_snd
                                | apply optKept_some | exact optKept_none | apply optKept_ite | apply optKept_or
                                | apply optKept_getD | exact Kept.refl _ | dsimp only | intro _ | split)

theorem State.decideNow_kept {m : Nat} {r s : State} (hm : Covers m 0x20000000000000000000000000000000004004100000000220) (h : Kept m r s) (n) : Kept m r (State.decideNow n s) := by
  unfold State.decideNow
  repeat' (with_reducible first | assumption | exact Covers.trans hm (by decide) | apply State.decideBeat_kept
                                | apply State.expireItem_kept | apply each_kept | apply State.endJoin_kept
                                | apply foldl_kept | apply kept_ite | apply kept_ite_snd | apply optKept_some
                                | exact optKept_none | apply optKept_ite | apply optKept_or | apply optKept_getD
                                | exact Kept.refl _ | dsimp only | intro _ | split)

theorem execSpansyncRelease_kept {m : Nat} {s : State} (hm : Covers m 0x4000000000200)  {t : State} (e : execSpansyncRelease s = .next t) : Kept m s t := by
  refine done_kept ?_ e
  repeat' (with_reducible first | assumption | exact Covers.trans hm (by decide) | apply State.live_kept
                                | apply State.spanForget_kept | apply State.release_kept
                                | apply foldl_kept | apply kept_ite | apply kept_ite_snd | apply optKept_some
                                | exact optKept_none | apply optKept_ite | exact Kept.refl _ | dsimp only | intro _
                                | split)

theorem State.sendExpiry_kept {m : Nat} {r s : State} (hm : Covers m 0x200) (h : Kept m r s) (n) (it)  : Kept m r (State.sendExpiry n it s) := by
  unfold State.sendExpiry
  repeat' (with_reducible first | assumption | exact Covers.trans hm (by decide) | apply when_kept
                                | apply State.spanPut_kept | apply foldl_kept | apply kept_ite | apply kept_ite_snd
                                | apply optKept_some | exact optKept_none | apply optKept_ite | exact Kept.refl _
                                | dsimp only | intro _ | split)

theorem State.leaveSpansync_kept {m : Nat} {r s : State} (hm : Covers m 0x20000000000000000000000000000000004004100000010220) (h : Kept m r s) (n) (it)  : Kept m r (State.leaveSpansync n it s) := by
  unfold State.leaveSpansync
  repeat' (with_reducible first | assumption | exact Covers.trans hm (by decide) | apply State.spanForget_kept
                                | apply State.event_kept | apply State.release_kept | apply State.jumpAtEnd_kept
                                | apply foldl_kept | apply kept_ite | apply kept_ite_snd | apply optKept_some
                                | exact optKept_none | apply optKept_ite | exact Kept.refl _ | dsimp only | intro _
                                | split)

theorem execSpansyncTimeout_kept {m : Nat} {s : State} (hm : Covers m 0x20000000000000000000000000000000004004100000010220)  {t : State} (e : execSpansyncTimeout s = .next t) : Kept m s t := by
  refine done_kept ?_ e
  repeat' (with_reducible first | assumption | exact Covers.trans hm (by decide) | apply State.live_kept
                                | apply each_kept | apply State.expireItem_kept
                                | apply State.sendExpiry_kept | apply State.leaveSpansync_kept | apply foldl_kept
                                | apply kept_ite | apply kept_ite_snd | apply optKept_some | exact optKept_none
                                | apply optKept_ite | exact Kept.refl _ | dsimp only | intro _ | split)

theorem State.spanFlush_kept {m : Nat} {r s : State} (hm : Covers m 0x20000000000001000000000000000000000000000000000620) (h : Kept m r s)   : Kept m r (State.spanFlush s) := by
  unfold State.spanFlush
  repeat' (with_reducible first | assumption | exact Covers.trans hm (by decide) | apply each_kept | apply State.flood_kept
                                | apply State.withSeq_kept | apply foldl_kept | apply kept_ite | apply kept_ite_snd
                                | apply optKept_some | exact optKept_none | apply optKept_ite | exact Kept.refl _
                                | dsimp only | intro _)

theorem execSpanKeepalive_kept {m : Nat} {s : State} (hm : Covers m 0x200)  {t : State} (e : execSpanKeepalive s = .next t) : Kept m s t := by
  refine done_kept ?_ e
  repeat' (with_reducible first | assumption | exact Covers.trans hm (by decide) | apply State.live_kept
                                | apply State.spanPut_kept | apply foldl_kept | apply kept_ite
                                | apply kept_ite_snd | apply optKept_some | exact optKept_none | apply optKept_ite
                                | exact Kept.refl _ | dsimp only | intro _ | split)

theorem State.linkLate_kept {m : Nat} {r s : State} (hm : Covers m 0x20) (h : Kept m r s) (n) (member)  : Kept m r (State.linkLate n member s) := by
  unfold State.linkLate
  repeat' (with_reducible first | assumption | exact Covers.trans hm (by decide) | apply State.raise_kept
                                | apply foldl_kept | apply kept_ite | apply kept_ite_snd | apply optKept_some
                                | exact optKept_none | apply optKept_ite | apply optKept_or | apply optKept_getD
                                | exact Kept.refl _ | dsimp only | intro _ | split)

theorem execSpanLinkLate_kept {m : Nat} {s : State} (hm : Covers m 0x20) (member) {t : State} (e : execSpanLinkLate member s = .next t) : Kept m s t := by
  refine done_kept ?_ e
  repeat' (with_reducible first | assumption | exact Covers.trans hm (by decide) | apply State.live_kept
                                | apply State.linkLate_kept | apply foldl_kept | apply kept_ite | apply kept_ite_snd
                                | apply optKept_some | exact optKept_none | apply optKept_ite | exact Kept.refl _
                                | dsimp only | intro _ | split)

theorem State.condHeard_kept {m : Nat} {r s : State} (hm : Covers m 0x220) (h : Kept m r s) (c)  : Kept m r (State.condHeard c s) := by
  unfold State.condHeard
  repeat' (with_reducible first | assumption | exact Covers.trans hm (by decide) | apply State.withSeq_kept
                                | apply State.linkLate_kept | apply each_kept | apply State.spanSet_kept
                                | apply State.fault_kept | apply State.modThr_kept | apply foldl_kept
                                | apply kept_ite | apply kept_ite_snd | apply optKept_some | exact optKept_none
                                | apply optKept_ite | apply optKept_or | apply optKept_getD | exact Kept.refl _
                                | dsimp only | intro _ | split)

theorem State.micro_kept {m : Nat} {r s : State} (hm : Covers m 0x28000000000000000000000000000000004005300000000220) (h : Kept m r s) (n) (code) (f) (hf : ∀ w t, Kept m r t → OptKept m r (f w t)) : Kept m r (State.micro n code f s) := by
  unfold State.micro
  refine State.live_kept h _ fun v hv => ?_
  dsimp only
  split
  · exact hv
  split
  · exact State.machineCheck_kept (hm.trans (by decide)) hv _
  have hd := State.decideNow_kept (n := n) (hm.trans (by decide)) (State.performInjection_kept (hm.trans (by decide)) hv (n / 4))
  split
  · exact hd
  split
  · exact State.spendBeat_kept (hm.trans (by decide)) hd _
  · rename_i he
    exact hf _ _ (State.nextWord_kept (hm.trans (by decide)) hd n _) _ he

theorem execNop_kept {m : Nat} {s : State} (hm : Covers m 0x28000000000000000000000000000000004005300000000220) (thr) {t : State} (e : execNop thr s = .next t) : Kept m s t := by
  refine done_kept ?_ e
  repeat' (with_reducible first | assumption | exact Covers.trans hm (by decide) | apply State.micro_kept | apply foldl_kept
                                | apply kept_ite | apply kept_ite_snd | apply optKept_some | exact optKept_none
                                | apply optKept_ite | exact Kept.refl _ | dsimp only | intro _)

theorem execFetch_kept {m : Nat} {s : State} (hm : Covers m 0x28000000000000000000000000000000004005300000000220) (thr) {t : State} (e : execFetch thr s = .next t) : Kept m s t := by
  refine done_kept ?_ e
  repeat' (with_reducible first | assumption | exact Covers.trans hm (by decide) | apply State.micro_kept | apply State.modThr_kept | apply State.slide_kept
                                | apply foldl_kept | apply kept_ite | apply kept_ite_snd | apply optKept_some
                                | exact optKept_none | apply optKept_ite | exact Kept.refl _ | dsimp only | intro _
                                | split)

theorem execPark_kept {m : Nat} {s : State} (hm : Covers m 0x28000000000000000000000000000000004005300000000220) (thr) {t : State} (e : execPark thr s = .next t) : Kept m s t := by
  refine done_kept ?_ e
  repeat' (with_reducible first | assumption | exact Covers.trans hm (by decide) | apply State.micro_kept
                                | apply State.modThr_kept | apply foldl_kept | apply kept_ite | apply kept_ite_snd
                                | apply optKept_some | exact optKept_none | apply optKept_ite | exact Kept.refl _
                                | dsimp only | intro _)

theorem execLsDecb_kept {m : Nat} {s : State} (hm : Covers m 0x28000000000000000000000000000000004005300000000220) (thr) {t : State} (e : execLsDecb thr s = .next t) : Kept m s t := by
  refine done_kept ?_ e
  repeat' (with_reducible first | assumption | exact Covers.trans hm (by decide) | apply State.micro_kept
                                | apply State.stackFault_kept | apply State.modThr_kept | apply foldl_kept | apply kept_ite
                                | apply kept_ite_snd | apply optKept_some | exact optKept_none | apply optKept_ite
                                | exact Kept.refl _ | dsimp only | intro _ | split)

theorem execBgZero_kept {m : Nat} {s : State} (hm : Covers m 0x28000000000000000000000000000000004005300000000220) (thr) {t : State} (e : execBgZero thr s = .next t) : Kept m s t := by
  refine done_kept ?_ e
  repeat' (with_reducible first | assumption | exact Covers.trans hm (by decide) | apply State.micro_kept
                                | apply State.modThr_kept | apply foldl_kept | apply kept_ite | apply kept_ite_snd
                                | apply optKept_some | exact optKept_none | apply optKept_ite | exact Kept.refl _
                                | dsimp only | intro _)

theorem execBflag_kept {m : Nat} {s : State} (hm : Covers m 0x28000000000000000000000000000000004005300000000220) (thr) {t : State} (e : execBflag thr s = .next t) : Kept m s t := by
  refine done_kept ?_ e
  repeat' (with_reducible first | assumption | exact Covers.trans hm (by decide) | apply State.micro_kept
                                | apply State.modThr_kept | apply foldl_kept | apply kept_ite | apply kept_ite_snd
                                | apply optKept_some | exact optKept_none | apply optKept_ite | exact Kept.refl _
                                | dsimp only | intro _)

theorem execPqPush_kept {m : Nat} {s : State} (hm : Covers m 0x28000000000000000000000000000000004005300000000220) (thr) {t : State} (e : execPqPush thr s = .next t) : Kept m s t := by
  refine done_kept ?_ e
  repeat' (with_reducible first | assumption | exact Covers.trans hm (by decide) | apply State.micro_kept
                                | apply State.pushItem_kept | apply foldl_kept | apply kept_ite | apply kept_ite_snd
                                | apply optKept_some | exact optKept_none | apply optKept_ite | exact Kept.refl _
                                | dsimp only | intro _ | split)

theorem execLsPush_kept {m : Nat} {s : State} (hm : Covers m 0x28000000000000000000000000000000004005300000000220) (thr) {t : State} (e : execLsPush thr s = .next t) : Kept m s t := by
  refine done_kept ?_ e
  repeat' (with_reducible first | assumption | exact Covers.trans hm (by decide) | apply State.micro_kept
                                | apply State.stackFault_kept | apply State.modThr_kept | apply foldl_kept | apply kept_ite
                                | apply kept_ite_snd | apply optKept_some | exact optKept_none | apply optKept_ite
                                | exact Kept.refl _ | dsimp only | intro _)

theorem execLsBack_kept {m : Nat} {s : State} (hm : Covers m 0x28000000000000000000000000000000004005300000000220) (thr) {t : State} (e : execLsBack thr s = .next t) : Kept m s t := by
  refine done_kept ?_ e
  repeat' (with_reducible first | assumption | exact Covers.trans hm (by decide) | apply State.micro_kept
                                | apply State.stackFault_kept | apply State.jumpPc_kept | apply foldl_kept | apply kept_ite
                                | apply kept_ite_snd | apply optKept_some | exact optKept_none | apply optKept_ite
                                | exact Kept.refl _ | dsimp only | intro _ | split)

theorem execLsPop_kept {m : Nat} {s : State} (hm : Covers m 0x28000000000000000000000000000000004005300000000220) (thr) {t : State} (e : execLsPop thr s = .next t) : Kept m s t := by
  refine done_kept ?_ e
  repeat' (with_reducible first | assumption | exact Covers.trans hm (by decide) | apply State.micro_kept
                                | apply State.stackFault_kept | apply State.modThr_kept | apply foldl_kept | apply kept_ite
                                | apply kept_ite_snd | apply optKept_some | exact optKept_none | apply optKept_ite
                                | exact Kept.refl _ | dsimp only | intro _ | split)

theorem execCsPush_kept {m : Nat} {s : State} (hm : Covers m 0x28000000000000000000000000000000004005300000000220) (thr) {t : State} (e : execCsPush thr s = .next t) : Kept m s t := by
  refine done_kept ?_ e
  repeat' (with_reducible first | assumption | exact Covers.trans hm (by decide) | apply State.micro_kept
                                | apply State.stackFault_kept | apply State.modThr_kept | apply foldl_kept | apply kept_ite
                                | apply kept_ite_snd | apply optKept_some | exact optKept_none | apply optKept_ite
                                | exact Kept.refl _ | dsimp only | intro _)

theorem execCsPop_kept {m : Nat} {s : State} (hm : Covers m 0x28000000000000000000000000000000004005300000000220) (thr) {t : State} (e : execCsPop thr s = .next t) : Kept m s t := by
  refine done_kept ?_ e
  repeat' (with_reducible first | assumption | exact Covers.trans hm (by decide) | apply State.micro_kept
                                | apply State.stackFault_kept | apply State.jumpPc_kept | apply State.modThr_kept
                                | apply foldl_kept | apply kept_ite | apply kept_ite_snd | apply optKept_some
                                | exact optKept_none | apply optKept_ite | exact Kept.refl _ | dsimp only | intro _ | split)

theorem execPcImm_kept {m : Nat} {s : State} (hm : Covers m 0x28000000000000000000000000000000004005300000000220) (thr) {t : State} (e : execPcImm thr s = .next t) : Kept m s t := by
  refine done_kept ?_ e
  repeat' (with_reducible first | assumption | exact Covers.trans hm (by decide) | apply State.micro_kept
                                | apply State.jumpPc_kept | apply foldl_kept | apply kept_ite | apply kept_ite_snd
                                | apply optKept_some | exact optKept_none | apply optKept_ite | exact Kept.refl _
                                | dsimp only | intro _)

theorem execPcExit_kept {m : Nat} {s : State} (hm : Covers m 0x28000000000000000000000000000000004005300000000220) (thr) {t : State} (e : execPcExit thr s = .next t) : Kept m s t := by
  refine done_kept ?_ e
  repeat' (with_reducible first | assumption | exact Covers.trans hm (by decide) | apply State.micro_kept
                                | apply State.jumpPc_kept | apply foldl_kept | apply kept_ite | apply kept_ite_snd
                                | apply optKept_some | exact optKept_none | apply optKept_ite | exact Kept.refl _
                                | dsimp only | intro _)

theorem execGrSet_kept {m : Nat} {s : State} (hm : Covers m 0x28000000000000000000000000000000004005300000000220) (thr) {t : State} (e : execGrSet thr s = .next t) : Kept m s t := by
  refine done_kept ?_ e
  repeat' (with_reducible first | assumption | exact Covers.trans hm (by decide) | apply State.micro_kept
                                | apply State.setGr_kept | apply foldl_kept | apply kept_ite | apply kept_ite_snd
                                | apply optKept_some | exact optKept_none | apply optKept_ite | exact Kept.refl _
                                | dsimp only | intro _)

theorem execGrAdd_kept {m : Nat} {s : State} (hm : Covers m 0x28000000000000000000000000000000004005300000000220) (thr) {t : State} (e : execGrAdd thr s = .next t) : Kept m s t := by
  refine done_kept ?_ e
  repeat' (with_reducible first | assumption | exact Covers.trans hm (by decide) | apply State.micro_kept
                                | apply State.setGr_kept | apply foldl_kept | apply kept_ite | apply kept_ite_snd
                                | apply optKept_some | exact optKept_none | apply optKept_ite | exact Kept.refl _
                                | dsimp only | intro _)

theorem execMkSet_kept {m : Nat} {s : State} (hm : Covers m 0x28000000000000000000000000000000004005300000000220) (thr) {t : State} (e : execMkSet thr s = .next t) : Kept m s t := by
  refine done_kept ?_ e
  repeat' (with_reducible first | assumption | exact Covers.trans hm (by decide) | apply State.micro_kept
                                | apply State.modThr_kept | apply foldl_kept | apply kept_ite | apply kept_ite_snd
                                | apply optKept_some | exact optKept_none | apply optKept_ite | exact Kept.refl _
                                | dsimp only | intro _)

theorem execSofSet_kept {m : Nat} {s : State} (hm : Covers m 0x28000000000000000000000000000000004005300000000220) (thr) {t : State} (e : execSofSet thr s = .next t) : Kept m s t := by
  refine done_kept ?_ e
  repeat' (with_reducible first | assumption | exact Covers.trans hm (by decide) | apply State.micro_kept
                                | apply State.modThr_kept | apply foldl_kept | apply kept_ite | apply kept_ite_snd
                                | apply optKept_some | exact optKept_none | apply optKept_ite | exact Kept.refl _
                                | dsimp only | intro _)

theorem execHaltQ_kept {m : Nat} {s : State} (hm : Covers m 0x28000000000000000000000000000000004005300000000220) (thr) {t : State} (e : execHaltQ thr s = .next t) : Kept m s t := by
  refine done_kept ?_ e
  repeat' (with_reducible first | assumption | exact Covers.trans hm (by decide) | apply State.micro_kept
                                | apply State.modThr_kept | apply foldl_kept | apply kept_ite | apply kept_ite_snd
                                | apply optKept_some | exact optKept_none | apply optKept_ite | exact Kept.refl _
                                | dsimp only | intro _)

theorem execArm_kept {m : Nat} {s : State} (hm : Covers m 0x28000000000000000000000000000000004005300000000220) (thr) {t : State} (e : execArm thr s = .next t) : Kept m s t := by
  refine done_kept ?_ e
  repeat' (with_reducible first | assumption | exact Covers.trans hm (by decide) | apply State.micro_kept
                                | apply State.armPad_kept | apply foldl_kept | apply kept_ite | apply kept_ite_snd
                                | apply optKept_some | exact optKept_none | apply optKept_ite | exact Kept.refl _
                                | dsimp only | intro _ | split)

theorem execArmTo_kept {m : Nat} {s : State} (hm : Covers m 0x28000000000000000000000000000000004005300000000220) (thr) {t : State} (e : execArmTo thr s = .next t) : Kept m s t := by
  refine done_kept ?_ e
  repeat' (with_reducible first | assumption | exact Covers.trans hm (by decide) | apply State.micro_kept
                                | apply State.modThr_kept | apply State.armPad_kept | apply foldl_kept | apply kept_ite
                                | apply kept_ite_snd | apply optKept_some | exact optKept_none | apply optKept_ite
                                | exact Kept.refl _ | dsimp only | intro _ | split)

end Sys2Proof.Machine
end

