-- ==== Sys2Proof/Laws/KeptUnits.lean ====
section
/-! SUPPORT. What the operations and meanings of shadows, the measuring units, supplies and memory leave as it was. -/

namespace Sys2Proof.Machine

theorem State.modTxn_kept {m : Nat} {r s : State} (hm : Covers m 0x40) (h : Kept m r s) (m') (f) : Kept m r (State.modTxn m' f s) := by
  unfold State.modTxn
  repeat' (with_reducible first | assumption | exact Covers.trans hm (by decide) | apply State.withHst_kept
                                | apply foldl_kept | apply kept_ite | apply kept_ite_snd | apply optKept_some
                                | exact optKept_none | apply optKept_ite | exact Kept.refl _ | dsimp only | intro _
                                | split)

theorem State.shadowed_kept {m : Nat} {r s : State} (hm : Covers m 0x20000000000000000000000000000000000000000000000064) (h : Kept m r s) (iss) (code) (avail) (checks) (more) (bad) (res) (entry) (live) (hlive : ∀ y0, Kept m r y0 → Kept m r (live y0)) : Kept m r (State.shadowed iss code avail checks more bad res entry live s) := by
  unfold State.shadowed
  repeat' (with_reducible first | assumption | exact Covers.trans hm (by decide) | apply hlive | apply State.complete_kept
                                | apply State.modTxn_kept | apply foldl_kept | apply kept_ite | apply kept_ite_snd
                                | apply optKept_some | exact optKept_none | apply optKept_ite | exact Kept.refl _
                                | dsimp only | intro _ | split)

theorem State.commandBad_kept {m : Nat} {r s : State} (hm : Covers m 0x20000000000000000000000000000000000000000000000064) (h : Kept m r s) (iss) (code) (avail) (checks) (bad) (run) (hrun : ∀ y0, Kept m r y0 → Kept m r (run y0)) : Kept m r (State.commandBad iss code avail checks bad run s) := by
  unfold State.commandBad
  repeat' (with_reducible first | assumption | exact Covers.trans hm (by decide) | apply hrun | apply State.complete_kept
                                | apply foldl_kept | apply kept_ite | apply kept_ite_snd | apply optKept_some
                                | exact optKept_none | apply optKept_ite | exact Kept.refl _ | dsimp only | intro _ | split)

theorem State.tdcMiss_kept {m : Nat} {r s : State} (hm : Covers m 0x1000000000000000000000000) (h : Kept m r s) (n)  : Kept m r (State.tdcMiss n s) := by
  unfold State.tdcMiss
  repeat' (with_reducible first | assumption | exact Covers.trans hm (by decide) | apply State.countUp_kept)

theorem State.setSsq_kept {m : Nat} {r s : State} (hm : Covers m 0x10000000000000000000000000) (h : Kept m r s) (n) (v)  : Kept m r (State.setSsq n v s) := by
  unfold State.setSsq
  repeat' (with_reducible first | assumption | exact Covers.trans hm (by decide) | apply State.setReg_kept)

theorem State.tdcEnd_kept {m : Nat} {r s : State} (hm : Covers m 0x400000000000000000002000) (h : Kept m r s) (n) (partly)  : Kept m r (State.tdcEnd n partly s) := by
  unfold State.tdcEnd
  repeat' (with_reducible first | assumption | exact Covers.trans hm (by decide) | apply State.modTdc_kept
                                | apply State.putBit_kept | apply State.putBit_kept | apply foldl_kept
                                | apply kept_ite | apply kept_ite_snd | apply optKept_some | exact optKept_none
                                | apply optKept_ite | exact Kept.refl _ | dsimp only | intro _ | split)

theorem State.tdcValue_kept {m : Nat} {r s : State} (hm : Covers m 0x27f400000000000000000002000) (h : Kept m r s) (n) (v) (edges) (win) : Kept m r (State.tdcValue n v edges win s) := by
  unfold State.tdcValue
  repeat' (with_reducible first | assumption | exact Covers.trans hm (by decide) | apply State.tdcMiss_kept
                                | apply State.modTdc_kept | apply State.setReg64_kept | apply State.setSsq_kept
                                | apply State.setReg_kept | apply State.tdcEnd_kept | apply State.setReg64_kept
                                | apply State.setReg_kept | apply foldl_kept | apply kept_ite | apply kept_ite_snd
                                | apply optKept_some | exact optKept_none | apply optKept_ite | exact Kept.refl _
                                | dsimp only | intro _ | split)

theorem State.tdcPush_kept {m : Nat} {r s : State} (hm : Covers m 0x20000000000000000000000000800000000000000000002020) (h : Kept m r s) (n) (x)  : Kept m r (State.tdcPush n x s) := by
  unfold State.tdcPush
  repeat' (with_reducible first | assumption | exact Covers.trans hm (by decide) | apply State.countUp_kept
                                | apply when_kept | apply State.event_kept | apply State.modTdc_kept
                                | apply State.countUp_kept | apply foldl_kept | apply kept_ite | apply kept_ite_snd
                                | apply optKept_some | exact optKept_none | apply optKept_ite | exact Kept.refl _
                                | dsimp only | intro _ | split)

theorem State.tdcMeets_kept {m : Nat} {r s : State} (hm : Covers m 0x20000000000000000000000000800000000000000000002020) (h : Kept m r s) (n) (stop) (stamp) (rising) (window) : Kept m r (State.tdcMeets n stop stamp rising window s) := by
  unfold State.tdcMeets
  repeat' (with_reducible first | assumption | exact Covers.trans hm (by decide) | apply State.tdcPush_kept
                                | apply State.modTdc_kept | apply foldl_kept | apply kept_ite | apply kept_ite_snd
                                | apply optKept_some | exact optKept_none | apply optKept_ite | apply optKept_or
                                | apply optKept_getD | exact Kept.refl _ | dsimp only | intro _ | split)

theorem execTdcEdge_kept {m : Nat} {s : State} (hm : Covers m 0x20000000000000000000000000800000000000000000002020) (ch) (level) (ofs) {t : State} (e : execTdcEdge ch level ofs s = .next t) : Kept m s t := by
  refine done_kept ?_ e
  repeat' (with_reducible first | assumption | exact Covers.trans hm (by decide) | apply State.live_kept
                                | apply State.modTdc_kept | apply State.tdcMeets_kept
                                | apply each_kept | apply foldl_kept | apply kept_ite | apply kept_ite_snd
                                | apply optKept_some | exact optKept_none | apply optKept_ite | exact Kept.refl _
                                | dsimp only | intro _ | split)

theorem execTdcHoldoffEnd_kept {m : Nat} {s : State} (hm : Covers m 0x1000000000000000000002000) (ch) (level) {t : State} (e : execTdcHoldoffEnd ch level s = .next t) : Kept m s t := by
  refine done_kept ?_ e
  repeat' (with_reducible first | assumption | exact Covers.trans hm (by decide) | apply State.live_kept
                                | apply State.modTdc_kept | apply when_kept
                                | apply State.countUp_kept | apply State.countUp_kept | apply foldl_kept
                                | apply kept_ite | apply kept_ite_snd | apply optKept_some | exact optKept_none
                                | apply optKept_ite | exact Kept.refl _ | dsimp only | intro _ | split)

theorem State.tdcEdgeEdge_kept {m : Nat} {r s : State} (hm : Covers m 0x27f400000000000000000002000) (h : Kept m r s) (n) (x)  : Kept m r (State.tdcEdgeEdge n x s) := by
  unfold State.tdcEdgeEdge
  repeat' (with_reducible first | assumption | exact Covers.trans hm (by decide) | apply State.modTdc_kept
                                | apply State.tdcValue_kept | apply foldl_kept | apply kept_ite | apply kept_ite_snd
                                | apply optKept_some | exact optKept_none | apply optKept_ite | exact Kept.refl _
                                | dsimp only | intro _ | split)

theorem State.tdcChCh_kept {m : Nat} {r s : State} (hm : Covers m 0x27f400000000000000000002000) (h : Kept m r s) (n) (x)  : Kept m r (State.tdcChCh n x s) := by
  unfold State.tdcChCh
  repeat' (with_reducible first | assumption | exact Covers.trans hm (by decide) | apply State.modTdc_kept
                                | apply State.tdcValue_kept | apply foldl_kept | apply kept_ite | apply kept_ite_snd
                                | apply optKept_some | exact optKept_none | apply optKept_ite | exact Kept.refl _
                                | dsimp only | intro _ | split)

theorem execTdcMeasure_kept {m : Nat} {s : State} (hm : Covers m 0x27f400000000000000000002000) (ch) {t : State} (e : execTdcMeasure ch s = .next t) : Kept m s t := by
  refine done_kept ?_ e
  repeat' (with_reducible first | assumption | exact Covers.trans hm (by decide) | apply State.live_kept
                                | apply State.modTdc_kept | apply State.tdcEdgeEdge_kept
                                | apply State.tdcChCh_kept | apply State.tdcValue_kept | apply foldl_kept
                                | apply kept_ite | apply kept_ite_snd | apply optKept_some | exact optKept_none
                                | apply optKept_ite | exact Kept.refl _ | dsimp only | intro _ | split)

theorem State.closeGate_kept {m : Nat} {r s : State} (hm : Covers m 0x20000000000000000000000001800000000000000000002020) (h : Kept m r s) (n) (win)  : Kept m r (State.closeGate n win s) := by
  unfold State.closeGate
  repeat' (with_reducible first | assumption | exact Covers.trans hm (by decide) | apply State.modTdc_kept
                                | apply State.tdcMiss_kept | apply State.tdcPush_kept | apply foldl_kept
                                | apply kept_ite | apply kept_ite_snd | apply optKept_some | exact optKept_none
                                | apply optKept_ite | apply optKept_or | apply optKept_getD | exact Kept.refl _
                                | dsimp only | intro _ | split)

theorem execFreqGateEnd_kept {m : Nat} {s : State} (hm : Covers m 0x20000000000000000000000001800000000000000000002020) (ch) {t : State} (e : execFreqGateEnd ch s = .next t) : Kept m s t := by
  refine done_kept ?_ e
  repeat' (with_reducible first | assumption | exact Covers.trans hm (by decide) | apply State.live_kept
                                | apply State.closeGate_kept | apply State.modTdc_kept | apply foldl_kept
                                | apply kept_ite | apply kept_ite_snd | apply optKept_some | exact optKept_none
                                | apply optKept_ite | apply optKept_or | apply optKept_getD | exact Kept.refl _
                                | dsimp only | intro _ | split)

theorem State.closeWindow_kept {m : Nat} {r s : State} (hm : Covers m 0x20000000000000000000000001800000000000000000002220) (h : Kept m r s) (c) (w)  : Kept m r (State.closeWindow c w s) := by
  unfold State.closeWindow
  repeat' (with_reducible first | assumption | exact Covers.trans hm (by decide) | apply State.modPip_kept
                                | apply State.modTdc_kept | apply State.tdcMiss_kept | apply State.closeGate_kept
                                | apply when_kept | apply each_kept | apply foldl_kept | apply kept_ite | apply kept_ite_snd
                                | apply optKept_some | exact optKept_none | apply optKept_ite | exact Kept.refl _
                                | dsimp only | intro _ | split)

theorem State.closeWindows_kept {m : Nat} {r s : State} (hm : Covers m 0x20000000000000000000000001800000000000000000002220) (h : Kept m r s)   : Kept m r (State.closeWindows s) := by
  unfold State.closeWindows
  repeat' (with_reducible first | assumption | exact Covers.trans hm (by decide) | apply each_kept
                                | apply State.closeWindow_kept | apply foldl_kept | apply kept_ite
                                | apply kept_ite_snd | apply optKept_some | exact optKept_none | apply optKept_ite
                                | exact Kept.refl _ | dsimp only | intro _ | split)

theorem execTdcStartBeat_kept {m : Nat} {s : State} (hm : Covers m 0x3ffc00000000000000000002000) (ch) {t : State} (e : execTdcStartBeat ch s = .next t) : Kept m s t := by
  refine done_kept ?_ e
  simp only [each, List.foldl]
  repeat' (with_reducible first | assumption | exact Covers.trans hm (by decide) | apply State.live_kept
                                | apply State.setReg_kept | apply State.setReg64_kept | apply State.setSsq_kept
                                | apply State.modTdc_kept | apply State.putField_kept | apply foldl_kept | apply kept_ite
                                | exact Kept.refl _ | dsimp only | intro _ | split)

theorem execTdcRunEnd_kept {m : Nat} {s : State} (hm : Covers m 0x20000000000000000000000180400000000000000000002020) (ch) {t : State} (e : execTdcRunEnd ch s = .next t) : Kept m s t := by
  refine done_kept ?_ e
  repeat' (with_reducible first | assumption | exact Covers.trans hm (by decide) | apply State.live_kept
                                | apply State.setReg64_kept | apply State.event_kept | apply State.putField_kept
                                | apply State.modTdc_kept | apply foldl_kept | apply kept_ite | apply kept_ite_snd
                                | apply optKept_some | exact optKept_none | apply optKept_ite | exact Kept.refl _
                                | dsimp only | intro _)

theorem execTiaStart_kept {m : Nat} {s : State} (hm : Covers m 0x20000000000000000000000000000000000000000000002064) (iss) (mask0) (mask1) (mode) (lbc) {t : State} (e : execTiaStart iss mask0 mask1 mode lbc s = .next t) : Kept m s t := by
  refine done_kept ?_ e
  repeat' (with_reducible first | assumption | exact Covers.trans hm (by decide) | apply State.command_kept
                                | apply State.complete_kept | apply each_kept | apply State.modTdc_kept | apply foldl_kept
                                | apply kept_ite | apply kept_ite_snd | apply optKept_some | exact optKept_none
                                | apply optKept_ite | exact Kept.refl _ | dsimp only | intro _)

theorem execTiaStop_kept {m : Nat} {s : State} (hm : Covers m 0x20000000000000000000000000400000000000000000002064) (iss) (mask0) (mask1) {t : State} (e : execTiaStop iss mask0 mask1 s = .next t) : Kept m s t := by
  refine done_kept ?_ e
  repeat' (with_reducible first | assumption | exact Covers.trans hm (by decide) | apply State.command_kept
                                | apply State.complete_kept | apply each_kept | apply State.tdcEnd_kept | apply foldl_kept
                                | apply kept_ite | apply kept_ite_snd | apply optKept_some | exact optKept_none
                                | apply optKept_ite | exact Kept.refl _ | dsimp only | intro _)

theorem execTiaStatRead_kept {m : Nat} {s : State} (hm : Covers m 0x20000000000000000000000000000000000000000000000064) (iss) (dest) (channel) {t : State} (e : execTiaStatRead iss dest channel s = .next t) : Kept m s t := by
  refine done_kept ?_ e
  repeat' (with_reducible first | assumption | exact Covers.trans hm (by decide) | apply State.command_kept
                                | apply State.complete_kept | apply State.setMem_kept | apply foldl_kept | apply kept_ite
                                | apply kept_ite_snd | apply optKept_some | exact optKept_none | apply optKept_ite
                                | exact Kept.refl _ | dsimp only | intro _)

theorem State.unresolve_kept {m : Nat} {r s : State} (hm : Covers m 0x20000000000000000000000000000000000000004000000220) (h : Kept m r s) (ch) (low)  : Kept m r (State.unresolve ch low s) := by
  unfold State.unresolve
  cases low
  all_goals
    dsimp only
    refine kept_ite (fun _ => h) fun _ => State.event_kept (hm.trans (by decide)) (State.modPip_kept (hm.trans (by decide)) ?_ _ _) _
    exact State.putBit_kept _ (hm.trans (by decide)) h _ _

theorem State.detectorMoved_kept {m : Nat} {r s : State} (hm : Covers m 0x2000) (h : Kept m r s) (old) (n) : Kept m r (State.detectorMoved old n s) := by
  unfold State.detectorMoved
  repeat' (with_reducible first | assumption | exact Covers.trans hm (by decide) | apply State.modTdc_kept
                                | apply foldl_kept | apply kept_ite | apply kept_ite_snd | apply optKept_some
                                | exact optKept_none | apply optKept_ite | apply optKept_or | apply optKept_getD
                                | exact Kept.refl _ | dsimp only | intro _ | split)

theorem State.detectorInverted_kept {m : Nat} {r s : State} (hm : Covers m 0x2000) (h : Kept m r s) (old) (n) : Kept m r (State.detectorInverted old n s) := by
  unfold State.detectorInverted
  repeat' (with_reducible first | assumption | exact Covers.trans hm (by decide) | apply State.modTdc_kept
                                | apply foldl_kept | apply kept_ite | apply kept_ite_snd | apply optKept_some
                                | exact optKept_none | apply optKept_ite | apply optKept_or | apply optKept_getD
                                | exact Kept.refl _ | dsimp only | intro _ | split)

theorem execCompareInputResolve_kept {m : Nat} {s : State} (hm : Covers m 0x4000002200) (ch) (low) (level) {t : State} (e : execCompareInputResolve ch low level s = .next t) : Kept m s t := by
  refine done_kept ?_ e
  repeat' (with_reducible first | assumption | exact Covers.trans hm (by decide) | apply State.live_kept
                                | apply State.putBit_kept | apply State.modPip_kept
                                | apply State.modTdc_kept | apply State.putBit_kept | apply foldl_kept
                                | apply kept_ite | apply kept_ite_snd | apply optKept_some | exact optKept_none
                                | apply optKept_ite | exact Kept.refl _ | dsimp only | intro _ | split)

theorem State.modAdc_kept {m : Nat} {r s : State} (hm : Covers m 0x2000) (h : Kept m r s) (a) (f)  : Kept m r (State.modAdc a f s) := by
  unfold State.modAdc
  repeat' (with_reducible first | assumption | exact Covers.trans hm (by decide) | apply State.withMeas_kept)

theorem State.setAdc_kept {m : Nat} {r s : State} (hm : Covers m 0x2000000000000000000000000000) (h : Kept m r s) (a) (st)  : Kept m r (State.setAdc a st s) := by
  unfold State.setAdc
  repeat' (with_reducible first | assumption | exact Covers.trans hm (by decide) | apply State.putField_kept)

theorem State.adcBegin_kept {m : Nat} {r s : State} (hm : Covers m 0x20000000000000000000002000000000000000000000002020) (h : Kept m r s) (a) (m') : Kept m r (State.adcBegin a m' s) := by
  unfold State.adcBegin
  repeat' (with_reducible first | assumption | exact Covers.trans hm (by decide) | apply State.modAdc_kept
                                | apply State.setAdc_kept | apply State.putField_kept | apply State.event_kept
                                | apply State.putField_kept | apply foldl_kept | apply kept_ite | apply kept_ite_snd
                                | apply optKept_some | exact optKept_none | apply optKept_ite | apply optKept_or
                                | apply optKept_getD | exact Kept.refl _ | dsimp only | intro _ | split)

theorem State.adcIdle_kept {m : Nat} {r s : State} (hm : Covers m 0x2000000000000000000000002000) (h : Kept m r s) (a)  : Kept m r (State.adcIdle a s) := by
  unfold State.adcIdle
  repeat' (with_reducible first | assumption | exact Covers.trans hm (by decide) | apply State.setAdc_kept
                                | apply State.putBit_kept | apply State.modAdc_kept)

theorem State.adcPassed_kept {m : Nat} {r s : State} (hm : Covers m 0x20000000000000000000008000000000000000000000000020) (h : Kept m r s) (a)  : Kept m r (State.adcPassed a s) := by
  unfold State.adcPassed
  repeat' (with_reducible first | assumption | exact Covers.trans hm (by decide) | apply State.setReg64_kept
                                | apply when_kept | apply State.event_kept | apply foldl_kept | apply kept_ite
                                | apply kept_ite_snd | apply optKept_some | exact optKept_none | apply optKept_ite
                                | exact Kept.refl _ | dsimp only | intro _)

theorem State.adcPassEnd_kept {m : Nat} {r s : State} (hm : Covers m 0x2000000000000000000000a000000000000000000000002020) (h : Kept m r s) (a) (t)  : Kept m r (State.adcPassEnd a t s) := by
  unfold State.adcPassEnd
  repeat' (with_reducible first | assumption | exact Covers.trans hm (by decide) | apply State.adcPassed_kept
                                | apply State.adcIdle_kept | apply State.modAdc_kept | apply State.putBit_kept
                                | apply State.adcBegin_kept | apply State.setAdc_kept | apply State.putBit_kept
                                | apply foldl_kept | apply kept_ite | apply kept_ite_snd | apply optKept_some
                                | exact optKept_none | apply optKept_ite | exact Kept.refl _ | dsimp only | intro _
                                | split)

theorem State.adcTrigger_kept {m : Nat} {r s : State} (hm : Covers m 0x2000) (h : Kept m r s) (src) (arg) (b) (rising)  : Kept m r (State.adcTrigger src arg b rising s) := by
  unfold State.adcTrigger
  repeat' (with_reducible first | assumption | exact Covers.trans hm (by decide) | apply each_kept
                                | apply State.modAdc_kept | apply foldl_kept | apply kept_ite | apply kept_ite_snd
                                | apply optKept_some | exact optKept_none | apply optKept_ite | exact Kept.refl _
                                | dsimp only | intro _ | split)

theorem State.adcDrop_kept {m : Nat} {r s : State} (hm : Covers m 0x20000000000000000000006000000000000000000000002020) (h : Kept m r s) (a)  : Kept m r (State.adcDrop a s) := by
  unfold State.adcDrop
  repeat' (with_reducible first | assumption | exact Covers.trans hm (by decide) | apply State.modAdc_kept
                                | apply State.countUp_kept | apply State.event_kept | apply State.putBit_kept
                                | apply foldl_kept | apply kept_ite | apply kept_ite_snd | apply optKept_some
                                | exact optKept_none | apply optKept_ite | exact Kept.refl _ | dsimp only | intro _)

theorem execAdcTriggerTake_kept {m : Nat} {s : State} (hm : Covers m 0x2000000000000000000000e000000000000000000000002020) (adc) {t : State} (e : execAdcTriggerTake adc s = .next t) : Kept m s t := by
  refine done_kept ?_ e
  repeat' (with_reducible first | assumption | exact Covers.trans hm (by decide) | apply State.live_kept
                                | apply State.adcPassEnd_kept | apply State.modAdc_kept | apply State.adcBegin_kept
                                | apply State.adcDrop_kept | apply State.putBit_kept | apply State.putBit_kept
                                | apply foldl_kept | apply kept_ite | apply kept_ite_snd | apply optKept_some
                                | exact optKept_none | apply optKept_ite | apply optKept_or | apply optKept_getD
                                | exact Kept.refl _ | dsimp only | intro _ | split)

theorem State.adcJoin_kept {m : Nat} {r s : State} (hm : Covers m 0x2000000000000000000000002000) (h : Kept m r s) (a) (e') (at_) (code) (last) : Kept m r (State.adcJoin a e' at_ code last s) := by
  unfold State.adcJoin
  repeat' (with_reducible first | assumption | exact Covers.trans hm (by decide) | apply State.putField_kept
                                | apply State.modAdc_kept | apply State.putField_kept | apply foldl_kept
                                | apply kept_ite | apply kept_ite_snd | apply optKept_some | exact optKept_none
                                | apply optKept_ite | apply optKept_or | apply optKept_getD | exact Kept.refl _
                                | dsimp only | intro _ | split)

theorem State.adcLastDone_kept {m : Nat} {r s : State} (hm : Covers m 0x2000) (h : Kept m r s) (a) (e') : Kept m r (State.adcLastDone a e' s) := by
  unfold State.adcLastDone
  repeat' (with_reducible first | assumption | exact Covers.trans hm (by decide) | apply State.modAdc_kept
                                | apply foldl_kept | apply kept_ite | apply kept_ite_snd | apply optKept_some
                                | exact optKept_none | apply optKept_ite | apply optKept_or | apply optKept_getD
                                | exact Kept.refl _ | dsimp only | intro _ | split)

theorem execAdcConversion_kept {m : Nat} {s : State} (hm : Covers m 0x2000000000000000000000a000000000000000000000002020) (adc) (raw) {t : State} (e : execAdcConversion adc raw s = .next t) : Kept m s t := by
  refine done_kept ?_ e
  repeat' (with_reducible first | assumption | exact Covers.trans hm (by decide) | apply State.live_kept
                                | apply State.adcPassEnd_kept | apply State.adcJoin_kept | apply State.adcLastDone_kept
                                | apply State.modAdc_kept | apply foldl_kept | apply kept_ite | apply kept_ite_snd
                                | apply optKept_some | exact optKept_none | apply optKept_ite | exact Kept.refl _
                                | dsimp only | intro _)

theorem execAdcResultWrite_kept {m : Nat} {s : State} (hm : Covers m 0x2000000000000000000000b000000000000000000000003020) (adc) {t : State} (e : execAdcResultWrite adc s = .next t) : Kept m s t := by
  refine done_kept ?_ e
  repeat' (with_reducible first | assumption | exact Covers.trans hm (by decide) | apply State.live_kept
                                | apply State.adcPassEnd_kept | apply State.modAdc_kept
                                | apply State.setReg_kept | apply State.putField_kept | apply State.putBit_kept
                                | apply State.event_kept | apply when_kept | apply each_kept | apply State.modAq_kept
                                | apply State.setReg_kept | apply State.putField_kept | apply State.putBit_kept
                                | apply foldl_kept | apply kept_ite | apply kept_ite_snd | apply optKept_some
                                | exact optKept_none | apply optKept_ite | exact Kept.refl _ | dsimp only | intro _
                                | split)

theorem State.selfcal_kept {m : Nat} {r s : State} (hm : Covers m 0x20000000000000000000012000000000000000000000000020) (h : Kept m r s) (a) (f)  : Kept m r (State.selfcal a f s) := by
  unfold State.selfcal
  repeat' (with_reducible first | assumption | exact Covers.trans hm (by decide) | apply State.fault_kept
                                | apply State.setAdc_kept | apply State.setReg_kept | apply each_kept
                                | apply State.event_kept | apply foldl_kept | apply kept_ite | apply kept_ite_snd
                                | apply optKept_some | exact optKept_none | apply optKept_ite | exact Kept.refl _
                                | dsimp only | intro _ | split)

theorem execAdcSelfcal_kept {m : Nat} {s : State} (hm : Covers m 0x20000000000000000000000000000000000000000000000064) (iss) (converters) {t : State} (e : execAdcSelfcal iss converters s = .next t) : Kept m s t := by
  refine done_kept ?_ e
  repeat' (with_reducible first | assumption | exact Covers.trans hm (by decide) | apply State.command_kept
                                | apply State.defer_kept | apply foldl_kept | apply kept_ite | apply kept_ite_snd
                                | apply optKept_some | exact optKept_none | apply optKept_ite | apply optKept_or
                                | apply optKept_getD | exact Kept.refl _ | dsimp only | intro _ | split)

theorem State.adcBusy_kept {m : Nat} {r s : State} (hm : Covers m 0x2000000000000000000000002000) (h : Kept m r s) (l) (beats)  : Kept m r (State.adcBusy l beats s) := by
  unfold State.adcBusy
  repeat' (with_reducible first | assumption | exact Covers.trans hm (by decide) | apply each_kept
                                | apply State.modAdc_kept | apply State.setAdc_kept | apply foldl_kept
                                | apply kept_ite | apply kept_ite_snd | apply optKept_some | exact optKept_none
                                | apply optKept_ite | apply optKept_or | apply optKept_getD | exact Kept.refl _
                                | dsimp only | intro _ | split)

theorem State.adcBack_kept {m : Nat} {r s : State} (hm : Covers m 0x2000000000000000000000000000) (h : Kept m r s) (a) : Kept m r (State.adcBack a s) := by
  unfold State.adcBack
  repeat' (with_reducible first | assumption | exact Covers.trans hm (by decide) | apply State.setAdc_kept
                                | apply foldl_kept | apply kept_ite | apply kept_ite_snd | apply optKept_some
                                | exact optKept_none | apply optKept_ite | apply optKept_or | apply optKept_getD
                                | exact Kept.refl _ | dsimp only | intro _ | split)

theorem execAdcSelfcalEnd_kept {m : Nat} {s : State} (hm : Covers m 0x20000000000000000000012000000000000000000000000060) (adc) (factors) {t : State} (e : execAdcSelfcalEnd adc factors s = .next t) : Kept m s t := by
  refine done_kept ?_ e
  repeat' (with_reducible first | assumption | exact Covers.trans hm (by decide) | apply State.live_kept
                                | apply State.modDeferred_kept | apply State.selfcal_kept | apply foldl_kept | apply kept_ite
                                | apply kept_ite_snd | apply optKept_some | exact optKept_none | apply optKept_ite
                                | exact Kept.refl _ | dsimp only | intro _)

theorem execAdcArm_kept {m : Nat} {s : State} (hm : Covers m 0x2000000000000000000000a000000000000000000000002064) (iss) (converters) {t : State} (e : execAdcArm iss converters s = .next t) : Kept m s t := by
  refine done_kept ?_ e
  repeat' (with_reducible first | assumption | exact Covers.trans hm (by decide) | apply State.command_kept | apply each_kept
                                | apply State.putBit_kept | apply State.setReg64_kept | apply State.setAdc_kept
                                | apply State.modAdc_kept | apply State.complete_kept | apply foldl_kept | apply kept_ite
                                | apply kept_ite_snd | apply optKept_some | exact optKept_none | apply optKept_ite
                                | exact Kept.refl _ | dsimp only | intro _)

theorem State.adcStopNow_kept {m : Nat} {r s : State} (hm : Covers m 0x2000000000000000000000002000) (h : Kept m r s) (a)  : Kept m r (State.adcStopNow a s) := by
  unfold State.adcStopNow
  repeat' (with_reducible first | assumption | exact Covers.trans hm (by decide) | apply State.adcIdle_kept
                                | apply State.modAdc_kept | apply foldl_kept | apply kept_ite | apply kept_ite_snd
                                | apply optKept_some | exact optKept_none | apply optKept_ite | exact Kept.refl _
                                | dsimp only | intro _)

theorem State.adcStopAtEnd_kept {m : Nat} {r s : State} (hm : Covers m 0x2000000000000000000000002000) (h : Kept m r s) (a)  : Kept m r (State.adcStopAtEnd a s) := by
  unfold State.adcStopAtEnd
  repeat' (with_reducible first | assumption | exact Covers.trans hm (by decide) | apply State.adcIdle_kept
                                | apply State.putBit_kept | apply State.modAdc_kept | apply foldl_kept | apply kept_ite
                                | apply kept_ite_snd | apply optKept_some | exact optKept_none | apply optKept_ite
                                | exact Kept.refl _ | dsimp only | intro _ | split)

theorem execAdcStop_kept {m : Nat} {s : State} (hm : Covers m 0x2000000000000000000000a000000000000000000000002064) (iss) (converters) (mode) {t : State} (e : execAdcStop iss converters mode s = .next t) : Kept m s t := by
  refine done_kept ?_ e
  repeat' (with_reducible first | assumption | exact Covers.trans hm (by decide) | apply State.command_kept | apply each_kept
                                | apply State.adcPassEnd_kept | apply State.complete_kept | apply State.adcStopNow_kept
                                | apply State.adcStopAtEnd_kept | apply State.defer_kept | apply foldl_kept | apply kept_ite
                                | apply kept_ite_snd | apply optKept_some | exact optKept_none | apply optKept_ite
                                | exact Kept.refl _ | dsimp only | intro _)

theorem execAdcTrig_kept {m : Nat} {s : State} (hm : Covers m 0x2000000000000000000000a000000000000000000000002064) (iss) (converters) {t : State} (e : execAdcTrig iss converters s = .next t) : Kept m s t := by
  refine done_kept ?_ e
  repeat' (with_reducible first | assumption | exact Covers.trans hm (by decide) | apply State.command_kept | apply each_kept
                                | apply State.adcPassEnd_kept | apply State.modAdc_kept | apply State.complete_kept
                                | apply foldl_kept | apply kept_ite | apply kept_ite_snd | apply optKept_some
                                | exact optKept_none | apply optKept_ite | exact Kept.refl _ | dsimp only | intro _)

theorem execAdcOpenwire_kept {m : Nat} {s : State} (hm : Covers m 0x20000000000000000000000000000000000000000000000064) (iss) (dest) (inputs) (converter) (current) (settle) (thresh) {t : State} (e : execAdcOpenwire iss dest inputs converter current settle thresh s = .next t) : Kept m s t := by
  refine done_kept ?_ e
  repeat' (with_reducible first | assumption | exact Covers.trans hm (by decide) | apply State.command_kept
                                | apply State.defer_kept | apply foldl_kept | apply kept_ite | apply kept_ite_snd
                                | apply optKept_some | exact optKept_none | apply optKept_ite | apply optKept_or
                                | apply optKept_getD | exact Kept.refl _ | dsimp only | intro _ | split)

theorem execAdcOpenwireEnd_kept {m : Nat} {s : State} (hm : Covers m 0x20000000000000000000002000000000000000000000000064) (adc) (values) {t : State} (e : execAdcOpenwireEnd adc values s = .next t) : Kept m s t := by
  refine done_kept ?_ e
  repeat' (with_reducible first | assumption | exact Covers.trans hm (by decide) | apply State.live_kept
                                | apply State.setAdc_kept | apply State.setMem_kept | apply when_kept
                                | apply State.event_kept | apply State.modDeferred_kept | apply foldl_kept | apply kept_ite
                                | apply kept_ite_snd | apply optKept_some | exact optKept_none | apply optKept_ite
                                | exact Kept.refl _ | dsimp only | intro _ | split)

theorem State.modSup_kept {m : Nat} {r s : State} (hm : Covers m 0x2000) (h : Kept m r s) (c) (f)  : Kept m r (State.modSup c f s) := by
  unfold State.modSup
  repeat' (with_reducible first | assumption | exact Covers.trans hm (by decide) | apply State.withMeas_kept)

theorem State.supLow_kept {m : Nat} {r s : State} (hm : Covers m 0x2000000000000000000000000002000) (h : Kept m r s) (c) (st)  : Kept m r (State.supLow c st s) := by
  unfold State.supLow
  repeat' (with_reducible first | assumption | exact Covers.trans hm (by decide) | apply State.modSup_kept
                                | apply State.putField_kept | apply State.putField_kept | apply foldl_kept
                                | apply kept_ite | apply kept_ite_snd | apply optKept_some | exact optKept_none
                                | apply optKept_ite | exact Kept.refl _ | dsimp only | intro _ | split)

theorem State.supRamp_kept {m : Nat} {r s : State} (hm : Covers m 0x2000000000000000000000000002000) (h : Kept m r s) (c)  : Kept m r (State.supRamp c s) := by
  unfold State.supRamp
  repeat' (with_reducible first | assumption | exact Covers.trans hm (by decide) | apply State.putField_kept
                                | apply State.modSup_kept | apply foldl_kept | apply kept_ite | apply kept_ite_snd
                                | apply optKept_some | exact optKept_none | apply optKept_ite | exact Kept.refl _
                                | dsimp only | intro _)

theorem State.supStart_kept {m : Nat} {r s : State} (hm : Covers m 0x2000000000000000000000000002000) (h : Kept m r s) (c)  : Kept m r (State.supStart c s) := by
  unfold State.supStart
  repeat' (with_reducible first | assumption | exact Covers.trans hm (by decide) | apply State.modSup_kept
                                | apply State.putField_kept | apply State.putField_kept | apply foldl_kept
                                | apply kept_ite | apply kept_ite_snd | apply optKept_some | exact optKept_none
                                | apply optKept_ite | exact Kept.refl _ | dsimp only | intro _ | split)

theorem State.supRampAll_kept {m : Nat} {r s : State} (hm : Covers m 0x2000000000000000000000000002000) (h : Kept m r s) (fast)  : Kept m r (State.supRampAll fast s) := by
  unfold State.supRampAll
  repeat' (with_reducible first | assumption | exact Covers.trans hm (by decide) | apply each_kept | apply State.supRamp_kept
                                | apply State.modSup_kept | apply foldl_kept | apply kept_ite | apply kept_ite_snd
                                | apply optKept_some | exact optKept_none | apply optKept_ite | exact Kept.refl _
                                | dsimp only | intro _)

theorem State.supOffAll_kept {m : Nat} {r s : State} (hm : Covers m 0x2000000000000000000000000002000) (h : Kept m r s)   : Kept m r (State.supOffAll s) := by
  unfold State.supOffAll
  repeat' (with_reducible first | assumption | exact Covers.trans hm (by decide) | apply each_kept | apply State.supLow_kept
                                | apply foldl_kept | apply kept_ite | apply kept_ite_snd | apply optKept_some
                                | exact optKept_none | apply optKept_ite | exact Kept.refl _ | dsimp only | intro _)

theorem State.supSense_kept {m : Nat} {r s : State} (hm : Covers m 0x2000) (h : Kept m r s) (c) (m') (hit) : Kept m r (State.supSense c m' hit s) := by
  unfold State.supSense
  repeat' (with_reducible first | assumption | exact Covers.trans hm (by decide) | apply State.modSup_kept
                                | apply foldl_kept | apply kept_ite | apply kept_ite_snd | apply optKept_some
                                | exact optKept_none | apply optKept_ite | apply optKept_or | apply optKept_getD
                                | exact Kept.refl _ | dsimp only | intro _ | split)

theorem State.supFault_kept {m : Nat} {r s : State} (hm : Covers m 0x20) (h : Kept m r s) (c) (trips)  : Kept m r (State.supFault c trips s) := by
  unfold State.supFault
  repeat' (with_reducible first | assumption | exact Covers.trans hm (by decide) | apply State.withHsk_kept
                                | apply State.fault_kept | apply foldl_kept | apply kept_ite | apply kept_ite_snd
                                | apply optKept_some | exact optKept_none | apply optKept_ite | apply optKept_or
                                | apply optKept_getD | exact Kept.refl _ | dsimp only | intro _ | split)

theorem State.supTrip_kept {m : Nat} {r s : State} (hm : Covers m 0x20000000000000000002000000000000000000000000002220) (h : Kept m r s) (c) (m') : Kept m r (State.supTrip c m' s) := by
  unfold State.supTrip
  repeat' (with_reducible first | assumption | exact Covers.trans hm (by decide) | apply State.setReg_kept
                                | apply State.modSup_kept | apply State.event_kept | apply State.happenAll_kept
                                | apply when_kept | apply State.supFault_kept | apply State.supLow_kept
                                | apply State.setReg_kept | apply foldl_kept | apply kept_ite | apply kept_ite_snd
                                | apply optKept_some | exact optKept_none | apply optKept_ite | apply optKept_or
                                | apply optKept_getD | exact Kept.refl _ | dsimp only | intro _ | split)

theorem State.supJudge_kept {m : Nat} {r s : State} (hm : Covers m 0x20000000000000000002000000000000000000000000002220) (h : Kept m r s) (c) (m') (hit) : Kept m r (State.supJudge c m' hit s) := by
  unfold State.supJudge
  repeat' (with_reducible first | assumption | exact Covers.trans hm (by decide) | apply State.supSense_kept
                                | apply when_kept | apply State.supTrip_kept | apply foldl_kept | apply kept_ite
                                | apply kept_ite_snd | apply optKept_some | exact optKept_none | apply optKept_ite
                                | apply optKept_or | apply optKept_getD | exact Kept.refl _ | dsimp only | intro _
                                | split)

theorem State.supInput_kept {m : Nat} {r s : State} (hm : Covers m 0x20000000000000000002000000000000000000000000002220) (h : Kept m r s) (c) (sensed) : Kept m r (State.supInput c sensed s) := by
  unfold State.supInput
  repeat' (with_reducible first | assumption | exact Covers.trans hm (by decide) | apply State.supJudge_kept
                                | apply foldl_kept | apply kept_ite | apply kept_ite_snd | apply optKept_some
                                | exact optKept_none | apply optKept_ite | apply optKept_or | apply optKept_getD
                                | exact Kept.refl _ | dsimp only | intro _ | split)

theorem execSupComparatorTrip_kept {m : Nat} {s : State} (hm : Covers m 0x20000000000000000002000000000000000000000000002220) (sc) (sensed) {t : State} (e : execSupComparatorTrip sc sensed s = .next t) : Kept m s t := by
  refine done_kept ?_ e
  repeat' (with_reducible first | assumption | exact Covers.trans hm (by decide) | apply State.live_kept
                                | apply State.supInput_kept | apply foldl_kept | apply kept_ite | apply kept_ite_snd
                                | apply optKept_some | exact optKept_none | apply optKept_ite | apply optKept_or
                                | apply optKept_getD | exact Kept.refl _ | dsimp only | intro _ | split)

theorem State.supBlanked_kept {m : Nat} {r s : State} (hm : Covers m 0x20000000000000000002000000000000000000000000002220) (h : Kept m r s) (c) (peakBand) (sensed) : Kept m r (State.supBlanked c peakBand sensed s) := by
  unfold State.supBlanked
  repeat' (with_reducible first | assumption | exact Covers.trans hm (by decide) | apply State.modSup_kept
                                | apply State.setReg_kept | apply each_kept | apply State.supJudge_kept
                                | apply State.setReg_kept | apply foldl_kept | apply kept_ite | apply kept_ite_snd
                                | apply optKept_some | exact optKept_none | apply optKept_ite | apply optKept_or
                                | apply optKept_getD | exact Kept.refl _ | dsimp only | intro _ | split)

theorem execEnableBlankingEnd_kept {m : Nat} {s : State} (hm : Covers m 0x20000000000000000002000000000000000000000000002220) (sc) (peakBand) (sensed) {t : State} (e : execEnableBlankingEnd sc peakBand sensed s = .next t) : Kept m s t := by
  refine done_kept ?_ e
  repeat' (with_reducible first | assumption | exact Covers.trans hm (by decide) | apply State.live_kept
                                | apply State.supBlanked_kept | apply foldl_kept | apply kept_ite
                                | apply kept_ite_snd | apply optKept_some | exact optKept_none | apply optKept_ite
                                | apply optKept_or | apply optKept_getD | exact Kept.refl _ | dsimp only | intro _
                                | split)

theorem State.supResolve_kept {m : Nat} {r s : State} (hm : Covers m 0x20000000000000000002000000000000000000000000002220) (h : Kept m r s) (c) (m') (input) : Kept m r (State.supResolve c m' input s) := by
  unfold State.supResolve
  repeat' (with_reducible first | assumption | exact Covers.trans hm (by decide) | apply State.setReg_kept
                                | apply State.supJudge_kept | apply State.setReg_kept | apply foldl_kept
                                | apply kept_ite | apply kept_ite_snd | apply optKept_some | exact optKept_none
                                | apply optKept_ite | apply optKept_or | apply optKept_getD | exact Kept.refl _
                                | dsimp only | intro _ | split)

theorem execSupComparatorResolve_kept {m : Nat} {s : State} (hm : Covers m 0x20000000000000000002000000000000000000000000002220) (sc) (monitor) (input) {t : State} (e : execSupComparatorResolve sc monitor input s = .next t) : Kept m s t := by
  refine done_kept ?_ e
  repeat' (with_reducible first | assumption | exact Covers.trans hm (by decide) | apply State.live_kept
                                | apply State.supResolve_kept | apply foldl_kept | apply kept_ite
                                | apply kept_ite_snd | apply optKept_some | exact optKept_none | apply optKept_ite
                                | apply optKept_or | apply optKept_getD | exact Kept.refl _ | dsimp only | intro _
                                | split)

theorem State.supRelease_kept {m : Nat} {r s : State} (hm : Covers m 0x2000000000000000000000000002000) (h : Kept m r s) (c) (mask)  : Kept m r (State.supRelease c mask s) := by
  unfold State.supRelease
  repeat' (with_reducible first | assumption | exact Covers.trans hm (by decide) | apply State.setReg_kept
                                | apply State.modSup_kept | apply State.setReg_kept | apply foldl_kept
                                | apply kept_ite | apply kept_ite_snd | apply optKept_some | exact optKept_none
                                | apply optKept_ite | exact Kept.refl _ | dsimp only | intro _ | split)

theorem State.supLatchAgain_kept {m : Nat} {r s : State} (hm : Covers m 0x20000000000000000002000000000000000000000000002220) (h : Kept m r s)  : Kept m r (State.supLatchAgain s) := by
  unfold State.supLatchAgain
  repeat' (with_reducible first | assumption | exact Covers.trans hm (by decide) | apply each_kept
                                | apply State.supTrip_kept | apply State.modSup_kept | apply foldl_kept
                                | apply kept_ite | apply kept_ite_snd | apply optKept_some | exact optKept_none
                                | apply optKept_ite | apply optKept_or | apply optKept_getD | exact Kept.refl _
                                | dsimp only | intro _ | split)

theorem execSupLatchClear_kept {m : Nat} {s : State} (hm : Covers m 0x2000000000000000000000000002000) (controller) (value) {t : State} (e : execSupLatchClear controller value s = .next t) : Kept m s t := by
  refine done_kept ?_ e
  repeat' (with_reducible first | assumption | exact Covers.trans hm (by decide) | apply State.live_kept
                                | apply State.supRelease_kept | apply foldl_kept | apply kept_ite | apply kept_ite_snd
                                | apply optKept_some | exact optKept_none | apply optKept_ite | exact Kept.refl _
                                | dsimp only | intro _)

theorem State.supNewPeriod_kept {m : Nat} {r s : State} (hm : Covers m 0x20000000000000000002000000000000000000000000002220) (h : Kept m r s) (c)  : Kept m r (State.supNewPeriod c s) := by
  unfold State.supNewPeriod
  repeat' (with_reducible first | assumption | exact Covers.trans hm (by decide) | apply State.setReg_kept
                                | apply State.modSup_kept | apply each_kept | apply State.supTrip_kept
                                | apply State.setReg_kept | apply foldl_kept | apply kept_ite | apply kept_ite_snd
                                | apply optKept_some | exact optKept_none | apply optKept_ite | exact Kept.refl _
                                | dsimp only | intro _ | split)

theorem State.supFirst_kept {m : Nat} {r s : State} (hm : Covers m 0x2000000000000000000000000002000) (h : Kept m r s) (c) (sample)  : Kept m r (State.supFirst c sample s) := by
  unfold State.supFirst
  repeat' (with_reducible first | assumption | exact Covers.trans hm (by decide) | apply State.modSup_kept
                                | apply State.putField_kept | apply foldl_kept | apply kept_ite | apply kept_ite_snd
                                | apply optKept_some | exact optKept_none | apply optKept_ite | exact Kept.refl _
                                | dsimp only | intro _)

theorem execSupPeriodStart_kept {m : Nat} {s : State} (hm : Covers m 0x20000000000000000006000000000000000000000000002220) (sc) (sample) {t : State} (e : execSupPeriodStart sc sample s = .next t) : Kept m s t := by
  refine done_kept ?_ e
  repeat' (with_reducible first | assumption | exact Covers.trans hm (by decide) | apply State.live_kept
                                | apply State.putField_kept | apply State.supNewPeriod_kept | apply State.supFirst_kept
                                | apply State.modSup_kept | apply foldl_kept | apply kept_ite | apply kept_ite_snd
                                | apply optKept_some | exact optKept_none | apply optKept_ite | exact Kept.refl _
                                | dsimp only | intro _)

theorem State.supPeak_kept {m : Nat} {r s : State} (hm : Covers m 0x20000000000000000002000000000000000000000000002220) (h : Kept m r s) (c) (sensed) : Kept m r (State.supPeak c sensed s) := by
  unfold State.supPeak
  repeat' (with_reducible first | assumption | exact Covers.trans hm (by decide) | apply State.modSup_kept
                                | apply when_kept | apply State.supTrip_kept | apply foldl_kept | apply kept_ite
                                | apply kept_ite_snd | apply optKept_some | exact optKept_none | apply optKept_ite
                                | apply optKept_or | apply optKept_getD | exact Kept.refl _ | dsimp only | intro _
                                | split)

theorem execPeakComparatorTrip_kept {m : Nat} {s : State} (hm : Covers m 0x20000000000000000002000000000000000000000000002220) (sc) (sensed) {t : State} (e : execPeakComparatorTrip sc sensed s = .next t) : Kept m s t := by
  refine done_kept ?_ e
  repeat' (with_reducible first | assumption | exact Covers.trans hm (by decide) | apply State.live_kept
                                | apply State.supPeak_kept | apply foldl_kept | apply kept_ite | apply kept_ite_snd
                                | apply optKept_some | exact optKept_none | apply optKept_ite | apply optKept_or
                                | apply optKept_getD | exact Kept.refl _ | dsimp only | intro _ | split)

theorem execSoftStartStep_kept {m : Nat} {s : State} (hm : Covers m 0x2000000000000000000000000002000) (sc) {t : State} (e : execSoftStartStep sc s = .next t) : Kept m s t := by
  refine done_kept ?_ e
  repeat' (with_reducible first | assumption | exact Covers.trans hm (by decide) | apply State.live_kept
                                | apply State.modSup_kept | apply State.putField_kept | apply foldl_kept | apply kept_ite
                                | apply kept_ite_snd | apply optKept_some | exact optKept_none | apply optKept_ite
                                | exact Kept.refl _ | dsimp only | intro _)

theorem execRampDownDone_kept {m : Nat} {s : State} (hm : Covers m 0x2000000000000000000000000002000) (sc) {t : State} (e : execRampDownDone sc s = .next t) : Kept m s t := by
  refine done_kept ?_ e
  repeat' (with_reducible first | assumption | exact Covers.trans hm (by decide) | apply State.live_kept
                                | apply State.supLow_kept | apply foldl_kept | apply kept_ite | apply kept_ite_snd
                                | apply optKept_some | exact optKept_none | apply optKept_ite | exact Kept.refl _
                                | dsimp only | intro _ | split)

theorem State.supSet_kept {m : Nat} {r s : State} (hm : Covers m 0x2080000000000000000000000002000) (h : Kept m r s) (controllers) (op) (vset)  : Kept m r (State.supSet controllers op vset s) := by
  unfold State.supSet
  repeat' (with_reducible first | assumption | exact Covers.trans hm (by decide) | apply each_kept
                                | apply State.putField_kept | apply State.supLow_kept | apply State.supRamp_kept
                                | apply State.supStart_kept | apply foldl_kept | apply kept_ite | apply kept_ite_snd
                                | apply optKept_some | exact optKept_none | apply optKept_ite | exact Kept.refl _
                                | dsimp only | intro _ | split)

theorem State.tripsFirst_kept {m : Nat} {r s : State} (hm : Covers m 0x20000000000000000002000000000000000000000000002220) (h : Kept m r s) (controllers) : Kept m r (State.tripsFirst controllers s) := by
  unfold State.tripsFirst
  repeat' (with_reducible first | assumption | exact Covers.trans hm (by decide) | apply each_kept | apply when_kept
                                | apply State.supInput_kept | apply State.supResolve_kept
                                | apply State.supBlanked_kept | apply State.supPeak_kept | apply foldl_kept
                                | apply kept_ite | apply kept_ite_snd | apply optKept_some | exact optKept_none
                                | apply optKept_ite | apply optKept_or | apply optKept_getD | exact Kept.refl _
                                | dsimp only | intro _ | split)

theorem execSupSet_kept {m : Nat} {s : State} (hm : Covers m 0x20000000000000000002080000000000000000000000002264) (iss) (controllers) (op) (vset) {t : State} (e : execSupSet iss controllers op vset s = .next t) : Kept m s t := by
  refine done_kept ?_ e
  repeat' (with_reducible first | assumption | exact Covers.trans hm (by decide) | apply State.shadowed_kept
                                | apply State.tripsFirst_kept | apply State.supSet_kept | apply State.complete_kept
                                | apply foldl_kept | apply kept_ite | apply kept_ite_snd | apply optKept_some
                                | exact optKept_none | apply optKept_ite | apply optKept_or | apply optKept_getD
                                | exact Kept.refl _ | dsimp only | intro _ | split)

theorem execSupSelftest_kept {m : Nat} {s : State} (hm : Covers m 0x20000000000000000000000000000000000000000000000064) (iss) (controller) (comparators) {t : State} (e : execSupSelftest iss controller comparators s = .next t) : Kept m s t := by
  refine done_kept ?_ e
  repeat' (with_reducible first | assumption | exact Covers.trans hm (by decide) | apply State.command_kept
                                | apply State.defer_kept | apply foldl_kept | apply kept_ite | apply kept_ite_snd
                                | apply optKept_some | exact optKept_none | apply optKept_ite | exact Kept.refl _
                                | dsimp only | intro _)

theorem execSupSelftestEnd_kept {m : Nat} {s : State} (hm : Covers m 0x2000000000000000000000000000060) (index) (failed) {t : State} (e : execSupSelftestEnd index failed s = .next t) : Kept m s t := by
  refine done_kept ?_ e
  repeat' (with_reducible first | assumption | exact Covers.trans hm (by decide) | apply State.live_kept
                                | apply State.withHst_kept | apply State.fault_kept | apply State.putBit_kept
                                | apply foldl_kept | apply kept_ite | apply kept_ite_snd | apply optKept_some
                                | exact optKept_none | apply optKept_ite | exact Kept.refl _ | dsimp only | intro _ | split)

theorem State.modCtl_kept {m : Nat} {r s : State} (hm : Covers m 0x2000) (h : Kept m r s) (m') (f) : Kept m r (State.modCtl m' f s) := by
  unfold State.modCtl
  repeat' (with_reducible first | assumption | exact Covers.trans hm (by decide) | apply State.withMeas_kept
                                | apply foldl_kept | apply kept_ite | apply kept_ite_snd | apply optKept_some
                                | exact optKept_none | apply optKept_ite | apply optKept_or | apply optKept_getD
                                | exact Kept.refl _ | dsimp only | intro _ | split)

theorem State.activate_kept {m : Nat} {r s : State} (hm : Covers m 0x2000) (h : Kept m r s) (p) : Kept m r (State.activate p s) := by
  unfold State.activate
  repeat' (with_reducible first | assumption | exact Covers.trans hm (by decide) | apply State.modCtl_kept
                                | apply foldl_kept | apply kept_ite | apply kept_ite_snd | apply optKept_some
                                | exact optKept_none | apply optKept_ite | exact Kept.refl _ | dsimp only | intro _
                                | split)

theorem State.settleRefresh_kept {m : Nat} {r s : State} (hm : Covers m 0x2000) (h : Kept m r s)   : Kept m r (State.settleRefresh s) := by
  unfold State.settleRefresh
  repeat' (with_reducible first | assumption | exact Covers.trans hm (by decide) | apply each_kept
                                | apply State.modCtl_kept | apply foldl_kept | apply kept_ite | apply kept_ite_snd
                                | apply optKept_some | exact optKept_none | apply optKept_ite | exact Kept.refl _
                                | dsimp only | intro _ | split)

theorem State.edcRepeats_kept {m : Nat} {r s : State} (hm : Covers m 0x2000000000000000000000000000002000) (h : Kept m r s) (m') (n) : Kept m r (State.edcRepeats m' n s) := by
  unfold State.edcRepeats
  repeat' (with_reducible first | assumption | exact Covers.trans hm (by decide) | apply State.setReg64_kept
                                | apply State.modCtl_kept | apply State.setReg64_kept | apply foldl_kept
                                | apply kept_ite | apply kept_ite_snd | apply optKept_some | exact optKept_none
                                | apply optKept_ite | apply optKept_or | apply optKept_getD | exact Kept.refl _
                                | dsimp only | intro _ | split)

theorem State.maskedWrite_kept {m : Nat} {r s : State} (hm : Covers m 0x4) (h : Kept m r s) (a) (l)  : Kept m r (State.maskedWrite a l s) := by
  unfold State.maskedWrite
  repeat' (with_reducible first | assumption | exact Covers.trans hm (by decide) | apply each_kept | apply State.setMem_kept
                                | apply foldl_kept | apply kept_ite | apply kept_ite_snd | apply optKept_some
                                | exact optKept_none | apply optKept_ite | exact Kept.refl _ | dsimp only | intro _ | split)

theorem State.answerMem_kept {m : Nat} {r s : State} (hm : Covers m 0x2000) (h : Kept m r s) (g) (a) : Kept m r (State.answerMem g a s) := by
  unfold State.answerMem
  repeat' (with_reducible first | assumption | exact Covers.trans hm (by decide) | apply State.withMeas_kept
                                | apply foldl_kept | apply kept_ite | apply kept_ite_snd | apply optKept_some
                                | exact optKept_none | apply optKept_ite | exact Kept.refl _ | dsimp only | intro _
                                | split)

theorem State.accept6_kept {m : Nat} {r s : State} (hm : Covers m 0x2004) (h : Kept m r s) (m') (r') : Kept m r (State.accept6 m' r' s) := by
  unfold State.accept6
  repeat' (with_reducible first | assumption | exact Covers.trans hm (by decide) | apply State.modCtl_kept
                                | apply State.maskedWrite_kept | apply foldl_kept | apply kept_ite
                                | apply kept_ite_snd | apply optKept_some | exact optKept_none | apply optKept_ite
                                | apply optKept_or | apply optKept_getD | exact Kept.refl _ | dsimp only | intro _
                                | split)

theorem State.payOwed_kept {m : Nat} {r s : State} (hm : Covers m 0x2000) (h : Kept m r s) (m') (ch) (cls) : Kept m r (State.payOwed m' ch cls s) := by
  unfold State.payOwed
  repeat' (with_reducible first | assumption | exact Covers.trans hm (by decide) | apply State.modCtl_kept
                                | apply foldl_kept | apply kept_ite | apply kept_ite_snd | apply optKept_some
                                | exact optKept_none | apply optKept_ite | apply optKept_or | apply optKept_getD
                                | exact Kept.refl _ | dsimp only | intro _ | split)

theorem State.loseGranule_kept {m : Nat} {r s : State} (hm : Covers m 0x200) (h : Kept m r s) (g) : Kept m r (State.loseGranule g s) := by
  unfold State.loseGranule
  repeat' (with_reducible first | assumption | exact Covers.trans hm (by decide) | apply each_kept
                                | apply State.modThr_kept | apply foldl_kept | apply kept_ite | apply kept_ite_snd
                                | apply optKept_some | exact optKept_none | apply optKept_ite | apply optKept_or
                                | apply optKept_getD | exact Kept.refl _ | dsimp only | intro _ | split)

theorem State.spoil_kept {m : Nat} {r s : State} (hm : Covers m 0x12004) (h : Kept m r s) (m') (g) : Kept m r (State.spoil m' g s) := by
  unfold State.spoil
  repeat' (with_reducible first | assumption | exact Covers.trans hm (by decide) | apply each_kept
                                | apply State.draw_kept | apply State.setMem_kept | apply State.maskedWrite_kept
                                | apply State.modCtl_kept | apply foldl_kept | apply kept_ite | apply kept_ite_snd
                                | apply optKept_some | exact optKept_none | apply optKept_ite | apply optKept_or
                                | apply optKept_getD | exact Kept.refl _ | dsimp only | intro _ | split)

theorem State.voidLogs_kept {m : Nat} {r s : State} (hm : Covers m 0x1000) (h : Kept m r s) (g) : Kept m r (State.voidLogs g s) := by
  unfold State.voidLogs
  repeat' (with_reducible first | assumption | exact Covers.trans hm (by decide) | apply each_kept
                                | apply State.modLog_kept | apply foldl_kept | apply kept_ite | apply kept_ite_snd
                                | apply optKept_some | exact optKept_none | apply optKept_ite | exact Kept.refl _
                                | dsimp only | intro _ | split)

theorem State.uncorrectable_kept {m : Nat} {r s : State} (hm : Covers m 0x13224) (h : Kept m r s) (m') (r') (inj) : Kept m r (State.uncorrectable m' r' inj s) := by
  unfold State.uncorrectable
  repeat' (with_reducible first | assumption | exact Covers.trans hm (by decide) | apply State.raise_kept
                                | apply when_kept | apply State.voidLogs_kept | apply State.spoil_kept
                                | apply State.answerMem_kept | apply State.loseGranule_kept | apply foldl_kept
                                | apply kept_ite | apply kept_ite_snd | apply optKept_some | exact optKept_none
                                | apply optKept_ite | apply optKept_or | apply optKept_getD | exact Kept.refl _
                                | dsimp only | intro _ | split)

theorem State.perform6_kept {m : Nat} {r s : State} (hm : Covers m 0x8000000000000002000000000000000000000000000013224) (h : Kept m r s) (p) (r') : Kept m r (State.perform6 p r' s) := by
  unfold State.perform6
  repeat' (with_reducible first | assumption | exact Covers.trans hm (by decide) | apply when_kept
                                | apply State.loseGranule_kept | apply State.answerMem_kept
                                | apply State.useInjection_kept | apply each_kept | apply State.activate_kept
                                | apply State.edcRepeats_kept | apply State.modCtl_kept
                                | apply State.uncorrectable_kept | apply foldl_kept | apply kept_ite
                                | apply kept_ite_snd | apply optKept_some | exact optKept_none | apply optKept_ite
                                | apply optKept_or | apply optKept_getD | exact Kept.refl _ | dsimp only | intro _
                                | split)

theorem State.serve6_kept {m : Nat} {r s : State} (hm : Covers m 0x8000000000000002000000000000000000000000000013224) (h : Kept m r s) (m') (ch) : Kept m r (State.serve6 m' ch s) := by
  unfold State.serve6
  repeat' (with_reducible first | assumption | exact Covers.trans hm (by decide) | apply State.modCtl_kept
                                | apply State.payOwed_kept | apply State.perform6_kept | apply State.accept6_kept
                                | apply foldl_kept | apply kept_ite | apply kept_ite_snd | apply optKept_some
                                | exact optKept_none | apply optKept_ite | apply optKept_or | apply optKept_getD
                                | exact Kept.refl _ | dsimp only | intro _ | split)

theorem State.serveAll_kept {m : Nat} {r s : State} (hm : Covers m 0x8000000000000002000000000000000000000000000013224) (h : Kept m r s)  : Kept m r (State.serveAll s) := by
  unfold State.serveAll
  repeat' (with_reducible first | assumption | exact Covers.trans hm (by decide) | apply each_kept
                                | apply State.serve6_kept | apply foldl_kept | apply kept_ite | apply kept_ite_snd
                                | apply optKept_some | exact optKept_none | apply optKept_ite | exact Kept.refl _
                                | dsimp only | intro _ | split)

theorem execMemGranuleAccess_kept {m : Nat} {s : State} (hm : Covers m 0x8000000000000002000000000000000000000000000013224) (cls) (granule) (write) (mismatches) {t : State} (e : execMemGranuleAccess cls granule write mismatches s = .next t) : Kept m s t := by
  refine done_kept ?_ e
  repeat' (with_reducible first | assumption | exact Covers.trans hm (by decide) | apply State.live_kept
                                | apply State.answerMem_kept | apply State.perform6_kept | apply State.accept6_kept
                                | apply State.serve6_kept | apply foldl_kept | apply kept_ite | apply kept_ite_snd
                                | apply optKept_some | exact optKept_none | apply optKept_ite | apply optKept_or
                                | apply optKept_getD | exact Kept.refl _ | dsimp only | intro _ | split)

theorem execEdcWindowEnd_kept {m : Nat} {s : State} (hm : Covers m 0x2020) (mc) {t : State} (e : execEdcWindowEnd mc s = .next t) : Kept m s t := by
  refine done_kept ?_ e
  repeat' (with_reducible first | assumption | exact Covers.trans hm (by decide) | apply State.live_kept
                                | apply State.modCtl_kept | apply State.retrain_kept | apply when_kept
                                | apply State.raise_kept | apply foldl_kept | apply kept_ite | apply kept_ite_snd
                                | apply optKept_some | exact optKept_none | apply optKept_ite | apply optKept_or
                                | apply optKept_getD | exact Kept.refl _ | dsimp only | intro _ | split)

theorem execPeriodicReadRetraining_kept {m : Nat} {s : State} (hm : Covers m 0x2000) (mc) {t : State} (e : execPeriodicReadRetraining mc s = .next t) : Kept m s t := by
  refine done_kept ?_ e
  repeat' (with_reducible first | assumption | exact Covers.trans hm (by decide) | apply State.live_kept
                                | apply State.modCtl_kept | apply foldl_kept | apply kept_ite | apply kept_ite_snd
                                | apply optKept_some | exact optKept_none | apply optKept_ite | exact Kept.refl _
                                | dsimp only | intro _)

theorem State.deviceTemp_kept {m : Nat} {r s : State} (hm : Covers m 0x20008000000000000200000000000000000000000000002020) (h : Kept m r s) (a b t) : Kept m r (State.deviceTemp a b t s) := by
  unfold State.deviceTemp
  cases b <;> simp only [if_true, if_false, Bool.false_eq_true]
  all_goals repeat' (with_reducible first | assumption | exact Covers.trans hm (by decide) | apply State.fault_kept
                                          | apply State.modCtl_kept | apply State.putField_kept | apply when_kept
                                          | apply State.event_kept | apply foldl_kept | apply kept_ite | exact Kept.refl _
                                          | dsimp only | intro _ | split)

theorem execGddr6TempRead_kept {m : Nat} {s : State} (hm : Covers m 0x20008000000000000200000000000000000000000000002020) (mc) (a) (b) {t : State} (e : execGddr6TempRead mc a b s = .next t) : Kept m s t := by
  refine done_kept ?_ e
  repeat' (with_reducible first | assumption | exact Covers.trans hm (by decide) | apply State.live_kept
                                | apply State.deviceTemp_kept | apply State.modCtl_kept | apply foldl_kept | apply kept_ite
                                | apply kept_ite_snd | apply optKept_some | exact optKept_none | apply optKept_ite
                                | exact Kept.refl _ | dsimp only | intro _)

theorem execRefreshInterval_kept {m : Nat} {s : State} (hm : Covers m 0x80000000000000000000000000000000) (mc) {t : State} (e : execRefreshInterval mc s = .next t) : Kept m s t := by
  refine done_kept ?_ e
  repeat' (with_reducible first | assumption | exact Covers.trans hm (by decide) | apply State.live_kept
                                | apply State.putBit_kept | apply foldl_kept | apply kept_ite | apply kept_ite_snd
                                | apply optKept_some | exact optKept_none | apply optKept_ite | exact Kept.refl _
                                | dsimp only | intro _)

theorem execDeviceLost_kept {m : Nat} {s : State} (hm : Covers m 0x80000000000000000000000000002020) (device) {t : State} (e : execDeviceLost device s = .next t) : Kept m s t := by
  refine done_kept ?_ e
  by_cases hd : device.val % 2 = 0 <;> simp only [hd, if_true, if_false]
  all_goals repeat' (with_reducible first | assumption | exact Covers.trans hm (by decide) | apply State.live_kept
                                          | apply State.fault_kept | apply State.withMeas_kept | apply State.putField_kept
                                          | apply State.putBit_kept | apply foldl_kept | apply kept_ite | exact Kept.refl _
                                          | dsimp only | intro _)

theorem State.train_kept {m : Nat} {r s : State} (hm : Covers m 0x40000180000000000000000000000000000020) (h : Kept m r s) (failed)  : Kept m r (State.train failed s) := by
  unfold State.train
  repeat' (with_reducible first | assumption | exact Covers.trans hm (by decide) | apply each_kept
                                | apply State.putField_kept | apply State.putBit_kept | apply State.setReg_kept
                                | apply State.fault_kept | apply foldl_kept | apply kept_ite | apply kept_ite_snd
                                | apply optKept_some | exact optKept_none | apply optKept_ite | exact Kept.refl _
                                | dsimp only | intro _)

theorem State.loseVectors_kept {m : Nat} {r s : State} (hm : Covers m 0x8800000000000001000) (h : Kept m r s) (site) (n)  : Kept m r (State.loseVectors site n s) := by
  unfold State.loseVectors
  repeat' (with_reducible first | assumption | exact Covers.trans hm (by decide) | apply State.modLog_kept
                                | apply State.putBit_kept | apply State.countUp_kept)

theorem State.closeRecord_kept {m : Nat} {r s : State} (hm : Covers m 0x9800000000000001000) (h : Kept m r s) (site)  : Kept m r (State.closeRecord site s) := by
  unfold State.closeRecord
  repeat' (with_reducible first | assumption | exact Covers.trans hm (by decide) | apply State.modLog_kept
                                | apply State.putBit_kept | apply State.loseVectors_kept | apply State.setReg64_kept
                                | apply when_kept | apply State.setReg64_kept | apply State.putBit_kept
                                | apply foldl_kept | apply kept_ite | apply kept_ite_snd | apply optKept_some
                                | exact optKept_none | apply optKept_ite | exact Kept.refl _ | dsimp only | intro _
                                | split)

theorem State.logVector_kept {m : Nat} {r s : State} (hm : Covers m 0x9800000000000001000) (h : Kept m r s) (site) (v) (fails)  : Kept m r (State.logVector site v fails s) := by
  unfold State.logVector
  repeat' (with_reducible first | assumption | exact Covers.trans hm (by decide) | apply State.modLog_kept
                                | apply State.closeRecord_kept | apply foldl_kept | apply kept_ite
                                | apply kept_ite_snd | apply optKept_some | exact optKept_none | apply optKept_ite
                                | exact Kept.refl _ | dsimp only | intro _ | split)

theorem State.takeBits_kept {m : Nat} {r s : State} (hm : Covers m 0x20000000000000000000000000000016000000000000001220) (h : Kept m r s) (n) (v) : Kept m r (State.takeBits n v s) := by
  unfold State.takeBits
  repeat' (with_reducible first | assumption | exact Covers.trans hm (by decide) | apply State.modThr_kept
                                | apply State.setReg64_kept | apply State.modLog_kept | apply each_kept
                                | apply State.countUp_kept | apply State.event_kept | apply State.setReg64_kept
                                | apply State.countUp_kept | apply foldl_kept | apply kept_ite | apply kept_ite_snd
                                | apply optKept_some | exact optKept_none | apply optKept_ite | exact Kept.refl _
                                | dsimp only | intro _ | split)

theorem State.closeVector_kept {m : Nat} {r s : State} (hm : Covers m 0x9800000000000001200) (h : Kept m r s) (n) (v) : Kept m r (State.closeVector n v s) := by
  unfold State.closeVector
  repeat' (with_reducible first | assumption | exact Covers.trans hm (by decide) | apply State.modThr_kept
                                | apply State.logVector_kept | apply foldl_kept | apply kept_ite | apply kept_ite_snd
                                | apply optKept_some | exact optKept_none | apply optKept_ite | exact Kept.refl _
                                | dsimp only | intro _ | split)

theorem execFailBitCapture_kept {m : Nat} {s : State} (hm : Covers m 0x2000000000000000000000000000001f800000000000001264) (site) {t : State} (e : execFailBitCapture site s = .next t) : Kept m s t := by
  refine done_kept ?_ e
  repeat' (with_reducible first | assumption | exact Covers.trans hm (by decide) | apply State.live_kept
                                | apply each_kept | apply State.takeBits_kept
                                | apply State.complete_kept | apply State.closeVector_kept | apply State.prune_kept
                                | apply foldl_kept | apply kept_ite | apply kept_ite_snd | apply optKept_some
                                | exact optKept_none | apply optKept_ite | exact Kept.refl _ | dsimp only | intro _
                                | split)

theorem execFailRecordTimeout_kept {m : Nat} {s : State} (hm : Covers m 0x9800000000000001000) (site) {t : State} (e : execFailRecordTimeout site s = .next t) : Kept m s t := by
  refine done_kept ?_ e
  repeat' (with_reducible first | assumption | exact Covers.trans hm (by decide) | apply State.live_kept
                                | apply State.closeRecord_kept | apply foldl_kept | apply kept_ite | apply kept_ite_snd
                                | apply optKept_some | exact optKept_none | apply optKept_ite | exact Kept.refl _
                                | dsimp only | intro _ | split)

theorem State.writeGranule_kept {m : Nat} {r s : State} (hm : Covers m 0x1004) (h : Kept m r s) (site)  : Kept m r (State.writeGranule site s) := by
  unfold State.writeGranule
  repeat' (with_reducible first | assumption | exact Covers.trans hm (by decide) | apply State.modLog_kept
                                | apply State.setMem_kept)

theorem State.drainOne_kept {m : Nat} {r s : State} (hm : Covers m 0x1004) (h : Kept m r s)  : Kept m r (State.drainOne s) := by
  unfold State.drainOne
  repeat' (with_reducible first | assumption | exact Covers.trans hm (by decide) | apply State.writeGranule_kept
                                | apply State.withCap_kept | apply foldl_kept | apply kept_ite | apply kept_ite_snd
                                | apply optKept_some | exact optKept_none | apply optKept_ite | exact Kept.refl _
                                | dsimp only | intro _ | split)

theorem State.drainLogs_kept {m : Nat} {r s : State} (hm : Covers m 0x1004) (h : Kept m r s)   : Kept m r (State.drainLogs s) := by
  unfold State.drainLogs
  repeat' (with_reducible first | assumption | exact Covers.trans hm (by decide) | apply State.withCap_kept
                                | apply State.drainOne_kept | apply foldl_kept | apply kept_ite | apply kept_ite_snd
                                | apply optKept_some | exact optKept_none | apply optKept_ite | exact Kept.refl _
                                | dsimp only | intro _ | split)

theorem execFailLogFlush_kept {m : Nat} {s : State} (hm : Covers m 0x9800000000000001004) (site) {t : State} (e : execFailLogFlush site s = .next t) : Kept m s t := by
  refine done_kept ?_ e
  repeat' (with_reducible first | assumption | exact Covers.trans hm (by decide) | apply State.live_kept
                                | apply State.closeRecord_kept | apply State.writeGranule_kept
                                | apply State.modLog_kept | apply State.putBit_kept | apply State.putBit_kept
                                | apply foldl_kept | apply kept_ite | apply kept_ite_snd | apply optKept_some
                                | exact optKept_none | apply optKept_ite | exact Kept.refl _ | dsimp only | intro _
                                | split)

theorem State.clearCapture_kept {m : Nat} {r s : State} (hm : Covers m 0x1f800000000000001000) (h : Kept m r s) (site)  : Kept m r (State.clearCapture site s) := by
  unfold State.clearCapture
  repeat' (with_reducible first | assumption | exact Covers.trans hm (by decide) | apply State.setReg64_kept
                                | apply State.setReg_kept | apply each_kept | apply State.modLog_kept
                                | apply State.setReg64_kept | apply State.setReg_kept | apply foldl_kept
                                | apply kept_ite | apply kept_ite_snd | apply optKept_some | exact optKept_none
                                | apply optKept_ite | exact Kept.refl _ | dsimp only | intro _ | split)

theorem State.dropBlock_kept {m : Nat} {r s : State} (hm : Covers m 0x9800000000000001000) (h : Kept m r s) (site) (j)  : Kept m r (State.dropBlock site j s) := by
  unfold State.dropBlock
  repeat' (with_reducible first | assumption | exact Covers.trans hm (by decide) | apply State.modLog_kept
                                | apply State.setReg64_kept | apply State.loseVectors_kept
                                | apply State.setReg64_kept | apply foldl_kept | apply kept_ite | apply kept_ite_snd
                                | apply optKept_some | exact optKept_none | apply optKept_ite | apply optKept_or
                                | apply optKept_getD | exact Kept.refl _ | dsimp only | intro _ | split)

theorem State.captureDamage_kept {m : Nat} {r s : State} (hm : Covers m 0x9800000000000001020) (h : Kept m r s) (b) (inj)  : Kept m r (State.captureDamage b inj s) := by
  unfold State.captureDamage
  repeat' (with_reducible first | assumption | exact Covers.trans hm (by decide) | apply State.raise_kept | apply each_kept
                                | apply State.dropBlock_kept | apply State.modAq_kept | apply foldl_kept | apply kept_ite
                                | apply kept_ite_snd | apply optKept_some | exact optKept_none | apply optKept_ite
                                | exact Kept.refl _ | dsimp only | intro _ | split)

theorem State.aqArm_kept {m : Nat} {r s : State} (hm : Covers m 0x30000000014000000000000000001280) (h : Kept m r s) (a)  : Kept m r (State.aqArm a s) := by
  unfold State.aqArm
  repeat' (with_reducible first | assumption | exact Covers.trans hm (by decide) | apply State.giveSamples_kept
                                | apply State.takeBlocks_kept | apply State.modAq_kept | apply State.putField_kept
                                | apply State.setReg_kept | apply State.aqFill_kept | apply State.setReg_kept
                                | apply State.putField_kept | apply foldl_kept | apply kept_ite | apply kept_ite_snd
                                | apply optKept_some | exact optKept_none | apply optKept_ite | apply optKept_or
                                | apply optKept_getD | exact Kept.refl _ | dsimp only | intro _ | split)

theorem execCapAqArm_kept {m : Nat} {s : State} (hm : Covers m 0x200000000000000000300000000140000000000000000012e4) (iss) (units) {t : State} (e : execCapAqArm iss units s = .next t) : Kept m s t := by
  refine done_kept ?_ e
  repeat' (with_reducible first | assumption | exact Covers.trans hm (by decide) | apply State.command_kept
                                | apply State.complete_kept | apply each_kept | apply State.aqArm_kept | apply foldl_kept
                                | apply kept_ite | apply kept_ite_snd | apply optKept_some | exact optKept_none
                                | apply optKept_ite | exact Kept.refl _ | dsimp only | intro _)

theorem State.abortReads_kept {m : Nat} {r s : State} (hm : Covers m 0x20000000000000000000000000000000000000000000000064) (h : Kept m r s) (l)  : Kept m r (State.abortReads l s) := by
  unfold State.abortReads
  repeat' (with_reducible first | assumption | exact Covers.trans hm (by decide) | apply State.withHst_kept | apply each_kept
                                | apply State.finish_kept | apply foldl_kept | apply kept_ite | apply kept_ite_snd
                                | apply optKept_some | exact optKept_none | apply optKept_ite | exact Kept.refl _
                                | dsimp only | intro _)

theorem execCapAqDisarm_kept {m : Nat} {s : State} (hm : Covers m 0x200000000000000000700000000040000000000000000010e4) (iss) (units) {t : State} (e : execCapAqDisarm iss units s = .next t) : Kept m s t := by
  refine done_kept ?_ e
  repeat' (with_reducible first | assumption | exact Covers.trans hm (by decide) | apply State.command_kept
                                | apply each_kept | apply State.freeBlockList_kept | apply State.modAq_kept
                                | apply State.putField_kept | apply State.aqState_kept | apply State.abortReads_kept
                                | apply State.complete_kept | apply State.putField_kept | apply foldl_kept
                                | apply kept_ite | apply kept_ite_snd | apply optKept_some | exact optKept_none
                                | apply optKept_ite | apply optKept_or | apply optKept_getD | exact Kept.refl _
                                | dsimp only | intro _ | split)

theorem execCapAqTrig_kept {m : Nat} {s : State} (hm : Covers m 0x2000000000000100000000000001c000000000000000001664) (iss) (units) {t : State} (e : execCapAqTrig iss units s = .next t) : Kept m s t := by
  refine done_kept ?_ e
  repeat' (with_reducible first | assumption | exact Covers.trans hm (by decide) | apply State.command_kept
                                | apply State.complete_kept | apply each_kept | apply State.aqTrigger_kept | apply foldl_kept
                                | apply kept_ite | apply kept_ite_snd | apply optKept_some | exact optKept_none
                                | apply optKept_ite | exact Kept.refl _ | dsimp only | intro _)

theorem execCapAqRead_kept {m : Nat} {s : State} (hm : Covers m 0x20000000000000000000000000000000000000000000000064) (iss) (dest) (unit) (slot) {t : State} (e : execCapAqRead iss dest unit slot s = .next t) : Kept m s t := by
  refine done_kept ?_ e
  repeat' (with_reducible first | assumption | exact Covers.trans hm (by decide) | apply State.command_kept
                                | apply State.defer_kept | apply foldl_kept | apply kept_ite | apply kept_ite_snd
                                | apply optKept_some | exact optKept_none | apply optKept_ite | exact Kept.refl _
                                | dsimp only | intro _)

theorem State.runAqRead_kept {m : Nat} {r s : State} (hm : Covers m 0x20000000000000000000000000000000000000000000000064) (h : Kept m r s) (d) (dest) (unit) (slot)  : Kept m r (State.runAqRead d dest unit slot s) := by
  unfold State.runAqRead
  repeat' (with_reducible first | assumption | exact Covers.trans hm (by decide) | apply State.finish_kept
                                | apply State.setMem_kept)

theorem State.loadMask_kept {m : Nat} {r s : State} (hm : Covers m 0x1000) (h : Kept m r s) (a) (bins) (img)  : Kept m r (State.loadMask a bins img s) := by
  unfold State.loadMask
  repeat' (with_reducible first | assumption | exact Covers.trans hm (by decide) | apply State.modAq_kept)

theorem execCapAqMaskLoad_kept {m : Nat} {s : State} (hm : Covers m 0x20000000000000000000000000000000000000000000001064) (iss) (source) (unit) (bins) {t : State} (e : execCapAqMaskLoad iss source unit bins s = .next t) : Kept m s t := by
  refine done_kept ?_ e
  repeat' (with_reducible first | assumption | exact Covers.trans hm (by decide) | apply State.shadowed_kept
                                | apply State.complete_kept | apply State.loadMask_kept | apply foldl_kept | apply kept_ite
                                | apply kept_ite_snd | apply optKept_some | exact optKept_none | apply optKept_ite
                                | exact Kept.refl _ | dsimp only | intro _)

theorem execCstRead_kept {m : Nat} {s : State} (hm : Covers m 0x8000000000000000040000000000009800000000000001020) (word) (flipped) {t : State} (e : execCstRead word flipped s = .next t) : Kept m s t := by
  refine done_kept ?_ e
  repeat' (with_reducible first | assumption | exact Covers.trans hm (by decide) | apply State.live_kept
                                | apply State.storeRead_kept | apply when_kept | apply State.useInjection_kept
                                | apply State.captureDamage_kept | apply foldl_kept | apply kept_ite | apply kept_ite_snd
                                | apply optKept_some | exact optKept_none | apply optKept_ite | exact Kept.refl _
                                | dsimp only | intro _)

theorem State.startThreads_kept {m : Nat} {r s : State} (hm : Covers m 0x2000000000000000007000027e00401f8800040200000032e0) (h : Kept m r s) (index) (d)  : Kept m r (State.startThreads index d s) := by
  unfold State.startThreads
  repeat' (with_reducible first | assumption | exact Covers.trans hm (by decide) | apply State.takeAborts_kept
                                | apply each_kept | apply State.modThr_kept | apply State.clearCapture_kept
                                | apply State.withHst_kept | apply foldl_kept | apply kept_ite | apply kept_ite_snd
                                | apply optKept_some | exact optKept_none | apply optKept_ite | apply optKept_or
                                | apply optKept_getD | exact Kept.refl _ | dsimp only | intro _ | split)

theorem State.startAll_kept {m : Nat} {r s : State} (hm : Covers m 0x2000000000000000007000027e00401f8800040200000032e0) (h : Kept m r s)  : Kept m r (State.startAll s) := by
  unfold State.startAll
  repeat' (with_reducible first | assumption | exact Covers.trans hm (by decide) | apply each_kept
                                | apply State.startThreads_kept | apply foldl_kept | apply kept_ite
                                | apply kept_ite_snd | apply optKept_some | exact optKept_none | apply optKept_ite
                                | apply optKept_or | apply optKept_getD | exact Kept.refl _ | dsimp only | intro _
                                | split)

end Sys2Proof.Machine
end

