-- ==== Sys2Proof/Laws/KeptLink.lean ====
section
/-! SUPPORT. What the operations and meanings of time, KelorLink, and the Hazel cores leave as it was. -/

namespace Sys2Proof.Machine

theorem State.setTod_kept {m : Nat} {r s : State} (hm : Covers m 0x100) (h : Kept m r s) (t)  : Kept m r (State.setTod t s) := by
  unfold State.setTod
  repeat' (with_reducible first | assumption | exact Covers.trans hm (by decide) | apply State.withNtu_kept)

theorem State.takeInc_kept {m : Nat} {r s : State} (hm : Covers m 0x400000000000000000000000000000000000100) (h : Kept m r s)  : Kept m r (State.takeInc s) := by
  unfold State.takeInc
  repeat' (with_reducible first | assumption | exact Covers.trans hm (by decide) | apply State.setReg64_kept
                                | apply State.withNtu_kept | apply State.setReg64_kept | apply foldl_kept
                                | apply kept_ite | apply kept_ite_snd | apply optKept_some | exact optKept_none
                                | apply optKept_ite | apply optKept_or | apply optKept_getD | exact Kept.refl _
                                | dsimp only | intro _ | split)

theorem State.advanceTod_kept {m : Nat} {r s : State} (hm : Covers m 0x8400000000000000000000000000000000000100) (h : Kept m r s)   : Kept m r (State.advanceTod s) := by
  unfold State.advanceTod
  repeat' (with_reducible first | assumption | exact Covers.trans hm (by decide) | apply State.setTod_kept
                                | apply State.withNtu_kept | apply State.putBit_kept | apply State.takeInc_kept
                                | apply State.putBit_kept | apply foldl_kept | apply kept_ite | apply kept_ite_snd
                                | apply optKept_some | exact optKept_none | apply optKept_ite | apply optKept_or
                                | apply optKept_getD | exact Kept.refl _ | dsimp only | intro _ | split)

theorem State.writeInc_kept {m : Nat} {r s : State} (hm : Covers m 0x120) (h : Kept m r s) (who) (v) : Kept m r (State.writeInc who v s) := by
  unfold State.writeInc
  repeat' (with_reducible first | assumption | exact Covers.trans hm (by decide) | apply State.withNtu_kept
                                | apply State.fault_kept | apply foldl_kept | apply kept_ite | apply kept_ite_snd
                                | apply optKept_some | exact optKept_none | apply optKept_ite | apply optKept_or
                                | apply optKept_getD | exact Kept.refl _ | dsimp only | intro _ | split)

theorem State.holdLo_kept {m : Nat} {r s : State} (hm : Covers m 0x40) (h : Kept m r s) (who) (st) (i) (v)  : Kept m r (State.holdLo who st i v s) := by
  unfold State.holdLo
  repeat' (with_reducible first | assumption | exact Covers.trans hm (by decide) | apply State.withHst_kept)

theorem State.writeIncWord_kept {m : Nat} {r s : State} (hm : Covers m 0x160) (h : Kept m r s) (who) (high) (v)  : Kept m r (State.writeIncWord who high v s) := by
  unfold State.writeIncWord
  repeat' (with_reducible first | assumption | exact Covers.trans hm (by decide) | apply State.writeInc_kept
                                | apply State.holdLo_kept | apply foldl_kept | apply kept_ite | apply kept_ite_snd
                                | apply optKept_some | exact optKept_none | apply optKept_ite | apply optKept_or
                                | apply optKept_getD | exact Kept.refl _ | dsimp only | intro _ | split)

theorem execNtuIncWrite_kept {m : Nat} {s : State} (hm : Covers m 0x160) (who) (high) (value) {t : State} (e : execNtuIncWrite who high value s = .next t) : Kept m s t := by
  refine done_kept ?_ e
  repeat' (with_reducible first | assumption | exact Covers.trans hm (by decide) | apply State.live_kept
                                | apply State.writeIncWord_kept | apply foldl_kept | apply kept_ite
                                | apply kept_ite_snd | apply optKept_some | exact optKept_none | apply optKept_ite
                                | apply optKept_or | apply optKept_getD | exact Kept.refl _ | dsimp only | intro _
                                | split)

theorem execNtuTodRead_kept {m : Nat} {s : State} (hm : Covers m 0x20000000000000000000000000000000000000000000000064) (iss) {t : State} (e : execNtuTodRead iss s = .next t) : Kept m s t := by
  refine done_kept ?_ e
  repeat' (with_reducible first | assumption | exact Covers.trans hm (by decide) | apply State.command_kept
                                | apply State.complete_kept | apply foldl_kept | apply kept_ite | apply kept_ite_snd
                                | apply optKept_some | exact optKept_none | apply optKept_ite | exact Kept.refl _
                                | dsimp only | intro _)

theorem execNtuTodStep_kept {m : Nat} {s : State} (hm : Covers m 0x20000000000000000000000000000000000000000000000064) (iss) (mode) (lbc) (value) (nanos) {t : State} (e : execNtuTodStep iss mode lbc value nanos s = .next t) : Kept m s t := by
  refine done_kept ?_ e
  repeat' (with_reducible first | assumption | exact Covers.trans hm (by decide) | apply State.command_kept
                                | apply State.defer_kept | apply foldl_kept | apply kept_ite | apply kept_ite_snd
                                | apply optKept_some | exact optKept_none | apply optKept_ite | exact Kept.refl _
                                | dsimp only | intro _)

theorem State.modAlarm_kept {m : Nat} {r s : State} (hm : Covers m 0x100) (h : Kept m r s) (i) (f)  : Kept m r (State.modAlarm i f s) := by
  unfold State.modAlarm
  repeat' (with_reducible first | assumption | exact Covers.trans hm (by decide) | apply State.withNtu_kept)

theorem State.alarmOver_kept {m : Nat} {r s : State} (hm : Covers m 0x20000000000000000000000000000000000000040) (h : Kept m r s) (i) (status) (how)  : Kept m r (State.alarmOver i status how s) := by
  unfold State.alarmOver
  repeat' (with_reducible first | assumption | exact Covers.trans hm (by decide) | apply State.modDeferred_kept
                                | apply State.putField_kept)

theorem State.fireAlarm_kept {m : Nat} {r s : State} (hm : Covers m 0x2000000002000100000000000001c000000000000000003760) (h : Kept m r s) (i)  : Kept m r (State.fireAlarm i s) := by
  unfold State.fireAlarm
  repeat' (with_reducible first | assumption | exact Covers.trans hm (by decide) | apply State.modAlarm_kept
                                | apply State.event_kept | apply State.happenAll_kept | apply State.triggerAll_kept
                                | apply State.adcTrigger_kept | apply State.withSeq_kept | apply State.withNtu_kept
                                | apply State.alarmOver_kept | apply foldl_kept | apply kept_ite | apply kept_ite_snd
                                | apply optKept_some | exact optKept_none | apply optKept_ite | apply optKept_or
                                | apply optKept_getD | exact Kept.refl _ | dsimp only | intro _ | split)

theorem State.sendAlarms_kept {m : Nat} {r s : State} (hm : Covers m 0x20000000000001000000000000000000000000000000000520) (h : Kept m r s)  : Kept m r (State.sendAlarms s) := by
  unfold State.sendAlarms
  repeat' (with_reducible first | assumption | exact Covers.trans hm (by decide) | apply each_kept
                                | apply State.flood_kept | apply State.withNtu_kept | apply foldl_kept
                                | apply kept_ite | apply kept_ite_snd | apply optKept_some | exact optKept_none
                                | apply optKept_ite | apply optKept_or | apply optKept_getD | exact Kept.refl _
                                | dsimp only | intro _ | split)

theorem execAlarmFire_kept {m : Nat} {s : State} (hm : Covers m 0x2000000002000100000000000001c000000000000000003760) (alarm) {t : State} (e : execAlarmFire alarm s = .next t) : Kept m s t := by
  refine done_kept ?_ e
  repeat' (with_reducible first | assumption | exact Covers.trans hm (by decide) | apply State.live_kept | apply when_kept
                                | apply State.fireAlarm_kept | apply foldl_kept | apply kept_ite | apply kept_ite_snd
                                | apply optKept_some | exact optKept_none | apply optKept_ite | exact Kept.refl _
                                | dsimp only | intro _)

theorem execNtuAlmArm_kept {m : Nat} {s : State} (hm : Covers m 0x20000000020000000000000000000000000000000000000164) (iss) (alarm) (flags) (line) (number) (seconds) (nanos) (period) {t : State} (e : execNtuAlmArm iss alarm flags line number seconds nanos period s = .next t) : Kept m s t := by
  refine done_kept ?_ e
  repeat' (with_reducible first | assumption | exact Covers.trans hm (by decide) | apply State.command_kept
                                | apply State.putField_kept | apply State.modAlarm_kept | apply State.defer_kept
                                | apply State.putBit_kept | apply foldl_kept | apply kept_ite | apply kept_ite_snd
                                | apply optKept_some | exact optKept_none | apply optKept_ite | exact Kept.refl _
                                | dsimp only | intro _)

theorem execNtuAlmDisarm_kept {m : Nat} {s : State} (hm : Covers m 0x2000000002000100000000000001c000000000000000003764) (iss) (alarms) {t : State} (e : execNtuAlmDisarm iss alarms s = .next t) : Kept m s t := by
  refine done_kept ?_ e
  repeat' (with_reducible first | assumption | exact Covers.trans hm (by decide) | apply State.command_kept | apply each_kept
                                | apply State.fireAlarm_kept | apply State.complete_kept | apply State.alarmOver_kept
                                | apply foldl_kept | apply kept_ite | apply kept_ite_snd | apply optKept_some
                                | exact optKept_none | apply optKept_ite | exact Kept.refl _ | dsimp only | intro _)

theorem State.freeStamp_kept {m : Nat} {r s : State} (hm : Covers m 0x10000) (h : Kept m r s) (p)  : Kept m r (State.freeStamp s p).2 := by
  unfold State.freeStamp
  repeat' (with_reducible first | assumption | exact Covers.trans hm (by decide) | apply State.draw_kept
                                | apply foldl_kept | apply kept_ite | apply kept_ite_snd | apply optKept_some
                                | exact optKept_none | apply optKept_ite | exact Kept.refl _ | dsimp only | intro _
                                | split)

theorem State.returnTimed_kept {m : Nat} {r s : State} (hm : Covers m 0x40) (h : Kept m r s) (hit) (status)  : Kept m r (State.returnTimed hit status s) := by
  unfold State.returnTimed
  repeat' (with_reducible first | assumption | exact Covers.trans hm (by decide) | apply State.withHst_kept)

theorem execNtuTxTimed_kept {m : Nat} {s : State} (hm : Covers m 0x20000000000000000000000000000000000000000000000064) (iss) (source) (length) (port) (queue) (seconds) (nanos) {t : State} (e : execNtuTxTimed iss source length port queue seconds nanos s = .next t) : Kept m s t := by
  refine done_kept ?_ e
  repeat' (with_reducible first | assumption | exact Covers.trans hm (by decide) | apply State.command_kept
                                | apply State.defer_kept | apply foldl_kept | apply kept_ite | apply kept_ite_snd
                                | apply optKept_some | exact optKept_none | apply optKept_ite | exact Kept.refl _
                                | dsimp only | intro _)

theorem State.launch_kept {m : Nat} {r s : State} (hm : Covers m 0x10540) (h : Kept m r s) (p) (i) (d)  : Kept m r (State.launch p i d s) := by
  unfold State.launch
  repeat' (with_reducible first | assumption | exact Covers.trans hm (by decide) | apply State.withNtu_kept
                                | apply State.withHst_kept | apply State.modPort_kept | apply State.freeStamp_kept
                                | apply foldl_kept | apply kept_ite | apply kept_ite_snd | apply optKept_some
                                | exact optKept_none | apply optKept_ite | apply optKept_or | apply optKept_getD
                                | exact Kept.refl _ | dsimp only | intro _ | split)

theorem execTimedFrameLaunch_kept {m : Nat} {s : State} (hm : Covers m 0x10540) (port) (queue) {t : State} (e : execTimedFrameLaunch port queue s = .next t) : Kept m s t := by
  refine done_kept ?_ e
  repeat' (with_reducible first | assumption | exact Covers.trans hm (by decide) | apply State.live_kept
                                | apply State.launch_kept | apply foldl_kept | apply kept_ite | apply kept_ite_snd
                                | apply optKept_some | exact optKept_none | apply optKept_ite | apply optKept_or
                                | apply optKept_getD | exact Kept.refl _ | dsimp only | intro _ | split)

theorem execEthernetLinkDown_kept {m : Nat} {s : State} (hm : Covers m 0x140) (eth) {t : State} (e : execEthernetLinkDown eth s = .next t) : Kept m s t := by
  refine done_kept ?_ e
  repeat' (with_reducible first | assumption | exact Covers.trans hm (by decide) | apply State.live_kept
                                | apply State.withNtu_kept | apply State.returnTimed_kept | apply foldl_kept
                                | apply kept_ite | apply kept_ite_snd | apply optKept_some | exact optKept_none
                                | apply optKept_ite | apply optKept_or | apply optKept_getD | exact Kept.refl _
                                | dsimp only | intro _ | split)

theorem State.cancelTodStarts_kept {m : Nat} {r s : State} (hm : Covers m 0x2000000000000000007000027e00401f8800040200000032e0) (h : Kept m r s)   : Kept m r (State.cancelTodStarts s) := by
  unfold State.cancelTodStarts
  repeat' (with_reducible first | assumption | exact Covers.trans hm (by decide) | apply State.takeAborts_kept
                                | apply State.startAll_kept | apply each_kept | apply State.endThread_kept
                                | apply State.withHst_kept | apply foldl_kept | apply kept_ite | apply kept_ite_snd
                                | apply optKept_some | exact optKept_none | apply optKept_ite | apply optKept_or
                                | apply optKept_getD | exact Kept.refl _ | dsimp only | intro _ | split)

theorem State.correctTod_kept {m : Nat} {r s : State} (hm : Covers m 0x2000000002800000007000027e00401f8800040200000033e0) (h : Kept m r s) (delta) (servo)  : Kept m r (State.correctTod delta servo s) := by
  unfold State.correctTod
  repeat' (with_reducible first | assumption | exact Covers.trans hm (by decide) | apply State.putBit_kept
                                | apply State.withNtu_kept | apply State.setTod_kept | apply State.putField_kept
                                | apply each_kept | apply State.alarmOver_kept | apply State.cancelTodStarts_kept
                                | apply State.returnTimed_kept | apply State.fault_kept | apply foldl_kept | apply kept_ite
                                | apply kept_ite_snd | apply optKept_some | exact optKept_none | apply optKept_ite
                                | exact Kept.refl _ | dsimp only | intro _)

theorem execTodStepApply_kept {m : Nat} {s : State} (hm : Covers m 0x2000000002800000007000027e00401f8800040200000033e0)  {t : State} (e : execTodStepApply s = .next t) : Kept m s t := by
  refine done_kept ?_ e
  repeat' (with_reducible first | assumption | exact Covers.trans hm (by decide) | apply State.live_kept
                                | apply State.correctTod_kept | apply State.modDeferred_kept | apply State.withNtu_kept
                                | apply foldl_kept | apply kept_ite | apply kept_ite_snd | apply optKept_some
                                | exact optKept_none | apply optKept_ite | exact Kept.refl _ | dsimp only | intro _ | split)

theorem State.modStream_kept {m : Nat} {r s : State} (hm : Covers m 0x400) (h : Kept m r s) (p) (f) : Kept m r (State.modStream p f s) := by
  unfold State.modStream
  repeat' (with_reducible first | assumption | exact Covers.trans hm (by decide) | apply State.modPort_kept
                                | apply foldl_kept | apply kept_ite | apply kept_ite_snd | apply optKept_some
                                | exact optKept_none | apply optKept_ite | apply optKept_or | apply optKept_getD
                                | exact Kept.refl _ | dsimp only | intro _ | split)

theorem State.putLink_kept {m : Nat} {r s : State} (hm : Covers m 0x400) (h : Kept m r s) (p) : Kept m r (State.putLink p s) := by
  unfold State.putLink
  repeat' (with_reducible first | assumption | exact Covers.trans hm (by decide) | apply State.modPort_kept
                                | apply foldl_kept | apply kept_ite | apply kept_ite_snd | apply optKept_some
                                | exact optKept_none | apply optKept_ite | apply optKept_or | apply optKept_getD
                                | exact Kept.refl _ | dsimp only | intro _ | split)

theorem State.openBlock_kept {m : Nat} {r s : State} (hm : Covers m 0x400) (h : Kept m r s) (p) : Kept m r (State.openBlock p s) := by
  unfold State.openBlock
  repeat' (with_reducible first | assumption | exact Covers.trans hm (by decide) | apply when_kept
                                | apply State.putLink_kept | apply foldl_kept | apply kept_ite | apply kept_ite_snd
                                | apply optKept_some | exact optKept_none | apply optKept_ite | apply optKept_or
                                | apply optKept_getD | exact Kept.refl _ | dsimp only | intro _ | split)

theorem State.closeBlock_kept {m : Nat} {r s : State} (hm : Covers m 0x400) (h : Kept m r s) (p) : Kept m r (State.closeBlock p s) := by
  unfold State.closeBlock
  repeat' (with_reducible first | assumption | exact Covers.trans hm (by decide) | apply State.modStream_kept
                                | apply foldl_kept | apply kept_ite | apply kept_ite_snd | apply optKept_some
                                | exact optKept_none | apply optKept_ite | apply optKept_or | apply optKept_getD
                                | exact Kept.refl _ | dsimp only | intro _ | split)

theorem State.makeRoom_kept {m : Nat} {r s : State} (hm : Covers m 0x400) (h : Kept m r s) (p) (n) : Kept m r (State.makeRoom p n s) := by
  unfold State.makeRoom
  repeat' (with_reducible first | assumption | exact Covers.trans hm (by decide) | apply State.openBlock_kept
                                | apply State.closeBlock_kept | apply when_kept | apply State.putLink_kept
                                | apply foldl_kept | apply kept_ite | apply kept_ite_snd | apply optKept_some
                                | exact optKept_none | apply optKept_ite | apply optKept_or | apply optKept_getD
                                | exact Kept.refl _ | dsimp only | intro _ | split)

theorem State.putWords_kept {m : Nat} {r s : State} (hm : Covers m 0x400) (h : Kept m r s) (p) (l) : Kept m r (State.putWords p l s) := by
  unfold State.putWords
  repeat' (with_reducible first | assumption | exact Covers.trans hm (by decide) | apply State.modStream_kept
                                | apply State.closeBlock_kept | apply foldl_kept | apply kept_ite
                                | apply kept_ite_snd | apply optKept_some | exact optKept_none | apply optKept_ite
                                | apply optKept_or | apply optKept_getD | exact Kept.refl _ | dsimp only | intro _
                                | split)

theorem State.putIdle_kept {m : Nat} {r s : State} (hm : Covers m 0x400) (h : Kept m r s) (p) : Kept m r (State.putIdle p s) := by
  unfold State.putIdle
  repeat' (with_reducible first | assumption | exact Covers.trans hm (by decide) | apply State.makeRoom_kept
                                | apply State.putWords_kept | apply foldl_kept | apply kept_ite | apply kept_ite_snd
                                | apply optKept_some | exact optKept_none | apply optKept_ite | apply optKept_or
                                | apply optKept_getD | exact Kept.refl _ | dsimp only | intro _ | split)

theorem State.setPort_kept {m : Nat} {r s : State} (hm : Covers m 0x40000000000000000000000000000000400) (h : Kept m r s) (p) (st)  : Kept m r (State.setPort p st s) := by
  unfold State.setPort
  repeat' (with_reducible first | assumption | exact Covers.trans hm (by decide) | apply State.putField_kept
                                | apply State.modPort_kept)

theorem State.freeBuffers_kept {m : Nat} {r s : State} (hm : Covers m 0x400) (h : Kept m r s) (p) (vc) (n)  : Kept m r (State.freeBuffers p vc n s) := by
  unfold State.freeBuffers
  repeat' (with_reducible first | assumption | exact Covers.trans hm (by decide) | apply State.modPort_kept)

theorem State.copyLeft_kept {m : Nat} {r s : State} (hm : Covers m 0x400) (h : Kept m r s) (x)  : Kept m r (State.copyLeft x s) := by
  unfold State.copyLeft
  repeat' (with_reducible first | assumption | exact Covers.trans hm (by decide) | apply State.freeBuffers_kept
                                | apply foldl_kept | apply kept_ite | apply kept_ite_snd | apply optKept_some
                                | exact optKept_none | apply optKept_ite | exact Kept.refl _ | dsimp only | intro _)

theorem State.timedOver_kept {m : Nat} {r s : State} (hm : Covers m 0x40) (h : Kept m r s) (n) (status) (res) : Kept m r (State.timedOver n status res s) := by
  unfold State.timedOver
  repeat' (with_reducible first | assumption | exact Covers.trans hm (by decide) | apply State.modDeferred_kept
                                | apply foldl_kept | apply kept_ite | apply kept_ite_snd | apply optKept_some
                                | exact optKept_none | apply optKept_ite | apply optKept_or | apply optKept_getD
                                | exact Kept.refl _ | dsimp only | intro _ | split)

theorem State.unsent_kept {m : Nat} {r s : State} (hm : Covers m 0x440) (h : Kept m r s) (x) : Kept m r (State.unsent x s) := by
  unfold State.unsent
  repeat' (with_reducible first | assumption | exact Covers.trans hm (by decide) | apply State.timedOver_kept
                                | apply State.copyLeft_kept | apply foldl_kept | apply kept_ite | apply kept_ite_snd
                                | apply optKept_some | exact optKept_none | apply optKept_ite | apply optKept_or
                                | apply optKept_getD | exact Kept.refl _ | dsimp only | intro _ | split)

theorem State.discardQueued_kept {m : Nat} {r s : State} (hm : Covers m 0x440) (h : Kept m r s) (p) (hit)  : Kept m r (State.discardQueued p hit s) := by
  unfold State.discardQueued
  repeat' (with_reducible first | assumption | exact Covers.trans hm (by decide) | apply each_kept
                                | apply State.unsent_kept | apply State.modPort_kept | apply foldl_kept
                                | apply kept_ite | apply kept_ite_snd | apply optKept_some | exact optKept_none
                                | apply optKept_ite | apply optKept_or | apply optKept_getD | exact Kept.refl _
                                | dsimp only | intro _ | split)

theorem State.dropQueue_kept {m : Nat} {r s : State} (hm : Covers m 0x20000000000001000000000000000000000000000000000460) (h : Kept m r s) (p)  : Kept m r (State.dropQueue p s) := by
  unfold State.dropQueue
  repeat' (with_reducible first | assumption | exact Covers.trans hm (by decide) | apply each_kept
                                | apply State.dropFrame_kept | apply State.discardQueued_kept | apply foldl_kept
                                | apply kept_ite | apply kept_ite_snd | apply optKept_some | exact optKept_none
                                | apply optKept_ite | exact Kept.refl _ | dsimp only | intro _)

theorem State.upLost_kept {m : Nat} {r s : State} (hm : Covers m 0x8000000000000000000000000000000000000020) (h : Kept m r s)   : Kept m r (State.upLost s) := by
  unfold State.upLost
  repeat' (with_reducible first | assumption | exact Covers.trans hm (by decide) | apply State.fault_kept
                                | apply State.putBit_kept | apply foldl_kept | apply kept_ite | apply kept_ite_snd
                                | apply optKept_some | exact optKept_none | apply optKept_ite | exact Kept.refl _
                                | dsimp only | intro _)

theorem State.modDelay_kept {m : Nat} {r s : State} (hm : Covers m 0x100) (h : Kept m r s) (p) (f)  : Kept m r (State.modDelay p f s) := by
  unfold State.modDelay
  repeat' (with_reducible first | assumption | exact Covers.trans hm (by decide) | apply State.withNtu_kept)

theorem State.leaveActive_kept {m : Nat} {r s : State} (hm : Covers m 0x20000000008000000000000000000000000000000000000560) (h : Kept m r s) (p)  : Kept m r (State.leaveActive p s) := by
  unfold State.leaveActive
  repeat' (with_reducible first | assumption | exact Covers.trans hm (by decide) | apply State.event_kept
                                | apply State.returnTimed_kept | apply State.modDelay_kept
                                | apply State.discardQueued_kept | apply State.upLost_kept | apply foldl_kept
                                | apply kept_ite | apply kept_ite_snd | apply optKept_some | exact optKept_none
                                | apply optKept_ite | exact Kept.refl _ | dsimp only | intro _ | split)

theorem State.noLanes_kept {m : Nat} {r s : State} (hm : Covers m 0x40000000000000000000000000000000000) (h : Kept m r s) (p)  : Kept m r (State.noLanes p s) := by
  unfold State.noLanes
  repeat' (with_reducible first | assumption | exact Covers.trans hm (by decide) | apply State.putField_kept)

theorem State.retrain_kept {m : Nat} {r s : State} (hm : Covers m 0x20000000008000040000000000000000000000000000000560) (h : Kept m r s) (p) (st) (fresh)  : Kept m r (State.retrain p st fresh s) := by
  unfold State.retrain
  repeat' (with_reducible first | assumption | exact Covers.trans hm (by decide) | apply State.modPort_kept
                                | apply State.leaveActive_kept | apply State.setPort_kept | apply State.noLanes_kept)

theorem State.failAttempt_kept {m : Nat} {r s : State} (hm : Covers m 0x20000000008001040000000000000000000000000000000560) (h : Kept m r s) (p)  : Kept m r (State.failAttempt p s) := by
  unfold State.failAttempt
  repeat' (with_reducible first | assumption | exact Covers.trans hm (by decide) | apply State.putField_kept
                                | apply State.retrain_kept | apply State.fault_kept | apply State.event_kept
                                | apply State.dropQueue_kept | apply State.setPort_kept | apply foldl_kept | apply kept_ite
                                | apply kept_ite_snd | apply optKept_some | exact optKept_none | apply optKept_ite
                                | exact Kept.refl _ | dsimp only | intro _)

theorem State.updateHop_kept {m : Nat} {r s : State} (hm : Covers m 0x100000000000000000000000000000000000) (h : Kept m r s) (p)  : Kept m r (State.updateHop p s) := by
  unfold State.updateHop
  repeat' (with_reducible first | assumption | exact Covers.trans hm (by decide) | apply State.putField_kept)

theorem State.putLanes_kept {m : Nat} {r s : State} (hm : Covers m 0x40000000000000000000000000000000400) (h : Kept m r s) (p) (lanes) : Kept m r (State.putLanes p lanes s) := by
  unfold State.putLanes
  repeat' (with_reducible first | assumption | exact Covers.trans hm (by decide) | apply State.putField_kept
                                | apply State.modPort_kept | apply State.putField_kept | apply foldl_kept
                                | apply kept_ite | apply kept_ite_snd | apply optKept_some | exact optKept_none
                                | apply optKept_ite | apply optKept_or | apply optKept_getD | exact Kept.refl _
                                | dsimp only | intro _ | split)

theorem State.setLanes_kept {m : Nat} {r s : State} (hm : Covers m 0x140000000000000000000000000000000400) (h : Kept m r s) (p) (lanes)  : Kept m r (State.setLanes p lanes s) := by
  unfold State.setLanes
  repeat' (with_reducible first | assumption | exact Covers.trans hm (by decide) | apply State.putLanes_kept
                                | apply State.modPort_kept | apply State.updateHop_kept | apply foldl_kept
                                | apply kept_ite | apply kept_ite_snd | apply optKept_some | exact optKept_none
                                | apply optKept_ite | apply optKept_or | apply optKept_getD | exact Kept.refl _
                                | dsimp only | intro _ | split)

theorem State.keepLanes_kept {m : Nat} {r s : State} (hm : Covers m 0x140000000000000000000000000000000400) (h : Kept m r s) (p) (left) : Kept m r (State.keepLanes p left s) := by
  unfold State.keepLanes
  repeat' (with_reducible first | assumption | exact Covers.trans hm (by decide) | apply State.putLanes_kept
                                | apply State.modPort_kept | apply State.updateHop_kept | apply foldl_kept
                                | apply kept_ite | apply kept_ite_snd | apply optKept_some | exact optKept_none
                                | apply optKept_ite | apply optKept_or | apply optKept_getD | exact Kept.refl _
                                | dsimp only | intro _ | split)

theorem execSignalDetect_kept {m : Nat} {s : State} (hm : Covers m 0x40000000000000000000000000000000400) (port) (lanes) {t : State} (e : execSignalDetect port lanes s = .next t) : Kept m s t := by
  refine done_kept ?_ e
  repeat' (with_reducible first | assumption | exact Covers.trans hm (by decide) | apply State.live_kept
                                | apply State.setPort_kept | apply State.modPort_kept | apply foldl_kept | apply kept_ite
                                | apply kept_ite_snd | apply optKept_some | exact optKept_none | apply optKept_ite
                                | exact Kept.refl _ | dsimp only | intro _)

theorem execLaneLock_kept {m : Nat} {s : State} (hm : Covers m 0x40000000000000000000000000000000400) (port) (lanes) {t : State} (e : execLaneLock port lanes s = .next t) : Kept m s t := by
  refine done_kept ?_ e
  repeat' (with_reducible first | assumption | exact Covers.trans hm (by decide) | apply State.live_kept
                                | apply State.setPort_kept | apply State.modPort_kept | apply foldl_kept | apply kept_ite
                                | apply kept_ite_snd | apply optKept_some | exact optKept_none | apply optKept_ite
                                | exact Kept.refl _ | dsimp only | intro _)

theorem execEqAgreed_kept {m : Nat} {s : State} (hm : Covers m 0x40000000000000000000000000000000400) (port) {t : State} (e : execEqAgreed port s = .next t) : Kept m s t := by
  refine done_kept ?_ e
  repeat' (with_reducible first | assumption | exact Covers.trans hm (by decide) | apply State.live_kept
                                | apply State.setPort_kept | apply foldl_kept | apply kept_ite | apply kept_ite_snd
                                | apply optKept_some | exact optKept_none | apply optKept_ite | exact Kept.refl _
                                | dsimp only | intro _)

theorem execNegotiateExchange_kept {m : Nat} {s : State} (hm : Covers m 0x20000000008001140000000000000000000000000000000560) (port) (partner) {t : State} (e : execNegotiateExchange port partner s = .next t) : Kept m s t := by
  refine done_kept ?_ e
  repeat' (with_reducible first | assumption | exact Covers.trans hm (by decide) | apply State.live_kept
                                | apply State.modPort_kept | apply State.fault_kept
                                | apply State.failAttempt_kept | apply State.setPort_kept | apply State.putBit_kept
                                | apply State.putField_kept | apply State.setLanes_kept | apply State.putField_kept
                                | apply State.putBit_kept | apply foldl_kept | apply kept_ite | apply kept_ite_snd
                                | apply optKept_some | exact optKept_none | apply optKept_ite | exact Kept.refl _
                                | dsimp only | intro _ | split)

theorem State.discardRetry_kept {m : Nat} {r s : State} (hm : Covers m 0x1000000000000000000000000000000000420) (h : Kept m r s) (p)  : Kept m r (State.discardRetry p s) := by
  unfold State.discardRetry
  repeat' (with_reducible first | assumption | exact Covers.trans hm (by decide) | apply State.modPort_kept
                                | apply State.fault_kept | apply State.countUp_kept | apply foldl_kept | apply kept_ite
                                | apply kept_ite_snd | apply optKept_some | exact optKept_none | apply optKept_ite
                                | exact Kept.refl _ | dsimp only | intro _)

theorem State.freshStart_kept {m : Nat} {r s : State} (hm : Covers m 0x10000700000000000000000000000000005a0) (h : Kept m r s) (p) (partner) (credits)  : Kept m r (State.freshStart p partner credits s) := by
  unfold State.freshStart
  repeat' (with_reducible first | assumption | exact Covers.trans hm (by decide) | apply State.discardRetry_kept
                                | apply State.modDelay_kept | apply State.freeBlockList_kept
                                | apply State.takeBlocks_kept | apply State.modPort_kept | apply foldl_kept
                                | apply kept_ite | apply kept_ite_snd | apply optKept_some | exact optKept_none
                                | apply optKept_ite | apply optKept_or | apply optKept_getD | exact Kept.refl _
                                | dsimp only | intro _ | split)

theorem State.enterActive_kept {m : Nat} {r s : State} (hm : Covers m 0x20000000000000140000000000000000000000000000000420) (h : Kept m r s) (p) (resumed)  : Kept m r (State.enterActive p resumed s) := by
  unfold State.enterActive
  repeat' (with_reducible first | assumption | exact Covers.trans hm (by decide) | apply State.modPort_kept
                                | apply State.putField_kept | apply State.putBit_kept | apply State.setPort_kept
                                | apply State.event_kept | apply State.updateHop_kept | apply State.fault_kept
                                | apply State.putField_kept | apply State.putBit_kept | apply foldl_kept
                                | apply kept_ite | apply kept_ite_snd | apply optKept_some | exact optKept_none
                                | apply optKept_ite | exact Kept.refl _ | dsimp only | intro _ | split)

theorem execCreditInit_kept {m : Nat} {s : State} (hm : Covers m 0x200000000000011400700000000000000000000000000005a0) (port) (partnerId) (partnerSession) (partnerCredits) {t : State} (e : execCreditInit port partnerId partnerSession partnerCredits s = .next t) : Kept m s t := by
  refine done_kept ?_ e
  repeat' (with_reducible first | assumption | exact Covers.trans hm (by decide) | apply State.live_kept
                                | apply State.enterActive_kept | apply State.discardRetry_kept
                                | apply State.freshStart_kept | apply foldl_kept | apply kept_ite
                                | apply kept_ite_snd | apply optKept_some | exact optKept_none | apply optKept_ite
                                | apply optKept_or | apply optKept_getD | exact Kept.refl _ | dsimp only | intro _
                                | split)

theorem execTrainingTimeout_kept {m : Nat} {s : State} (hm : Covers m 0x20000000008001040000000000000000000000000000000560) (port) {t : State} (e : execTrainingTimeout port s = .next t) : Kept m s t := by
  refine done_kept ?_ e
  repeat' (with_reducible first | assumption | exact Covers.trans hm (by decide) | apply State.live_kept
                                | apply State.failAttempt_kept | apply foldl_kept | apply kept_ite | apply kept_ite_snd
                                | apply optKept_some | exact optKept_none | apply optKept_ite | exact Kept.refl _
                                | dsimp only | intro _ | split)

theorem execLossOfSignal_kept {m : Nat} {s : State} (hm : Covers m 0x20000000008001040000000000000000000000000000000560) (port) (lanes) {t : State} (e : execLossOfSignal port lanes s = .next t) : Kept m s t := by
  refine done_kept ?_ e
  repeat' (with_reducible first | assumption | exact Covers.trans hm (by decide) | apply State.live_kept
                                | apply State.failAttempt_kept | apply foldl_kept | apply kept_ite | apply kept_ite_snd
                                | apply optKept_some | exact optKept_none | apply optKept_ite | exact Kept.refl _
                                | dsimp only | intro _)

theorem execNoPartnerRetry_kept {m : Nat} {s : State} (hm : Covers m 0x40000000000000000000000000000000400) (port) {t : State} (e : execNoPartnerRetry port s = .next t) : Kept m s t := by
  refine done_kept ?_ e
  repeat' (with_reducible first | assumption | exact Covers.trans hm (by decide) | apply State.live_kept
                                | apply State.setPort_kept | apply State.putField_kept | apply foldl_kept | apply kept_ite
                                | apply kept_ite_snd | apply optKept_some | exact optKept_none | apply optKept_ite
                                | exact Kept.refl _ | dsimp only | intro _)

theorem State.disablePort_kept {m : Nat} {r s : State} (hm : Covers m 0x200000000080010400700000000000000000000000000005e0) (h : Kept m r s) (p)  : Kept m r (State.disablePort p s) := by
  unfold State.disablePort
  repeat' (with_reducible first | assumption | exact Covers.trans hm (by decide) | apply State.discardRetry_kept
                                | apply State.leaveActive_kept | apply State.dropQueue_kept | apply State.setPort_kept
                                | apply State.noLanes_kept | apply State.freeBlockList_kept | apply State.modPort_kept)

theorem execKlkPortCtl_kept {m : Nat} {s : State} (hm : Covers m 0x20000000008000040000000000000000000000000000000564) (iss) (ports) (op) {t : State} (e : execKlkPortCtl iss ports op s = .next t) : Kept m s t := by
  refine done_kept ?_ e
  repeat' (with_reducible first | assumption | exact Covers.trans hm (by decide) | apply State.command_kept | apply each_kept
                                | apply State.setPort_kept | apply State.putField_kept | apply State.modPort_kept
                                | apply State.retrain_kept | apply State.complete_kept | apply foldl_kept | apply kept_ite
                                | apply kept_ite_snd | apply optKept_some | exact optKept_none | apply optKept_ite
                                | exact Kept.refl _ | dsimp only | intro _)

theorem State.replayLimit_kept {m : Nat} {r s : State} (hm : Covers m 0x20000000008000040000000000000000000000000000000560) (h : Kept m r s) (p)  : Kept m r (State.replayLimit p s) := by
  unfold State.replayLimit
  repeat' (with_reducible first | assumption | exact Covers.trans hm (by decide) | apply State.raise_kept
                                | apply State.event_kept | apply State.retrain_kept | apply State.modPort_kept)

theorem State.replay_kept {m : Nat} {r s : State} (hm : Covers m 0x20000000008000440000000000000000000000000000000560) (h : Kept m r s) (p)  : Kept m r (State.replay p s) := by
  unfold State.replay
  repeat' (with_reducible first | assumption | exact Covers.trans hm (by decide) | apply State.replayLimit_kept
                                | apply State.modPort_kept | apply State.countUp_kept | apply foldl_kept | apply kept_ite
                                | apply kept_ite_snd | apply optKept_some | exact optKept_none | apply optKept_ite
                                | exact Kept.refl _ | dsimp only | intro _)

theorem execReplayTimeout_kept {m : Nat} {s : State} (hm : Covers m 0x20000000008000440000000000000000000000000000000560) (port) {t : State} (e : execReplayTimeout port s = .next t) : Kept m s t := by
  refine done_kept ?_ e
  repeat' (with_reducible first | assumption | exact Covers.trans hm (by decide) | apply State.live_kept
                                | apply State.replay_kept | apply foldl_kept | apply kept_ite | apply kept_ite_snd
                                | apply optKept_some | exact optKept_none | apply optKept_ite | exact Kept.refl _
                                | dsimp only | intro _)

theorem execRefuseReplay_kept {m : Nat} {s : State} (hm : Covers m 0x400) (port) {t : State} (e : execRefuseReplay port s = .next t) : Kept m s t := by
  refine done_kept ?_ e
  repeat' (with_reducible first | assumption | exact Covers.trans hm (by decide) | apply State.live_kept
                                | apply State.modPort_kept | apply foldl_kept | apply kept_ite | apply kept_ite_snd
                                | apply optKept_some | exact optKept_none | apply optKept_ite | exact Kept.refl _
                                | dsimp only | intro _ | split)

theorem State.stampFrame_kept {m : Nat} {r s : State} (hm : Covers m 0x100) (h : Kept m r s) (p) (t) (f) : Kept m r (State.stampFrame p t f s).2 := by
  unfold State.stampFrame
  repeat' (with_reducible first | assumption | exact Covers.trans hm (by decide) | apply State.modDelay_kept
                                | apply foldl_kept | apply kept_ite | apply kept_ite_snd | apply optKept_some
                                | exact optKept_none | apply optKept_ite | apply optKept_or | apply optKept_getD
                                | exact Kept.refl _ | dsimp only | intro _ | split)

theorem State.injectFrame_kept {m : Nat} {r s : State} (hm : Covers m 0x8000000000000000000000000000000000000000000000400) (h : Kept m r s) (p)  : Kept m r (State.injectFrame p s) := by
  unfold State.injectFrame
  repeat' (with_reducible first | assumption | exact Covers.trans hm (by decide) | apply State.modPort_kept
                                | apply State.useInjection_kept | apply foldl_kept | apply kept_ite | apply kept_ite_snd
                                | apply optKept_some | exact optKept_none | apply optKept_ite | exact Kept.refl _
                                | dsimp only | intro _)

theorem State.sendFrame_kept {m : Nat} {r s : State} (hm : Covers m 0x8000000000000000000000000000000000000000000000400) (h : Kept m r s) (p) (f) : Kept m r (State.sendFrame p f s) := by
  unfold State.sendFrame
  repeat' (with_reducible first | assumption | exact Covers.trans hm (by decide) | apply State.putWords_kept
                                | apply State.injectFrame_kept | apply foldl_kept | apply kept_ite
                                | apply kept_ite_snd | apply optKept_some | exact optKept_none | apply optKept_ite
                                | apply optKept_or | apply optKept_getD | exact Kept.refl _ | dsimp only | intro _
                                | split)

theorem State.transmitAgain_kept {m : Nat} {r s : State} (hm : Covers m 0x8000000000000000000000000000000000000000000000500) (h : Kept m r s) (p) (ofs) (x) (rest) : Kept m r (State.transmitAgain p ofs x rest s) := by
  unfold State.transmitAgain
  repeat' (with_reducible first | assumption | exact Covers.trans hm (by decide) | apply State.makeRoom_kept
                                | apply State.stampFrame_kept | apply State.modPort_kept | apply State.sendFrame_kept
                                | apply foldl_kept | apply kept_ite | apply kept_ite_snd | apply optKept_some
                                | exact optKept_none | apply optKept_ite | apply optKept_or | apply optKept_getD
                                | exact Kept.refl _ | dsimp only | intro _ | split)

theorem State.transmitNew_kept {m : Nat} {r s : State} (hm : Covers m 0x8000000000000000000000000000000000000000000000540) (h : Kept m r s) (p) (ofs) (x) : Kept m r (State.transmitNew p ofs x s) := by
  unfold State.transmitNew
  repeat' (with_reducible first | assumption | exact Covers.trans hm (by decide) | apply State.makeRoom_kept
                                | apply State.stampFrame_kept | apply State.modPort_kept | apply State.timedOver_kept
                                | apply State.copyLeft_kept | apply State.sendFrame_kept | apply foldl_kept
                                | apply kept_ite | apply kept_ite_snd | apply optKept_some | exact optKept_none
                                | apply optKept_ite | apply optKept_or | apply optKept_getD | exact Kept.refl _
                                | dsimp only | intro _ | split)

theorem State.dropSent_kept {m : Nat} {r s : State} (hm : Covers m 0x20000000000001000000000000000000000000000000000460) (h : Kept m r s) (p) (x) : Kept m r (State.dropSent p x s) := by
  unfold State.dropSent
  repeat' (with_reducible first | assumption | exact Covers.trans hm (by decide) | apply State.modPort_kept
                                | apply State.unsent_kept | apply State.dropFrame_kept | apply foldl_kept
                                | apply kept_ite | apply kept_ite_snd | apply optKept_some | exact optKept_none
                                | apply optKept_ite | apply optKept_or | apply optKept_getD | exact Kept.refl _
                                | dsimp only | intro _ | split)

theorem execFrameTransmit_kept {m : Nat} {s : State} (hm : Covers m 0x28000000000001000000000000000000000000000000000560) (crossing) {t : State} (e : execFrameTransmit crossing s = .next t) : Kept m s t := by
  refine done_kept ?_ e
  repeat' (with_reducible first | assumption | exact Covers.trans hm (by decide) | apply State.live_kept
                                | apply State.transmitAgain_kept | apply State.dropSent_kept
                                | apply State.putIdle_kept | apply State.transmitNew_kept | apply foldl_kept
                                | apply kept_ite | apply kept_ite_snd | apply optKept_some | exact optKept_none
                                | apply optKept_ite | apply optKept_or | apply optKept_getD | exact Kept.refl _
                                | dsimp only | intro _ | split)

theorem State.narrow_kept {m : Nat} {r s : State} (hm : Covers m 0x20000000008000540000000000000000000000000000000560) (h : Kept m r s) (p) (left) (gone) : Kept m r (State.narrow p left gone s) := by
  unfold State.narrow
  repeat' (with_reducible first | assumption | exact Covers.trans hm (by decide) | apply State.modPort_kept
                                | apply State.keepLanes_kept | apply State.putBit_kept | apply State.modDelay_kept
                                | apply State.fault_kept | apply State.event_kept | apply State.replay_kept
                                | apply State.putBit_kept | apply foldl_kept | apply kept_ite | apply kept_ite_snd
                                | apply optKept_some | exact optKept_none | apply optKept_ite | apply optKept_or
                                | apply optKept_getD | exact Kept.refl _ | dsimp only | intro _ | split)

theorem State.laneLost_kept {m : Nat} {r s : State} (hm : Covers m 0x20000000008001540000000000000000000000000000000560) (h : Kept m r s) (p) (lane) (errors) : Kept m r (State.laneLost p lane errors s) := by
  unfold State.laneLost
  repeat' (with_reducible first | assumption | exact Covers.trans hm (by decide) | apply State.failAttempt_kept
                                | apply State.narrow_kept | apply foldl_kept | apply kept_ite | apply kept_ite_snd
                                | apply optKept_some | exact optKept_none | apply optKept_ite | apply optKept_or
                                | apply optKept_getD | exact Kept.refl _ | dsimp only | intro _ | split)

theorem State.followLanes_kept {m : Nat} {r s : State} (hm : Covers m 0x20000000008000540000000000000000000000000000000560) (h : Kept m r s) (p) (told) : Kept m r (State.followLanes p told s) := by
  unfold State.followLanes
  repeat' (with_reducible first | assumption | exact Covers.trans hm (by decide) | apply State.narrow_kept
                                | apply foldl_kept | apply kept_ite | apply kept_ite_snd | apply optKept_some
                                | exact optKept_none | apply optKept_ite | apply optKept_or | apply optKept_getD
                                | exact Kept.refl _ | dsimp only | intro _ | split)

theorem State.hearLanes_kept {m : Nat} {r s : State} (hm : Covers m 0x20000000008001540000000000000000000000000000000560) (h : Kept m r s) (p) (told) (lost) : Kept m r (State.hearLanes p told lost s) := by
  unfold State.hearLanes
  repeat' (with_reducible first | assumption | exact Covers.trans hm (by decide) | apply State.failAttempt_kept
                                | apply State.modPort_kept | apply State.narrow_kept | apply State.followLanes_kept
                                | apply foldl_kept | apply kept_ite | apply kept_ite_snd | apply optKept_some
                                | exact optKept_none | apply optKept_ite | apply optKept_or | apply optKept_getD
                                | exact Kept.refl _ | dsimp only | intro _ | split)

theorem State.loseLanes_kept {m : Nat} {r s : State} (hm : Covers m 0x20000000008001540000000000000000000000000000000560) (h : Kept m r s) (p) (l) : Kept m r (State.loseLanes p l s) := by
  unfold State.loseLanes
  repeat' (with_reducible first | assumption | exact Covers.trans hm (by decide) | apply each_kept
                                | apply State.laneLost_kept | apply foldl_kept | apply kept_ite | apply kept_ite_snd
                                | apply optKept_some | exact optKept_none | apply optKept_ite | apply optKept_or
                                | apply optKept_getD | exact Kept.refl _ | dsimp only | intro _ | split)

theorem execLaneLoss_kept {m : Nat} {s : State} (hm : Covers m 0x20000000008001540000000000000000000000000000000560) (port) (lane) (errors) {t : State} (e : execLaneLoss port lane errors s = .next t) : Kept m s t := by
  refine done_kept ?_ e
  repeat' (with_reducible first | assumption | exact Covers.trans hm (by decide) | apply State.live_kept
                                | apply State.laneLost_kept | apply foldl_kept | apply kept_ite
                                | apply kept_ite_snd | apply optKept_some | exact optKept_none | apply optKept_ite
                                | exact Kept.refl _ | dsimp only | intro _ | split)

theorem State.frameError_kept {m : Nat} {r s : State} (hm : Covers m 0x200000000000000000000000000000000400) (h : Kept m r s) (p) : Kept m r (State.frameError p s) := by
  unfold State.frameError
  repeat' (with_reducible first | assumption | exact Covers.trans hm (by decide) | apply State.countUp_kept
                                | apply State.modPort_kept | apply State.countUp_kept | apply foldl_kept
                                | apply kept_ite | apply kept_ite_snd | apply optKept_some | exact optKept_none
                                | apply optKept_ite | exact Kept.refl _ | dsimp only | intro _ | split)

theorem State.receiveFrame_kept {m : Nat} {r s : State} (hm : Covers m 0x20000000008000240000000000000000000000000000000560) (h : Kept m r s) (p) (lane) (frame) : Kept m r (State.receiveFrame p lane frame s) := by
  unfold State.receiveFrame
  repeat' (with_reducible first | assumption | exact Covers.trans hm (by decide) | apply State.frameError_kept
                                | apply State.modPort_kept | apply State.fault_kept | apply State.retrain_kept
                                | apply foldl_kept | apply kept_ite | apply kept_ite_snd | apply optKept_some
                                | exact optKept_none | apply optKept_ite | apply optKept_or | apply optKept_getD
                                | exact Kept.refl _ | dsimp only | intro _ | split)

theorem State.linkAck_kept {m : Nat} {r s : State} (hm : Covers m 0x400) (h : Kept m r s) (p) (a)  : Kept m r (State.linkAck p a s) := by
  unfold State.linkAck
  repeat' (with_reducible first | assumption | exact Covers.trans hm (by decide) | apply State.modPort_kept
                                | apply foldl_kept | apply kept_ite | apply kept_ite_snd | apply optKept_some
                                | exact optKept_none | apply optKept_ite | apply optKept_or | apply optKept_getD
                                | exact Kept.refl _ | dsimp only | intro _ | split)

theorem State.receiveLink_kept {m : Nat} {r s : State} (hm : Covers m 0x20000000008001f40000000000000000000000000000000560) (h : Kept m r s) (p) (frame) : Kept m r (State.receiveLink p frame s) := by
  unfold State.receiveLink
  repeat' (with_reducible first | assumption | exact Covers.trans hm (by decide) | apply State.frameError_kept
                                | apply State.linkAck_kept | apply State.modPort_kept | apply State.countUp_kept
                                | apply State.hearLanes_kept | apply State.replay_kept | apply State.countUp_kept
                                | apply foldl_kept | apply kept_ite | apply kept_ite_snd | apply optKept_some
                                | exact optKept_none | apply optKept_ite | apply optKept_or | apply optKept_getD
                                | exact Kept.refl _ | dsimp only | intro _ | split)

theorem execLinkReceive_kept {m : Nat} {s : State} (hm : Covers m 0x20000000008001f40000000000000000000000000000000560) (port) (frame) {t : State} (e : execLinkReceive port frame s = .next t) : Kept m s t := by
  refine done_kept ?_ e
  repeat' (with_reducible first | assumption | exact Covers.trans hm (by decide) | apply State.live_kept
                                | apply State.receiveLink_kept | apply foldl_kept | apply kept_ite
                                | apply kept_ite_snd | apply optKept_some | exact optKept_none | apply optKept_ite
                                | exact Kept.refl _ | dsimp only | intro _ | split)

theorem State.noteLanes_kept {m : Nat} {r s : State} (hm : Covers m 0x400) (h : Kept m r s) (p) (lines) : Kept m r (State.noteLanes p lines s) := by
  unfold State.noteLanes
  repeat' (with_reducible first | assumption | exact Covers.trans hm (by decide) | apply each_kept
                                | apply State.modPort_kept | apply foldl_kept | apply kept_ite | apply kept_ite_snd
                                | apply optKept_some | exact optKept_none | apply optKept_ite | exact Kept.refl _
                                | dsimp only | intro _ | split)

theorem State.receiveBlock_kept {m : Nat} {r s : State} (hm : Covers m 0x20000000008001f40000000000000000000000000000000560) (h : Kept m r s) (p) (lines) : Kept m r (State.receiveBlock p lines s) := by
  unfold State.receiveBlock
  repeat' (with_reducible first | assumption | exact Covers.trans hm (by decide) | apply State.noteLanes_kept
                                | apply each_kept | apply State.receiveLink_kept | apply State.receiveFrame_kept
                                | apply State.frameError_kept | apply State.loseLanes_kept | apply foldl_kept
                                | apply kept_ite | apply kept_ite_snd | apply optKept_some | exact optKept_none
                                | apply optKept_ite | apply optKept_or | apply optKept_getD | exact Kept.refl _
                                | dsimp only | intro _ | split)

theorem State.modRx_kept {m : Nat} {r s : State} (hm : Covers m 0x400) (h : Kept m r s) (p) (f) : Kept m r (State.modRx p f s) := by
  unfold State.modRx
  repeat' (with_reducible first | assumption | exact Covers.trans hm (by decide) | apply State.modPort_kept
                                | apply foldl_kept | apply kept_ite | apply kept_ite_snd | apply optKept_some
                                | exact optKept_none | apply optKept_ite | apply optKept_or | apply optKept_getD
                                | exact Kept.refl _ | dsimp only | intro _ | split)

theorem State.modRxLane_kept {m : Nat} {r s : State} (hm : Covers m 0x400) (h : Kept m r s) (p) (i) (f) : Kept m r (State.modRxLane p i f s) := by
  unfold State.modRxLane
  repeat' (with_reducible first | assumption | exact Covers.trans hm (by decide) | apply State.modRx_kept
                                | apply foldl_kept | apply kept_ite | apply kept_ite_snd | apply optKept_some
                                | exact optKept_none | apply optKept_ite | apply optKept_or | apply optKept_getD
                                | exact Kept.refl _ | dsimp only | intro _ | split)

theorem State.receiveAll_kept {m : Nat} {r s : State} (hm : Covers m 0x20000000008001f40000000000000000000000000000000560) (h : Kept m r s) (p) (l) : Kept m r (State.receiveAll p l s) := by
  unfold State.receiveAll
  repeat' (with_reducible first | assumption | exact Covers.trans hm (by decide) | apply each_kept
                                | apply State.receiveLink_kept | apply State.receiveFrame_kept
                                | apply State.frameError_kept | apply foldl_kept | apply kept_ite
                                | apply kept_ite_snd | apply optKept_some | exact optKept_none | apply optKept_ite
                                | apply optKept_or | apply optKept_getD | exact Kept.refl _ | dsimp only | intro _
                                | split)

theorem State.markerPlace_kept {m : Nat} {r s : State} (hm : Covers m 0x20000000008001740000000000000000000000000000000560) (h : Kept m r s) (p) (seen) : Kept m r (State.markerPlace p seen s) := by
  unfold State.markerPlace
  repeat' (with_reducible first | assumption | exact Covers.trans hm (by decide) | apply State.frameError_kept
                                | apply State.modRx_kept | apply State.modPort_kept | apply State.loseLanes_kept
                                | apply foldl_kept | apply kept_ite | apply kept_ite_snd | apply optKept_some
                                | exact optKept_none | apply optKept_ite | apply optKept_or | apply optKept_getD
                                | exact Kept.refl _ | dsimp only | intro _ | split)

theorem State.takeWords_kept {m : Nat} {r s : State} (hm : Covers m 0x20000000008001f40000000000000000000000000000000560) (h : Kept m r s) (p) (l) : Kept m r (State.takeWords p l s) := by
  unfold State.takeWords
  repeat' (with_reducible first | assumption | exact Covers.trans hm (by decide) | apply State.modRx_kept
                                | apply State.receiveAll_kept | apply State.markerPlace_kept | apply foldl_kept
                                | apply kept_ite | apply kept_ite_snd | apply optKept_some | exact optKept_none
                                | apply optKept_ite | apply optKept_or | apply optKept_getD | exact Kept.refl _
                                | dsimp only | intro _ | split)

theorem State.takeRow_kept {m : Nat} {r s : State} (hm : Covers m 0x20000000008001f40000000000000000000000000000000560) (h : Kept m r s) (p) : Kept m r (State.takeRow p s) := by
  unfold State.takeRow
  repeat' (with_reducible first | assumption | exact Covers.trans hm (by decide) | apply each_kept
                                | apply State.modRxLane_kept | apply State.takeWords_kept
                                | apply State.markerPlace_kept | apply foldl_kept | apply kept_ite
                                | apply kept_ite_snd | apply optKept_some | exact optKept_none | apply optKept_ite
                                | apply optKept_or | apply optKept_getD | exact Kept.refl _ | dsimp only | intro _
                                | split)

theorem State.alignLanes_kept {m : Nat} {r s : State} (hm : Covers m 0x400) (h : Kept m r s) (p) : Kept m r (State.alignLanes p s) := by
  unfold State.alignLanes
  repeat' (with_reducible first | assumption | exact Covers.trans hm (by decide) | apply each_kept
                                | apply State.modRxLane_kept | apply State.modRx_kept | apply foldl_kept
                                | apply kept_ite | apply kept_ite_snd | apply optKept_some | exact optKept_none
                                | apply optKept_ite | apply optKept_or | apply optKept_getD | exact Kept.refl _
                                | dsimp only | intro _ | split)

theorem State.followMarkers_kept {m : Nat} {r s : State} (hm : Covers m 0x20000000008000540000000000000000000000000000000560) (h : Kept m r s) (p) : Kept m r (State.followMarkers p s) := by
  unfold State.followMarkers
  repeat' (with_reducible first | assumption | exact Covers.trans hm (by decide) | apply State.followLanes_kept
                                | apply foldl_kept | apply kept_ite | apply kept_ite_snd | apply optKept_some
                                | exact optKept_none | apply optKept_ite | apply optKept_or | apply optKept_getD
                                | exact Kept.refl _ | dsimp only | intro _ | split)

theorem State.receiveStream_kept {m : Nat} {r s : State} (hm : Covers m 0x20000000008001f40000000000000000000000000000000560) (h : Kept m r s) (p) (lines) : Kept m r (State.receiveStream p lines s) := by
  unfold State.receiveStream
  repeat' (with_reducible first | assumption | exact Covers.trans hm (by decide) | apply each_kept
                                | apply State.modRxLane_kept | apply State.followMarkers_kept
                                | apply State.loseLanes_kept | apply State.alignLanes_kept | apply State.takeRow_kept
                                | apply foldl_kept | apply kept_ite | apply kept_ite_snd | apply optKept_some
                                | exact optKept_none | apply optKept_ite | apply optKept_or | apply optKept_getD
                                | exact Kept.refl _ | dsimp only | intro _ | split)

theorem execAlignmentMarkerReceive_kept {m : Nat} {s : State} (hm : Covers m 0x20000000008000540000000000000000000000000000000560) (port) (position) (width) {t : State} (e : execAlignmentMarkerReceive port position width s = .next t) : Kept m s t := by
  refine done_kept ?_ e
  repeat' (with_reducible first | assumption | exact Covers.trans hm (by decide) | apply State.live_kept
                                | apply State.modPort_kept | apply State.followLanes_kept | apply foldl_kept
                                | apply kept_ite | apply kept_ite_snd | apply optKept_some | exact optKept_none
                                | apply optKept_ite | apply optKept_or | apply optKept_getD | exact Kept.refl _
                                | dsimp only | intro _ | split)

theorem execKlFrameReceive_kept {m : Nat} {s : State} (hm : Covers m 0x20000000008001f40000000000000000000000000000000560) (port) (wire) {t : State} (e : execKlFrameReceive port wire s = .next t) : Kept m s t := by
  refine done_kept ?_ e
  repeat' (with_reducible first | assumption | exact Covers.trans hm (by decide) | apply State.live_kept
                                | apply State.receiveFrame_kept | apply State.receiveBlock_kept
                                | apply State.receiveStream_kept | apply foldl_kept | apply kept_ite
                                | apply kept_ite_snd | apply optKept_some | exact optKept_none | apply optKept_ite
                                | apply optKept_or | apply optKept_getD | exact Kept.refl _ | dsimp only | intro _
                                | split)

theorem State.takeArrival_kept {m : Nat} {r s : State} (hm : Covers m 0x400) (h : Kept m r s) (p) (type)  : Kept m r (State.takeArrival p type s).2 := by
  unfold State.takeArrival
  repeat' (with_reducible first | assumption | exact Covers.trans hm (by decide) | apply State.modPort_kept
                                | apply foldl_kept | apply kept_ite | apply kept_ite_snd | apply optKept_some
                                | exact optKept_none | apply optKept_ite | exact Kept.refl _ | dsimp only | intro _ | split)

theorem State.consumed_kept {m : Nat} {r s : State} (hm : Covers m 0x400) (h : Kept m r s) (p) (x)  : Kept m r (State.consumed p x s) := by
  unfold State.consumed
  repeat' (with_reducible first | assumption | exact Covers.trans hm (by decide) | apply State.freeBuffers_kept)

theorem State.floodOn_kept {m : Nat} {r s : State} (hm : Covers m 0x20000000000001000000000000000000000000000000000420) (h : Kept m r s) (p) (x)  : Kept m r (State.floodOn p x s) := by
  unfold State.floodOn
  repeat' (with_reducible first | assumption | exact Covers.trans hm (by decide) | apply State.consumed_kept
                                | apply State.floodFrom_kept | apply foldl_kept | apply kept_ite | apply kept_ite_snd
                                | apply optKept_some | exact optKept_none | apply optKept_ite | apply optKept_or
                                | apply optKept_getD | exact Kept.refl _ | dsimp only | intro _ | split)

theorem State.forward_kept {m : Nat} {r s : State} (hm : Covers m 0x20000000000001000000000000000000000000000000000420) (h : Kept m r s) (p) (x)  : Kept m r (State.forward p x s) := by
  unfold State.forward
  repeat' (with_reducible first | assumption | exact Covers.trans hm (by decide) | apply State.dropFrame_kept
                                | apply State.consumed_kept | apply State.queueFrame_kept | apply foldl_kept
                                | apply kept_ite | apply kept_ite_snd | apply optKept_some | exact optKept_none
                                | apply optKept_ite | exact Kept.refl _ | dsimp only | intro _ | split)

theorem State.sendRouted_kept {m : Nat} {r s : State} (hm : Covers m 0x20000000000001000000000000000000000000000000000420) (h : Kept m r s) (origin) (f)  : Kept m r (State.sendRouted origin f s) := by
  unfold State.sendRouted
  repeat' (with_reducible first | assumption | exact Covers.trans hm (by decide) | apply State.dropFrame_kept
                                | apply State.queueFrame_kept | apply foldl_kept | apply kept_ite
                                | apply kept_ite_snd | apply optKept_some | exact optKept_none | apply optKept_ite
                                | exact Kept.refl _ | dsimp only | intro _ | split)

theorem execCondReceive_kept {m : Nat} {s : State} (hm : Covers m 0x20000000000001000000000000000000000000000000000620) (port) {t : State} (e : execCondReceive port s = .next t) : Kept m s t := by
  refine done_kept ?_ e
  repeat' (with_reducible first | assumption | exact Covers.trans hm (by decide) | apply State.live_kept
                                | apply State.takeArrival_kept | apply State.condHeard_kept
                                | apply State.floodOn_kept | apply foldl_kept | apply kept_ite | apply kept_ite_snd
                                | apply optKept_some | exact optKept_none | apply optKept_ite | apply optKept_or
                                | apply optKept_getD | exact Kept.refl _ | dsimp only | intro _ | split | rfl
                                | (refine kept_snd ?_ (by assumption)))

theorem State.trigHeard_kept {m : Nat} {r s : State} (hm : Covers m 0x2000000000000100000000000001c000000000000000003620) (h : Kept m r s) (k') : Kept m r (State.trigHeard k' s) := by
  unfold State.trigHeard
  repeat' (with_reducible first | assumption | exact Covers.trans hm (by decide) | apply State.triggerAll_kept
                                | apply State.adcTrigger_kept | apply foldl_kept | apply kept_ite
                                | apply kept_ite_snd | apply optKept_some | exact optKept_none | apply optKept_ite
                                | apply optKept_or | apply optKept_getD | exact Kept.refl _ | dsimp only | intro _
                                | split)

theorem execTrigReceive_kept {m : Nat} {s : State} (hm : Covers m 0x2000000000000100000000000001c000000000000000003620) (port) {t : State} (e : execTrigReceive port s = .next t) : Kept m s t := by
  refine done_kept ?_ e
  repeat' (with_reducible first | assumption | exact Covers.trans hm (by decide) | apply State.live_kept
                                | apply State.takeArrival_kept | apply State.trigHeard_kept
                                | apply State.floodOn_kept | apply foldl_kept | apply kept_ite | apply kept_ite_snd
                                | apply optKept_some | exact optKept_none | apply optKept_ite | apply optKept_or
                                | apply optKept_getD | exact Kept.refl _ | dsimp only | intro _ | split | rfl
                                | (refine kept_snd ?_ (by assumption)))

theorem execKlkTrigSend_kept {m : Nat} {s : State} (hm : Covers m 0x20000000000001000000000000000000000000000000000464) (iss) (number) {t : State} (e : execKlkTrigSend iss number s = .next t) : Kept m s t := by
  refine done_kept ?_ e
  repeat' (with_reducible first | assumption | exact Covers.trans hm (by decide) | apply State.command_kept | apply State.flood_kept | apply State.complete_kept
                                | apply foldl_kept | apply kept_ite | apply kept_ite_snd | apply optKept_some
                                | exact optKept_none | apply optKept_ite | exact Kept.refl _ | dsimp only | intro _
                                | split)

theorem State.modLane_kept {m : Nat} {r s : State} (hm : Covers m 0x400) (h : Kept m r s) (l) (f)  : Kept m r (State.modLane l f s) := by
  unfold State.modLane
  repeat' (with_reducible first | assumption | exact Covers.trans hm (by decide) | apply State.withKlk_kept)

theorem State.endTest_kept {m : Nat} {r s : State} (hm : Covers m 0x2000000000000000000000000000000000400) (h : Kept m r s) (l) : Kept m r (State.endTest l s) := by
  unfold State.endTest
  repeat' (with_reducible first | assumption | exact Covers.trans hm (by decide) | apply each_kept
                                | apply State.modLane_kept | apply State.putBit_kept | apply State.putBit_kept
                                | apply foldl_kept | apply kept_ite | apply kept_ite_snd | apply optKept_some
                                | exact optKept_none | apply optKept_ite | apply optKept_or | apply optKept_getD
                                | exact Kept.refl _ | dsimp only | intro _ | split)

theorem execKlkPrbs_kept {m : Nat} {s : State} (hm : Covers m 0x20000000000006000000000000000000000000000000000464) (iss) (lanes) (op) (pattern) (rate) (flags) (exponent) {t : State} (e : execKlkPrbs iss lanes op pattern rate flags exponent s = .next t) : Kept m s t := by
  refine done_kept ?_ e
  repeat' (with_reducible first | assumption | exact Covers.trans hm (by decide) | apply State.command_kept
                                | apply each_kept | apply State.modLane_kept | apply State.setReg_kept
                                | apply State.putBit_kept | apply State.complete_kept | apply State.setReg_kept
                                | apply State.putBit_kept | apply foldl_kept | apply kept_ite | apply kept_ite_snd
                                | apply optKept_some | exact optKept_none | apply optKept_ite | apply optKept_or
                                | apply optKept_getD | exact Kept.refl _ | dsimp only | intro _ | split)

theorem execEthernetLinkUp_kept {m : Nat} {s : State} (hm : Covers m 0x2000000000000000000000000000000000500) (eth) {t : State} (e : execEthernetLinkUp eth s = .next t) : Kept m s t := by
  refine done_kept ?_ e
  repeat' (with_reducible first | assumption | exact Covers.trans hm (by decide) | apply State.live_kept
                                | apply State.withNtu_kept | apply State.endTest_kept | apply foldl_kept
                                | apply kept_ite | apply kept_ite_snd | apply optKept_some | exact optKept_none
                                | apply optKept_ite | apply optKept_or | apply optKept_getD | exact Kept.refl _
                                | dsimp only | intro _ | split)

theorem execPrbsCheck_kept {m : Nat} {s : State} (hm : Covers m 0x20000000000006000000000000000000000000000000000420) (lane) (received) {t : State} (e : execPrbsCheck lane received s = .next t) : Kept m s t := by
  refine done_kept ?_ e
  repeat' (with_reducible first | assumption | exact Covers.trans hm (by decide) | apply State.live_kept
                                | apply State.modLane_kept | apply State.countUp_kept | apply when_kept
                                | apply State.event_kept | apply State.putBit_kept | apply State.putBit_kept
                                | apply State.countUp_kept | apply foldl_kept | apply kept_ite | apply kept_ite_snd
                                | apply optKept_some | exact optKept_none | apply optKept_ite | apply optKept_or
                                | apply optKept_getD | exact Kept.refl _ | dsimp only | intro _ | split)

theorem State.servo_kept {m : Nat} {r s : State} (hm : Covers m 0x8000000000000000000000000000000000000100) (h : Kept m r s) (o)  : Kept m r (State.servo o s) := by
  unfold State.servo
  repeat' (with_reducible first | assumption | exact Covers.trans hm (by decide) | apply State.withNtu_kept | apply when_kept
                                | apply State.putBit_kept | apply foldl_kept | apply kept_ite | apply kept_ite_snd
                                | apply optKept_some | exact optKept_none | apply optKept_ite | exact Kept.refl _
                                | dsimp only | intro _)

theorem State.syncHeard_kept {m : Nat} {r s : State} (hm : Covers m 0x18000000000000000000000000000000000000100) (h : Kept m r s) (p) (rx) (f)  : Kept m r (State.syncHeard p rx f s) := by
  unfold State.syncHeard
  repeat' (with_reducible first | assumption | exact Covers.trans hm (by decide) | apply State.setReg64_kept
                                | apply State.putBit_kept | apply State.withNtu_kept | apply State.servo_kept
                                | apply foldl_kept | apply kept_ite | apply kept_ite_snd | apply optKept_some
                                | exact optKept_none | apply optKept_ite | exact Kept.refl _ | dsimp only | intro _)

theorem State.delayHeard_kept {m : Nat} {r s : State} (hm : Covers m 0x20000000000000140000000000000000000000000000000120) (h : Kept m r s) (p) (t4) (f)  : Kept m r (State.delayHeard p t4 f s) := by
  unfold State.delayHeard
  repeat' (with_reducible first | assumption | exact Covers.trans hm (by decide) | apply State.modDelay_kept
                                | apply State.updateHop_kept | apply State.putBit_kept | apply State.event_kept
                                | apply State.putBit_kept | apply foldl_kept | apply kept_ite | apply kept_ite_snd
                                | apply optKept_some | exact optKept_none | apply optKept_ite | exact Kept.refl _
                                | dsimp only | intro _ | split)

theorem execTimeReceive_kept {m : Nat} {s : State} (hm : Covers m 0x20000000018000140000000000000000000000000000000520) (port) (ofs) {t : State} (e : execTimeReceive port ofs s = .next t) : Kept m s t := by
  refine done_kept ?_ e
  repeat' (with_reducible first | assumption | exact Covers.trans hm (by decide) | apply State.live_kept
                                | apply State.takeArrival_kept | apply State.consumed_kept
                                | apply State.syncHeard_kept | apply State.queueFrame_kept
                                | apply State.delayHeard_kept | apply foldl_kept | apply kept_ite
                                | apply kept_ite_snd | apply optKept_some | exact optKept_none | apply optKept_ite
                                | apply optKept_or | apply optKept_getD | exact Kept.refl _ | dsimp only | intro _
                                | split | rfl | (refine kept_snd ?_ (by assumption)))

theorem execDreqSend_kept {m : Nat} {s : State} (hm : Covers m 0x500) (port) (ofs) {t : State} (e : execDreqSend port ofs s = .next t) : Kept m s t := by
  refine done_kept ?_ e
  repeat' (with_reducible first | assumption | exact Covers.trans hm (by decide) | apply State.live_kept
                                | apply State.modDelay_kept | apply State.queueFrame_kept | apply foldl_kept
                                | apply kept_ite | apply kept_ite_snd | apply optKept_some | exact optKept_none
                                | apply optKept_ite | apply optKept_or | apply optKept_getD | exact Kept.refl _
                                | dsimp only | intro _ | split)

theorem execSyncSend_kept {m : Nat} {s : State} (hm : Covers m 0x500) (port) (ofs) {t : State} (e : execSyncSend port ofs s = .next t) : Kept m s t := by
  refine done_kept ?_ e
  repeat' (with_reducible first | assumption | exact Covers.trans hm (by decide) | apply State.live_kept
                                | apply State.withNtu_kept | apply State.queueFrame_kept | apply foldl_kept
                                | apply kept_ite | apply kept_ite_snd | apply optKept_some | exact optKept_none
                                | apply optKept_ite | apply optKept_or | apply optKept_getD | exact Kept.refl _
                                | dsimp only | intro _ | split)

theorem execSyncLoss_kept {m : Nat} {s : State} (hm : Covers m 0x8000000000000000000000000000000000000020)  {t : State} (e : execSyncLoss s = .next t) : Kept m s t := by
  refine done_kept ?_ e
  repeat' (with_reducible first | assumption | exact Covers.trans hm (by decide) | apply State.live_kept
                                | apply State.upLost_kept | apply foldl_kept | apply kept_ite | apply kept_ite_snd
                                | apply optKept_some | exact optKept_none | apply optKept_ite | exact Kept.refl _
                                | dsimp only | intro _)

theorem execNoticeReceive_kept {m : Nat} {s : State} (hm : Covers m 0x20000000000001000000000000000000000000000000000420) (port) {t : State} (e : execNoticeReceive port s = .next t) : Kept m s t := by
  refine done_kept ?_ e
  repeat' (with_reducible first | assumption | exact Covers.trans hm (by decide) | apply State.live_kept
                                | apply State.takeArrival_kept | apply State.floodOn_kept | apply State.event_kept
                                | apply State.fault_kept | apply foldl_kept | apply kept_ite | apply kept_ite_snd
                                | apply optKept_some | exact optKept_none | apply optKept_ite | exact Kept.refl _
                                | dsimp only | intro _ | split | rfl | (refine kept_snd ?_ (by assumption)))

theorem State.modPtp_kept {m : Nat} {r s : State} (hm : Covers m 0x100) (h : Kept m r s) (e') (f) : Kept m r (State.modPtp e' f s) := by
  unfold State.modPtp
  repeat' (with_reducible first | assumption | exact Covers.trans hm (by decide) | apply State.withNtu_kept
                                | apply foldl_kept | apply kept_ite | apply kept_ite_snd | apply optKept_some
                                | exact optKept_none | apply optKept_ite | apply optKept_or | apply optKept_getD
                                | exact Kept.refl _ | dsimp only | intro _ | split)

theorem State.ptpPut_kept {m : Nat} {r s : State} (hm : Covers m 0x100) (h : Kept m r s) (e') (m') : Kept m r (State.ptpPut e' m' s) := by
  unfold State.ptpPut
  repeat' (with_reducible first | assumption | exact Covers.trans hm (by decide) | apply State.modPtp_kept
                                | apply foldl_kept | apply kept_ite | apply kept_ite_snd | apply optKept_some
                                | exact optKept_none | apply optKept_ite | apply optKept_or | apply optKept_getD
                                | exact Kept.refl _ | dsimp only | intro _ | split)

theorem State.ptpOffset_kept {m : Nat} {r s : State} (hm : Covers m 0x8000000000000000000000000000000000000100) (h : Kept m r s) (e') (d) : Kept m r (State.ptpOffset e' d s) := by
  unfold State.ptpOffset
  repeat' (with_reducible first | assumption | exact Covers.trans hm (by decide) | apply State.modPtp_kept
                                | apply State.servo_kept | apply foldl_kept | apply kept_ite | apply kept_ite_snd
                                | apply optKept_some | exact optKept_none | apply optKept_ite | apply optKept_or
                                | apply optKept_getD | exact Kept.refl _ | dsimp only | intro _ | split)

theorem State.ptpDelay_kept {m : Nat} {r s : State} (hm : Covers m 0x100) (h : Kept m r s) (e') (twice) : Kept m r (State.ptpDelay e' twice s) := by
  unfold State.ptpDelay
  repeat' (with_reducible first | assumption | exact Covers.trans hm (by decide) | apply State.modPtp_kept
                                | apply foldl_kept | apply kept_ite | apply kept_ite_snd | apply optKept_some
                                | exact optKept_none | apply optKept_ite | apply optKept_or | apply optKept_getD
                                | exact Kept.refl _ | dsimp only | intro _ | split)

theorem State.ptpReceived_kept {m : Nat} {r s : State} (hm : Covers m 0x8000000000000000000000000000000000000100) (h : Kept m r s) (e') (rx) (m') : Kept m r (State.ptpReceived e' rx m' s) := by
  unfold State.ptpReceived
  repeat' (with_reducible first | assumption | exact Covers.trans hm (by decide) | apply State.modPtp_kept
                                | apply State.ptpOffset_kept | apply State.ptpPut_kept | apply State.ptpDelay_kept
                                | apply foldl_kept | apply kept_ite | apply kept_ite_snd | apply optKept_some
                                | exact optKept_none | apply optKept_ite | apply optKept_or | apply optKept_getD
                                | exact Kept.refl _ | dsimp only | intro _ | split)

theorem State.ptpBegun_kept {m : Nat} {r s : State} (hm : Covers m 0x100) (h : Kept m r s) (e') (kind) : Kept m r (State.ptpBegun e' kind s) := by
  unfold State.ptpBegun
  repeat' (with_reducible first | assumption | exact Covers.trans hm (by decide) | apply State.modPtp_kept
                                | apply State.ptpPut_kept | apply foldl_kept | apply kept_ite | apply kept_ite_snd
                                | apply optKept_some | exact optKept_none | apply optKept_ite | apply optKept_or
                                | apply optKept_getD | exact Kept.refl _ | dsimp only | intro _ | split)

theorem State.ptpSent_kept {m : Nat} {r s : State} (hm : Covers m 0x100) (h : Kept m r s) (e') (tx) : Kept m r (State.ptpSent e' tx s) := by
  unfold State.ptpSent
  repeat' (with_reducible first | assumption | exact Covers.trans hm (by decide) | apply State.modPtp_kept
                                | apply State.ptpPut_kept | apply foldl_kept | apply kept_ite | apply kept_ite_snd
                                | apply optKept_some | exact optKept_none | apply optKept_ite | apply optKept_or
                                | apply optKept_getD | exact Kept.refl _ | dsimp only | intro _ | split)

theorem execPtpMessage_kept {m : Nat} {s : State} (hm : Covers m 0x8000000000000000000000000000000000000100) (eth) (ofs) (event) {t : State} (e : execPtpMessage eth ofs event s = .next t) : Kept m s t := by
  refine done_kept ?_ e
  repeat' (with_reducible first | assumption | exact Covers.trans hm (by decide) | apply State.live_kept
                                | apply State.ptpReceived_kept | apply State.ptpBegun_kept | apply State.ptpSent_kept
                                | apply foldl_kept | apply kept_ite | apply kept_ite_snd | apply optKept_some
                                | exact optKept_none | apply optKept_ite | apply optKept_or | apply optKept_getD
                                | exact Kept.refl _ | dsimp only | intro _ | split)

theorem State.walked_kept {m : Nat} {r s : State} (hm : Covers m 0x4020) (h : Kept m r s) (asid) (va) (perm) (w)  : Kept m r (State.walked asid va perm w s).2 := by
  unfold State.walked
  repeat' (with_reducible first | assumption | exact Covers.trans hm (by decide) | apply when_kept
                                | apply State.fault_kept | apply State.withMgt_kept | apply foldl_kept
                                | apply kept_ite | apply kept_ite_snd | apply optKept_some | exact optKept_none
                                | apply optKept_ite | exact Kept.refl _ | dsimp only | intro _ | split)

theorem State.translate_kept {m : Nat} {r s : State} (hm : Covers m 0x4020) (h : Kept m r s) (asid) (va) (perm)  : Kept m r (State.translate asid va perm s).2 := by
  unfold State.translate
  repeat' (with_reducible first | assumption | exact Covers.trans hm (by decide) | apply State.walked_kept | apply foldl_kept
                                | apply kept_ite | apply kept_ite_snd | apply optKept_some | exact optKept_none
                                | apply optKept_ite | exact Kept.refl _ | dsimp only | intro _ | split)

theorem State.pieces_kept {m : Nat} {r s : State} (hm : Covers m 0x4020) (h : Kept m r s) (asid) (va) (n) (perm)  : Kept m r (State.pieces asid va n perm s).2 := by
  unfold State.pieces
  repeat' (with_reducible first | assumption | exact Covers.trans hm (by decide) | apply State.translate_kept
                                | apply foldl_kept | apply kept_ite | apply kept_ite_snd | apply optKept_some
                                | exact optKept_none | apply optKept_ite | exact Kept.refl _ | dsimp only | intro _ | split
                                | rfl | (refine kept_snd ?_ (by assumption)))

theorem State.writePieces_kept {m : Nat} {r : State} (hm : Covers m 0x4) (l : List (Nat × Nat)) : ∀ (b : List Byte) {s : State}, Kept m r s → Kept m r (State.writePieces l b s) := by
  induction l with
  | nil => intro _ s h; exact h
  | cons x l ih => intro b s h; exact ih _ (State.setMem_kept (hm.trans (by decide)) h _ _)

theorem State.invalidate_kept {m : Nat} {r s : State} (hm : Covers m 0x4000) (h : Kept m r s) (asid)  : Kept m r (State.invalidate asid s) := by
  unfold State.invalidate
  repeat' (with_reducible first | assumption | exact Covers.trans hm (by decide) | apply State.withMgt_kept
                                | apply foldl_kept | apply kept_ite | apply kept_ite_snd | apply optKept_some
                                | exact optKept_none | apply optKept_ite | exact Kept.refl _ | dsimp only | intro _
                                | split)

theorem State.modSpr_kept {m : Nat} {r s : State} (hm : Covers m 0x4000) (h : Kept m r s) (t) (f)  : Kept m r (State.modSpr t f s) := by
  unfold State.modSpr
  repeat' (with_reducible first | assumption | exact Covers.trans hm (by decide) | apply State.withMgt_kept)

theorem State.settleCore_kept {m : Nat} {r s : State} (hm : Covers m 0x80000000000000000000000000000000000004000) (h : Kept m r s) (k') : Kept m r (State.settleCore k' s) := by
  unfold State.settleCore
  repeat' (with_reducible first | assumption | exact Covers.trans hm (by decide) | apply State.putField_kept
                                | apply State.withMgt_kept | apply State.putField_kept | apply foldl_kept
                                | apply kept_ite | apply kept_ite_snd | apply optKept_some | exact optKept_none
                                | apply optKept_ite | apply optKept_or | apply optKept_getD | exact Kept.refl _
                                | dsimp only | intro _ | split)

theorem State.enlist_kept {m : Nat} {r s : State} (hm : Covers m 0x80000000000000000000000000000000000004000) (h : Kept m r s) (t) : Kept m r (State.enlist t s) := by
  unfold State.enlist
  repeat' (with_reducible first | assumption | exact Covers.trans hm (by decide) | apply State.putField_kept
                                | apply State.modSpr_kept | apply State.putField_kept | apply foldl_kept
                                | apply kept_ite | apply kept_ite_snd | apply optKept_some | exact optKept_none
                                | apply optKept_ite | apply optKept_or | apply optKept_getD | exact Kept.refl _
                                | dsimp only | intro _ | split)

theorem State.makeReady_kept {m : Nat} {r s : State} (hm : Covers m 0x80000000000000000000000000000000000004000) (h : Kept m r s) (t)  : Kept m r (State.makeReady t s) := by
  unfold State.makeReady
  repeat' (with_reducible first | assumption | exact Covers.trans hm (by decide) | apply State.enlist_kept
                                | apply State.settleCore_kept | apply foldl_kept | apply kept_ite
                                | apply kept_ite_snd | apply optKept_some | exact optKept_none | apply optKept_ite
                                | apply optKept_or | apply optKept_getD | exact Kept.refl _ | dsimp only | intro _
                                | split)

theorem State.rouse_kept {m : Nat} {r s : State} (hm : Covers m 0x80000000000000000000000000000000000004000) (h : Kept m r s) (t) : Kept m r (State.rouse t s) := by
  unfold State.rouse
  repeat' (with_reducible first | assumption | exact Covers.trans hm (by decide) | apply State.putField_kept
                                | apply State.withMgt_kept | apply State.enlist_kept | apply State.putField_kept
                                | apply foldl_kept | apply kept_ite | apply kept_ite_snd | apply optKept_some
                                | exact optKept_none | apply optKept_ite | apply optKept_or | apply optKept_getD
                                | exact Kept.refl _ | dsimp only | intro _ | split)

theorem State.wake_kept {m : Nat} {r s : State} (hm : Covers m 0x80000000000000000000000000000000000004000) (h : Kept m r s) (t)  : Kept m r (State.wake t s) := by
  unfold State.wake
  repeat' (with_reducible first | assumption | exact Covers.trans hm (by decide) | apply State.rouse_kept
                                | apply State.settleCore_kept | apply foldl_kept | apply kept_ite
                                | apply kept_ite_snd | apply optKept_some | exact optKept_none | apply optKept_ite
                                | apply optKept_or | apply optKept_getD | exact Kept.refl _ | dsimp only | intro _
                                | split)

theorem State.flowNext_kept {m : Nat} {r s : State} (hm : Covers m 0x80000000000000000000000000000000000004000) (h : Kept m r s) (f)  : Kept m r (State.flowNext f s) := by
  unfold State.flowNext
  repeat' (with_reducible first | assumption | exact Covers.trans hm (by decide) | apply State.makeReady_kept
                                | apply State.withMgt_kept | apply foldl_kept | apply kept_ite | apply kept_ite_snd
                                | apply optKept_some | exact optKept_none | apply optKept_ite | exact Kept.refl _
                                | dsimp only | intro _ | split)

theorem State.freeThread_kept {m : Nat} {r s : State} (hm : Covers m 0x180000000000000000000000000000000000004000) (h : Kept m r s) (t)  : Kept m r (State.freeThread t s) := by
  unfold State.freeThread
  repeat' (with_reducible first | assumption | exact Covers.trans hm (by decide) | apply State.setReg_kept
                                | apply State.withMgt_kept | apply State.modSpr_kept | apply State.settleCore_kept
                                | apply when_kept | apply State.flowNext_kept | apply foldl_kept | apply kept_ite
                                | apply kept_ite_snd | apply optKept_some | exact optKept_none | apply optKept_ite
                                | exact Kept.refl _ | dsimp only | intro _)

theorem State.modBlocked_kept {m : Nat} {r s : State} (hm : Covers m 0x80000000000000000000000000000000000004000) (h : Kept m r s) (t) (f)  : Kept m r (State.modBlocked t f s) := by
  unfold State.modBlocked
  repeat' (with_reducible first | assumption | exact Covers.trans hm (by decide) | apply State.putField_kept
                                | apply State.modSpr_kept)

theorem State.enqueue_kept {m : Nat} {r s : State} (hm : Covers m 0x200000000000000000000000000000000000004000) (h : Kept m r s) (e') : Kept m r (State.enqueue e' s) := by
  unfold State.enqueue
  repeat' (with_reducible first | assumption | exact Covers.trans hm (by decide) | apply State.withMgt_kept
                                | apply State.setReg64_kept | apply State.setReg64_kept | apply foldl_kept
                                | apply kept_ite | apply kept_ite_snd | apply optKept_some | exact optKept_none
                                | apply optKept_ite | apply optKept_or | apply optKept_getD | exact Kept.refl _
                                | dsimp only | intro _ | split)

theorem State.refused_kept {m : Nat} {r s : State} (hm : Covers m 0x800000000000000000000000000000000000000000) (h : Kept m r s)   : Kept m r (State.refused s) := by
  unfold State.refused
  repeat' (with_reducible first | assumption | exact Covers.trans hm (by decide) | apply State.countUp_kept)

theorem State.postEvent_kept {m : Nat} {r s : State} (hm : Covers m 0x200000000000000000000000000000000000014000) (h : Kept m r s) (e') (thread) : Kept m r (State.postEvent e' thread s) := by
  unfold State.postEvent
  repeat' (with_reducible first | assumption | exact Covers.trans hm (by decide) | apply State.draw_kept
                                | apply State.withMgt_kept | apply State.enqueue_kept | apply foldl_kept
                                | apply kept_ite | apply kept_ite_snd | apply optKept_some | exact optKept_none
                                | apply optKept_ite | apply optKept_or | apply optKept_getD | exact Kept.refl _
                                | dsimp only | intro _ | split)

theorem State.exchange_kept {m : Nat} {r s : State} (hm : Covers m 0x200000000000000000000000000000000000014060) (h : Kept m r s)   : Kept m r (State.exchange s) := by
  unfold State.exchange
  repeat' (with_reducible first | assumption | exact Covers.trans hm (by decide) | apply State.withHsk_kept | apply each_kept
                                | apply State.signal_kept | apply State.postEvent_kept | apply foldl_kept | apply kept_ite
                                | apply kept_ite_snd | apply optKept_some | exact optKept_none | apply optKept_ite
                                | exact Kept.refl _ | dsimp only | intro _ | split)

theorem State.modEngine_kept {m : Nat} {r s : State} (hm : Covers m 0x4000) (h : Kept m r s) (e') (f) : Kept m r (State.modEngine e' f s) := by
  unfold State.modEngine
  repeat' (with_reducible first | assumption | exact Covers.trans hm (by decide) | apply State.withMgt_kept
                                | apply foldl_kept | apply kept_ite | apply kept_ite_snd | apply optKept_some
                                | exact optKept_none | apply optKept_ite | apply optKept_or | apply optKept_getD
                                | exact Kept.refl _ | dsimp only | intro _ | split)

theorem State.modRxq_kept {m : Nat} {r s : State} (hm : Covers m 0x4000) (h : Kept m r s) (q) (f)  : Kept m r (State.modRxq q f s) := by
  unfold State.modRxq
  repeat' (with_reducible first | assumption | exact Covers.trans hm (by decide) | apply State.withMgt_kept)

theorem State.postEngine_kept {m : Nat} {r s : State} (hm : Covers m 0xa00000000000000000000000000000000000014060) (h : Kept m r s) (e') (c) : Kept m r (State.postEngine e' c s) := by
  unfold State.postEngine
  repeat' (with_reducible first | assumption | exact Covers.trans hm (by decide) | apply State.exchange_kept
                                | apply State.modEngine_kept | apply when_kept | apply State.refused_kept
                                | apply State.enqueue_kept | apply foldl_kept | apply kept_ite | apply kept_ite_snd
                                | apply optKept_some | exact optKept_none | apply optKept_ite | apply optKept_or
                                | apply optKept_getD | exact Kept.refl _ | dsimp only | intro _ | split)

theorem State.rxDeliver_kept {m : Nat} {r s : State} (hm : Covers m 0x10200000000000000000000000000000000000004000) (h : Kept m r s) (q) (f)  : Kept m r (State.rxDeliver q f s) := by
  unfold State.rxDeliver
  repeat' (with_reducible first | assumption | exact Covers.trans hm (by decide) | apply State.modRxq_kept
                                | apply State.enqueue_kept | apply State.putField_kept)

theorem State.postRx_kept {m : Nat} {r s : State} (hm : Covers m 0x10a00000000000000000000000000000000000014060) (h : Kept m r s) (q) (f)  : Kept m r (State.postRx q f s) := by
  unfold State.postRx
  repeat' (with_reducible first | assumption | exact Covers.trans hm (by decide) | apply State.exchange_kept
                                | apply State.modRxq_kept | apply when_kept | apply State.refused_kept
                                | apply State.rxDeliver_kept | apply foldl_kept | apply kept_ite | apply kept_ite_snd
                                | apply optKept_some | exact optKept_none | apply optKept_ite | exact Kept.refl _
                                | dsimp only | intro _ | split)

theorem State.admitOne_kept {m : Nat} {r s : State} (hm : Covers m 0x10200000000000000000000000000000000000004000) (h : Kept m r s)   : Kept m r (State.admitOne s) := by
  unfold State.admitOne
  repeat' (with_reducible first | assumption | exact Covers.trans hm (by decide) | apply State.enqueue_kept
                                | apply State.withMgt_kept | apply State.modEngine_kept | apply State.rxDeliver_kept
                                | apply State.modRxq_kept | apply foldl_kept | apply kept_ite | apply kept_ite_snd
                                | apply optKept_some | exact optKept_none | apply optKept_ite | exact Kept.refl _
                                | dsimp only | intro _ | split)

theorem State.deliver_kept {m : Nat} {r s : State} (hm : Covers m 0x480000000000000000000000000000000000004024) (h : Kept m r s) (e') : Kept m r (State.deliver e' s) := by
  unfold State.deliver
  repeat' (with_reducible first | assumption | exact Covers.trans hm (by decide) | apply State.setReg64_kept
                                | apply State.fault_kept | apply State.putField_kept | apply State.modSpr_kept
                                | apply State.pieces_kept | apply State.writePieces_kept | apply State.setReg64_kept
                                | apply State.putField_kept | apply foldl_kept | apply kept_ite | apply kept_ite_snd
                                | apply optKept_some | exact optKept_none | apply optKept_ite | apply optKept_or
                                | apply optKept_getD | exact Kept.refl _ | dsimp only | intro _ | split | rfl
                                | (refine kept_snd ?_ (by assumption)))

theorem execCompletionDelivery_kept {m : Nat} {s : State} (hm : Covers m 0x10680000000000000000000000000000000000014064)  {t : State} (e : execCompletionDelivery s = .next t) : Kept m s t := by
  refine done_kept ?_ e
  repeat' (with_reducible first | assumption | exact Covers.trans hm (by decide) | apply State.live_kept
                                | apply State.exchange_kept | apply State.withMgt_kept | apply each_kept
                                | apply State.deliver_kept | apply State.admitOne_kept | apply State.rouse_kept
                                | apply State.settleCore_kept | apply foldl_kept | apply kept_ite
                                | apply kept_ite_snd | apply optKept_some | exact optKept_none | apply optKept_ite
                                | apply optKept_or | apply optKept_getD | exact Kept.refl _ | dsimp only | intro _
                                | split)

theorem execCqRefuseRetry_kept {m : Nat} {s : State} (hm : Covers m 0x10a00000000000000000000000000000000000004000) (producer) {t : State} (e : execCqRefuseRetry producer s = .next t) : Kept m s t := by
  refine done_kept ?_ e
  repeat' (with_reducible first | assumption | exact Covers.trans hm (by decide) | apply State.live_kept
                                | apply State.modEngine_kept | apply State.refused_kept | apply State.enqueue_kept
                                | apply State.modRxq_kept | apply State.rxDeliver_kept | apply foldl_kept | apply kept_ite
                                | apply kept_ite_snd | apply optKept_some | exact optKept_none | apply optKept_ite
                                | exact Kept.refl _ | dsimp only | intro _ | split)

theorem execExpect_kept {m : Nat} {s : State} (hm : Covers m 0x80000000000000000000000000000000000010000) (thread) (tokens) {t : State} (e : execExpect thread tokens s = .next t) : Kept m s t := by
  refine done_kept ?_ e
  repeat' (with_reducible first | assumption | exact Covers.trans hm (by decide) | apply State.live_kept
                                | apply State.draw_kept | apply State.putField_kept | apply foldl_kept | apply kept_ite
                                | apply kept_ite_snd | apply optKept_some | exact optKept_none | apply optKept_ite
                                | exact Kept.refl _ | dsimp only | intro _)

theorem execPost_kept {m : Nat} {s : State} (hm : Covers m 0xa00000000000000000000000000000000000014060) (poster) (target) (value) {t : State} (e : execPost poster target value s = .next t) : Kept m s t := by
  refine done_kept ?_ e
  repeat' (with_reducible first | assumption | exact Covers.trans hm (by decide) | apply State.live_kept
                                | apply State.exchange_kept | apply State.modSpr_kept | apply State.enqueue_kept
                                | apply State.refused_kept | apply State.withMgt_kept | apply foldl_kept
                                | apply kept_ite | apply kept_ite_snd | apply optKept_some | exact optKept_none
                                | apply optKept_ite | apply optKept_or | apply optKept_getD | exact Kept.refl _
                                | dsimp only | intro _ | split)

theorem execThreadYield_kept {m : Nat} {s : State} (hm : Covers m 0x80000000000000000000000000000000000004000) (thread) (taken) {t : State} (e : execThreadYield thread taken s = .next t) : Kept m s t := by
  refine done_kept ?_ e
  repeat' (with_reducible first | assumption | exact Covers.trans hm (by decide) | apply State.live_kept
                                | apply State.modSpr_kept | apply State.putField_kept | apply State.settleCore_kept
                                | apply when_kept | apply State.flowNext_kept | apply foldl_kept | apply kept_ite
                                | apply kept_ite_snd | apply optKept_some | exact optKept_none | apply optKept_ite
                                | exact Kept.refl _ | dsimp only | intro _)

theorem execThreadCreate_kept {m : Nat} {s : State} (hm : Covers m 0x180000000000000000000000000000000000004000) (creator) (thread) (core) (prio) (flow) (ringVa) (ringLen) {t : State} (e : execThreadCreate creator thread core prio flow ringVa ringLen s = .next t) : Kept m s t := by
  refine done_kept ?_ e
  repeat' (with_reducible first | assumption | exact Covers.trans hm (by decide) | apply State.live_kept
                                | apply State.setReg_kept | apply State.wake_kept | apply State.modSpr_kept
                                | apply foldl_kept | apply kept_ite | apply kept_ite_snd | apply optKept_some
                                | exact optKept_none | apply optKept_ite | exact Kept.refl _ | dsimp only | intro _)

theorem execThreadRelease_kept {m : Nat} {s : State} (hm : Covers m 0x180000000000000000000000000000000000004000) (releaser) (thread) {t : State} (e : execThreadRelease releaser thread s = .next t) : Kept m s t := by
  refine done_kept ?_ e
  repeat' (with_reducible first | assumption | exact Covers.trans hm (by decide) | apply State.live_kept
                                | apply State.freeThread_kept | apply foldl_kept | apply kept_ite | apply kept_ite_snd
                                | apply optKept_some | exact optKept_none | apply optKept_ite | exact Kept.refl _
                                | dsimp only | intro _)

theorem execThreadPreempt_kept {m : Nat} {s : State} (hm : Covers m 0x80000000000000000000000000000000000004000) (core) {t : State} (e : execThreadPreempt core s = .next t) : Kept m s t := by
  refine done_kept ?_ e
  repeat' (with_reducible first | assumption | exact Covers.trans hm (by decide) | apply State.live_kept
                                | apply State.withMgt_kept | apply State.putField_kept | apply State.modSpr_kept
                                | apply foldl_kept | apply kept_ite | apply kept_ite_snd | apply optKept_some
                                | exact optKept_none | apply optKept_ite | exact Kept.refl _ | dsimp only | intro _ | split)

theorem State.checkCompletions_kept {m : Nat} {r s : State} (hm : Covers m 0x20) (h : Kept m r s)   : Kept m r (State.checkCompletions s) := by
  unfold State.checkCompletions
  repeat' (with_reducible first | assumption | exact Covers.trans hm (by decide) | apply when_kept | apply State.fault_kept
                                | apply foldl_kept | apply kept_ite | apply kept_ite_snd | apply optKept_some
                                | exact optKept_none | apply optKept_ite | exact Kept.refl _ | dsimp only | intro _)

theorem State.modDq_kept {m : Nat} {r s : State} (hm : Covers m 0x4000) (h : Kept m r s) (e') (q) (f) : Kept m r (State.modDq e' q f s) := by
  unfold State.modDq
  repeat' (with_reducible first | assumption | exact Covers.trans hm (by decide) | apply State.modEngine_kept
                                | apply foldl_kept | apply kept_ite | apply kept_ite_snd | apply optKept_some
                                | exact optKept_none | apply optKept_ite | apply optKept_or | apply optKept_getD
                                | exact Kept.refl _ | dsimp only | intro _ | split)

theorem State.writeDesc_kept {m : Nat} {r s : State} (hm : Covers m 0x4) (h : Kept m r s) (e') (q) (status) : Kept m r (State.writeDesc e' q status s) := by
  unfold State.writeDesc
  repeat' (with_reducible first | assumption | exact Covers.trans hm (by decide) | apply State.setMem_kept
                                | apply foldl_kept | apply kept_ite | apply kept_ite_snd | apply optKept_some
                                | exact optKept_none | apply optKept_ite | apply optKept_or | apply optKept_getD
                                | exact Kept.refl _ | dsimp only | intro _ | split)

theorem State.endDesc_kept {m : Nat} {r s : State} (hm : Covers m 0x20000000a00000000000000000000000000000000000014064) (h : Kept m r s) (e') (q) (status) (d) : Kept m r (State.endDesc e' q status d s) := by
  unfold State.endDesc
  repeat' (with_reducible first | assumption | exact Covers.trans hm (by decide) | apply State.writeDesc_kept
                                | apply State.modDq_kept | apply State.modEngine_kept | apply State.postEngine_kept
                                | apply State.event_kept | apply foldl_kept | apply kept_ite | apply kept_ite_snd
                                | apply optKept_some | exact optKept_none | apply optKept_ite | apply optKept_or
                                | apply optKept_getD | exact Kept.refl _ | dsimp only | intro _ | split)

theorem State.ringDoorbell_kept {m : Nat} {r s : State} (hm : Covers m 0x4000) (h : Kept m r s) (e') (q) (v) : Kept m r (State.ringDoorbell e' q v s) := by
  unfold State.ringDoorbell
  repeat' (with_reducible first | assumption | exact Covers.trans hm (by decide) | apply State.modDq_kept
                                | apply foldl_kept | apply kept_ite | apply kept_ite_snd | apply optKept_some
                                | exact optKept_none | apply optKept_ite | apply optKept_or | apply optKept_getD
                                | exact Kept.refl _ | dsimp only | intro _ | split)

theorem execDmaDoorbellWrite_kept {m : Nat} {s : State} (hm : Covers m 0x4000) (engine) (queue) (value) {t : State} (e : execDmaDoorbellWrite engine queue value s = .next t) : Kept m s t := by
  refine done_kept ?_ e
  repeat' (with_reducible first | assumption | exact Covers.trans hm (by decide) | apply State.live_kept
                                | apply State.ringDoorbell_kept | apply foldl_kept | apply kept_ite | apply kept_ite_snd
                                | apply optKept_some | exact optKept_none | apply optKept_ite | exact Kept.refl _
                                | dsimp only | intro _)

theorem execDmaDescriptorStart_kept {m : Nat} {s : State} (hm : Covers m 0x20000000a00000000000000000000000000000000000014064) (engine) {t : State} (e : execDmaDescriptorStart engine s = .next t) : Kept m s t := by
  refine done_kept ?_ e
  repeat' (with_reducible first | assumption | exact Covers.trans hm (by decide) | apply State.live_kept
                                | apply State.modEngine_kept | apply State.endDesc_kept | apply State.modDq_kept
                                | apply foldl_kept | apply kept_ite | apply kept_ite_snd | apply optKept_some
                                | exact optKept_none | apply optKept_ite | exact Kept.refl _ | dsimp only | intro _ | split)

theorem State.hostBytes_kept {m : Nat} {r : State} (hm : Covers m 0x10000) (n : Nat) : ∀ (l : List Byte) {s : State}, Kept m r s → Kept m r (State.hostBytes l n s).2 := by
  induction n with
  | zero => intro _ s h; exact h
  | succ n ih =>
    intro l s h
    unfold State.hostBytes
    split
    · exact ih _ h
    · exact ih _ (State.draw_kept (hm.trans (by decide)) h)

theorem State.granule_kept {m : Nat} {r s : State} (hm : Covers m 0x4020) (h : Kept m r s) (e') (q) (n) (d) (k') : Kept m r (State.granule e' q n d k' s).2 := by
  unfold State.granule
  repeat' (with_reducible first | assumption | exact Covers.trans hm (by decide) | apply State.pieces_kept
                                | apply foldl_kept | apply kept_ite | apply kept_ite_snd | apply optKept_some
                                | exact optKept_none | apply optKept_ite | apply optKept_or | apply optKept_getD
                                | exact Kept.refl _ | dsimp only | intro _ | split | rfl
                                | (refine kept_snd ?_ (by assumption)))

theorem State.dmaFault_kept {m : Nat} {r s : State} (hm : Covers m 0x20000000a80000000000000000000000000000000000014064) (h : Kept m r s) (e') (q) (va) (d) : Kept m r (State.dmaFault e' q va d s) := by
  unfold State.dmaFault
  repeat' (with_reducible first | assumption | exact Covers.trans hm (by decide) | apply State.writeDesc_kept
                                | apply State.setMem_kept | apply State.modDq_kept | apply State.modEngine_kept
                                | apply State.postEngine_kept | apply State.event_kept | apply State.modBlocked_kept
                                | apply foldl_kept | apply kept_ite | apply kept_ite_snd | apply optKept_some
                                | exact optKept_none | apply optKept_ite | apply optKept_or | apply optKept_getD
                                | exact Kept.refl _ | dsimp only | intro _ | split)

theorem State.dmaBoundary_kept {m : Nat} {r s : State} (hm : Covers m 0x20000000a80000000000000000000000000000000000014064) (h : Kept m r s) (e') (q) (d) : Kept m r (State.dmaBoundary e' q d s) := by
  unfold State.dmaBoundary
  repeat' (with_reducible first | assumption | exact Covers.trans hm (by decide) | apply State.granule_kept
                                | apply State.dmaFault_kept | apply State.writeDesc_kept | apply State.modEngine_kept
                                | apply foldl_kept | apply kept_ite | apply kept_ite_snd | apply optKept_some
                                | exact optKept_none | apply optKept_ite | apply optKept_or | apply optKept_getD
                                | exact Kept.refl _ | dsimp only | intro _ | split | rfl
                                | (refine kept_snd ?_ (by assumption)))

theorem State.sendLocal_kept {m : Nat} {r s : State} (hm : Covers m 0x10a000000000300000000000000000000000000140e4) (h : Kept m r s) (f) : Kept m r (State.sendLocal f s).2 := by
  unfold State.sendLocal
  repeat' (with_reducible first | assumption | exact Covers.trans hm (by decide) | apply State.countUp_kept
                                | apply State.takeBlock_kept | apply State.setMem_kept | apply State.postRx_kept
                                | apply State.countUp_kept | apply foldl_kept | apply kept_ite | apply kept_ite_snd
                                | apply optKept_some | exact optKept_none | apply optKept_ite | apply optKept_or
                                | apply optKept_getD | exact Kept.refl _ | dsimp only | intro _ | split | rfl
                                | (refine kept_snd ?_ (by assumption)))

theorem State.dmaSend_kept {m : Nat} {r s : State} (hm : Covers m 0x20000010a800010000300000000000000000000000000144e4) (h : Kept m r s) (e') (q) (host) (d) : Kept m r (State.dmaSend e' q host d s) := by
  unfold State.dmaSend
  repeat' (with_reducible first | assumption | exact Covers.trans hm (by decide) | apply State.modDq_kept
                                | apply State.endDesc_kept | apply State.granule_kept | apply State.dmaFault_kept
                                | apply State.hostBytes_kept | apply State.sendLocal_kept
                                | apply State.sendRouted_kept | apply State.modEngine_kept | apply foldl_kept
                                | apply kept_ite | apply kept_ite_snd | apply optKept_some | exact optKept_none
                                | apply optKept_ite | apply optKept_or | apply optKept_getD | exact Kept.refl _
                                | dsimp only | intro _ | split | rfl | (refine kept_snd ?_ (by assumption)))

theorem State.dmaMove_kept {m : Nat} {r s : State} (hm : Covers m 0x20000000a80000000000000000000000000000000000014074) (h : Kept m r s) (e') (q) (host) (d) : Kept m r (State.dmaMove e' q host d s) := by
  unfold State.dmaMove
  repeat' (with_reducible first | assumption | exact Covers.trans hm (by decide) | apply State.granule_kept
                                | apply State.dmaFault_kept | apply State.hostBytes_kept | apply State.setHost_kept
                                | apply State.writePieces_kept | apply State.modDq_kept | apply State.endDesc_kept
                                | apply State.dmaBoundary_kept | apply foldl_kept | apply kept_ite
                                | apply kept_ite_snd | apply optKept_some | exact optKept_none | apply optKept_ite
                                | apply optKept_or | apply optKept_getD | exact Kept.refl _ | dsimp only | intro _
                                | split | rfl | (refine kept_snd ?_ (by assumption)))

theorem State.subTable_kept {m : Nat} {r s : State} (hm : Covers m 0x4) (h : Kept m r s) (t) (i) (next) : Kept m r (State.subTable t i next s).2 := by
  unfold State.subTable
  repeat' (with_reducible first | assumption | exact Covers.trans hm (by decide) | apply State.setMem_kept
                                | apply foldl_kept | apply kept_ite | apply kept_ite_snd | apply optKept_some
                                | exact optKept_none | apply optKept_ite | apply optKept_or | apply optKept_getD
                                | exact Kept.refl _ | dsimp only | intro _ | split)

theorem State.mapPage_kept {m : Nat} {r s : State} (hm : Covers m 0x4) (h : Kept m r s) (root) (va) (pa) (next) : Kept m r (State.mapPage root va pa next s).2 := by
  unfold State.mapPage
  repeat' (with_reducible first | assumption | exact Covers.trans hm (by decide) | apply State.subTable_kept
                                | apply State.setMem_kept | apply foldl_kept | apply kept_ite | apply kept_ite_snd
                                | apply optKept_some | exact optKept_none | apply optKept_ite | apply optKept_or
                                | apply optKept_getD | exact Kept.refl _ | dsimp only | intro _ | split)

theorem State.mapPages_kept {m : Nat} {r : State} (hm : Covers m 0x4) (root : Nat) (n : Nat) : ∀ (va pa next : Nat) {s : State}, Kept m r s → Kept m r (State.mapPages root n va pa next s) := by
  induction n with
  | zero => intro _ _ _ s h; exact h
  | succ n ih =>
    intro va pa next s h
    exact ih _ _ _ (State.mapPage_kept (hm.trans (by decide)) h root va pa next)

theorem State.takePages_kept {m : Nat} {r s : State} (hm : Covers m 0x14000) (h : Kept m r s) (asid) (n) (keep) : Kept m r (State.takePages asid n keep s).2 := by
  unfold State.takePages
  repeat' (with_reducible first | assumption | exact Covers.trans hm (by decide) | apply State.draw_kept
                                | apply State.withMgt_kept | apply foldl_kept | apply kept_ite | apply kept_ite_snd
                                | apply optKept_some | exact optKept_none | apply optKept_ite | apply optKept_or
                                | apply optKept_getD | exact Kept.refl _ | dsimp only | intro _ | split)

theorem State.mapJob_kept {m : Nat} {r s : State} (hm : Covers m 0x1000000000000000000000000000000000000014004) (h : Kept m r s) (keep) (a) : Kept m r (State.mapJob keep a s) := by
  unfold State.mapJob
  repeat' (with_reducible first | assumption | exact Covers.trans hm (by decide) | apply State.takePages_kept
                                | apply State.mapPage_kept | apply State.setMem_kept | apply State.setReg64_kept
                                | apply State.setReg64_kept | apply foldl_kept | apply kept_ite | apply kept_ite_snd
                                | apply optKept_some | exact optKept_none | apply optKept_ite | apply optKept_or
                                | apply optKept_getD | exact Kept.refl _ | dsimp only | intro _ | split | rfl
                                | (refine kept_snd ?_ (by assumption)))

theorem State.endJob_kept {m : Nat} {r s : State} (hm : Covers m 0x4040) (h : Kept m r s) (e') (j) (status) (moved) : Kept m r (State.endJob e' j status moved s) := by
  unfold State.endJob
  repeat' (with_reducible first | assumption | exact Covers.trans hm (by decide) | apply State.modEngine_kept
                                | apply State.modDeferred_kept | apply foldl_kept | apply kept_ite
                                | apply kept_ite_snd | apply optKept_some | exact optKept_none | apply optKept_ite
                                | apply optKept_or | apply optKept_getD | exact Kept.refl _ | dsimp only | intro _
                                | split)

theorem State.jobMove_kept {m : Nat} {r s : State} (hm : Covers m 0x1000000000000000000000000000000000000014074) (h : Kept m r s) (e') (host) (j) : Kept m r (State.jobMove e' host j s) := by
  unfold State.jobMove
  repeat' (with_reducible first | assumption | exact Covers.trans hm (by decide) | apply State.mapJob_kept
                                | apply State.pieces_kept | apply State.endJob_kept | apply State.setHost_kept
                                | apply State.hostBytes_kept | apply State.writePieces_kept
                                | apply State.modEngine_kept | apply foldl_kept | apply kept_ite | apply kept_ite_snd
                                | apply optKept_some | exact optKept_none | apply optKept_ite | apply optKept_or
                                | apply optKept_getD | exact Kept.refl _ | dsimp only | intro _ | split | rfl
                                | (refine kept_snd ?_ (by assumption)))

theorem execDmaGranuleMove_kept {m : Nat} {s : State} (hm : Covers m 0x20000011a800010000300000000000000000000000000144f4) (engine) (hostData) {t : State} (e : execDmaGranuleMove engine hostData s = .next t) : Kept m s t := by
  refine done_kept ?_ e
  repeat' (with_reducible first | assumption | exact Covers.trans hm (by decide) | apply State.live_kept
                                | apply State.jobMove_kept | apply State.dmaSend_kept | apply State.dmaMove_kept
                                | apply foldl_kept | apply kept_ite | apply kept_ite_snd | apply optKept_some
                                | exact optKept_none | apply optKept_ite | apply optKept_or | apply optKept_getD
                                | exact Kept.refl _ | dsimp only | intro _ | split)

theorem execMgtDeqResume_kept {m : Nat} {s : State} (hm : Covers m 0x20000000a80000000000000000000000000000000000014064) (engine) (queue) (cancel) {t : State} (e : execMgtDeqResume engine queue cancel s = .next t) : Kept m s t := by
  refine done_kept ?_ e
  repeat' (with_reducible first | assumption | exact Covers.trans hm (by decide) | apply State.live_kept
                                | apply State.invalidate_kept | apply State.modDq_kept | apply State.endDesc_kept
                                | apply State.modBlocked_kept | apply State.wake_kept | apply foldl_kept
                                | apply kept_ite | apply kept_ite_snd | apply optKept_some | exact optKept_none
                                | apply optKept_ite | apply optKept_or | apply optKept_getD | exact Kept.refl _
                                | dsimp only | intro _ | split)

theorem execMgtDmaHost_kept {m : Nat} {s : State} (hm : Covers m 0x20000000000000000000000000000000000000000000004064) (iss) (bus) (phys) (length) (direction) {t : State} (e : execMgtDmaHost iss bus phys length direction s = .next t) : Kept m s t := by
  refine done_kept ?_ e
  repeat' (with_reducible first | assumption | exact Covers.trans hm (by decide) | apply State.command_kept
                                | apply State.defer_kept | apply State.modEngine_kept | apply foldl_kept | apply kept_ite
                                | apply kept_ite_snd | apply optKept_some | exact optKept_none | apply optKept_ite
                                | exact Kept.refl _ | dsimp only | intro _)

theorem execDataReceive_kept {m : Nat} {s : State} (hm : Covers m 0x20000010a00001000000000000000000000000000000014464) (port) {t : State} (e : execDataReceive port s = .next t) : Kept m s t := by
  refine done_kept ?_ e
  repeat' (with_reducible first | assumption | exact Covers.trans hm (by decide) | apply State.live_kept
                                | apply State.takeArrival_kept | apply State.forward_kept | apply State.countUp_kept
                                | apply State.consumed_kept | apply State.setMem_kept | apply State.postRx_kept
                                | apply State.draw_kept | apply State.countUp_kept | apply foldl_kept
                                | apply kept_ite | apply kept_ite_snd | apply optKept_some | exact optKept_none
                                | apply optKept_ite | apply optKept_or | apply optKept_getD | exact Kept.refl _
                                | dsimp only | intro _ | split | rfl | (refine kept_snd ?_ (by assumption)))

theorem execCtrlReceive_kept {m : Nat} {s : State} (hm : Covers m 0x20000000000001000000000000000000000000000000000424) (port) {t : State} (e : execCtrlReceive port s = .next t) : Kept m s t := by
  refine done_kept ?_ e
  repeat' (with_reducible first | assumption | exact Covers.trans hm (by decide) | apply State.live_kept
                                | apply State.takeArrival_kept | apply State.forward_kept | apply State.setMem_kept
                                | apply State.consumed_kept | apply foldl_kept | apply kept_ite | apply kept_ite_snd
                                | apply optKept_some | exact optKept_none | apply optKept_ite | apply optKept_or
                                | apply optKept_getD | exact Kept.refl _ | dsimp only | intro _ | split | rfl
                                | (refine kept_snd ?_ (by assumption)))

theorem State.freeFrame_kept {m : Nat} {r s : State} (hm : Covers m 0x700000000000000000000000000004a0) (h : Kept m r s) (f) : Kept m r (State.freeFrame f s) := by
  unfold State.freeFrame
  repeat' (with_reducible first | assumption | exact Covers.trans hm (by decide) | apply State.freeBuffers_kept
                                | apply State.freeBlock_kept | apply foldl_kept | apply kept_ite | apply kept_ite_snd
                                | apply optKept_some | exact optKept_none | apply optKept_ite | apply optKept_or
                                | apply optKept_getD | exact Kept.refl _ | dsimp only | intro _ | split)

theorem State.releaseFrames_kept {m : Nat} {r s : State} (hm : Covers m 0x100000000000700000000000000000000000000044a0) (h : Kept m r s) (q) (n)  : Kept m r (State.releaseFrames q n s) := by
  unfold State.releaseFrames
  repeat' (with_reducible first | assumption | exact Covers.trans hm (by decide) | apply State.modRxq_kept
                                | apply State.putField_kept | apply each_kept | apply State.freeFrame_kept
                                | apply State.putField_kept | apply foldl_kept | apply kept_ite | apply kept_ite_snd
                                | apply optKept_some | exact optKept_none | apply optKept_ite | apply optKept_or
                                | apply optKept_getD | exact Kept.refl _ | dsimp only | intro _ | split)

theorem execMgtRxqRelWrite_kept {m : Nat} {s : State} (hm : Covers m 0x100000000000700000000000000000000000000044a0) (queue) (value) {t : State} (e : execMgtRxqRelWrite queue value s = .next t) : Kept m s t := by
  refine done_kept ?_ e
  repeat' (with_reducible first | assumption | exact Covers.trans hm (by decide) | apply State.live_kept
                                | apply State.releaseFrames_kept | apply foldl_kept | apply kept_ite | apply kept_ite_snd
                                | apply optKept_some | exact optKept_none | apply optKept_ite | exact Kept.refl _
                                | dsimp only | intro _)

theorem State.cancelQueue_kept {m : Nat} {r s : State} (hm : Covers m 0x20000000a80000000000000000000000000000000000014064) (h : Kept m r s) (e') (q) : Kept m r (State.cancelQueue e' q s) := by
  unfold State.cancelQueue
  repeat' (with_reducible first | assumption | exact Covers.trans hm (by decide) | apply each_kept
                                | apply State.endDesc_kept | apply State.modBlocked_kept | apply foldl_kept
                                | apply kept_ite | apply kept_ite_snd | apply optKept_some | exact optKept_none
                                | apply optKept_ite | apply optKept_or | apply optKept_getD | exact Kept.refl _
                                | dsimp only | intro _ | split)

theorem State.appletEnd_kept {m : Nat} {r s : State} (hm : Covers m 0x20000000b80000000000000000000000000000000000014064) (h : Kept m r s) (k') : Kept m r (State.appletEnd k' s) := by
  unfold State.appletEnd
  repeat' (with_reducible first | assumption | exact Covers.trans hm (by decide) | apply each_kept
                                | apply State.freeThread_kept | apply State.cancelQueue_kept | apply foldl_kept
                                | apply kept_ite | apply kept_ite_snd | apply optKept_some | exact optKept_none
                                | apply optKept_ite | apply optKept_or | apply optKept_getD | exact Kept.refl _
                                | dsimp only | intro _ | split)

theorem State.appletReset_kept {m : Nat} {r s : State} (hm : Covers m 0x20000000bc0000000000000000000000000000000000014064) (h : Kept m r s) (k') : Kept m r (State.appletReset k' s) := by
  unfold State.appletReset
  repeat' (with_reducible first | assumption | exact Covers.trans hm (by decide) | apply State.appletEnd_kept
                                | apply State.putField_kept | apply State.withMgt_kept | apply State.invalidate_kept
                                | apply State.putField_kept | apply foldl_kept | apply kept_ite | apply kept_ite_snd
                                | apply optKept_some | exact optKept_none | apply optKept_ite | apply optKept_or
                                | apply optKept_getD | exact Kept.refl _ | dsimp only | intro _ | split)

theorem State.restartDog_kept {m : Nat} {r s : State} (hm : Covers m 0x4000) (h : Kept m r s) (k') : Kept m r (State.restartDog k' s) := by
  unfold State.restartDog
  repeat' (with_reducible first | assumption | exact Covers.trans hm (by decide) | apply State.withMgt_kept
                                | apply foldl_kept | apply kept_ite | apply kept_ite_snd | apply optKept_some
                                | exact optKept_none | apply optKept_ite | apply optKept_or | apply optKept_getD
                                | exact Kept.refl _ | dsimp only | intro _ | split)

theorem State.startCore_kept {m : Nat} {r s : State} (hm : Covers m 0x40000000000000000000000000000000000004000) (h : Kept m r s) (k') : Kept m r (State.startCore k' s) := by
  unfold State.startCore
  repeat' (with_reducible first | assumption | exact Covers.trans hm (by decide) | apply State.putField_kept
                                | apply State.restartDog_kept | apply State.putField_kept | apply foldl_kept
                                | apply kept_ite | apply kept_ite_snd | apply optKept_some | exact optKept_none
                                | apply optKept_ite | apply optKept_or | apply optKept_getD | exact Kept.refl _
                                | dsimp only | intro _ | split)

theorem State.failWinMove_kept {m : Nat} {r s : State} (hm : Covers m 0x20000000000000000000000000000000000000000000000064) (h : Kept m r s)  : Kept m r (State.failWinMove s) := by
  unfold State.failWinMove
  repeat' (with_reducible first | assumption | exact Covers.trans hm (by decide) | apply State.withHst_kept
                                | apply State.complete_kept | apply foldl_kept | apply kept_ite | apply kept_ite_snd
                                | apply optKept_some | exact optKept_none | apply optKept_ite | apply optKept_or
                                | apply optKept_getD | exact Kept.refl _ | dsimp only | intro _ | split)

theorem State.trap_kept {m : Nat} {r s : State} (hm : Covers m 0x20000080bc0020000000002000000000000000000000014864) (h : Kept m r s) (k') (cause) : Kept m r (State.trap k' cause s) := by
  unfold State.trap
  repeat' (with_reducible first | assumption | exact Covers.trans hm (by decide) | apply State.draw_kept
                                | apply State.withMgt_kept | apply State.putField_kept | apply State.countUp_kept
                                | apply State.fault_kept | apply State.appletEnd_kept | apply each_kept
                                | apply State.modEngine_kept | apply State.withCal_kept | apply State.putBit_kept
                                | apply State.adcBack_kept | apply State.failWinMove_kept
                                | apply State.endDeferred_kept | apply State.putField_kept | apply State.putBit_kept
                                | apply State.countUp_kept | apply foldl_kept | apply kept_ite | apply kept_ite_snd
                                | apply optKept_some | exact optKept_none | apply optKept_ite | apply optKept_or
                                | apply optKept_getD | exact Kept.refl _ | dsimp only | intro _ | split)

theorem execCoreTrap_kept {m : Nat} {s : State} (hm : Covers m 0x20000080bc0020000000002000000000000000000000014864) (core) (cause) {t : State} (e : execCoreTrap core cause s = .next t) : Kept m s t := by
  refine done_kept ?_ e
  repeat' (with_reducible first | assumption | exact Covers.trans hm (by decide) | apply State.live_kept
                                | apply State.trap_kept | apply foldl_kept | apply kept_ite | apply kept_ite_snd
                                | apply optKept_some | exact optKept_none | apply optKept_ite | exact Kept.refl _
                                | dsimp only | intro _)

theorem execCoreWatchdogExpiry_kept {m : Nat} {s : State} (hm : Covers m 0x20000080bc0020000000002000000000000000000000014864) (core) {t : State} (e : execCoreWatchdogExpiry core s = .next t) : Kept m s t := by
  refine done_kept ?_ e
  repeat' (with_reducible first | assumption | exact Covers.trans hm (by decide) | apply State.live_kept
                                | apply State.draw_kept | apply State.trap_kept | apply foldl_kept | apply kept_ite
                                | apply kept_ite_snd | apply optKept_some | exact optKept_none | apply optKept_ite
                                | exact Kept.refl _ | dsimp only | intro _)

theorem execWatchdogRestart_kept {m : Nat} {s : State} (hm : Covers m 0x4000) (core) {t : State} (e : execWatchdogRestart core s = .next t) : Kept m s t := by
  refine done_kept ?_ e
  repeat' (with_reducible first | assumption | exact Covers.trans hm (by decide) | apply State.live_kept
                                | apply State.restartDog_kept | apply State.withMgt_kept | apply foldl_kept
                                | apply kept_ite | apply kept_ite_snd | apply optKept_some | exact optKept_none
                                | apply optKept_ite | apply optKept_or | apply optKept_getD | exact Kept.refl _
                                | dsimp only | intro _ | split)

theorem execMgtAppletLoad_kept {m : Nat} {s : State} (hm : Covers m 0x20000000000000000000000000000000000000000000004064) (iss) (image) (core) (threads) (engines) (queues) (sites) (quota) {t : State} (e : execMgtAppletLoad iss image core threads engines queues sites quota s = .next t) : Kept m s t := by
  refine done_kept ?_ e
  repeat' (with_reducible first | assumption | exact Covers.trans hm (by decide) | apply State.command_kept
                                | apply State.withMgt_kept | apply State.defer_kept | apply foldl_kept | apply kept_ite
                                | apply kept_ite_snd | apply optKept_some | exact optKept_none | apply optKept_ite
                                | exact Kept.refl _ | dsimp only | intro _)

theorem State.appletStart_kept {m : Nat} {r s : State} (hm : Covers m 0x20000001040000000000000000000000000000000000014064) (h : Kept m r s) (d) (k') (image) : Kept m r (State.appletStart d k' image s) := by
  unfold State.appletStart
  repeat' (with_reducible first | assumption | exact Covers.trans hm (by decide) | apply State.finish_kept
                                | apply State.takePages_kept | apply State.withMgt_kept | apply State.setMem_kept
                                | apply State.mapPages_kept | apply State.invalidate_kept | apply State.setReg64_kept
                                | apply State.startCore_kept | apply State.setReg64_kept | apply foldl_kept
                                | apply kept_ite | apply kept_ite_snd | apply optKept_some | exact optKept_none
                                | apply optKept_ite | apply optKept_or | apply optKept_getD | exact Kept.refl _
                                | dsimp only | intro _ | split | rfl | (refine kept_snd ?_ (by assumption)))

theorem execMgtAppletStop_kept {m : Nat} {s : State} (hm : Covers m 0x20000000000000000000000000000000000000000000000064) (iss) (core) {t : State} (e : execMgtAppletStop iss core s = .next t) : Kept m s t := by
  refine done_kept ?_ e
  repeat' (with_reducible first | assumption | exact Covers.trans hm (by decide) | apply State.command_kept
                                | apply State.defer_kept | apply foldl_kept | apply kept_ite | apply kept_ite_snd
                                | apply optKept_some | exact optKept_none | apply optKept_ite | exact Kept.refl _
                                | dsimp only | intro _)

theorem execMgtCoreDump_kept {m : Nat} {s : State} (hm : Covers m 0x20000000000000000000000000000000000000000000000064) (iss) (dest) (core) {t : State} (e : execMgtCoreDump iss dest core s = .next t) : Kept m s t := by
  refine done_kept ?_ e
  repeat' (with_reducible first | assumption | exact Covers.trans hm (by decide) | apply State.command_kept
                                | apply State.complete_kept | apply State.setMem_kept | apply foldl_kept | apply kept_ite
                                | apply kept_ite_snd | apply optKept_some | exact optKept_none | apply optKept_ite
                                | exact Kept.refl _ | dsimp only | intro _)

end Sys2Proof.Machine
end

