-- ==== Sys2Proof/Laws/KeptBurst.lean ====
section
/-! SUPPORT. What the operations and meanings of thermal limits, the store, calibration, fail logs and bursts leave as it was. -/

namespace Sys2Proof.Machine

theorem State.modSensor_kept {m : Nat} {r s : State} (hm : Covers m 0x8000) (h : Kept m r s) (i) (f)  : Kept m r (State.modSensor i f s) := by
  unfold State.modSensor
  repeat' (with_reducible first | assumption | exact Covers.trans hm (by decide) | apply State.withThm_kept)

theorem State.setPlim_kept {m : Nat} {r s : State} (hm : Covers m 0x20010000000000000000000000000000000000000000000020) (h : Kept m r s)   : Kept m r (State.setPlim s) := by
  unfold State.setPlim
  repeat' (with_reducible first | assumption | exact Covers.trans hm (by decide) | apply State.putField_kept
                                | apply State.event_kept | apply foldl_kept | apply kept_ite | apply kept_ite_snd
                                | apply optKept_some | exact optKept_none | apply optKept_ite | exact Kept.refl _
                                | dsimp only | intro _)

theorem State.unblock_kept {m : Nat} {r s : State} (hm : Covers m 0x10000000000000000000000000000000000000000000000) (h : Kept m r s)  : Kept m r (State.unblock s) := by
  unfold State.unblock
  repeat' (with_reducible first | assumption | exact Covers.trans hm (by decide) | apply State.putBit_kept
                                | apply State.putBit_kept | apply foldl_kept | apply kept_ite | apply kept_ite_snd
                                | apply optKept_some | exact optKept_none | apply optKept_ite | apply optKept_or
                                | apply optKept_getD | exact Kept.refl _ | dsimp only | intro _ | split)

theorem State.failSensor_kept {m : Nat} {r s : State} (hm : Covers m 0x20072000000000000000000000000000000000000000000020) (h : Kept m r s) (i) (cause)  : Kept m r (State.failSensor i cause s) := by
  unfold State.failSensor
  repeat' (with_reducible first | assumption | exact Covers.trans hm (by decide) | apply State.setReg64_kept
                                | apply State.putBit_kept | apply State.event_kept | apply State.fault_kept
                                | apply foldl_kept | apply kept_ite | apply kept_ite_snd | apply optKept_some
                                | exact optKept_none | apply optKept_ite | exact Kept.refl _ | dsimp only | intro _)

theorem State.noteCount_kept {m : Nat} {r s : State} (hm : Covers m 0x8000) (h : Kept m r s) (i) (f) : Kept m r (State.noteCount i f s) := by
  unfold State.noteCount
  repeat' (with_reducible first | assumption | exact Covers.trans hm (by decide) | apply State.modSensor_kept
                                | apply foldl_kept | apply kept_ite | apply kept_ite_snd | apply optKept_some
                                | exact optKept_none | apply optKept_ite | apply optKept_or | apply optKept_getD
                                | exact Kept.refl _ | dsimp only | intro _ | split)

theorem State.noteNeighbours_kept {m : Nat} {r s : State} (hm : Covers m 0x8000) (h : Kept m r s) (valid) (read) (i) : Kept m r (State.noteNeighbours valid read i s) := by
  unfold State.noteNeighbours
  repeat' (with_reducible first | assumption | exact Covers.trans hm (by decide) | apply State.modSensor_kept
                                | apply foldl_kept | apply kept_ite | apply kept_ite_snd | apply optKept_some
                                | exact optKept_none | apply optKept_ite | apply optKept_or | apply optKept_getD
                                | exact Kept.refl _ | dsimp only | intro _ | split)

theorem State.judgeSensor_kept {m : Nat} {r s : State} (hm : Covers m 0x20072000000000000000000000000000000000000000000020) (h : Kept m r s) (own) (i) : Kept m r (State.judgeSensor own i s) := by
  unfold State.judgeSensor
  repeat' (with_reducible first | assumption | exact Covers.trans hm (by decide) | apply State.failSensor_kept
                                | apply foldl_kept | apply kept_ite | apply kept_ite_snd | apply optKept_some
                                | exact optKept_none | apply optKept_ite | apply optKept_or | apply optKept_getD
                                | exact Kept.refl _ | dsimp only | intro _ | split)

theorem State.judgeSensors_kept {m : Nat} {r s : State} (hm : Covers m 0x20072000000000000000000000000000000000000000008020) (h : Kept m r s) (counts) (read) : Kept m r (State.judgeSensors counts read s) := by
  unfold State.judgeSensors
  repeat' (with_reducible first | assumption | exact Covers.trans hm (by decide) | apply each_kept
                                | apply State.noteCount_kept | apply State.judgeSensor_kept
                                | apply State.noteNeighbours_kept | apply foldl_kept | apply kept_ite
                                | apply kept_ite_snd | apply optKept_some | exact optKept_none | apply optKept_ite
                                | apply optKept_or | apply optKept_getD | exact Kept.refl _ | dsimp only | intro _
                                | split)

theorem State.valueOf_kept {m : Nat} {r s : State} (hm : Covers m 0x10000) (h : Kept m r s) (read) (i)  : Kept m r (State.valueOf read i s).2 := by
  unfold State.valueOf
  repeat' (with_reducible first | assumption | exact Covers.trans hm (by decide) | apply State.draw_kept | apply foldl_kept
                                | apply kept_ite | apply kept_ite_snd | apply optKept_some | exact optKept_none
                                | apply optKept_ite | exact Kept.refl _ | dsimp only | intro _ | split)

theorem State.setClass_kept {m : Nat} {r s : State} (hm : Covers m 0x10000000000000000000000000000000000000000000000) (h : Kept m r s) (j) (b)  : Kept m r (State.setClass j b s) := by
  unfold State.setClass
  repeat' (with_reducible first | assumption | exact Covers.trans hm (by decide) | apply State.putField_kept)

theorem State.resumeClasses_kept {m : Nat} {r : State} (hm : Covers m 0x10000000000000000000000000000000000000000000000) (l : List Nat) : ∀ {s : State}, Kept m r s → Kept m r (State.resumeClasses l s) := by
  induction l with
  | nil => intro s h; exact h
  | cons j l ih =>
    intro s h
    unfold State.resumeClasses
    exact kept_ite (fun _ => ih h) (fun _ => kept_ite (fun _ => ih (State.setClass_kept (hm.trans (by decide)) h _ _)) (fun _ => h))

theorem State.powerDeferral_kept {m : Nat} {r s : State} (hm : Covers m 0x20210000000000000000000000000000000000000000000020) (h : Kept m r s)   : Kept m r (State.powerDeferral s) := by
  unfold State.powerDeferral
  repeat' (with_reducible first | assumption | exact Covers.trans hm (by decide) | apply State.event_kept
                                | apply State.setClass_kept | apply State.resumeClasses_kept | apply State.putField_kept
                                | apply foldl_kept | apply kept_ite | apply kept_ite_snd | apply optKept_some
                                | exact optKept_none | apply optKept_ite | exact Kept.refl _ | dsimp only | intro _ | split)

theorem State.beginShutdown_kept {m : Nat} {r s : State} (hm : Covers m 0x4002000000200000000000000000000000000a020) (h : Kept m r s) (i)  : Kept m r (State.beginShutdown i s) := by
  unfold State.beginShutdown
  repeat' (with_reducible first | assumption | exact Covers.trans hm (by decide) | apply State.fault_kept
                                | apply State.putField_kept | apply State.supRampAll_kept | apply each_kept
                                | apply State.withThm_kept | apply foldl_kept | apply kept_ite | apply kept_ite_snd
                                | apply optKept_some | exact optKept_none | apply optKept_ite | exact Kept.refl _
                                | dsimp only | intro _)

theorem execThmConversion_kept {m : Nat} {s : State} (hm : Covers m 0x2027600004002000000200000000000000000000000001a020) (counts) (estimates) {t : State} (e : execThmConversion counts estimates s = .next t) : Kept m s t := by
  refine done_kept ?_ e
  repeat' (with_reducible first | assumption | exact Covers.trans hm (by decide) | apply State.live_kept
                                | apply State.withThm_kept | apply State.judgeSensors_kept | apply each_kept
                                | apply State.valueOf_kept | apply State.putField_kept | apply State.event_kept
                                | apply State.modSensor_kept | apply State.beginShutdown_kept
                                | apply State.setPlim_kept | apply State.powerDeferral_kept
                                | apply State.unblock_kept | apply State.putField_kept | apply foldl_kept
                                | apply kept_ite | apply kept_ite_snd | apply optKept_some | exact optKept_none
                                | apply optKept_ite | apply optKept_or | apply optKept_getD | exact Kept.refl _
                                | dsimp only | intro _ | split)

theorem State.throttle_kept {m : Nat} {r s : State} (hm : Covers m 0x20010000000000000000000000000000000000000000008020) (h : Kept m r s)  : Kept m r (State.throttle s) := by
  unfold State.throttle
  repeat' (with_reducible first | assumption | exact Covers.trans hm (by decide) | apply State.withThm_kept
                                | apply State.unblock_kept | apply State.putField_kept | apply State.setPlim_kept
                                | apply State.putBit_kept | apply State.putField_kept | apply State.putBit_kept
                                | apply foldl_kept | apply kept_ite | apply kept_ite_snd | apply optKept_some
                                | exact optKept_none | apply optKept_ite | apply optKept_or | apply optKept_getD
                                | exact Kept.refl _ | dsimp only | intro _ | split)

theorem execThrottleTick_kept {m : Nat} {s : State} (hm : Covers m 0x20010000000000000000000000000000000000000000008020)  {t : State} (e : execThrottleTick s = .next t) : Kept m s t := by
  refine done_kept ?_ e
  repeat' (with_reducible first | assumption | exact Covers.trans hm (by decide) | apply State.live_kept
                                | apply State.throttle_kept | apply foldl_kept | apply kept_ite | apply kept_ite_snd
                                | apply optKept_some | exact optKept_none | apply optKept_ite | apply optKept_or
                                | apply optKept_getD | exact Kept.refl _ | dsimp only | intro _ | split)

theorem execPBaseRecompute_kept {m : Nat} {s : State} (hm : Covers m 0x80000000000000000000000000000000000000000000000) (milliwatts) {t : State} (e : execPBaseRecompute milliwatts s = .next t) : Kept m s t := by
  refine done_kept ?_ e
  repeat' (with_reducible first | assumption | exact Covers.trans hm (by decide) | apply State.live_kept
                                | apply State.putField_kept | apply foldl_kept | apply kept_ite | apply kept_ite_snd
                                | apply optKept_some | exact optKept_none | apply optKept_ite | exact Kept.refl _
                                | dsimp only | intro _)

theorem State.countLog_kept {m : Nat} {r s : State} (hm : Covers m 0x800000000000000000000000000000000000000000000000) (h : Kept m r s)   : Kept m r (State.countLog s) := by
  unfold State.countLog
  repeat' (with_reducible first | assumption | exact Covers.trans hm (by decide) | apply State.putField_kept
                                | apply State.putBit_kept)

theorem State.readLog_kept {m : Nat} {r s : State} (hm : Covers m 0x4) (h : Kept m r s) (dest) (first) (count)  : Kept m r (State.readLog dest first count s).2 := by
  unfold State.readLog
  repeat' (with_reducible first | assumption | exact Covers.trans hm (by decide) | apply each_kept | apply State.setMem_kept
                                | apply foldl_kept | apply kept_ite | apply kept_ite_snd | apply optKept_some
                                | exact optKept_none | apply optKept_ite | exact Kept.refl _ | dsimp only | intro _)

theorem execSysShutdownLogRead_kept {m : Nat} {s : State} (hm : Covers m 0x20000000000000000000000000000000000000000000000064) (iss) (dest) (first) (count) {t : State} (e : execSysShutdownLogRead iss dest first count s = .next t) : Kept m s t := by
  refine done_kept ?_ e
  repeat' (with_reducible first | assumption | exact Covers.trans hm (by decide) | apply State.command_kept
                                | apply State.readLog_kept | apply State.complete_kept | apply State.defer_kept
                                | apply foldl_kept | apply kept_ite | apply kept_ite_snd | apply optKept_some
                                | exact optKept_none | apply optKept_ite | exact Kept.refl _ | dsimp only | intro _)

theorem State.beginStore_kept {m : Nat} {r s : State} (hm : Covers m 0x20000080000000000000000000000000000000000000000864) (h : Kept m r s) (iss) (cmd) (steps) (res)  : Kept m r (State.beginStore iss cmd steps res s) := by
  unfold State.beginStore
  repeat' (with_reducible first | assumption | exact Covers.trans hm (by decide) | apply State.defer_kept
                                | apply State.putBit_kept | apply State.withCal_kept)

theorem State.endStore_kept {m : Nat} {r s : State} (hm : Covers m 0x80000000000000000000000000000000000000000840) (h : Kept m r s) (j) (status) (res)  : Kept m r (State.endStore j status res s) := by
  unfold State.endStore
  repeat' (with_reducible first | assumption | exact Covers.trans hm (by decide) | apply State.putBit_kept
                                | apply State.withCal_kept | apply State.modDeferred_kept)

theorem State.enterForce_kept {m : Nat} {r s : State} (hm : Covers m 0x600000000000000000000000000000000000000000000) (h : Kept m r s) (id) (k') : Kept m r (State.enterForce id k' s) := by
  unfold State.enterForce
  repeat' (with_reducible first | assumption | exact Covers.trans hm (by decide) | apply State.putField_kept
                                | apply State.putBit_kept | apply State.setReg_kept | apply State.setReg_kept
                                | apply State.putField_kept | apply State.putBit_kept | apply foldl_kept
                                | apply kept_ite | apply kept_ite_snd | apply optKept_some | exact optKept_none
                                | apply optKept_ite | apply optKept_or | apply optKept_getD | exact Kept.refl _
                                | dsimp only | intro _ | split)

theorem State.settleStore_kept {m : Nat} {r : State} (hm : Covers m 0x800680000000000000000000000000000000000000000840) (j) (l : List StoreStep) : ∀ {s : State}, Kept m r s → Kept m r (State.settleStore j l s) := by
  induction l with
  | nil => intro s h; exact State.endStore_kept (hm.trans (by decide)) h _ _ _
  | cons x l ih =>
    intro s h
    unfold State.settleStore
    repeat' (with_reducible first | assumption | exact Covers.trans hm (by decide) | apply ih | apply State.enterForce_kept
                                  | apply State.countLog_kept | apply State.withCal_kept | apply foldl_kept | apply kept_ite
                                  | exact Kept.refl _ | dsimp only | intro _ | split)

theorem State.storeAccess_kept {m : Nat} {r s : State} (hm : Covers m 0x808) (h : Kept m r s) (x)  : Kept m r (State.storeAccess x s) := by
  unfold State.storeAccess
  repeat' (with_reducible first | assumption | exact Covers.trans hm (by decide) | apply State.withCal_kept
                                | apply State.eraseNor_kept | apply State.setNor_kept | apply foldl_kept | apply kept_ite
                                | apply kept_ite_snd | apply optKept_some | exact optKept_none | apply optKept_ite
                                | exact Kept.refl _ | dsimp only | intro _)

theorem execStoreWrite_kept {m : Nat} {s : State} (hm : Covers m 0x800680000000000000000000000000000000000000000868) (facts) {t : State} (e : execStoreWrite facts s = .next t) : Kept m s t := by
  refine done_kept ?_ e
  repeat' (with_reducible first | assumption | exact Covers.trans hm (by decide) | apply State.live_kept
                                | apply State.endStore_kept | apply State.settleStore_kept | apply State.fault_kept
                                | apply when_kept | apply State.storeAccess_kept | apply foldl_kept | apply kept_ite
                                | apply kept_ite_snd | apply optKept_some | exact optKept_none | apply optKept_ite
                                | apply optKept_or | apply optKept_getD | exact Kept.refl _ | dsimp only | intro _
                                | split)

theorem execSysProfileStore_kept {m : Nat} {s : State} (hm : Covers m 0x20000080000000000000000000000000000000000000010864) (iss) (profile) {t : State} (e : execSysProfileStore iss profile s = .next t) : Kept m s t := by
  refine done_kept ?_ e
  repeat' (with_reducible first | assumption | exact Covers.trans hm (by decide) | apply State.command_kept
                                | apply State.draw_kept | apply State.beginStore_kept | apply foldl_kept | apply kept_ite
                                | apply kept_ite_snd | apply optKept_some | exact optKept_none | apply optKept_ite
                                | exact Kept.refl _ | dsimp only | intro _)

theorem execSysShutdownLogClear_kept {m : Nat} {s : State} (hm : Covers m 0x20000080000000000000000000000000000000000000000864) (iss) {t : State} (e : execSysShutdownLogClear iss s = .next t) : Kept m s t := by
  refine done_kept ?_ e
  repeat' (with_reducible first | assumption | exact Covers.trans hm (by decide) | apply State.command_kept
                                | apply State.beginStore_kept | apply foldl_kept | apply kept_ite | apply kept_ite_snd
                                | apply optKept_some | exact optKept_none | apply optKept_ite | exact Kept.refl _
                                | dsimp only | intro _)

theorem State.abandonErase_kept {m : Nat} {r s : State} (hm : Covers m 0x10808) (h : Kept m r s) (b) : Kept m r (State.abandonErase b s) := by
  unfold State.abandonErase
  repeat' (with_reducible first | assumption | exact Covers.trans hm (by decide) | apply State.withCal_kept | apply each_kept
                                | apply State.setNor_kept | apply State.draw_kept | exact Kept.refl _ | dsimp only | intro _)

theorem State.cutStore_kept {m : Nat} {r s : State} (hm : Covers m 0x10808) (h : Kept m r s)  : Kept m r (State.cutStore s).2 := by
  unfold State.cutStore
  repeat' (with_reducible first | assumption | exact Covers.trans hm (by decide) | apply State.abandonErase_kept
                                | apply State.storeAccess_kept | apply foldl_kept | apply kept_ite
                                | apply kept_ite_snd | apply optKept_some | exact optKept_none | apply optKept_ite
                                | apply optKept_or | apply optKept_getD | exact Kept.refl _ | dsimp only | intro _
                                | split)

theorem State.logRecord_kept {m : Nat} {r s : State} (hm : Covers m 0x10008) (h : Kept m r s) (l) (programmed) : Kept m r (State.logRecord l programmed s) := by
  unfold State.logRecord
  repeat' (with_reducible first | assumption | exact Covers.trans hm (by decide) | apply State.setNor_kept
                                | apply each_kept | apply State.draw_kept | apply foldl_kept | apply kept_ite
                                | apply kept_ite_snd | apply optKept_some | exact optKept_none | apply optKept_ite
                                | apply optKept_or | apply optKept_getD | exact Kept.refl _ | dsimp only | intro _
                                | split)

theorem execShutdownRecordWrite_kept {m : Nat} {s : State} (hm : Covers m 0x18808) (programmed) {t : State} (e : execShutdownRecordWrite programmed s = .next t) : Kept m s t := by
  refine done_kept ?_ e
  repeat' (with_reducible first | assumption | exact Covers.trans hm (by decide) | apply State.cutStore_kept
                                | apply State.logRecord_kept | apply State.withCal_kept | apply State.withThm_kept
                                | apply foldl_kept | apply kept_ite | apply kept_ite_snd | apply optKept_some
                                | exact optKept_none | apply optKept_ite | apply optKept_or | apply optKept_getD
                                | exact Kept.refl _ | dsimp only | intro _ | split)

theorem execHstFwStore_kept {m : Nat} {s : State} (hm : Covers m 0x20000080000000000000000000000000000000000000000864) (iss) (source) (length) {t : State} (e : execHstFwStore iss source length s = .next t) : Kept m s t := by
  refine done_kept ?_ e
  repeat' (with_reducible first | assumption | exact Covers.trans hm (by decide) | apply State.command_kept
                                | apply State.beginStore_kept | apply foldl_kept | apply kept_ite | apply kept_ite_snd
                                | apply optKept_some | exact optKept_none | apply optKept_ite | exact Kept.refl _
                                | dsimp only | intro _)

theorem State.setLive_kept {m : Nat} {r s : State} (hm : Covers m 0x800) (h : Kept m r s) (id) (off) (l)  : Kept m r (State.setLive id off l s) := by
  unfold State.setLive
  repeat' (with_reducible first | assumption | exact Covers.trans hm (by decide) | apply State.withCal_kept)

theorem State.setForce_kept {m : Nat} {r s : State} (hm : Covers m 0x800) (h : Kept m r s) (ch) (r') (v) : Kept m r (State.setForce ch r' v s) := by
  unfold State.setForce
  repeat' (with_reducible first | assumption | exact Covers.trans hm (by decide) | apply State.withCal_kept
                                | apply foldl_kept | apply kept_ite | apply kept_ite_snd | apply optKept_some
                                | exact optKept_none | apply optKept_ite | apply optKept_or | apply optKept_getD
                                | exact Kept.refl _ | dsimp only | intro _ | split)

theorem State.setOffset_kept {m : Nat} {r s : State} (hm : Covers m 0x800) (h : Kept m r s) (ch) (p) (v)  : Kept m r (State.setOffset ch p v s) := by
  unfold State.setOffset
  repeat' (with_reducible first | assumption | exact Covers.trans hm (by decide) | apply State.withCal_kept)

theorem State.followChannel_kept {m : Nat} {r s : State} (hm : Covers m 0x800) (h : Kept m r s) (ch) (value)  : Kept m r (State.followChannel ch value s) := by
  unfold State.followChannel
  repeat' (with_reducible first | assumption | exact Covers.trans hm (by decide) | apply each_kept
                                | apply State.setOffset_kept | apply State.setForce_kept | apply foldl_kept | apply kept_ite
                                | apply kept_ite_snd | apply optKept_some | exact optKept_none | apply optKept_ite
                                | exact Kept.refl _ | dsimp only | intro _)

theorem State.followPod_kept {m : Nat} {r s : State} (hm : Covers m 0x200000000000000000000000000000000000000000800) (h : Kept m r s) (k') : Kept m r (State.followPod k' s) := by
  unfold State.followPod
  repeat' (with_reducible first | assumption | exact Covers.trans hm (by decide) | apply State.putBit_kept
                                | apply each_kept | apply State.withCal_kept | apply State.followChannel_kept
                                | apply State.putBit_kept | apply foldl_kept | apply kept_ite | apply kept_ite_snd
                                | apply optKept_some | exact optKept_none | apply optKept_ite | apply optKept_or
                                | apply optKept_getD | exact Kept.refl _ | dsimp only | intro _ | split)

theorem State.followRest_kept {m : Nat} {r s : State} (hm : Covers m 0x200000000000000000000000000000000000000000800) (h : Kept m r s)   : Kept m r (State.followRest s) := by
  unfold State.followRest
  repeat' (with_reducible first | assumption | exact Covers.trans hm (by decide) | apply State.putBit_kept | apply each_kept
                                | apply State.withCal_kept | apply foldl_kept | apply kept_ite | apply kept_ite_snd
                                | apply optKept_some | exact optKept_none | apply optKept_ite | exact Kept.refl _
                                | dsimp only | intro _ | split)

theorem State.followAll_kept {m : Nat} {r s : State} (hm : Covers m 0x200000000000000000000000000000000000000000800) (h : Kept m r s)   : Kept m r (State.followAll s) := by
  unfold State.followAll
  repeat' (with_reducible first | assumption | exact Covers.trans hm (by decide) | apply State.followRest_kept
                                | apply each_kept | apply State.followPod_kept | apply foldl_kept | apply kept_ite
                                | apply kept_ite_snd | apply optKept_some | exact optKept_none | apply optKept_ite
                                | exact Kept.refl _ | dsimp only | intro _)

theorem execCalOffsetUpdate_kept {m : Nat} {s : State} (hm : Covers m 0x200000000000000000000000000000000000000000800)  {t : State} (e : execCalOffsetUpdate s = .next t) : Kept m s t := by
  refine done_kept ?_ e
  repeat' (with_reducible first | assumption | exact Covers.trans hm (by decide) | apply State.live_kept
                                | apply State.followAll_kept | apply State.withCal_kept | apply foldl_kept | apply kept_ite
                                | apply kept_ite_snd | apply optKept_some | exact optKept_none | apply optKept_ite
                                | exact Kept.refl _ | dsimp only | intro _)

theorem State.loadFactory_kept {m : Nat} {r s : State} (hm : Covers m 0x800) (h : Kept m r s) (id)  : Kept m r (State.loadFactory id s) := by
  unfold State.loadFactory
  repeat' (with_reducible first | assumption | exact Covers.trans hm (by decide) | apply State.withCal_kept)

theorem State.loadNominal_kept {m : Nat} {r s : State} (hm : Covers m 0x800) (h : Kept m r s) (id)  : Kept m r (State.loadNominal id s) := by
  unfold State.loadNominal
  repeat' (with_reducible first | assumption | exact Covers.trans hm (by decide) | apply State.withCal_kept)

theorem State.loadSlot_kept {m : Nat} {r s : State} (hm : Covers m 0x800) (h : Kept m r s) (id) (k') : Kept m r (State.loadSlot id k' s) := by
  unfold State.loadSlot
  repeat' (with_reducible first | assumption | exact Covers.trans hm (by decide) | apply State.setLive_kept
                                | apply foldl_kept | apply kept_ite | apply kept_ite_snd | apply optKept_some
                                | exact optKept_none | apply optKept_ite | apply optKept_or | apply optKept_getD
                                | exact Kept.refl _ | dsimp only | intro _ | split)

theorem State.loadDelays_kept {m : Nat} {r s : State} (hm : Covers m 0x6000000000000000000000000000000000000000) (h : Kept m r s)   : Kept m r (State.loadDelays s) := by
  unfold State.loadDelays
  repeat' (with_reducible first | assumption | exact Covers.trans hm (by decide) | apply each_kept | apply State.setReg_kept
                                | apply foldl_kept | apply kept_ite | apply kept_ite_snd | apply optKept_some
                                | exact optKept_none | apply optKept_ite | exact Kept.refl _ | dsimp only | intro _)

theorem State.bootSet_kept {m : Nat} {r s : State} (hm : Covers m 0x600000000000000000000000000000000000000000820) (h : Kept m r s) (bad) (id)  : Kept m r (State.bootSet bad id s) := by
  unfold State.bootSet
  repeat' (with_reducible first | assumption | exact Covers.trans hm (by decide) | apply State.putField_kept
                                | apply State.loadSlot_kept | apply State.setReg_kept | apply State.fault_kept
                                | apply State.loadNominal_kept | apply State.loadFactory_kept | apply foldl_kept
                                | apply kept_ite | apply kept_ite_snd | apply optKept_some | exact optKept_none
                                | apply optKept_ite | exact Kept.refl _ | dsimp only | intro _ | split)

theorem State.bootSets_kept {m : Nat} {r s : State} (hm : Covers m 0x600006000000000000000000000000000000000000820) (h : Kept m r s) (bad)  : Kept m r (State.bootSets bad s) := by
  unfold State.bootSets
  repeat' (with_reducible first | assumption | exact Covers.trans hm (by decide) | apply State.followAll_kept
                                | apply State.loadDelays_kept | apply each_kept | apply State.bootSet_kept
                                | apply State.withCal_kept | apply foldl_kept | apply kept_ite | apply kept_ite_snd
                                | apply optKept_some | exact optKept_none | apply optKept_ite | exact Kept.refl _
                                | dsimp only | intro _)

theorem execCalStore_kept {m : Nat} {s : State} (hm : Covers m 0x20000080000000000000000000000000000000000000000864) (iss) (sets) {t : State} (e : execCalStore iss sets s = .next t) : Kept m s t := by
  refine done_kept ?_ e
  repeat' (with_reducible first | assumption | exact Covers.trans hm (by decide) | apply State.command_kept
                                | apply State.beginStore_kept | apply foldl_kept | apply kept_ite | apply kept_ite_snd
                                | apply optKept_some | exact optKept_none | apply optKept_ite | exact Kept.refl _
                                | dsimp only | intro _)

theorem execCalRestore_kept {m : Nat} {s : State} (hm : Covers m 0x20000000000000000000000000000000000000000000000064) (iss) (sets) (source) {t : State} (e : execCalRestore iss sets source s = .next t) : Kept m s t := by
  refine done_kept ?_ e
  repeat' (with_reducible first | assumption | exact Covers.trans hm (by decide) | apply State.command_kept
                                | apply State.defer_kept | apply foldl_kept | apply kept_ite | apply kept_ite_snd
                                | apply optKept_some | exact optKept_none | apply optKept_ite | exact Kept.refl _
                                | dsimp only | intro _)

theorem State.restoreSets_kept {m : Nat} {r s : State} (hm : Covers m 0x200006000000000000000000000000000000000000800) (h : Kept m r s) (sets) (source)  : Kept m r (State.restoreSets sets source s) := by
  unfold State.restoreSets
  repeat' (with_reducible first | assumption | exact Covers.trans hm (by decide) | apply each_kept
                                | apply State.putField_kept | apply State.loadSlot_kept | apply State.loadFactory_kept
                                | apply State.putBit_kept | apply State.loadDelays_kept | apply foldl_kept | apply kept_ite
                                | apply kept_ite_snd | apply optKept_some | exact optKept_none | apply optKept_ite
                                | exact Kept.refl _ | dsimp only | intro _)

theorem execCalRun_kept {m : Nat} {s : State} (hm : Covers m 0x20000000000000000000000000000000000000000000000064) (iss) (scope) (mode) (set) (flags) (instances) {t : State} (e : execCalRun iss scope mode set flags instances s = .next t) : Kept m s t := by
  refine done_kept ?_ e
  repeat' (with_reducible first | assumption | exact Covers.trans hm (by decide) | apply State.command_kept
                                | apply State.defer_kept | apply foldl_kept | apply kept_ite | apply kept_ite_snd
                                | apply optKept_some | exact optKept_none | apply optKept_ite | apply optKept_or
                                | apply optKept_getD | exact Kept.refl _ | dsimp only | intro _ | split)

theorem State.runOver_kept {m : Nat} {r s : State} (hm : Covers m 0x80000000000000000000000000000000000000000840) (h : Kept m r s) (status) (res)  : Kept m r (State.runOver status res s) := by
  unfold State.runOver
  repeat' (with_reducible first | assumption | exact Covers.trans hm (by decide) | apply State.withCal_kept
                                | apply State.putField_kept | apply State.modDeferred_kept
                                | apply State.putField_kept | apply foldl_kept | apply kept_ite | apply kept_ite_snd
                                | apply optKept_some | exact optKept_none | apply optKept_ite | apply optKept_or
                                | apply optKept_getD | exact Kept.refl _ | dsimp only | intro _ | split)

theorem State.holdChannel_kept {m : Nat} {r s : State} (hm : Covers m 0x2000000000000000000000000040000000000000c000002220) (h : Kept m r s) (ch)  : Kept m r (State.holdChannel ch s) := by
  unfold State.holdChannel
  repeat' (with_reducible first | assumption | exact Covers.trans hm (by decide) | apply State.modTdc_kept
                                | apply State.quietNow_kept | apply State.tdcEnd_kept | apply State.unresolve_kept
                                | apply foldl_kept | apply kept_ite | apply kept_ite_snd | apply optKept_some
                                | exact optKept_none | apply optKept_ite | exact Kept.refl _ | dsimp only | intro _)

theorem State.enterStep_kept {m : Nat} {r s : State} (hm : Covers m 0x2000000000000000000000002800) (h : Kept m r s)   : Kept m r (State.enterStep s) := by
  unfold State.enterStep
  repeat' (with_reducible first | assumption | exact Covers.trans hm (by decide) | apply State.withCal_kept
                                | apply State.adcBusy_kept | apply foldl_kept | apply kept_ite | apply kept_ite_snd
                                | apply optKept_some | exact optKept_none | apply optKept_ite | apply optKept_or
                                | apply optKept_getD | exact Kept.refl _ | dsimp only | intro _ | split | rfl
                                | (refine kept_snd ?_ (by assumption)))

theorem execCalRunBegin_kept {m : Nat} {s : State} (hm : Covers m 0x2000018000000000000000200040000000000000c000002a60) (calclkCount) (refErrPpb) (vrefUv) {t : State} (e : execCalRunBegin calclkCount refErrPpb vrefUv s = .next t) : Kept m s t := by
  refine done_kept ?_ e
  repeat' (with_reducible first | assumption | exact Covers.trans hm (by decide) | apply State.live_kept
                                | apply each_kept | apply State.holdChannel_kept | apply State.putBit_kept
                                | apply State.fault_kept | apply State.runOver_kept | apply State.setReg_kept
                                | apply State.withCal_kept | apply State.putField_kept | apply State.enterStep_kept
                                | apply State.setReg_kept | apply State.putField_kept | apply State.putBit_kept
                                | apply foldl_kept | apply kept_ite | apply kept_ite_snd | apply optKept_some
                                | exact optKept_none | apply optKept_ite | apply optKept_or | apply optKept_getD
                                | exact Kept.refl _ | dsimp only | intro _ | split)

theorem State.putQuantity_kept {m : Nat} {r s : State} (hm : Covers m 0x10800) (h : Kept m r s) (id) (off) (size) (v)  : Kept m r (State.putQuantity id off size v s) := by
  unfold State.putQuantity
  repeat' (with_reducible first | assumption | exact Covers.trans hm (by decide) | apply State.setLive_kept
                                | apply State.draw_kept | apply foldl_kept | apply kept_ite | apply kept_ite_snd
                                | apply optKept_some | exact optKept_none | apply optKept_ite | exact Kept.refl _
                                | dsimp only | intro _)

theorem State.followSet_kept {m : Nat} {r s : State} (hm : Covers m 0x200000000000000000000000000000000000000000800) (h : Kept m r s) (id) : Kept m r (State.followSet id s) := by
  unfold State.followSet
  repeat' (with_reducible first | assumption | exact Covers.trans hm (by decide) | apply State.followPod_kept
                                | apply State.followRest_kept | apply foldl_kept | apply kept_ite
                                | apply kept_ite_snd | apply optKept_some | exact optKept_none | apply optKept_ite
                                | apply optKept_or | apply optKept_getD | exact Kept.refl _ | dsimp only | intro _
                                | split)

theorem State.putBack_kept {m : Nat} {r s : State} (hm : Covers m 0x200000000000000000000000000000000000000000800) (h : Kept m r s) (c) : Kept m r (State.putBack c s) := by
  unfold State.putBack
  repeat' (with_reducible first | assumption | exact Covers.trans hm (by decide) | apply State.live_kept
                                | apply State.withCal_kept | apply State.putField_kept | apply State.putBit_kept
                                | apply State.followSet_kept | apply State.putField_kept | apply State.putBit_kept
                                | apply foldl_kept | apply kept_ite | apply kept_ite_snd | apply optKept_some
                                | exact optKept_none | apply optKept_ite | apply optKept_or | apply optKept_getD
                                | exact Kept.refl _ | dsimp only | intro _ | split)

theorem State.applyMeasured_kept {m : Nat} {r s : State} (hm : Covers m 0x200000000000000000000000000000000000000010800) (h : Kept m r s) (x) (setTo)  : Kept m r (State.applyMeasured x setTo s) := by
  unfold State.applyMeasured
  repeat' (with_reducible first | assumption | exact Covers.trans hm (by decide) | apply each_kept
                                | apply State.putQuantity_kept | apply State.putField_kept | apply State.putBit_kept
                                | apply State.withCal_kept | apply State.followSet_kept | apply State.putField_kept
                                | apply State.putBit_kept | apply foldl_kept | apply kept_ite | apply kept_ite_snd
                                | apply optKept_some | exact optKept_none | apply optKept_ite | apply optKept_or
                                | apply optKept_getD | exact Kept.refl _ | dsimp only | intro _ | split)

theorem State.failFinished_kept {m : Nat} {r s : State} (hm : Covers m 0x200000000000000000000000000000000000000000820) (h : Kept m r s) (r') (k') : Kept m r (State.failFinished r' k' s) := by
  unfold State.failFinished
  repeat' (with_reducible first | assumption | exact Covers.trans hm (by decide) | apply State.putBack_kept
                                | apply State.putBit_kept | apply State.fault_kept | apply State.putBit_kept
                                | apply foldl_kept | apply kept_ite | apply kept_ite_snd | apply optKept_some
                                | exact optKept_none | apply optKept_ite | apply optKept_or | apply optKept_getD
                                | exact Kept.refl _ | dsimp only | intro _ | split)

theorem State.endRun_kept {m : Nat} {r s : State} (hm : Covers m 0x280000000000000000000000000000000000000010860) (h : Kept m r s) (r') : Kept m r (State.endRun r' s) := by
  unfold State.endRun
  repeat' (with_reducible first | assumption | exact Covers.trans hm (by decide) | apply State.runOver_kept
                                | apply each_kept | apply State.failFinished_kept | apply State.applyMeasured_kept
                                | apply State.withCal_kept | apply State.putField_kept | apply State.putBit_kept
                                | apply State.putField_kept | apply State.putBit_kept | apply foldl_kept
                                | apply kept_ite | apply kept_ite_snd | apply optKept_some | exact optKept_none
                                | apply optKept_ite | apply optKept_or | apply optKept_getD | exact Kept.refl _
                                | dsimp only | intro _ | split)

theorem State.nextStep_kept {m : Nat} {r s : State} (hm : Covers m 0x280000000000000002000000000000000000000012860) (h : Kept m r s) (rest)  : Kept m r (State.nextStep rest s) := by
  unfold State.nextStep
  repeat' (with_reducible first | assumption | exact Covers.trans hm (by decide) | apply State.withCal_kept
                                | apply State.endRun_kept | apply State.enterStep_kept | apply foldl_kept
                                | apply kept_ite | apply kept_ite_snd | apply optKept_some | exact optKept_none
                                | apply optKept_ite | apply optKept_or | apply optKept_getD | exact Kept.refl _
                                | dsimp only | intro _ | split)

theorem State.failInstance_kept {m : Nat} {r s : State} (hm : Covers m 0x280000000000000002000000000000000000000012860) (h : Kept m r s) (r') (step) (inst) (rest) : Kept m r (State.failInstance r' step inst rest s) := by
  unfold State.failInstance
  repeat' (with_reducible first | assumption | exact Covers.trans hm (by decide) | apply State.putBit_kept
                                | apply State.fault_kept | apply State.withCal_kept | apply State.nextStep_kept
                                | apply State.putBit_kept | apply foldl_kept | apply kept_ite | apply kept_ite_snd
                                | apply optKept_some | exact optKept_none | apply optKept_ite | apply optKept_or
                                | apply optKept_getD | exact Kept.refl _ | dsimp only | intro _ | split)

theorem execCalStepEnd_kept {m : Nat} {s : State} (hm : Covers m 0x280000000000000002000000000000000000000012860) (integral) (measured) {t : State} (e : execCalStepEnd integral measured s = .next t) : Kept m s t := by
  refine done_kept ?_ e
  repeat' (with_reducible first | assumption | exact Covers.trans hm (by decide) | apply State.live_kept
                                | apply State.enterStep_kept | apply State.nextStep_kept
                                | apply State.failInstance_kept | apply State.withCal_kept
                                | apply State.applyMeasured_kept | apply foldl_kept | apply kept_ite
                                | apply kept_ite_snd | apply optKept_some | exact optKept_none | apply optKept_ite
                                | apply optKept_or | apply optKept_getD | exact Kept.refl _ | dsimp only | intro _
                                | split | rfl | (refine kept_snd ?_ (by assumption)))

theorem State.abortAdcRuns_kept {m : Nat} {r s : State} (hm : Covers m 0x2000000000000000000000000040) (h : Kept m r s)  : Kept m r (State.abortAdcRuns s) := by
  unfold State.abortAdcRuns
  repeat' (with_reducible first | assumption | exact Covers.trans hm (by decide) | apply each_kept
                                | apply State.adcBack_kept | apply State.withHst_kept | apply foldl_kept
                                | apply kept_ite | apply kept_ite_snd | apply optKept_some | exact optKept_none
                                | apply optKept_ite | apply optKept_or | apply optKept_getD | exact Kept.refl _
                                | dsimp only | intro _ | split)

theorem State.abortRun_kept {m : Nat} {r s : State} (hm : Covers m 0x280000000000000002000000000000000000000010840) (h : Kept m r s)   : Kept m r (State.abortRun s) := by
  unfold State.abortRun
  repeat' (with_reducible first | assumption | exact Covers.trans hm (by decide) | apply State.abortAdcRuns_kept
                                | apply State.runOver_kept | apply each_kept | apply State.applyMeasured_kept
                                | apply State.adcBack_kept | apply foldl_kept | apply kept_ite | apply kept_ite_snd
                                | apply optKept_some | exact optKept_none | apply optKept_ite | apply optKept_or
                                | apply optKept_getD | exact Kept.refl _ | dsimp only | intro _ | split)

theorem State.podLost_kept {m : Nat} {r s : State} (hm : Covers m 0x800) (h : Kept m r s) (k') : Kept m r (State.podLost k' s) := by
  unfold State.podLost
  repeat' (with_reducible first | assumption | exact Covers.trans hm (by decide) | apply State.withCal_kept
                                | apply foldl_kept | apply kept_ite | apply kept_ite_snd | apply optKept_some
                                | exact optKept_none | apply optKept_ite | apply optKept_or | apply optKept_getD
                                | exact Kept.refl _ | dsimp only | intro _ | split)

theorem execC3Recalibration_kept {m : Nat} {s : State} (hm : Covers m 0x2000000000000000000000200040000000000000c000002a60)  {t : State} (e : execC3Recalibration s = .next t) : Kept m s t := by
  refine done_kept ?_ e
  repeat' (with_reducible first | assumption | exact Covers.trans hm (by decide) | apply State.live_kept
                                | apply State.withCal_kept | apply State.withHst_kept | apply each_kept
                                | apply State.holdChannel_kept | apply State.adcStopAtEnd_kept | apply foldl_kept
                                | apply kept_ite | apply kept_ite_snd | apply optKept_some | exact optKept_none
                                | apply optKept_ite | apply optKept_or | apply optKept_getD | exact Kept.refl _
                                | dsimp only | intro _ | split)

theorem State.loadTsets_kept {m : Nat} {r s : State} (hm : Covers m 0x200) (h : Kept m r s) (site) (first) (l)  : Kept m r (State.loadTsets site first l s) := by
  unfold State.loadTsets
  repeat' (with_reducible first | assumption | exact Covers.trans hm (by decide) | apply each_kept | apply State.setTset_kept
                                | apply foldl_kept | apply kept_ite | apply kept_ite_snd | apply optKept_some
                                | exact optKept_none | apply optKept_ite | exact Kept.refl _ | dsimp only | intro _)

theorem execTmgTsetLoad_kept {m : Nat} {s : State} (hm : Covers m 0x20000000000000000000000000000000000000000000000064) (iss) (source) (site) (first) (count) {t : State} (e : execTmgTsetLoad iss source site first count s = .next t) : Kept m s t := by
  refine done_kept ?_ e
  repeat' (with_reducible first | assumption | exact Covers.trans hm (by decide) | apply State.shadowed_kept
                                | apply State.defer_kept | apply foldl_kept | apply kept_ite | apply kept_ite_snd
                                | apply optKept_some | exact optKept_none | apply optKept_ite | exact Kept.refl _
                                | dsimp only | intro _)

theorem execTmgTsetRead_kept {m : Nat} {s : State} (hm : Covers m 0x20000000000000000000000000000000000000000000000064) (iss) (dest) (site) (tset) {t : State} (e : execTmgTsetRead iss dest site tset s = .next t) : Kept m s t := by
  refine done_kept ?_ e
  repeat' (with_reducible first | assumption | exact Covers.trans hm (by decide) | apply State.command_kept
                                | apply State.complete_kept | apply State.setMem_kept | apply foldl_kept | apply kept_ite
                                | apply kept_ite_snd | apply optKept_some | exact optKept_none | apply optKept_ite
                                | exact Kept.refl _ | dsimp only | intro _)

theorem execTmgEdgeQuery_kept {m : Nat} {s : State} (hm : Covers m 0x20000000000000000000000000000000000000000000000064) (iss) (channel) (tset) (path) {t : State} (e : execTmgEdgeQuery iss channel tset path s = .next t) : Kept m s t := by
  refine done_kept ?_ e
  repeat' (with_reducible first | assumption | exact Covers.trans hm (by decide) | apply State.command_kept
                                | apply State.complete_kept | apply foldl_kept | apply kept_ite | apply kept_ite_snd
                                | apply optKept_some | exact optKept_none | apply optKept_ite | exact Kept.refl _
                                | dsimp only | intro _)

theorem State.writeDir_kept {m : Nat} {r s : State} (hm : Covers m 0x200) (h : Kept m r s) (first) (l)  : Kept m r (State.writeDir first l s) := by
  unfold State.writeDir
  repeat' (with_reducible first | assumption | exact Covers.trans hm (by decide) | apply each_kept
                                | apply State.setDir_kept | apply State.pin_kept | apply foldl_kept | apply kept_ite
                                | apply kept_ite_snd | apply optKept_some | exact optKept_none | apply optKept_ite
                                | exact Kept.refl _ | dsimp only | intro _ | split)

theorem execVstDirWrite_kept {m : Nat} {s : State} (hm : Covers m 0x20000000000000000000000000000000000000000000000264) (iss) (source) (first) (count) {t : State} (e : execVstDirWrite iss source first count s = .next t) : Kept m s t := by
  refine done_kept ?_ e
  repeat' (with_reducible first | assumption | exact Covers.trans hm (by decide) | apply State.complete_kept
                                | apply State.command_kept | apply State.writeDir_kept | apply State.defer_kept
                                | apply foldl_kept | apply kept_ite | apply kept_ite_snd | apply optKept_some
                                | exact optKept_none | apply optKept_ite | exact Kept.refl _ | dsimp only | intro _ | split)

theorem execVstDirRead_kept {m : Nat} {s : State} (hm : Covers m 0x20000000000000000000000000000000000000000000000064) (iss) (dest) (first) (count) {t : State} (e : execVstDirRead iss dest first count s = .next t) : Kept m s t := by
  refine done_kept ?_ e
  repeat' (with_reducible first | assumption | exact Covers.trans hm (by decide) | apply State.command_kept
                                | apply State.complete_kept | apply State.setMem_kept | apply State.defer_kept
                                | apply foldl_kept | apply kept_ite | apply kept_ite_snd | apply optKept_some
                                | exact optKept_none | apply optKept_ite | exact Kept.refl _ | dsimp only | intro _)

theorem execVstSegVerify_kept {m : Nat} {s : State} (hm : Covers m 0x20000000000000000000000000000000000000000000000064) (iss) (segment) {t : State} (e : execVstSegVerify iss segment s = .next t) : Kept m s t := by
  refine done_kept ?_ e
  repeat' (with_reducible first | assumption | exact Covers.trans hm (by decide) | apply State.command_kept
                                | apply State.defer_kept | apply foldl_kept | apply kept_ite | apply kept_ite_snd
                                | apply optKept_some | exact optKept_none | apply optKept_ite | exact Kept.refl _
                                | dsimp only | intro _)

theorem State.loadMarks_kept {m : Nat} {r s : State} (hm : Covers m 0x200) (h : Kept m r s) (site) (first) (l)  : Kept m r (State.loadMarks site first l s) := by
  unfold State.loadMarks
  repeat' (with_reducible first | assumption | exact Covers.trans hm (by decide) | apply each_kept
                                | apply State.setMkEntry_kept | apply foldl_kept | apply kept_ite | apply kept_ite_snd
                                | apply optKept_some | exact optKept_none | apply optKept_ite | exact Kept.refl _
                                | dsimp only | intro _)

theorem execVstMktabLoad_kept {m : Nat} {s : State} (hm : Covers m 0x20000000000000000000000000000000000000000000000064) (iss) (source) (site) (first) (count) {t : State} (e : execVstMktabLoad iss source site first count s = .next t) : Kept m s t := by
  refine done_kept ?_ e
  repeat' (with_reducible first | assumption | exact Covers.trans hm (by decide) | apply State.shadowed_kept
                                | apply State.defer_kept | apply foldl_kept | apply kept_ite | apply kept_ite_snd
                                | apply optKept_some | exact optKept_none | apply optKept_ite | exact Kept.refl _
                                | dsimp only | intro _)

theorem execSeqUcodeLoad_kept {m : Nat} {s : State} (hm : Covers m 0x20000000000000000000000000000000000000000000000064) (iss) (source) (clusters) {t : State} (e : execSeqUcodeLoad iss source clusters s = .next t) : Kept m s t := by
  refine done_kept ?_ e
  repeat' (with_reducible first | assumption | exact Covers.trans hm (by decide) | apply State.command_kept
                                | apply State.defer_kept | apply foldl_kept | apply kept_ite | apply kept_ite_snd
                                | apply optKept_some | exact optKept_none | apply optKept_ite | exact Kept.refl _
                                | dsimp only | intro _)

theorem State.loadCopy_kept {m : Nat} {r s : State} (hm : Covers m 0xe00000000200) (h : Kept m r s) (l) (c)  : Kept m r (State.loadCopy l c s) := by
  unfold State.loadCopy
  repeat' (with_reducible first | assumption | exact Covers.trans hm (by decide) | apply State.withSeq_kept
                                | apply State.setReg_kept | apply State.putBit_kept)

theorem State.runUcodeLoad_kept {m : Nat} {r s : State} (hm : Covers m 0x20000000000000000000000000000000000000e00000010264) (h : Kept m r s) (d) (clusters) (bad)  : Kept m r (State.runUcodeLoad d clusters bad s) := by
  unfold State.runUcodeLoad
  repeat' (with_reducible first | assumption | exact Covers.trans hm (by decide) | apply each_kept
                                | apply State.loadCopy_kept | apply State.finish_kept | apply State.putBit_kept
                                | apply State.draw_kept | apply State.fault_kept | apply foldl_kept | apply kept_ite
                                | apply kept_ite_snd | apply optKept_some | exact optKept_none | apply optKept_ite
                                | exact Kept.refl _ | dsimp only | intro _)

theorem execSeqUcodeVerify_kept {m : Nat} {s : State} (hm : Covers m 0x20000000000000000000000000000000000000000000000064) (iss) (clusters) {t : State} (e : execSeqUcodeVerify iss clusters s = .next t) : Kept m s t := by
  refine done_kept ?_ e
  repeat' (with_reducible first | assumption | exact Covers.trans hm (by decide) | apply State.command_kept
                                | apply State.defer_kept | apply foldl_kept | apply kept_ite | apply kept_ite_snd
                                | apply optKept_some | exact optKept_none | apply optKept_ite | exact Kept.refl _
                                | dsimp only | intro _)

theorem State.runUcodeVerify_kept {m : Nat} {r s : State} (hm : Covers m 0x20000000000000000000000000000000000001200000000064) (h : Kept m r s) (d) (clusters)  : Kept m r (State.runUcodeVerify d clusters s) := by
  unfold State.runUcodeVerify
  repeat' (with_reducible first | assumption | exact Covers.trans hm (by decide) | apply each_kept | apply State.fault_kept
                                | apply State.setReg_kept | apply State.putBit_kept | apply State.finish_kept
                                | apply foldl_kept | apply kept_ite | apply kept_ite_snd | apply optKept_some
                                | exact optKept_none | apply optKept_ite | exact Kept.refl _ | dsimp only | intro _)

theorem execSeqProgLoad_kept {m : Nat} {s : State} (hm : Covers m 0x20000000000000000000000000000000000000000000000064) (iss) (source) (program) (countM1) {t : State} (e : execSeqProgLoad iss source program countM1 s = .next t) : Kept m s t := by
  refine done_kept ?_ e
  repeat' (with_reducible first | assumption | exact Covers.trans hm (by decide) | apply State.commandBad_kept
                                | apply State.defer_kept | apply foldl_kept | apply kept_ite | apply kept_ite_snd
                                | apply optKept_some | exact optKept_none | apply optKept_ite | exact Kept.refl _
                                | dsimp only | intro _)

theorem State.fillBlocks_kept {m : Nat} {r : State} (hm : Covers m 0x4) (l : List Nat) : ∀ (b : List Byte) {s : State}, Kept m r s → Kept m r (State.fillBlocks l b s) := by
  induction l with
  | nil => intro _ s h; exact h
  | cons x l ih => intro b s h; exact ih _ (State.setMem_kept (hm.trans (by decide)) h _ _)

theorem State.runProgLoad_kept {m : Nat} {r s : State} (hm : Covers m 0x200000000000000000700000000000000000000000000002e4) (h : Kept m r s) (d) (program) (countM1)  : Kept m r (State.runProgLoad d program countM1 s) := by
  unfold State.runProgLoad
  repeat' (with_reducible first | assumption | exact Covers.trans hm (by decide) | apply State.finish_kept
                                | apply State.takeBlocks_kept | apply State.freeBlockList_kept | apply State.fillBlocks_kept
                                | apply State.setProg_kept | apply foldl_kept | apply kept_ite | apply kept_ite_snd
                                | apply optKept_some | exact optKept_none | apply optKept_ite | exact Kept.refl _
                                | dsimp only | intro _)

theorem execSeqProgFree_kept {m : Nat} {s : State} (hm : Covers m 0x200000000000000000700000000000000000000000000002e4) (iss) (program) {t : State} (e : execSeqProgFree iss program s = .next t) : Kept m s t := by
  refine done_kept ?_ e
  repeat' (with_reducible first | assumption | exact Covers.trans hm (by decide) | apply State.command_kept
                                | apply State.complete_kept | apply State.setProg_kept | apply State.freeBlockList_kept
                                | apply foldl_kept | apply kept_ite | apply kept_ite_snd | apply optKept_some
                                | exact optKept_none | apply optKept_ite | exact Kept.refl _ | dsimp only | intro _)

theorem execSeqGrWrite_kept {m : Nat} {s : State} (hm : Covers m 0x100000000000) (index) (value) {t : State} (e : execSeqGrWrite index value s = .next t) : Kept m s t := by
  refine done_kept ?_ e
  repeat' (with_reducible first | assumption | exact Covers.trans hm (by decide) | apply State.live_kept
                                | apply State.setReg_kept | apply foldl_kept | apply kept_ite | apply kept_ite_snd
                                | apply optKept_some | exact optKept_none | apply optKept_ite | exact Kept.refl _
                                | dsimp only | intro _)

theorem execSeqThrRead_kept {m : Nat} {s : State} (hm : Covers m 0x20000000000000000000000000000000000000000000000064) (iss) (dest) (thread) {t : State} (e : execSeqThrRead iss dest thread s = .next t) : Kept m s t := by
  refine done_kept ?_ e
  repeat' (with_reducible first | assumption | exact Covers.trans hm (by decide) | apply State.command_kept
                                | apply State.complete_kept | apply State.setMem_kept | apply foldl_kept | apply kept_ite
                                | apply kept_ite_snd | apply optKept_some | exact optKept_none | apply optKept_ite
                                | exact Kept.refl _ | dsimp only | intro _)

theorem execSeqCslSet_kept {m : Nat} {s : State} (hm : Covers m 0x20000000000000000000000000000000000000000000000264) (iss) (sites) (slot) (op) {t : State} (e : execSeqCslSet iss sites slot op s = .next t) : Kept m s t := by
  refine done_kept ?_ e
  repeat' (with_reducible first | assumption | exact Covers.trans hm (by decide) | apply State.command_kept
                                | apply State.complete_kept | apply each_kept | apply State.clearSlot_kept
                                | apply State.happen_kept | apply foldl_kept | apply kept_ite | apply kept_ite_snd
                                | apply optKept_some | exact optKept_none | apply optKept_ite | exact Kept.refl _
                                | dsimp only | intro _)

theorem State.armThread_kept {m : Nat} {r s : State} (hm : Covers m 0x3000000000000001e004028000000280) (h : Kept m r s) (program) (entry) (at_) (n)  : Kept m r (State.armThread program entry at_ n s) := by
  unfold State.armThread
  repeat' (with_reducible first | assumption | exact Covers.trans hm (by decide) | apply State.takeBlocks_kept
                                | apply State.modThr_kept | apply State.setReg_kept | apply State.putBit_kept
                                | apply State.putField_kept | apply State.withSeq_kept | apply State.setReg_kept
                                | apply State.putField_kept | apply State.putBit_kept | apply foldl_kept
                                | apply kept_ite | apply kept_ite_snd | apply optKept_some | exact optKept_none
                                | apply optKept_ite | apply optKept_or | apply optKept_getD | exact Kept.refl _
                                | dsimp only | intro _ | split)

theorem State.holdStream_kept {m : Nat} {r s : State} (hm : Covers m 0x30000000000000080004000000000280) (h : Kept m r s) (x)  : Kept m r (State.holdStream x s) := by
  unfold State.holdStream
  repeat' (with_reducible first | assumption | exact Covers.trans hm (by decide) | apply State.takeBlocks_kept
                                | apply State.setReg_kept | apply State.modThr_kept | apply each_kept
                                | apply State.putBit_kept | apply State.modGroup_kept | apply State.setReg_kept
                                | apply State.putBit_kept | apply foldl_kept | apply kept_ite | apply kept_ite_snd
                                | apply optKept_some | exact optKept_none | apply optKept_ite | exact Kept.refl _
                                | dsimp only | intro _ | split)

theorem State.armBurst_kept {m : Nat} {r s : State} (hm : Covers m 0x3000000000000009e004028000000280) (h : Kept m r s) (sites) (program) (entry) (at_)  : Kept m r (State.armBurst sites program entry at_ s) := by
  unfold State.armBurst
  repeat' (with_reducible first | assumption | exact Covers.trans hm (by decide) | apply each_kept
                                | apply State.holdStream_kept | apply State.modThr_kept | apply State.putBit_kept
                                | apply State.armThread_kept | apply State.withSeq_kept | apply foldl_kept | apply kept_ite
                                | apply kept_ite_snd | apply optKept_some | exact optKept_none | apply optKept_ite
                                | exact Kept.refl _ | dsimp only | intro _)

theorem execTiEdge_kept {m : Nat} {s : State} (hm : Covers m 0x2000000000000100000000000001c000000000000000003620) (input) (rising) (coarse) {t : State} (e : execTiEdge input rising coarse s = .next t) : Kept m s t := by
  refine done_kept ?_ e
  repeat' (with_reducible first | assumption | exact Covers.trans hm (by decide) | apply State.live_kept
                                | apply State.withCap_kept | apply when_kept
                                | apply State.happenAll_kept | apply each_kept | apply State.aqTrigger_kept
                                | apply State.adcTrigger_kept | apply foldl_kept | apply kept_ite
                                | apply kept_ite_snd | apply optKept_some | exact optKept_none | apply optKept_ite
                                | exact Kept.refl _ | dsimp only | intro _ | split)

end Sys2Proof.Machine
end

