-- ==== Sys2Proof/Laws/KeptHost.lean ====
section
/-! SUPPORT. What the operations and meanings of Husk, registers, the host interface, transactions, descriptors and boot leave as it was. -/

namespace Sys2Proof.Machine

theorem State.enqueueRecord_kept {m : Nat} {r s : State} (hm : Covers m 0xa1000000000000000000000000000000000000000000000020) (h : Kept m r s) (x)  : Kept m r (State.enqueueRecord x s) := by
  unfold State.enqueueRecord
  repeat' (with_reducible first | assumption | exact Covers.trans hm (by decide) | apply State.withHsk_kept
                                | apply State.setReg64_kept | apply State.event_kept | apply State.countUp_kept
                                | apply State.setReg64_kept | apply State.countUp_kept | apply foldl_kept
                                | apply kept_ite | apply kept_ite_snd | apply optKept_some | exact optKept_none
                                | apply optKept_ite | exact Kept.refl _ | dsimp only | intro _ | split)

theorem State.roll_kept {m : Nat} {r s : State} (hm : Covers m 0x40) (h : Kept m r s) (m') : Kept m r (State.roll m' s) := by
  unfold State.roll
  repeat' (with_reducible first | assumption | exact Covers.trans hm (by decide) | apply State.setBox_kept
                                | apply foldl_kept | apply kept_ite | apply kept_ite_snd | apply optKept_some
                                | exact optKept_none | apply optKept_ite | apply optKept_or | apply optKept_getD
                                | exact Kept.refl _ | dsimp only | intro _ | split)

theorem State.rollBack_kept {m : Nat} {r s : State} (hm : Covers m 0x20000000000000000000000000000000000000000000000064) (h : Kept m r s) (m') : Kept m r (State.rollBack m' s) := by
  unfold State.rollBack
  repeat' (with_reducible first | assumption | exact Covers.trans hm (by decide) | apply State.withHst_kept
                                | apply State.complete_kept | apply State.modTxn_kept | apply State.roll_kept
                                | apply State.post_kept | apply foldl_kept | apply kept_ite | apply kept_ite_snd
                                | apply optKept_some | exact optKept_none | apply optKept_ite | apply optKept_or
                                | apply optKept_getD | exact Kept.refl _ | dsimp only | intro _ | split)

theorem State.rollBackAll_kept {m : Nat} {r s : State} (hm : Covers m 0x20000000000000000000000000000000000000000000000064) (h : Kept m r s) (hit)  : Kept m r (State.rollBackAll hit s) := by
  unfold State.rollBackAll
  repeat' (with_reducible first | assumption | exact Covers.trans hm (by decide) | apply each_kept
                                | apply State.rollBack_kept | apply foldl_kept | apply kept_ite | apply kept_ite_snd
                                | apply optKept_some | exact optKept_none | apply optKept_ite | exact Kept.refl _
                                | dsimp only | intro _)

theorem State.abortSites_kept {m : Nat} {r s : State} (hm : Covers m 0x200) (h : Kept m r s) (l)  : Kept m r (State.abortSites l s) := by
  unfold State.abortSites
  repeat' (with_reducible first | assumption | exact Covers.trans hm (by decide) | apply each_kept
                                | apply State.spanPut_kept | apply State.abortDue_kept | apply foldl_kept
                                | apply kept_ite | apply kept_ite_snd | apply optKept_some | exact optKept_none
                                | apply optKept_ite | apply optKept_or | apply optKept_getD | exact Kept.refl _
                                | dsimp only | intro _ | split)

theorem State.notice_kept {m : Nat} {r s : State} (hm : Covers m 0x20000000000001000000000000000000000000000000000420) (h : Kept m r s) (x)  : Kept m r (State.notice x s) := by
  unfold State.notice
  repeat' (with_reducible first | assumption | exact Covers.trans hm (by decide) | apply State.flood_kept
                                | apply foldl_kept | apply kept_ite | apply kept_ite_snd | apply optKept_some
                                | exact optKept_none | apply optKept_ite | apply optKept_or | apply optKept_getD
                                | exact Kept.refl _ | dsimp only | intro _ | split)

theorem State.containC2_kept {m : Nat} {r s : State} (hm : Covers m 0x20000000000000000000000000000000000000000000000264) (h : Kept m r s) (l)  : Kept m r (State.containC2 l s) := by
  unfold State.containC2
  repeat' (with_reducible first | assumption | exact Covers.trans hm (by decide) | apply State.rollBackAll_kept
                                | apply State.abortSites_kept)

theorem State.containC3_kept {m : Nat} {r s : State} (hm : Covers m 0x20000280000001000002002000000000000000000000012e64) (h : Kept m r s) (l)  : Kept m r (State.containC3 l s) := by
  unfold State.containC3
  repeat' (with_reducible first | assumption | exact Covers.trans hm (by decide) | apply State.rollBackAll_kept
                                | apply State.supRampAll_kept | apply State.abortSites_kept | apply State.abortRun_kept
                                | apply when_kept | apply State.withCal_kept | apply each_kept | apply State.notice_kept
                                | apply foldl_kept | apply kept_ite | apply kept_ite_snd | apply optKept_some
                                | exact optKept_none | apply optKept_ite | exact Kept.refl _ | dsimp only | intro _)

theorem State.enterFaultStop_kept {m : Nat} {r s : State} (hm : Covers m 0x20000000bc0020000002002000000000000000000000016064) (h : Kept m r s)   : Kept m r (State.enterFaultStop s) := by
  unfold State.enterFaultStop
  repeat' (with_reducible first | assumption | exact Covers.trans hm (by decide) | apply State.supOffAll_kept
                                | apply State.putField_kept | apply each_kept | apply State.adcStopNow_kept
                                | apply State.appletReset_kept | apply foldl_kept | apply kept_ite | apply kept_ite_snd
                                | apply optKept_some | exact optKept_none | apply optKept_ite | exact Kept.refl _
                                | dsimp only | intro _)

theorem State.contain_kept {m : Nat} {r s : State} (hm : Covers m 0x20000280bc0021000002002000000000000000000000016e64) (h : Kept m r s) (l)  : Kept m r (State.contain l s) := by
  unfold State.contain
  repeat' (with_reducible first | assumption | exact Covers.trans hm (by decide) | apply State.enterFaultStop_kept
                                | apply State.containC3_kept | apply State.containC2_kept | apply foldl_kept
                                | apply kept_ite | apply kept_ite_snd | apply optKept_some | exact optKept_none
                                | apply optKept_ite | apply optKept_or | apply optKept_getD | exact Kept.refl _
                                | dsimp only | intro _ | split)

theorem State.latchFaults_kept {m : Nat} {r s : State} (hm : Covers m 0xa1000280bc0021000002002000000000000000000000016e64) (h : Kept m r s)  : Kept m r (State.latchFaults s) := by
  unfold State.latchFaults
  repeat' (with_reducible first | assumption | exact Covers.trans hm (by decide) | apply each_kept
                                | apply State.enqueueRecord_kept | apply State.withHsk_kept
                                | apply State.contain_kept | apply foldl_kept | apply kept_ite | apply kept_ite_snd
                                | apply optKept_some | exact optKept_none | apply optKept_ite | apply optKept_or
                                | apply optKept_getD | exact Kept.refl _ | dsimp only | intro _ | split)

theorem State.exchangeOnce_kept {m : Nat} {r s : State} (hm : Covers m 0x200000000000000000000000000000000000014060) (h : Kept m r s)  : Kept m r (State.exchangeOnce s) := by
  unfold State.exchangeOnce
  repeat' (with_reducible first | assumption | exact Covers.trans hm (by decide) | apply State.exchange_kept
                                | apply foldl_kept | apply kept_ite | apply kept_ite_snd | apply optKept_some
                                | exact optKept_none | apply optKept_ite | exact Kept.refl _ | dsimp only | intro _
                                | split)

theorem execFaultLatch_kept {m : Nat} {s : State} (hm : Covers m 0xa1000280bc0021000002002000000000000000000000016e64)  {t : State} (e : execFaultLatch s = .next t) : Kept m s t := by
  refine done_kept ?_ e
  repeat' (with_reducible first | assumption | exact Covers.trans hm (by decide) | apply State.live_kept
                                | apply State.latchFaults_kept | apply State.exchangeOnce_kept
                                | apply foldl_kept | apply kept_ite | apply kept_ite_snd | apply optKept_some
                                | exact optKept_none | apply optKept_ite | exact Kept.refl _ | dsimp only | intro _
                                | split)

theorem State.moveRecords_kept {m : Nat} {r s : State} (hm : Covers m 0x40000000000000000000000000000000000000000000000020) (h : Kept m r s)   : Kept m r (State.moveRecords s) := by
  unfold State.moveRecords
  repeat' (with_reducible first | assumption | exact Covers.trans hm (by decide) | apply State.withHsk_kept
                                | apply State.setReg_kept | apply State.setReg_kept | apply foldl_kept
                                | apply kept_ite | apply kept_ite_snd | apply optKept_some | exact optKept_none
                                | apply optKept_ite | apply optKept_or | apply optKept_getD | exact Kept.refl _
                                | dsimp only | intro _ | split)

theorem State.reportLost_kept {m : Nat} {r s : State} (hm : Covers m 0x20) (h : Kept m r s)   : Kept m r (State.reportLost s) := by
  unfold State.reportLost
  repeat' (with_reducible first | assumption | exact Covers.trans hm (by decide) | apply State.fault_kept
                                | apply State.withHsk_kept | apply foldl_kept | apply kept_ite | apply kept_ite_snd
                                | apply optKept_some | exact optKept_none | apply optKept_ite | exact Kept.refl _
                                | dsimp only | intro _)

theorem execFaultRecordWrite_kept {m : Nat} {s : State} (hm : Covers m 0x40000000000000000000000000000000000000000000000020)  {t : State} (e : execFaultRecordWrite s = .next t) : Kept m s t := by
  refine done_kept ?_ e
  repeat' (with_reducible first | assumption | exact Covers.trans hm (by decide) | apply State.live_kept
                                | apply State.reportLost_kept | apply State.moveRecords_kept | apply foldl_kept
                                | apply kept_ite | apply kept_ite_snd | apply optKept_some | exact optKept_none
                                | apply optKept_ite | exact Kept.refl _ | dsimp only | intro _)

theorem State.acknowledge_kept {m : Nat} {r s : State} (hm : Covers m 0xa1000280bc0021000002002000000000000000000000016e64) (h : Kept m r s) (v)  : Kept m r (State.acknowledge v s) := by
  unfold State.acknowledge
  repeat' (with_reducible first | assumption | exact Covers.trans hm (by decide) | apply State.latchFaults_kept
                                | apply State.setReg64_kept | apply State.setReg64_kept | apply foldl_kept
                                | apply kept_ite | apply kept_ite_snd | apply optKept_some | exact optKept_none
                                | apply optKept_ite | apply optKept_or | apply optKept_getD | exact Kept.refl _
                                | dsimp only | intro _ | split)

theorem execHskAckWrite_kept {m : Nat} {s : State} (hm : Covers m 0xa1000280bc0021000002002000000000000000000000016e64) (high) (value) {t : State} (e : execHskAckWrite high value s = .next t) : Kept m s t := by
  refine done_kept ?_ e
  repeat' (with_reducible first | assumption | exact Covers.trans hm (by decide) | apply State.live_kept
                                | apply State.acknowledge_kept | apply foldl_kept | apply kept_ite | apply kept_ite_snd
                                | apply optKept_some | exact optKept_none | apply optKept_ite | exact Kept.refl _
                                | dsimp only | intro _)

theorem execHskRecRead_kept {m : Nat} {s : State} (hm : Covers m 0x20000000000000000000000000000000000000000000000064) (iss) (dest) (first) (count) {t : State} (e : execHskRecRead iss dest first count s = .next t) : Kept m s t := by
  refine done_kept ?_ e
  repeat' (with_reducible first | assumption | exact Covers.trans hm (by decide) | apply State.command_kept
                                | apply State.setMem_kept | apply State.complete_kept | apply foldl_kept
                                | apply kept_ite | apply kept_ite_snd | apply optKept_some | exact optKept_none
                                | apply optKept_ite | apply optKept_or | apply optKept_getD | exact Kept.refl _
                                | dsimp only | intro _ | split)

theorem State.writeInject_kept {m : Nat} {r s : State} (hm : Covers m 0x20) (h : Kept m r s) (v)  : Kept m r (State.writeInject v s) := by
  unfold State.writeInject
  repeat' (with_reducible first | assumption | exact Covers.trans hm (by decide) | apply State.withHsk_kept)

theorem execHskInjectWrite_kept {m : Nat} {s : State} (hm : Covers m 0x20) (who) (value) {t : State} (e : execHskInjectWrite who value s = .next t) : Kept m s t := by
  refine done_kept ?_ e
  repeat' (with_reducible first | assumption | exact Covers.trans hm (by decide) | apply State.live_kept
                                | apply State.writeInject_kept | apply foldl_kept | apply kept_ite | apply kept_ite_snd
                                | apply optKept_some | exact optKept_none | apply optKept_ite | exact Kept.refl _
                                | dsimp only | intro _)

theorem State.setSnap_kept {m : Nat} {r s : State} (hm : Covers m 0x40) (h : Kept m r s) (p) (k') (v) : Kept m r (State.setSnap p k' v s) := by
  unfold State.setSnap
  repeat' (with_reducible first | assumption | exact Covers.trans hm (by decide) | apply State.withHst_kept
                                | apply foldl_kept | apply kept_ite | apply kept_ite_snd | apply optKept_some
                                | exact optKept_none | apply optKept_ite | apply optKept_or | apply optKept_getD
                                | exact Kept.refl _ | dsimp only | intro _ | split)

theorem State.answer_kept {m : Nat} {r s : State} (hm : Covers m 0x40) (h : Kept m r s) (p) (v)  : Kept m r (State.answer p v s) := by
  unfold State.answer
  repeat' (with_reducible first | assumption | exact Covers.trans hm (by decide) | apply State.withHst_kept
                                | apply foldl_kept | apply kept_ite | apply kept_ite_snd | apply optKept_some
                                | exact optKept_none | apply optKept_ite | exact Kept.refl _ | dsimp only | intro _
                                | split)

theorem State.beforeRead_kept {m : Nat} {r s : State} (hm : Covers m 0x200000000000000000000000000000000000014060) (h : Kept m r s) (r') : Kept m r (State.beforeRead r' s) := by
  unfold State.beforeRead
  repeat' (with_reducible first | assumption | exact Covers.trans hm (by decide) | apply State.exchange_kept
                                | apply foldl_kept | apply kept_ite | apply kept_ite_snd | apply optKept_some
                                | exact optKept_none | apply optKept_ite | apply optKept_or | apply optKept_getD
                                | exact Kept.refl _ | dsimp only | intro _ | split)

theorem State.readReg_kept {m : Nat} {r s : State} (hm : Covers m 0x80400010800005e00000004001808008018400004000000040) (h : Kept m r s) (p) (r') : Kept m r (State.readReg p r' s).2 := by
  unfold State.readReg
  repeat' (with_reducible first | assumption | exact Covers.trans hm (by decide) | apply when_kept
                                | apply State.clearRead_kept | apply State.answer_kept | apply each_kept
                                | apply State.setSnap_kept | apply foldl_kept | apply kept_ite | apply kept_ite_snd
                                | apply optKept_some | exact optKept_none | apply optKept_ite | apply optKept_or
                                | apply optKept_getD | exact Kept.refl _ | dsimp only | intro _ | split)

theorem State.readWide_kept {m : Nat} {r s : State} (hm : Covers m 0x80400010800005e00000004001808008018400004000000040) (h : Kept m r s) (p) (r') : Kept m r (State.readWide p r' s) := by
  unfold State.readWide
  repeat' (with_reducible first | assumption | exact Covers.trans hm (by decide) | apply State.readReg_kept
                                | apply State.answer_kept | apply foldl_kept | apply kept_ite | apply kept_ite_snd
                                | apply optKept_some | exact optKept_none | apply optKept_ite | apply optKept_or
                                | apply optKept_getD | exact Kept.refl _ | dsimp only | intro _ | split)

theorem State.readTod_kept {m : Nat} {r s : State} (hm : Covers m 0x40) (h : Kept m r s) (p)  : Kept m r (State.readTod p s).2 := by
  unfold State.readTod
  repeat' (with_reducible first | assumption | exact Covers.trans hm (by decide) | apply State.setSnap_kept
                                | apply State.answer_kept | apply foldl_kept | apply kept_ite | apply kept_ite_snd
                                | apply optKept_some | exact optKept_none | apply optKept_ite | exact Kept.refl _
                                | dsimp only | intro _ | split)

theorem State.readFast_kept {m : Nat} {r s : State} (hm : Covers m 0x80400010800005e00000004001808008018400004000000040) (h : Kept m r s) (p) (o)  : Kept m r (State.readFast p o s).2 := by
  unfold State.readFast
  repeat' (with_reducible first | assumption | exact Covers.trans hm (by decide) | apply State.readReg_kept
                                | apply State.readTod_kept | apply State.answer_kept | apply foldl_kept
                                | apply kept_ite | apply kept_ite_snd | apply optKept_some | exact optKept_none
                                | apply optKept_ite | exact Kept.refl _ | dsimp only | intro _ | split)

theorem State.readSized_kept {m : Nat} {r s : State} (hm : Covers m 0x80400010800005e00000004001808008018400004000000040) (h : Kept m r s) (p) (r') (wide) : Kept m r (State.readSized p r' wide s) := by
  unfold State.readSized
  repeat' (with_reducible first | assumption | exact Covers.trans hm (by decide) | apply State.readWide_kept
                                | apply State.readReg_kept | apply foldl_kept | apply kept_ite | apply kept_ite_snd
                                | apply optKept_some | exact optKept_none | apply optKept_ite | apply optKept_or
                                | apply optKept_getD | exact Kept.refl _ | dsimp only | intro _ | split)

theorem State.readWhere_kept {m : Nat} {r s : State} (hm : Covers m 0x80400010a00005e00000004001808008018400004000014060) (h : Kept m r s) (p) (a) (wide) (hit) : Kept m r (State.readWhere p a wide hit s) := by
  unfold State.readWhere
  repeat' (with_reducible first | assumption | exact Covers.trans hm (by decide) | apply State.beforeRead_kept
                                | apply State.readSized_kept | apply State.answer_kept | apply foldl_kept
                                | apply kept_ite | apply kept_ite_snd | apply optKept_some | exact optKept_none
                                | apply optKept_ite | apply optKept_or | apply optKept_getD | exact Kept.refl _
                                | dsimp only | intro _ | split)

theorem execLoWordRead_kept {m : Nat} {s : State} (hm : Covers m 0x80400010a00005e00000004001808008018400004000014060) (read) (addr) {t : State} (e : execLoWordRead read addr s = .next t) : Kept m s t := by
  refine done_kept ?_ e
  repeat' (with_reducible first | assumption | exact Covers.trans hm (by decide) | apply State.live_kept
                                | apply State.readWhere_kept | apply foldl_kept | apply kept_ite | apply kept_ite_snd
                                | apply optKept_some | exact optKept_none | apply optKept_ite | apply optKept_or
                                | apply optKept_getD | exact Kept.refl _ | dsimp only | intro _ | split)

theorem execReadClearRead_kept {m : Nat} {s : State} (hm : Covers m 0x80400010a00005e00000004001808008018400004000014060) (path) (addr) {t : State} (e : execReadClearRead path addr s = .next t) : Kept m s t := by
  refine done_kept ?_ e
  repeat' (with_reducible first | assumption | exact Covers.trans hm (by decide) | apply State.live_kept
                                | apply State.readWhere_kept | apply foldl_kept | apply kept_ite
                                | apply kept_ite_snd | apply optKept_some | exact optKept_none | apply optKept_ite
                                | exact Kept.refl _ | dsimp only | intro _ | split)

theorem execTodNsRead_kept {m : Nat} {s : State} (hm : Covers m 0x40) (path) {t : State} (e : execTodNsRead path s = .next t) : Kept m s t := by
  refine done_kept ?_ e
  repeat' (with_reducible first | assumption | exact Covers.trans hm (by decide) | apply State.live_kept
                                | apply State.readTod_kept | apply foldl_kept | apply kept_ite | apply kept_ite_snd
                                | apply optKept_some | exact optKept_none | apply optKept_ite | exact Kept.refl _
                                | dsimp only | intro _)

theorem execTiaCntLoRead_kept {m : Nat} {s : State} (hm : Covers m 0x80400010800005e00000004001808008018400004000000040) (read) (channel) {t : State} (e : execTiaCntLoRead read channel s = .next t) : Kept m s t := by
  refine done_kept ?_ e
  repeat' (with_reducible first | assumption | exact Covers.trans hm (by decide) | apply State.live_kept
                                | apply State.readSized_kept | apply foldl_kept | apply kept_ite | apply kept_ite_snd
                                | apply optKept_some | exact optKept_none | apply optKept_ite | apply optKept_or
                                | apply optKept_getD | exact Kept.refl _ | dsimp only | intro _ | split)

theorem State.writeReg_kept {m : Nat} {r s : State} (hm : Covers m 0xbf051adbbe7d2103dc7bfe2c003e3fe07013fe107f00016fe4) (h : Kept m r s) (who) (r') (v) (m') : Kept m r (State.writeReg who r' v m' s) := by
  unfold State.writeReg
  repeat' (with_reducible first | assumption | exact Covers.trans hm (by decide) | apply State.putWord_kept
                                | apply State.acknowledge_kept | apply State.writeInject_kept
                                | apply State.writeIncWord_kept | apply State.holdLo_kept | apply State.setReg64_kept
                                | apply State.unblock_kept | apply State.supRelease_kept
                                | apply State.releaseFrames_kept | apply State.setReg64_kept | apply foldl_kept
                                | apply kept_ite | apply kept_ite_snd | apply optKept_some | exact optKept_none
                                | apply optKept_ite | apply optKept_or | apply optKept_getD | exact Kept.refl _
                                | dsimp only | intro _ | split)

theorem State.restartServo_kept {m : Nat} {r s : State} (hm : Covers m 0x8000000000000000000000000000000000000100) (h : Kept m r s)   : Kept m r (State.restartServo s) := by
  unfold State.restartServo
  repeat' (with_reducible first | assumption | exact Covers.trans hm (by decide) | apply State.putBit_kept
                                | apply State.withNtu_kept)

theorem State.followEnable_kept {m : Nat} {r s : State} (hm : Covers m 0x200000000080030400700000000000000000000000000005e0) (h : Kept m r s) (p)  : Kept m r (State.followEnable p s) := by
  unfold State.followEnable
  repeat' (with_reducible first | assumption | exact Covers.trans hm (by decide) | apply State.endTest_kept
                                | apply State.putField_kept | apply State.setPort_kept | apply State.disablePort_kept
                                | apply State.putField_kept | apply foldl_kept | apply kept_ite | apply kept_ite_snd
                                | apply optKept_some | exact optKept_none | apply optKept_ite | apply optKept_or
                                | apply optKept_getD | exact Kept.refl _ | dsimp only | intro _ | split)

theorem State.settleWrite_kept {m : Nat} {r s : State} (hm : Covers m 0x2001000000800304007000000000000000000000c0000027e0) (h : Kept m r s) (old) (x) : Kept m r (State.settleWrite old x s) := by
  unfold State.settleWrite
  dsimp only
  split
  · exact when_kept h _ _ (fun _ ht => State.quietNow_kept (hm.trans (by decide)) ht _)
  · exact when_kept (when_kept h _ _ (fun _ ht => State.unresolve_kept (hm.trans (by decide)) ht _ _)) _ _ (fun _ ht => State.unresolve_kept (hm.trans (by decide)) ht _ _)
  · exact State.detectorMoved_kept (hm.trans (by decide)) h _ _
  · exact State.detectorInverted_kept (hm.trans (by decide)) h _ _
  · exact State.pinLog_kept (hm.trans (by decide)) h _
  · exact State.pinLog_kept (hm.trans (by decide)) h _
  · exact State.modCtl_kept (hm.trans (by decide)) h _ _
  · exact State.setPlim_kept (hm.trans (by decide)) h
  · exact when_kept h _ _ (fun _ ht => State.restartServo_kept (hm.trans (by decide)) ht)
  · exact State.followEnable_kept (hm.trans (by decide)) h _
  · exact h

theorem State.zeroRings_kept {m : Nat} {r s : State} (hm : Covers m 0x4) (h : Kept m r s) (b)  : Kept m r (State.zeroRings b s) := by
  unfold State.zeroRings
  repeat' (with_reducible first | assumption | exact Covers.trans hm (by decide) | apply State.setMem_kept)

theorem State.mute_kept {m : Nat} {r s : State} (hm : Covers m 0x40) (h : Kept m r s) (m') : Kept m r (State.mute m' s) := by
  unfold State.mute
  repeat' (with_reducible first | assumption | exact Covers.trans hm (by decide) | apply State.withHst_kept
                                | apply foldl_kept | apply kept_ite | apply kept_ite_snd | apply optKept_some
                                | exact optKept_none | apply optKept_ite | exact Kept.refl _ | dsimp only | intro _
                                | split)

theorem State.closeBox_kept {m : Nat} {r s : State} (hm : Covers m 0x700000000000000000000000000000e0) (h : Kept m r s) (m') : Kept m r (State.closeBox m' s) := by
  unfold State.closeBox
  repeat' (with_reducible first | assumption | exact Covers.trans hm (by decide) | apply State.mute_kept
                                | apply State.freeBlockList_kept | apply State.setBox_kept | apply foldl_kept
                                | apply kept_ite | apply kept_ite_snd | apply optKept_some | exact optKept_none
                                | apply optKept_ite | exact Kept.refl _ | dsimp only | intro _ | split)

theorem State.resetBox0_kept {m : Nat} {r s : State} (hm : Covers m 0x44) (h : Kept m r s)   : Kept m r (State.resetBox0 s) := by
  unfold State.resetBox0
  repeat' (with_reducible first | assumption | exact Covers.trans hm (by decide) | apply State.setBox_kept
                                | apply State.zeroRings_kept | apply State.mute_kept)

theorem execHstMbOpen_kept {m : Nat} {s : State} (hm : Covers m 0x200000000000000000300000000000000000000000000000e4) (iss) (mailbox) (sqLog2) (cqLog2) (vector) (countM1) (time) {t : State} (e : execHstMbOpen iss mailbox sqLog2 cqLog2 vector countM1 time s = .next t) : Kept m s t := by
  refine done_kept ?_ e
  repeat' (with_reducible first | assumption | exact Covers.trans hm (by decide) | apply State.takeRun_kept
                                | apply State.command_kept | apply State.zeroRings_kept | apply State.complete_kept
                                | apply State.setBox_kept | apply foldl_kept | apply kept_ite | apply kept_ite_snd
                                | apply optKept_some | exact optKept_none | apply optKept_ite | exact Kept.refl _
                                | dsimp only | intro _ | split)

theorem execHstMbClose_kept {m : Nat} {s : State} (hm : Covers m 0x200000000000000000700000000000000000000000000000e4) (iss) (mailbox) {t : State} (e : execHstMbClose iss mailbox s = .next t) : Kept m s t := by
  refine done_kept ?_ e
  repeat' (with_reducible first | assumption | exact Covers.trans hm (by decide) | apply State.command_kept
                                | apply State.complete_kept | apply State.closeBox_kept | apply foldl_kept | apply kept_ite
                                | apply kept_ite_snd | apply optKept_some | exact optKept_none | apply optKept_ite
                                | exact Kept.refl _ | dsimp only | intro _)

theorem execHstMbReset_kept {m : Nat} {s : State} (hm : Covers m 0x20000000000000000000000000000000000000000000000064) (iss) (mailbox) {t : State} (e : execHstMbReset iss mailbox s = .next t) : Kept m s t := by
  refine done_kept ?_ e
  repeat' (with_reducible first | assumption | exact Covers.trans hm (by decide) | apply State.command_kept
                                | apply State.complete_kept | apply State.setBox_kept | apply State.zeroRings_kept
                                | apply State.mute_kept | apply foldl_kept | apply kept_ite | apply kept_ite_snd
                                | apply optKept_some | exact optKept_none | apply optKept_ite | exact Kept.refl _
                                | dsimp only | intro _)

theorem State.badDoorbell_kept {m : Nat} {r s : State} (hm : Covers m 0x60) (h : Kept m r s) (m') (cause) : Kept m r (State.badDoorbell m' cause s) := by
  unfold State.badDoorbell
  repeat' (with_reducible first | assumption | exact Covers.trans hm (by decide) | apply State.setBox_kept
                                | apply State.fault_kept | apply foldl_kept | apply kept_ite | apply kept_ite_snd
                                | apply optKept_some | exact optKept_none | apply optKept_ite | apply optKept_or
                                | apply optKept_getD | exact Kept.refl _ | dsimp only | intro _ | split)

theorem State.writeDoorbell_kept {m : Nat} {r s : State} (hm : Covers m 0x20000000000000000000000000000000000000000000000060) (h : Kept m r s) (m') (v) (n) (full) (set) : Kept m r (State.writeDoorbell m' v n full set s) := by
  unfold State.writeDoorbell
  repeat' (with_reducible first | assumption | exact Covers.trans hm (by decide) | apply State.badDoorbell_kept
                                | apply State.event_kept | apply State.setBox_kept | apply foldl_kept
                                | apply kept_ite | apply kept_ite_snd | apply optKept_some | exact optKept_none
                                | apply optKept_ite | apply optKept_or | apply optKept_getD | exact Kept.refl _
                                | dsimp only | intro _ | split)

theorem State.writeSqTail_kept {m : Nat} {r s : State} (hm : Covers m 0x20000000000000000000000000000000000000000000000060) (h : Kept m r s) (m') (value) : Kept m r (State.writeSqTail m' value s) := by
  unfold State.writeSqTail
  repeat' (with_reducible first | assumption | exact Covers.trans hm (by decide) | apply State.writeDoorbell_kept
                                | apply foldl_kept | apply kept_ite | apply kept_ite_snd | apply optKept_some
                                | exact optKept_none | apply optKept_ite | apply optKept_or | apply optKept_getD
                                | exact Kept.refl _ | dsimp only | intro _ | split)

theorem State.writeCqHead_kept {m : Nat} {r s : State} (hm : Covers m 0x20000000000000000000000000000000000000000000000060) (h : Kept m r s) (m') (value) : Kept m r (State.writeCqHead m' value s) := by
  unfold State.writeCqHead
  repeat' (with_reducible first | assumption | exact Covers.trans hm (by decide) | apply State.writeDoorbell_kept
                                | apply foldl_kept | apply kept_ite | apply kept_ite_snd | apply optKept_some
                                | exact optKept_none | apply optKept_ite | apply optKept_or | apply optKept_getD
                                | exact Kept.refl _ | dsimp only | intro _ | split)

theorem execSqTailWrite_kept {m : Nat} {s : State} (hm : Covers m 0x20000000000000000000000000000000000000000000000060) (mb) (value) {t : State} (e : execSqTailWrite mb value s = .next t) : Kept m s t := by
  refine done_kept ?_ e
  repeat' (with_reducible first | assumption | exact Covers.trans hm (by decide) | apply State.live_kept
                                | apply State.writeSqTail_kept | apply foldl_kept | apply kept_ite | apply kept_ite_snd
                                | apply optKept_some | exact optKept_none | apply optKept_ite | exact Kept.refl _
                                | dsimp only | intro _)

theorem execCqHeadWrite_kept {m : Nat} {s : State} (hm : Covers m 0x20000000000000000000000000000000000000000000000060) (mb) (value) {t : State} (e : execCqHeadWrite mb value s = .next t) : Kept m s t := by
  refine done_kept ?_ e
  repeat' (with_reducible first | assumption | exact Covers.trans hm (by decide) | apply State.live_kept
                                | apply State.writeCqHead_kept | apply foldl_kept | apply kept_ite | apply kept_ite_snd
                                | apply optKept_some | exact optKept_none | apply optKept_ite | exact Kept.refl _
                                | dsimp only | intro _)

theorem execCompletionPost_kept {m : Nat} {s : State} (hm : Covers m 0x44) (mb) {t : State} (e : execCompletionPost mb s = .next t) : Kept m s t := by
  refine done_kept ?_ e
  repeat' (with_reducible first | assumption | exact Covers.trans hm (by decide) | apply State.live_kept
                                | apply State.writeEntry_kept | apply State.withHst_kept | apply foldl_kept | apply kept_ite
                                | apply kept_ite_snd | apply optKept_some | exact optKept_none | apply optKept_ite
                                | exact Kept.refl _ | dsimp only | intro _ | split)

theorem execMsixCoalesceTimeout_kept {m : Nat} {s : State} (hm : Covers m 0x40) (mb) {t : State} (e : execMsixCoalesceTimeout mb s = .next t) : Kept m s t := by
  refine done_kept ?_ e
  repeat' (with_reducible first | assumption | exact Covers.trans hm (by decide) | apply State.live_kept
                                | apply State.signal_kept | apply State.setBox_kept | apply foldl_kept | apply kept_ite
                                | apply kept_ite_snd | apply optKept_some | exact optKept_none | apply optKept_ite
                                | exact Kept.refl _ | dsimp only | intro _)

theorem execMsixSend_kept {m : Nat} {s : State} (hm : Covers m 0x200000000000000000000000000000000000014070) (vector) {t : State} (e : execMsixSend vector s = .next t) : Kept m s t := by
  refine done_kept ?_ e
  repeat' (with_reducible first | assumption | exact Covers.trans hm (by decide) | apply State.live_kept
                                | apply State.exchange_kept | apply State.withHst_kept
                                | apply State.setHost_kept | apply foldl_kept | apply kept_ite | apply kept_ite_snd
                                | apply optKept_some | exact optKept_none | apply optKept_ite | exact Kept.refl _
                                | dsimp only | intro _ | split)

theorem State.freeBytes_kept {m : Nat} {r : State} (hm : Covers m 0x10000) (k : Nat) : ∀ {s : State}, Kept m r s → Kept m r (State.freeBytes k s).2 := by
  induction k with
  | zero => intro s h; exact h
  | succ k ih => intro s h; exact ih (State.draw_kept (hm.trans (by decide)) h)

theorem State.serveBar2_kept {m : Nat} {r s : State} (hm : Covers m 0x10044) (h : Kept m r s) (a) (n) (write) : Kept m r (State.serveBar2 a n write s) := by
  unfold State.serveBar2
  repeat' (with_reducible first | assumption | exact Covers.trans hm (by decide) | apply State.withHst_kept
                                | apply State.setMem_kept | apply State.freeBytes_kept | apply foldl_kept
                                | apply kept_ite | apply kept_ite_snd | apply optKept_some | exact optKept_none
                                | apply optKept_ite | exact Kept.refl _ | dsimp only | intro _ | split)

theorem State.failBar2_kept {m : Nat} {r s : State} (hm : Covers m 0x60) (h : Kept m r s) (o) (n) (moving) (write) : Kept m r (State.failBar2 o n moving write s) := by
  unfold State.failBar2
  repeat' (with_reducible first | assumption | exact Covers.trans hm (by decide) | apply State.withHst_kept
                                | apply State.fault_kept | apply foldl_kept | apply kept_ite | apply kept_ite_snd
                                | apply optKept_some | exact optKept_none | apply optKept_ite | exact Kept.refl _
                                | dsimp only | intro _ | split)

theorem execBar2Access_kept {m : Nat} {s : State} (hm : Covers m 0x10064) (offset) (write) (readLen) {t : State} (e : execBar2Access offset write readLen s = .next t) : Kept m s t := by
  refine done_kept ?_ e
  repeat' (with_reducible first | assumption | exact Covers.trans hm (by decide) | apply State.live_kept
                                | apply State.failBar2_kept | apply State.serveBar2_kept
                                | apply foldl_kept | apply kept_ite | apply kept_ite_snd | apply optKept_some
                                | exact optKept_none | apply optKept_ite | exact Kept.refl _ | dsimp only | intro _
                                | split)

theorem State.endWinMove_kept {m : Nat} {r s : State} (hm : Covers m 0x20000000000000000000000000000000000000000000000064) (h : Kept m r s)  : Kept m r (State.endWinMove s) := by
  unfold State.endWinMove
  repeat' (with_reducible first | assumption | exact Covers.trans hm (by decide) | apply State.withHst_kept
                                | apply State.complete_kept | apply foldl_kept | apply kept_ite | apply kept_ite_snd
                                | apply optKept_some | exact optKept_none | apply optKept_ite | exact Kept.refl _
                                | dsimp only | intro _ | split)

theorem execHstWinSet_kept {m : Nat} {s : State} (hm : Covers m 0x20000000000000000000000000000000000000000000000064) (iss) (base) {t : State} (e : execHstWinSet iss base s = .next t) : Kept m s t := by
  refine done_kept ?_ e
  repeat' (with_reducible first | assumption | exact Covers.trans hm (by decide) | apply State.command_kept | apply State.endWinMove_kept | apply State.withHst_kept
                                | apply foldl_kept | apply kept_ite | apply kept_ite_snd | apply optKept_some
                                | exact optKept_none | apply optKept_ite | exact Kept.refl _ | dsimp only | intro _
                                | split)

theorem State.clearAgreement_kept {m : Nat} {r s : State} (hm : Covers m 0xa0000000000000000000000000000000000040) (h : Kept m r s)   : Kept m r (State.clearAgreement s) := by
  unfold State.clearAgreement
  repeat' (with_reducible first | assumption | exact Covers.trans hm (by decide) | apply State.putBit_kept
                                | apply State.putField_kept | apply each_kept | apply State.setReg_kept
                                | apply State.setBox_kept | apply State.setReg_kept | apply State.putField_kept
                                | apply State.putBit_kept | apply foldl_kept | apply kept_ite | apply kept_ite_snd
                                | apply optKept_some | exact optKept_none | apply optKept_ite | exact Kept.refl _
                                | dsimp only | intro _ | split)

theorem State.functionReset_kept {m : Nat} {r s : State} (hm : Covers m 0xa00000700000000000000000000000000000e4) (h : Kept m r s)   : Kept m r (State.functionReset s) := by
  unfold State.functionReset
  repeat' (with_reducible first | assumption | exact Covers.trans hm (by decide) | apply State.clearAgreement_kept
                                | apply State.withHst_kept | apply each_kept | apply State.closeBox_kept
                                | apply State.resetBox0_kept | apply State.mute_kept | apply State.setV1_kept
                                | apply foldl_kept | apply kept_ite | apply kept_ite_snd | apply optKept_some
                                | exact optKept_none | apply optKept_ite | apply optKept_or | apply optKept_getD
                                | exact Kept.refl _ | dsimp only | intro _ | split)

theorem execFunctionLevelReset_kept {m : Nat} {s : State} (hm : Covers m 0xa00000700000000000000000000000000000e4)  {t : State} (e : execFunctionLevelReset s = .next t) : Kept m s t := by
  refine done_kept ?_ e
  repeat' (with_reducible first | assumption | exact Covers.trans hm (by decide) | apply State.live_kept
                                | apply State.functionReset_kept | apply foldl_kept | apply kept_ite | apply kept_ite_snd
                                | apply optKept_some | exact optKept_none | apply optKept_ite | exact Kept.refl _
                                | dsimp only | intro _)

theorem execPerstNAssert_kept {m : Nat} {s : State} (hm : Covers m 0x40)  {t : State} (e : execPerstNAssert s = .next t) : Kept m s t := by
  refine done_kept ?_ e
  repeat' (with_reducible first | assumption | exact Covers.trans hm (by decide) | apply State.withHst_kept
                                | apply foldl_kept | apply kept_ite | apply kept_ite_snd | apply optKept_some
                                | exact optKept_none | apply optKept_ite | exact Kept.refl _)

theorem execPerstNRise_kept {m : Nat} {s : State} (hm : Covers m 0xa00000700000000000000000000000000000e4)  {t : State} (e : execPerstNRise s = .next t) : Kept m s t := by
  refine done_kept ?_ e
  repeat' (with_reducible first | assumption | exact Covers.trans hm (by decide) | apply State.live_kept
                                | apply State.functionReset_kept | apply State.withHst_kept | apply foldl_kept
                                | apply kept_ite | apply kept_ite_snd | apply optKept_some | exact optKept_none
                                | apply optKept_ite | exact Kept.refl _ | dsimp only | intro _)

theorem execPcieLinkSettle_kept {m : Nat} {s : State} (hm : Covers m 0x60) (rate) (lanes) {t : State} (e : execPcieLinkSettle rate lanes s = .next t) : Kept m s t := by
  refine done_kept ?_ e
  repeat' (with_reducible first | assumption | exact Covers.trans hm (by decide) | apply State.live_kept
                                | apply State.withHst_kept | apply State.fault_kept | apply foldl_kept | apply kept_ite
                                | apply kept_ite_snd | apply optKept_some | exact optKept_none | apply optKept_ite
                                | exact Kept.refl _ | dsimp only | intro _)

theorem execSysHello_kept {m : Nat} {s : State} (hm : Covers m 0x20000000bc00a00000700000000000000000000000000140e4) (iss) (feat0) (feat1) (feat2) (feat3) {t : State} (e : execSysHello iss feat0 feat1 feat2 feat3 s = .next t) : Kept m s t := by
  refine done_kept ?_ e
  repeat' (with_reducible first | assumption | exact Covers.trans hm (by decide) | apply State.command_kept
                                | apply each_kept | apply State.closeBox_kept | apply State.clearAgreement_kept
                                | apply State.appletReset_kept | apply State.withHst_kept | apply State.complete_kept
                                | apply foldl_kept | apply kept_ite | apply kept_ite_snd | apply optKept_some
                                | exact optKept_none | apply optKept_ite | apply optKept_or | apply optKept_getD
                                | exact Kept.refl _ | dsimp only | intro _ | split)

theorem State.fixAgreement_kept {m : Nat} {r s : State} (hm : Covers m 0xa00000700000000000000000000000000000e0) (h : Kept m r s) (one) (set)  : Kept m r (State.fixAgreement one set s) := by
  unfold State.fixAgreement
  repeat' (with_reducible first | assumption | exact Covers.trans hm (by decide) | apply each_kept
                                | apply State.setReg_kept | apply State.putBit_kept | apply State.putField_kept
                                | apply State.withHst_kept | apply State.closeBox_kept | apply State.mute_kept
                                | apply State.setBox_kept | apply State.setV1_kept | apply State.setReg_kept
                                | apply State.putField_kept | apply State.putBit_kept | apply foldl_kept
                                | apply kept_ite | apply kept_ite_snd | apply optKept_some | exact optKept_none
                                | apply optKept_ite | apply optKept_or | apply optKept_getD | exact Kept.refl _
                                | dsimp only | intro _ | split)

theorem execSysAgree_kept {m : Nat} {s : State} (hm : Covers m 0x200000000000a00000700000000000000000000000000000e4) (iss) {t : State} (e : execSysAgree iss s = .next t) : Kept m s t := by
  refine done_kept ?_ e
  repeat' (with_reducible first | assumption | exact Covers.trans hm (by decide) | apply State.command_kept
                                | apply State.complete_kept | apply State.fixAgreement_kept | apply foldl_kept
                                | apply kept_ite | apply kept_ite_snd | apply optKept_some | exact optKept_none
                                | apply optKept_ite | exact Kept.refl _ | dsimp only | intro _)

theorem execLedgerSnap_kept {m : Nat} {s : State} (hm : Covers m 0x20000000000000000000000000000000000000000000000064) (iss) {t : State} (e : execLedgerSnap iss s = .next t) : Kept m s t := by
  refine done_kept ?_ e
  repeat' (with_reducible first | assumption | exact Covers.trans hm (by decide) | apply State.command_kept
                                | apply State.complete_kept | apply foldl_kept | apply kept_ite | apply kept_ite_snd
                                | apply optKept_some | exact optKept_none | apply optKept_ite | exact Kept.refl _
                                | dsimp only | intro _)

theorem execHstRegRead_kept {m : Nat} {s : State} (hm : Covers m 0xa0400010a00005e00000004001808008018400004000014064) (iss) (addr) {t : State} (e : execHstRegRead iss addr s = .next t) : Kept m s t := by
  refine done_kept ?_ e
  repeat' (with_reducible first | assumption | exact Covers.trans hm (by decide) | apply State.command_kept
                                | apply State.beforeRead_kept | apply State.readReg_kept | apply State.complete_kept
                                | apply foldl_kept | apply kept_ite | apply kept_ite_snd | apply optKept_some
                                | exact optKept_none | apply optKept_ite | apply optKept_or | apply optKept_getD
                                | exact Kept.refl _ | dsimp only | intro _ | split)

theorem execHstRegWrite_kept {m : Nat} {s : State} (hm : Covers m 0xbf051adbbe7d2103dc7bfe2c003e3fe07013fe107f00016fe4) (iss) (addr) (value) (mask) {t : State} (e : execHstRegWrite iss addr value mask s = .next t) : Kept m s t := by
  refine done_kept ?_ e
  repeat' (with_reducible first | assumption | exact Covers.trans hm (by decide) | apply State.shadowed_kept
                                | apply State.complete_kept | apply State.writeReg_kept | apply foldl_kept | apply kept_ite
                                | apply kept_ite_snd | apply optKept_some | exact optKept_none | apply optKept_ite
                                | exact Kept.refl _ | dsimp only | intro _ | split)

theorem State.closeTxn_kept {m : Nat} {r s : State} (hm : Covers m 0x40) (h : Kept m r s) (m') : Kept m r (State.closeTxn m' s) := by
  unfold State.closeTxn
  repeat' (with_reducible first | assumption | exact Covers.trans hm (by decide) | apply State.withHst_kept
                                | apply foldl_kept | apply kept_ite | apply kept_ite_snd | apply optKept_some
                                | exact optKept_none | apply optKept_ite | exact Kept.refl _ | dsimp only | intro _
                                | split)

theorem State.unroll_kept {m : Nat} {r s : State} (hm : Covers m 0x40) (h : Kept m r s) (m') : Kept m r (State.unroll m' s) := by
  unfold State.unroll
  repeat' (with_reducible first | assumption | exact Covers.trans hm (by decide) | apply State.setBox_kept
                                | apply foldl_kept | apply kept_ite | apply kept_ite_snd | apply optKept_some
                                | exact optKept_none | apply optKept_ite | exact Kept.refl _ | dsimp only | intro _
                                | split)

theorem execCfgBegin_kept {m : Nat} {s : State} (hm : Covers m 0x20000000000000000000000000000000000000000000000064) (iss) {t : State} (e : execCfgBegin iss s = .next t) : Kept m s t := by
  refine done_kept ?_ e
  repeat' (with_reducible first | assumption | exact Covers.trans hm (by decide) | apply State.command_kept
                                | apply State.unroll_kept | apply State.closeTxn_kept | apply State.complete_kept
                                | apply State.withHst_kept | apply foldl_kept | apply kept_ite | apply kept_ite_snd
                                | apply optKept_some | exact optKept_none | apply optKept_ite | exact Kept.refl _
                                | dsimp only | intro _)

theorem State.takeCommit_kept {m : Nat} {r s : State} (hm : Covers m 0x20000000000000000000000000000000000000000000000064) (h : Kept m r s) (iss) (mode) (lbc) (sites)  : Kept m r (State.takeCommit iss mode lbc sites s) := by
  unfold State.takeCommit
  repeat' (with_reducible first | assumption | exact Covers.trans hm (by decide) | apply State.modTxn_kept
                                | apply State.complete_kept | apply foldl_kept | apply kept_ite | apply kept_ite_snd
                                | apply optKept_some | exact optKept_none | apply optKept_ite | exact Kept.refl _
                                | dsimp only | intro _ | split)

theorem execCfgCommit_kept {m : Nat} {s : State} (hm : Covers m 0x20000000000000000000000000000000000000000000000064) (iss) (mode) (lbc) (sites) {t : State} (e : execCfgCommit iss mode lbc sites s = .next t) : Kept m s t := by
  refine done_kept ?_ e
  repeat' (with_reducible first | assumption | exact Covers.trans hm (by decide) | apply State.command_kept
                                | apply State.complete_kept | apply State.takeCommit_kept | apply foldl_kept | apply kept_ite
                                | apply kept_ite_snd | apply optKept_some | exact optKept_none | apply optKept_ite
                                | exact Kept.refl _ | dsimp only | intro _ | split)

theorem execCfgRollback_kept {m : Nat} {s : State} (hm : Covers m 0x20000000000000000000000000000000000000000000000064) (iss) {t : State} (e : execCfgRollback iss s = .next t) : Kept m s t := by
  refine done_kept ?_ e
  repeat' (with_reducible first | assumption | exact Covers.trans hm (by decide) | apply State.command_kept
                                | apply State.complete_kept | apply State.unroll_kept | apply State.closeTxn_kept
                                | apply foldl_kept | apply kept_ite | apply kept_ite_snd | apply optKept_some
                                | exact optKept_none | apply optKept_ite | exact Kept.refl _ | dsimp only | intro _ | split)

theorem execSysProfileSelect_kept {m : Nat} {s : State} (hm : Covers m 0x20000000000000000000000000000000000000000000000064) (iss) (profile) {t : State} (e : execSysProfileSelect iss profile s = .next t) : Kept m s t := by
  refine done_kept ?_ e
  repeat' (with_reducible first | assumption | exact Covers.trans hm (by decide) | apply State.command_kept | apply State.withHst_kept | apply foldl_kept
                                | apply kept_ite | apply kept_ite_snd | apply optKept_some | exact optKept_none
                                | apply optKept_ite | exact Kept.refl _ | dsimp only | intro _ | split)

theorem State.writeAll_kept {m : Nat} {r s : State} (hm : Covers m 0xbf051adbbe7d2103dc7bfe2c003e3fe07013fe107f00016fe4) (h : Kept m r s) (l)  : Kept m r (State.writeAll l s) := by
  unfold State.writeAll
  repeat' (with_reducible first | assumption | exact Covers.trans hm (by decide) | apply each_kept
                                | apply State.writeReg_kept | apply foldl_kept | apply kept_ite | apply kept_ite_snd
                                | apply optKept_some | exact optKept_none | apply optKept_ite | exact Kept.refl _
                                | dsimp only | intro _)

theorem State.applyLoad_kept {m : Nat} {r s : State} (hm : Covers m 0x2080000000000000000000000003200) (h : Kept m r s) (e') : Kept m r (State.applyLoad e' s) := by
  unfold State.applyLoad
  repeat' (with_reducible first | assumption | exact Covers.trans hm (by decide) | apply State.loadTsets_kept
                                | apply State.loadMarks_kept | apply State.loadMask_kept | apply State.supSet_kept
                                | apply foldl_kept | apply kept_ite | apply kept_ite_snd | apply optKept_some
                                | exact optKept_none | apply optKept_ite | apply optKept_or | apply optKept_getD
                                | exact Kept.refl _ | dsimp only | intro _ | split)

theorem State.settleAll_kept {m : Nat} {r s : State} (hm : Covers m 0x2001000000840304007208000000000000000000c0000037e0) (h : Kept m r s) (old) (l) : Kept m r (State.settleAll old l s) :=
  by
  unfold State.settleAll
  repeat' (with_reducible first | assumption | exact Covers.trans hm (by decide) | apply State.settleWrite_kept
                                | apply State.applyLoad_kept | apply each_kept | apply State.takeInc_kept | dsimp only
                                | intro _)

theorem State.endCommit_kept {m : Nat} {r s : State} (hm : Covers m 0x20000000000000000000000000000000000000000000000064) (h : Kept m r s) (c) (status) (res) : Kept m r (State.endCommit c status res s) := by
  unfold State.endCommit
  repeat' (with_reducible first | assumption | exact Covers.trans hm (by decide) | apply State.complete_kept
                                | apply foldl_kept | apply kept_ite | apply kept_ite_snd | apply optKept_some
                                | exact optKept_none | apply optKept_ite | exact Kept.refl _ | dsimp only | intro _
                                | split)

theorem State.applyCommit_kept {m : Nat} {r s : State} (hm : Covers m 0xbf051adbbefd2307dc7bfe2c003e3fe07013fe10ff00017fe4) (h : Kept m r s) (m') (x) (c) : Kept m r (State.applyCommit m' x c s) := by
  unfold State.applyCommit
  repeat' (with_reducible first | assumption | exact Covers.trans hm (by decide) | apply State.writeAll_kept
                                | apply State.closeTxn_kept | apply State.modTxn_kept | apply State.endCommit_kept
                                | apply State.settleAll_kept | apply when_kept | apply State.putField_kept
                                | apply State.putField_kept | apply foldl_kept | apply kept_ite | apply kept_ite_snd
                                | apply optKept_some | exact optKept_none | apply optKept_ite | apply optKept_or
                                | apply optKept_getD | exact Kept.refl _ | dsimp only | intro _ | split)

theorem State.upToCommits_kept {m : Nat} {r s : State} (hm : Covers m 0xa1000280bc002100007200227e00401f88400412c100017ee4) (h : Kept m r s)  : Kept m r (State.upToCommits s) := by
  unfold State.upToCommits
  repeat' (with_reducible first | assumption | exact Covers.trans hm (by decide) | apply State.latchFaults_kept
                                | apply State.takeAborts_kept | apply State.enterQuiets_kept
                                | apply State.startAll_kept | apply State.crossThreads_kept | apply foldl_kept
                                | apply kept_ite | apply kept_ite_snd | apply optKept_some | exact optKept_none
                                | apply optKept_ite | apply optKept_or | apply optKept_getD | exact Kept.refl _
                                | dsimp only | intro _ | split)

theorem State.upToRequests_kept {m : Nat} {r s : State} (hm : Covers m 0xbf051adbbefd2307dc7bfe2e7e3e7ffff853fe12ff0001ffe4) (h : Kept m r s)  : Kept m r (State.upToRequests s) := by
  unfold State.upToRequests
  repeat' (with_reducible first | assumption | exact Covers.trans hm (by decide) | apply each_kept
                                | apply State.applyCommit_kept | apply State.upToCommits_kept
                                | apply State.throttle_kept | apply State.exchangeOnce_kept | apply foldl_kept
                                | apply kept_ite | apply kept_ite_snd | apply optKept_some | exact optKept_none
                                | apply optKept_ite | apply optKept_or | apply optKept_getD | exact Kept.refl _
                                | dsimp only | intro _ | split)

theorem execCfgApply_kept {m : Nat} {s : State} (hm : Covers m 0xbf051adbbefd2307dc7bfe2e7e3e7ffff853fe12ff00017fe4) (mb) {t : State} (e : execCfgApply mb s = .next t) : Kept m s t := by
  refine done_kept ?_ e
  repeat' (with_reducible first | assumption | exact Covers.trans hm (by decide) | apply State.live_kept
                                | apply State.exchangeOnce_kept | apply State.upToCommits_kept
                                | apply State.applyCommit_kept | apply foldl_kept | apply kept_ite
                                | apply kept_ite_snd | apply optKept_some | exact optKept_none | apply optKept_ite
                                | apply optKept_or | apply optKept_getD | exact Kept.refl _ | dsimp only | intro _
                                | split)

theorem State.requested_kept {m : Nat} {r s : State} (hm : Covers m 0xbf051adbbefd2307dc7bfe2e7e3e7ffff853fe12ff0001ffe4) (h : Kept m r s) (iss) (run : State → State) (hr : ∀ t, Kept m r t → Kept m r (run t)) : Kept m r (State.requested iss run s) := by
  unfold State.requested
  exact kept_ite (fun _ => hr _ (State.upToRequests_kept (hm.trans (by decide)) h)) (fun _ => h)

theorem execSeqBurstStart_kept {m : Nat} {s : State} (hm : Covers m 0xbf451adbbefd2307dc7bfe2e7e3e7ffff9f3fe12ff0001ffe4) (iss) (sites) (program) (mode) (entry) (when_) (nanos) {t : State} (e : execSeqBurstStart iss sites program mode entry when_ nanos s = .next t) : Kept m s t := by
  refine done_kept ?_ e
  repeat' (with_reducible first | assumption | exact Covers.trans hm (by decide) | apply State.requested_kept
                                | apply State.countUp_kept | apply State.event_kept | apply State.complete_kept
                                | apply State.pinAll_kept | apply State.armBurst_kept | apply State.defer_kept
                                | apply State.countUp_kept | apply foldl_kept | apply kept_ite | apply kept_ite_snd
                                | apply optKept_some | exact optKept_none | apply optKept_ite | apply optKept_or
                                | apply optKept_getD | exact Kept.refl _ | dsimp only | intro _ | split)

theorem execBurstStartBeat_kept {m : Nat} {s : State} (hm : Covers m 0x2000000000000000007000027e00401f8800040200000032e0) (index) {t : State} (e : execBurstStartBeat index s = .next t) : Kept m s t := by
  refine done_kept ?_ e
  repeat' (with_reducible first | assumption | exact Covers.trans hm (by decide) | apply State.live_kept
                                | apply State.startThreads_kept | apply foldl_kept | apply kept_ite
                                | apply kept_ite_snd | apply optKept_some | exact optKept_none | apply optKept_ite
                                | apply optKept_or | apply optKept_getD | exact Kept.refl _ | dsimp only | intro _
                                | split)

theorem execSeqBurstStop_kept {m : Nat} {s : State} (hm : Covers m 0xbf051adbbefd2307dc7bfe2e7e3e7ffff853fe12ff0001ffe4) (iss) (sites) (mode) {t : State} (e : execSeqBurstStop iss sites mode s = .next t) : Kept m s t := by
  refine done_kept ?_ e
  repeat' (with_reducible first | assumption | exact Covers.trans hm (by decide) | apply State.requested_kept
                                | apply State.command_kept | apply each_kept | apply State.abortDue_kept
                                | apply State.complete_kept | apply State.requestStop_kept
                                | apply State.endThread_kept | apply State.leaveStart_kept | apply foldl_kept
                                | apply kept_ite | apply kept_ite_snd | apply optKept_some | exact optKept_none
                                | apply optKept_ite | apply optKept_or | apply optKept_getD | exact Kept.refl _
                                | dsimp only | intro _ | split)

theorem runSesame_kept {m : Nat} {s : State} (hm : Covers m 0xbf451adbbefda7e7dc7bfeee7ffffffff9f7fe12ff0001ffe4) (c) {t : State} (e : runSesame c s = .next t) : Kept m s t := by
  unfold runSesame at e
  split at e
  · exact execHstMbOpen_kept (hm.trans (by decide)) (e := e)
  · exact execHstMbClose_kept (hm.trans (by decide)) (e := e)
  · exact execHstMbReset_kept (hm.trans (by decide)) (e := e)
  · exact execHstWinSet_kept (hm.trans (by decide)) (e := e)
  · exact execHstRegWrite_kept (hm.trans (by decide)) (e := e)
  · exact execHstRegRead_kept (hm.trans (by decide)) (e := e)
  · exact execSysHello_kept (hm.trans (by decide)) (e := e)
  · exact execSysAgree_kept (hm.trans (by decide)) (e := e)
  · exact execCfgBegin_kept (hm.trans (by decide)) (e := e)
  · exact execCfgCommit_kept (hm.trans (by decide)) (e := e)
  · exact execCfgRollback_kept (hm.trans (by decide)) (e := e)
  · exact execSysProfileSelect_kept (hm.trans (by decide)) (e := e)
  · exact execSysProfileStore_kept (hm.trans (by decide)) (e := e)
  · exact execSysShutdownLogRead_kept (hm.trans (by decide)) (e := e)
  · exact execSysShutdownLogClear_kept (hm.trans (by decide)) (e := e)
  · exact execLedgerSnap_kept (hm.trans (by decide)) (e := e)
  · exact execTmgTsetLoad_kept (hm.trans (by decide)) (e := e)
  · exact execTmgTsetRead_kept (hm.trans (by decide)) (e := e)
  · exact execTmgEdgeQuery_kept (hm.trans (by decide)) (e := e)
  · exact execVstDirWrite_kept (hm.trans (by decide)) (e := e)
  · exact execVstDirRead_kept (hm.trans (by decide)) (e := e)
  · exact execVstSegVerify_kept (hm.trans (by decide)) (e := e)
  · exact execVstMktabLoad_kept (hm.trans (by decide)) (e := e)
  · exact execSeqUcodeLoad_kept (hm.trans (by decide)) (e := e)
  · exact execSeqUcodeVerify_kept (hm.trans (by decide)) (e := e)
  · exact execSeqProgLoad_kept (hm.trans (by decide)) (e := e)
  · exact execSeqProgFree_kept (hm.trans (by decide)) (e := e)
  · exact execSeqBurstStart_kept (hm.trans (by decide)) (e := e)
  · exact execSeqBurstStop_kept (hm.trans (by decide)) (e := e)
  · exact execSeqThrRead_kept (hm.trans (by decide)) (e := e)
  · exact execSeqCslSet_kept (hm.trans (by decide)) (e := e)
  · exact execCapAqArm_kept (hm.trans (by decide)) (e := e)
  · exact execCapAqDisarm_kept (hm.trans (by decide)) (e := e)
  · exact execCapAqTrig_kept (hm.trans (by decide)) (e := e)
  · exact execCapAqRead_kept (hm.trans (by decide)) (e := e)
  · exact execCapAqMaskLoad_kept (hm.trans (by decide)) (e := e)
  · exact execTiaStart_kept (hm.trans (by decide)) (e := e)
  · exact execTiaStop_kept (hm.trans (by decide)) (e := e)
  · exact execTiaStatRead_kept (hm.trans (by decide)) (e := e)
  · exact execAdcSelfcal_kept (hm.trans (by decide)) (e := e)
  · exact execAdcArm_kept (hm.trans (by decide)) (e := e)
  · exact execAdcStop_kept (hm.trans (by decide)) (e := e)
  · exact execAdcTrig_kept (hm.trans (by decide)) (e := e)
  · exact execAdcOpenwire_kept (hm.trans (by decide)) (e := e)
  · exact execSupSet_kept (hm.trans (by decide)) (e := e)
  · exact execSupSelftest_kept (hm.trans (by decide)) (e := e)
  · exact execKlkPortCtl_kept (hm.trans (by decide)) (e := e)
  · exact execKlkPrbs_kept (hm.trans (by decide)) (e := e)
  · exact execKlkTrigSend_kept (hm.trans (by decide)) (e := e)
  · exact execNtuTodRead_kept (hm.trans (by decide)) (e := e)
  · exact execNtuTodStep_kept (hm.trans (by decide)) (e := e)
  · exact execNtuAlmArm_kept (hm.trans (by decide)) (e := e)
  · exact execNtuAlmDisarm_kept (hm.trans (by decide)) (e := e)
  · exact execNtuTxTimed_kept (hm.trans (by decide)) (e := e)
  · exact execMgtAppletLoad_kept (hm.trans (by decide)) (e := e)
  · exact execMgtAppletStop_kept (hm.trans (by decide)) (e := e)
  · exact execMgtDmaHost_kept (hm.trans (by decide)) (e := e)
  · exact execMgtCoreDump_kept (hm.trans (by decide)) (e := e)
  · exact execCalRun_kept (hm.trans (by decide)) (e := e)
  · exact execCalStore_kept (hm.trans (by decide)) (e := e)
  · exact execCalRestore_kept (hm.trans (by decide)) (e := e)
  · exact execHskRecRead_kept (hm.trans (by decide)) (e := e)
  · exact execHstFwStore_kept (hm.trans (by decide)) (e := e)
  · injection e with e; exact e ▸ Kept.refl s

theorem State.runDescriptor_kept {m : Nat} {s : State} (hm : Covers m 0xbf451adbbefda7e7dc7bfeee7ffffffff9f7fe12ff0001ffe4) (mb) (l) {t : State} (e : State.runDescriptor mb l s = .next t) : Kept m s t := by
  unfold State.runDescriptor at e
  split at e
  · exact runSesame_kept (hm.trans (by decide)) _ e
  · exact done_kept (State.complete_kept (hm.trans (by decide)) (Kept.refl s) _ _ _) e

theorem State.startV1_kept {m : Nat} {s : State} (hm : Covers m 0xbf451adbbefda7e7dc7bfeee7ffffffff9f7fe12ff0001ffe4) {t : State} (e : State.startV1 s = .next t) : Kept m s t :=
  (State.withHst_kept (hm.trans (by decide)) (Kept.refl s) _).trans (State.runDescriptor_kept (hm.trans (by decide)) _ _ e)

theorem execDescriptorStart_kept {m : Nat} {s : State} (hm : Covers m 0xbf451adbbefda7e7dc7bfeee7ffffffff9f7fe12ff0001ffe4) (mb) {t : State} (e : execDescriptorStart mb s = .next t) : Kept m s t := by
  unfold execDescriptorStart at e
  split at e
  · exact done_kept (Kept.refl s) e
  split at e
  · exact State.startV1_kept (hm.trans (by decide)) e
  split at e
  · exact done_kept (Kept.refl s) e
  · exact (State.withHst_kept (hm.trans (by decide)) (State.setBox_kept (hm.trans (by decide)) (Kept.refl s) _ _) _).trans (State.runDescriptor_kept (hm.trans (by decide)) _ _ e)

theorem execV1Go_kept {m : Nat} {s : State} (hm : Covers m 0xbf451adbbefda7e7dc7bfeee7ffffffff9f7fe12ff0001ffe4) {t : State} (e : execV1Go s = .next t) : Kept m s t := by
  unfold execV1Go at e
  split at e
  · exact done_kept (Kept.refl s) e
  dsimp only at e
  have h := State.setV1_kept (hm.trans (by decide)) (Kept.refl (m := m) s) 8 (s.v1Word 8 ||| 2)
  split at e
  · exact h.trans (State.startV1_kept (hm.trans (by decide)) e)
  · exact done_kept (State.withHst_kept (hm.trans (by decide)) h _) e

theorem execDeferredStart_kept {m : Nat} {s : State} (hm : Covers m 0x2000000000000000000000002040) (index) {t : State} (e : execDeferredStart index s = .next t) : Kept m s t := by
  refine done_kept ?_ e
  repeat' (with_reducible first | assumption | exact Covers.trans hm (by decide) | apply State.live_kept
                                | apply State.withHst_kept | apply State.adcBusy_kept | apply foldl_kept
                                | apply kept_ite | apply kept_ite_snd | apply optKept_some | exact optKept_none
                                | apply optKept_ite | apply optKept_or | apply optKept_getD | exact Kept.refl _
                                | dsimp only | intro _ | split)

theorem State.endDeferredRun_kept {m : Nat} {r s u : State} (hm : Covers m 0x20000201bc6000000070000000000000000001e00000014ae4) (h : Kept m r s) (hu : Kept m r u) (d) (facts) : Kept m r (State.endDeferredRun d facts s u) := by
  unfold State.endDeferredRun
  split
  all_goals repeat' (with_reducible first | assumption | exact Covers.trans hm (by decide) | apply State.finish_kept
                                          | apply State.loadTsets_kept | apply State.writeDir_kept | apply State.setMem_kept
                                          | apply State.loadMarks_kept | apply State.runUcodeLoad_kept
                                          | apply State.runUcodeVerify_kept | apply State.runProgLoad_kept
                                          | apply State.runAqRead_kept | apply State.restoreSets_kept
                                          | apply State.appletStart_kept | apply State.appletReset_kept
                                          | apply State.readLog_kept | apply kept_ite | dsimp only | intro _ | split)

theorem execDeferredCompletion_kept {m : Nat} {s : State} (hm : Covers m 0x20000201bc6000000070000000000000000001e00000014ae4) (index) (facts) {t : State} (e : execDeferredCompletion index facts s = .next t) : Kept m s t := by
  refine done_kept ?_ e
  repeat' (with_reducible first | assumption | exact Covers.trans hm (by decide) | apply State.live_kept
                                | apply State.dropDeferred_kept | apply State.finish_kept | apply State.endDeferredRun_kept
                                | apply foldl_kept | apply kept_ite | apply kept_ite_snd | apply optKept_some
                                | exact optKept_none | apply optKept_ite | exact Kept.refl _ | dsimp only | intro _ | split)

theorem State.writeFast_kept {m : Nat} {s : State} (hm : Covers m 0xbf451adbbefda7e7dc7bfeee7ffffffff9f7fe12ff0001ffe4) (o) (v) {t : State} (e : State.writeFast o v s = .next t) : Kept m s t := by
  have h := Kept.refl (m := m) s
  unfold State.writeFast at e
  split at e
  · exact done_kept (State.writeReg_kept (hm.trans (by decide)) h _ _ _ _) e
  split at e
  · dsimp only at e
    split at e
    · exact done_kept (State.writeSqTail_kept (hm.trans (by decide)) h _ _) e
    split at e
    · exact done_kept (State.writeCqHead_kept (hm.trans (by decide)) h _ _) e
    · exact done_kept h e
  split at e
  · exact done_kept (State.setV1_kept (hm.trans (by decide)) h _ _) e
  split at e
  · dsimp only at e
    have k := fun (c : Bool) => kept_ite (c := c = true) (fun _ => State.setV1_kept (hm.trans (by decide)) h 8 (s.v1Word 8 &&& 3)) (fun _ => h)
    split at e
    · exact (k _).trans (execV1Go_kept (hm.trans (by decide)) e)
    · exact done_kept (k _) e
  split at e
  · exact done_kept (State.withHst_kept (hm.trans (by decide)) h _) e
  · exact done_kept h e

theorem State.writeCore_kept {m : Nat} {r s : State} (hm : Covers m 0xbf051adbbefd2307dc7bfe2c003e3fe07013fe10ff00016fe4) (h : Kept m r s) (k') (a) (v) : Kept m r (State.writeCore k' a v s) := by
  unfold State.writeCore
  repeat' (with_reducible first | assumption | exact Covers.trans hm (by decide) | apply State.ringDoorbell_kept
                                | apply State.settleWrite_kept | apply State.writeReg_kept | apply foldl_kept
                                | apply kept_ite | apply kept_ite_snd | apply optKept_some | exact optKept_none
                                | apply optKept_ite | apply optKept_or | apply optKept_getD | exact Kept.refl _
                                | dsimp only | intro _ | split)

theorem execRegisterWrite_kept {m : Nat} {s : State} (hm : Covers m 0xbf451adbbefda7e7dc7bfeee7ffffffff9f7fe12ff0001ffe4) (who) (addr) (value) {t : State} (e : execRegisterWrite who addr value s = .next t) : Kept m s t := by
  unfold execRegisterWrite at e
  dsimp only at e
  split at e
  · exact done_kept (Kept.refl s) e
  split at e
  · exact State.writeFast_kept (hm.trans (by decide)) _ _ e
  · unfold thenWrite at e
    split at e
    · rename_i u hu
      exact (State.writeFast_kept (hm.trans (by decide)) _ _ hu).trans (State.writeFast_kept (hm.trans (by decide)) _ _ e)
    · rename_i o ho
      exact absurd e (ho t)
  · exact done_kept (State.writeCore_kept (hm.trans (by decide)) (Kept.refl s) _ _ _) e
  · exact done_kept (State.writeCore_kept (hm.trans (by decide)) (State.writeCore_kept (hm.trans (by decide)) (Kept.refl s) _ _ _) _ _ _) e

theorem State.serveRegister_kept {m : Nat} {r s : State} (hm : Covers m 0xbf451adbbe7d25e3dc7bfe6c01bebfe87197fe107f00016fe4) (h : Kept m r s) (core) (addr) (write) : Kept m r (State.serveRegister core addr write s) := by
  unfold State.serveRegister
  repeat' (with_reducible first | assumption | exact Covers.trans hm (by decide) | apply State.withMgt_kept
                                | apply State.writeReg_kept | apply State.beforeRead_kept | apply State.readReg_kept
                                | apply foldl_kept | apply kept_ite | apply kept_ite_snd | apply optKept_some
                                | exact optKept_none | apply optKept_ite | apply optKept_or | apply optKept_getD
                                | exact Kept.refl _ | dsimp only | intro _ | split)

theorem execAppletRegRequest_kept {m : Nat} {s : State} (hm : Covers m 0xbf451adbbe7d25e3dc7bfe6c01bebfe87197fe107f00016fe4) (core) (addr) (write) {t : State} (e : execAppletRegRequest core addr write s = .next t) : Kept m s t := by
  refine done_kept ?_ e
  repeat' (with_reducible first | assumption | exact Covers.trans hm (by decide) | apply State.live_kept
                                | apply State.serveRegister_kept | apply State.withMgt_kept | apply foldl_kept
                                | apply kept_ite | apply kept_ite_snd | apply optKept_some | exact optKept_none
                                | apply optKept_ite | apply optKept_or | apply optKept_getD | exact Kept.refl _
                                | dsimp only | intro _ | split)

theorem State.serveRequests_kept {m : Nat} {r s : State} (hm : Covers m 0xbf451adbbe7d25e3dc7bfe6c01bebfe87197fe107f00016fe4) (h : Kept m r s)  : Kept m r (State.serveRequests s) := by
  unfold State.serveRequests
  repeat' (with_reducible first | assumption | exact Covers.trans hm (by decide) | apply each_kept
                                | apply State.serveRegister_kept | apply State.restartDog_kept
                                | apply State.withMgt_kept | apply foldl_kept | apply kept_ite | apply kept_ite_snd
                                | apply optKept_some | exact optKept_none | apply optKept_ite | apply optKept_or
                                | apply optKept_getD | exact Kept.refl _ | dsimp only | intro _ | split)

theorem State.resetBy_kept {m : Nat} {r s : State} (hm : Covers m 0xffffffffffffffffffffffffffffffffffffffffff0001ffe7) (h : Kept m r s) : Kept m r s.resetBy := by
  have b : ∀ i, (0xffffffffffffffffffffffffffffffffffffffffff0001ffe7 : Nat).testBit i = true → m.testBit i = true := fun i hi => hm.bit hi
  unfold State.resetBy
  refine when_kept (State.setReg_kept _ (hm.trans (by decide)) (h.trans (t := { beat := { gpio := s.beat.gpio.map (fun g => { pin := g.pin }), tap := s.beat.tap }, nor := s.nor, hostMem := s.hostMem, hst := { perst := s.hst.perst }, cal := { abandoned := s.cal.abandoned, store := if s.thm.shutdown.isSome then s.cal.store else none }, cap := { ti := s.cap.ti }, thm := { shutdown := s.thm.shutdown, latch := s.thm.latch }, klk := { seed := s.free }, free := s.free + 8, pending := s.pending }) ⟨fun c => ?_, rfl, Nat.le_add_right _ _, fun p hp => ?_, fun st i w hp => ?_⟩) _ _ _) _ _ (fun t ht => State.putField_kept _ (hm.trans (by decide)) ht _ _)
  · rw [State.canon_iff] at c ⊢
    exact ⟨rfl, rfl, c.2.2.1, c.2.2.2⟩
  · cases p <;> first | rfl | (rw [b _ (by decide)] at hp; exact absurd hp (by decide))
  · rw [b _ (by cases st <;> decide +kernel)] at hp
    exact absurd hp (by decide)

theorem execPorstNFall_kept {m : Nat} {s t : State} (hm : Covers m 0xffffffffffffffffffffffffffffffffffffffffff0001ffe7) (e : execPorstNFall s = .next t) : Kept m s t := by
  injection e with e; exact e ▸ State.resetBy_kept (hm.trans (by decide)) (Kept.refl s)

theorem execPowerMonitorReset_kept {m : Nat} {s : State} (hm : Covers m 0xffffffffffffffffffffffffffffffffffffffffff0001ffe7) (rail) {t : State} (e : execPowerMonitorReset rail s = .next t) : Kept m s t := by
  cases rail <;> injection e with e <;> subst e
  · exact State.resetBy_kept (hm.trans (by decide)) (Kept.refl s)
  · exact State.resetBy_kept (hm.trans (by decide)) (State.withThm_kept (hm.trans (by decide)) (Kept.refl s) _)

theorem execPorstNRise_kept {m : Nat} {s : State} (hm : Covers m 0x20000000000000000000000000000000000002) (prof) {t : State} (e : execPorstNRise prof s = .next t) : Kept m s t := by
  unfold execPorstNRise at e
  split at e
  · exact done_kept (State.withBeat_kept (hm.trans (by decide)) (State.putField_kept _ (hm.trans (by decide)) (Kept.refl s) _ _) _ rfl) e
  · exact done_kept (Kept.refl s) e

theorem State.modTap_kept {m : Nat} {r s : State} (hm : Covers m 0x2) (h : Kept m r s) (f) : Kept m r (State.modTap f s) := by
  unfold State.modTap
  repeat' (with_reducible first | assumption | refine State.withBeat_kept (hm.trans (by decide)) ?_ _ rfl
                                | exact Covers.trans hm (by decide) | apply foldl_kept | apply kept_ite
                                | apply kept_ite_snd | apply optKept_some | exact optKept_none | apply optKept_ite
                                | apply optKept_or | apply optKept_getD | exact Kept.refl _ | dsimp only | intro _
                                | split)

theorem State.captureCells_kept {m : Nat} {r : State} (hm : Covers m 0x10000) (l : List ScanCell) : ∀ {s : State}, Kept m r s → Kept m r (State.captureCells l s).2 := by
  induction l with
  | nil => intro s h; exact h
  | cons c cs ih =>
    intro s h
    unfold State.captureCells
    split
    · exact ih h
    · exact ih (State.draw_kept (hm.trans (by decide)) h)

theorem State.captureDr_kept {m : Nat} {r s : State} (hm : Covers m 0x10002) (h : Kept m r s)  : Kept m r (State.captureDr s) := by
  unfold State.captureDr
  repeat' (with_reducible first | assumption | exact Covers.trans hm (by decide) | apply State.captureCells_kept
                                | apply State.modTap_kept | apply foldl_kept | apply kept_ite | apply kept_ite_snd
                                | apply optKept_some | exact optKept_none | apply optKept_ite | apply optKept_or
                                | apply optKept_getD | exact Kept.refl _ | dsimp only | intro _ | split)

theorem State.tck_kept {m : Nat} {r s : State} (hm : Covers m 0x10002) (h : Kept m r s) (tms) (tdi) : Kept m r (State.tck tms tdi s) := by
  unfold State.tck
  repeat' (with_reducible first | assumption | exact Covers.trans hm (by decide) | apply State.modTap_kept
                                | apply State.captureDr_kept | apply when_kept | apply foldl_kept | apply kept_ite
                                | apply kept_ite_snd | apply optKept_some | exact optKept_none | apply optKept_ite
                                | apply optKept_or | apply optKept_getD | exact Kept.refl _ | dsimp only | intro _
                                | split)

theorem execI2cRead_kept {m : Nat} {s : State} (hm : Covers m 0x80400010800005e00000004001808008018400004000010042) (access) {t : State} (e : execI2cRead access s = .next t) : Kept m s t := by
  have h := Kept.refl (m := m) s
  cases access
  · refine done_kept ?_ e
    repeat' (with_reducible first | assumption | exact Covers.trans hm (by decide) | apply State.live_kept
                                  | apply State.readFast_kept | apply kept_ite | intro _)
  · exact done_kept (State.tck_kept (hm.trans (by decide)) h _ _) e
  · exact done_kept (State.modTap_kept (hm.trans (by decide)) h _) e

theorem execRefWindow_kept {m : Nat} {s : State} (hm : Covers m 0x100000000000000000000000000000000000002) (n) {t : State} (e : execRefWindow n s = .next t) : Kept m s t := by
  have h := Kept.refl (m := m) s
  unfold execRefWindow at e
  dsimp only at e
  split at e
  · exact done_kept h e
  · split at e
    all_goals first
      | exact done_kept (State.withBeat_kept (hm.trans (by decide)) (State.putBit_kept _ (hm.trans (by decide)) h _ _) _ rfl) e
      | exact done_kept (State.putBit_kept _ (hm.trans (by decide)) h _ _) e

theorem execBeatPllLock_kept {m : Nat} {s : State} (hm : Covers m 0x40100000000000000000000000000000000004003) {t : State} (e : execBeatPllLock s = .next t) : Kept m s t := by
  unfold execBeatPllLock at e
  split at e
  · refine done_kept (when_kept (State.withLbc_kept (hm.trans (by decide)) (State.putBit_kept _ (hm.trans (by decide)) (Kept.refl s) _ _) _) _ _ (fun _ ht => each_kept (fun _ _ hu => State.startCore_kept (hm.trans (by decide)) hu _) _ ht)) e
  · exact done_kept (Kept.refl s) e

theorem execBeatLockTimeout_kept {m : Nat} {s : State} (hm : Covers m 0x2) {t : State} (e : execBeatLockTimeout s = .next t) : Kept m s t := by
  unfold execBeatLockTimeout at e
  split at e
  · exact done_kept (State.withBeat_kept (hm.trans (by decide)) (Kept.refl s) _ rfl) e
  · exact done_kept (Kept.refl s) e

theorem execRefclkLoss_kept {m : Nat} {s : State} (hm : Covers m 0x100000000000000000000000000000000000022)  {t : State} (e : execRefclkLoss s = .next t) : Kept m s t := by
  refine done_kept ?_ e
  repeat' (with_reducible first | assumption | exact Covers.trans hm (by decide) | apply State.live_kept
                                | apply State.putBit_kept | apply State.fault_kept | apply State.withBeat_kept
                                | apply foldl_kept | apply kept_ite | apply kept_ite_snd | apply optKept_some
                                | exact optKept_none | apply optKept_ite | exact Kept.refl _ | dsimp only | intro _)

theorem execHoldoverRelock_kept {m : Nat} {s : State} (hm : Covers m 0x100000000000000000000000000000000000000)  {t : State} (e : execHoldoverRelock s = .next t) : Kept m s t := by
  refine done_kept ?_ e
  repeat' (with_reducible first | assumption | exact Covers.trans hm (by decide) | apply State.live_kept | apply when_kept
                                | apply State.putBit_kept | apply foldl_kept | apply kept_ite | apply kept_ite_snd
                                | apply optKept_some | exact optKept_none | apply optKept_ite | exact Kept.refl _
                                | dsimp only | intro _)

theorem State.setPodLock_kept {m : Nat} {r s : State} (hm : Covers m 0x100000000000000000000000000000000000000) (h : Kept m r s) (k') (b) : Kept m r (State.setPodLock k' b s) := by
  unfold State.setPodLock
  repeat' (with_reducible first | assumption | exact Covers.trans hm (by decide) | apply State.setReg_kept
                                | apply State.setReg_kept | apply foldl_kept | apply kept_ite | apply kept_ite_snd
                                | apply optKept_some | exact optKept_none | apply optKept_ite | apply optKept_or
                                | apply optKept_getD | exact Kept.refl _ | dsimp only | intro _ | split)

theorem execPodPllLock_kept {m : Nat} {s : State} (hm : Covers m 0x100000000000000000000000000000000000000) (pod) {t : State} (e : execPodPllLock pod s = .next t) : Kept m s t := by
  refine done_kept ?_ e
  repeat' (with_reducible first | assumption | exact Covers.trans hm (by decide) | apply State.live_kept
                                | apply State.setPodLock_kept | apply foldl_kept | apply kept_ite | apply kept_ite_snd
                                | apply optKept_some | exact optKept_none | apply optKept_ite | exact Kept.refl _
                                | dsimp only | intro _)

theorem execPodLockTimeout_kept {m : Nat} {s : State} (hm : Covers m 0x22)  {t : State} (e : execPodLockTimeout s = .next t) : Kept m s t := by
  refine done_kept ?_ e
  repeat' (with_reducible first | assumption | refine State.withBeat_kept (hm.trans (by decide)) ?_ _ rfl
                                | exact Covers.trans hm (by decide) | apply State.live_kept
                                | apply each_kept | apply State.raiseNow_kept | apply foldl_kept | apply kept_ite
                                | apply kept_ite_snd | apply optKept_some | exact optKept_none | apply optKept_ite
                                | apply optKept_or | apply optKept_getD | exact Kept.refl _ | dsimp only | intro _
                                | split)

theorem execPodPllUnlock_kept {m : Nat} {s : State} (hm : Covers m 0x100000000000000000000000000000000000820) (pod) {t : State} (e : execPodPllUnlock pod s = .next t) : Kept m s t := by
  refine done_kept ?_ e
  repeat' (with_reducible first | assumption | exact Covers.trans hm (by decide) | apply State.live_kept
                                | apply State.fault_kept | apply State.podLost_kept | apply State.setPodLock_kept
                                | apply foldl_kept | apply kept_ite | apply kept_ite_snd | apply optKept_some
                                | exact optKept_none | apply optKept_ite | exact Kept.refl _ | dsimp only | intro _)

theorem State.settlePips_kept {m : Nat} {r s : State} (hm : Covers m 0x200) (h : Kept m r s)   : Kept m r (State.settlePips s) := by
  unfold State.settlePips
  repeat' (with_reducible first | assumption | exact Covers.trans hm (by decide) | apply each_kept | apply State.modPip_kept
                                | apply foldl_kept | apply kept_ite | apply kept_ite_snd | apply optKept_some
                                | exact optKept_none | apply optKept_ite | exact Kept.refl _ | dsimp only | intro _)

theorem State.exchangeMarks_kept {m : Nat} {r s : State} (hm : Covers m 0x2000000000000100000000000001c000000000000000003620) (h : Kept m r s) (b)  : Kept m r (State.exchangeMarks b s) := by
  unfold State.exchangeMarks
  repeat' (with_reducible first | assumption | exact Covers.trans hm (by decide) | apply each_kept
                                | apply State.adcTrigger_kept | apply State.triggerAll_kept | apply State.happenAll_kept
                                | apply foldl_kept | apply kept_ite | apply kept_ite_snd | apply optKept_some
                                | exact optKept_none | apply optKept_ite | exact Kept.refl _ | dsimp only | intro _)

theorem State.gainAllowance_kept {m : Nat} {r s : State} (hm : Covers m 0x4000000000000200) (h : Kept m r s) (n)  : Kept m r (State.gainAllowance n s) := by
  unfold State.gainAllowance
  repeat' (with_reducible first | assumption | exact Covers.trans hm (by decide) | apply State.modThr_kept
                                | apply State.putField_kept | apply foldl_kept | apply kept_ite | apply kept_ite_snd
                                | apply optKept_some | exact optKept_none | apply optKept_ite | exact Kept.refl _
                                | dsimp only | intro _)

theorem State.threadBeat_kept {m : Nat} {r s : State} (hm : Covers m 0xe000000000000200) (h : Kept m r s) (n)  : Kept m r (State.threadBeat n s) := by
  unfold State.threadBeat
  repeat' (with_reducible first | assumption | exact Covers.trans hm (by decide) | apply State.gainAllowance_kept
                                | apply State.putField_kept | apply when_kept | apply State.countUp_kept
                                | apply State.putField_kept | apply State.countUp_kept | apply foldl_kept
                                | apply kept_ite | apply kept_ite_snd | apply optKept_some | exact optKept_none
                                | apply optKept_ite | apply optKept_or | apply optKept_getD | exact Kept.refl _
                                | dsimp only | intro _ | split)

theorem State.checkLedger_kept {m : Nat} {r s : State} (hm : Covers m 0x20) (h : Kept m r s)   : Kept m r (State.checkLedger s) := by
  unfold State.checkLedger
  repeat' (with_reducible first | assumption | exact Covers.trans hm (by decide) | apply when_kept | apply State.fault_kept
                                | apply foldl_kept | apply kept_ite | apply kept_ite_snd | apply optKept_some
                                | exact optKept_none | apply optKept_ite | exact Kept.refl _ | dsimp only | intro _)

theorem State.endBeat_kept {m : Nat} {r s : State} (hm : Covers m 0x2000000020000100000000a001800000000400000000017664) (h : Kept m r s)   : Kept m r (State.endBeat s) := by
  unfold State.endBeat
  repeat' (with_reducible first | assumption | exact Covers.trans hm (by decide) | apply each_kept
                                | apply State.adcPassEnd_kept | apply State.exchange_kept
                                | apply State.pipeStages_kept | apply State.reportDrops_kept
                                | apply State.closeWindows_kept | apply State.spanFlush_kept
                                | apply State.drainLogs_kept | apply State.settlePips_kept
                                | apply State.settleMarks_kept | apply State.settleOutputs_kept | apply foldl_kept
                                | apply kept_ite | apply kept_ite_snd | apply optKept_some | exact optKept_none
                                | apply optKept_ite | apply optKept_or | apply optKept_getD | exact Kept.refl _
                                | dsimp only | intro _ | split)

theorem State.beginBeat_kept {m : Nat} {r s : State} (hm : Covers m 0xbf051adbbefd2307fc7bfeae7e3ffffff8f3fe12ff0001ffe7) (h : Kept m r s) : Kept m r s.beginBeat := by
  unfold State.beginBeat
  dsimp only
  have k := State.withLbcOnly_kept (hm.trans (by decide)) (State.advanceTod_kept (hm.trans (by decide)) h) (s.beat.lbc + 1)
  revert k
  generalize (s.advanceTod.withBeat fun x => { x with lbc := s.beat.lbc + 1 }) = u
  intro k
  repeat' (with_reducible first | assumption | exact Covers.trans hm (by decide) | apply State.upToRequests_kept | apply State.sendAlarms_kept
                                | apply State.endWinMove_kept | apply State.checkCompletions_kept | apply State.supLatchAgain_kept | apply State.serveAll_kept
                                | apply State.checkLedger_kept | apply each_kept | apply State.threadBeat_kept
                                | apply State.leaveStall_kept
                                | apply State.withHsk_kept | apply State.setReg_kept | apply State.settleRefresh_kept
                                | apply State.exchangeMarks_kept | apply State.adcPassEnd_kept | apply foldl_kept
                                | apply kept_ite | exact Kept.refl _ | dsimp only | intro _ | split)

theorem execBeatBoundary_kept {m : Nat} {s : State} (hm : Covers m 0xbf051adbbefd2307fc7bfeae7fbffffff8f7fe12ff0001ffe7)  {t : State} (e : execBeatBoundary s = .next t) : Kept m s t := by
  refine done_kept ?_ e
  repeat' (with_reducible first | assumption | exact Covers.trans hm (by decide) | apply State.live_kept
                                | apply State.beginBeat_kept | apply State.endBeat_kept | apply foldl_kept | apply kept_ite
                                | apply kept_ite_snd | apply optKept_some | exact optKept_none | apply optKept_ite
                                | exact Kept.refl _ | dsimp only | intro _)

theorem execBootRomLoad_kept {m : Nat} {s : State} (hm : Covers m 0x10000000000000000000000000000000000002) {t : State} (e : execBootRomLoad s = .next t) : Kept m s t := by
  have h := Kept.refl (m := m) s
  unfold execBootRomLoad at e
  split at e
  · split at e
    · exact done_kept (State.withBeat_kept (hm.trans (by decide)) (State.setReg_kept _ (hm.trans (by decide)) h _ _ _) _ rfl) e
    · exact done_kept (State.withBeat_kept (hm.trans (by decide)) (State.setReg_kept _ (hm.trans (by decide)) h _ _ _) _ rfl) e
  · exact done_kept h e

theorem State.loadUcode_kept {m : Nat} {r s : State} (hm : Covers m 0xe00000010200) (h : Kept m r s)   : Kept m r (State.loadUcode s) := by
  unfold State.loadUcode
  repeat' (with_reducible first | assumption | exact Covers.trans hm (by decide) | apply State.draw_kept
                                | apply State.withSeq_kept | apply each_kept | apply State.setReg_kept
                                | apply State.putBit_kept | apply foldl_kept | apply kept_ite | apply kept_ite_snd
                                | apply optKept_some | exact optKept_none | apply optKept_ite | exact Kept.refl _
                                | dsimp only | intro _)

theorem State.bootErase_kept {m : Nat} {r s : State} (hm : Covers m 0x808) (h : Kept m r s)   : Kept m r (State.bootErase s) := by
  unfold State.bootErase
  repeat' (with_reducible first | assumption | exact Covers.trans hm (by decide) | apply each_kept | apply State.withCal_kept
                                | apply State.eraseNor_kept | exact Kept.refl _ | dsimp only | intro _)

theorem State.bootLog_kept {m : Nat} {r s : State} (hm : Covers m 0x20800000000000000000000000000000000000000000000020) (h : Kept m r s)   : Kept m r (State.bootLog s) := by
  unfold State.bootLog
  repeat' (with_reducible first | assumption | exact Covers.trans hm (by decide) | apply State.countLog_kept
                                | apply when_kept | apply State.event_kept | apply State.fault_kept | apply foldl_kept
                                | apply kept_ite | apply kept_ite_snd | apply optKept_some | exact optKept_none
                                | apply optKept_ite | exact Kept.refl _ | dsimp only | intro _)

theorem State.bootStaging_kept {m : Nat} {r s : State} (hm : Covers m 0x30000000000000000000000000001080) (h : Kept m r s)   : Kept m r (State.bootStaging s) := by
  unfold State.bootStaging
  repeat' (with_reducible first | assumption | exact Covers.trans hm (by decide) | apply each_kept
                                | apply State.takeBlocks_kept | apply State.modLog_kept | apply foldl_kept | apply kept_ite
                                | apply kept_ite_snd | apply optKept_some | exact optKept_none | apply optKept_ite
                                | exact Kept.refl _ | dsimp only | intro _)

theorem State.bootProfile_kept {m : Nat} {r s : State} (hm : Covers m 0xbf051adbbefd2307dc7bfe2c003e3fe07013fe10ff00017fe4) (h : Kept m r s)   : Kept m r (State.bootProfile s) := by
  unfold State.bootProfile
  repeat' (with_reducible first | assumption | exact Covers.trans hm (by decide) | apply when_kept | apply State.fault_kept
                                | apply State.putField_kept | apply State.settleAll_kept | apply State.writeAll_kept
                                | apply foldl_kept | apply kept_ite | apply kept_ite_snd | apply optKept_some
                                | exact optKept_none | apply optKept_ite | exact Kept.refl _ | dsimp only | intro _)

theorem execFirmwareBoot_kept {m : Nat} {s : State} (hm : Covers m 0xbfc51edbbefd67e7ddfbff6c01bebfe87197fef0ff00017fee) (failed) (bad) (a0) (a1) {t : State} (e : execFirmwareBoot failed bad a0 a1 s = .next t) : Kept m s t := by
  have h := Kept.refl (m := m) s
  unfold execFirmwareBoot at e
  split at e
  · dsimp only at e
    refine done_kept ?_ e
    repeat' (with_reducible first | assumption | refine State.withBeat_kept (hm.trans (by decide)) ?_ _ rfl
                                  | exact Covers.trans hm (by decide) | apply State.putField_kept
                                  | apply State.serveRequests_kept
                                  | apply State.bootProfile_kept | apply State.bootStaging_kept | apply State.selfcal_kept
                                  | apply State.loadUcode_kept | apply State.train_kept | apply State.bootLog_kept
                                  | apply State.bootSets_kept | apply State.bootErase_kept)
  · exact done_kept h e

theorem execFirmwareRestart_kept {m : Nat} {s : State} (hm : Covers m 0xbf451adbbe7d25e3dc7bfe6c01bebfe87197fe107f00016fe4)  {t : State} (e : execFirmwareRestart s = .next t) : Kept m s t := by
  refine done_kept ?_ e
  repeat' (with_reducible first | assumption | exact Covers.trans hm (by decide) | apply State.live_kept
                                | apply each_kept | apply State.startCore_kept | apply State.putField_kept
                                | apply State.serveRequests_kept | apply State.putField_kept | apply foldl_kept
                                | apply kept_ite | apply kept_ite_snd | apply optKept_some | exact optKept_none
                                | apply optKept_ite | apply optKept_or | apply optKept_getD | exact Kept.refl _
                                | dsimp only | intro _ | split)

end Sys2Proof.Machine
end

