-- ==== Sys2Proof/Tests/Slice0.lean ====
section
/-! SUPPORT. The model's own tests: for every statement with hypotheses a state and operands that meet them, and what single
commands do on small states. -/

open Sys2Proof Sys2Proof.Machine

namespace Sys2Proof.Tests

set_option Elab.async false

/-- A module in RUN with firmware READY and version 2 agreed with every feature. -/
def up : State :=
  { beat := { phase := .run, lbc := 1000 },
    regs := [(regKey .MEM_IL 0 0, 0xFFFF0010#32), (regKey .HST_STATE 0 0, 0xC0000001#32)] }
/-- An issuer at MB0. -/
def iss0 : Issuer := ⟨0, 7, false, false⟩
/-- MB1 open with small rings. -/
def boxed : State := up.setBox 1 { sqBase := 24, sqLog := 1, cqBase := 32, cqLog := 1, st := 1 }
/-- MB0 has an open transaction. -/
def begun : State := { up with hst := { up.hst with txns := [⟨0, 7, false, [], none⟩] } }
/-- AgreementIsNegotiated: a module that is READY and has agreed nothing, with and without host words, and one that has agreed. -/
def fresh : State := { up with regs := [(regKey .HST_STATE 0 0, 1#32)] }

/-! WellFormed refuses a term for each of its checks. -/

theorem test_ill_issuer : Instr.ok (.cfgBegin ⟨16, 1, false, false⟩) = false ∧ Instr.ok (.cfgBegin ⟨16, 0, true, false⟩) = false ∧
    Instr.ok (.cfgBegin ⟨16, 0, false, true⟩) = false ∧ Instr.ok (.cfgBegin ⟨0, 1, true, true⟩) = true := by decide
theorem test_ill_frame : Instr.ok (.linkReceive 0 ⟨0, 3, 9, 5, 0, 1, 7, [], true⟩) = false ∧
    Instr.ok (.linkReceive 0 ⟨0, 3, 9, 5, 0, 64, 7, List.replicate 512 0, true⟩) = false ∧
    Instr.ok (.klFrameReceive 0 (.frame ⟨0, 3, 9, 5, 0, 0, 16, [], true⟩ 0)) = false ∧
    Instr.ok (.klFrameReceive 0 (.block [[], [], [], [], []])) = false := by decide
theorem test_ill_path : Instr.ok (.loWordRead ⟨.i2c, true⟩ 0x4100000000) = false ∧ Instr.ok (.tiaCntLoRead ⟨.sesame, true⟩ 0) = false ∧
    Instr.ok (.loWordRead ⟨.pcie, true⟩ 4) = false ∧ Instr.ok (.readClearRead .pcie 2) = false ∧
    Instr.ok (.registerWrite .host 4 ⟨0, some 0⟩) = false ∧ Instr.ok (.registerWrite .host 2 ⟨0, none⟩) = false ∧
    Instr.ok (.ntuIncWrite .host true ⟨0, some 0⟩) = false ∧ Instr.ok (.pcieLinkSettle 0 3) = false := by decide
theorem test_ill_access : Instr.ok (.bar2Access 0 none 0) = false ∧ Instr.ok (.bar2Access 0 none 65) = false ∧
    Instr.ok (.bar2Access 0xFFFFFFF none 2) = false ∧ Instr.ok (.cstRead 0x1000000 0) = false ∧
    Instr.ok (.memGranuleAccess .host 0 (some []) 0) = false ∧ Instr.ok (.threadCreate 0 0 0 0 none 0 65537) = false ∧
    Instr.ok (.dmaGranuleMove 0 (List.replicate 257 0)) = false := by decide +kernel
theorem test_ill_time : Instr.ok (.tdcEdge 0 true 1250000) = false ∧ Instr.ok (.timeReceive 0 1250000) = false ∧
    Instr.ok (.frameTransmit ⟨0, 1250000⟩) = false ∧ Instr.ok (.dreqSend 0 1250000) = false ∧ Instr.ok (.syncSend 0 1250000) = false := by decide
theorem test_ill_readings : Instr.ok (.adcSelfcalEnd 0 ⟨0, 0, [], true⟩) = false ∧ Instr.ok (.adcOpenwireEnd 0 [[0]]) = false ∧
    Instr.ok (.thmConversion [] []) = false ∧ Instr.ok (.laneLoss 0 0 []) = false ∧ Measured.ok ⟨0, 3, 0⟩ = false ∧
    Instr.ok (.calStepEnd [] ⟨[⟨0, 0, [], 0, 0⟩], []⟩) = false ∧ Instr.ok (.calStepEnd [] ⟨[], [⟨0, 3, 0⟩]⟩) = false := by decide

/-- StepTakesFrontCommand: a state with an empty queue. -/
theorem witness_empty_queue : up.pending = [] := by decide
theorem test_reset_idle : State.reset.pending = [] := by decide

/-- StepKeepsCanonicalForm: a canonical state whose step answers a next state. -/
theorem witness_canonical_step : up.canon = true ∧ ∃ t, step up = .next t := ⟨by decide, _, rfl⟩



/-- CommandFrame: a command that answers a next state, and a part and a stem that it is not listed to change. -/
theorem witness_frame : (∃ t, exec .holdoverRelock up = .next t) ∧ Part.ram ∉ changedParts .holdoverRelock ∧
    Stem.SEQ_GR ∉ changedStems .holdoverRelock := ⟨⟨_, rfl⟩, by decide, by decide⟩

/-- LbcCountsBeatsOnly: commands that answer a next state, one for each clause. -/
theorem witness_lbc : (∃ t, exec .porstNFall up = .next t) ∧ (∃ t, exec .holdoverRelock up = .next t) ∧
    (∃ t, exec .beatPllLock { up with beat := { up.beat with phase := .beatLock } } = .next t) := ⟨⟨_, rfl⟩, ⟨_, rfl⟩, ⟨_, rfl⟩⟩

/-- SesameGatesHold: a mailbox that is not served, one in FAULT_STOP, and one before agreement. -/
theorem witness_gates : sesame (.cfgBegin iss0) = some (iss0, 0x8010) ∧ State.reset.canTake 0 = false ∧
    (let s := { up with regs := [(regKey .HST_STATE 0 0, 0xC0000002#32)] }
     s.canTake 0 = true ∧ s.faultStop = true ∧ stopAccepts 0x8010 = false) ∧
    (let s := { up with regs := [(regKey .HST_STATE 0 0, 1#32)] }
     s.canTake 0 = true ∧ s.faultStop = false ∧ s.agreed = false ∧ openAccepts 0x8010 = false) := by decide
/-- ReservedFieldsRefused: a command with a reserved field set at an open mailbox. -/
theorem witness_reserved : sesame (.cfgBegin ⟨0, 7, false, true⟩) = some (⟨0, 7, false, true⟩, 0x8010) ∧ up.canTake 0 = true ∧
    up.gate 0x8010 = none ∧ (up.txnOf 0).isNone = true ∧
    (up.judgedIn 0x0121).canTake 0 = true ∧ (up.judgedIn 0x0121).gate 0x0121 = none ∧
    (let s := { up with hst := { up.hst with txns := [⟨0, 7, true, [], none⟩] } }
     s.canTake 0 = true ∧ s.gate 0x0A20 = none ∧ (s.txnOf 0).map Txn.rolled = some true) := by decide +kernel

/-- CompletionEntryWritten: an open mailbox with room. -/
theorem witness_completion : iss0.mb ≠ 16 ∧ (up.box 0).st ≠ 0 ∧ (up.box 0).cqFree ≠ 0 ∧ up.meas.lost = false := by decide
theorem test_completion_tag : (up.complete iss0 0 []).memNat 0x4000001000 8 = 0x8000_0000_0000_0007 := by decide


/-- MailboxesOpenCloseReset: MB1 closed, with room for two rings of one block; and MB1 open. -/
theorem witness_mb_open : up.serves iss0 ∧ (up.box 1).st = 0 ∧ up.runFrom (ringBlocks 1 64) 0 8192 = some 3 ∧
    (up.takeRun 3 3 (ringBlocks 1 64)).runFrom (ringBlocks 1 32) 0 8192 = some 4 ∧ up.mayTake 3 (ringBlocks 1 64 + ringBlocks 1 32) = true := by decide
theorem witness_mb_close : boxed.serves iss0 ∧ (boxed.box 1).st ≠ 0 ∧ boxed.owed 1 = 0 ∧ (boxed.txnOf 1).isNone = true := by decide

/-- WindowAndRegistersServed: a backed window, an assigned word, a transaction-only word, an open transaction. -/
theorem witness_registers : up.serves iss0 ∧ up.windowOk 0 = true ∧ regAt 0x4100FFFFF0 = none ∧
    (∃ r, regAt 0x4101010000 = some r ∧ r.stem.info.txn = false ∧ ∀ p ∈ up.writeChecks 0 r 1 1, p.1 = false) ∧
    (∃ r, regAt 0x4100000000 = some r ∧ r.stem.info.txn = true) := by
  refine ⟨by decide, by decide, by decide, ⟨⟨.SEQ_GR, 0, 0⟩, by decide, by decide, by decide⟩, ⟨⟨.TMG_CH_CFG, 0, 0⟩, by decide, by decide⟩⟩
/-- A move of the window has begun. -/
theorem witness_window : ∃ s : State, s.hst.winMove = some ⟨iss0, 0, false⟩ := ⟨{ up with hst := { up.hst with winMove := some ⟨iss0, 0, false⟩ } }, rfl⟩
theorem witness_ledger : (∀ p < 7, up.hold p < 0x10000) ∧ up.freeBlocks < 0x10000 := by decide
theorem witness_shadow : begun.serves iss0 ∧ begun.txnOf 0 = some ⟨0, 7, false, [], none⟩ ∧ (∃ r, regAt 0x4100000000 = some r ∧ r.stem.info.fwOnly = false) ∧
    shadowSize (addShadow [] (.reg 0 1 1)) ≤ 4096 :=
  ⟨by decide, by decide, ⟨⟨.TMG_CH_CFG, 0, 0⟩, by decide, by decide⟩, by decide⟩
/-- MGT_ASID_ROOT[0] is written by firmware alone. -/
theorem witness_own : ∃ r, regAt 0x410C018000 = some r ∧ r.stem.info.fwOnly = true := ⟨⟨.MGT_ASID_ROOT, 0, 0⟩, by decide, by decide⟩

theorem witness_agreement : fresh.canTake 0 = true ∧ iss0.reserved = false ∧ fresh.agreed = false ∧ up.agreed = true ∧ up.canTake 0 = true ∧
    up.hst.txns = [] ∧ (∀ k < 17, k ≠ 0 → up.owed k = 0) ∧ fresh.hst.hello = none ∧
    ((agreedSet [1, 0, 0, 0]).getD 0 0).getLsbD 0 = true ∧ ((agreedSet [2, 0, 0, 0]).getD 0 0).getLsbD 0 = false := by decide


/-- TransactionsBeginCommitRollBack: no transaction, an open one, a rolled-back one, and a site that is not idle. -/
theorem witness_txn : up.serves iss0 ∧ up.feature 3 = true ∧ (up.txnOf 0).isNone = true ∧ up.openTxn 0 = none ∧
    begun.serves iss0 ∧ begun.openTxn 0 = some ⟨0, 7, false, [], none⟩ ∧
    (let r := { begun with hst := { begun.hst with txns := [⟨0, 7, true, [], none⟩] } }
     r.serves iss0 ∧ r.openTxn 0 = some ⟨0, 7, true, [], none⟩) ∧
    (let r := begun.modThr 3 fun t => { t with st := 2 }
     r.serves iss0 ∧ (maskList (8 : W32) 32).all r.idle = false ∧ r.openTxn 0 = some ⟨0, 7, false, [], none⟩) := by decide
/-- CommitsApplyWholeOrNotAtAll: a due commit that passes, one that fails (QUIET 0b11), and P0. -/
def dueWith (l : List Shadow) : State :=
  { begun with hst := { begun.hst with txns := [⟨0, 7, false, l, some ⟨iss0, 0, 1000, 0, false⟩⟩] } }
theorem witness_commit_passes :
    (let s := (dueWith [.reg 0 0x8000 0x8000]).upToCommits
     (s.dueCommit 0).map (fun x => (x.1.entries, x.2)) = some ([.reg 0 0x8000 0x8000], ⟨iss0, 0, 1000, 0, false⟩) ∧
     lowest (commitChecks s (s.writeAll [.reg 0 0x8000 0x8000]) [.reg 0 0x8000 0x8000]) = none) := by decide +kernel
/-- The commit of P0 with no entry left, which is due. -/
def dueProfile : State :=
  { begun with hst := { begun.hst with txns := [⟨0, 7, false, [], some ⟨iss0, 8, 1000, 0, false⟩⟩] } }
theorem witness_profile_applies :
    (let s := dueProfile.upToCommits
     (s.dueCommit 0).map (fun x => (x.1.entries, x.2.profile)) = some ([], true) ∧ (List.range 32).all s.idle = true ∧
     lowest (commitChecks s (s.writeAll []) []) = none) := by decide +kernel
theorem witness_profile_refused :
    (let s := (dueProfile.modThr 3 fun t => { t with st := 2 }).upToCommits
     ((s.dueCommit 0).isSome = true ∧ (List.range 32).all s.idle = false)) := by decide +kernel
theorem witness_commit_fails :
    (let s := dueWith [.reg 0 0x30 0x30]; lowest (commitChecks s (s.writeAll [.reg 0 0x30 0x30]) [.reg 0 0x30 0x30]) = some Status.badArgument) := by
  decide +kernel
theorem witness_profile : up.serves iss0 ∧ (∀ n < 32, up.idle n = true) ∧ up.hst.txns = [] ∧ up.profileEmpty 0 = false ∧
    up.profileNeed 0 ≤ up.backed := by decide

/-- DoorbellsMoveTheRings: an open mailbox at the boundary values 63 and 64, a closed one, one in ERROR. -/
theorem witness_doorbell : up.running = true ∧ (up.box 0).st = 1 ∧ 2 ^ (up.box 0).sqLog = 64 ∧ (63 : W32).toNat % 4096 < 64 ∧
    64 ≤ (64 : W32).toNat % 4096 ∧ (up.box 1).st = 0 ∧
    ((up.setBox 2 { st := 2 }).box 2).st = 2 ∧
    (let b := ((up.setBox 0 { up.box 0 with sqHead := 1 }).box 0); 64 ≤ (0 + 64 - b.sqHead) % 64 + (1 + 64 - b.sqTail) % 64) := by decide
/-- MessagesAreSignalled: an unsignalled entry, and vector 0 owed a message with the link up, masked and unmasked. -/
theorem witness_coalesce : (let s := up.setBox 0 { up.box 0 with fresh := 1 }
    (s.box 0).fresh ≠ 0 ∧ (s.box 0).oldest + (s.box 0).time ≤ s.beat.lbc) := by decide
theorem witness_msix : (let s := { up with hst := { up.hst with msixOwed := 1, link := some (4, 8) } }
    s.exchange.hst.msixOwed.getLsbD 0 = true ∧ s.exchange.hst.link.isSome = true ∧ (s.exchange.msixWord 3).getLsbD 0 = true ∧
    s.exchange.hst.config.msixEnable = true ∧ s.exchange.hst.config.d3hot = false) ∧
    (let s := { up with hst := { up.hst with msixOwed := 1, link := some (4, 8), msix := [(3, 0)] } }
     (s.exchange.msixWord 3).getLsbD 0 = false ∧ s.exchange.hst.config.msixMask = false) := by decide


/-- A LEDGER_SNAP descriptor with tag 7 waits at MB0. -/
def waiting : State :=
  ((up.setMem 0x4000000000 ([0x40, 0x80, 0, 0, 7, 0, 0, 0] ++ List.replicate 56 0)).setBox 0 { up.box 0 with sqTail := 1 })
/-- DescriptorsAreServedInTurn: MB0's turn with a descriptor that spells a command; an empty descriptor; the version 1 mailbox. -/
theorem witness_descriptor : waiting.nextBox = some 0 ∧ waiting.v1Due = false ∧ waiting.hst.startedAt ≠ some waiting.beat.lbc ∧
    descriptorOf 0 (waiting.mem 0x4000000000 64) = some (.ledgerSnap iss0) ∧ descriptorOf 0 (List.replicate 64 0) = none := by decide
theorem witness_v1 : fresh.canTake 16 = true ∧ fresh.running = true ∧ fresh.fieldOf HST_STATE_SESAME 0 ≠ 2 ∧ (fresh.v1Word 8).getLsbD 1 = false ∧
    fresh.hst.startedAt ≠ some fresh.beat.lbc ∧ (fresh.withHst fun h => { h with v1Wait := true }).v1Due = true ∧
    (fresh.putField HST_STATE_FW_STATE 0 0).canTake 16 = false ∧
    (fresh.withHst fun h => { h with startedAt := some 1000 }).hst.startedAt = some fresh.beat.lbc ∧
    descriptorOf 16 fresh.v1Descriptor = none ∧
    descriptorOf 16 (fresh.setV1 0 0x8040).v1Descriptor = some (.ledgerSnap ⟨16, 0, false, false⟩) := by decide

/-- One deferred command waits. -/
def deferring (c : Instr) : State :=
  { up with hst := { up.hst with deferred := [{ iss := iss0, cmd := c, started := false, muted := false, taken := 0, due := 0, data := [] }] } }
/-- DeferredCommandsAreAnswered: a held completion with room, and each kind of waiting command free to begin. -/
theorem witness_deferred : up.running = true ∧ up.shutDown = false ∧ (up.box 0).cqFree ≠ 0 ∧
    ((deferring .v1Go).hst.deferred[0]?).isSome = true ∧ (clusterThreads 1).all (deferring (.seqUcodeVerify iss0 1)).idle = true ∧
    (deferring (.adcSelfcal iss0 1)).adcsFree (maskList (1 : Byte) 2) = true ∧ (deferring (.adcSelfcal iss0 1)).deviceRuns = false ∧
    (deferring (.supSelftest iss0 0 1)).supCalibrates 0 = false ∧ (deferring (.calRun iss0 0 0 0 0 1)).mayRun 0 = true ∧
    (deferring (.supSelftest iss0 0 1)).supOwnerIdle 0 = true ∧ (deferring (.supSelftest iss0 0 1)).supState 0 = 0 ∧
    (deferring (.calRun iss0 0 0 0 0 1)).calFree 0 1 = true := by decide
/-- A waiting command begun and due, one whose outcome is known, a program that fits, no class deferred, and an applet's grant. -/
theorem witness_ends : ({ iss := iss0, cmd := .seqUcodeVerify iss0 1, started := true, muted := false, taken := 0, due := 0, data := [] } : Deferred).due ≤ up.beat.lbc ∧
    ({ iss := iss0, cmd := .v1Go, started := true, muted := false, taken := 0, due := 0, data := [], outcome := some (0, []) } : Deferred).outcome = some (0, []) ∧
    (let u := (deferring (.seqProgLoad iss0 0 0 0)).dropDeferred 0
     u.progUsed 0 = false ∧ (u.freeBlockList 6 (u.prog 0).blocks).mayTake 6 (progBlocks 1) = true ∧ u.meas.lost = false) ∧
    (let u := (deferring (.vstDirWrite iss0 0 0 1)).dropDeferred 0; u.lockedIn 0 1 = none) ∧
    up.classDeferred 0 = false ∧ up.classDeferred 3 = false ∧ up.coreState 2 = 0 := by decide
/-- An applet granted to core 2, with pages for an image of none. -/
def granted : State := (deferring (.mgtAppletLoad iss0 0 2 0 0 0 0 0)).withMgt fun m => { m with grants := m.grants.set (fun _ => { }) 2 { count := 1 } }
theorem witness_applet_start : (granted.grant 2).count ≠ 0 ∧ granted.coreState 2 = 0 ∧ ∃ a, (granted.takePages 2 7 [(0, 64)]).1 = some a := by
  refine ⟨by decide, by decide, ?_⟩
  unfold State.takePages
  simp only
  split
  · exact ⟨_, rfl⟩
  · rename_i h
    exact absurd (List.find?_eq_none.1 h 4096 (List.mem_cons_of_mem _ (by decide))) (by decide)
theorem witness_openwire_start : (up.putField ADC_STAT_STATE 0 1).adcState 0 = 1 ∧ (up.putField ADC_STAT_STATE 0 1).deviceRuns = false := by decide

/-- ReadsTakeTheirSnapshots: NTU_LBC over PCI Express, TIA_CNT over the Sesame path, and TMG_CH_STAT there. -/
theorem witness_reads : up.running = true ∧ pathReg .pcie 0x200 = some ⟨.NTU_LBC, 0, 0⟩ ∧ takesSnap ⟨.NTU_LBC, 0, 0⟩ = true ∧
    fromSnap ⟨.NTU_LBC, 0, 1⟩ = true ∧ pathReg .sesame (regBase + Stem.offset .TIA_CNT 5 0) = some ⟨.TIA_CNT, 5, 0⟩ ∧
    takesSnap ⟨.TIA_CNT, 5, 0⟩ = true ∧ pathReg .sesame 0x4100018000 = some ⟨.TMG_CH_STAT, 0, 0⟩ ∧
    (Stem.TMG_CH_STAT.word 0 0).rc ≠ 0 := by decide +kernel
/-- An unassigned word, and the TAP in Capture-DR with a cell at GPIO0 whose level State holds. -/
theorem witness_unassigned : unassigned (.hazel 0) 0x4100FFFFF0 = true := by decide +kernel
theorem witness_ball : (up.ballLevel (.place 308)).isSome = true := by
  unfold State.ballLevel
  rw [show up.scanCode = none from rfl]
  decide
theorem witness_scan_cell : ∃ (i : Nat) (c : ScanCell), scanCells[i]? = some c ∧ c.ball = some (Ball.place 308) := by
  by_cases h : ∃ c ∈ Config.scanOrder, c.ball = some (Ball.place 308)
  · obtain ⟨c, hc, hb⟩ := h
    obtain ⟨i, hi⟩ := List.getElem?_of_mem (List.mem_append_left _ hc)
    exact ⟨i, c, hi, hb⟩
  · have hm : (Ball.place 308) ∈ signalBalls := List.mem_append_right _ (List.mem_map_of_mem (by simp))
    have hf : (Ball.place 308) ∈ signalBalls.filter (fun b => !ballOfPort b && Config.scanOrder.all (fun c => c.ball != some b)) := by
      refine List.mem_filter.2 ⟨hm, ?_⟩
      simp only [ballOfPort, Bool.and_eq_true, List.all_eq_true]
      exact ⟨by decide, fun c hc => by simpa using fun e => h ⟨c, hc, e⟩⟩
    obtain ⟨i, hi⟩ := List.getElem?_of_mem (List.mem_append_right Config.scanOrder (List.mem_map_of_mem (f := fun b => ({ part := .input, ball := some b } : ScanCell)) hf))
    exact ⟨i, _, hi, rfl⟩
theorem test_signal_balls : signalBalls.length = 1524 := by simp [signalBalls]
theorem test_lbc_low_half : (up.readFast .pcie 0x200).1 = 1000 := by decide

/-- BarAndLinkCommands: a window offset backed and not, a window that moves, a MAILBOX offset, one outside the pool, and
PERST_N high. -/
theorem witness_bar2 : up.running = true ∧ 0x1000000 ≤ (0x1000000 : BitVec 28).toNat ∧ up.hst.winMove = none ∧
    up.inRam up.hst.winBase 8 = true ∧ ({ up with hst := { up.hst with winBase := 0x3FFFFFFFFF } } : State).inRam 0x3FFFFFFFFF 8 = false ∧
    (up.endWinMove.withHst fun h => { h with winMove := some ⟨iss0, 0, false⟩ }).hst.winMove ≠ none ∧
    up.inMailbox 0 8 = true ∧ up.inMailbox 0x10000 8 = false ∧
    ({ up with hst := { up.hst with perst := true } } : State).hst.perst = true := by decide


/-- ModuleResetsLeaveResetState: a held module. -/
theorem witness_held : State.reset.beat.phase = .held := by decide
theorem test_prof_sampled : (match exec (.porstNRise 2) State.reset with | .next t => t.fieldOf HST_STATE_PROF_BALLS 0 | _ => 9) = 2 := by decide
/-- BootReachesReady: a module in BOOT with no valid image, and one whose image is started. -/
theorem witness_boot : (let s : State := { beat := { phase := .run } }; s.booting false = true ∧ s.bootSlot = none) ∧
    (let s : State := ({ beat := { phase := .run, image := some 0 } } : State).putField THM_HOT_TEMP 0 100
     s.booting true = true ∧ s.beat.booted = false ∧ s.converted = true ∧ s.coreState 0 ≠ 2 ∧ s.coreState 1 ≠ 2) ∧
    ({ beat := { phase := .run, image := some 0 } } : State).converted = false := by
  refine ⟨⟨by decide, ?_⟩, by decide, by decide⟩
  decide

/-- BeatGeneratorFollowsItsTable: each state of the table; windows at the ends of the ±0.5 %. -/
theorem witness_beat : windowPasses 995000 = true ∧ windowPasses 994999 = false ∧ windowPasses 1005000 = true ∧ windowPasses 1005001 = false ∧
    up.beat.phase = .run ∧ up.running = true ∧ up.bitOf NTU_BEAT_STAT_HOLDOVER 0 = false ∧ up.shutDown = false ∧
    ({ up with beat := { up.beat with phase := .refWait } } : State).beat.phase = .refWait ∧
    ({ up with beat := { up.beat with regained := true } } : State).beat.regained = true := by decide
theorem test_cores_start : (match exec .beatPllLock { State.reset with beat := { phase := .beatLock } } with
    | .next t => (t.coreState 0, t.coreState 1, t.coreState 2) | _ => (9, 9, 9)) = (1, 1, 0) := by decide
/-- PodsLockAndUnlock: an unjudged module at 1 ms, and a locked pod. -/
theorem witness_pods : up.running = true ∧ up.beat.podsJudged = false ∧
    800000 ≤ ({ up with beat := { up.beat with lbc := 800000 } } : State).beat.lbc ∧ (up.setPodLock 3 true).podLocked 3 = true := by decide
/-- BeatBoundaryCountsAndExchanges: a running module early in its time. -/
theorem witness_boundary : up.running = true ∧ (∀ x ∈ begun.hst.txns, x.pending = none) ∧ ((up.tod : Int) + up.inc + slewNow up.ntu.slew).toNat < 2 ^ 48 * (1000000000 * 2 ^ 32) := by decide


/-- A step by `offset` units of 2^-16 ns waits for the present beat, and ToD is 1 s. -/
def stepping (offset : W64) : State :=
  { up with ntu := { up.ntu with sec := 1 }, hst := { up.hst with deferred := [{ iss := iss0, cmd := .ntuTodStep iss0 0 0 offset 0, started := false, muted := false, taken := 999, due := 1000, data := [] }] } }
/-- TimeIsReadSetAndStepped: a slew of 600 ns, a step of -2.5 ms, and values at the ends of the range. -/
theorem witness_step : up.serves iss0 ∧ up.servoOwns = false ∧ up.ntu.slew = 0 ∧ up.stepPending = false ∧
    ((stepping 39321600).stepDelta 0 39321600 0).natAbs ≤ 1000 * 2 ^ 32 ∧ (stepping 39321600).running = true ∧
    1000 * 2 ^ 32 < ((stepping (-163840000000)).stepDelta 0 (-163840000000) 0).natAbs ∧
    0 ≤ ((stepping (-163840000000)).tod : Int) + (stepping (-163840000000)).stepDelta 0 (-163840000000) 0 ∧
    ((stepping (-163840000000)).tod + (stepping (-163840000000)).stepDelta 0 (-163840000000) 0).toNat < 2 ^ 48 * (1000000000 * 2 ^ 32) ∧
    up.hst.deferred = [] := by
  decide
/-- The example of R358: a step of -2.5 ms from epoch 5 leads to epoch 6. -/
theorem test_step_epoch : (match exec .todStepApply { stepping (-163840000000) with ntu := { sec := 1700000100, epoch := 5 } } with
    | .next t => (t.ntu.sec, t.ntu.ns, t.ntu.epoch) | _ => (0, 0, 0)) = (1700000099, 997500000, 6) := by decide +kernel

/-- Alarm 3 is armed for the present beat, one-shot or periodic. -/
def alarmed (p : Nat) : State := (up.modAlarm 3 fun a => { a with next := 1000, period := p }).putField NTU_ALM_STAT_STATE 3 2
/-- AlarmsArmFireAndDisarm: an alarm to arm, one that is due (one-shot and periodic), and a mask of alarms not due. -/
theorem witness_alarm : up.tod < (5 * 1000000000 + 0) * 2 ^ 32 ∧ up.fieldOf NTU_ALM_STAT_STATE 3 = 0 ∧ (alarmed 0).alarmDue 3 = true ∧
    (alarmed 800).alarmDue 3 = true ∧ ∀ i ∈ maskList 8#32 32, up.alarmDue i = false := by decide +kernel
theorem test_alarm_one_shot : (match exec (.alarmFire 3) (alarmed 0) with | .next t => t.fieldOf NTU_ALM_STAT_STATE 3 | _ => 9) = 0 := by
  decide +kernel

/-- A frame for Ethernet 0 waits with launch time 5 ns, and its link is up. -/
def launching : State := { up with
  ntu := { up.ntu with ns := 10, eth := [true, false] }
  hst := { up.hst with deferred := [{ iss := iss0, cmd := .ntuTxTimed iss0 0x4000000000 64 8 0 0 5, started := false, muted := false, taken := 999, due := 0, data := [] }] } }
/-- TimedFramesWaitAndLaunch: a frame that may be queued at Ethernet 0, and one that is due. -/
theorem witness_timed : launching.serves iss0 ∧ inStore 0x4000000000 64 = true ∧ (∀ x ∈ launching.timedQueue 8 0, x ≤ 5) ∧
    5 * 2 ^ 32 ≤ launching.tod + 1000000000 * 2 ^ 32 ∧ launching.timedLink 8 = true ∧ launching.running = true ∧
    ((launching.hst.deferred.map Deferred.timed) = [some (8, 0, 5)]) ∧ 5 * 2 ^ 32 < launching.nextTod ∧ launching.earlierTimed 8 5 = false := by decide +kernel

/-- A follower whose up port is port 0, ACTIVE, with a SYNC waiting. -/
def follower : State :=
  let x : Arrival := ⟨1, ⟨0, 0, 0, 0, 0, 3, 4, List.replicate 24 0, true⟩, 0, 0⟩
  ((({ up with beat := { up.beat with lbc := 200000 } }.putField NTU_ROLE_ROLE 0 2).putField NTU_ROLE_UP_PORT 0 0).putField
    KLK_PORT_STAT_STATE 0 6).modPort 0 fun q => { q with inbox := [x] }
/-- PTP is agreed and on, on Ethernet 0, with a Sync to send. -/
def ptpUp : State := (((((up.setReg .HST_FEAT 0 0 0xFF#32).putField NTU_PTP_CFG_ROLE 0 1).putField NTU_PTP_CFG_PORTS 0 1).withNtu
  fun n => { n with eth := [true, false] }).modPtp 0 fun x => { x with out := [⟨.sync, 0, 0, 0, 0, 0, true, 0, 0, []⟩] })
theorem witness_ptp : 0 ∈ ptpUp.ptpPorts ∧ 0 ∉ follower.ptpPorts ∧ ptpUp.ptpPeer = false ∧ ptpUp.ptpSlave = none ∧ (ptpUp.ptp 0).out ≠ [] ∧
    ptpUp.running = true ∧ ptpUp.fieldOf NTU_PTP_CFG_DOMAIN 0 = 0 ∧ ptpUp.fieldOf NTU_PTP_CFG_TRANSPORT 0 = 0 := by decide +kernel
/-- A master that the port follows: its data set is better than the module's, whatever that is. -/
theorem witness_ptp_master (h : betterSet [1, 2] Config.ptpDataset = true) :
    (ptpUp.modPtp 0 fun x => { x with master := some ([1, 2], 77) }).ptpFrom 0 ⟨.sync, 0, 0, 0, 77, 0, false, 0, 0, []⟩ = true := by
  have e : (ptpUp.modPtp 0 fun x => { x with master := some ([1, 2], 77) }).ptpPorts = [0] := by decide +kernel
  have m : ((ptpUp.modPtp 0 fun x => { x with master := some ([1, 2], 77) }).ptp 0).master = some ([1, 2], 77) := by decide +kernel
  simp [State.ptpFrom, State.ptpSlave, e, m, h]
/-- TimeTravelsOverTheLinks: a SYNC to take, no arrival, a DREQ due, a SYNC due on port 0, time lost, the last fs of a beat. -/
theorem witness_time_links : follower.running = true ∧ (follower.port 0).inbox.length = 1 ∧
    (∀ x ∈ (follower.port 0).inbox, x.frame.type = 4 ∧ x.frame.aux.toNat % 16 = 0) ∧ (follower.port 1).inbox = [] ∧
    follower.fieldOf NTU_ROLE_ROLE 0 = 2 ∧ follower.faultStop = false ∧ { up with beat := { up.beat with phase := .run } }.running = true ∧
    follower.fieldOf NTU_ROLE_UP_PORT 0 = 0 ∧ follower.portState 0 = 6 ∧ (follower.delay 0).asked = false ∧ (follower.delay 0).sentAt = none ∧
    ((follower.setReg .NTU_ROLE 0 0 (follower.reg .NTU_ROLE 0 ||| 1)).reg .NTU_ROLE 0).getLsbD 0 = true ∧
    follower.ntu.syncAt.get (fun _ => none) 0 = none ∧ follower.ntu.lastSync + 128000 ≤ follower.beat.lbc ∧
    follower.bitOf NTU_SERVO_STAT_UP_LOST 0 = false ∧ 1249999 < beatFs := by decide


/-- Converted at 50 °C on every sensor. -/
def warm : State := each (List.range 48) (fun i => State.putField THM_TEMP_TEMP i 200) (up.putField THM_HOT_TEMP 0 200)
/-- StoreCommandsBeginTheirWrite: the window open with nothing under way, a set that no calibration holds, and a destination. -/
theorem witness_store : warm.serves iss0 ∧ warm.storeBusy = false ∧ warm.setHeld 3 = false ∧ warm.badGddr 0 8 8192 = false ∧
    warm.badRam 0x4000000000 8 256 = false := by decide +kernel
theorem witness_store_window : warm.storeWindow = true := by decide +kernel

/-- A store write whose next step is an erase. -/
def storing1 : State := { warm with cal := { warm.cal with store := some ⟨.sysShutdownLogClear iss0, [⟨.erase, 0, 0x1D00000, []⟩], false, [16]⟩ } }
/-- StoreWriteStepsInOrder: an access with the window open, a read-back, an end, and a shutdown under way. -/
theorem witness_store_step : storing1.running = true ∧ storing1.cal.store.isSome = true ∧ storing1.shutDown = false ∧
    storing1.converted = true ∧ storing1.tHot ≤ 380 ∧ (StoreOp.erase ≠ .verify) ∧
    ({ warm with thm := { warm.thm with shutdown := some [] } } : State).shutDown = true ∧
    up.storeWindow = false ∧ up.erased 0x1D00000 = true := by decide +kernel

/-- A started run of POD0 in TRIM mode. -/
def podRun : State := { up with hst := { up.hst with deferred := [{ iss := iss0, cmd := .calRun iss0 0 0 0 0 1, started := true, muted := false, taken := 999, due := 0, data := [] }] } }
/-- CalibrationRunsAreTaken: a run to take, one that is active, a factory copy to restore, and a recovery run owed. -/
theorem witness_cal : up.serves iss0 ∧ up.hst.deferred.any runOf = false ∧ up.storeBusy = false ∧ up.setHeld 2 = false ∧ up.noSource 1 2 = false ∧
    up.ready = true ∧ up.cal.updated = none ∧ podRun.hst.deferred.length = 1 ∧ (podRun.hst.deferred.map activeRun) = [true] ∧ up.cal.recal = false ∧ up.adcsFree [0, 1] = true ∧ up.hst.deferred.any up.calibrates = false ∧
    podRun.hst.deferred.any podRun.calibrates = true ∧
    podRun.cal.run.isNone = true ∧ podRun.storing (.calRun iss0 0 0 0 0 1) = false ∧ podRun.running = true ∧
    ({ up with cal := { up.cal with recal := true } } : State).cal.recal = true ∧
    (∀ c : Fin 32, up.supState c.val = 0 ∨ up.supState c.val = 4) := by decide

/-- A run of POD0 whose front step is the given one, begun at beat 0. -/
def runAt (step : Nat) : State := { { podRun with beat := { podRun.beat with lbc := 2000000000 } } with cal := { podRun.cal with run := some {
  scope := 0, setTo := none, store := false, steps := [(step, 0)], stepAt := 0, passed := 0, failed := 0, acc := [], ids := [0], temps := [some 160], finished := [],
  saved := [], skipped := false, adcOn := step == 1, lost := [], changed := [] } } }
/-- CalibrationStepsEnd: a pod's third step whose time has passed, locked and not; and the ADC step. -/
theorem witness_cal_step : (runAt 3).running = true ∧ ((runAt 3).cal.run.map (fun r => r.steps)) = some [(3, 0)] ∧
    0 + stepBeats 3 ≤ (runAt 3).beat.lbc ∧ (runAt 3).podLocked 0 = false ∧ ((runAt 3).setPodLock 0 true).podLocked 0 = true ∧
    (runAt 1).adcState 0 ≠ 4 ∧ (runAt 1).adcState 1 ≠ 4 ∧ 0 + stepBeats 6 ≤ (runAt 6).beat.lbc := by decide
/-- A path offset of 312,501 fs is bad, and the offset's place lies within a temperature set. -/
theorem test_offset_limit : Measured.bad true ⟨0, 4, 312501⟩ = true ∧ Measured.bad true ⟨0, 4, -312500⟩ = false ∧ 0 + 4 ≤ strideOf 0 ∧
    unsignedPlace 0 0 = false := by decide
theorem witness_measured : measuredBad 6 [] [] = false := by simp [measuredBad, notMonotonic]
/-- A pod's temperature that has moved from 40 °C to 50 °C since the run's start. -/
theorem witness_drift : ((((runAt 6).putField THM_HOT_TEMP 0 200).putField THM_TEMP_TEMP 0 200).putField THM_TEMP_TEMP 1 200).podTemp 0 = some 200 := by
  decide
/-- The tap nearest to 2 x 610.35 fs of three, and of two that lie equally near the lower (R402). -/
theorem test_nearest_tap : nearestTap [0, 1000, 1300] 2 = 2 ∧ nearestTap [5, 5, 1000] 0 = 0 := by decide

/-- The throttle tick of beat 80,000,000 at a temperature in 1/4 °C. -/
def ticking (t4 : Nat) : State := ({ up with beat := { up.beat with lbc := 80000000 } }.putField THM_HOT_TEMP 0 t4).putField THM_PLIM_STAT_THR 0 2
/-- TemperatureGovernsPower: a first conversion, and a tick above 100 °C and below 95 °C with and without acknowledgement. -/
theorem witness_tick : up.thm.lastConv = none ∧ (List.replicate 48 40000).length = 48 ∧ (ticking 401).running = true ∧
    (ticking 401).converted = true ∧ 400 < (ticking 401).tHot ∧ (ticking 379).tHot < 380 ∧ (ticking 379).beat.lbc % 80000000 = 0 ∧
    (ticking 379).thm.lastTick = none ∧ (ticking 379).thm.raisedAt = none ∧ (ticking 379).reg64 .THM_SNS_ACK 0 = 0 ∧
    ((ticking 379).setReg64 .THM_SNS_ACK 0 1).reg64 .THM_SNS_ACK 0 ≠ 0 := by decide
/-- Classes deferred or not, no shutdown, a sensor that was hot once, and ticks at which THR stays. -/
theorem witness_thermal : up.classDeferred 0 = false ∧ up.shutDown = false ∧
    ((up.putField THM_PLIM_STAT_DEFER 0 1).classDeferred 0 = true ∧ ∀ k : Fin 4, 0 < k → (up.putField THM_PLIM_STAT_DEFER 0 1).classDeferred k.val = false) ∧
    ((up.modSensor 3 fun x => { x with hot := 1 }).sensor 3).hot = 1 ∧ up.supState 0 ∉ [1, 2, 3] ∧ (up.putField SUP_STAT_STATE 0 2).supState 0 = 2 ∧
    (ticking 390).tHot ≤ 400 ∧ 380 ≤ (ticking 390).tHot ∧ up.beat.lbc % 8000000 ≠ 0 := by decide
/-- Sensor 3 has factors by which its reading is its count; it was hot once; no other sensor has factors. -/
def heated : State := (up.setNor (factorsAt 3) [0, 0, 0, 0, 0, 0, 0, 0, 4, 0, 0, 0, 1, 0, 0, 0]).modSensor 3 fun x => { x with hot := 1 }
theorem witness_failed : (heated.factors 0).inBand 500 = false ∧ (heated.factors 3).inBand 500 = true := by decide +kernel
theorem test_shutdown_begins : (match exec (.thmConversion (List.replicate 48 500) []) heated with
    | .next t => (t.sensorFailed 3, t.thm.shutdown.isSome, t.fieldOf THM_HOT_SENSOR 0) | _ => (true, false, 48)) = (false, true, 0) := by decide +kernel
theorem test_throttle_up : (match exec .throttleTick (ticking 401) with | .next t => t.fieldOf THM_PLIM_STAT_THR 0 | _ => 0) = 3 := by decide
theorem test_throttle_down : (match exec .throttleTick (ticking 379) with | .next t => t.fieldOf THM_PLIM_STAT_THR 0 | _ => 0) = 1 := by decide


/-- Channel 37's run has ended with the sums of the example of R274. -/
def measured37 : State :=
  (((up.setReg64 .TIA_CNT 37 1000000).setReg64 .TIA_SUM 37 16384050000).setSsq 37 268437119402500).modTdc 37 fun t => { t with ended := true }
/-- TdcStatisticsAreExact: an ended run, a start beat that has come, and a command that is neither. -/
theorem witness_statistics : measured37.running = true ∧ (measured37.tdc 37).ended = true ∧ (measured37.reg64 .TIA_CNT 37).toNat = 1000000 ∧
    16384050000 * 16384050000 ≤ 1000000 * measured37.tdcSsq 37 ∧
    ((up.modTdc 37 fun t => { t with startAt := some 1000 }).tdc 37).startAt = some 1000 ∧ (∃ t, exec .beatLockTimeout up = .next t) ∧
    (up.tdc 37).ended = false ∧ (up.tdc 37).startAt = none ∧ (∃ t, exec (.tdcRunEnd 37) up = .next t) :=
  ⟨by decide, by decide, by decide, by decide, by decide, ⟨_, rfl⟩, by decide, by decide, _, rfl⟩
/-- The example of R274: MEAN 0x4000_0CCC and SDEV 0x0005_0000. -/
theorem test_mean_sdev : (match exec (.tdcRunEnd 37) measured37 with
    | .next t => (t.reg64 .TIA_MEAN 37, t.reg64 .TIA_SDEV 37) | _ => (0, 0)) = (0x40000CCC, 0x50000) := by decide +kernel

/-- TdcRunsStartAndEnd: TDCs 0 and 64 free to start, and a place for a record. -/
theorem witness_tia : up.serves iss0 ∧ tiaMask 1 1 = [0, 64] ∧ (∀ n ∈ tiaMask 1 1, up.fieldOf TIA_STAT_STATE n ≠ 1 ∧
    (up.tdc n).startAt = none ∧ up.bitOf TIA_CH_CFG_GATE n = false ∧ up.fieldOf TIA_CH_CFG_MODE n ≠ 1 ∧ up.podCalibrating (n / 8) = false) ∧
    up.badRam 0x4000000000 8 80 = false := by decide

/-- Channel 5 runs in a mode, its input resolved. -/
def timing (mode : Nat) : State :=
  ((up.putBit TMG_CH_STAT_CPH_UNRES 5 false).putField TIA_STAT_STATE 5 1).putField TIA_CH_CFG_MODE 5 mode
/-- Channel 5 with an open start and a second timestamp to take. -/
def stamped (mode : Nat) (stop : Bool) : State :=
  let o : Stamp := { time := 100, rising := true }
  (timing mode).modTdc 5 fun t => { t with start := some o, halves := [o], buffer := [{ time := 350, rising := true, stop := stop }] }
theorem test_measure_value :
    (match exec (.tdcMeasure 5) (stamped 0 false) with | .next t => (t.reg64 .TIA_CNT 5, t.reg .TIA_LAST 5) | _ => (9, 9)) = (1, 250) ∧
    (match exec (.tdcMeasure 5) (stamped 1 true) with | .next t => (t.reg .TIA_LAST 5, (t.tdc 5).halves.length) | _ => (9, 9)) = (250, 0) ∧
    (match exec (.tdcMeasure 5) (stamped 1 false) with | .next t => (t.tdc 5).halves.length | _ => 9) = 2 := by decide +kernel
/-- TdcEdgesAreTimestamped: a rising edge to take, one in the dead time, a hold-off to end, an unresolved input, timestamps of
each mode, and a gate that ends. -/
theorem witness_edges : (timing 0).tdcUnresolved 5 = false ∧ ((timing 0).tdc 5).level ≠ some ((timing 0).tdcLevel 5 true) ∧ (timing 0).tdcTakes 5 = true ∧
    ((timing 0).tdc 5).hold = none ∧ polarity ((timing 0).fieldOf TIA_CH_CFG_START_POL 5) true = true ∧
    450000 < (1001 : Nat) * beatFs ∧ (up.putBit TMG_CH_STAT_CPH_UNRES 5 true).bitOf TMG_CH_STAT_CPH_UNRES 5 = true ∧
    (timing 3).fieldOf TIA_CH_CFG_MODE 5 = 3 ∧ (timing 3).bitOf TIA_CH_CFG_GATE 5 = false ∧
    (((((timing 3).tdc 5).gate + (timing 3).fieldOf TIA_GATE_GATE 5) * 2048 : Nat) : Int) ≤
      (((timing 3).now : Int) - signed 25 ((timing 3).fieldOf TMG_DSK_CMP_OFFSET 5)) * 2048 / 1250000 := by decide

/-- Both converters in a state. -/
def converters (st : Nat) : State := (up.setAdc 0 st).setAdc 1 st
/-- ConverterCommandsAct: IDLE converters that nothing holds, a running one, and an open-wire test of AIN input 32. -/
theorem witness_adc : (converters 1).serves iss0 ∧ (∀ a ∈ maskList 3#8 2, (converters 1).adcState a = 1 ∧ (converters 1).adcHeld a = false) ∧
    (converters 3).adcState 1 = 3 ∧ up.badRam 0x4000000000 8 (16 * (maskList 0x100000000#64 38).length) = false ∧ senseOf 0 32 = none := by decide

/-- ADC0 with a soft trigger due, and with a result of entry 0 to write. -/
def converting : State := (converters 3).modAdc 0 fun x => { x with trigs := [(1000, 0)], base := 625, out := [⟨0, 77, false, 4, 600⟩] }
/-- Procedures of ADC0 that have run their time. -/
def procedure (c : Instr) : State :=
  { converters 4 with hst := { up.hst with deferred := [{ iss := iss0, cmd := c, started := true, muted := false, taken := 999, due := 0, data := [] }] } }
/-- ConvertersConvertAndReport: a trigger, an instant and a result of the present beat, and both procedures at their end. -/
theorem witness_convert : converting.running = true ∧ (converting.adc 0).ends = none ∧
    firstTrig ((converting.adc 0).trigs.filter (fun x => decide (x.1 ≤ converting.beat.lbc))) = some (1000, 0) ∧
    converting.adcState 0 = 3 ∧ converting.adcInstant 0 * 2000000 ≤ converting.beatEnd ∧ (600 + 12) * 2000000 ≤ converting.beatEnd ∧
    (converting.modAdc 0 fun x => { x with ends := some 625, trigs := [] }).now = 625 * 2000000 ∧ firstTrig [] = none ∧
    converting.adcShort 0 = true ∧ (converting.putField ADC_CFG_LEN_M1 0 4).adcShort 0 = false ∧
    (procedure (.adcSelfcal iss0 1)).adcState 0 = 4 ∧ ((procedure (.adcSelfcal iss0 1)).adc 0).busyTill ≤ 1000 ∧
    (procedure (.adcSelfcal iss0 1)).hst.deferred.any (selfcalOf 0) = true ∧
    badFactor ⟨0, 262144, [], true⟩ = none ∧ badFactor ⟨1025, 262144, [], true⟩ = some 0 ∧
    (procedure (.adcOpenwire iss0 0x4000000000 0x100000000 0 0 4 2560)).hst.deferred.any (openwireOf 0) = true := by decide
theorem test_openwire_record : openwireRecord 32 2560 [0, 2600, 30, 0, 0] =
    [32, 1, 0, 0, 0, 0, 0x28, 0x0A, 0x1E, 0, 0, 0, 0, 0, 0, 0] ∧ leAt (openwireRecord 32 2560 [0, 2590, 30, 0, 0]) 1 1 = 0 := by decide

/-- Controller 2 in a state, with VSET 100 and SS_DIV reached. -/
def supplying (st : Nat) : State :=
  (((up.putField SUP_STAT_STATE 2 st).putField SUP_VSET_VSET 2 100).modSup 2 fun x => { x with act := 99, zeroAt := if st = 3 then some 0 else none })
/-- SuppliesAreCommanded: OFF controllers, a self-check at its end, a step in START, and a ramp that has ended. -/
theorem witness_sup : up.serves iss0 ∧ (up.txnOf 0).isNone = true ∧ up.restOfBeat = [] ∧ (∀ c ∈ maskList 5#32 32, (up.tripsFirst 5).supState c ≠ 4 ∧
    (up.tripsFirst 5).bitOf SUP_STAT_SUSPECT c = false ∧ (up.tripsFirst 5).cal.recal = false ∧ (up.tripsFirst 5).hst.deferred = []) ∧
    (supplying 4).supState 2 = 4 ∧ up.supOwnerIdle 4 = true ∧
    ((begun.txnOf 0).map (fun x => (x.rolled, x.pending.isNone))) = some (false, true) ∧
    (procedure (.supSelftest iss0 2 15)).running = true ∧ (supplying 1).supEn 2 = true ∧ ((supplying 1).sup 2).fresh = false ∧
    ((supplying 1).sup 2).stepAt + (supplying 1).fieldOf SUP_CFG_SS_DIV 2 ≤ 1000 ∧
    ({ supplying 3 with beat := { up.beat with lbc := 16000 } } : State).supState 3 = 0 ∧ ((supplying 3).sup 2).zeroAt = some 0 := by decide
theorem test_start_becomes_on : (match exec (.softStartStep 2) (supplying 1) with | .next t => (t.supState 2, (t.sup 2).act) | _ => (9, 0)) = (2, 100) := by
  decide

/-- Controller 2 ON at a period start (DIV 400, beat 1025 - 1000 = 25 = floor(2 DIV / 32)), its PWM high since beat 825. -/
def regulating : State := (({ up with beat := { up.beat with lbc := 1225 } }.putField SUP_GLB_CFG_DIV 0 400).putField SUP_STAT_STATE 2 2).modSup 2 fun x =>
  { x with act := 100, u := 500, pwm := true, period := some 825, enAt := some 0 }
/-- SuppliesRegulateAndTrip: a period start, an on-time at its limit and in its blanking, a comparator that watches and trips,
one unresolved, and blanking that has ended. -/
theorem witness_regulate : regulating.running = true ∧ regulating.supDiv = 400 ∧ ((1225 : Int) - (2 * 400 / 32 : Nat)) % 400 = 0 ∧
    (regulating.sup 2).period = some 825 ∧ (regulating.supNewPeriod 2).supEn 2 = true ∧ (regulating.sup 2).fresh = false ∧
    (regulating.sup 2).pwm = true ∧ 400 * 1250000 * 90 / 100 ≤ (1225 - 825) * 1250000 + 0 ∧ (826 - 825) * 1250000 + 0 < 40000000 ∧
    (regulating.putField SUP_STAT_UNRES 2 0).supWatches 2 0 = true ∧ (5000 * regulating.fieldOf SUP_THR_V_OV 2 : Nat) < (30000000 : Int) ∧
    regulating.supTesting 2 = false ∧ (regulating.putField SUP_STAT_UNRES 2 0).supLatch 2 0 = false ∧
    ((regulating.putField SUP_STAT_UNRES 2 1).reg .SUP_STAT 2).getLsbD 8 = true ∧ (regulating.putField SUP_STAT_UNRES 2 1).supWatches 2 0 = false ∧
    regulating.supBand 2 0 30000000 = false ∧ (regulating.putField SUP_THR_V_OV 2 1000).supBand 2 0 4995000 = true ∧
    (regulating.sup 2).enAt = some 0 ∧ 0 + 16000 ≤ ({ regulating with beat := { regulating.beat with lbc := 16000 } } : State).beat.lbc := by
  decide +kernel
/-- The comparator ends the on-time 40 ns after the period start, and not before. -/
theorem test_peak_blanking : (match exec (.peakComparatorTrip 2 ⟨100000, 0⟩) { regulating with beat := { regulating.beat with lbc := 857 } } with
    | .next t => (t.sup 2).pwm | _ => true) = false ∧
    (match exec (.peakComparatorTrip 2 ⟨100000, 1249999⟩) { regulating with beat := { regulating.beat with lbc := 856 } } with
    | .next t => (t.sup 2).pwm | _ => false) = true := by decide +kernel


/-- FastPageWritesAct: `up` runs; bit 3 of subsystem 0's C3 is set by a fault of this boundary, bit 7 by an older one. -/
def statusSet : State := { up.setReg .HSK_STATUS 0 0 0x88 with hsk := { up.hsk with fresh := 8, freshBeat := 1000 } }
theorem witness_ack : statusSet.running = true ∧ up.running = true := by decide
theorem test_ack_keeps_fresh : (match exec (.hskAckWrite false 0xFF) statusSet with | .next t => t.status | _ => 0) = 8 := by decide
theorem test_msix_control : (match exec (.registerWrite .host 0xE00C ⟨0xFFFFFFFE, none⟩) up with | .next t => t.msixWord 3 | _ => 9) = 0 := by
  decide

/-- Engine 3's queue 1 is enabled with a ring of 16, FAULT_INJECT is agreed, and thread 0 is idle in `up`. -/
def wired : State := ((up.putField MGT_DEQ_CFG_EN 13 1).putField MGT_DEQ_CFG_LOG2 13 4).setReg .HST_FEAT 0 0 0xFFFFFFFF
theorem witness_core_writes : doorbellAt 0x410C103008 = some (3, 1) ∧ wired.bitOf MGT_DEQ_CFG_EN (4 * 3 + 1) = true ∧
    up.bitOf MGT_DEQ_CFG_EN 13 = false ∧ up.idle 0 = true ∧ wired.feature 9 = true ∧ (up.setReg .HST_FEAT 0 0 0).feature 9 = false ∧ injectOk 0x80000000 = true ∧
    doorbellAt 0x4101010000 = none ∧ (regAt 0x4101010000).isSome = true := by decide +kernel
theorem test_doorbell_low_bits : (match exec (.registerWrite (.hazel 0) 0x410C103008 ⟨0x12, none⟩) wired with | .next t => (t.dq 3 1).tail | _ => 99) = 2 := by
  decide +kernel
/-- Core 2 runs an applet with site 0. -/
def applet2 : State := { up.putField MGT_CORE_STAT_STATE 2 1 with mgt := { up.mgt with grants := [(2, { first := 256, count := 4, sites := 1#32 })] } }
/-- AppletRequestsAreAnswered: SEQ_GR[0] is granted, SEQ_GR[16] is not. -/
theorem witness_applet : applet2.running = true ∧ (applet2.grant 2).count ≠ 0 ∧ applet2.coreState 2 = 1 ∧ applet2.ready = true ∧
    applet2.agreed = true ∧ applet2.shutDown = false ∧
    (∃ r, regAt 0x4101010000 = some r ∧ applet2.granted (applet2.grant 2) r = true ∧ r.stem.info.txn = false ∧
      ∀ p ∈ applet2.writeChecks 3 r 5 0xFFFFFFFF, p.1 = false) ∧
    (∃ r, regAt 0x4101010040 = some r ∧ applet2.granted (applet2.grant 2) r = false) ∧
    (let r : Reg := ⟨.SEQ_CSL_CFG, 0, 0⟩
     regAt (regBase + Stem.offset .SEQ_CSL_CFG 0 0) = some r ∧ applet2.granted (applet2.grant 2) r = true ∧ r.stem.info.txn = true) := by
  refine ⟨by decide, by decide, by decide, by decide, by decide, by decide, ⟨⟨.SEQ_GR, 0, 0⟩, by decide, by decide, by decide, by decide⟩,
    ⟨⟨.SEQ_GR, 16, 0⟩, by decide, by decide⟩, by decide +kernel⟩
theorem test_applet_write : (match exec (.appletRegRequest 2 0x4101010000 (some (5, 0xFFFFFFFF))) applet2 with
    | .next t => (t.reg .SEQ_GR 0).toNat | _ => 0) = 5 := by decide


/-- GranulesAreAccessed: granule 5 is backed and its controller idle, granule 2^30 is not backed; its controller is LOST in the
second state, and its channel has just been activated in the third. -/
theorem witness_granule : up.running = true ∧ 5 < up.backed / 128 ∧ up.backed / 128 ≤ 2 ^ 30 ∧ up.ctlState (up.place6 5).mc ≠ 3 ∧
    (up.ctl (up.place6 5).mc).queue = [] ∧ (up.ctl (up.place6 5).mc).held = [] ∧ (up.ctl (up.place6 5).mc).free (up.place6 5).ch ≤ up.beat.lbc ∧
    up.meas.lost = false ∧ up.injected 4 (up.place6 5).mc = false ∧ up.classDeferred 3 = false ∧
    (up.putField MEM_CTL_STAT_STATE (up.place6 5).mc 3).ctlState (up.place6 5).mc = 3 ∧
    (let s := up.modCtl (up.place6 5).mc fun c => c.spend (up.place6 5).ch 1 1000
     s.beat.lbc < (s.ctl (s.place6 5).mc).free (s.place6 5).ch) := by
  decide +kernel
/-- A host write and after it a promoted capture write of another granule of the same channel stand queued. -/
def queued6 : State := up.modCtl (up.place6 5).mc fun c => { c with
  queue := [⟨.host, 5, some [], 0, [], false⟩, ⟨.background, 5, some [], 0, [], false⟩, ⟨.background, 37, some [], 0, [], true⟩] }
theorem test_promoted_first : (queued6.next6 (up.place6 5).mc (up.place6 5).ch).map (fun x => x.1.granule) = some 37 ∧
    (up.place6 37).mc = (up.place6 5).mc ∧ (up.place6 37).ch = (up.place6 5).ch := by decide +kernel
theorem test_masked_write : (match exec (.memGranuleAccess .host 5 (some [none, some 7]) 0) up with | .next t => t.mem 640 3 | _ => []) = [0, 7, 0] := by
  decide +kernel

/-- Controllers 0 and 3 are ACTIVE, long after their last reading and window. -/
def served : State := { (up.putField MEM_CTL_STAT_STATE 3 2).modCtl 3 (fun c => { c with edc := 2000, readAt := some 5 }) with beat := { up.beat with lbc := 900000 } }
theorem witness_controllers : served.running = true ∧ (served.ctl 3).window + 800000 ≤ served.beat.lbc ∧ served.ctlState 3 = 2 ∧
    (∀ r ∈ (served.ctl 3).readAt, r + 800000 ≤ served.beat.lbc) ∧ served.fieldOf MEM_EDC_CFG_THRESH 0 < (served.ctl 3).edc ∧
    (served.ctl 0).edc ≤ served.fieldOf MEM_EDC_CFG_THRESH 0 := by decide +kernel
theorem test_temp_doubles : (match exec (.gddr6TempRead 3 (some 341) (some (-4))) served with
    | .next t => (t.fieldOf MEM_TEMP_TEMP_A 3, t.fieldOf MEM_TEMP_TEMP_B 3, (t.ctl 3).wantA, (t.ctl 3).wantB) | _ => (0, 0, false, true)) =
    (341, 0xFFFC, true, false) := by decide +kernel

/-- BlocksKeepTheirBooks: `up` has room for pool 4; block 9000 is STREAM's in the second state. -/
def ninth : State := { up with cst := { up.cst with owner := up.cst.owner.set Cst.ownerReset 9000 1 } }
theorem witness_blocks : up.freeBlocks < 65536 ∧ up.hold 4 ≤ 65536 ∧ up.hold 4 < up.fieldOf CST_POOL_CFG_MAX_M1 4 + 1 ∧
    up.reserved 4 ≤ up.freeBlocks - 1 ∧ 1 ≤ up.freeBlocks ∧ (up.pickBlock 4).isSome = true ∧ ninth.owner 9000 = 1 ∧ ninth.owner 9001 ≠ 1 ∧
    (up.putField CST_POOL_CFG_MAX_M1 4 0 |>.setReg .CST_HOLD 4 0 1).hold 4 = 1 ∧ up.injected 1 0 = false ∧ up.injected 2 0 = false := by
  decide +kernel
theorem test_bad_free : (match exec (.blockFree 1 9000) ninth with | .next t => t.hsk.lines.map (fun f => f.2.detail) | _ => []) =
    [0x20002328] := by decide +kernel

/-- The C0 fault 0x0804 stands on MEM's error line, presented in this beat. -/
def faulty : State := { up.fault 8 0 0x0804 0 0 with beat := { up.beat with lbc := 1001 } }
/-- A second C3 fault comes while a C3 bit is set. -/
def twice : State := { (up.fault 2 3 0x0206 0 0).setReg64 .HSK_STATUS 0 0x8 with beat := { up.beat with lbc := 1001 } }
theorem witness_latch : faulty.running = true ∧ faulty.presented = [⟨8, 0, 0x0804, 0, 0, false, none⟩] ∧ faulty.status.getLsbD 32 = false ∧
    (faulty.setReg64 .HSK_STATUS 0 0x100000000).status.getLsbD 32 = true ∧ twice.status &&& c3Bits ≠ 0 ∧ twice.presented.length = 1 ∧
    up.hsk.lost = 0 ∧ up.hsk.ring.length ≤ 256 ∧ up.badRam 0 8 (64 * 256) = false ∧ up.hsk.lines = [] ∧ faulty.hsk.queue = [] ∧
    faulty.hsk.freshBeat ≠ faulty.beat.lbc ∧ up.commitAwaited = false ∧
    (faulty.hsk.lines.filter (fun x => decide (faulty.beat.lbc < x.1))) ≠ faulty.hsk.lines := by decide +kernel
theorem test_fault_stop : (match exec .faultLatch twice with | .next t => t.faultStop | _ => false) = true := by decide +kernel


/-- Thread 5 runs on core 0 with a counter of 1, thread 6 stands READY above it, and a switch is asked for. -/
def threaded : State :=
  { ((((up.setReg .MGT_SPR_THR 5 0 (BitVec.ofNat 32 (4 * 2 ^ 29 + 1))).setReg .MGT_SPR_THR 6 0 (BitVec.ofNat 32 (3 * 2 ^ 29 + 7 * 2 ^ 24))).putField
      MGT_CORE_STAT_STATE 0 1)) with mgt := { up.mgt with threads := [(5, { ringVa := 4096, ringLen := 16 }), (6, { ringLen := 16 })], switches := [0] } }
theorem witness_sprout : threaded.running = true ∧ threaded.acting 5 = true ∧ threaded.fieldOf MGT_SPR_THR_C 5 = 1 ∧ threaded.cqFull = false ∧
    threaded.runningOn 0 = some 5 ∧ threaded.readyHead 0 = some 6 ∧ threaded.sprPrio 5 < threaded.sprPrio 6 ∧ threaded.sprState 7 = 0 ∧
    threaded.rangeOf 5 = some 0 ∧ threaded.rangeOf 7 = some 0 ∧ threaded.refusing = false ∧ threaded.coreState 0 = 1 ∧
    threaded.reaches 0 6 = true ∧ threaded.reaches 3 6 = false := by decide +kernel
theorem test_preempt : (match exec (.threadPreempt 0) threaded with | .next t => (t.sprState 5, t.sprState 6) | _ => (0, 0)) = (3, 4) := by
  decide +kernel
theorem test_expect : (match exec (.expect 5 9) threaded with | .next t => t.fieldOf MGT_SPR_THR_C 5 | _ => 0) = 10 := by decide +kernel

/-- One completion waits for thread 5, whose ring has room, and DE2 waits to retry one. -/
def delivering (fill : Nat) : State :=
  { threaded with mgt := { threaded.mgt with queue := [⟨5, 2, 0, 6, 1, 77, 0⟩], threads := [(5, { ringVa := 4096, ringLen := 16, fill := fill })] } }
def retrying : State := up.modEngine 2 fun x => { x with owed := [⟨5, 0, 0, 8, 1, 3, 0⟩], retryAt := some 990 }
/-- The thread waits. -/
def sleeping : State := (delivering 0).putField MGT_SPR_THR_STATE 5 1
theorem witness_delivery : (delivering 0).running = true ∧ (delivering 0).hsk.occ = [] ∧ (delivering 0).mgt.delivered ≠ some 1000 ∧
    (delivering 0).mgt.heldEvents = [] ∧ (delivering 0).mgt.posts = [] ∧ (∀ k < 16, ((delivering 0).engine k).owed = []) ∧
    (∀ q < 8, ((delivering 0).rxq q).wait = []) ∧ (delivering 0).sprState 5 ≠ 0 ∧ (delivering 0).fieldOf MGT_SPR_THR_C 5 = 1 ∧
    ((delivering 16).spr 5).ringLen ≤ ((delivering 16).spr 5).fill ∧ sleeping.sprState 5 = 1 ∧ sleeping.sprFlow 5 = none ∧
    (retrying.engine 2).owed ≠ [] ∧ (retrying.engine 2).retryAt = some 990 ∧ retrying.cqFull = false := by decide +kernel
theorem test_ring_full : (match exec .completionDelivery (delivering 16) with
    | .next t => ((t.spr 5).overflowed, t.fieldOf MGT_SPR_THR_C 5, t.hsk.lines.length) | _ => (false, 9, 0)) = (true, 0, 1) := by decide +kernel

/-- Cores 0 and 3 run, since beat 0, and the present beat is 100 ms later. -/
def coring : State := { (up.putField MGT_CORE_STAT_STATE 0 1).putField MGT_CORE_STAT_STATE 3 1 with beat := { up.beat with lbc := 80000000 } }
/-- An applet image of eight bytes 0 at address 4096, with its CRC. -/
def imaged : State := (up.setMem 4096 (leBytes 4 0x50415A44 ++ leBytes 4 1 ++ leBytes 8 0x10000 ++ leBytes 8 0x10000 ++ leBytes 4 8 ++ leBytes 4 0 ++
  leBytes 4 (crc32 (List.replicate 8 0)).toNat)).setReg .HST_FEAT 0 0 0x20
theorem witness_cores : coring.running = true ∧ coring.coreState 0 = 1 ∧ coring.coreState 3 = 1 ∧ coring.coreState 4 ≠ 1 ∧
    coring.mgt.dogs.get (fun _ => 0) 3 + 80000000 ≤ coring.beat.lbc ∧ up.beat.lbc < up.mgt.dogs.get (fun _ => 0) 0 + 80000000 ∧
    (coring.putField MGT_CORE_STAT_STATE 1 2).coreState 1 = 2 ∧ coring.thm.latch = false ∧ coring.ready = true ∧ coring.serves iss0 ∧
    coring.beat.noImage = false ∧ coring.faultStop = false ∧ coring.beat.booted = false ∧
    ({ coring with beat := { coring.beat with booted := true } } : State).beat.booted = true ∧
    (coring.putField HST_STATE_FW_STATE 0 0).ready = false := by decide +kernel
theorem witness_applet_load : imaged.serves iss0 ∧ imaged.feature 5 = true ∧ imaged.imageBad 4096 = false ∧
    imaged.grantedElse 3 (fun g => g.sites.toNat) 1 = false ∧ imaged.coreState 3 = 0 ∧ imaged.mayTake 5 1 = true ∧
    [2, 3, 4, 5, 6, 7].all (fun j => (imaged.grant j).count == 0) = true ∧
    ([2, 3, 4, 5, 6, 7].map (fun j => (imaged.grant j).quota)).sum + 1 ≤ imaged.backed / 0x100000 := by decide +kernel
/-- The first range of a machine with no applet starts at thread 256. -/
theorem witness_range : imaged.freeRange 4 = some 256 := by
  have h : ∀ j ∈ [2, 3, 4, 5, 6, 7], (imaged.grant j).count = 0 := by decide +kernel
  unfold State.freeRange
  rw [show List.range 769 = 0 :: (List.range 768).map (· + 1) by decide +kernel]
  simp only [List.map_cons, List.find?_cons]
  have : ([2, 3, 4, 5, 6, 7].all fun j => (decide ((imaged.grant j).count = 0) || decide ((imaged.grant j).first + (imaged.grant j).count ≤ 256 + 0) ||
      decide (256 + 0 + 4 ≤ (imaged.grant j).first))) = true := by
    rw [List.all_eq_true]; intro j hj; simp [h j hj]
  simp [this]
theorem test_trap : (match exec (.coreTrap 3 2) coring with | .next t => (t.coreState 3, t.hsk.lines.map (fun f => f.2.detail)) | _ => (0, [])) =
    (2, [0x20003]) := by decide +kernel

/-- DE9's queue 1 of address space 3 is enabled and holds one COPY of 512 bytes, whose pages no table maps. -/
def queued : State := (((((up.putField MGT_DEQ_CFG_EN 37 1).putField MGT_DEQ_CFG_LOG2 37 4).putField MGT_DEQ_CFG_ASID 37 3).setMem 0x4000000000
  ([0, 0, 44, 1] ++ leBytes 4 9 ++ leBytes 8 0x20000000 ++ leBytes 8 0x30000000 ++ leBytes 8 512)).modDq 9 1 fun x => { x with tail := 1 }).withMgt fun m =>
    { m with grants := [(3, ⟨256, 64, 2, 0, 1, 1, 0x10000⟩)] }
/-- The descriptor of `queued`, begun. -/
def copying : State := (queued.modDq 9 1 fun x => { x with cur := some ⟨0, 0, 300, 9, 0x20000000, 0x30000000, 512⟩ }).modEngine 9 fun x => { x with serving := some 1 }
/-- The queue has faulted. -/
def stopped : State := copying.modDq 9 1 fun x => { x with faulted := true }
/-- `copying` once firmware has both pages in the cache: it goes on with its first granule, and after it with a last of 56 bytes. -/
def mapped : State := copying.withMgt fun m => { m with cache :=
  [⟨3, 0x20000000, 4096, 0x5000, 0x0F⟩, ⟨3, 0x30000000, 4096, 0x6000, 0x0F⟩] }
/-- A COPY of two pages with its first behind it but for one granule, and a started descriptor in queue 3 of the engine. -/
def crowded : State := (((mapped.modDq 9 1 fun x => { x with cur := some ⟨0, 0, 300, 9, 0x20000000, 0x30000000, 8192⟩, prog := 3840 }).modDq 9 3 fun x =>
  { x with tail := 1 }).putField MGT_DEQ_CFG_EN 39 1).withMgt fun m => { m with cache := m.cache ++
  [⟨3, 0x20001000, 4096, 0x7000, 0x0F⟩, ⟨3, 0x30001000, 4096, 0x8000, 0x0F⟩] }
/-- The descriptor of `queued` as a SEND to module 5 and to the module itself, which has ID 9. -/
def sending (dest : Nat) : State := ((mapped.putField KLK_MOD_ID_ID 0 9).putField KLK_MOD_ID_VALID 0 1).modDq 9 1 fun x =>
  { x with cur := some ⟨2, 0, 300, 9, 0x20000000, dest, 16⟩ }
/-- Tables of ASID 1 at 0x10000 map the page of address 0x2000 to itself. -/
def hosted (s : State) : State := ((((s.setMem 0x10000 (leBytes 8 0x11001)).setMem 0x11000 (leBytes 8 0x12001)).setMem 0x12000 (leBytes 8 0x13001)).setMem
  0x13010 (leBytes 8 0x201F)).setReg64 .MGT_ASID_ROOT 1 0x10000
/-- DE0 carries a transfer of 64 bytes to the host. -/
def hosting : State := hosted <| up.modEngine 0 fun x => { x with jobs := [⟨iss0, 0x1000, 0x2000, 64, true, 0⟩], serving := some 4 }
theorem witness_dma_start : queued.running = true ∧ queued.engineFree 9 = true ∧ [3, 2, 1, 0].find? (queued.dqReady 9) = some 1 ∧
    (queued.dq 9 1).cur = none ∧ descBad (queued.mem (queued.descAddr 9 1) 64) (queued.dqAsid 9 1) = false ∧
    descBad ((queued.setMem 0x4000000000 [3]).mem 0x4000000000 64) 3 = true ∧ up.dmaDeferred = false ∧ up.faultStop = false := by decide +kernel
theorem witness_dma_move : (copying.engine 9).serving = some 1 ∧ (copying.dq 9 1).cur.isSome = true ∧ (copying.engine 9).owed = [] ∧
    (match (copying.granule 9 1 256 ⟨0, 0, 300, 9, 0x20000000, 0x30000000, 512⟩ 0).1 with | .inl va => va | .inr _ => 0) = 0x20000000 ∧
    (hosting.engine 0).serving = some 4 ∧ (hosting.engine 0).jobs ≠ [] ∧ (stopped.dq 9 1).faulted = true ∧ stopped.ready = true ∧
    up.serves iss0 ∧ up.inRam 4096 64 = true ∧
    stopped.blocks 9 1 ⟨0, 0, 300, 9, 0x20000000, 0x30000000, 512⟩ = true ∧ hosting.inRam 0x2000 64 = true := by decide +kernel
/-- DmaEnginesMoveGranules: a granule that translates, one before a 4 KiB boundary, frames to both sides, and a transfer of the host. -/
theorem witness_dma_bytes : (mapped.granule 9 1 256 ⟨0, 0, 300, 9, 0x20000000, 0x30000000, 512⟩ 0).1 = .inr ([(0x5000, 256)], [(0x6000, 256)]) ∧
    (crowded.granule 9 1 256 ⟨0, 0, 300, 9, 0x20000000, 0x30000000, 8192⟩ 3840).1 = .inr ([(0x5F00, 256)], [(0x6F00, 256)]) ∧
    (crowded.granule 9 1 256 ⟨0, 0, 300, 9, 0x20000000, 0x30000000, 8192⟩ 4096).1 = .inr ([(0x7000, 256)], [(0x8000, 256)]) ∧
    [3, 2, 1].any (fun h => decide (1 < h) && crowded.dqReady 9 h) = true ∧
    ((sending 5).granule 9 1 16 ⟨2, 0, 300, 9, 0x20000000, 5, 16⟩ 0).1 = .inr ([(0x5000, 16)], []) ∧ (sending 5).isOwn 5 = false ∧
    (sending 9).isOwn 9 = true ∧ ((hosting.mapJob (0x2000, 0x2040) 0x2000).pieces 1 0x2000 64 2).1 = .inr [(0x2000, 64)] := by decide +kernel
theorem test_dma_preempt : (match exec (.dmaGranuleMove 9 []) crowded with
    | .next t => (t.memNat (t.descAddr 9 1 + 0x20) 8, t.memNat (t.descAddr 9 1 + 0x28) 4, (t.engine 9).serving) | _ => (0, 0, some 9)) =
    (4096, 2, none) := by decide +kernel
/-- The example of R397: DE9's queue 1 is source 37, and its fault sets event 995. -/
theorem test_dma_fault : (match exec (.dmaGranuleMove 9 []) copying with
    | .next t => ((t.mgt.queue.map fun c => (c.thread, c.source, c.flags)), (t.spr 300).blocked, (t.reg .HSK_EVT_PEND 31).getLsbD 3)
    | _ => ([], 0, false)) = ([(1, 37, 1)], 1, true) := by decide +kernel


/-- Port 2 in a state of its training, entered at beat 0, `a` attempts having failed. -/
def training (st a : Nat) (q : Port) : State :=
  { (((up.putField KLK_PORT_STAT_STATE 2 st).putField KLK_PORT_STAT_ATTEMPTS 2 a).putField KLK_PORT_CFG_AUTO_RETRY 2 1).modPort 2 (fun _ => q) with
    beat := { up.beat with lbc := 900000000 } }
theorem witness_training : (∀ st < 8, (training st 2 {}).portState 2 = st ∧ (training st 2 {}).running = true) ∧
    (training 4 1 { set := 15, fast := true }).fieldOf KLK_PORT_STAT_ATTEMPTS 2 = 1 ∧
    (training 5 0 { agreed := some (3, 9, 4), session := some 4 }).port 2 = { agreed := some (3, 9, 4), session := some 4 } ∧
    (training 5 0 { agreed := some (3, 9, 4), session := some 4 }).mayResume 2 3 ⟨9, some ((training 5 0 {}).portId 2, 4)⟩ = true ∧ (training 5 0 {}).port 2 = {} ∧
    (training 5 0 { held := [1, 0, 0, 0] }).port 2 = { held := [1, 0, 0, 0] } ∧ (training 7 0 {}).bitOf KLK_PORT_CFG_AUTO_RETRY 2 = true ∧
    (training 6 0 {}).serves iss0 ∧ maskList (4 : Byte) 8 = [2] := by decide +kernel
/-- The first exchange at the low rate with a version 2 partner; then the common lanes. -/
theorem test_negotiate : (match exec (.negotiateExchange 2 ⟨true, false, 7, true, 3, 9⟩) (training 4 0 { set := 15 }) with
    | .next t => (t.portState 2, (t.port 2).fast) | _ => (0, false)) = (2, true) ∧
    (match exec (.negotiateExchange 2 ⟨true, false, 7, true, 3, 9⟩) (training 4 0 { set := 15, fast := true }) with
    | .next t => (t.portState 2, t.fieldOf KLK_PORT_STAT_LANES 2) | _ => (0, 0)) = (5, 3) := by decide +kernel
theorem test_third_attempt : (match exec (.trainingTimeout 2) (training 3 2 {}) with | .next t => t.portState 2 | _ => 0) = 7 := by decide +kernel

/-- A CTRL frame of two words. -/
def ctrl (seq : BitVec 12) : Frame := ⟨0, 3, 9, 5, seq, 2, 6, List.replicate 16 0, true⟩
/-- A port of four lanes with a frame unacknowledged since beat 0. -/
def unacked (n : Nat) : State := (training 6 0 { retry := [⟨3, ctrl 4, 8, 0, none⟩], replays := n }).putField KLK_PORT_STAT_LANES 2 15
/-- A LINK frame that acknowledges 4 and returns one buffer of VC0. -/
def link4 : Frame := ⟨0, 0, 9, 5, 0, 1, 7, leBytes 8 (4 + 65536), true⟩
theorem witness_frames : (training 6 0 { total := [4, 4, 4, 4] }).portState 2 = 6 ∧ frameOk (ctrl 0) = true ∧ (ctrl 0).type ≠ 7 ∧
    ((ctrl 0).seq.toNat = (4095 + 1) % 4096) ∧ frameBuffers (ctrl 0) ≤ 4 ∧ frameOk { ctrl 0 with crcOk := false } = false ∧
    (training 6 0 {}).portV2 2 = false ∧ ((training 6 0 {}).putBit KLK_PORT_STAT_VER 2 true).portV2 2 = true ∧ link4.payload.length = 8 ∧
    leAt link4.payload 0 8 % 4096 = 4 ∧ (4095 + 4096 - 5) % 4096 > 2047 ∧ (4095 + 4096 - 4095) % 4096 ≤ 2047 ∧
    ((training 6 0 {}).putField KLK_PORT_STAT_LANES 2 15).portLanes 2 = [0, 1, 2, 3] ∧ (3 &&& 15 = 3) ∧ lanesLeft 15 4 [] = 3 ∧ oneLane 3 = false ∧ (∀ x ∈ ((unacked 3).port 2).retry, x.frame.seq.toNat = 4) ∧ ((unacked 3).port 2).naked = none ∧
    ((training 6 0 {}).putField KLK_PORT_STAT_LANES 2 15).fieldOf KLK_PORT_STAT_LANES 2 = 15 := by decide +kernel
theorem test_accept : (match exec (.klFrameReceive 2 (.frame (ctrl 0) 0)) (training 6 0 { total := [4, 4, 4, 4] }) with
    | .next t => ((t.port 2).ack, (t.port 2).inbox.length, (t.port 2).held) | _ => (9, 9, [])) = (0, 1, [0, 0, 0, 1]) := by decide +kernel
theorem test_ack : (match exec (.linkReceive 2 link4) (training 6 0 { retry := [⟨3, ctrl 4, 8, 0, none⟩, ⟨3, ctrl 5, 8, 0, none⟩] }) with
    | .next t => (t.port 2).retry.map (fun x => x.frame.seq.toNat) | _ => []) = [5] := by decide +kernel

/-- An ACTIVE port with a CTRL frame queued. -/
def sendingPort : State := training 6 0 { queue := [⟨3, ctrl 0, 8, 0, none⟩], seq := 7, id := 0x80000005 }
/-- A version 2 port of one lane with 250 of the 256 words of its block sent. -/
def streamingPort : State := ((training 6 0 { queue := [⟨3, ctrl 0, 8, 0, none⟩], seq := 7, credits := [9, 9, 9, 9], out := { words := List.replicate 250 0 }, id := 0x80000005 }).putBit
  KLK_PORT_STAT_VER 2 true).putField KLK_PORT_STAT_LANES 2 4
theorem witness_transmit : sendingPort.nextFrame 2 = some ⟨3, ctrl 0, 8, 0, none⟩ ∧ (sendingPort.port 2).room (ctrl 0) = true ∧
    sendingPort.injected 5 2 = false ∧ (training 6 0 {}).nextFrame 2 = none ∧ ((unacked 3).port 2).ackedAt + 2048 ≤ (unacked 3).beat.lbc ∧
    (training 6 0 { replay := [⟨3, ctrl 4, 8, 0, none⟩] }).portState 2 = 6 ∧ lanesLeft 15 2 [] = 12 ∧ lanesLeft 1 1 [] = 0 ∧
    (training 6 0 { ackedAt := 900000000 }).beat.lbc < ((training 6 0 { ackedAt := 900000000 }).port 2).ackedAt + 2048 ∧
    ((unacked 3).fieldOf KLK_PORT_STAT_LANES 2).testBit 1 = true ∧
    (sendingPort.port 2).room { ctrl 0 with len := 9000 } = false ∧ frameBytes (ctrl 0) / 4 = 7 ∧
    (frameWords { ctrl 7 with crcOk := true }).length = 7 ∧ streamingPort.nextFrame 2 = some ⟨3, ctrl 0, 8, 0, none⟩ ∧
    streamingPort.portWidth 2 = 1 ∧ streamingPort.portV2 2 = true ∧ (streamingPort.port 2).out.words.length = 250 ∧
    ((unacked 3).laneUsed 2 1) = true ∧ (training 6 0 {}).laneUsed 2 1 = false ∧
    (training 6 0 { changeAt := some 899999000, before := 15, gone := 2 }).laneUsed 2 0 = true ∧ lanesLeft 15 3 [] = 12 := by decide +kernel
/-- A frame that would cross the block's end begins the next one behind its LINK frame (R332). -/
theorem test_block_end : (match exec (.frameTransmit ⟨2, 0⟩) streamingPort with
    | .next t => ((t.port 2).out.words.length, (t.port 2).out.last.length) | _ => (0, 0)) = (12, 256) := by decide +kernel
theorem test_sixteenth : (match exec (.replayTimeout 2) (unacked 16) with | .next t => t.portState 2 | _ => 0) = 2 := by decide +kernel
/-- From four lanes the pair without the lost lane is left (R347). -/
theorem test_lane_loss : (match exec (.laneLoss 2 1 []) (unacked 3) with | .next t => t.fieldOf KLK_PORT_STAT_LANES 2 | _ => 0) = 12 := by
  decide +kernel

/-- Module 5, whose port 2 has taken a frame of a type for destination `d` from module 9. -/
def arrived (type : Nat) (d : BitVec 11) : State := ((training 6 0 {
  inbox := [⟨vcOf type, { ctrl 0 with type := type, dest := d }, 0, 0⟩], held := [1, 1, 1, 1], blocks := [9000], total := [8, 8, 8, 8]
  id := 0x80000005 }).putField KLK_MOD_ID_ID 0 5).putField KLK_MOD_ID_VALID 0 1
theorem witness_arrivals : (∀ k ∈ [1, 2, 3, 5, 6], ((arrived k 5).port 2).inbox.find? (fun y => y.frame.type == k) =
      some ⟨vcOf k, { ctrl 0 with type := k, dest := (5 : BitVec 11) }, 0, 0⟩) ∧ (arrived 5 5).portValid 2 = true ∧
    (arrived 5 5).bitOf KLK_MOD_ID_VALID 0 = true ∧ (arrived 5 5).portId 2 = 5 ∧ (arrived 5 5).bitOf MGT_RXQ_CFG_EN 0 = false ∧
    ((arrived 5 5).putField MGT_RXQ_CFG_EN 0 1).bitOf MGT_RXQ_CFG_EN 0 = true ∧ (arrived 5 5).frameOffset 2 1 = some (9000 * 2048) ∧ (arrived 6 5).frameOffset 2 1 = some (9000 * 2048) ∧
    (arrived 5 5).serves iss0 ∧ ∀ x ∈ (up.port 2).inbox, x.frame.type ≠ 1 := by decide +kernel
theorem test_unbound : (match exec (.dataReceive 2) (arrived 5 5) with
    | .next t => (t.fieldOf MGT_RXQ_STAT_DISCARD 0, (t.port 2).held) | _ => (0, [])) = (1, [1, 1, 0, 1]) := by decide +kernel

/-- Lane 3 is in test of PRBS7, its checker about to lock. -/
def testing : State := up.modLane 3 fun _ => { on := true, sr := 0x7F, have_ := 70, good := 63 }
theorem witness_prbs : up.serves iss0 ∧ (∀ l < 64, (0x30000000008#64).getLsbD l = true → (l < 32 ∨ l = 40 ∨ l = 41) ∧ up.laneFree l = true) ∧
    (testing.lane 3).on = true ∧ testing.laneFree 3 = true ∧ testing.bitOf KLK_PRBS_STAT_LOCKED 3 = false ∧ (prbsTaps 0).1 ≤ 70 ∧ prbsNext 0 0x7F = false ∧
    (up.lane 4).on = false ∧ (testing.putBit KLK_PRBS_STAT_LOCKED 3 true).bitOf KLK_PRBS_STAT_LOCKED 3 = true := by decide +kernel
theorem test_prbs_lock : (match exec (.prbsCheck 3 false) testing with | .next t => t.bitOf KLK_PRBS_STAT_LOCKED 3 | _ => false) = true := by
  decide +kernel
theorem test_prbs_count : (match exec (.prbsCheck 3 true) (testing.putBit KLK_PRBS_STAT_LOCKED 3 true) with
    | .next t => t.fieldOf KLK_PRBS_ERR_COUNT 3 | _ => 0) = 1 := by decide +kernel


/-- A timing set image of one channel: period 1 ns, SBC off, the leading drive edge at 0. -/
def image1 : List Byte := leBytes 8 1000000 ++ leBytes 2 1 ++ List.replicate 6 0 ++ List.replicate 24 0 ++ List.replicate 7 0 ++ [0x80] ++ List.replicate 24 0
/-- That image at 4096 and loaded as set 5 of site 0, whose one channel is 0; segment 9 has a VALID entry. -/
def loaded1 : State := ((((up.setMem 4096 image1).putBit TMG_CH_CFG_ASSIGNED 0 true).setTset 0 5 image1).setDir 9
  ([0, 0, 0, 0, 7, 0, 0, 0, 8, 0, 1, 0] ++ List.replicate 20 0))
theorem witness_timing_set : loaded1.serves iss0 ∧ loaded1.idle 0 = true ∧ ((loaded1.readImages 4096 0 1).2).isNone = true ∧
    (loaded1.readImages 4096 0 1).1 = [image1] ∧ loaded1.badRam 8192 8 72 = false ∧ loaded1.tset 0 5 = image1 ∧
    (loaded1.siteChannels 0).findIdx (· == 0) < imgN image1 ∧ loaded1.fieldOf TMG_CH_CFG_SITE 0 = 0 ∧
    loaded1.bitOf TMG_CH_CFG_ASSIGNED 0 = true ∧ (loaded1.txnOf 0).isNone = true := by decide +kernel
theorem witness_directory : loaded1.badRam 32768 32 32 = false ∧ (∀ e ∈ splitEntries 32 1 (loaded1.mem 32768 32), loaded1.entryOk e = true) ∧
    loaded1.locked 7 = false ∧ loaded1.restOfBeat = [] ∧ (∀ m < 32, loaded1.idle m = true) ∧
    (loaded1.modThr 0 fun t => { t with locks := [7] }).locked 7 = true ∧ entValid (loaded1.dirEntry 9) = true ∧ loaded1.badRam 32768 32 (32 * 300) = false ∧
    (∀ e ∈ splitEntries 16 2 (loaded1.mem 65536 32), mkEntryOk e = true) ∧ loaded1.badRam 65536 16 32 = false ∧
    loaded1.entryOk (List.replicate 31 0 ++ [1]) = false := by decide +kernel
/-- R108: with no offset the edge at 0 stands at coarse 0 and fine 0, enabled. -/
theorem test_edge_query : (match exec (.tmgEdgeQuery iss0 0 5 2) (loaded1.setBox 0 { cqBase := 64, cqLog := 4, st := 1 }) with
    | .next t => (t.memNat (0x4000000000 + 64 * 256 + 8) 4, t.memNat (0x4000000000 + 64 * 256 + 12) 4, t.memNat (0x4000000000 + 64 * 256 + 20) 4)
    | _ => (9, 9, 9)) = (0, 0, 0) := by decide +kernel

/-- The words of a microcode image that is 0 but for the FETCH at 0x100. -/
def words100 : List Byte := List.replicate 0x800 0 ++ ([0, 0, 0, 0x40, 0x80, 0, 0, 0] ++ List.replicate 0x1F7F8 0)
/-- The header of the image, with the CRC of its words. -/
def head100 : List Byte := leBytes 4 0x43555A44 ++ leBytes 4 1 ++ leBytes 4 5 ++ leBytes 4 16384 ++ leBytes 4 (crc32 words100).toNat ++
  List.replicate 44 0
/-- The image. -/
def ucode100 : List Byte := head100 ++ words100
theorem ofLE_zeros (k : Nat) : ofLE (List.replicate k 0) = 0 := by
  induction k with
  | zero => rfl
  | succ k ih => simp only [List.replicate_succ, ofLE, ih]; rfl
theorem words100_at (a : Nat) (h : a < 16384) : leAt words100 (8 * a) 8 = if a = 0x100 then 0x8040000000 else 0 := by
  unfold leAt words100
  rcases Nat.lt_trichotomy a 0x100 with h1 | h1 | h1
  · rw [if_neg (by omega), List.drop_append_of_le_length (by rw [List.length_replicate]; omega),
      List.take_append_of_le_length (by rw [List.length_drop, List.length_replicate]; omega), List.drop_replicate, List.take_replicate]
    exact ofLE_zeros _
  · subst h1
    rw [if_pos rfl, List.drop_append, List.drop_of_length_le (by rw [List.length_replicate]), List.length_replicate, List.nil_append,
      List.drop_zero, List.take_append_of_le_length (by decide)]
    decide
  · rw [if_neg (by omega), List.drop_append, List.drop_of_length_le (by rw [List.length_replicate]; omega), List.nil_append, List.drop_append,
      List.drop_of_length_le (by rw [List.length_replicate]; simp only [List.length_cons, List.length_nil]; omega), List.nil_append,
      List.drop_replicate, List.take_replicate]
    exact ofLE_zeros _
theorem head100_length : head100.length = 64 := by unfold head100; simp only [List.length_append, List.length_replicate]; rfl
theorem ucode100_drop : ucode100.drop 0x40 = words100 := by
  unfold ucode100
  rw [List.drop_append, List.drop_of_length_le (by rw [head100_length]), head100_length]; rfl
theorem ucode100_word (a : Nat) (h : a < 16384) : imgWord ucode100 a = if a = 0x100 then 0x8040000000 else 0 := by
  rw [← words100_at a h, ← ucode100_drop]
  unfold imgWord leAt
  rw [List.drop_drop]
theorem ofLE_leBytes4 (w : W32) : ofLE (leBytes 4 w.toNat) = w.toNat := by
  have := w.isLt
  simp [leBytes, ofLE]; omega
/-- The header's fields are those of the header alone. -/
theorem ucode100_head (o k : Nat) (h : o + k ≤ 64) : (ucode100.drop o).take k = (head100.drop o).take k := by
  unfold ucode100
  rw [List.drop_append_of_le_length (by rw [head100_length]; omega), List.take_append_of_le_length (by rw [List.length_drop, head100_length]; omega)]
/-- The image passes every check of R162. -/
theorem witness_ucode : ucodeOk ucode100 = true := by
  have all : (List.range 16384).all (fun a => decide (imgWord ucode100 a < 2 ^ 40) && parityBad (imgWord ucode100 a) == 0) = true := by
    rw [List.all_eq_true]; intro a ha
    rw [ucode100_word a (by simpa using ha)]
    split <;> decide
  unfold ucodeOk
  rw [ucode100_drop, all, ucode100_word 0x100 (by decide)]
  unfold leAt zeroAt
  rw [ucode100_head 0 4 (by decide), ucode100_head 4 2 (by decide), ucode100_head 6 2 (by decide), ucode100_head 12 4 (by decide),
    ucode100_head 20 44 (by decide), ucode100_head 16 4 (by decide)]
  have e : (head100.drop 16).take 4 = leBytes 4 (crc32 words100).toNat := rfl
  rw [e, ofLE_leBytes4]
  have z : (head100.drop 20).take 44 = List.replicate 44 0 := rfl
  rw [z]
  have e0 : (head100.drop 0).take 4 = leBytes 4 0x43555A44 := rfl
  have e4 : (head100.drop 4).take 2 = [1, 0] := rfl
  have e6 : (head100.drop 6).take 2 = [0, 0] := rfl
  have e12 : (head100.drop 12).take 4 = leBytes 4 16384 := rfl
  rw [e0, e4, e6, e12, beq_self_eq_true]
  decide
/-- The image stands in memory at 0. -/
theorem witness_ucode_load : (up.setMem 0 ucode100).mem 0 131136 = ucode100 := by
  have n : ucode100.length = 131136 := by
    unfold ucode100 words100
    simp only [List.length_append, head100_length, List.length_replicate, List.length_cons, List.length_nil]
  have h := State.mem_setMem_same up 0 ucode100 rfl
  rw [n] at h
  exact h
theorem witness_ucode_serve : up.serves iss0 ∧ up.badRam 0 8 131136 = false ∧ (∀ n ∈ clusterThreads 1, up.idle n = true) := by decide
/-- A program of one PI, a legal one, at 4096; and program 3 loaded. -/
def programmed : State := (up.setMem 4096 (leBytes 8 0x0400000000000000)).setProg 3 { count := 1, blocks := [9000] }
theorem witness_programs : programmed.serves iss0 ∧ programmed.badGddr 4096 8 8 = false ∧
    (∀ e ∈ splitEntries 8 1 (programmed.mem 4096 8), piOk 1 (BitVec.ofNat 64 (ofLE e)) = true) ∧ programmed.progUsed 4 = false ∧
    programmed.progFits 4 1 = true ∧ programmed.progUsed 3 = false ∧ (programmed.prog 3).count ≠ 0 ∧ piOk 1 0 = false ∧
    programmed.badRam 8192 8 256 = false := by decide +kernel
theorem test_csl_soft : (match exec (.seqCslSet iss0 3 2 1) ((up.setBox 0 { cqBase := 64, cqLog := 4, st := 1 }).putField SEQ_CSL_CFG_SRC 18 11) with
    | .next t => t.memNat (0x4000000000 + 64 * 256 + 8) 4 | _ => 9) = 2 := by decide +kernel

/-- Site 0 has channel 0 in a locked pod, and program 3 is loaded. -/
def armable : State := ((up.setProg 3 { count := 4, blocks := [9000] }).putBit TMG_CH_CFG_ASSIGNED 0 true).setReg .NTU_BEAT_STAT 0 0 0xFFFF0000
theorem witness_burst_start : armable.serves iss0 ∧ armable.upToRequests.serves iss0 ∧ (∀ c ∈ armable.upToRequests.startChecks 1 3 0 0 0 0, c.1 = false) ∧ maskList (1 : W32) 32 = [0] ∧
    (∃ c ∈ armable.upToRequests.startChecks 0 3 0 0 0 0, c.1 = true) := by decide +kernel
/-- A start of site 0 that is due in the present beat. -/
def startDue : State := { armable.modThr 0 (fun t => { t with st := 1 }) with hst := { armable.hst with deferred :=
  [{ iss := iss0, cmd := .seqBurstStart iss0 1 3 0 0 0 0, started := false, muted := false, taken := 0, due := 1000, data := [1, 0] }] } }
/-- The same start, the abort of whose one site is due. -/
def abortedStart : State := startDue.modThr 0 fun t => { t with abortAt := some (999, 7) }
theorem witness_start_beat : startDue.running = true ∧ startDue.hst.deferred.map (fun d => (d.due, d.data.getD 0 0, d.outcome.isNone)) = [(1000, 1, true)] ∧
    ((startDue.takeAborts (maskList (1 : W32) 32)).hst.deferred.map (fun d => d.outcome.isNone)) = [true] ∧
    ((abortedStart.takeAborts (maskList (1 : W32) 32)).hst.deferred.map (fun d => d.outcome.isSome)) = [true] ∧
    (startDue.thr 0).st = 1 ∧ ({ startDue with beat := { startDue.beat with lbc := 999 } } : State).beat.lbc < 1000 := by decide +kernel
theorem test_armed : (match exec (.seqBurstStart iss0 1 3 0 0 0 0) armable with | .next t => ((t.thr 0).st, (t.thr 0).startBeat, (t.thr 0).prog) | _ => (9, 0, 0)) =
    (1, 5000, 3) := by decide +kernel
/-- A start due in the present beat is taken before the stop that would cancel it; an earlier one is cancelled (R23, R159). -/
theorem test_cancel : (match exec (.seqBurstStop iss0 1 2) startDue with | .next t => (t.thr 0).st | _ => 9) = 2 ∧
    (match exec (.seqBurstStop iss0 1 2) { startDue with beat := { startDue.beat with lbc := 999 } } with | .next t => (t.thr 0).st | _ => 9) = 0 := by
  decide +kernel


/-- A microword with its parity bits. -/
def microword (op next operand : Nat) : Nat :=
  let v := op * 2 ^ 30 + next * 2 ^ 16 + operand
  v + 2 ^ 36 * listMask ((List.range 4).filter (fun g => parity (BitVec.ofNat 40 v) (9 * g + 8) (9 * g)))
/-- Thread 0 runs program 3 of four PIs and reads a word with a code, at address 0x105. -/
def atCode (op operand : Nat) (f : Thread → Thread) : State :=
  let s := (up.setProg 3 { count := 4, blocks := [9000] }).setMem (0x4000000000 + 9000 * 0x800) (leBytes 8 0x0701000000000002)
  { s.modThr 0 (fun t => f { t with st := 2, prog := 3, ua := 0x105, ib := [(0, 0x0701000000000002)], parked := false }) with seq := { (s.modThr 0 (fun t => f { t with st := 2, prog := 3, ua := 0x105, ib := [(0, 0x0701000000000002)], parked := false })).seq with
    ucode := s.seq.ucode.set (fun _ => 0x0FC0000000) 0x105 (microword op 0x123 operand) } }
theorem witness_micro : ∀ c ∈ [0x00, 0x01, 0x02, 0x10, 0x11, 0x12, 0x20, 0x21, 0x22, 0x23, 0x24, 0x25, 0x26, 0x27, 0x28, 0x29, 0x2A, 0x2B, 0x2C, 0x2D, 0x2E],
    (atCode c 0 id).atOp 0 c := by decide +kernel
theorem witness_micro_stacks : (((atCode 0x10 0 fun t => { t with ls := [(2, 0)] }).thr 0).ls = [(2, 0)]) ∧
    (((atCode 0x10 0 id).thr 0).ls = []) ∧ (((atCode 0x21 0 fun t => { t with ls := List.replicate 16 (0, 1) }).thr 0).ls.length = 16) ∧
    (((atCode 0x24 0 fun t => { t with cs := List.replicate 16 0 }).thr 0).cs.length = 16) ∧
    ((atCode 0x01 0 fun t => { t with pc := 4 }).prog 3).count ≤ 4 ∧ ((atCode 0x01 0 fun t => { t with refill := some 999 }).thr 0).refill = some 999 ∧ (((atCode 0x01 0 fun t => { t with pc := 2 }).thr 0).ib.all (fun e => e.1 != 2)) = true ∧
    (atCode 0x00 0 fun t => { t with parked := true }).reads 0 = false := by decide +kernel
theorem test_fetch : (match exec (.fetch 0) (atCode 0x01 0 id) with | .next t => ((t.thr 0).ua, (t.thr 0).pc, bits (t.thr 0).ir 15 0) | _ => (0, 0, 0)) =
    (7, 1, 2) := by decide +kernel
theorem test_ls_decb : (match exec (.lsDecb 0) (atCode 0x10 0x40 fun t => { t with ls := [(2, 5)] }) with
    | .next t => ((t.thr 0).ua, (t.thr 0).ls) | _ => (0, [])) = (0x123, [(2, 4)]) := by decide +kernel

theorem witness_items : (atCode 0x20 0 id).atOp 0 0x20 ∧ (atCode 0x2A 0 id).freePad 0 = some 0 ∧
    (itemOfPi (setBits ((atCode 0x20 0 id).thr 0).ir 63 56 (pushOp 0)) ((atCode 0x20 0 id).grs 0) 0 0 0).isSome = true ∧
    (itemOfPi (setBits (0x0010000000000000 : W64) 63 56 (pushOp 1)) ((atCode 0x20 1 id).grs 0) 0 0 0).isNone = true ∧
    ((atCode 0x3F 0 id).clusterReads 0).any (fun c => c.2.2.2) = true ∧ (atCode 0x3F 0 id).reads 0 = true ∧
    (atCode 0x28 0 id).atOp 0 0x28 ∧ (atCode 0x28 0 fun t => { t with parked := true }).reads 0 = false := by decide +kernel
/-- A word of bad parity: P0 of a NOP set. -/
def damaged : State := { atCode 0 0 id with seq := { (atCode 0 0 id).seq with ucode := [(0x105, 2 ^ 36)] } }
theorem witness_damaged : (damaged.clusterReads 0).any (fun c => c.2.2.1 != 0) = true ∧ damaged.running = true ∧ damaged.reads 0 = true ∧
    ((atCode 0x3F 0 id).clusterReads 0).any (fun c => c.2.2.1 != 0) = false := by decide +kernel
theorem test_machine_check : (match exec (.nop 0) damaged with | .next t => t.hsk.lines.map (fun f => (f.2.code, f.2.detail)) | _ => []) =
    [(0x0101, 0x10000105)] := by decide +kernel
theorem test_gr_add : (match exec (.grAdd 0) (atCode 0x29 0 fun t => { t with ir := 0x00020000FFFFFFFF }) with
    | .next t => t.gr 0 2 | _ => 0) = 0xFFFFFFFF := by decide +kernel


/-- A PLAY item of segment 9 that was pushed before the beat. -/
def play9 : Item := ⟨1, .play, 9, 0, 1, 0, 0, false, 0, 0, 0, none, none, 0⟩
/-- A pass through a segment of one channel and one row, which is held and names timing set 5. -/
def pass9 : Pass := ⟨1, 1, 9, [0, 0, 0, 0, 0, 0, 0, 0, 8, 0, 1, 1] ++ List.replicate 20 0, 0, 0, 0, false, false, true, 0, false, false, [], 1,
  [(0, [0, 0, 0, 5, 1, 0, 0, 0] ++ List.replicate 120 0)], 0, 0, none, none⟩
/-- Thread 0 plays it: its next start lies 0.9 ns into the beat, and its period is 1 ns. -/
def playing : State := loaded1.modThr 0 fun t => { t with
  st := 2, queue := [play9], stream := [pass9], began := some 999, next := 1000 * 1250000 + 900000, nextVn := 7, lastPeriod := 1000000 }
theorem witness_vector : playing.running = true ∧ playing.issuing 0 = true ∧ (playing.thr 0).abortAt = none ∧ (playing.thr 0).taken = none ∧
    (playing.thr 0).atEnds = [] ∧ (playing.thr 0).stopAt = none ∧ (playing.thr 0).blocked = false ∧ playing.memberOf 0 = none ∧
    playing.headItem 0 = some play9 ∧ (playing.thr 0).passOf play9 = some pass9 ∧
    (pass9.rowBytes 0).isSome = true ∧ playing.sparseBad pass9.entry 0 = none ∧ (playing.thr 0).stopNext = none ∧ entCrcEn pass9.entry = false ∧
    (playing.thr 0).next < 1001 * beatFs ∧ entFixed pass9.entry = false ∧
    1001 * beatFs ≤ (playing.thr 0).next + imgPeriod (playing.tset 0 5) := by decide +kernel
/-- R77: the second vector start is the first plus the period. -/
theorem test_grid : (match exec (.vectorIssue 0) playing with
    | .next t => ((t.thr 0).next, (t.thr 0).nextVn, (t.thr 0).pipe.map (fun v => (v.start, v.vn, v.row))) | _ => (0, 0, [])) =
    (1251900000, 8, [(1250900000, 7, 0)]) := by decide +kernel
/-- A vector of timing set 6, issued three beats ago with period 0 and not scheduled. -/
def emptyVec : Vec := {
  no := 1, start := 0, period := 0, issued := 997, vn := 3, counts := true, seg := 9, row := 0, pass := 0, tset := 6, fixed := false, dirMask := 0
  syms := [7], scheduled := false, taken := false, todo := [], fails := [], invalid := [], compared := [], lastBeat := 0, samples := [], chs := [0] }
theorem witness_empty_set : (playing.modThr 0 fun t => { t with pipe := [emptyVec] }).issuing 0 = true ∧
    ((playing.modThr 0 fun t => { t with pipe := [emptyVec] }).thr 0).pipe.find? (fun v => v.period == 0 && decide (v.issued + 2 ≤ 1000)) =
      some emptyVec := by decide +kernel
theorem witness_abort : ((playing.modThr 0 fun t => { t with abortAt := some (1000, 2) }).thr 0).abortAt = some (1000, 2) ∧
    ((playing.modThr 0 fun t => { t with abortAt := some (1001, 2) }).thr 0).abortAt = some (1001, 2) := by decide +kernel
theorem test_abort : (match exec (.siteAbort 0) (playing.modThr 0 fun t => { t with abortAt := some (1000, 2) }) with
    | .next t => ((t.thr 0).st, t.fieldOf SEQ_THR_END_REASON 0, (t.pip 0).quietAt, (t.pip 0).cutAt) | _ => (0, 0, none, none)) =
    (6, 2, some 1251900000, some 1251250000) := by
  decide +kernel
theorem witness_quiet : ((playing.modPip 0 fun p => { p with quietAt := some 1251249999 }).pip 0).quietAt = some 1251249999 ∧ playing.now + beatFs = 1251250000 ∧
    ((playing.setMark 3 { on := true, ends := some 8007 }).mark 3).ends = some 8007 ∧
    ((playing.setMark 3 { on := true, ends := some 8008 }).mark 3).ends = some 8008 := by decide +kernel

/-- Thread 0 streams, with a granule asked for in beat 700, a pad armed on slot 2 whose item is over, one taken early, and a
timeout pad. -/
def streaming : State := playing.modThr 0 fun t => { t with
  window := 8, stream := [{ pass9 with ask := 0, data := [] }], flight := [⟨1, 0, 0, 700⟩], pMin := 1000000
  pads := [(0, { armed := true, slot := 2, live := some ⟨0, 0, 0, some (0, 900, 0)⟩ }),
    (1, { feed := [pass9] }), (3, { feed := [pass9], rows := [pass9] }), (2, { armed := true, timeout := true })] }
/-- Thread 0 waits on segment 9, of whose rows 64 beats are asked for at P_min, and plays segment 9 again behind that. -/
def pass10 : Pass := { pass9 with no := 2, item := 2, ask := 0, data := [] }
def waitingBehind : State := playing.modThr 0 fun t => { t with
  window := 8, pMin := 64 * beatFs, queue := [{ play9 with kind := .wait }, { play9 with id := 2 }], stream := [pass9, pass10] }
theorem witness_stream : streaming.sharers 0 = [0] ∧ 1 ≤ (streaming.thr 0).st ∧ (streaming.thr 0).st ≤ 4 ∧ 0 ≤ streaming.allowance 0 ∧
    (streaming.thr 0).granules < 16 * (streaming.thr 0).window ∧ streaming.leadAhead 0 < 512 ∧ (streaming.thr 0).asked false < 64 * beatFs ∧
    (streaming.thr 0).wants false = some { pass9 with ask := 0, data := [] } ∧ (streaming.thr 0).flight = [⟨1, 0, 0, 700⟩] ∧
    (waitingBehind.thr 0).wants true = some pass10 ∧ ¬ (waitingBehind.thr 0).asked false < 64 * beatFs ∧
    (waitingBehind.thr 0).waiting < 16 * ((waitingBehind.thr 0).window - (waitingBehind.thr 0).winExtra) ∧
    (waitingBehind.thr 0).asked true < 512 * beatFs := by decide +kernel
theorem witness_stream_others : ((playing.thr 0).granules < 16 * (playing.thr 0).window) = False ∧ (playing.thr 0).flight = [] ∧
    playing.sharers 0 = [0] := by
  refine ⟨eq_false (by decide +kernel), by decide +kernel, by decide +kernel⟩
theorem witness_pads : (streaming.pad 0 0).ready = false ∧ (streaming.pad 0 0).armed = true ∧ (streaming.pad 0 0).feed = [] ∧
    (streaming.pad 0 1).feed = [pass9] ∧ (streaming.pad 0 1).rows = [] ∧ (streaming.pad 0 3).feed = (streaming.pad 0 3).rows ∧
    pass9.sameFill pass9 = true ∧ (streaming.pad 0 3).feed.length = 1 ∧ (streaming.pad 0 3).ready = false ∧ (streaming.pad 0 1).ready = false ∧ (streaming.pad 0 5).armed = false ∧
    (streaming.pad 0 2).timeout = true ∧ (streaming.slot 0 2).beat = none ∧ streaming.padWaits 0 (streaming.pad 0 0) = false ∧
    (streaming.pad 0 0).live.bind Live.last = some (0, 900, 0) := by decide +kernel
theorem test_arrive : (match exec (.streamGranuleArrive 0) streaming with
    | .next t => ((t.thr 0).flight.length, (t.thr 0).stream.map (fun p => p.data.length)) | _ => (9, [])) = (0, [1]) := by decide +kernel

/-- Thread 0 has a vector with a strobe for L on channel 0, judged at beat 1000. -/
def judging : State := (((playing.putBit TMG_CH_STAT_CPH_UNRES 0 false).putBit TMG_CH_STAT_CPL_UNRES 0 false).modPip 0 fun p => { p with strobes := [⟨0, 1, 0, 4, 1250000001, 1250000001, false, false, 1235000001, 980⟩] }).modThr 0
  fun t => { t with pipe := [{ emptyVec with todo := [0], compared := [0], scheduled := true, period := 1000000 }] }
theorem witness_strobe : (judging.pip 0).strobes.length = 1 ∧ judging.running = true ∧
    ((judging.thr 0).pipe.find? (fun v => v.no == 1)).isSome = true ∧ (playing.pip 0).strobes = [] ∧
    beatOf (realised 1250000001) = 1000 ∧ beatOf (realised 1249999000) = 999 := by decide +kernel
/-- R84: L fails on high, and the vector fails on channel 0. -/
theorem test_compare : (match exec (.compareResult 0 true true 0) judging with
    | .next t => (t.thr 0).pipe.map (fun v => (v.fails, v.todo)) | _ => []) = [([0], [])] ∧
    (match exec (.compareResult 0 false false 0) judging with | .next t => (t.thr 0).pipe.map (fun v => (v.fails, v.todo)) | _ => []) =
      [([], [])] := by decide +kernel
/-- Thread 0 with a happening of slot 2 due, slot 3 set in the beat before, and pad 4 armed on slot 3 for PI 9, live since beat 900. -/
def deciding (f : Thread → Thread) : State := (playing.modThr 0 fun t => f { t with
  haps := [⟨2, 1000, none⟩], pads := [(4, { armed := true, slot := 3, target := 9, live := some ⟨0, 900, 0, none⟩ })] }).setSlot 0 3
  { beat := some 999, of_ := [none] }
theorem witness_slots : (deciding id).hapsDue 0 2 = [⟨2, 1000, none⟩] ∧ (deciding id).hapsDue 0 3 = [] := by decide +kernel
theorem witness_decision : (deciding id).oldestPad 0 [4] = some 4 ∧ (deciding id).armedPads 0 = [4] ∧ ((deciding id).padValue 0 4).1 = true ∧
    ((deciding fun t => { t with haps := [⟨16, 999, none⟩], sof := 1 }).thr 0).sof = 1 ∧
    ((deciding fun t => { t with haps := [⟨16, 999, none⟩], sof := 1 }).thr 0).haps.find? (fun h => h.slot == 16 && decide (h.beat + 1 ≤ 1000)) =
      some ⟨16, 999, none⟩ ∧
    (deciding fun t => { t with pads := [(4, { armed := true, atEnd := true, slot := 3, live := some ⟨0, 900, 0, none⟩ })] }).oldestPad 0 [] = none ∧
    ((deciding fun t => { t with pads := [(4, { armed := true, atEnd := true, slot := 3, live := some ⟨0, 900, 0, none⟩ })] }).padValue 0 4).1 = true := by
  decide +kernel
theorem test_decision : (match exec (.branchDecision 0) (deciding id) with
    | .next t => ((t.thr 0).taken, (t.thr 0).pc, t.armedPads 0) | _ => (none, 0, [])) = (some (4, 1001), 10, []) := by decide +kernel
/-- Thread 0 waits on slot 3 since beat 0, with limit 1 and timeout pad 4. -/
def waitingOn (f : Thread → Thread) : State := deciding fun t => f { t with
  queue := [{ play9 with kind := .wait, slot := 3, limit := 1, timeoutPad := some 4 }], began := some 0, pads := [(4, { armed := true, timeout := true })] }
theorem witness_wait : ((waitingOn id).thr 0).waitEnd = none ∧ ((waitingOn id).slotValue 0 3 false ((waitingOn id).thr 0).itemLive 999).1 = true ∧
    (((waitingOn fun t => { t with began := none }).decideBeat 0).thr 0).waitEnd = none ∧
    ((waitingOn id).thr 0).expires { play9 with limit := 1 } = some 1024 ∧
    ((deciding fun t => { t with taken := some (4, 1000) }).thr 0).taken = some (4, 1000) := by decide +kernel
theorem test_wait_ends : (match exec (.branchDecision 0) (waitingOn id) with | .next t => (t.thr 0).waitEnd | _ => none) = some 1001 := by
  decide +kernel
/-- A WAIT on slot 5, which nothing sets, 1,023 beats after it began. -/
def overdue : State := let s := waitingOn (fun t => { t with queue := t.queue.map (fun i => { i with slot := 5 }) }); { s with beat := { s.beat with lbc := 1023 } }
theorem witness_wait_timeout : (overdue.decideBeat 0).undecided 0 = true ∧
    (overdue.headItem 0).map Item.kind = some .wait ∧ overdue.issuing 0 = true ∧
    (match exec (.waitTimeout 0) overdue with | .next t => (t.thr 0).taken | _ => none) = some (4, 1024) := by decide +kernel

/-- Threads 0 and 1 wait at the JOIN of PI 12 since beats 990 and `a`, in group 3. -/
def joining (a : Option Nat) : State := let w : Thread → Thread := fun t => { t with
    st := 3, queue := [{ play9 with kind := .join, pi := 12, limit := 1 }], began := some 0, arrived := some 990 }
  let s := ((playing.modThr 0 w).modThr 1 fun t => { w t with arrived := a }).modGroup 3 fun _ => { members := [0, 1], splits := [1] }
  { s with beat := { s.beat with lbc := 1030 } }
theorem witness_join : ((joining (some 1028)).joined 3 12).length = 2 ∧ (joining none).joined 3 12 = [0] ∧ (joining none).memberOf 0 = some 3 ∧
    ((joining none).headItem 0).map Item.kind = some .join ∧ ((joining none).thr 0).expires { play9 with limit := 1 } = some 1024 ∧
    (joining none).issuing 0 = true ∧ ((joining none).group 3).members.head? = some 0 := by decide +kernel
theorem test_join : (match exec (.joinRelease 3) (joining (some 1028)) with
    | .next t => ((t.thr 0).next, (t.thr 1).next, (t.group 3).splits) | _ => (0, 0, [])) = (1287500000, 1287500000, []) ∧
    (match exec (.joinTimeout 0) (joining none) with | .next t => (t.group 3).members | _ => []) = [0] := by decide +kernel
/-- Thread 0 is the member site of span 1 of one member with L_span 40, and issues its SPANSYNC of PI 6 in burst beat `a`. -/
def spanning (a : Nat) (flag : Nat) : State := let s := (((joining none).modThr 0 fun t => { t with
    queue := [{ play9 with kind := .spansync, pi := 6, limit := 1, timeoutPad := some 2 }] }).putBit SEQ_SPAN_CFG_EN 0 true).putField SEQ_SPAN_LAT_L_SPAN 0 40
  s.withSeq fun q => { q with span := { heard := [⟨0, a, 0, flag, 6, []⟩] } }
theorem witness_span : (spanning 900 1).spanSite = some 0 ∧ (spanning 900 1).spanRelease 6 = some 942 ∧ (spanning 1000 1).spanRelease 6 = some 1042 ∧
    (spanning 900 1).burstBeat 0 = 1030 ∧ (spanning 900 2).spanExpiry 6 = some 942 ∧ (spanning 900 2).spanRelease 6 = none ∧
    (spanning 900 1).spanExpiry 6 = none ∧ (spanning 900 2).seq.span.sentAt = 0 ∧ (joining none).spanSite = none ∧
    (spanning 900 1).issuing 0 = true ∧ (spanning 900 1).fieldOf KLK_MOD_ID_ID 0 = 0 ∧ (spanning 900 1).lSpan = 40 := by decide +kernel
theorem test_span_late : (match exec (.spanLinkLate 5) (spanning 900 1) with | .next t => t.hsk.lines.map (fun f => (f.2.code, f.2.detail)) | _ => []) =
    [(0x010A, 5)] := by decide +kernel


theorem witness_aq : up.serves iss0 ∧ (∀ a ∈ maskList (3 : W16) 16, (up.aq a).st = 0) ∧ (up.aqBlocks 0 + up.aqBlocks 1 = 2) ∧
    up.mayTake 2 2 = true ∧ up.badRam 4096 8 32 = false ∧ (up.txnOf 0).isNone = true ∧ maskBad (up.mem 4096 8) 1 = none ∧
    maskBad ((up.setMem 4096 [1]).mem 4096 8) 1 = some 0 := by decide +kernel
/-- Unit 1 DONE with one complete slot. -/
def captured : State := up.modAq 1 fun u => { u with st := 5, slots := [(0, { n := 512, samples := 512, complete := true, trig := some 3 })], blocks := [9000] }
theorem witness_aq_read : (captured.aqSlot 1 0).complete = true ∧ captured.badRam 4096 8 (32 + 4 * 512) = false ∧
    (captured.aqSlot 1 1).complete = false ∧ (captured.aq 1).st = 5 := by decide +kernel
theorem test_aq_arm : (match exec (.capAqArm iss0 3) (up.setBox 0 { cqBase := 64, cqLog := 4, st := 1 }) with
    | .next t => ((t.aq 0).st, (t.aq 1).st, (t.aq 0).blocks.length, t.memNat (0x4000000000 + 64 * 256 + 8) 4) | _ => (9, 9, 9, 9)) =
    (2, 2, 1, 3) := by decide +kernel

/-- Unit 0 is READY on site 0 since beat 0 with a slot of one block that holds `n` samples, and one vector of the site has a
capture sample of channel 0. -/
def acquiring (n : Nat) : State := (loaded1.modThr 0 fun t => { t with
    pipe := [{ emptyVec with syms := [8], scheduled := true, caps := [0], samples := [(0, some (true, true))], strobeEnds := [(0, 990)], lastBeat := 990 }] }).modAq 0
  fun u => { u with st := 2, blocks := [9000], slots := [(0, { n := n })], held := List.replicate n ⟨0, 1, 0, 0, 0, false⟩ }
theorem witness_sample : ((acquiring 0).aq 0).st = 2 ∧ (acquiring 0).bitOf CAP_AQ_SRC_TYPE 0 = false ∧
    (((acquiring 0).thr 0).pipe.find? (fun v => decide (0 < v.no) && v.counts)).isSome = true ∧ (((acquiring 0).thr 0).pipe.filter (fun v => (acquiring 0).owesSample 0 v && v.sampleDue 0 1000)).map (fun v => v.sampleBeat 0) = [992] ∧
    (((acquiring 0).thr 0).pipe.filter (fun v => (acquiring 0).owesSample 0 v && v.sampleDue 0 991)).length = 0 ∧ (acquiring 0).fieldOf CAP_AQ_SRC_WIN 0 = 0 ∧
    ((acquiring 0).thr 0).overNo = 0 ∧ (acquiring 0).fieldOf CAP_AQ_CFG_AVG_K 0 = 0 ∧ (acquiring 0).meas.lost = false ∧
    (acquiring 0).running = true ∧ (acquiring 0).fieldOf CAP_AQ_SRC_SITE 0 = 0 ∧ (up.aq 0).st = 0 := by decide +kernel
/-- R241: the channel read high and carried C, so bits 16 and 0 are set. -/
theorem test_sample : (match exec (.captureSample 0) (acquiring 0) with | .next t => (t.aq 0).input.map Sample.value | _ => []) = [65537] := by
  decide +kernel
theorem test_stored : (match exec (.aqSample 0) ((acquiring 3).modAq 0 fun u => { u with input := [⟨-2, 5, 5, 5, 0, false⟩] }) with
    | .next t => (t.memNat (0x4000000000 + 9000 * 0x800 + 12) 4, (t.aq 0).cur.n) | _ => (0, 0)) = (0xFFFFFFFE, 4) := by decide +kernel
theorem witness_monitor : ((acquiring 3).putBit CAP_AQ_CFG_CLASS 0 true).bitOf CAP_AQ_CFG_CLASS 0 = true ∧
    ((acquiring 3).aq 0).readySince + (acquiring 3).fieldOf CAP_AQ_TMO_TIMEOUT 0 ≤ 1000 ∧ ((acquiring 3).aq 0).cur.n = 3 ∧
    ((acquiring 0).aq 0).cur.n = 0 ∧ (((acquiring 3).putField CAP_AQ_CFG_AVG_K 0 2).fieldOf CAP_AQ_CFG_AVG_K 0 = 2) := by decide +kernel
theorem witness_holdoff : (((acquiring 3).modAq 0 fun u => { u with st := 4, since := 990 }).aq 0).st = 4 ∧
    (acquiring 3).fieldOf CAP_AQ_HOLD_HOLD 0 = 0 ∧ (acquiring 3).bitOf CAP_AQ_CFG_HOLD_EV 0 = false ∧ up.cap.ti.getD 3 false = false ∧
    ((((up.withCap fun c => { c with tos := [(2, { on := true, ends := some 8007 })] })).cap.tos.get (fun _ => ({ } : Mk)) 2).ends = some 8007) := by
  decide +kernel
theorem test_ti : (match exec (.tiEdge 3 true 1) (up.putField CAP_AQ_TRIG_SRC 0 3 |>.putField CAP_AQ_TRIG_ARG 0 3 |>.modAq 0 fun u => { u with st := 2 }) with
    | .next t => (t.cap.ti.getD 3 false, (t.aq 0).trigs) | _ => (false, [])) = (true, [1000 * 1250000 + 156250]) := by decide +kernel

/-- Site 0 has a vector that failed on channel 0 in beat 990, POLICY ALL, and an open record since beat `b`. -/
def failing (b : Nat) : State := let s := ((acquiring 0).modThr 0 fun t => { t with
    pipe := [{ emptyVec with scheduled := true, todo := [], compared := [0], fails := [0], bitsDue := [(0, 990)], lastBeat := 990 }] }).putField CAP_FLOG_CFG_POLICY 0 0
  { s.modLog 0 (fun l => { l with unflushed := true, record := if b = 0 then none else some ⟨1, 9, 0, 0, 0, [0], false, false, 1, b⟩ }) with beat := { s.beat with lbc := 2000 } }
theorem witness_fail : ((failing 0).thr 0).pipe.find? (fun v => !v.taken) = some { emptyVec with scheduled := true, todo := [], compared := [0], fails := [0], bitsDue := [(0, 990)], lastBeat := 990 } ∧
    (((failing 0).thr 0).pipe.map Vec.no).Nodup ∧ ((failing 0).failLog 0).firstNo = none ∧
    (failing 0).bitOf CAP_FIRST_VN_VALID 0 = false ∧ (failing 0).fieldOf CAP_FLOG_CFG_POLICY 0 = 0 ∧ ((failing 0).failLog 0).record = none := by
  decide +kernel
theorem test_fail : (match exec (.failBitCapture 0) (failing 0) with
    | .next t => (t.reg64 .CAP_FAIL_VEC 0, t.reg64 .CAP_FIRST_VN 0, t.fieldOf CAP_CH_FCNT_COUNT 0) | _ => (0, 0, 0)) =
    (1, 0x8000000000000003, 1) := by decide +kernel
theorem witness_record : ((failing 976).failLog 0).record.map OpenRec.last = some 976 ∧ ((failing 976).failLog 0).waiting = 0 ∧
    (failing 976).bitOf CAP_FLOG_CFG_WRAP 0 = false ∧ (failing 976).logRegion 0 = 128 ∧
    (((failing 976).modLog 0 fun l => { l with total := 120 }).failLog 0).total = 120 ∧
    (((failing 976).modLog 0 fun l => { l with staged := [⟨List.replicate 8190 0, 1, 0, false⟩] }).failLog 0).waiting = 8190 := by decide +kernel
theorem test_record : (match exec (.failRecordTimeout 0) (failing 976) with
    | .next t => (t.reg64 .CAP_FLOG_WP 0, (t.failLog 0).staged.map (fun x => (x.bytes.take 8, x.bytes.length))) | _ => (0, [])) =
    (24, [([1, 0, 0, 0, 0, 0, 9, 0], 24)]) := by decide +kernel
theorem witness_flush : (((failing 976).modThr 0 fun t => { t with st := 5, pipe := [] }).thr 0).st = 5 ∧
    ((failing 976).failLog 0).unflushed = true ∧ ((failing 976).modThr 0 fun t => { t with st := 5, pipe := [] }).issuing 0 = false ∧ ((failing 1500).failLog 0).record.map OpenRec.last = some 1500 := by decide +kernel
theorem test_flush : (match exec (.failLogFlush 0) ((failing 976).modThr 0 fun t => { t with st := 5, pipe := [] }) with
    | .next t => (t.memNat 8 4, t.memNat 6 2, t.bitOf CAP_FLOG_STAT_FLUSHED 0) | _ => (1, 1, false)) = (0, 9, true) := by decide +kernel



end Sys2Proof.Tests
end

section
/-! PROOFS. How firmware judges a command: what an accepted command runs, and what a refused one answers. -/

namespace Sys2Proof.Machine

/-- Checks none of which fails refuse nothing (R57). -/
theorem lowest_eq_none {l : List (Bool × Nat)} (h : ∀ p ∈ l, p.1 = false) : lowest l = none := by
  induction l with
  | nil => rfl
  | cons p l ih =>
    have hl := ih fun q hq => h q (List.mem_cons_of_mem _ hq)
    have hp : p.1 = false := h p List.mem_cons_self
    simp [lowest, hl, hp]

/-- Checks that fail with one status alone refuse with it (R57). -/
theorem lowest_eq_some {l : List (Bool × Nat)} {st : Nat} (hs : ∃ p ∈ l, p.1 = true) (h : ∀ p ∈ l, p.1 = true → p.2 = st) :
    lowest l = some st := by
  induction l with
  | nil => obtain ⟨p, hp, _⟩ := hs; exact absurd hp List.not_mem_nil
  | cons p l ih =>
    obtain ⟨c, x⟩ := p
    have hx : c = true → x = st := h (c, x) List.mem_cons_self
    by_cases hl : ∃ q ∈ l, q.1 = true
    · have := ih hl fun q hq => h q (List.mem_cons_of_mem _ hq)
      cases c <;> simp_all [lowest]
    · have hn : lowest l = none := lowest_eq_none fun q hq => by
        by_contra e
        exact hl ⟨q, hq, by simpa using e⟩
      have hc : c = true := by
        obtain ⟨q, hq, hq1⟩ := hs
        rcases List.mem_cons.1 hq with rfl | hq
        · exact hq1
        · exact absurd ⟨q, hq, hq1⟩ hl
      simp [lowest, hn, hc, hx hc]

/-- The state gates are open to a command that is served. -/
theorem State.gate_of_serves {s : State} {iss : Issuer} (h : s.serves iss) (code : Nat) : s.gate code = none := by
  obtain ⟨_, hready, hagreed, _⟩ := h
  have hf : s.faultStop = false := by
    simp only [State.ready, beq_iff_eq] at hready
    simp [State.faultStop, hready]
  simp [State.gate, hf, hagreed]

/-- A served command is judged by its own checks alone. -/
theorem State.judge_of_serves {s : State} {iss : Issuer} (h : s.serves iss) (code : Nat) (checks : List (Bool × Nat)) :
    s.judge code true (issuerCheck iss :: checks) = lowest checks := by
  have hg := State.gate_of_serves h code
  obtain ⟨_, _, _, hres⟩ := h
  simp only [State.judge, hg, lowest, issuerCheck, hres]
  cases lowest checks <;> rfl

/-- A served command that its checks refuse answers their status. -/
theorem State.command_refuses {s : State} {iss : Issuer} (h : s.serves iss) {code : Nat} {checks : List (Bool × Nat)} {run : State → State}
    {st : Nat} (hc : lowest checks = some st) : s.command iss code true checks run = s.complete iss st [] := by
  have hj := State.judge_of_serves h code checks
  obtain ⟨htake, _⟩ := h
  simp only [State.command, htake, hj, hc, if_true]

/-- A served command none of whose checks fails runs. -/
theorem State.command_runs {s : State} {iss : Issuer} (h : s.serves iss) {code : Nat} {checks : List (Bool × Nat)} {run : State → State}
    (hc : ∀ p ∈ checks, p.1 = false) : s.command iss code true checks run = run s := by
  have hj := State.judge_of_serves h code checks
  obtain ⟨htake, _⟩ := h
  simp only [State.command, htake, hj, lowest_eq_none hc, if_true]

end Sys2Proof.Machine
end

section
/-! PROOFS. The window, the register commands and the snapshot of the ledger (R43, R60, R65, R67, R210). -/

namespace Sys2Proof.Machine

/-- A register that a transaction alone or firmware alone writes is refused with WRONG_STATE, and with nothing lower. -/
theorem State.writeChecks_wrongState (s : State) {r : Reg} (v m : W32) (h : r.stem.info.txn = true ∨ r.stem.info.fwOnly = true) :
    ∀ p ∈ s.writeChecks 0 r v m, p.2 = Status.wrongState := by
  unfold State.writeChecks
  intro p hp
  dsimp only at hp
  split at hp
  · simp_all
  · next hfw =>
    have htxn : r.stem.info.txn = true := h.resolve_right hfw
    split at hp
    · next hst => rw [hst] at htxn; exact absurd htxn (by decide)
    · next hst => rw [hst] at htxn; exact absurd htxn (by decide)
    · simp_all
    · exact absurd hp List.not_mem_nil

/-- The stages of R57 for a served command that a transaction shadows are its own checks. -/
theorem lowest_shadowed {iss : Issuer} (hres : iss.reserved = false) (checks : List (Bool × Nat)) :
    lowest ((false, Status.badCommand) :: issuerCheck iss :: checks) = lowest checks := by
  simp only [lowest, issuerCheck, hres]
  cases lowest checks <;> rfl

/-- A command that a transaction shadows runs, served outside one, where none of its checks fails. -/
theorem State.shadowed_runs {s : State} {iss : Issuer} (h : s.serves iss) (ht : s.txnOf iss.mb.val = none) {code : Nat}
    {checks more : List (Bool × Nat)} {res : List Nat} {entry : Shadow} {live : State → State} (hc : lowest (checks ++ more) = none) :
    s.shadowed iss code true checks more [] res entry live = live s := by
  have hg := State.gate_of_serves h code
  obtain ⟨htake, _, _, hres⟩ := h
  have hl := (lowest_shadowed hres (checks ++ more)).trans hc
  simp only [State.shadowed, htake, hg, ht, List.cons_append, hl, Bool.not_true, Bool.false_eq_true, if_false]

/-- A command that a transaction shadows answers, served outside one, the status of its checks. -/
theorem State.shadowed_refuses {s : State} {iss : Issuer} (h : s.serves iss) (ht : s.txnOf iss.mb.val = none) {code : Nat}
    {checks more : List (Bool × Nat)} {res : List Nat} {entry : Shadow} {live : State → State} {st : Nat}
    (hc : lowest (checks ++ more) = some st) : s.shadowed iss code true checks more [] res entry live = s.complete iss st [] := by
  have hg := State.gate_of_serves h code
  obtain ⟨htake, _, _, hres⟩ := h
  have hl := (lowest_shadowed hres (checks ++ more)).trans hc
  simp only [State.shadowed, htake, hg, ht, List.cons_append, hl, Bool.not_true, Bool.false_eq_true, if_false, ite_self]

/-- A command that a transaction shadows, served in one that is open and not committing, with room for its entry. -/
theorem State.shadowed_entered {s : State} {iss : Issuer} {x : Txn} (h : s.serves iss) (ht : s.txnOf iss.mb.val = some x)
    (hr : x.rolled = false) (hp : x.pending = none) (code : Nat) {checks : List (Bool × Nat)} (hc : ∀ p ∈ checks, p.1 = false)
    (more : List (Bool × Nat)) (res : List Nat) {entry : Shadow} (hroom : shadowSize (addShadow x.entries entry) ≤ 4096) (live : State → State) :
    s.shadowed iss code true checks more [] res entry live =
      (s.modTxn iss.mb.val fun y => { y with entries := addShadow x.entries entry }).complete iss Status.ok res := by
  have hg := State.gate_of_serves h code
  obtain ⟨htake, _, _, hres⟩ := h
  have hl : lowest (checks ++ [(x.pending.isSome, Status.wrongState),
      (decide (4096 < shadowSize (addShadow x.entries entry)), Status.noResource)]) = none := by
    refine lowest_eq_none fun p hm => ?_
    simp only [List.mem_append, List.mem_cons, List.not_mem_nil, or_false] at hm
    rcases hm with hm | rfl | rfl
    · exact hc p hm
    · simp [hp]
    · simpa using hroom
  have hl := (lowest_shadowed hres _).trans hl
  simp only [State.shadowed, htake, hg, ht, hr, List.cons_append, hl, Bool.not_true, Bool.false_eq_true, if_false]

/-- HST_WIN_SET of a backed base begins a move of the window. -/
theorem exec_hstWinSet_ok {s : State} {iss : Issuer} (h : s.serves iss) {base : W64} (hw : s.windowOk base.toNat = true) :
    exec (.hstWinSet iss base) s = .next (s.endWinMove.withHst fun h => { h with winMove := some ⟨iss, base.toNat, false⟩ }) := by
  show done (s.command iss 0x0A10 true _ _) = _
  rw [State.command_runs h (by simp [hw])]
  rfl

/-- HST_REG_READ of an assigned word. -/
theorem exec_hstRegRead_assigned {s : State} {iss : Issuer} (h : s.serves iss) {a : W64} {r : Reg} (hr : regAt a.toNat = some r) :
    exec (.hstRegRead iss a) s = .next ((((s.beforeRead r).readReg .sesame r).2.complete iss Status.ok
      [((s.beforeRead r).readReg .sesame r).1.toNat])) := by
  show done (s.command iss 0x0A21 true _ _) = _
  rw [State.command_runs h (by simp [hr]), hr]
  rfl

/-- HST_REG_READ of a word that R477 does not assign. -/
theorem exec_hstRegRead_unassigned {s : State} {iss : Issuer} (h : s.serves iss) {a : W64} (hr : regAt a.toNat = none) :
    exec (.hstRegRead iss a) s = .next (s.complete iss Status.badArgument []) := by
  show done (s.command iss 0x0A21 true _ _) = _
  rw [State.command_refuses h (lowest_eq_some (st := Status.badArgument) (by simp [hr]) (by simp))]
  rfl

/-- HST_REG_WRITE outside a transaction of a register that its chapter lets it write. -/
theorem exec_hstRegWrite_writes {s : State} {iss : Issuer} (h : s.serves iss) (ht : s.txnOf iss.mb.val = none) {a : W64} {r : Reg}
    (hr : regAt a.toNat = some r) {v m : W32} (htxn : r.stem.info.txn = false) (hc : ∀ p ∈ s.writeChecks 0 r v m, p.1 = false) :
    exec (.hstRegWrite iss a v m) s = .next ((s.writeReg 0 r v m).complete iss Status.ok []) := by
  have hfw : r.stem.info.fwOnly = false := by
    by_contra e
    have := hc (true, Status.wrongState) (by simp [State.writeChecks, Bool.eq_true_of_not_eq_false e])
    exact absurd this (by decide)
  show execHstRegWrite iss a v m s = _
  unfold execHstRegWrite
  rw [hr]
  dsimp only
  rw [State.shadowed_runs h ht (lowest_eq_none (by simpa [hfw, htxn] using hc))]
  rfl

/-- HST_REG_WRITE outside a transaction of a register that a transaction alone or firmware alone writes. -/
theorem exec_hstRegWrite_refused {s : State} {iss : Issuer} (h : s.serves iss) (ht : s.txnOf iss.mb.val = none) {a : W64} {r : Reg}
    (hr : regAt a.toNat = some r) {v m : W32} (hw : r.stem.info.txn = true ∨ r.stem.info.fwOnly = true) :
    exec (.hstRegWrite iss a v m) s = .next (s.complete iss Status.wrongState []) := by
  have hl := State.writeChecks_wrongState s v m hw
  show execHstRegWrite iss a v m s = _
  unfold execHstRegWrite
  rw [hr]
  dsimp only
  rw [State.shadowed_refuses h ht (lowest_eq_some (st := Status.wrongState) ?_ ?_)]
  · rfl
  · rcases hw with hw | hw <;> simp [hw]
  · intro p hp hfails
    simp only [List.cons_append, List.nil_append, List.mem_cons] at hp
    rcases hp with rfl | rfl | rfl | hp
    · simp at hfails
    · rfl
    · rfl
    · exact hl p hp

/-- HST_REG_WRITE outside a transaction of a word that R477 does not assign. -/
theorem exec_hstRegWrite_unassigned {s : State} {iss : Issuer} (h : s.serves iss) (ht : s.txnOf iss.mb.val = none) {a : W64}
    (hr : regAt a.toNat = none) (v m : W32) : exec (.hstRegWrite iss a v m) s = .next (s.complete iss Status.badArgument []) := by
  show execHstRegWrite iss a v m s = _
  unfold execHstRegWrite
  rw [hr]
  dsimp only
  rw [State.shadowed_refuses h ht (st := Status.badArgument) rfl]
  rfl

/-- HST_REG_WRITE in an open transaction of a register that not only firmware writes. -/
theorem exec_hstRegWrite_shadowed {s : State} {iss : Issuer} {x : Txn} (h : s.serves iss) (ht : s.txnOf iss.mb.val = some x)
    (hr : x.rolled = false) (hp : x.pending = none) {a : W64} {r : Reg} (ha : regAt a.toNat = some r) (hfw : r.stem.info.fwOnly = false)
    {v m : W32} (hroom : shadowSize (addShadow x.entries (.reg (a.toNat - regBase) v m)) ≤ 4096) :
    exec (.hstRegWrite iss a v m) s = .next ((s.modTxn iss.mb.val fun y =>
      { y with entries := addShadow x.entries (.reg (a.toNat - regBase) v m) }).complete iss Status.ok []) := by
  show execHstRegWrite iss a v m s = _
  unfold execHstRegWrite
  rw [ha]
  dsimp only
  rw [State.shadowed_entered h ht hr hp _ (by simp [hfw]) _ _ hroom]
  rfl

/-- Two counts of 16 bits in one word (R210). -/
theorem fld_pair {a b : Nat} (ha : a < 0x10000) (hb : b < 0x10000) : fld 31 16 a + fld 15 0 b = a * 0x10000 + b := by
  unfold fld
  norm_num
  omega

/-- LEDGER_SNAP answers the ledger's counts and the LBC. -/
theorem exec_ledgerSnap_counts {s : State} {iss : Issuer} (h : s.serves iss) (hh : ∀ p < 7, s.hold p < 0x10000) (hf : s.freeBlocks < 0x10000) :
    exec (.ledgerSnap iss) s = .next (s.complete iss Status.ok [s.hold 0 * 0x10000 + s.freeBlocks, s.hold 2 * 0x10000 + s.hold 1,
      s.hold 4 * 0x10000 + s.hold 3, s.hold 6 * 0x10000 + s.hold 5, s.beat.lbc % 2 ^ 32, s.beat.lbc / 2 ^ 32 % 2 ^ 32]) := by
  show done (s.command iss 0x8040 true [] _) = _
  rw [State.command_runs h (by simp)]
  dsimp only
  rw [fld_pair (hh 0 (by omega)) hf, fld_pair (hh 2 (by omega)) (hh 1 (by omega)), fld_pair (hh 4 (by omega)) (hh 3 (by omega)),
    fld_pair (hh 6 (by omega)) (hh 5 (by omega))]
  rfl

/-- The end of a move of the window puts its base in force and posts OK. -/
theorem State.endWinMove_posts {s : State} {w : WinMove} (hw : s.hst.winMove = some w) (hm : w.muted = false) :
    s.endWinMove = (s.withHst fun h => { h with winBase := w.base, winMove := none }).complete w.iss Status.ok [] := by
  simp [State.endWinMove, hw, hm]

/-- Settles O9: each command by the law of its judgement, then by what it runs. -/
theorem windowAndRegistersServed : Obligations.WindowAndRegistersServed := by
  unfold Obligations.WindowAndRegistersServed
  refine ⟨fun _ _ _ h hw => exec_hstWinSet_ok h hw, fun _ _ hw hm => State.endWinMove_posts hw hm,
    fun _ _ _ _ h hr => exec_hstRegRead_assigned h hr, fun _ _ _ h hr => exec_hstRegRead_unassigned h hr,
    fun iss a v m r s h ht hr => ⟨fun htxn hc => exec_hstRegWrite_writes h ht hr htxn hc, fun hw => exec_hstRegWrite_refused h ht hr hw⟩,
    fun iss a v m s h ht hr => exec_hstRegWrite_unassigned h ht hr v m, ?_, fun _ _ h hh hf => exec_ledgerSnap_counts h hh hf⟩
  rintro iss a v m x s h ht hr hp ⟨r, ha, hfw⟩ hroom
  exact exec_hstRegWrite_shadowed h ht hr hp ha hfw hroom

end Sys2Proof.Machine
end


section
/-! PROOFS. The fields of a register after a write of a field, and what a footprint says of one part or field. -/

namespace Sys2Proof.Machine

/-! ### Footprints -/

theorem Kept.same {m : Nat} {r t : State} (h : Kept m r t) (p : Part) (hp : m.testBit p.ctorIdx = false) : r.same t p := by
  obtain ⟨_, _, _, hparts, _⟩ := h
  exact hparts p hp

theorem Kept.reg {m : Nat} {r t : State} (h : Kept m r t) (st : Stem) (hb : m.testBit (32 + st.ctorIdx) = false) (i w : Nat) :
    t.reg st i w = r.reg st i w := by
  obtain ⟨_, _, _, _, hregs⟩ := h
  exact hregs st i w hb

theorem Kept.fieldOf {m : Nat} {r t : State} (h : Kept m r t) (f : Field) (hb : m.testBit (32 + f.stem.ctorIdx) = false) (i : Nat) :
    t.fieldOf f i = r.fieldOf f i := by
  unfold State.fieldOf; rw [h.reg f.stem hb]

theorem Kept.bitOf {m : Nat} {r t : State} (h : Kept m r t) (f : Field) (hb : m.testBit (32 + f.stem.ctorIdx) = false) (i : Nat) :
    t.bitOf f i = r.bitOf f i := by
  unfold State.bitOf; rw [h.reg f.stem hb]

/-- A footprint without the beat count and without the beat generator leaves both. -/
theorem Kept.beat {m : Nat} {r t : State} (h : Kept m r t) (hl : m.testBit Part.lbc.ctorIdx = false) (hb : m.testBit Part.beat.ctorIdx = false) :
    t.beat = r.beat := by
  have e1 : t.beat.lbc = r.beat.lbc := h.same .lbc hl
  have e2 : { t.beat with lbc := 0 } = { r.beat with lbc := 0 } := h.same .beat hb
  calc t.beat = { ({ t.beat with lbc := 0 } : Beat) with lbc := t.beat.lbc } := rfl
    _ = { ({ r.beat with lbc := 0 } : Beat) with lbc := r.beat.lbc } := by rw [e2, e1]
    _ = r.beat := rfl

/-! ### Fields -/

theorem setBits_mod {n : Nat} (w : BitVec n) (hi lo v : Nat) : setBits w hi lo (v % 2 ^ (hi + 1 - lo)) = setBits w hi lo v := by
  unfold setBits fld; rw [Nat.mod_mod]

theorem State.putField_mod (s : State) (f : Field) (i v : Nat) : s.putField f i (v % 2 ^ (f.hi + 1 - f.lo)) = s.putField f i v := by
  unfold State.putField; rw [setBits_mod]

/-- Two fields of the register tables that share no bit: of different words, or of different bits. -/
def Field.apart (f g : Field) : Bool :=
  f.sound && g.sound && (f.stem != g.stem || f.word != g.word || decide (g.hi < f.lo) || decide (f.hi < g.lo))

/-- A field of one bit. -/
def Field.single (f : Field) : Bool := f.sound && f.hi == f.lo

/-- A field that was set reads as the value set, cut to its width. -/
theorem State.fieldOf_putField (s : State) (f : Field) (i v : Nat) (hf : f.sound = true) :
    (s.putField f i v).fieldOf f i = v % 2 ^ (f.hi + 1 - f.lo) := by
  rw [← State.putField_mod]
  exact State.fieldOf_putField_same s f i _ hf (Nat.mod_lt _ (Nat.two_pow_pos _))

theorem State.fieldOf_putField_apart (s : State) (f g : Field) (i j v : Nat) (h : f.apart g = true) :
    (s.putField f i v).fieldOf g j = s.fieldOf g j := by
  simp only [Field.apart, Bool.and_eq_true, Bool.or_eq_true, bne_iff_ne, decide_eq_true_eq] at h
  obtain ⟨⟨hf, hg⟩, h⟩ := h
  rw [← State.putField_mod]
  exact State.fieldOf_putField_other s f g i j _ hf hg (Nat.mod_lt _ (Nat.two_pow_pos _)) (by tauto)

/-- A field set at one index of its register leaves every field of another index. -/
theorem State.fieldOf_putField_index (s : State) (f g : Field) (i j v : Nat) (hf : f.sound = true) (hg : g.sound = true) (h : i ≠ j) :
    (s.putField f i v).fieldOf g j = s.fieldOf g j := by
  rw [← State.putField_mod]
  exact State.fieldOf_putField_other s f g i j _ hf hg (Nat.mod_lt _ (Nat.two_pow_pos _)) (Or.inl fun e => h e.2.1)

/-- A one-bit field is the number that its bit makes. -/
theorem State.bitOf_eq (s : State) (f : Field) (i : Nat) (h : f.single = true) : s.bitOf f i = decide (s.fieldOf f i = 1) := by
  simp only [Field.single, Bool.and_eq_true, beq_iff_eq] at h
  obtain ⟨_, h⟩ := h
  unfold State.bitOf State.fieldOf bits
  rw [h, Nat.add_sub_cancel_left, BitVec.getLsbD, Nat.testBit_eq_decide_div_mod_eq, Nat.pow_one]

theorem Field.sound_of_single {f : Field} (h : f.single = true) : f.sound = true := by
  simp only [Field.single, Bool.and_eq_true] at h
  exact h.1

theorem State.bitOf_putField_apart (s : State) (f g : Field) (i j v : Nat) (h : f.apart g = true) (hg : g.single = true) :
    (s.putField f i v).bitOf g j = s.bitOf g j := by
  rw [State.bitOf_eq _ g j hg, State.bitOf_eq _ g j hg, State.fieldOf_putField_apart s f g i j v h]

theorem State.fieldOf_putBit_apart (s : State) (f g : Field) (i j : Nat) (b : Bool) (h : f.apart g = true) :
    (s.putBit f i b).fieldOf g j = s.fieldOf g j := State.fieldOf_putField_apart s f g i j _ h

theorem State.bitOf_putBit_apart (s : State) (f g : Field) (i j : Nat) (b : Bool) (h : f.apart g = true) (hg : g.single = true) :
    (s.putBit f i b).bitOf g j = s.bitOf g j := State.bitOf_putField_apart s f g i j _ h hg

/-- A bit that was set reads as set. -/
theorem State.bitOf_putBit (s : State) (f : Field) (i : Nat) (b : Bool) (hf : f.single = true) : (s.putBit f i b).bitOf f i = b := by
  rw [State.bitOf_eq _ f i hf]
  unfold State.putBit
  rw [State.fieldOf_putField s f i _ (Field.sound_of_single hf)]
  simp only [Field.single, Bool.and_eq_true, beq_iff_eq] at hf
  rw [hf.2, Nat.add_sub_cancel_left]
  cases b <;> rfl

@[simp] theorem State.putField_beat (s : State) (f : Field) (i v : Nat) : (s.putField f i v).beat = s.beat := (rfl)
@[simp] theorem State.putField_hsk (s : State) (f : Field) (i v : Nat) : (s.putField f i v).hsk = s.hsk := (rfl)
@[simp] theorem State.putField_klk (s : State) (f : Field) (i v : Nat) : (s.putField f i v).klk = s.klk := (rfl)
@[simp] theorem State.putField_meas (s : State) (f : Field) (i v : Nat) : (s.putField f i v).meas = s.meas := (rfl)
@[simp] theorem State.putField_hst (s : State) (f : Field) (i v : Nat) : (s.putField f i v).hst = s.hst := (rfl)
@[simp] theorem State.putBit_beat (s : State) (f : Field) (i : Nat) (b : Bool) : (s.putBit f i b).beat = s.beat := (rfl)
@[simp] theorem State.putBit_hsk (s : State) (f : Field) (i : Nat) (b : Bool) : (s.putBit f i b).hsk = s.hsk := (rfl)
@[simp] theorem State.putBit_klk (s : State) (f : Field) (i : Nat) (b : Bool) : (s.putBit f i b).klk = s.klk := (rfl)
@[simp] theorem State.putBit_meas (s : State) (f : Field) (i : Nat) (b : Bool) : (s.putBit f i b).meas = s.meas := (rfl)
@[simp] theorem State.putBit_hst (s : State) (f : Field) (i : Nat) (b : Bool) : (s.putBit f i b).hst = s.hst := (rfl)

/-! ### Faults and events -/

@[simp] theorem State.fault_beat (s : State) (a c d e : Nat) (k : W32) : (s.fault a c d e k).beat = s.beat := (rfl)
@[simp] theorem State.fault_klk (s : State) (a c d e : Nat) (k : W32) : (s.fault a c d e k).klk = s.klk := (rfl)
@[simp] theorem State.fault_meas (s : State) (a c d e : Nat) (k : W32) : (s.fault a c d e k).meas = s.meas := (rfl)
@[simp] theorem State.fieldOf_fault (s : State) (a c d e : Nat) (k : W32) (f : Field) (i : Nat) : (s.fault a c d e k).fieldOf f i = s.fieldOf f i := (rfl)
@[simp] theorem State.bitOf_fault (s : State) (a c d e : Nat) (k : W32) (f : Field) (i : Nat) : (s.fault a c d e k).bitOf f i = s.bitOf f i := (rfl)

/-- A fault goes to the end of the error lines. -/
@[simp] theorem State.fault_lines (s : State) (a c d e : Nat) (k : W32) :
    (s.fault a c d e k).hsk.lines = s.hsk.lines ++ [s.faultLine a c d e k] := (rfl)

@[simp] theorem State.event_beat (s : State) (e : Nat) : (s.event e).beat = s.beat := (rfl)
@[simp] theorem State.event_klk (s : State) (e : Nat) : (s.event e).klk = s.klk := (rfl)
@[simp] theorem State.event_lines (s : State) (e : Nat) : (s.event e).hsk.lines = s.hsk.lines := (rfl)

/-- An event changes no field but the pending bits. -/
theorem State.fieldOf_event (s : State) (e : Nat) (f : Field) (i : Nat) (hf : f.stem ≠ .HSK_EVT_PEND) :
    (s.event e).fieldOf f i = s.fieldOf f i := by
  have hk := State.event_kept (Covers.refl _) (Kept.refl s) e
  refine hk.fieldOf f ?_ i
  cases h : f.stem <;> first | rfl | exact absurd h hf

end Sys2Proof.Machine
end


section
/-! PROOFS. BAR2 accesses and the configuration header (R3, R35 to R37, R43, R44). -/

namespace Sys2Proof.Machine

/-- In RUN an event of the running module acts. -/
theorem State.live_of_running {s : State} (h : s.running = true) (f : State → State) : s.live f = f s := by simp [State.live, h]

/-- Any access to MAILBOX blocks lies in the Central Store. -/
theorem State.inRam_of_inMailbox {s : State} {o n : Nat} (h : s.inMailbox o n = true) : s.inRam (0x4000000000 + o) n = true := by
  simp only [State.inMailbox, Bool.and_eq_true, decide_eq_true_eq] at h
  have hs : inStore (0x4000000000 + o) n = true := by
    simp only [inStore, Bool.and_eq_true, decide_eq_true_eq]
    omega
  simp [State.inRam, hs]

/-- A BAR2 access in the window goes to the window base, or fails while the window moves (R43, R44). -/
theorem exec_bar2Access_window {s : State} (hr : s.running = true) {o : BitVec 28} (ho : 0x1000000 ≤ o.toNat) (w : Option (List Byte)) (k : Nat) :
    let n := (w.map List.length).getD k
    exec (.bar2Access o w k) s = .next (if s.hst.winMove.isSome then s.failBar2 o.toNat n true w.isSome
      else s.serveBar2 (s.hst.winBase + (o.toNat - 0x1000000)) n w) := by
  show done (s.live _) = _
  rw [State.live_of_running hr]
  simp only [done, ho, if_true]
  cases w <;> rfl

/-- A BAR2 access below the window goes to the Central Store, or fails outside the MAILBOX pool (R43, R44). -/
theorem exec_bar2Access_mailbox {s : State} (hr : s.running = true) {o : BitVec 28} (ho : o.toNat < 0x1000000) (w : Option (List Byte)) (k : Nat) :
    let n := (w.map List.length).getD k
    exec (.bar2Access o w k) s = .next (if s.inMailbox o.toNat n then s.serveBar2 (0x4000000000 + o.toNat) n w
      else s.failBar2 o.toNat n false w.isSome) := by
  show done (s.live _) = _
  rw [State.live_of_running hr]
  simp only [done, Nat.not_le.2 ho, if_false]
  cases w <;> rfl

theorem State.serveBar2_write (s : State) (a : Nat) (l : List Byte) :
    s.serveBar2 a l.length (some l) = if s.inRam a l.length then s.setMem a l else s := by
  unfold State.serveBar2
  cases s.inRam a l.length <;> rfl

theorem State.serveBar2_read {s : State} {a n : Nat} (h : s.inRam a n = true) :
    s.serveBar2 a n none = s.withHst fun h => { h with bar2Read := s.mem a n } := by
  unfold State.serveBar2
  rw [h]

/-- Drawing free bytes uses up draws alone. -/
theorem State.freeBytes_frame (k : Nat) : ∀ s : State, (s.freeBytes k).2 = { s with free := s.free + k } := by
  induction k with
  | zero => intro s; rfl
  | succ k ih =>
    intro s
    show (State.freeBytes k s.draw.2).2 = _
    rw [ih, State.draw_snd, Nat.add_assoc, Nat.add_comm 1]

/-- A read above the backed range changes what the read returned, and draws. -/
theorem State.serveBar2_unbacked {s : State} {a n : Nat} (h : s.inRam a n = false) :
    s.serveBar2 a n none = ({ s with free := s.free + 8 }).withHst fun h => { h with bar2Read := (s.freeBytes 8).1.take n } := by
  unfold State.serveBar2
  rw [h]
  dsimp only
  rw [State.freeBytes_frame]

/-- A write of BAR2 is stored where it lands, dropped above the backed range, and dropped with the fault elsewhere. -/
theorem exec_bar2Access_write {s : State} (hr : s.running = true) (o : BitVec 28) (l : List Byte) :
    let a := s.hst.winBase + (o.toNat - 0x1000000)
    (0x1000000 ≤ o.toNat → s.hst.winMove = none → exec (.bar2Access o (some l) 0) s = .next (if s.inRam a l.length then s.setMem a l else s)) ∧
    (0x1000000 ≤ o.toNat → s.hst.winMove ≠ none →
      exec (.bar2Access o (some l) 0) s = .next (s.fault 10 0 0x0A03 (0x80000000 + o.toNat) 0)) ∧
    (o.toNat < 0x1000000 → s.inMailbox o.toNat l.length = true →
      exec (.bar2Access o (some l) 0) s = .next (s.setMem (0x4000000000 + o.toNat) l)) ∧
    (o.toNat < 0x1000000 → s.inMailbox o.toNat l.length = false →
      exec (.bar2Access o (some l) 0) s = .next (s.fault 10 0 0x0A03 o.toNat 0)) := by
  refine ⟨fun ho hw => ?_, fun ho hw => ?_, fun ho hm => ?_, fun ho hm => ?_⟩
  · rw [exec_bar2Access_window hr ho]
    simp [hw, State.serveBar2_write]
  · rw [exec_bar2Access_window hr ho]
    simp [Option.isSome_iff_ne_none.2 hw, State.failBar2, flag]
  · rw [exec_bar2Access_mailbox hr ho]
    simp [hm, State.serveBar2_write, State.inRam_of_inMailbox hm]
  · rw [exec_bar2Access_mailbox hr ho]
    simp [hm, State.failBar2, flag]

/-- A read of BAR2 returns the bytes where it lands, free ones above the backed range, and all ones with the fault elsewhere. -/
theorem exec_bar2Access_read {s : State} (hr : s.running = true) (o : BitVec 28) (n : Nat) :
    let a := s.hst.winBase + (o.toNat - 0x1000000)
    let ones := s.withHst fun h => { h with bar2Read := List.replicate n 0xFF }
    (0x1000000 ≤ o.toNat → s.hst.winMove = none → s.inRam a n = true → exec (.bar2Access o none n) s =
      .next (s.withHst fun h => { h with bar2Read := s.mem a n })) ∧
    (0x1000000 ≤ o.toNat → s.hst.winMove = none → s.inRam a n = false → ∃ t, exec (.bar2Access o none n) s = .next t ∧
      t.ram = s.ram ∧ t.regs = s.regs ∧ t.hsk = s.hsk ∧ t.hst = { s.hst with bar2Read := t.hst.bar2Read }) ∧
    (0x1000000 ≤ o.toNat → s.hst.winMove ≠ none →
      exec (.bar2Access o none n) s = .next (ones.fault 10 0 0x0A03 (0x80000000 + o.toNat) 0)) ∧
    (o.toNat < 0x1000000 → s.inMailbox o.toNat n = true →
      exec (.bar2Access o none n) s = .next (s.withHst fun h => { h with bar2Read := s.mem (0x4000000000 + o.toNat) n })) ∧
    (o.toNat < 0x1000000 → s.inMailbox o.toNat n = false →
      exec (.bar2Access o none n) s = .next (ones.fault 10 0 0x0A03 o.toNat 0)) := by
  refine ⟨fun ho hw hi => ?_, fun ho hw hi => ⟨_, exec_bar2Access_window hr ho none n, ?_⟩, fun ho hw => ?_, fun ho hm => ?_, fun ho hm => ?_⟩
  · rw [exec_bar2Access_window hr ho]
    simp [hw, State.serveBar2_read hi]
  · simp [hw, State.serveBar2_unbacked hi]
  · rw [exec_bar2Access_window hr ho]
    simp [Option.isSome_iff_ne_none.2 hw, State.failBar2, flag]
  · rw [exec_bar2Access_mailbox hr ho]
    simp [hm, State.serveBar2_read (State.inRam_of_inMailbox hm)]
  · rw [exec_bar2Access_mailbox hr ho]
    simp [hm, State.failBar2, flag]

/-! ### The configuration header -/

/-- A 16-bit field above 16 others. -/
theorem ofNat_fld_high (v : Nat) (x : W16) (hv : v < 2 ^ 16) : (BitVec.ofNat 32 (fld 31 16 v + x.toNat)).toNat / 2 ^ 16 = v := by
  have := x.isLt
  simp only [fld, BitVec.toNat_ofNat]
  omega

/-- The first capability structure that the address lies in is the power management one at 0x40. -/
theorem State.capabilityWord_powerManagement (s : State) : s.capabilityWord 0x40 = fld 31 16 3 + fld 15 8 0x50 + 1 := rfl

theorem State.capabilityWord_pciExpress (s : State) : s.capabilityWord 0x50 = fld 31 16 2 + fld 15 8 0x90 + 0x10 := rfl

theorem State.capabilityWord_msix (s : State) :
    s.capabilityWord 0x90 = fld 31 16 (flag 15 s.hst.config.msixEnable + flag 14 s.hst.config.msixMask + 63) + fld 15 8 0 + 0x11 := rfl

/-- The words of the configuration header that never change (R35 to R37). -/
theorem State.configWord_header (s : State) : (s.configWord 0).toNat / 2 ^ 16 = 0x8128 ∧ (s.configWord 8).toNat / 2 ^ 8 = 0x118000 ∧
    (s.configWord 0x10).toNat % 2 ^ 16 = 4 ∧ (s.configWord 0x18).toNat % 2 ^ 28 = 0xC ∧
    s.configWord 0x20 = 0 ∧ s.configWord 0x24 = 0 ∧ (s.configWord 0x04).getLsbD 20 = true ∧ s.configWord 0x34 = 0x40 := by
  refine ⟨ofNat_fld_high 0x8128 _ (by decide), ?_, ?_, ?_, rfl, rfl, (by decide : (0x00100006#32).getLsbD 20 = true), rfl⟩
  · have := Config.revisionId.isLt
    show (BitVec.ofNat 32 (fld 31 8 0x118000 + Config.revisionId.toNat)).toNat / 2 ^ 8 = _
    simp only [fld, BitVec.toNat_ofNat]
    omega
  · show ((lo32 s.hst.config.bar0 &&& 0xFFFF0000) ||| 0x4).toNat % 2 ^ 16 = 4
    generalize lo32 s.hst.config.bar0 = x
    have : (x &&& 0xFFFF0000#32 ||| 0x4#32).setWidth 16 = 4#16 := by
      ext i hi
      interval_cases i <;> simp
    exact (BitVec.toNat_setWidth ..).symm.trans (congrArg BitVec.toNat this)
  · show ((lo32 s.hst.config.bar2 &&& 0xF0000000) ||| 0xC).toNat % 2 ^ 28 = 0xC
    generalize lo32 s.hst.config.bar2 = x
    have : (x &&& 0xF0000000#32 ||| 0xC#32).setWidth 28 = 0xC#28 := by
      ext i hi
      interval_cases i <;> simp
    exact (BitVec.toNat_setWidth ..).symm.trans (congrArg BitVec.toNat this)

/-- The first words of the standard capabilities: ID and link (R36). -/
theorem State.configWord_capabilities (s : State) : (s.configWord 0x40).toNat % 2 ^ 16 = 0x5001 ∧
    (s.configWord 0x50).toNat % 2 ^ 16 = 0x9010 ∧ (s.configWord 0x90).toNat % 2 ^ 16 = 0x11 := by
  have low (v k : Nat) (hk : k < 2 ^ 16) : (BitVec.ofNat 32 (fld 31 16 v + k)).toNat % 2 ^ 16 = k := by
    simp only [fld, BitVec.toNat_ofNat]
    omega
  refine ⟨?_, ?_, ?_⟩
  · show (BitVec.ofNat 32 (s.capabilityWord 0x40)).toNat % 2 ^ 16 = _
    rw [State.capabilityWord_powerManagement, Nat.add_assoc]
    exact low _ _ (by decide)
  · show (BitVec.ofNat 32 (s.capabilityWord 0x50)).toNat % 2 ^ 16 = _
    rw [State.capabilityWord_pciExpress, Nat.add_assoc]
    exact low _ _ (by decide)
  · show (BitVec.ofNat 32 (s.capabilityWord 0x90)).toNat % 2 ^ 16 = _
    rw [State.capabilityWord_msix, Nat.add_assoc]
    exact low _ _ (by decide)

end Sys2Proof.Machine
end


section
/-! PROOFS. What a reset of the function leaves of the host interface (R38). -/

namespace Sys2Proof.Machine

/-- What every change of a list keeps holds after all of them. -/
theorem each_keeps {α : Type} {P : State → Prop} {f : α → State → State} (hf : ∀ x t, P t → P (f x t)) (l : List α) :
    ∀ {s : State}, P s → P (each l f s) := by
  induction l with
  | nil => intro s h; exact h
  | cons x l ih => intro s h; exact ih (hf x s h)

/-- What one change of a list brings about, and all of them keep, holds after all of them. -/
theorem each_reaches {α : Type} {P : State → Prop} {f : α → State → State} (hk : ∀ x t, P t → P (f x t)) {a : α}
    (ha : ∀ t, P (f a t)) {l : List α} (hm : a ∈ l) : ∀ s : State, P (each l f s) := by
  induction l with
  | nil => exact absurd hm List.not_mem_nil
  | cons x l ih =>
    intro s
    rcases List.mem_cons.1 hm with rfl | hm
    · exact each_keeps hk l (ha s)
    · exact ih hm (f x s)


theorem State.freeBlockList_hst (s : State) (p : Nat) (l : List Nat) : (s.freeBlockList p l).hst = s.hst :=
  (State.freeBlockList_kept (Covers.refl _) (Kept.refl s) p l).same .hst (by decide)

theorem State.zeroRings_hst (s : State) (b : Mailbox) : (s.zeroRings b).hst = s.hst := by simp [State.zeroRings]

/-- Of an open mailbox, a close discards what it owes and closes it. -/
theorem State.closeBox_hst {s : State} {m : Nat} (h : (s.box m).st ≠ 0) :
    (s.closeBox m).hst = { (s.mute m).hst with boxes := s.hst.boxes.set Mailbox.reset m { } } := by
  unfold State.closeBox State.setBox
  rw [if_neg h, State.withHst_hst, State.freeBlockList_hst]
  rfl

theorem State.resetBox0_hst (s : State) :
    s.resetBox0.hst = { (s.mute 0).hst with boxes := s.hst.boxes.set Mailbox.reset 0 (Mailbox.reset 0) } := by
  unfold State.resetBox0 State.setBox
  rw [State.withHst_hst, State.zeroRings_hst]
  rfl

theorem State.closeBox_box_other (s : State) {m k : Nat} (h : k ≠ m) : (s.closeBox m).box k = s.box k := by
  by_cases hc : (s.box m).st = 0
  · simp [State.closeBox, hc]
  · unfold State.box
    rw [State.closeBox_hst hc]
    exact Tab.get_set_other _ _ _ _ _ h

theorem State.closeBox_closed (s : State) (m : Nat) : ((s.closeBox m).box m).st = 0 := by
  by_cases hc : (s.box m).st = 0
  · simp [State.closeBox, hc]
  · unfold State.box
    rw [State.closeBox_hst hc]
    exact congrArg Mailbox.st (Tab.get_set_same Mailbox.reset s.hst.boxes m { })

/-- A mailbox that is closed stays so while others are closed. -/
theorem State.closeBox_keeps_closed {s : State} {m : Nat} (k : Nat) (h : (s.box m).st = 0) : ((s.closeBox k).box m).st = 0 := by
  by_cases hk : m = k
  · subst hk; exact State.closeBox_closed s m
  · rw [State.closeBox_box_other s hk, h]

/-- A transaction of a profile selection already taken, whose completion is discarded. -/
def Txn.runsUnseen (x : Txn) : Prop := ∃ k, x.pending = some k ∧ k.profile = true ∧ k.muted = true

theorem Txn.kept_runsUnseen {x y : Txn} (h : x.kept = some y) : y.runsUnseen := by
  unfold Txn.kept at h
  split at h
  · next c _ =>
    split at h
    · next hc =>
      obtain rfl := Option.some.inj h
      exact ⟨_, rfl, decide_eq_true hc, rfl⟩
    · exact absurd h (by simp)
  · exact absurd h (by simp)

/-- The host interface holds no host words and no transaction but profile selections that run unseen, its configuration space is
as at reset, and PERST_N is at level `p`. -/
def Hst.forgets (p : Bool) (h : Hst) : Prop := h.hello = none ∧ h.config = { } ∧ h.perst = p ∧ ∀ x ∈ h.txns, x.runsUnseen

theorem State.mute_forgets {s : State} {p : Bool} (m : Nat) (h : s.hst.forgets p) : (s.mute m).hst.forgets p := by
  obtain ⟨hhello, hconfig, hperst, htxns⟩ := h
  refine ⟨hhello, hconfig, hperst, fun y hy => ?_⟩
  obtain ⟨x, hx, hxy⟩ := List.mem_filterMap.1 hy
  split at hxy
  · exact Txn.kept_runsUnseen hxy
  · obtain rfl := Option.some.inj hxy
    exact htxns x hx

theorem State.closeBox_forgets {s : State} {p : Bool} (m : Nat) (h : s.hst.forgets p) : (s.closeBox m).hst.forgets p := by
  by_cases hc : (s.box m).st = 0
  · simpa [State.closeBox, hc] using h
  · rw [State.closeBox_hst hc]
    exact State.mute_forgets m h

theorem State.resetBox0_forgets {s : State} {p : Bool} (h : s.hst.forgets p) : s.resetBox0.hst.forgets p := by
  rw [State.resetBox0_hst]
  exact State.mute_forgets 0 h

/-! ### The stages of a Function Level Reset -/

/-- The first stage: the agreement, the host words, and the transactions that have not started. -/
def State.forgetHost (s : State) : State :=
  s.clearAgreement.withHst fun h => { h with hello := none, txns := h.txns.filterMap Txn.kept, config := { }, v1Wait := false }

/-- The second stage: the mailboxes. -/
def State.resetBoxes (s : State) : State := ((each ((List.range 15).map (· + 1)) State.closeBox s).resetBox0).mute 16

theorem State.functionReset_eq (s : State) :
    s.functionReset = each [4, 5, 6, 7, 8] (fun i => State.setV1 i 0) s.forgetHost.resetBoxes := rfl

/-- The mailboxes alone of the last stages touch no register but the ledger's. -/
theorem State.resetBoxes_kept (s : State) : Kept 0x700000000000000000000000000000e4 s s.resetBoxes :=
  State.mute_kept (by decide) (State.resetBox0_kept (by decide)
    (each_kept (fun x _ h => State.closeBox_kept (by decide) h x) _ (Kept.refl s))) 16

/-- The last stage changes the words of the version 1 mailbox alone. -/
theorem State.setV1s_frame (l : List Nat) : ∀ s : State, ∃ v, each l (fun i => State.setV1 i 0) s = s.withHst fun h => { h with v1 := v } := by
  induction l with
  | nil => intro s; exact ⟨s.hst.v1, rfl⟩
  | cons i l ih => intro s; exact ih (s.setV1 i 0)

theorem State.functionReset_frame (s : State) : ∃ v, s.functionReset = s.forgetHost.resetBoxes.withHst fun h => { h with v1 := v } :=
  State.setV1s_frame _ _

theorem State.agreed_withHst (s : State) (f : Hst → Hst) : (s.withHst f).agreed = s.agreed := rfl

theorem State.clearAgreement_agreed (s : State) : s.clearAgreement.agreed = false := by
  have hclear : (((s.putBit HST_STATE_AGREED 0 false).putField HST_STATE_SESAME 0 0).putBit HST_STATE_CQ_REFUSE 0 false).agreed = false := by
    unfold State.agreed
    rw [State.bitOf_putBit_apart _ _ _ _ _ _ (by decide) (by decide), State.bitOf_putField_apart _ _ _ _ _ _ (by decide) (by decide),
      State.bitOf_putBit _ _ _ _ (by decide)]
  have hfeat : ∀ (l : List Nat) (t : State), t.agreed = false →
      (each l (fun i => State.setReg .HST_FEAT i 0 (if i = 0 then 0x3FF else 0)) t).agreed = false := by
    intro l t ht
    refine each_keeps (P := fun t => t.agreed = false) (fun i u hu => ?_) _ ht
    unfold State.agreed State.bitOf at hu ⊢
    rwa [State.reg_setReg_other u _ _ _ _ _ _ _ (by decide) (by decide) (fun e => absurd e.1 (by decide))]
  unfold State.clearAgreement
  dsimp only
  split
  · unfold State.setBox
    rw [State.agreed_withHst]
    exact hfeat _ _ hclear
  · exact hfeat _ _ hclear

theorem State.functionReset_agreed (s : State) : s.functionReset.agreed = false := by
  obtain ⟨v, hv⟩ := State.functionReset_frame s
  have hboxes : s.forgetHost.resetBoxes.agreed = s.forgetHost.agreed := (State.resetBoxes_kept _).bitOf HST_STATE_AGREED (by decide) 0
  have hfirst : s.forgetHost.agreed = s.clearAgreement.agreed := by unfold State.forgetHost; rw [State.agreed_withHst]
  rw [hv, State.agreed_withHst, hboxes, hfirst, State.clearAgreement_agreed]

theorem State.resetBoxes_forgets {s : State} {p : Bool} (h : s.hst.forgets p) : s.resetBoxes.hst.forgets p :=
  State.mute_forgets 16 (State.resetBox0_forgets (each_keeps (P := fun t => t.hst.forgets p) (fun m _ h => State.closeBox_forgets m h) _ h))

theorem State.clearAgreement_perst (s : State) : s.clearAgreement.hst.perst = s.hst.perst := by
  have hfeat : ∀ (l : List Nat) (t : State), t.hst.perst = s.hst.perst →
      (each l (fun i => State.setReg .HST_FEAT i 0 (if i = 0 then 0x3FF else 0)) t).hst.perst = s.hst.perst :=
    fun l t ht => each_keeps (P := fun t => t.hst.perst = s.hst.perst)
      (fun i u hu => (congrArg Hst.perst (State.setReg_hst u .HST_FEAT i 0 _)).trans hu) l ht
  unfold State.clearAgreement
  dsimp only
  split
  · unfold State.setBox
    rw [State.withHst_hst]
    dsimp only
    exact hfeat _ _ (by simp only [State.putBit_hst, State.putField_hst])
  · exact hfeat _ _ (by simp only [State.putBit_hst, State.putField_hst])

theorem State.forgetHost_forgets (s : State) : s.forgetHost.hst.forgets s.hst.perst := by
  have hperst := State.clearAgreement_perst s
  unfold State.forgetHost
  rw [State.withHst_hst]
  generalize s.clearAgreement.hst = h at hperst ⊢
  refine ⟨rfl, rfl, hperst, fun y hy => ?_⟩
  obtain ⟨x, _, hx⟩ := List.mem_filterMap.1 hy
  exact Txn.kept_runsUnseen hx

theorem State.functionReset_forgets (s : State) : s.functionReset.hst.forgets s.hst.perst := by
  obtain ⟨v, hv⟩ := State.functionReset_frame s
  obtain ⟨hhello, hconfig, hperst, htxns⟩ := State.resetBoxes_forgets (State.forgetHost_forgets s)
  rw [hv, State.withHst_hst]
  generalize s.forgetHost.resetBoxes.hst = h at hhello hconfig hperst htxns ⊢
  exact ⟨hhello, hconfig, hperst, htxns⟩

theorem State.resetBoxes_box0 (s : State) : s.resetBoxes.hst.boxes.get Mailbox.reset 0 = Mailbox.reset 0 := by
  unfold State.resetBoxes
  generalize each ((List.range 15).map (· + 1)) State.closeBox s = u
  show u.resetBox0.hst.boxes.get Mailbox.reset 0 = _
  rw [State.resetBox0_hst]
  exact Tab.get_set_same Mailbox.reset u.hst.boxes 0 (Mailbox.reset 0)

theorem State.resetBoxes_closed (s : State) {m : Nat} (h0 : m ≠ 0) (hm : m < 16) : (s.resetBoxes.hst.boxes.get Mailbox.reset m).st = 0 := by
  have hclosed : ((each ((List.range 15).map (· + 1)) State.closeBox s).box m).st = 0 := by
    refine each_reaches (P := fun t => (t.box m).st = 0) (fun k _ h => State.closeBox_keeps_closed k h)
      (a := m) (fun t => State.closeBox_closed t m) ?_ _
    exact List.mem_map.2 ⟨m - 1, List.mem_range.2 (by omega), by omega⟩
  unfold State.resetBoxes
  generalize each ((List.range 15).map (· + 1)) State.closeBox s = u at hclosed ⊢
  show (u.resetBox0.hst.boxes.get Mailbox.reset m).st = 0
  rw [State.resetBox0_hst]
  show ((u.hst.boxes.set Mailbox.reset 0 (Mailbox.reset 0)).get Mailbox.reset m).st = 0
  rw [Tab.get_set_other _ _ _ _ _ h0]
  exact hclosed

theorem State.functionReset_box (s : State) (m : Nat) : s.functionReset.box m = s.forgetHost.resetBoxes.hst.boxes.get Mailbox.reset m := by
  obtain ⟨v, hv⟩ := State.functionReset_frame s
  rw [hv]
  generalize s.forgetHost.resetBoxes = u
  rfl

theorem State.v1Word_setV1 (s : State) (i j : Nat) (v : W32) : (s.setV1 i v).v1Word j = if j = i then v else s.v1Word j := by
  split
  · next h => subst h; exact Tab.get_set_same _ _ _ _
  · next h => exact Tab.get_set_other _ _ _ _ _ h

theorem State.functionReset_v1 (s : State) {i : Nat} (hi : i ∈ [4, 5, 6, 7, 8]) : s.functionReset.v1Word i = 0 := by
  rw [State.functionReset_eq]
  refine each_reaches (P := fun t => t.v1Word i = 0) (fun k t h => ?_) (a := i) (fun t => ?_) hi _
  · rw [State.v1Word_setV1, h, ite_self]
  · rw [State.v1Word_setV1, if_pos rfl]

theorem State.functionReset_beat (s : State) : s.functionReset.beat = s.beat :=
  (State.functionReset_kept (Covers.refl _) (Kept.refl s)).beat (by decide) (by decide)

/-- What a Function Level Reset, and PERST_N rising, leaves (R38). -/
theorem State.functionReset_leaves (s : State) : let t := s.functionReset
    t.agreed = false ∧ t.hst.hello = none ∧ t.hst.config = { } ∧
      (∀ x ∈ t.hst.txns, ∃ k, x.pending = some k ∧ k.profile = true ∧ k.muted = true) ∧ t.box 0 = Mailbox.reset 0 ∧
      (∀ m : Fin 16, m ≠ 0 → (t.box m.val).st = 0) ∧ (∀ i ∈ [4, 5, 6, 7, 8], t.v1Word i = 0) ∧ t.beat = s.beat := by
  obtain ⟨hhello, hconfig, _, htxns⟩ := State.functionReset_forgets s
  exact ⟨State.functionReset_agreed s, hhello, hconfig, htxns, (State.functionReset_box s 0).trans (State.resetBoxes_box0 _),
    fun m hm => (congrArg Mailbox.st (State.functionReset_box s m)).trans (State.resetBoxes_closed _ (fun e => hm (Fin.ext e)) m.isLt), fun _ hi => State.functionReset_v1 s hi, State.functionReset_beat s⟩

theorem exec_functionLevelReset {s : State} (hr : s.running = true) : exec .functionLevelReset s = .next s.functionReset := by
  show done (s.live _) = _
  rw [State.live_of_running hr]
  rfl

theorem exec_perstNRise {s : State} (hr : s.running = true) :
    exec .perstNRise s = .next (s.withHst fun h => { h with perst := true }).functionReset := by
  show done (State.live _ _) = _
  rw [State.live_of_running (s := s.withHst _) hr]
  rfl

/-- PCIE_LINK_SETTLE with PERST_N high: rate and width, and the fault of a slow or narrow link. -/
theorem exec_pcieLinkSettle_up {s : State} (hr : s.running = true) (hp : s.hst.perst = true) (rate : Fin 5) {lanes : Nat}
    (hl : lanes ∈ [1, 2, 4, 8]) :
    let u := s.withHst fun h => { h with link := some (rate.val, lanes) }
    exec (.pcieLinkSettle rate lanes) s =
      .next (if rate.val < 2 ∨ lanes < 8 then u.fault 10 0 0x0A02 (lanes * 256 + rate.val) 0 else u) := by
  show done (s.live _) = _
  have hfld : fld 11 8 lanes = lanes * 256 := by
    simp only [List.mem_cons, List.not_mem_nil, or_false] at hl
    rcases hl with rfl | rfl | rfl | rfl <;> rfl
  have hok : (!s.hst.perst || !([1, 2, 4, 8].contains lanes)) = false := by
    simp only [List.mem_cons, List.not_mem_nil, or_false] at hl
    rcases hl with rfl | rfl | rfl | rfl <;> simp [hp]
  rw [State.live_of_running hr]
  simp only [hok, hfld]
  rfl

/-- Settles O16: BAR2 by where an access lands, the header word by word, the resets by their stages. -/
theorem barAndLinkCommands : Obligations.BarAndLinkCommands := by
  unfold Obligations.BarAndLinkCommands
  refine ⟨fun o l s hr => exec_bar2Access_write hr o l, fun o n s hr => exec_bar2Access_read hr o n, fun s => ?_, fun s hr c hc => ?_,
    fun _ => rfl, fun rate lanes s hr hp hl => exec_pcieLinkSettle_up hr hp rate hl⟩
  · obtain ⟨h0, h8, h10, h18, h20, h24, h4, h34⟩ := s.configWord_header
    exact ⟨h0, h8, h10, h18, h20, h24, h4, h34, s.configWord_capabilities⟩
  · simp only [List.mem_cons, List.not_mem_nil, or_false] at hc
    rcases hc with rfl | rfl
    · obtain ⟨ha, hh, hc, ht, h0, hm, hv, hb⟩ := s.functionReset_leaves
      exact ⟨_, exec_functionLevelReset hr, ha, hh, hc, ht, h0, hm, hv, hb, fun e => absurd e (by simp)⟩
    · obtain ⟨ha, hh, hc, ht, h0, hm, hv, hb⟩ := (s.withHst fun h => { h with perst := true }).functionReset_leaves
      obtain ⟨_, _, hp, _⟩ := State.functionReset_forgets (s.withHst fun h => { h with perst := true })
      exact ⟨_, exec_perstNRise hr, ha, hh, hc, ht, h0, hm, hv, hb, fun _ => hp⟩

end Sys2Proof.Machine
end


section
/-! PROOFS. KelorLink ports: what the operations of training leave in a port and in KLK_PORT_STAT (R344, R345). -/

namespace Sys2Proof.Machine

/-! ### Ports -/

@[simp] theorem State.port_modPort (s : State) (p : Nat) (f : Port → Port) : (s.modPort p f).port p = f (s.port p) := Tab.get_set_same _ _ _ _

@[simp] theorem State.fieldOf_modPort (s : State) (p : Nat) (f : Port → Port) (g : Field) (i : Nat) :
    (s.modPort p f).fieldOf g i = s.fieldOf g i := (rfl)
@[simp] theorem State.modPort_beat (s : State) (p : Nat) (f : Port → Port) : (s.modPort p f).beat = s.beat := (rfl)
@[simp] theorem State.modPort_hsk (s : State) (p : Nat) (f : Port → Port) : (s.modPort p f).hsk = s.hsk := (rfl)

theorem State.port_of_klk {s t : State} (h : t.klk = s.klk) (p : Nat) : t.port p = s.port p := by unfold State.port; rw [h]

@[simp] theorem State.port_putField (s : State) (f : Field) (i v p : Nat) : (s.putField f i v).port p = s.port p :=
  State.port_of_klk (s.putField_klk f i v) p
@[simp] theorem State.port_putBit (s : State) (f : Field) (i : Nat) (b : Bool) (p : Nat) : (s.putBit f i b).port p = s.port p :=
  State.port_of_klk (s.putBit_klk f i b) p
@[simp] theorem State.port_event (s : State) (e p : Nat) : (s.event e).port p = s.port p := State.port_of_klk (s.event_klk e) p
@[simp] theorem State.port_fault (s : State) (a c d e : Nat) (k : W32) (p : Nat) : (s.fault a c d e k).port p = s.port p :=
  State.port_of_klk (s.fault_klk a c d e k) p

/-! ### A port's state and its attempts -/

theorem State.setPort_portState (s : State) (p : Nat) {st : Nat} (h : st < 8) : (s.setPort p st).portState p = st := by
  unfold State.setPort State.portState
  dsimp only
  rw [State.fieldOf_putField _ _ _ _ (by decide)]
  exact Nat.mod_eq_of_lt h

theorem State.setPort_portState_other (s : State) {p q : Nat} (h : p ≠ q) (st : Nat) : (s.setPort p st).portState q = s.portState q := by
  unfold State.setPort State.portState
  dsimp only
  rw [State.fieldOf_putField_index _ _ _ _ _ _ (by decide) (by decide) h, State.fieldOf_modPort]

/-- A change of a port's state leaves its other fields. -/
theorem State.fieldOf_setPort (s : State) (p st : Nat) (f : Field) (i : Nat) (h : KLK_PORT_STAT_STATE.apart f = true) :
    (s.setPort p st).fieldOf f i = s.fieldOf f i := by
  unfold State.setPort
  dsimp only
  rw [State.fieldOf_putField_apart _ _ _ _ _ _ h, State.fieldOf_modPort]

theorem State.bitOf_setPort (s : State) (p st : Nat) (f : Field) (i : Nat) (h : KLK_PORT_STAT_STATE.apart f = true) (hf : f.single = true) :
    (s.setPort p st).bitOf f i = s.bitOf f i := by
  rw [State.bitOf_eq _ f i hf, State.bitOf_eq _ f i hf, State.fieldOf_setPort s p st f i h]

theorem State.setPort_port (s : State) (p st : Nat) : (s.setPort p st).port p = { s.port p with since := s.beat.lbc } := by
  unfold State.setPort
  dsimp only
  rw [State.port_putField, State.port_modPort]

@[simp] theorem State.setPort_beat (s : State) (p st : Nat) : (s.setPort p st).beat = s.beat := by
  unfold State.setPort
  dsimp only
  rw [State.putField_beat, State.modPort_beat]
@[simp] theorem State.setPort_hsk (s : State) (p st : Nat) : (s.setPort p st).hsk = s.hsk := by
  unfold State.setPort
  dsimp only
  rw [State.putField_hsk, State.modPort_hsk]

/-- Leaving ACTIVE changes nothing of KLK_PORT_STAT. -/
theorem State.fieldOf_leaveActive (s : State) (p : Nat) (f : Field) (i : Nat) (h : f.stem = .KLK_PORT_STAT) :
    (s.leaveActive p).fieldOf f i = s.fieldOf f i :=
  (State.leaveActive_kept (Covers.refl _) (Kept.refl s) p).fieldOf f (by rw [h]; decide) i

theorem State.fieldOf_noLanes (s : State) (p : Nat) (f : Field) (i : Nat) (hl : KLK_PORT_STAT_LANES.apart f = true)
    (hw : KLK_PORT_STAT_WIDTH.apart f = true) : (s.noLanes p).fieldOf f i = s.fieldOf f i := by
  unfold State.noLanes
  rw [State.fieldOf_putField_apart _ _ _ _ _ _ hw, State.fieldOf_putField_apart _ _ _ _ _ _ hl]

/-- A port that trains again has the state it is sent to. -/
theorem State.retrain_portState (s : State) (p : Nat) {st : Nat} (fresh : Bool) (h : st < 8) : (s.retrain p st fresh).portState p = st :=
  State.setPort_portState _ p h

theorem State.retrain_portState_other (s : State) {p q : Nat} (hpq : p ≠ q) (st : Nat) (fresh : Bool) :
    (s.retrain p st fresh).portState q = s.portState q := by
  unfold State.retrain
  dsimp only
  rw [State.setPort_portState_other _ hpq]
  unfold State.portState
  rw [State.fieldOf_noLanes _ _ _ _ (by decide) (by decide), State.fieldOf_modPort, State.fieldOf_leaveActive _ _ _ _ rfl]


theorem State.retrain_beat (s : State) (p st : Nat) (fresh : Bool) : (s.retrain p st fresh).beat = s.beat :=
  (State.retrain_kept (Covers.refl _) (Kept.refl s) p st fresh).beat (by decide) (by decide)

theorem State.dropQueue_beat (s : State) (p : Nat) : (s.dropQueue p).beat = s.beat :=
  (State.dropQueue_kept (Covers.refl _) (Kept.refl s) p).beat (by decide) (by decide)

/-- What a failed attempt leaves: DETECT and one attempt more, or NO_PARTNER with its fault at the third (R344). -/
theorem State.failAttempt_fails (s : State) (p : Nat) :
    (s.fieldOf KLK_PORT_STAT_ATTEMPTS p < 2 → (s.failAttempt p).portState p = 1 ∧
      (s.failAttempt p).fieldOf KLK_PORT_STAT_ATTEMPTS p = s.fieldOf KLK_PORT_STAT_ATTEMPTS p + 1) ∧
    (2 ≤ s.fieldOf KLK_PORT_STAT_ATTEMPTS p → (s.failAttempt p).portState p = 7 ∧
      (s.failAttempt p).hsk.lines.getLast? = some (s.faultLine 9 0 0x0901 p 0)) := by
  unfold State.failAttempt
  dsimp only
  refine ⟨fun h => ?_, fun h => ?_⟩
  · rw [if_pos (by omega)]
    refine ⟨?_, ?_⟩
    · unfold State.portState
      rw [State.fieldOf_putField_apart _ _ _ _ _ _ (by decide)]
      exact State.retrain_portState s p false (by decide)
    · rw [State.fieldOf_putField _ _ _ _ (by decide)]
      exact Nat.mod_eq_of_lt (show _ < 4 by omega)
  · rw [if_neg (by omega)]
    generalize hu : (s.retrain p 1 false).putField KLK_PORT_STAT_ATTEMPTS p (s.fieldOf KLK_PORT_STAT_ATTEMPTS p + 1) = u
    have hbeat : u.beat = s.beat := by rw [← hu, State.putField_beat, State.retrain_beat]
    refine ⟨?_, ?_⟩
    · unfold State.portState
      rw [State.fieldOf_fault, State.fieldOf_event _ _ _ _ (by decide),
        (State.dropQueue_kept (Covers.refl _) (Kept.refl (u.setPort p 7)) p).fieldOf _ (by decide)]
      exact State.setPort_portState u p (by decide)
    · rw [State.fault_lines, List.getLast?_concat]
      unfold State.faultLine
      rw [State.event_beat, State.dropQueue_beat, State.setPort_beat, hbeat]

/-! ### The error lines grow -/

/-- Every fault raised stays on the error lines of the state after. -/
def State.linesGrow (s t : State) : Prop := s.hsk.lines <+: t.hsk.lines

theorem State.linesGrow_refl (s : State) : s.linesGrow s := List.prefix_refl _
theorem State.linesGrow_trans {r s t : State} (h : r.linesGrow s) (k : s.linesGrow t) : r.linesGrow t := List.IsPrefix.trans h k
theorem State.linesGrow_of_eq {s t : State} (h : t.hsk.lines = s.hsk.lines) : s.linesGrow t := by unfold State.linesGrow; rw [h]
theorem State.fault_linesGrow (s : State) (a c d e : Nat) (k : W32) : s.linesGrow (s.fault a c d e k) := by
  unfold State.linesGrow
  rw [State.fault_lines]
  exact List.prefix_append _ _

/-- A footprint without Husk leaves the error lines. -/
theorem Kept.linesGrow {m : Nat} {r t : State} (h : Kept m r t) (hb : m.testBit Part.hsk.ctorIdx = false) : r.linesGrow t :=
  State.linesGrow_of_eq (congrArg Hsk.lines (h.same .hsk hb))

theorem State.upLost_linesGrow (s : State) : s.linesGrow s.upLost := by
  unfold State.upLost
  split
  · refine State.linesGrow_trans (State.linesGrow_of_eq ?_) (State.fault_linesGrow _ _ _ _ _ _)
    rw [State.putBit_hsk, State.putBit_hsk]
  · exact s.linesGrow_refl

theorem State.leaveActive_linesGrow (s : State) (p : Nat) : s.linesGrow (s.leaveActive p) := by
  have hdelay : ∀ (c : Bool) (t : State), s.linesGrow t → s.linesGrow (if c then t.modDelay p (fun d => { d with asked := false, t1 := none }) else t) := by
    intro c t h
    cases c <;> exact h
  have hlost : ∀ t : State, s.linesGrow t → s.linesGrow (if t.fieldOf NTU_ROLE_UP_PORT 0 = p then t.upLost else t) := by
    intro t h
    split
    · exact State.linesGrow_trans h t.upLost_linesGrow
    · exact h
  have hreturned : s.linesGrow ((s.event (1008 + 8 * p + 1)).returnTimed (fun q _ => q == p) Status.wrongState) :=
    State.linesGrow_trans (State.linesGrow_of_eq (s.event_lines _))
      ((State.returnTimed_kept (Covers.refl _) (Kept.refl _) _ _).linesGrow (by decide))
  unfold State.leaveActive
  split
  · exact s.linesGrow_refl
  · exact hlost _ (State.linesGrow_trans (hdelay _ _ hreturned)
      ((State.discardQueued_kept (Covers.refl _) (Kept.refl _) p _).linesGrow (by decide)))

theorem State.retrain_linesGrow (s : State) (p st : Nat) (fresh : Bool) : s.linesGrow (s.retrain p st fresh) := by
  refine State.linesGrow_trans (s.leaveActive_linesGrow p) (State.linesGrow_of_eq ?_)
  unfold State.retrain State.noLanes
  dsimp only
  rw [State.setPort_hsk, State.putField_hsk, State.putField_hsk, State.modPort_hsk]

theorem State.dropFrame_linesGrow (s : State) (p : Nat) : s.linesGrow (s.dropFrame p) := by
  have hreport : ∀ (quiet : Bool) (n : Nat) (t : State), t.hsk = s.hsk →
      s.linesGrow (if quiet then t else (t.event (1008 + 8 * p + 5)).fault 9 0 0x0903 n 0) := by
    intro quiet n t h
    have h0 : s.linesGrow t := State.linesGrow_of_eq (congrArg Hsk.lines h)
    cases quiet
    · exact State.linesGrow_trans (State.linesGrow_trans h0 (State.linesGrow_of_eq (t.event_lines _))) (State.fault_linesGrow _ _ _ _ _ _)
    · exact h0
  have hcount : (s.countUp KLK_DROP_COUNT p 1).hsk = s.hsk := s.putField_hsk _ _ _
  exact hreport _ _ _ ((State.modPort_hsk _ _ _).trans hcount)

theorem State.dropQueue_linesGrow (s : State) (p : Nat) : s.linesGrow (s.dropQueue p) := by
  unfold State.dropQueue
  dsimp only
  exact each_keeps (P := s.linesGrow) (fun _ t h => State.linesGrow_trans h (t.dropFrame_linesGrow p)) _
    ((State.discardQueued_kept (Covers.refl _) (Kept.refl s) p _).linesGrow (by decide))

theorem State.failAttempt_linesGrow (s : State) (p : Nat) : s.linesGrow (s.failAttempt p) := by
  have h0 : s.linesGrow ((s.retrain p 1 false).putField KLK_PORT_STAT_ATTEMPTS p (s.fieldOf KLK_PORT_STAT_ATTEMPTS p + 1)) :=
    State.linesGrow_trans (s.retrain_linesGrow p 1 false) (State.linesGrow_of_eq (congrArg Hsk.lines (State.putField_hsk _ _ _ _)))
  unfold State.failAttempt
  dsimp only
  generalize (s.retrain p 1 false).putField KLK_PORT_STAT_ATTEMPTS p (s.fieldOf KLK_PORT_STAT_ATTEMPTS p + 1) = u at h0 ⊢
  split
  · exact h0
  · have h1 : s.linesGrow (u.setPort p 7) := State.linesGrow_trans h0 (State.linesGrow_of_eq (congrArg Hsk.lines (u.setPort_hsk p 7)))
    refine State.linesGrow_trans (State.linesGrow_trans h1 (State.dropQueue_linesGrow _ p)) ?_
    exact State.linesGrow_trans (State.linesGrow_of_eq (State.event_lines _ _)) (State.fault_linesGrow _ _ _ _ _ _)

end Sys2Proof.Machine
end


section
/-! PROOFS. The commands of KelorLink training (R344 to R346). -/

namespace Sys2Proof.Machine

/-- What the failure of an attempt leaves, from the state before it (R344). -/
def State.attemptFailed (s : State) (p : Nat) (t : State) : Prop :=
  (s.fieldOf KLK_PORT_STAT_ATTEMPTS p < 2 → t.portState p = 1 ∧
    t.fieldOf KLK_PORT_STAT_ATTEMPTS p = s.fieldOf KLK_PORT_STAT_ATTEMPTS p + 1) ∧
  (2 ≤ s.fieldOf KLK_PORT_STAT_ATTEMPTS p → t.portState p = 7 ∧ t.hsk.lines.getLast? = some (s.faultLine 9 0 0x0901 p 0))

/-- An attempt fails alike from two states with the same attempts and the same beat. -/
theorem State.attemptFailed_of_same {s u t : State} {p : Nat} (h : u.attemptFailed p t)
    (ha : u.fieldOf KLK_PORT_STAT_ATTEMPTS p = s.fieldOf KLK_PORT_STAT_ATTEMPTS p) (hb : u.beat = s.beat) : s.attemptFailed p t := by
  obtain ⟨h1, h2⟩ := h
  unfold State.faultLine at h2
  rw [ha] at h1 h2
  rw [hb] at h2
  exact ⟨h1, h2⟩

theorem State.failAttempt_attemptFailed (s : State) (p : Nat) : s.attemptFailed p (s.failAttempt p) := s.failAttempt_fails p

/-! ### Signal, lock, equalisation -/

/-- The outcome of a command that acts in RUN. -/
theorem done_live {s : State} (h : s.running = true) (f : State → State) : done (s.live f) = .next (f s) := by
  rw [State.live_of_running h]; rfl

theorem exec_signalDetect_align {s : State} (hr : s.running = true) {p : Fin 8} {l : BitVec 4} (hs : s.portState p.val = 1) (hl : l ≠ 0) :
    ∃ t, exec (.signalDetect p l) s = .next t ∧ t.portState p.val = 2 ∧ (t.port p.val).set = l.toNat ∧
      (t.port p.val).fast = false ∧ (t.port p.val).since = s.beat.lbc := by
  refine ⟨_, done_live hr _, ?_⟩
  dsimp only
  rw [if_neg fun h => h.elim (· hs) hl]
  rw [State.setPort_port, State.port_modPort, State.modPort_beat]
  exact ⟨State.setPort_portState _ _ (by decide), rfl, rfl, rfl⟩

theorem exec_laneLock_eq {s : State} (hr : s.running = true) {p : Fin 8} {l : BitVec 4} (hs : s.portState p.val = 2) (hl : l ≠ 0) :
    ∃ t, exec (.laneLock p l) s = .next t ∧ t.portState p.val = 3 ∧ (t.port p.val).set = laneSet l := by
  refine ⟨_, done_live hr _, ?_⟩
  dsimp only
  rw [if_neg fun h => h.elim (· hs) hl]
  rw [State.setPort_port, State.port_modPort]
  exact ⟨State.setPort_portState _ _ (by decide), rfl⟩

theorem exec_eqAgreed_negotiate {s : State} (hr : s.running = true) {p : Fin 8} (hs : s.portState p.val = 3) :
    ∃ t, exec (.eqAgreed p) s = .next t ∧ t.portState p.val = 4 := by
  refine ⟨_, done_live hr _, ?_⟩
  rw [if_pos hs]
  exact State.setPort_portState _ _ (by decide)

/-! ### NEGOTIATE -/

theorem laneSet_lt (l : BitVec 4) : laneSet l < 16 := by revert l; decide

theorem State.fieldOf_updateHop (s : State) (p : Nat) (f : Field) (i : Nat) (h : f.stem = .KLK_PORT_STAT) :
    (s.updateHop p).fieldOf f i = s.fieldOf f i :=
  (State.updateHop_kept (Covers.refl _) (Kept.refl s) p).fieldOf f (by rw [h]; decide) i

theorem State.bitOf_updateHop (s : State) (p : Nat) (f : Field) (i : Nat) (h : f.stem = .KLK_PORT_STAT) :
    (s.updateHop p).bitOf f i = s.bitOf f i :=
  (State.updateHop_kept (Covers.refl _) (Kept.refl s) p).bitOf f (by rw [h]; decide) i

theorem State.port_updateHop (s : State) (p q : Nat) : (s.updateHop p).port q = s.port q :=
  State.port_of_klk ((State.updateHop_kept (Covers.refl _) (Kept.refl s) p).same .klk (by decide)) q

theorem State.fieldOf_putLanes (s : State) (p lanes : Nat) (f : Field) (i : Nat) (hl : KLK_PORT_STAT_LANES.apart f = true)
    (hw : KLK_PORT_STAT_WIDTH.apart f = true) : (s.putLanes p lanes).fieldOf f i = s.fieldOf f i := by
  unfold State.putLanes
  dsimp only
  rw [State.fieldOf_modPort, State.fieldOf_putField_apart _ _ _ _ _ _ hw, State.fieldOf_putField_apart _ _ _ _ _ _ hl]

theorem State.putLanes_lanes (s : State) (p : Nat) {lanes : Nat} (h : lanes < 16) :
    (s.putLanes p lanes).fieldOf KLK_PORT_STAT_LANES p = lanes := by
  unfold State.putLanes
  dsimp only
  rw [State.fieldOf_modPort, State.fieldOf_putField_apart _ _ _ _ _ _ (by decide), State.fieldOf_putField _ _ _ _ (by decide)]
  exact Nat.mod_eq_of_lt h

/-- The lanes agreed are in use, and no other field of KLK_PORT_STAT but WIDTH has changed. -/
theorem State.fieldOf_setLanes (s : State) (p lanes : Nat) (f : Field) (i : Nat) (hs : f.stem = .KLK_PORT_STAT) (hl : KLK_PORT_STAT_LANES.apart f = true)
    (hw : KLK_PORT_STAT_WIDTH.apart f = true) : (s.setLanes p lanes).fieldOf f i = s.fieldOf f i := by
  unfold State.setLanes
  rw [State.fieldOf_updateHop _ _ _ _ hs, State.fieldOf_modPort, State.fieldOf_putLanes _ _ _ _ _ hl hw]

theorem State.setLanes_lanes (s : State) (p : Nat) {lanes : Nat} (h : lanes < 16) :
    (s.setLanes p lanes).fieldOf KLK_PORT_STAT_LANES p = lanes := by
  unfold State.setLanes
  rw [State.fieldOf_updateHop _ _ _ _ rfl, State.fieldOf_modPort, State.putLanes_lanes s p h]

/-- The exchange of two sides with one module ID. -/
def State.sameId (s : State) (n : Partner) : Bool := n.idValid && s.bitOf KLK_MOD_ID_VALID 0 && n.id.toNat == s.fieldOf KLK_MOD_ID_ID 0

/-- The exchange of two sides that run version 2. -/
def State.bothV2 (s : State) (p : Nat) (n : Partner) : Bool := n.offersV2 && !n.v1Only && !(s.bitOf KLK_PORT_CFG_V1_ONLY p)

/-- The lanes on which both sides have signal, as a set of R344. -/
def State.commonLanes (s : State) (p : Nat) (n : Partner) : Nat := laneSet (BitVec.ofNat 4 (s.port p).set &&& n.lanes)

/-- A port in NEGOTIATE takes over the module ID in force. -/
def State.takeId (p : Nat) (s : State) : State := s.modPort p fun q => { q with id := s.reg .KLK_MOD_ID 0 }

/-- NEGOTIATE_EXCHANGE in NEGOTIATE, by what the exchange shows. -/
theorem exec_negotiateExchange {s : State} (hr : s.running = true) {p : Fin 8} (hs : s.portState p.val = 4) (n : Partner) :
    exec (.negotiateExchange p n) s = .next (
      if s.sameId n then ((s.takeId p.val).fault 9 1 0x0907 (n.id.toNat * 65536 + p.val) 0).failAttempt p.val
      else if s.bothV2 p.val n && !(s.port p.val).fast then ((s.takeId p.val).modPort p.val fun q => { q with fast := true }).setPort p.val 2
      else if s.commonLanes p.val n = 0 then (s.takeId p.val).failAttempt p.val
      else ((((s.takeId p.val).putBit KLK_PORT_STAT_VER p.val (s.port p.val).fast).putField KLK_PORT_STAT_PARTNER p.val n.id.toNat).setLanes
        p.val (s.commonLanes p.val n)).setPort p.val 5) := by
  refine (done_live hr _).trans (congrArg Host.Outcome.next ?_)
  dsimp only
  rw [if_neg (not_not.2 hs)]
  rfl

theorem State.takeId_beat (s : State) (p : Nat) : (s.takeId p).beat = s.beat := rfl
theorem State.fieldOf_takeId (s : State) (p : Nat) (f : Field) (i : Nat) : (s.takeId p).fieldOf f i = s.fieldOf f i := s.fieldOf_modPort p _ f i

/-- A duplicate module ID fails the attempt, with its fault (R344). -/
theorem State.duplicateId_fails (s : State) (p d : Nat) : let u := ((s.takeId p).fault 9 1 0x0907 d 0).failAttempt p
    s.attemptFailed p u ∧ s.faultLine 9 1 0x0907 d 0 ∈ u.hsk.lines := by
  refine ⟨State.attemptFailed_of_same (State.failAttempt_attemptFailed _ p) ?_ ?_, ?_⟩
  · rw [State.fieldOf_fault, State.fieldOf_takeId]
  · rw [State.fault_beat, State.takeId_beat]
  · refine (State.failAttempt_linesGrow ((s.takeId p).fault 9 1 0x0907 d 0) p).subset ?_
    rw [State.fault_lines]
    exact List.mem_append_right _ List.mem_cons_self

/-- The final checks passed: CREDIT_INIT with what the exchange agreed (R344). -/
theorem State.negotiated_fields (s : State) (p : Nat) (v : Bool) (id : BitVec 11) {lanes : Nat} (hl : lanes < 16) :
    let t := (((s.putBit KLK_PORT_STAT_VER p v).putField KLK_PORT_STAT_PARTNER p id.toNat).setLanes p lanes).setPort p 5
    t.portState p = 5 ∧ t.portV2 p = v ∧ t.fieldOf KLK_PORT_STAT_LANES p = lanes ∧ t.fieldOf KLK_PORT_STAT_PARTNER p = id.toNat := by
  refine ⟨State.setPort_portState _ _ (by decide), ?_, ?_, ?_⟩
  · unfold State.portV2
    rw [State.bitOf_setPort _ _ _ _ _ (by decide) (by decide), State.bitOf_eq _ _ _ (by decide),
      State.fieldOf_setLanes _ _ _ _ _ rfl (by decide) (by decide), ← State.bitOf_eq _ _ _ (by decide),
      State.bitOf_putField_apart _ _ _ _ _ _ (by decide) (by decide), State.bitOf_putBit _ _ _ _ (by decide)]
  · rw [State.fieldOf_setPort _ _ _ _ _ (by decide), State.setLanes_lanes _ _ hl]
  · rw [State.fieldOf_setPort _ _ _ _ _ (by decide), State.fieldOf_setLanes _ _ _ _ _ rfl (by decide) (by decide),
      State.fieldOf_putField _ _ _ _ (by decide)]
    exact Nat.mod_eq_of_lt id.isLt

theorem exec_negotiateExchange_outcomes {s : State} (hr : s.running = true) {p : Fin 8} (hs : s.portState p.val = 4) (n : Partner) :
    (s.sameId n = true → ∃ t, exec (.negotiateExchange p n) s = .next t ∧ s.attemptFailed p.val t ∧
      s.faultLine 9 1 0x0907 (n.id.toNat * 65536 + p.val) 0 ∈ t.hsk.lines) ∧
    (s.sameId n = false → s.bothV2 p.val n = true → (s.port p.val).fast = false → ∃ t, exec (.negotiateExchange p n) s = .next t ∧
      t.portState p.val = 2 ∧ (t.port p.val).fast = true ∧ t.fieldOf KLK_PORT_STAT_ATTEMPTS p.val = s.fieldOf KLK_PORT_STAT_ATTEMPTS p.val) ∧
    (s.sameId n = false → (s.bothV2 p.val n = false ∨ (s.port p.val).fast = true) → s.commonLanes p.val n ≠ 0 →
      ∃ t, exec (.negotiateExchange p n) s = .next t ∧ t.portState p.val = 5 ∧ t.portV2 p.val = (s.port p.val).fast ∧
        t.fieldOf KLK_PORT_STAT_LANES p.val = s.commonLanes p.val n ∧ t.fieldOf KLK_PORT_STAT_PARTNER p.val = n.id.toNat) ∧
    (s.sameId n = false → (s.bothV2 p.val n = false ∨ (s.port p.val).fast = true) → s.commonLanes p.val n = 0 →
      ∃ t, exec (.negotiateExchange p n) s = .next t ∧ s.attemptFailed p.val t) := by
  have hex := exec_negotiateExchange hr hs n
  refine ⟨fun h => ⟨_, hex, ?_⟩, fun h hb hf => ⟨_, hex, ?_⟩, fun h hb hl => ⟨_, hex, ?_⟩, fun h hb hl => ⟨_, hex, ?_⟩⟩
  · rw [if_pos h]
    exact s.duplicateId_fails p.val _
  · rw [if_neg (by simp [h]), if_pos (by simp [hb, hf])]
    rw [State.setPort_port, State.port_modPort, State.fieldOf_setPort _ _ _ _ _ (by decide), State.fieldOf_modPort, State.fieldOf_takeId]
    exact ⟨State.setPort_portState _ _ (by decide), rfl, rfl⟩
  · rw [if_neg (by simp [h]), if_neg (by rcases hb with hb | hb <;> simp [hb]), if_neg hl]
    exact State.negotiated_fields (s.takeId p.val) p.val _ n.id (laneSet_lt _)
  · rw [if_neg (by simp [h]), if_neg (by rcases hb with hb | hb <;> simp [hb]), if_pos hl]
    exact State.attemptFailed_of_same (State.failAttempt_attemptFailed _ p.val) (s.fieldOf_takeId _ _ _) (s.takeId_beat _)

/-! ### CREDIT_INIT -/

/-- A port becomes ACTIVE: its fields and its event, before the fault of one trained below x4. -/
def State.activated (p : Nat) (resumed : Bool) (s : State) : State :=
  let b := s.beat.lbc
  let s := s.modPort p fun q => { q with
    replay := q.retry, ackedAt := b, fresh := false, missed := [0, 0, 0, 0], errors := [], changeAt := none }
  ((((s.putField KLK_PORT_STAT_ATTEMPTS p 0).putBit KLK_PORT_STAT_RESUMED p resumed).setPort p 6).event (1008 + 8 * p)).updateHop p

theorem State.enterActive_eq (s : State) (p : Nat) (resumed : Bool) : s.enterActive p resumed =
    let t := s.activated p resumed
    if t.fieldOf KLK_PORT_STAT_LANES p = 15 then t else t.fault 9 0 0x0902 ((15 - t.fieldOf KLK_PORT_STAT_LANES p) * 16 + p) 0 := rfl

theorem State.activated_port (s : State) (p : Nat) (resumed : Bool) : (s.activated p resumed).port p =
    { s.port p with replay := (s.port p).retry, ackedAt := s.beat.lbc, fresh := false, missed := [0, 0, 0, 0], errors := [], changeAt := none,
                    since := s.beat.lbc } := by
  unfold State.activated
  dsimp only
  rw [State.port_updateHop, State.port_event, State.setPort_port, State.port_putBit, State.port_putField, State.port_modPort,
    State.putBit_beat, State.putField_beat, State.modPort_beat]

theorem State.activated_active (s : State) (p : Nat) (resumed : Bool) :
    (s.activated p resumed).portState p = 6 ∧ (s.activated p resumed).bitOf KLK_PORT_STAT_RESUMED p = resumed := by
  unfold State.activated
  dsimp only
  refine ⟨?_, ?_⟩
  · unfold State.portState
    rw [State.fieldOf_updateHop _ _ _ _ rfl, State.fieldOf_event _ _ _ _ (by decide)]
    exact State.setPort_portState _ _ (by decide)
  · rw [State.bitOf_updateHop _ _ _ _ rfl, State.bitOf_eq _ _ _ (by decide), State.fieldOf_event _ _ _ _ (by decide),
      ← State.bitOf_eq _ _ _ (by decide), State.bitOf_setPort _ _ _ _ _ (by decide) (by decide), State.bitOf_putBit _ _ _ _ (by decide)]

/-- The fault of a narrow port changes neither its fields nor the port. -/
theorem State.enterActive_leaves (s : State) (p : Nat) (resumed : Bool) : let t := s.enterActive p resumed
    t.portState p = 6 ∧ t.bitOf KLK_PORT_STAT_RESUMED p = resumed ∧ t.port p =
    { s.port p with replay := (s.port p).retry, ackedAt := s.beat.lbc, fresh := false, missed := [0, 0, 0, 0], errors := [], changeAt := none,
                    since := s.beat.lbc } := by
  obtain ⟨hstate, hbit⟩ := s.activated_active p resumed
  have hport := s.activated_port p resumed
  rw [State.enterActive_eq]
  generalize s.activated p resumed = u at hstate hbit hport ⊢
  dsimp only
  split
  · exact ⟨hstate, hbit, hport⟩
  · exact ⟨(State.fieldOf_fault ..).trans hstate, (State.bitOf_fault ..).trans hbit, (State.port_fault ..).trans hport⟩

/-- Both sides present the partner and the sessions agreed last (R345). -/
theorem State.mayResume_iff (s : State) (p : Nat) (i : BitVec 11) (x : Presented) : s.mayResume p i x = true ↔
    (s.port p).agreed = some (i.toNat, x.own.toNat, s.session p) ∧ (s.port p).fresh = false ∧
      x.agreed = some (s.portId p, BitVec.ofNat 16 (s.session p)) := by
  unfold State.mayResume
  simp only [Bool.and_eq_true, beq_iff_eq, Bool.not_eq_true', and_assoc]

theorem State.discardRetry_port (s : State) (p : Nat) : (s.discardRetry p).port p =
    { s.port p with retry := [], replay := [], replays := 0, naked := none, injected := false } := by
  unfold State.discardRetry
  dsimp only
  split
  · exact State.port_modPort s p _
  · unfold State.countUp
    rw [State.port_fault, State.port_putField, State.port_modPort]

/-- A discarded retry buffer changes no state of a port. -/
theorem State.discardRetry_portState (s : State) (p q : Nat) : (s.discardRetry p).portState q = s.portState q :=
  (State.discardRetry_kept (Covers.refl _) (Kept.refl s) p).fieldOf KLK_PORT_STAT_STATE (by decide) q

theorem State.discardRetry_seed (s : State) (p : Nat) : (s.discardRetry p).klk.seed = s.klk.seed := by
  unfold State.discardRetry
  dsimp only
  split
  · rfl
  · unfold State.countUp
    rw [State.fault_klk, State.putField_klk]
    rfl

theorem State.discardRetry_session (s : State) (p : Nat) : (s.discardRetry p).session p = s.session p := by
  unfold State.session
  rw [State.discardRetry_port, State.discardRetry_seed]

/-- A fresh initialisation: the numbers begin anew, and the session and the agreement are one up (R345). -/
theorem State.freshStart_port (s : State) (p : Nat) (partner : Nat × Nat) (c : W32) : let q := (s.freshStart p partner c).port p
    q.retry = [] ∧ q.seq = 0 ∧ q.ack = 4095 ∧ q.agreed = some (partner.1, (partner.2 + 1) % 65536, (s.session p + 1) % 65536) ∧
      q.session = some ((s.session p + 1) % 65536) := by
  unfold State.freshStart
  dsimp only
  generalize hu : (s.discardRetry p).modDelay p (fun d => { d with asked := false, t1 := none }) = u
  have hklk : u.klk = (s.discardRetry p).klk := by rw [← hu]; rfl
  have hport : u.port p = (s.discardRetry p).port p := State.port_of_klk hklk p
  have hsession : u.session p = s.session p := by
    rw [← s.discardRetry_session p]
    unfold State.session
    rw [hport, hklk]
  have hblocks : (if (u.port p).blocks.length = fabricBlocks (u.vcTotals p) then ((u.port p).blocks, u)
      else (u.freeBlockList 4 (u.port p).blocks).takeBlocks 4 (fabricBlocks (u.vcTotals p))).2.klk = u.klk := by
    split
    · rfl
    · exact (State.takeBlocks_kept (Covers.refl _) 4 _ (Kept.refl _)).same .klk (by decide) |>.trans
        ((State.freeBlockList_kept (Covers.refl _) (Kept.refl u) 4 _).same .klk (by decide))
  rw [State.port_modPort, State.port_of_klk hblocks, hsession]
  exact ⟨by rw [hport, State.discardRetry_port], rfl, rfl, rfl, rfl⟩

/-- CREDIT_INIT resumes where both sides present what they agreed last. -/
theorem exec_creditInit_resume {s : State} (hr : s.running = true) {p : Fin 8} (hs : s.portState p.val = 5) {i : BitVec 11} {x : Presented}
    {c : W32} (h : s.mayResume p.val i x = true) : exec (.creditInit p i x c) s = .next (s.enterActive p.val true) := by
  refine (done_live hr _).trans (congrArg Host.Outcome.next ?_)
  dsimp only
  rw [if_neg (not_not.2 hs), if_pos h]

/-- CREDIT_INIT otherwise starts afresh, once no receive buffer is held. -/
theorem exec_creditInit_fresh {s : State} (hr : s.running = true) {p : Fin 8} (hs : s.portState p.val = 5) {i : BitVec 11} {x : Presented}
    {c : W32} (h : ¬s.mayResume p.val i x = true) : exec (.creditInit p i x c) s = .next (
      if (s.port p.val).held.any (· != 0) then s.discardRetry p.val
      else (s.freshStart p.val (i.toNat, x.own.toNat) c).enterActive p.val false) := by
  refine (done_live hr _).trans (congrArg Host.Outcome.next ?_)
  dsimp only
  rw [if_neg (not_not.2 hs), if_neg h]

/-! ### Timeouts, losses, and the third attempt -/

theorem exec_trainingTimeout {s : State} (hr : s.running = true) {p : Fin 8} {d : Nat}
    (h : s.portState p.val = 2 ∧ d = 1600000 ∨ s.portState p.val = 3 ∧ d = 40000000 ∨ s.portState p.val = 4 ∧ d = 800000 ∨
      s.portState p.val = 5 ∧ d = 8000000) :
    exec (.trainingTimeout p) s = .next (if (s.port p.val).since + d ≤ s.beat.lbc then s.failAttempt p.val else s) := by
  refine (done_live hr _).trans (congrArg Host.Outcome.next ?_)
  dsimp only
  rcases h with ⟨hst, rfl⟩ | ⟨hst, rfl⟩ | ⟨hst, rfl⟩ | ⟨hst, rfl⟩ <;> simp only [hst]

theorem exec_lossOfSignal {s : State} (hr : s.running = true) {p : Fin 8} {l : BitVec 4}
    (h : 2 ≤ s.portState p.val ∧ s.portState p.val ≤ 5 ∧ l.toNat &&& (s.port p.val).set ≠ 0 ∨
      s.portState p.val = 6 ∧ l.toNat &&& (s.port p.val).set = (s.port p.val).set) :
    exec (.lossOfSignal p l) s = .next (s.failAttempt p.val) := by
  refine (done_live hr _).trans (congrArg Host.Outcome.next ?_)
  dsimp only
  rw [if_pos h]

theorem exec_noPartnerRetry_detect {s : State} (hr : s.running = true) {p : Fin 8} (hs : s.portState p.val = 7)
    (ha : s.bitOf KLK_PORT_CFG_AUTO_RETRY p.val = true) (hb : (s.port p.val).since + 800000000 ≤ s.beat.lbc) :
    ∃ t, exec (.noPartnerRetry p) s = .next t ∧ t.portState p.val = 1 ∧ t.fieldOf KLK_PORT_STAT_ATTEMPTS p.val = 0 := by
  refine ⟨_, done_live hr _, ?_⟩
  dsimp only
  rw [if_pos ⟨hs, ha, hb⟩, State.fieldOf_setPort _ _ _ _ _ (by decide), State.fieldOf_putField _ _ _ _ (by decide)]
  exact ⟨State.setPort_portState _ _ (by decide), rfl⟩

/-! ### KLK_PORT_CTL -/

/-- What KLK_PORT_CTL does to one port it acts on: a retraining, and NO_PARTNER to DETECT. -/
def State.controlPort (op : Byte) (p : Nat) (s : State) : State :=
  if s.portState p = 7 then
    let s := (s.putField KLK_PORT_STAT_ATTEMPTS p 0).setPort p 1
    if op = 1 then s.modPort p fun q => { q with fresh := true } else s
  else s.retrain p 2 (op == 1)

/-- The ports on which it acts: with op 2 those in NO_PARTNER alone. -/
def State.controlled (s : State) (ports op : Byte) : List Nat :=
  if op = 2 then (maskList ports 8).filter (fun p => s.portState p == 7) else maskList ports 8

theorem State.controlPort_portState (s : State) (op : Byte) (p : Nat) :
    (s.controlPort op p).portState p = if s.portState p = 7 then 1 else 2 := by
  unfold State.controlPort
  split
  · have h1 := State.setPort_portState (s.putField KLK_PORT_STAT_ATTEMPTS p 0) p (st := 1) (by decide)
    dsimp only
    split
    · exact (State.fieldOf_modPort _ _ _ _ _).trans h1
    · exact h1
  · exact State.retrain_portState s p _ (by decide)

theorem State.controlPort_portState_other (s : State) (op : Byte) {p q : Nat} (h : q ≠ p) :
    (s.controlPort op q).portState p = s.portState p := by
  unfold State.controlPort
  split
  · have h1 : ((s.putField KLK_PORT_STAT_ATTEMPTS q 0).setPort q 1).portState p = s.portState p := by
      rw [State.setPort_portState_other _ h]
      exact State.fieldOf_putField_apart _ _ _ _ _ _ (by decide)
    dsimp only
    split
    · exact (State.fieldOf_modPort _ _ _ _ _).trans h1
    · exact h1
  · exact State.retrain_portState_other s h 2 _

/-- A port that is acted on once ends in DETECT or ALIGN; one that is not acted on stays. -/
theorem State.each_controlPort_portState (op : Byte) (p : Nat) {l : List Nat} (hl : l.Nodup) : ∀ s : State,
    (each l (State.controlPort op) s).portState p = if p ∈ l then (if s.portState p = 7 then 1 else 2) else s.portState p := by
  induction l with
  | nil => intro s; rfl
  | cons q l ih =>
    intro s
    obtain ⟨hq, hl⟩ := List.nodup_cons.1 hl
    have hrest := ih hl (s.controlPort op q)
    show (each l (State.controlPort op) (s.controlPort op q)).portState p = _
    rw [hrest]
    by_cases hp : p = q
    · subst hp
      rw [if_neg hq, if_pos List.mem_cons_self, State.controlPort_portState]
    · rw [State.controlPort_portState_other s op (fun e => hp e.symm)]
      simp only [List.mem_cons, hp, false_or]

theorem maskList_nodup {w : Nat} (m : BitVec w) (n : Nat) : (maskList m n).Nodup := List.Nodup.filter _ List.nodup_range

theorem State.controlled_nodup (s : State) (ports op : Byte) : (s.controlled ports op).Nodup := by
  unfold State.controlled
  split
  · exact List.Nodup.filter _ (maskList_nodup ports 8)
  · exact maskList_nodup ports 8

theorem exec_klkPortCtl_acts {s : State} {iss : Issuer} (h : s.serves iss) {m op : Byte} (hop : op.toNat ≤ 2) {p : Nat} (hp : p ∈ maskList m 8)
    (hen : ∀ i ∈ maskList m 8, s.portState i ≠ 0) : exec (.klkPortCtl iss m op) s =
      .next ((each (s.controlled m op) (State.controlPort op) s).complete iss Status.ok [listMask (s.controlled m op)]) := by
  have hm : m ≠ 0#8 := by
    rintro rfl
    simp [maskList] at hp
  have hany : (maskList m 8).any (fun p => s.portState p == 0) = false := by simpa using hen
  show done (s.command iss 0x0901 true _ _) = _
  rw [State.command_runs h]
  · rfl
  · simp [hm, hany, hop]

/-- Settles O44: each command of training by the state it acts in, and KLK_PORT_CTL port by port. -/
theorem portsTrain : Obligations.PortsTrain := by
  unfold Obligations.PortsTrain
  intro p s hr
  refine ⟨fun l hs hl => exec_signalDetect_align hr hs hl, fun l hs hl => exec_laneLock_eq hr hs hl,
    fun hs => exec_eqAgreed_negotiate hr hs, fun n hs => exec_negotiateExchange_outcomes hr hs n, fun i x c hs => ⟨fun h => ?_, fun h => ⟨fun hh => ?_, fun hh => ?_⟩⟩,
    fun d hd => ⟨fun hb => ?_, fun hb => ?_⟩, fun l hl => ⟨_, exec_lossOfSignal hr hl, s.failAttempt_attemptFailed p.val⟩,
    fun hs ha hb => exec_noPartnerRetry_detect hr hs ha hb, fun iss m op h hop hp hen => ?_⟩
  · obtain ⟨hstate, hbit, hport⟩ := s.enterActive_leaves p.val true
    refine ⟨_, exec_creditInit_resume hr hs ((s.mayResume_iff p.val i x).2 h), hstate, hbit, ?_⟩
    rw [hport]
    exact ⟨rfl, rfl⟩
  · have hex := exec_creditInit_fresh hr hs (c := c) (mt (s.mayResume_iff p.val i x).1 h)
    rw [if_neg (by simp [hh])] at hex
    obtain ⟨hretry, hseq, hack, hagreed, hsession⟩ := s.freshStart_port p.val (i.toNat, x.own.toNat) c
    obtain ⟨hstate, hbit, hport⟩ := (s.freshStart p.val (i.toNat, x.own.toNat) c).enterActive_leaves p.val false
    refine ⟨_, hex, hstate, hbit, ?_⟩
    rw [hport]
    exact ⟨hretry, hseq, hack, hagreed, hsession⟩
  · have hex := exec_creditInit_fresh hr hs (c := c) (mt (s.mayResume_iff p.val i x).1 h)
    rw [if_pos hh] at hex
    refine ⟨_, hex, (s.discardRetry_portState p.val p.val).trans hs, ?_⟩
    rw [State.discardRetry_port]
  · refine ⟨_, exec_trainingTimeout hr hd, ?_⟩
    rw [if_pos hb]
    exact s.failAttempt_attemptFailed p.val
  · rw [exec_trainingTimeout hr hd, if_neg (Nat.not_le.2 hb)]
  · refine ⟨_, exec_klkPortCtl_acts h hop hp hen, ?_⟩
    have hfinal := (State.complete_kept (Covers.refl _) (Kept.refl (each (s.controlled m op) (State.controlPort op) s)) iss Status.ok
      [listMask (s.controlled m op)]).fieldOf KLK_PORT_STAT_STATE (by decide) p.val
    refine hfinal.trans ((State.each_controlPort_portState op p.val (s.controlled_nodup m op) s).trans ?_)
    unfold State.controlled
    by_cases hop2 : op = 2
    · simp only [hop2, if_true, List.mem_filter, hp, true_and, beq_iff_eq]
      split <;> rfl
    · simp only [hop2, if_false, hp, if_true]

end Sys2Proof.Machine
end


section
/-! PROOFS. Reads over a path: the snapshots they take and the words they return (R9, R41, R42, R274). -/

namespace Sys2Proof.Machine

/-! ### Snapshots and answers -/

theorem State.snap_setSnap (s : State) (p : Path) (k j : Nat) (v : W32) : (s.setSnap p k v).snap p j = if j = k then v else s.snap p j := by
  split
  · next h => subst h; exact Tab.get_set_same _ _ _ _
  · next h => exact Tab.get_set_other _ _ _ _ _ (by omega)

theorem State.answers_answer (s : State) (p : Path) (v : W64) : (s.answer p v).hst.answers.get (fun _ => 0) (pathKey p) = v :=
  Tab.get_set_same _ _ _ _

theorem State.snap_of_snaps {s t : State} (h : t.hst.snaps = s.hst.snaps) (p : Path) (k : Nat) : t.snap p k = s.snap p k := by
  unfold State.snap; rw [h]

theorem State.clearRead_hst (s : State) (r : Reg) : (s.clearRead r).hst = s.hst := by
  unfold State.clearRead
  dsimp only
  split
  · rfl
  · exact State.setReg_hst _ _ _ _ _

theorem State.snap_clearRead (s : State) (r : Reg) (p : Path) (k : Nat) : (s.clearRead r).snap p k = s.snap p k :=
  State.snap_of_snaps (congrArg Hst.snaps (s.clearRead_hst r)) p k

theorem State.snap_answer (s : State) (q : Path) (v : W64) (p : Path) (k : Nat) : (s.answer q v).snap p k = s.snap p k :=
  State.snap_of_snaps rfl p k

/-! ### The words of a snapshot -/

theorem snapWords_word_lt {r x : Reg} (h : x ∈ snapWords r) : x.word < 4 := by
  unfold snapWords at h
  split at h
  · revert h; revert x; simp
  · split at h
    · simp only [List.mem_flatMap, List.mem_map, List.mem_range] at h
      obtain ⟨st, hst, w, hw, rfl⟩ := h
      have hwords : ∀ st ∈ blockStems, st.info.words < 4 := by decide
      exact Nat.lt_trans hw (hwords st hst)
    · revert h; revert x; simp

/-- Two words of one snapshot with one key are one word. -/
theorem snapWords_key_inj {r x y : Reg} (hx : x ∈ snapWords r) (hy : y ∈ snapWords r)
    (h : regKey x.stem x.inst x.word = regKey y.stem y.inst y.word) : x = y := by
  obtain ⟨h1, h2, h3⟩ := regKey_inj (snapWords_word_lt hx) (snapWords_word_lt hy) h
  cases x; cases y
  simp_all

/-- The snapshot that a read of a word takes: the words that belong together, as they stand (R41, R274). -/
def State.snapAll (p : Path) (r : Reg) (s : State) : State :=
  each (snapWords r) (fun x t => t.setSnap p (regKey x.stem x.inst x.word) (s.view x)) s

/-- Words snapped one after another, of which no two share a key. -/
theorem snap_each_setSnap (p : Path) (view : Reg → W32) (y : Reg) (l : List Reg) :
    ∀ s : State, (∀ x ∈ l, regKey x.stem x.inst x.word = regKey y.stem y.inst y.word → x = y) →
      (each l (fun x t => t.setSnap p (regKey x.stem x.inst x.word) (view x)) s).snap p (regKey y.stem y.inst y.word) =
        if y ∈ l then view y else s.snap p (regKey y.stem y.inst y.word) := by
  induction l with
  | nil => intro s _; rfl
  | cons x l ih =>
    intro s h
    have hl := ih (s.setSnap p (regKey x.stem x.inst x.word) (view x)) fun z hz => h z (List.mem_cons_of_mem _ hz)
    refine hl.trans ?_
    by_cases hy : y ∈ l
    · rw [if_pos hy, if_pos (List.mem_cons_of_mem _ hy)]
    · rw [if_neg hy, State.snap_setSnap]
      by_cases hk : regKey y.stem y.inst y.word = regKey x.stem x.inst x.word
      · obtain rfl := h x List.mem_cons_self hk.symm
        rw [if_pos rfl, if_pos List.mem_cons_self]
      · have hne : y ≠ x := fun e => hk (by rw [e])
        rw [if_neg hk, if_neg (by simp [hne, hy])]

/-- Every word of a snapshot holds what stood there. -/
theorem State.snap_snapAll (s : State) (p : Path) {r x : Reg} (hx : x ∈ snapWords r) :
    (s.snapAll p r).snap p (regKey x.stem x.inst x.word) = s.view x := by
  refine (snap_each_setSnap p s.view x (snapWords r) s fun y hy h => snapWords_key_inj hy hx h).trans ?_
  rw [if_pos hx]

/-! ### Reads that take a snapshot -/

theorem fromSnap_of_takesSnap {r : Reg} (h : takesSnap r = true) : fromSnap r = false := by simp [fromSnap, h]

/-- A word whose read takes a snapshot is the LO word of the ledger's first register, of a channel's count, or of a 64-bit value. -/
theorem takesSnap_cases {r : Reg} (h : takesSnap r = true) : r.word = 0 ∧ (r.stem = .MGT_SPR_POSTED ∨ r.stem = .TIA_CNT ∨
    (ledgerStems.contains r.stem = false ∧ blockStems.contains r.stem = false ∧ r.stem.info.words = 2)) := by
  unfold takesSnap at h
  split at h
  · simp only [Bool.and_eq_true, beq_iff_eq] at h
    exact ⟨h.2, Or.inl h.1⟩
  · split at h
    · simp only [Bool.and_eq_true, beq_iff_eq] at h
      exact ⟨h.2, Or.inr (Or.inl h.1)⟩
    · next hl hb =>
      simp only [Bool.and_eq_true, beq_iff_eq] at h
      exact ⟨h.2, Or.inr (Or.inr ⟨by simpa using hl, by simpa using hb, h.1⟩)⟩

/-- Its HI word is read from the snapshot, as it is. -/
theorem hiWord_fromSnap {r : Reg} (h : takesSnap r = true) :
    fromSnap ⟨r.stem, r.inst, 1⟩ = true ∧ r.stem ≠ .MGT_CQ_STAT := by
  obtain ⟨_, h | h | ⟨hl, hb, hw⟩⟩ := takesSnap_cases h
  · rw [h]; exact ⟨rfl, by decide⟩
  · rw [h]; exact ⟨rfl, by decide⟩
  · refine ⟨?_, fun e => by rw [e] at hl; exact absurd hl (by decide)⟩
    unfold fromSnap takesSnap
    simp only [hl, hb, hw]
    rfl

/-- And it is part of the snapshot. -/
theorem hiWord_mem_snapWords {r : Reg} (h : takesSnap r = true) (hi : r.stem = .MGT_SPR_POSTED → r.inst = 0) :
    (⟨r.stem, r.inst, 1⟩ : Reg) ∈ snapWords r := by
  obtain ⟨_, hs | hs | ⟨hl, hb, _⟩⟩ := takesSnap_cases h
  · rw [hs, hi hs]
    unfold snapWords
    rw [if_pos (by rw [hs]; rfl)]
    decide
  · unfold snapWords
    rw [hs, if_neg (by decide), if_pos (by decide)]
    refine List.mem_flatMap.2 ⟨.TIA_CNT, by decide, List.mem_map.2 ⟨1, by decide, rfl⟩⟩
  · unfold snapWords
    rw [if_neg (by rw [hl]; decide), if_neg (by rw [hb]; decide)]
    simp

theorem State.readReg_takes (s : State) (p : Path) {r : Reg} (h : takesSnap r = true) :
    s.readReg p r = (s.view r, ((s.snapAll p r).clearRead r).answer p ((s.view r).zeroExtend 64)) := by
  unfold State.readReg
  rw [fromSnap_of_takesSnap h, h]
  rfl

theorem State.readReg_fromSnap (s : State) (p : Path) {r : Reg} (h : fromSnap r = true) : s.readReg p r =
    (s.snapped p r, (when (r.stem == .MGT_CQ_STAT) (State.clearRead r) s).answer p ((s.snapped p r).zeroExtend 64)) := by
  unfold State.readReg
  rw [if_pos h]

theorem State.readReg_fromSnap_snaps (s : State) (p : Path) {r : Reg} (h : fromSnap r = true) : (s.readReg p r).2.hst.snaps = s.hst.snaps := by
  rw [State.readReg_fromSnap s p h]
  unfold when
  split
  · show (s.clearRead r).hst.snaps = s.hst.snaps
    rw [State.clearRead_hst]
  · rfl

/-- The snapped words after a read that takes the snapshot. -/
theorem State.snap_readReg_takes (s : State) (p : Path) {r : Reg} (h : takesSnap r = true) (k : Nat) :
    (s.readReg p r).2.snap p k = (s.snapAll p r).snap p k := by
  rw [State.readReg_takes s p h, State.snap_answer, State.snap_clearRead]

/-- An 8-byte read returns the whole value, and leaves the snapshot of its LO word (R41). -/
theorem State.readWide_takes (s : State) (p : Path) {r : Reg} (h : takesSnap r = true) (hi : r.stem = .MGT_SPR_POSTED → r.inst = 0) :
    (s.readWide p r).hst.answers.get (fun _ => 0) (pathKey p) = join64 (s.view r) (s.view ⟨r.stem, r.inst, 1⟩) ∧
    ∀ k, (s.readWide p r).snap p k = (s.snapAll p r).snap p k := by
  obtain ⟨hw, _⟩ := takesSnap_cases h
  obtain ⟨hfrom, hcq⟩ := hiWord_fromSnap h
  have hr1 : ({ r with word := r.word + 1 } : Reg) = ⟨r.stem, r.inst, 1⟩ := by rw [hw]
  have hlow : (s.readReg p r).1 = s.view r := congrArg Prod.fst (s.readReg_takes p h)
  have hhigh : ((s.readReg p r).2.readReg p ⟨r.stem, r.inst, 1⟩).1 = s.view ⟨r.stem, r.inst, 1⟩ := by
    rw [State.readReg_fromSnap _ _ hfrom]
    unfold State.snapped
    rw [if_neg hcq, State.snap_readReg_takes s p h]
    exact s.snap_snapAll p (hiWord_mem_snapWords h hi)
  unfold State.readWide
  dsimp only
  rw [hr1, hlow, hhigh]
  refine ⟨State.answers_answer _ _ _, fun k => ?_⟩
  rw [State.snap_answer, State.snap_of_snaps (State.readReg_fromSnap_snaps _ p hfrom), State.snap_readReg_takes s p h]

/-! ### LO_WORD_READ -/

theorem ofSlot_posted {sub o : Nat} {st : Stem} (h : Stem.ofSlot sub o = some st) (hs : st = .MGT_SPR_POSTED) : sub ≠ 5 := by
  subst hs
  intro e
  have hslot := List.find?_some h
  simp only [Bool.and_eq_true, beq_iff_eq] at hslot
  rw [e] at hslot
  exact absurd hslot.1 (by decide)

/-- A word that an offset outside the pods' window names has an index below its register's count. -/
theorem ofOffset_inst {o : Nat} {r : Reg} (h : Reg.ofOffset o = some r) :
    ∃ n, Stem.ofSlot (o / 0x1000000) n = some r.stem ∧ (o / 0x1000000 ≠ 5 → r.inst < r.stem.info.count) := by
  unfold Reg.ofOffset at h
  dsimp only at h
  generalize o / 0x1000000 = sub at h ⊢
  generalize o % 0x1000000 = q at h
  generalize (if sub = 5 then q % 0x100000 else q) = q' at h
  cases hst : Stem.ofSlot sub (q' / 0x4000) with
  | none => rw [hst] at h; cases h
  | some st =>
    rw [hst] at h
    dsimp only at h
    rw [Option.ite_none_right_eq_some] at h
    obtain ⟨⟨_, hi, _⟩, he⟩ := h
    obtain rfl := Option.some.inj he
    exact ⟨_, hst, fun h5 => by rw [if_neg h5]; exact hi⟩

theorem regAt_posted_inst {a : Nat} {r : Reg} (h : regAt a = some r) (hs : r.stem = .MGT_SPR_POSTED) : r.inst = 0 := by
  unfold regAt at h
  rw [Option.ite_none_left_eq_some] at h
  obtain ⟨n, hslot, hinst⟩ := ofOffset_inst h.2
  have hlt := hinst (ofSlot_posted hslot hs)
  have hcount : r.stem.info.count = 1 := by rw [hs]; rfl
  omega

theorem fastReg_not_posted {a : Nat} {r : Reg} (h : fastReg a = some r) : r.stem ≠ .MGT_SPR_POSTED := by
  unfold fastReg at h
  split at h <;> cases h <;> exact fun e => by cases e

/-- The ledger's register stands at index 0 on every path. -/
theorem pathReg_posted_inst {p : Path} {a : Nat} {r : Reg} (h : pathReg p a = some r) (hs : r.stem = .MGT_SPR_POSTED) : r.inst = 0 := by
  unfold pathReg at h
  split at h
  · exact absurd hs (fastReg_not_posted h)
  · exact absurd hs (fastReg_not_posted h)
  · exact regAt_posted_inst h hs
  · split at h
    · exact regAt_posted_inst h hs
    · cases h

theorem exec_loWordRead {s : State} (hr : s.running = true) {p : Path} {a : W64} {r : Reg} (h : pathReg p a.toNat = some r)
    (ht : takesSnap r = true) (wide : Bool) : exec (.loWordRead ⟨p, wide⟩ a) s = .next ((s.beforeRead r).readSized p r wide) := by
  refine (done_live hr _).trans (congrArg Host.Outcome.next ?_)
  unfold State.readWhere
  dsimp only
  rw [h]
  dsimp only
  rw [if_pos (by simp [ht])]

/-- A later read of a word of the snapshot returns the word snapped; of MGT_CQ_STAT, REFUSED is live. -/
theorem State.readReg_later {u v : State} {p : Path} {r x : Reg} (hx : x ∈ snapWords r) (hv : v.hst.snaps = (u.snapAll p r).hst.snaps)
    (hf : fromSnap x = true) : (v.readReg p x).1 =
      if x.stem = .MGT_CQ_STAT then (u.view x &&& 0xFFFF) ||| (v.view x &&& 0xFFFF0000) else u.view x := by
  rw [State.readReg_fromSnap _ _ hf]
  unfold State.snapped
  dsimp only
  rw [State.snap_of_snaps hv, State.snap_snapAll _ _ hx]
  rfl

/-! ### READ_CLEAR_READ -/

/-- No word with read-clear fields belongs to a snapshot, but MGT_CQ_STAT. -/
theorem readClears_unsnapped : ∀ n < 256, readClears.testBit (32 + n) = true → Stem.ofNat n ≠ .MGT_CQ_STAT →
    (blockStems.contains (Stem.ofNat n) || ledgerStems.contains (Stem.ofNat n) || (Stem.ofNat n).info.words == 2) = false := by
  decide +kernel

theorem readClear_stem {r : Reg} (h : (r.stem.word r.inst r.word).rc ≠ 0) (hs : r.stem ≠ .MGT_CQ_STAT) :
    (blockStems.contains r.stem || ledgerStems.contains r.stem || r.stem.info.words == 2) = false := by
  have hb : readClears.testBit (32 + r.stem.ctorIdx) = true := by
    by_contra e
    exact h (not_readClears r.stem (by simpa using e) _ _)
  have := readClears_unsnapped r.stem.ctorIdx (Stem.ctorIdx_lt _) hb (by rwa [Stem.ofNat_ctorIdx])
  rwa [Stem.ofNat_ctorIdx] at this

theorem fromSnap_of_readClear {r : Reg} (h : (r.stem.word r.inst r.word).rc ≠ 0) (hs : r.stem ≠ .MGT_CQ_STAT) : fromSnap r = false := by
  unfold fromSnap
  rw [readClear_stem h hs, Bool.false_and]

theorem takesSnap_of_readClear {r : Reg} (h : (r.stem.word r.inst r.word).rc ≠ 0) : takesSnap r = false := by
  by_cases hs : r.stem = .MGT_CQ_STAT
  · unfold takesSnap
    rw [hs]
    rfl
  · have hc := readClear_stem h hs
    simp only [Bool.or_eq_false_iff] at hc
    obtain ⟨⟨hblock, hledger⟩, hwords⟩ := hc
    unfold takesSnap
    simp only [hblock, hledger, hwords]
    rfl

theorem exec_readClearRead {s : State} (hr : s.running = true) {p : Path} {a : W64} {r : Reg} (h : pathReg p a.toNat = some r)
    (hc : (r.stem.word r.inst r.word).rc ≠ 0) : exec (.readClearRead p a) s = .next ((s.beforeRead r).readReg p r).2 := by
  refine (done_live hr _).trans (congrArg Host.Outcome.next ?_)
  unfold State.readWhere
  dsimp only
  rw [h]
  dsimp only
  rw [if_pos (by simpa using hc)]
  rfl

theorem State.clearRead_rc (s : State) {r : Reg} (hc : (r.stem.word r.inst r.word).rc ≠ 0) : s.clearRead r =
    s.setReg r.stem r.inst r.word (s.reg r.stem r.inst r.word &&& ~~~(BitVec.ofNat 32 (r.stem.word r.inst r.word).rc)) := by
  unfold State.clearRead
  exact if_neg hc

/-- A read of a word with read-clear fields answers it and clears them; of MGT_CQ_STAT, OUTSTANDING is the one snapped (R9). -/
theorem State.readReg_readClear (s : State) (p : Path) {r : Reg} (hc : (r.stem.word r.inst r.word).rc ≠ 0) :
    (s.readReg p r).2 = (s.clearRead r).answer p ((if r.stem = .MGT_CQ_STAT then
      (s.snap p (regKey r.stem r.inst r.word) &&& 0xFFFF) ||| (s.view r &&& 0xFFFF0000) else s.view r).zeroExtend 64) := by
  by_cases hs : r.stem = .MGT_CQ_STAT
  · have hf : fromSnap r = true := by
      unfold fromSnap
      rw [takesSnap_of_readClear hc, hs]
      rfl
    rw [State.readReg_fromSnap s p hf, if_pos hs]
    unfold State.snapped when
    rw [if_pos hs, if_pos (by simpa using hs)]
    rfl
  · unfold State.readReg
    rw [fromSnap_of_readClear hc hs, takesSnap_of_readClear hc, if_neg hs]
    rfl

/-! ### TIA_CNT_LO_READ and the words that nothing is assigned to -/

theorem regAt_TIA_CNT (ch : Fin 128) : regAt (regBase + Stem.offset .TIA_CNT ch.val 0) = some ⟨.TIA_CNT, ch.val, 0⟩ := by
  revert ch
  decide +kernel

theorem pathReg_windows {p : Path} (hp : p = .sesame ∨ p = .hazel 0 ∨ p = .hazel 1) (a : Nat) : pathReg p a = regAt a := by
  obtain rfl | rfl | rfl := hp
  · rfl
  · unfold pathReg; dsimp only; exact if_pos (by decide)
  · unfold pathReg; dsimp only; exact if_pos (by decide)

/-- The words of a channel's statistics block stand in the register file. -/
theorem State.view_block (s : State) {st : Stem} (h : st ∈ blockStems) (i w : Nat) : s.view ⟨st, i, w⟩ = s.reg st i w := by
  simp only [blockStems, List.mem_cons, List.not_mem_nil, or_false] at h
  obtain rfl | rfl | rfl | rfl | rfl | rfl | rfl | rfl := h <;> rfl

theorem block_mem_snapWords {st : Stem} (h : st ∈ blockStems) (i : Nat) {w : Nat} (hw : w < st.info.words) :
    (⟨st, i, w⟩ : Reg) ∈ snapWords ⟨.TIA_CNT, i, 0⟩ := by
  unfold snapWords
  rw [if_neg (by dsimp only; decide), if_pos (by dsimp only; decide)]
  exact List.mem_flatMap.2 ⟨st, h, List.mem_map.2 ⟨w, List.mem_range.2 hw, rfl⟩⟩

theorem exec_tiaCntLoRead {s : State} (hr : s.running = true) {p : Path} (hp : p = .sesame ∨ p = .hazel 0 ∨ p = .hazel 1)
    (ch : Fin 128) (wide : Bool) :
    exec (.tiaCntLoRead ⟨p, wide⟩ ch) s = .next (s.readSized p ⟨.TIA_CNT, ch.val, 0⟩ wide) := by
  refine (done_live hr _).trans (congrArg Host.Outcome.next ?_)
  dsimp only
  rw [pathReg_windows hp, regAt_TIA_CNT]

theorem State.tiaCnt_read (s : State) (p : Path) (ch : Nat) (wide : Bool) :
    ((s.readSized p ⟨.TIA_CNT, ch, 0⟩ wide).hst.answers.get (fun _ => 0) (pathKey p) =
      if wide then join64 (s.reg .TIA_CNT ch 0) (s.reg .TIA_CNT ch 1) else (s.reg .TIA_CNT ch 0).zeroExtend 64) ∧
    ∀ k, (s.readSized p ⟨.TIA_CNT, ch, 0⟩ wide).snap p k = (s.snapAll p ⟨.TIA_CNT, ch, 0⟩).snap p k := by
  have ht : takesSnap ⟨.TIA_CNT, ch, 0⟩ = true := rfl
  cases wide
  case true => exact s.readWide_takes p ht (fun e => by cases e)
  case false =>
    refine ⟨?_, s.snap_readReg_takes p ht⟩
    show (s.readReg p ⟨.TIA_CNT, ch, 0⟩).2.hst.answers.get (fun _ => 0) (pathKey p) = _
    rw [State.readReg_takes s p ht]
    exact State.answers_answer _ _ _

theorem unassigned_pathReg {p : Path} {a : Nat} (h : unassigned p a = true) : pathReg p a = none := by
  simp only [unassigned, Bool.and_eq_true, decide_eq_true_eq, Option.isNone_iff_eq_none] at h
  obtain ⟨⟨⟨hp, _⟩, _⟩, hn⟩ := h
  cases p with
  | pcie => cases hp
  | i2c => cases hp
  | sesame => exact hn
  | hazel k =>
    unfold pathReg
    dsimp only
    rw [if_pos (by simpa using hp), hn]

theorem State.readWhere_unassigned (s : State) {p : Path} {a : Nat} (h : unassigned p a = true) (wide : Bool) (hit : Reg → Bool) :
    s.readWhere p a wide hit = s.answer p 0 := by
  unfold State.readWhere
  rw [unassigned_pathReg h]
  exact if_pos h

end Sys2Proof.Machine
end


section
/-! PROOFS. The TAP (R473; log entry 99) and the snapshot obligation. -/

namespace Sys2Proof.Machine

/-! ### A ball's level does not depend on the free values drawn -/

/-- The count of the free values drawn. -/
def State.withFree (s : State) (f : Nat) : State := { s with free := f }

theorem State.ownLevel_withFree (s : State) (f : Nat) (b : Ball) : (s.withFree f).ownLevel b = s.ownLevel b := by
  have hmk : ∀ n, (s.withFree f).mkBall n = s.mkBall n := fun _ => rfl
  have hto : ∀ n, (s.withFree f).toBall n = s.toBall n := fun _ => rfl
  have hsup : ∀ n, (s.withFree f).sup n = s.sup n := fun _ => rfl
  have hen : ∀ n, (s.withFree f).supEn n = s.supEn n := fun _ => rfl
  have hfault : (s.withFree f).faultNLow = s.faultNLow := rfl
  have hgpio : ∀ n, (s.withFree f).gpioLevel n = s.gpioLevel n := fun _ => rfl
  cases b with
  | channel n x neg => rfl
  | lane l r neg => rfl
  | place p => simp only [State.ownLevel, hmk, hto, hsup, hen, hfault, hgpio]; rfl

theorem State.ballLevel_withFree (s : State) (f : Nat) (b : Ball) : (s.withFree f).ballLevel b = s.ballLevel b := by
  have hcode : (s.withFree f).scanCode = s.scanCode := rfl
  unfold State.ballLevel
  rw [hcode]
  cases s.scanCode with
  | none => exact s.ownLevel_withFree f b
  | some code =>
    dsimp only
    split
    · cases outputCell (ballPair b).1 with
      | none => exact s.ownLevel_withFree f b
      | some x => rfl
    · exact s.ownLevel_withFree f b

/-! ### What the boundary-scan cells capture -/

/-- The level that a cell captures of State; none where it takes a free value. -/
def State.cellLevel (s : State) (c : ScanCell) : Option Bool := if c.part = .control then none else c.ball.bind s.ballLevel

theorem State.cellLevel_withFree (s : State) (f : Nat) (c : ScanCell) : (s.withFree f).cellLevel c = s.cellLevel c := by
  have hball : (s.withFree f).ballLevel = s.ballLevel := funext fun b => s.ballLevel_withFree f b
  unfold State.cellLevel
  rw [hball]

theorem State.captureCells_level (s : State) (c : ScanCell) (cs : List ScanCell) {v : Bool} (h : s.cellLevel c = some v) :
    State.captureCells (c :: cs) s = (v :: (State.captureCells cs s).1, (State.captureCells cs s).2) := by
  unfold State.cellLevel at h
  rw [State.captureCells, h]

theorem State.captureCells_free (s : State) (c : ScanCell) (cs : List ScanCell) (h : s.cellLevel c = none) :
    State.captureCells (c :: cs) s = ((Config.freeValue s.free).getLsbD 0 :: (State.captureCells cs (s.withFree (s.free + 1))).1,
      (State.captureCells cs (s.withFree (s.free + 1))).2) := by
  unfold State.cellLevel at h
  rw [State.captureCells, h]
  rfl

/-- One bit of every cell, the level where State holds it; only free values are drawn. -/
theorem State.captureCells_spec (cs : List ScanCell) : ∀ s : State, (State.captureCells cs s).1.length = cs.length ∧
    (∃ f, (State.captureCells cs s).2 = s.withFree f) ∧
    ∀ (i : Nat) (c : ScanCell) (v : Bool), cs[i]? = some c → s.cellLevel c = some v → (State.captureCells cs s).1[i]? = some v := by
  induction cs with
  | nil => exact fun s => ⟨rfl, ⟨s.free, rfl⟩, fun i c v h => by cases h⟩
  | cons c cs ih =>
    intro s
    cases hc : s.cellLevel c with
    | some v =>
      obtain ⟨hlen, hfree, hlevel⟩ := ih s
      rw [s.captureCells_level c cs hc]
      refine ⟨congrArg Nat.succ hlen, hfree, fun i d w hi hd => ?_⟩
      cases i with
      | zero => obtain rfl := Option.some.inj hi; exact hc.symm.trans hd
      | succ i => exact hlevel i d w hi hd
    | none =>
      obtain ⟨hlen, ⟨f, hfree⟩, hlevel⟩ := ih (s.withFree (s.free + 1))
      rw [s.captureCells_free c cs hc]
      refine ⟨congrArg Nat.succ hlen, ⟨f, hfree⟩, fun i d w hi hd => ?_⟩
      cases i with
      | zero => obtain rfl := Option.some.inj hi; rw [hc] at hd; cases hd
      | succ i => exact hlevel i d w hi ((s.cellLevel_withFree _ d).trans hd)

/-! ### A cycle of TCK -/

/-- The state with another TAP and other free values drawn. -/
def State.withTap (s : State) (x : Tap) (f : Nat) : State := { s with beat := { s.beat with tap := x }, free := f }

/-- What a cycle of TCK does before the TAP's state moves on. -/
def State.tckAct (tdi : Bool) (s : State) : State :=
  match s.beat.tap.st with
  | .reset => s.modTap fun t => { t with ir := none }
  | .captureDr => s.captureDr
  | .captureIr => s.modTap fun t => { t with shift := true :: List.replicate 7 false }
  | .shiftDr => s.modTap fun t => { t with shift := t.shift.drop 1 ++ [tdi] }
  | .shiftIr => s.modTap fun t => { t with shift := t.shift.drop 1 ++ [tdi] }
  | .updateIr => s.modTap fun t => { t with ir := some (BitVec.ofNat 8 (t.shift.foldr (fun (b : Bool) a => 2 * a + b.toNat) 0)) }
  | .updateDr => when s.scans (State.modTap fun t => { t with cells := t.shift }) s
  | .idle => s.modTap fun t => { t with train := (match t.ir with | some i => Config.jtagTrains i | none => false) && !t.train }
  | _ => s

theorem State.tck_eq (s : State) (tms tdi : Bool) : s.tck tms tdi =
    (s.tckAct tdi).modTap fun t => { t with st := t.st.next tms, train := t.train && t.st == .idle && !tms } := rfl

/-- In Capture-DR the cells are captured where they are selected, and else IDCODE or the bypass bit. -/
theorem State.captureDr_eq (s : State) : ∃ f l, s.captureDr = s.withTap { s.beat.tap with shift := l } f ∧
    if s.scans = true then l = (State.captureCells scanCells s).1
    else l = if s.beat.tap.ir.all Config.jtagIdcode then (List.range 32).map s.idcode.getLsbD else [false] := by
  unfold State.captureDr
  split
  · next hs =>
    obtain ⟨_, ⟨f, hf⟩, _⟩ := State.captureCells_spec scanCells s
    generalize hx : State.captureCells scanCells s = x at hf ⊢
    refine ⟨f, x.1, ?_, rfl⟩
    dsimp only
    rw [hf]
    rfl
  · refine ⟨s.free, _, rfl, ?_⟩
    cases s.beat.tap.ir <;> rfl

/-- Nothing but the TAP moves, whose state stays until the cycle ends. -/
theorem State.tckAct_tap (s : State) (tdi : Bool) : ∃ x f, s.tckAct tdi = s.withTap x f ∧ x.st = s.beat.tap.st := by
  unfold State.tckAct
  cases hst : s.beat.tap.st <;> dsimp only
  case captureDr =>
    obtain ⟨f, l, h, _⟩ := s.captureDr_eq
    exact ⟨_, f, h, hst⟩
  case updateDr =>
    unfold when
    split
    · exact ⟨_, s.free, rfl, hst⟩
    · exact ⟨s.beat.tap, s.free, rfl, hst⟩
  all_goals exact ⟨_, s.free, rfl, hst⟩

theorem State.tckAct_captureDr (s : State) (tdi : Bool) (h : s.beat.tap.st = .captureDr) : s.tckAct tdi = s.captureDr := by
  unfold State.tckAct
  rw [h]

theorem State.tckAct_updateDr (s : State) (tdi : Bool) (h : s.beat.tap.st = .updateDr) :
    s.tckAct tdi = when s.scans (State.modTap fun t => { t with cells := t.shift }) s := by
  unfold State.tckAct
  rw [h]

theorem State.tck_moves (s : State) (tms tdi : Bool) : (s.tck tms tdi).beat.tap.st = s.beat.tap.st.next tms ∧
    { s.tck tms tdi with beat := { (s.tck tms tdi).beat with tap := s.beat.tap }, free := s.free } = s := by
  obtain ⟨x, f, h, hst⟩ := s.tckAct_tap tdi
  rw [State.tck_eq, h, ← hst]
  exact ⟨rfl, rfl⟩

theorem State.tck_shift (s : State) (tms tdi : Bool) : (s.tck tms tdi).beat.tap.shift = (s.tckAct tdi).beat.tap.shift := by
  rw [State.tck_eq]; rfl

theorem State.tck_cells (s : State) (tms tdi : Bool) : (s.tck tms tdi).beat.tap.cells = (s.tckAct tdi).beat.tap.cells := by
  rw [State.tck_eq]; rfl

theorem State.tck_captureDr (s : State) (tms tdi : Bool) (h : s.beat.tap.st = .captureDr) (i : Nat) (c : ScanCell) (b : Ball) (v : Bool)
    (hi : scanCells[i]? = some c) (hc : c.part ≠ .control) (hb : c.ball = some b) (hv : s.ballLevel b = some v) :
    if s.scans = true then (s.tck tms tdi).beat.tap.shift.length = scanCells.length ∧ (s.tck tms tdi).beat.tap.shift[i]? = some v
    else (s.tck tms tdi).beat.tap.shift =
      if s.beat.tap.ir.all Config.jtagIdcode then (List.range 32).map s.idcode.getLsbD else [false] := by
  obtain ⟨f, l, hx, hl⟩ := s.captureDr_eq
  have hshift : (s.tck tms tdi).beat.tap.shift = l := by
    rw [State.tck_shift, s.tckAct_captureDr tdi h, hx]
    rfl
  rw [hshift]
  split
  · next hs =>
    rw [if_pos hs] at hl
    obtain ⟨hlen, _, hlevel⟩ := State.captureCells_spec scanCells s
    have hcell : s.cellLevel c = some v := by
      unfold State.cellLevel
      rw [if_neg hc, hb]
      exact hv
    rw [hl]
    exact ⟨hlen, hlevel i c v hi hcell⟩
  · next hs =>
    rw [if_neg hs] at hl
    exact hl

theorem State.tck_updateDr (s : State) (tms tdi : Bool) (h : s.beat.tap.st = .updateDr) :
    (s.tck tms tdi).beat.tap.cells = if s.scans = true then s.beat.tap.shift else s.beat.tap.cells := by
  rw [State.tck_cells, s.tckAct_updateDr tdi h]
  unfold when
  split <;> rfl

/-! ### The obligation -/

theorem State.readTod_snd (s : State) (p : Path) : (s.readTod p).2 = (((s.setSnap p (todKey 0x214) (BitVec.ofNat 32 s.ntu.sec)).setSnap p
    (todKey 0x218) (BitVec.ofNat 32 (fld 31 16 (s.ntu.frac / 65536) + fld 15 0 (s.ntu.sec / 2 ^ 32)))).setSnap p (todKey 0x300)
    (BitVec.ofNat 32 (s.ntu.epoch * 256))).answer p ((BitVec.ofNat 32 s.ntu.ns).zeroExtend 64) := by
  unfold State.readTod
  rfl

theorem loWordRead_snaps {s : State} (hr : s.running = true) {p : Path} {a : W64} {r : Reg} (h : pathReg p a.toNat = some r)
    (ht : takesSnap r = true) :
    exec (.loWordRead ⟨p, false⟩ a) s = .next (((((s.beforeRead r).snapAll p r)).clearRead r).answer p (((s.beforeRead r).view r).zeroExtend 64)) ∧
    ∃ t, exec (.loWordRead ⟨p, true⟩ a) s = .next t ∧ t.hst.answers.get (fun _ => 0) (pathKey p) =
      join64 ((s.beforeRead r).view r) ((s.beforeRead r).view ⟨r.stem, r.inst, 1⟩) := by
  refine ⟨?_, _, exec_loWordRead hr h ht true, ((s.beforeRead r).readWide_takes p ht (pathReg_posted_inst h)).1⟩
  rw [exec_loWordRead hr h ht false]
  unfold State.readSized
  rw [if_neg (by decide), State.readReg_takes _ p ht]

/-- Settles O15: a read that takes a snapshot stores each of its words under a key of its own, which the later reads return; the other
reads follow from what a read of one word does. -/
theorem readsTakeTheirSnapshots : Obligations.ReadsTakeTheirSnapshots := by
  unfold Obligations.ReadsTakeTheirSnapshots
  refine ⟨fun p a r s hr h ht => ?_, fun p a r s hr h hc => ?_, fun p s hr => ?_, fun p ch wide s hr hp => ?_, fun w s hr => ?_,
    fun tms tdi s => ?_, fun p a s hr hu => ?_, fun s => rfl⟩
  · obtain ⟨hnarrow, hwide⟩ := loWordRead_snaps hr h ht
    exact ⟨hnarrow, hwide, fun x hx => ⟨(s.beforeRead r).snap_snapAll p hx, fun v hv hf => State.readReg_later hx hv hf⟩⟩
  · refine ⟨?_, takesSnap_of_readClear hc, fromSnap_of_readClear hc⟩
    rw [exec_readClearRead hr h hc, State.readReg_readClear _ p hc, State.clearRead_rc _ hc]
  · exact (done_live hr _).trans (congrArg Host.Outcome.next (s.readTod_snd p))
  · obtain ⟨hanswer, hsnap⟩ := s.tiaCnt_read p ch.val wide
    refine ⟨_, exec_tiaCntLoRead hr hp ch wide, hanswer, fun st hst w hw => ?_⟩
    have hmem := block_mem_snapWords hst ch.val hw
    rw [hsnap, ← s.view_block hst, ← s.snap_snapAll p hmem]
  · exact done_live hr _
  · obtain ⟨hst, hrest⟩ := s.tck_moves tms tdi
    exact ⟨s.tck tms tdi, rfl, hst, hrest, s.tck_captureDr tms tdi, s.tck_updateDr tms tdi⟩
  · exact ⟨(done_live hr _).trans (congrArg Host.Outcome.next (s.readWhere_unassigned hu _ _)),
      (done_live hr _).trans (congrArg Host.Outcome.next (s.readWhere_unassigned hu _ _))⟩

end Sys2Proof.Machine
end


section
/-! PROOFS. The GDDR6 controllers: what their operations leave of a controller, of memory and of the registers (12_gddr6). -/

namespace Sys2Proof.Machine

/-! ### Controllers -/

@[simp] theorem State.ctl_modCtl (s : State) (m : Nat) (f : Ctl → Ctl) : (s.modCtl m f).ctl m = f (s.ctl m) := Tab.get_set_same _ _ _ _

theorem State.ctl_of_meas {s t : State} (h : t.meas = s.meas) (m : Nat) : t.ctl m = s.ctl m := by unfold State.ctl; rw [h]

@[simp] theorem State.modCtl_beat (s : State) (m : Nat) (f : Ctl → Ctl) : (s.modCtl m f).beat = s.beat := (rfl)
@[simp] theorem State.modCtl_hsk (s : State) (m : Nat) (f : Ctl → Ctl) : (s.modCtl m f).hsk = s.hsk := (rfl)
@[simp] theorem State.modCtl_lost (s : State) (m : Nat) (f : Ctl → Ctl) : (s.modCtl m f).meas.lost = s.meas.lost := (rfl)
@[simp] theorem State.fieldOf_modCtl (s : State) (m : Nat) (f : Ctl → Ctl) (g : Field) (i : Nat) :
    (s.modCtl m f).fieldOf g i = s.fieldOf g i := (rfl)
@[simp] theorem State.ctl_putField (s : State) (f : Field) (i v m : Nat) : (s.putField f i v).ctl m = s.ctl m :=
  State.ctl_of_meas (s.putField_meas f i v) m
@[simp] theorem State.ctl_fault (s : State) (a c d e : Nat) (k : W32) (m : Nat) : (s.fault a c d e k).ctl m = s.ctl m :=
  State.ctl_of_meas (s.fault_meas a c d e k) m
@[simp] theorem State.event_meas (s : State) (e : Nat) : (s.event e).meas = s.meas := (rfl)
@[simp] theorem State.ctl_event (s : State) (e m : Nat) : (s.event e).ctl m = s.ctl m := State.ctl_of_meas (s.event_meas e) m

/-- Two states with one word MEM_IL place a granule alike (R313). -/
theorem State.place6_of_interleave {s t : State} (h : t.reg .MEM_IL 0 0 = s.reg .MEM_IL 0 0) (g : Nat) : t.place6 g = s.place6 g := by
  unfold State.place6 State.interleave
  rw [h]

/-! ### What an access leaves of its controller's requests -/

/-- A controller's requests, those held at their ports, and the count of lost controllers are as they were. -/
def State.sameRequests (m : Nat) (s t : State) : Prop :=
  (t.ctl m).queue = (s.ctl m).queue ∧ (t.ctl m).held = (s.ctl m).held ∧ t.meas.lost = s.meas.lost

theorem State.sameRequests_refl (m : Nat) (s : State) : s.sameRequests m s := ⟨rfl, rfl, rfl⟩

theorem State.sameRequests_trans {m : Nat} {r s t : State} (h : r.sameRequests m s) (k : s.sameRequests m t) : r.sameRequests m t := by
  obtain ⟨hq, hh, hl⟩ := h
  obtain ⟨kq, kh, kl⟩ := k
  exact ⟨kq.trans hq, kh.trans hh, kl.trans hl⟩

theorem State.sameRequests_of_meas {m : Nat} {s t : State} (h : t.meas = s.meas) : s.sameRequests m t := by
  unfold State.sameRequests State.ctl
  rw [h]
  exact ⟨rfl, rfl, rfl⟩

theorem State.sameRequests_modCtl (s : State) (m : Nat) {f : Ctl → Ctl} (hq : (f (s.ctl m)).queue = (s.ctl m).queue)
    (hh : (f (s.ctl m)).held = (s.ctl m).held) : s.sameRequests m (s.modCtl m f) := by
  refine ⟨?_, ?_, rfl⟩
  · rw [State.ctl_modCtl, hq]
  · rw [State.ctl_modCtl, hh]

theorem Ctl.spend_requests (c : Ctl) (ch n b : Nat) : (c.spend ch n b).queue = c.queue ∧ (c.spend ch n b).held = c.held := by
  unfold Ctl.spend
  split <;> exact ⟨rfl, rfl⟩

theorem Ctl.refresh_requests (c : Ctl) (hit : Nat × Nat × Nat × Nat → Bool) (b : Nat) :
    (c.refresh hit b).queue = c.queue ∧ (c.refresh hit b).held = c.held := by
  unfold Ctl.refresh
  dsimp only
  obtain ⟨hq, hh⟩ := Ctl.spend_requests (Ctl.spend { c with nr := c.nr.filter fun x => !hit x } 0
    (c.nr.filter fun x => hit x && x.1 == 0).length b) 1 (c.nr.filter fun x => hit x && x.1 == 1).length b
  obtain ⟨kq, kh⟩ := Ctl.spend_requests { c with nr := c.nr.filter fun x => !hit x } 0 (c.nr.filter fun x => hit x && x.1 == 0).length b
  exact ⟨hq.trans kq, hh.trans kh⟩

theorem State.activate_requests (s : State) (p : Place) : s.sameRequests p.mc (s.activate p) := by
  unfold State.activate
  dsimp only
  obtain ⟨hq, hh⟩ := Ctl.spend_requests ((s.ctl p.mc).refresh (fun x => x.1 == p.ch && x.2.1 == p.bank) s.beat.lbc) p.ch 1 s.beat.lbc
  obtain ⟨kq, kh⟩ := Ctl.refresh_requests (s.ctl p.mc) (fun x => x.1 == p.ch && x.2.1 == p.bank) s.beat.lbc
  exact s.sameRequests_modCtl p.mc (hq.trans kq) (hh.trans kh)

theorem State.payOwed_requests (s : State) (m ch : Nat) (cls : MemClass) : s.sameRequests m (s.payOwed m ch cls) := by
  unfold State.payOwed
  dsimp only
  refine s.sameRequests_modCtl m ?_ ?_ <;> (split <;> rfl)

/-! ### Repeats (R319) -/

/-- The halves of a 64-bit value make it up (R41). -/
theorem join64_halves (v : W64) : join64 (lo32 v) (hi32 v) = v := by
  unfold join64 lo32 hi32
  refine BitVec.eq_of_getLsbD_eq fun i hi => ?_
  by_cases h : i < 32
  · simp [h, hi]
  · have hsplit : 32 + (i - 32) = i := by omega
    simp [h, hi, hsplit]
    omega

theorem State.reg64_setReg64 (s : State) (st : Stem) (i : Nat) (v : W64) : (s.setReg64 st i v).reg64 st i = v := by
  unfold State.reg64 State.setReg64
  rw [State.reg_setReg_same, State.reg_setReg_other _ _ _ _ _ _ _ _ (by decide) (by decide) (by simp), State.reg_setReg_same]
  exact join64_halves v

theorem State.edcRepeats_reg64 (s : State) (m n : Nat) :
    (s.edcRepeats m n).reg64 .MEM_EDC_CNT m = s.reg64 .MEM_EDC_CNT m + BitVec.ofNat 64 n := by
  unfold State.edcRepeats
  split
  · next h => rw [h]; simp
  · exact s.reg64_setReg64 _ _ _

theorem State.edcRepeats_requests (s : State) (m n : Nat) : s.sameRequests m (s.edcRepeats m n) := by
  unfold State.edcRepeats
  split
  · exact s.sameRequests_refl m
  · exact State.sameRequests_trans (State.sameRequests_of_meas ((State.setReg_meas _ _ _ _ _).trans (State.setReg_meas _ _ _ _ _))) (State.sameRequests_modCtl _ m rfl rfl)

/-! ### The bytes of a granule -/

/-- The byte that a masked write leaves. -/
def maskedByte (o : Option (Option Byte)) (old : Byte) : Byte :=
  match o with
  | some (some b) => b
  | _ => old

/-- One byte of a masked write. -/
def State.putMasked (a : Nat) (p : Option Byte × Nat) (s : State) : State :=
  match p.1 with
  | some b => s.setMem (a + p.2) [b]
  | none => s

theorem State.maskedWrite_eq (s : State) (a : Nat) (l : List (Option Byte)) :
    s.maskedWrite a l = each (l.take 128).zipIdx (State.putMasked a) s := rfl

theorem State.putMasked_lost (s : State) (a : Nat) (p : Option Byte × Nat) : (s.putMasked a p).meas = s.meas := by
  unfold State.putMasked
  split
  · exact s.setMem_meas _ _
  · rfl

theorem State.putMasked_other (s : State) {a k j : Nat} (o : Option Byte) (hl : s.meas.lost = false) (hj : j ≠ a + k) :
    (s.putMasked a (o, k)).ram.get ramDefault j = s.ram.get ramDefault j := by
  cases o with
  | none => rfl
  | some b => exact s.ram_setMem_other _ _ _ hl (by simp only [List.length_singleton]; omega)

theorem State.putMasked_same (s : State) (a k : Nat) (o : Option Byte) (hl : s.meas.lost = false) :
    (s.putMasked a (o, k)).ram.get ramDefault (a + k) = maskedByte (some o) (s.ram.get ramDefault (a + k)) := by
  cases o with
  | none => rfl
  | some b =>
    unfold State.putMasked State.setMem
    dsimp only
    rw [hl]
    exact Tab.get_setList_inside ramDefault [b] s.ram (a + k) 0 Nat.one_pos

/-- A masked write, byte by byte, of which the first stands at `a + k`. -/
theorem ram_each_putMasked (a : Nat) (l : List (Option Byte)) : ∀ (k : Nat) (s : State), s.meas.lost = false →
    (∀ j, j < a + k ∨ a + k + l.length ≤ j → (each (l.zipIdx k) (State.putMasked a) s).ram.get ramDefault j = s.ram.get ramDefault j) ∧
    ∀ i, (each (l.zipIdx k) (State.putMasked a) s).ram.get ramDefault (a + k + i) = maskedByte l[i]? (s.ram.get ramDefault (a + k + i)) := by
  induction l with
  | nil => exact fun k s _ => ⟨fun _ _ => rfl, fun _ => rfl⟩
  | cons o l ih =>
    intro k s hl
    obtain ⟨hout, hin⟩ := ih (k + 1) (s.putMasked a (o, k)) (by rw [State.putMasked_lost]; exact hl)
    refine ⟨fun j hj => ?_, fun i => ?_⟩
    · simp only [List.length_cons] at hj
      exact (hout j (by omega)).trans (s.putMasked_other o hl (by omega))
    · cases i with
      | zero => exact (hout (a + k) (by omega)).trans (s.putMasked_same a k o hl)
      | succ i =>
        have h := hin i
        rw [s.putMasked_other o hl (by omega), show a + (k + 1) + i = a + k + (i + 1) by omega] at h
        exact h

/-- A masked write changes the bytes of its granule that its mask selects, and no other (R314). -/
theorem State.ram_maskedWrite (s : State) (a : Nat) (l : List (Option Byte)) (hl : s.meas.lost = false) :
    s.ramKept (s.maskedWrite a l) a 128 ∧
    ∀ i < 128, (s.maskedWrite a l).ram.get ramDefault (a + i) = maskedByte l[i]? (s.ram.get ramDefault (a + i)) := by
  rw [State.maskedWrite_eq]
  obtain ⟨hout, hin⟩ := ram_each_putMasked a (l.take 128) 0 s hl
  refine ⟨fun j hj => hout j ?_, fun i hi => ?_⟩
  · rw [List.length_take]
    omega
  · rw [← List.getElem?_take_of_lt hi]
    exact hin i

theorem State.ramKept_refl (s : State) (a n : Nat) : s.ramKept s a n := fun _ _ => rfl

theorem State.ramKept_trans {r s t : State} {a n : Nat} (h : r.ramKept s a n) (k : s.ramKept t a n) : r.ramKept t a n :=
  fun j hj => (k j hj).trans (h j hj)

theorem length_leBytes (k : Nat) : ∀ v, (leBytes k v).length = k := by
  induction k with
  | zero => exact fun _ => rfl
  | succ k ih => exact fun v => congrArg Nat.succ (ih _)

/-- Free bytes put into a granule, eight at a time. -/
def State.drawInto (g j : Nat) (s : State) : State := s.draw.2.setMem (128 * g + 8 * j) (leBytes 8 s.draw.1.toNat)

theorem State.ram_drawInto (s : State) {g j : Nat} (hj : j < 16) (hl : s.meas.lost = false) : s.ramKept (s.drawInto g j) (128 * g) 128 := by
  intro k hk
  unfold State.drawInto
  rw [State.ram_setMem_other]
  · rfl
  · exact hl
  · rw [length_leBytes]
    omega

theorem State.drawInto_meas (s : State) (g j : Nat) : (s.drawInto g j).meas = s.meas := by
  unfold State.drawInto
  rw [State.setMem_meas]
  rfl

/-- What every item of a list keeps, the whole of them keep. -/
theorem each_keeps_mem {α : Type} {P : State → Prop} {f : α → State → State} (l : List α) :
    (∀ x ∈ l, ∀ t, P t → P (f x t)) → ∀ s, P s → P (each l f s) := by
  induction l with
  | nil => exact fun _ s h => h
  | cons x l ih =>
    exact fun hf s h => ih (fun y hy => hf y (List.mem_cons_of_mem _ hy)) _ (hf x List.mem_cons_self s h)

theorem State.ram_spoil (s : State) (m g : Nat) (hl : s.meas.lost = false) (hq : (s.ctl m).queue = []) :
    s.ramKept (s.spoil m g) (128 * g) 128 ∧ (s.spoil m g).meas = s.meas := by
  have hdraw : s.ramKept (each (List.range 16) (State.drawInto g) s) (128 * g) 128 ∧ (each (List.range 16) (State.drawInto g) s).meas = s.meas := by
    refine each_keeps_mem (P := fun t => s.ramKept t (128 * g) 128 ∧ t.meas = s.meas) _ (fun j hj t ht => ?_) s ⟨s.ramKept_refl _ _, rfl⟩
    obtain ⟨hram, hmeas⟩ := ht
    refine ⟨State.ramKept_trans hram (t.ram_drawInto (List.mem_range.1 hj) ?_), (t.drawInto_meas g j).trans hmeas⟩
    rw [hmeas]
    exact hl
  have hnone : s.spoil m g = each (List.range 16) (State.drawInto g) s := by
    have hqueue : ((each (List.range 16) (State.drawInto g) s).ctl m).queue = [] := by rw [State.ctl_of_meas hdraw.2, hq]
    show each (((each (List.range 16) (State.drawInto g) s).ctl m).queue.zipIdx.filter _) _ _ = _
    rw [hqueue]
    rfl
  rw [hnone]
  exact hdraw

end Sys2Proof.Machine
end


section
/-! PROOFS. A granule's access, performed in the step that asks for it (R314, R315, R319, R320). -/

namespace Sys2Proof.Machine

/-! ### The transfers of one access -/

/-- The transfers of an access with `n` repeats: an activate each, and the repeats counted (R319). -/
def State.transfer (p : Place) (n : Nat) (s : State) : State :=
  ((each (List.range (1 + n)) (fun _ => State.activate p) s).edcRepeats p.mc n).modCtl p.mc fun c => { c with edcInjected := c.edcInjected + 0 }

theorem State.activates_requests (s : State) (p : Place) (k : Nat) :
    s.sameRequests p.mc (each (List.range k) (fun _ => State.activate p) s) :=
  each_keeps (P := fun t => s.sameRequests p.mc t) (fun _ t h => State.sameRequests_trans h (t.activate_requests p)) _ (s.sameRequests_refl p.mc)

theorem State.activates_kept (s : State) (p : Place) (k : Nat) : Kept 0x2000 s (each (List.range k) (fun _ => State.activate p) s) :=
  each_kept (fun _ _ h => State.activate_kept (Covers.refl _) h p) _ (Kept.refl s)

theorem State.transfer_kept (s : State) (p : Place) (n : Nat) : Kept 0x2000000000000000000000000000002000 s (s.transfer p n) :=
  State.modCtl_kept (by decide) (State.edcRepeats_kept (Covers.refl _) ((s.activates_kept p (1 + n)).mono (by decide)) p.mc n) p.mc _

theorem State.transfer_requests (s : State) (p : Place) (n : Nat) : s.sameRequests p.mc (s.transfer p n) :=
  State.sameRequests_trans (State.sameRequests_trans (s.activates_requests p (1 + n)) (State.edcRepeats_requests _ p.mc n))
    (State.sameRequests_modCtl _ p.mc rfl rfl)

theorem State.reg64_modCtl (s : State) (m : Nat) (f : Ctl → Ctl) (st : Stem) (i : Nat) : (s.modCtl m f).reg64 st i = s.reg64 st i := rfl

theorem Kept.reg64 {m : Nat} {r t : State} (h : Kept m r t) (st : Stem) (hb : m.testBit (32 + st.ctorIdx) = false) (i : Nat) :
    t.reg64 st i = r.reg64 st i := by
  unfold State.reg64
  rw [h.reg st hb, h.reg st hb]

theorem State.transfer_reg64 (s : State) (p : Place) (n : Nat) :
    (s.transfer p n).reg64 .MEM_EDC_CNT p.mc = s.reg64 .MEM_EDC_CNT p.mc + BitVec.ofNat 64 n := by
  unfold State.transfer
  rw [State.reg64_modCtl, State.edcRepeats_reg64, (s.activates_kept p (1 + n)).reg64 .MEM_EDC_CNT (by decide)]

/-- A request performed outside a fault injection, of a controller that is not LOST (R314, R319). -/
theorem State.perform6_eq (s : State) (p : Place) (r : MemReq) (h3 : s.ctlState p.mc ≠ 3)
    (hinj : (s.injected 4 p.mc && r.write.isNone) = false) :
    s.perform6 p r = if 4 < r.mismatches then (s.transfer p (min r.mismatches 4)).uncorrectable p.mc r false
      else (s.transfer p (min r.mismatches 4)).answerMem r.granule (if r.write.isSome then .written else .data r.data) := by
  unfold State.perform6
  dsimp only
  rw [if_neg h3, hinj]
  simp only [Bool.false_eq_true, if_false, Nat.sub_self, Bool.false_and]
  rfl

/-! ### The request of an empty queue -/

/-- The request as it is queued: a read with the bytes that it is to return (log entry 78). -/
def State.queued (s : State) (r : MemReq) : MemReq := if r.write.isNone then { r with data := s.mem (128 * r.granule) 128 } else r

theorem State.accept6_read (s : State) (m : Nat) {r : MemReq} (hw : r.write = none) : s.accept6 m r = s.modCtl m fun c =>
    { c with queue := promote r.granule c.queue ++ [{ r with data := s.mem (128 * r.granule) 128 }] } := by
  unfold State.accept6
  rw [hw]

theorem State.accept6_write (s : State) (m : Nat) {r : MemReq} {l : List (Option Byte)} (hw : r.write = some l) (hq : (s.ctl m).queue = []) :
    s.accept6 m r = (s.maskedWrite (128 * r.granule) l).modCtl m fun c => { c with queue := c.queue ++ [r] } := by
  unfold State.accept6
  rw [hw]
  dsimp only
  rw [hq, if_neg (by decide)]

theorem State.maskedWrite_meas (s : State) (a : Nat) (l : List (Option Byte)) : (s.maskedWrite a l).meas = s.meas :=
  each_keeps (P := fun t => t.meas = s.meas) (fun p t h => (t.putMasked_lost _ p).trans h) _ rfl

theorem State.accept6_ctl (s : State) (m : Nat) (r : MemReq) (hq : (s.ctl m).queue = []) :
    (s.accept6 m r).ctl m = { s.ctl m with queue := [s.queued r] } := by
  unfold State.queued
  by_cases hw : r.write = none
  · rw [s.accept6_read m hw, State.ctl_modCtl, hq, if_pos (by rw [hw]; rfl)]
    rfl
  · obtain ⟨l, hl⟩ := Option.ne_none_iff_exists'.1 hw
    rw [s.accept6_write m hl hq, State.ctl_modCtl, State.ctl_of_meas (s.maskedWrite_meas _ l), hq, if_neg (by rw [hl]; exact Bool.false_ne_true)]
    rfl

/-! ### The request that a channel performs next (R315, R223) -/

/-- The queued requests of a channel that wait for nothing, with their places in the queue. -/
def State.waiting6 (s : State) (m ch : Nat) : List (MemReq × Nat) :=
  (s.ctl m).queue.zipIdx.filter (fun x => (s.place6 x.1.granule).ch == ch && x.1.ready ((s.ctl m).queue.take x.2) &&
    (x.1.promoted || decide (x.1.cls ≠ .background) || !(s.classDeferred 3)))

/-- Those among which it chooses: no unmatched write while a promoted one waits for nothing. -/
def candidates6 (l : List (MemReq × Nat)) : List (MemReq × Nat) :=
  if l.any (fun x => x.1.promoted) then l.filter (fun x => x.1.write.isNone || x.1.promoted) else l

/-- The choice among them. -/
def State.choose6 (s : State) (m ch : Nat) (l : List (MemReq × Nat)) : Option (MemReq × Nat) :=
  let o := (s.ctl m).owed ch
  (l.find? fun x => decide (x.1.cls = .capture) && decide (o.capture ≤ 5 * s.beat.lbc)).or <|
  (l.find? fun x => decide (x.1.cls = .host) && decide (o.host ≤ 5 * s.beat.lbc)).or <|
  ((l.filter (fun x => decide (x.1.cls = .stream) && x.1.write.isNone)).foldl s.urgent none).or <|
  (l.find? fun x => x.1.promoted).or <|
  (l.find? fun x => decide (x.1.cls = .stream)).or <|
  (l.find? fun x => decide (x.1.cls = .capture)).or <|
  (l.find? fun x => decide (x.1.cls = .host)).or (l.find? fun _ => true)

theorem State.next6_eq (s : State) (m ch : Nat) : s.next6 m ch = s.choose6 m ch (candidates6 (s.waiting6 m ch)) := rfl

theorem State.urgent_mem (s : State) (l : List (MemReq × Nat)) : ∀ (o : Option (MemReq × Nat)) (x : MemReq × Nat),
    l.foldl s.urgent o = some x → o = some x ∨ x ∈ l := by
  induction l with
  | nil => exact fun o x h => Or.inl h
  | cons y l ih =>
    intro o x h
    obtain hu | hl := ih _ _ h
    · unfold State.urgent at hu
      cases o with
      | none => exact Or.inr (List.mem_cons.2 (Or.inl (Option.some.inj hu).symm))
      | some z =>
        dsimp only at hu
        split at hu
        · exact Or.inr (List.mem_cons.2 (Or.inl (Option.some.inj hu).symm))
        · exact Or.inl hu
    · exact Or.inr (List.mem_cons_of_mem _ hl)

/-- Of two choices from a list, the first that there is. -/
theorem or_mem {α : Type} {l : List α} {a b : Option α} (ha : ∀ x, a = some x → x ∈ l) (hb : ∀ x, b = some x → x ∈ l) :
    ∀ x, a.or b = some x → x ∈ l := by
  cases a with
  | none => exact hb
  | some y => exact ha

theorem State.choose6_mem (s : State) (m ch : Nat) (l : List (MemReq × Nat)) : ∀ x, s.choose6 m ch l = some x → x ∈ l := by
  have hurgent : ∀ x, (l.filter (fun x => decide (x.1.cls = .stream) && x.1.write.isNone)).foldl s.urgent none = some x → x ∈ l := by
    intro x h
    obtain h | h := s.urgent_mem _ _ _ h
    · cases h
    · exact (List.mem_filter.1 h).1
  exact or_mem (fun _ => List.mem_of_find?_eq_some) <| or_mem (fun _ => List.mem_of_find?_eq_some) <| or_mem hurgent <|
    or_mem (fun _ => List.mem_of_find?_eq_some) <| or_mem (fun _ => List.mem_of_find?_eq_some) <|
    or_mem (fun _ => List.mem_of_find?_eq_some) <| or_mem (fun _ => List.mem_of_find?_eq_some) fun _ => List.mem_of_find?_eq_some

/-- From a list of one that one is chosen. -/
theorem State.choose6_one (s : State) (m ch : Nat) (x : MemReq × Nat) : s.choose6 m ch [x] = some x := by
  cases h : s.choose6 m ch [x] with
  | some y => rw [List.mem_singleton.1 (s.choose6_mem m ch _ y h)]
  | none =>
    simp only [State.choose6, Option.or_eq_none_iff] at h
    obtain ⟨_, _, _, _, _, _, _, hlast⟩ := h
    cases hlast

/-- Only one request that waits for nothing stands queued, of this channel and not deferred. -/
theorem State.next6_one (s : State) (m : Nat) {r : MemReq} (hq : (s.ctl m).queue = [r]) (hp : r.promoted = false)
    (hbg : r.cls = .background → s.classDeferred 3 = false) : s.next6 m (s.place6 r.granule).ch = some (r, 0) := by
  have hcls : (decide (r.cls ≠ .background) || !(s.classDeferred 3)) = true := by
    by_cases hb : r.cls = .background
    · simp [hbg hb]
    · simp [hb]
  have hwait : s.waiting6 m (s.place6 r.granule).ch = [(r, 0)] := by
    unfold State.waiting6
    rw [hq]
    refine List.filter_eq_self.2 fun x hx => ?_
    obtain rfl : x = (r, 0) := by simpa using hx
    dsimp only
    rw [hp, Bool.false_or, hcls, Bool.and_true]
    simp [MemReq.ready]
  have hcand : candidates6 [(r, 0)] = [(r, 0)] := by
    unfold candidates6
    simp [hp]
  rw [State.next6_eq, hwait, hcand, State.choose6_one]

/-- What is chosen stands in the queue, is of the channel, and waits for nothing; an unmatched write is not chosen while a promoted one
that waits for nothing stands there (R315). -/
theorem State.next6_spec (s : State) {m ch i : Nat} {x : MemReq} (h : s.next6 m ch = some (x, i)) :
    (s.ctl m).queue[i]? = some x ∧ (s.place6 x.granule).ch = ch ∧ x.ready ((s.ctl m).queue.take i) = true ∧
    (x.write.isSome = true → x.promoted = false → ∀ y ∈ (s.ctl m).queue.zipIdx, y.1.promoted = true →
      (s.place6 y.1.granule).ch = ch → y.1.ready ((s.ctl m).queue.take y.2) = false) := by
  rw [State.next6_eq] at h
  have hcand := s.choose6_mem m ch _ _ h
  have hwait : (x, i) ∈ s.waiting6 m ch := by
    unfold candidates6 at hcand
    split at hcand
    · exact (List.mem_filter.1 hcand).1
    · exact hcand
  obtain ⟨hmem, hsel⟩ := List.mem_filter.1 hwait
  simp only [Bool.and_eq_true, beq_iff_eq] at hsel
  obtain ⟨⟨hch, hready⟩, _⟩ := hsel
  refine ⟨List.mem_zipIdx_iff_getElem?.1 hmem, hch, hready, fun hw hp y hy hyp hych => ?_⟩
  by_contra hyr
  have hany : (s.waiting6 m ch).any (fun x => x.1.promoted) = true := by
    refine List.any_eq_true.2 ⟨y, List.mem_filter.2 ⟨hy, ?_⟩, hyp⟩
    simpa [hych, hyp] using hyr
  unfold candidates6 at hcand
  rw [if_pos hany] at hcand
  have hkeep := (List.mem_filter.1 hcand).2
  simp [hp] at hkeep
  simp [hkeep] at hw

end Sys2Proof.Machine
end


section
/-! PROOFS. A granule of a controller whose queue is empty: performed in the step that asks for it (R314, R319, R320). -/

namespace Sys2Proof.Machine

/-- The state in which a channel performs the request that alone stood queued. -/
def State.taken6 (m ch : Nat) (cls : MemClass) (s : State) : State :=
  (s.modCtl m fun c => { c with queue := c.queue.eraseIdx 0 }).payOwed m ch cls

theorem State.taken6_kept (s : State) (m ch : Nat) (cls : MemClass) : Kept 0x2000 s (s.taken6 m ch cls) :=
  State.payOwed_kept (Covers.refl _) (State.modCtl_kept (Covers.refl _) (Kept.refl s) m _) m ch cls

theorem State.taken6_requests (s : State) (m ch : Nat) (cls : MemClass) {r : MemReq} (hq : (s.ctl m).queue = [r]) :
    ((s.taken6 m ch cls).ctl m).queue = [] ∧ ((s.taken6 m ch cls).ctl m).held = (s.ctl m).held ∧
    (s.taken6 m ch cls).meas.lost = s.meas.lost := by
  obtain ⟨h1, h2, h3⟩ := (s.modCtl m fun c => { c with queue := c.queue.eraseIdx 0 }).payOwed_requests m ch cls
  refine ⟨h1.trans ?_, h2.trans ?_, h3⟩
  · rw [State.ctl_modCtl, hq]
    rfl
  · rw [State.ctl_modCtl]

/-- A channel that may take an activate performs the one request queued; no producer is held. -/
theorem State.serve6_one (s : State) {p : Place} {r : MemReq} (hplace : s.place6 r.granule = p) (hq : (s.ctl p.mc).queue = [r])
    (hp : r.promoted = false) (hbg : r.cls = .background → s.classDeferred 3 = false) (hfree : (s.ctl p.mc).free p.ch ≤ s.beat.lbc)
    (hheld : (((s.taken6 p.mc p.ch r.cls).perform6 p r).ctl p.mc).held = []) :
    s.serve6 p.mc p.ch = (s.taken6 p.mc p.ch r.cls).perform6 p r := by
  have hplace' : (s.taken6 p.mc p.ch r.cls).place6 r.granule = p :=
    (State.place6_of_interleave ((s.taken6_kept _ _ _).reg .MEM_IL (by decide) 0 0) r.granule).trans hplace
  have hnext : s.next6 p.mc p.ch = some (r, 0) := by
    rw [← hplace] at hq ⊢
    exact s.next6_one _ hq hp hbg
  unfold State.serve6
  rw [if_neg (by omega), hnext]
  dsimp only
  rw [← State.taken6, hplace', hheld]
  cases r.write <;> rfl

/-! ### The request taken into an empty queue -/

/-- The bytes of the granule that the request leaves: those of its mask, where it writes. -/
def MemReq.stored (r : MemReq) (s : State) : State := (r.write.map fun l => s.maskedWrite (128 * r.granule) l).getD s

theorem State.accept6_stores (s : State) (m : Nat) (r : MemReq) (hq : (s.ctl m).queue = []) :
    (s.accept6 m r).meas.lost = s.meas.lost ∧ (s.accept6 m r).ram = (r.stored s).ram := by
  unfold MemReq.stored
  cases hw : r.write with
  | none =>
    rw [s.accept6_read m hw]
    exact ⟨rfl, rfl⟩
  | some l =>
    rw [s.accept6_write m hw hq, State.modCtl_lost, s.maskedWrite_meas]
    exact ⟨rfl, rfl⟩

theorem MemReq.ram_stored (r : MemReq) (s : State) (hl : s.meas.lost = false) : s.ramKept (r.stored s) (128 * r.granule) 128 ∧
    ∀ i < 128, (r.stored s).ram.get ramDefault (128 * r.granule + i) =
      maskedByte (r.write.bind fun l => l[i]?) (s.ram.get ramDefault (128 * r.granule + i)) := by
  unfold MemReq.stored
  cases r.write with
  | none => exact ⟨s.ramKept_refl _ _, fun _ _ => rfl⟩
  | some l => exact s.ram_maskedWrite _ l hl

/-! ### The transfers of the request -/

/-- The state after the transfers of the access, before it is answered. -/
def State.transferred (p : Place) (r : MemReq) (s : State) : State :=
  ((s.accept6 p.mc r).taken6 p.mc p.ch r.cls).transfer p (min r.mismatches 4)

theorem State.transferred_kept (s : State) (p : Place) (r : MemReq) : Kept 0x2000000000000000000000000000002004 s (s.transferred p r) :=
  ((State.accept6_kept (by decide) (Kept.refl s) p.mc r).trans ((State.taken6_kept _ p.mc p.ch r.cls).mono (by decide))).trans
    ((State.transfer_kept _ p (min r.mismatches 4)).mono (by decide))

theorem State.transferred_ctl (s : State) (p : Place) (r : MemReq) (hq : (s.ctl p.mc).queue = []) :
    ((s.transferred p r).ctl p.mc).queue = [] ∧ ((s.transferred p r).ctl p.mc).held = (s.ctl p.mc).held ∧
    (s.transferred p r).meas.lost = s.meas.lost := by
  have hctl := s.accept6_ctl p.mc r hq
  obtain ⟨hlost, _⟩ := s.accept6_stores p.mc r hq
  obtain ⟨h1, h2, h3⟩ := (s.accept6 p.mc r).taken6_requests p.mc p.ch r.cls (r := s.queued r) (by rw [hctl])
  obtain ⟨k1, k2, k3⟩ := ((s.accept6 p.mc r).taken6 p.mc p.ch r.cls).transfer_requests p (min r.mismatches 4)
  refine ⟨k1.trans h1, (k2.trans h2).trans ?_, (k3.trans h3).trans hlost⟩
  rw [hctl]

theorem State.transferred_ram (s : State) (p : Place) (r : MemReq) (hq : (s.ctl p.mc).queue = []) :
    (s.transferred p r).ram = (r.stored s).ram := by
  obtain ⟨_, hram⟩ := s.accept6_stores p.mc r hq
  have h1 := ((s.accept6 p.mc r).taken6_kept p.mc p.ch r.cls).same .ram (by decide)
  have h2 := (((s.accept6 p.mc r).taken6 p.mc p.ch r.cls).transfer_kept p (min r.mismatches 4)).same .ram (by decide)
  exact (Eq.trans h2 h1).trans hram

theorem State.transferred_reg64 (s : State) (p : Place) (r : MemReq) :
    (s.transferred p r).reg64 .MEM_EDC_CNT p.mc = s.reg64 .MEM_EDC_CNT p.mc + BitVec.ofNat 64 (min r.mismatches 4) := by
  have h1 := ((s.accept6 p.mc r).taken6_kept p.mc p.ch r.cls).reg64 .MEM_EDC_CNT (by decide) p.mc
  have h2 := (State.accept6_kept (Covers.refl _) (Kept.refl s) p.mc r).reg64 .MEM_EDC_CNT (by decide) p.mc
  unfold State.transferred
  rw [State.transfer_reg64, h1, h2]

/-! ### A transfer that cannot be corrected (R320) -/

/-- The record of it: C2 with the waiting sites for a stream read, C0 for every other. -/
def State.edcFault (s : State) (r : MemReq) : FaultRec :=
  ⟨8, if r.cls = .stream ∧ r.write = none then 2 else 0, 0x0803, r.granule % 2 ^ 30,
    if r.cls = .stream ∧ r.write = none then BitVec.ofNat 32 (s.awaiting r.granule) else 0, false, none⟩

theorem State.uncorrectable_read (s : State) (m : Nat) {r : MemReq} (hw : r.write = none) : s.uncorrectable m r false =
    (when (decide (r.cls = .stream)) (State.loseGranule r.granule) (s.raise (s.edcFault r))).answerMem r.granule .poisoned := by
  unfold State.uncorrectable State.edcFault
  simp only [hw, Option.isNone_none, Bool.and_true, decide_eq_true_eq, and_true, Option.isSome_none, Bool.false_eq_true, if_false]

theorem State.uncorrectable_write (s : State) (m : Nat) {r : MemReq} {l : List (Option Byte)} (hw : r.write = some l) :
    s.uncorrectable m r false = (when (decide (r.cls = .capture)) (State.voidLogs r.granule)
      ((s.raise (s.edcFault r)).spoil m r.granule)).answerMem r.granule .failed := by
  unfold State.uncorrectable State.edcFault
  simp only [hw, Option.isNone_some, Bool.and_false, Bool.false_eq_true, if_false, Option.isSome_some, if_true, reduceCtorEq, and_false]

theorem State.meas_raise (s : State) (f : FaultRec) : (s.raise f).meas = s.meas := rfl

theorem State.sameRequests_answerMem (s : State) (m g : Nat) (a : MemAnswer) : s.sameRequests m (s.answerMem g a) := ⟨rfl, rfl, rfl⟩

theorem State.answerMem_answer (s : State) (g : Nat) (a : MemAnswer) : (s.answerMem g a).meas.answer = some (g, a) := rfl

theorem State.loseStream_kept (s : State) (g : Nat) (c : Bool) : Kept 0x200 s (when c (State.loseGranule g) s) :=
  when_kept (Kept.refl s) _ _ fun _ h => State.loseGranule_kept (Covers.refl _) h g

theorem State.voidCapture_kept (s : State) (g : Nat) (c : Bool) : Kept 0x1000 s (when c (State.voidLogs g) s) :=
  when_kept (Kept.refl s) _ _ fun _ h => State.voidLogs_kept (Covers.refl _) h g

/-- Of a read: the fault, the poisoned answer, and the granule of a stream read lost to the threads that await it. -/
theorem State.uncorrectable_read_spec (s : State) (m : Nat) {r : MemReq} (hw : r.write = none) :
    s.sameRequests m (s.uncorrectable m r false) ∧ (s.uncorrectable m r false).ram = s.ram ∧
    (s.uncorrectable m r false).hsk.lines = s.hsk.lines ++ [(s.beat.lbc + 1, s.edcFault r)] ∧
    (s.uncorrectable m r false).meas.answer = some (r.granule, .poisoned) ∧
    (r.cls = .stream → (s.uncorrectable m r false).seq = ((s.raise (s.edcFault r)).loseGranule r.granule).seq) := by
  rw [s.uncorrectable_read m hw]
  have hk := (s.raise (s.edcFault r)).loseStream_kept r.granule (decide (r.cls = .stream))
  refine ⟨State.sameRequests_trans (State.sameRequests_of_meas ((hk.same .meas (by decide)).trans (s.meas_raise _)))
    (State.sameRequests_answerMem _ _ _ _), Eq.trans (hk.same .ram (by decide)) rfl,
    (congrArg Hsk.lines (hk.same .hsk (by decide))).trans rfl, State.answerMem_answer _ _ _, fun hc => ?_⟩
  unfold when
  rw [if_pos (by simpa using hc)]
  rfl

/-- Of a write: the fault, the writer told, and at most the granule changed. -/
theorem State.uncorrectable_write_spec (s : State) (m : Nat) {r : MemReq} {l : List (Option Byte)} (hw : r.write = some l)
    (hq : (s.ctl m).queue = []) (hl : s.meas.lost = false) :
    s.sameRequests m (s.uncorrectable m r false) ∧ s.ramKept (s.uncorrectable m r false) (128 * r.granule) 128 ∧
    (s.uncorrectable m r false).hsk.lines = s.hsk.lines ++ [(s.beat.lbc + 1, s.edcFault r)] ∧
    (s.uncorrectable m r false).meas.answer = some (r.granule, .failed) := by
  rw [s.uncorrectable_write m hw]
  obtain ⟨hram, hmeas⟩ := (s.raise (s.edcFault r)).ram_spoil m r.granule hl hq
  have hs := State.spoil_kept (m := 0x12004) (by decide) (Kept.refl (s.raise (s.edcFault r))) m r.granule
  have hv := ((s.raise (s.edcFault r)).spoil m r.granule).voidCapture_kept r.granule (decide (r.cls = .capture))
  refine ⟨State.sameRequests_trans (State.sameRequests_of_meas (((hv.same .meas (by decide)).trans hmeas).trans (s.meas_raise _)))
    (State.sameRequests_answerMem _ _ _ _), fun k hk => ?_,
    (congrArg Hsk.lines (Eq.trans (hv.same .hsk (by decide)) (hs.same .hsk (by decide)))).trans rfl, State.answerMem_answer _ _ _⟩
  exact (congrArg (fun x : Tab Byte => x.get ramDefault k) (hv.same .ram (by decide))).trans (hram k hk)

/-- The threads changed one after another, each once. -/
theorem thr_each_modThr (f : Thread → Thread) (n : Nat) (l : List Nat) : l.Nodup → ∀ s : State,
    (each l (fun k => State.modThr k f) s).thr n = if n ∈ l then f (s.thr n) else s.thr n := by
  induction l with
  | nil => exact fun _ s => rfl
  | cons k l ih =>
    intro hl s
    obtain ⟨hk, hl⟩ := List.nodup_cons.1 hl
    refine (ih hl (s.modThr k f)).trans ?_
    by_cases hn : n = k
    · subst hn
      rw [if_neg hk, if_pos List.mem_cons_self]
      exact Tab.get_set_same _ _ _ _
    · have hsame : (s.modThr k f).thr n = s.thr n := Tab.get_set_other _ _ _ _ _ hn
      rw [hsame]
      simp only [List.mem_cons, hn, false_or]

theorem State.awaiters_nodup (s : State) (g : Nat) : (s.awaiters g).Nodup := List.Nodup.filter _ List.nodup_range

theorem State.loseGranule_thr (s : State) (g n : Nat) :
    (s.loseGranule g).thr n = if n ∈ s.awaiters g then (s.thr n).lose g else s.thr n :=
  thr_each_modThr (Thread.lose g) n _ (s.awaiters_nodup g) s

theorem State.awaiters_of_seq {s t : State} (h : t.seq = s.seq) (g : Nat) : t.awaiters g = s.awaiters g := by
  unfold State.awaiters State.thr
  rw [h]

/-! ### The access as a whole -/

theorem State.queued_same (s : State) (r : MemReq) : (s.queued r).granule = r.granule ∧ (s.queued r).cls = r.cls ∧
    (s.queued r).write = r.write ∧ (s.queued r).mismatches = r.mismatches ∧ (s.queued r).promoted = r.promoted := by
  unfold State.queued
  split <;> exact ⟨rfl, rfl, rfl, rfl, rfl⟩

theorem Kept.injected {m : Nat} {r t : State} (h : Kept m r t) (hb : m.testBit (32 + Stem.HSK_INJECT.ctorIdx) = false) (chk inst : Nat) :
    t.injected chk inst = r.injected chk inst := by
  unfold State.injected
  rw [h.bitOf HSK_INJECT_EN hb, h.fieldOf HSK_INJECT_CHK hb, h.fieldOf HSK_INJECT_INST hb]

/-- The state before the request's transfers keeps what decides how it is performed. -/
theorem State.transfers_perform (s : State) (p : Place) (r : MemReq) (h3 : s.ctlState p.mc ≠ 3)
    (hinj : (s.injected 4 p.mc && r.write.isNone) = false) :
    ((s.accept6 p.mc r).taken6 p.mc p.ch r.cls).perform6 p (s.queued r) =
      if 4 < r.mismatches then (s.transferred p r).uncorrectable p.mc (s.queued r) false
      else (s.transferred p r).answerMem r.granule (if r.write.isSome then .written else .data (s.queued r).data) := by
  obtain ⟨hg, _, hw, hm, _⟩ := s.queued_same r
  have hk : Kept 0x2004 s ((s.accept6 p.mc r).taken6 p.mc p.ch r.cls) :=
    (State.accept6_kept (Covers.refl _) (Kept.refl s) p.mc r).trans ((State.taken6_kept _ p.mc p.ch r.cls).mono (by decide))
  have h3' : ((s.accept6 p.mc r).taken6 p.mc p.ch r.cls).ctlState p.mc ≠ 3 := by
    unfold State.ctlState
    rw [hk.fieldOf MEM_CTL_STAT_STATE (by decide)]
    exact h3
  rw [State.perform6_eq _ p (s.queued r) h3' (by rw [hk.injected (by decide), hw]; exact hinj), hg, hw, hm]
  rfl

/-- The request of a queue that was empty, of a channel that may take an activate: the transfers, and the answer (R314, R319). -/
theorem State.serve_accepted (s : State) {p : Place} {r : MemReq} (hplace : s.place6 r.granule = p) (h3 : s.ctlState p.mc ≠ 3)
    (hq : (s.ctl p.mc).queue = []) (hh : (s.ctl p.mc).held = []) (hfree : (s.ctl p.mc).free p.ch ≤ s.beat.lbc)
    (hl : s.meas.lost = false) (hinj : (s.injected 4 p.mc && r.write.isNone) = false) (hp : r.promoted = false)
    (hbg : r.cls = .background → s.classDeferred 3 = false) :
    (s.accept6 p.mc r).serve6 p.mc p.ch =
      if 4 < r.mismatches then (s.transferred p r).uncorrectable p.mc (s.queued r) false
      else (s.transferred p r).answerMem r.granule (if r.write.isSome then .written else .data (s.queued r).data) := by
  obtain ⟨hg, hc, hw, _, hpr⟩ := s.queued_same r
  have hctl := s.accept6_ctl p.mc r hq
  have hk := State.accept6_kept (Covers.refl _) (Kept.refl s) p.mc r
  obtain ⟨tq, th, tl⟩ := s.transferred_ctl p r hq
  have hperf := s.transfers_perform p r h3 hinj
  refine Eq.trans (State.serve6_one (s.accept6 p.mc r) (p := p) (r := s.queued r) ?_ ?_ (hpr.trans hp) ?_ ?_ ?_) ?_
  · rw [hg, State.place6_of_interleave (hk.reg .MEM_IL (by decide) 0 0), hplace]
  · rw [hctl]
  · rw [hc]
    intro hb
    unfold State.classDeferred
    rw [hk.fieldOf THM_PLIM_STAT_DEFER (by decide)]
    exact hbg hb
  · rw [hctl, hk.beat (by decide) (by decide)]
    exact hfree
  · rw [hc, hperf]
    split
    · have hreq : (s.transferred p r).sameRequests p.mc ((s.transferred p r).uncorrectable p.mc (s.queued r) false) := by
        cases hrw : (s.queued r).write with
        | none => exact (State.uncorrectable_read_spec _ p.mc hrw).1
        | some l => exact (State.uncorrectable_write_spec _ p.mc hrw tq (tl.trans hl)).1
      obtain ⟨_, hheld, _⟩ := hreq
      exact hheld.trans (th.trans hh)
    · exact th.trans hh
  · rw [hc, hperf]

end Sys2Proof.Machine
end


section
/-! PROOFS. MEM_GRANULE_ACCESS (R3, R314, R315, R319, R320, R323). -/

namespace Sys2Proof.Machine

theorem exec_memGranuleAccess_outside {s : State} (hr : s.running = true) (cls : MemClass) {g : Nat} (w : Option (List (Option Byte)))
    (n : Nat) (h : s.backed / 128 ≤ g) : exec (.memGranuleAccess cls g w n) s = .next (s.answerMem g .mapFault) := by
  refine (done_live hr _).trans (congrArg Host.Outcome.next ?_)
  dsimp only
  rw [if_pos h]

theorem exec_memGranuleAccess_lost {s : State} (hr : s.running = true) (cls : MemClass) {g : Nat} (w : Option (List (Option Byte)))
    (n : Nat) (h : g < s.backed / 128) (h3 : s.ctlState (s.place6 g).mc = 3) :
    exec (.memGranuleAccess cls g w n) s = .next (s.perform6 (s.place6 g) ⟨cls, g, w, n, [], false⟩) := by
  refine (done_live hr _).trans (congrArg Host.Outcome.next ?_)
  dsimp only
  rw [if_neg (by omega), if_pos h3]

theorem exec_memGranuleAccess {s : State} (hr : s.running = true) (cls : MemClass) {g : Nat} (w : Option (List (Option Byte)))
    (n : Nat) (h : g < s.backed / 128) (h3 : s.ctlState (s.place6 g).mc ≠ 3) : exec (.memGranuleAccess cls g w n) s =
      .next ((s.accept6 (s.place6 g).mc ⟨cls, g, w, n, [], false⟩).serve6 (s.place6 g).mc (s.place6 g).ch) := by
  refine (done_live hr _).trans (congrArg Host.Outcome.next ?_)
  dsimp only
  rw [if_neg (by omega), if_neg h3]

/-- Of a LOST controller a read is poisoned and a write dropped (R323). -/
theorem State.perform6_lost (s : State) (p : Place) (r : MemReq) (h3 : s.ctlState p.mc = 3) : s.perform6 p r =
    (if r.cls = .stream ∧ r.write = none then s.loseGranule r.granule else s).answerMem r.granule
      (if r.write = none then .poisoned else .failed) := by
  unfold State.perform6
  dsimp only
  rw [if_pos h3]
  unfold when
  cases r.write <;> simp

/-- A channel that may take no activate leaves its requests in the queue. -/
theorem State.serve6_blocked (s : State) {m ch : Nat} (h : s.beat.lbc < (s.ctl m).free ch) : s.serve6 m ch = s := by
  unfold State.serve6
  exact if_pos h

theorem State.accept6_free (s : State) (m : Nat) (r : MemReq) (ch : Nat) : ((s.accept6 m r).ctl m).free ch = (s.ctl m).free ch := by
  unfold State.accept6
  split
  · rw [State.ctl_modCtl]
    rfl
  · split
    · rw [State.ctl_modCtl]
      rfl
    · rw [State.ctl_modCtl, State.ctl_of_meas (s.maskedWrite_meas _ _)]
      rfl

theorem exec_memGranuleAccess_blocked {s : State} (hr : s.running = true) (cls : MemClass) {g : Nat} (w : Option (List (Option Byte)))
    (n : Nat) (h : g < s.backed / 128) (h3 : s.ctlState (s.place6 g).mc ≠ 3)
    (hb : s.beat.lbc < (s.ctl (s.place6 g).mc).free (s.place6 g).ch) :
    exec (.memGranuleAccess cls g w n) s = .next (s.accept6 (s.place6 g).mc ⟨cls, g, w, n, [], false⟩) := by
  rw [exec_memGranuleAccess hr cls w n h h3, State.serve6_blocked]
  rw [State.accept6_free, (State.accept6_kept (Covers.refl _) (Kept.refl s) _ _).beat (by decide) (by decide)]
  exact hb

/-- A write that finds 64 writes queued waits at its port (R315). -/
theorem State.accept6_full (s : State) (m : Nat) (r : MemReq) (hw : r.write ≠ none) (h : 64 ≤ (writes (s.ctl m).queue).length) :
    s.accept6 m r = s.modCtl m fun c => { c with held := c.held ++ [r] } := by
  unfold State.accept6
  cases hr : r.write with
  | none => exact absurd hr hw
  | some l =>
    dsimp only
    rw [if_pos h]

/-! ### What is left of an access with at most four repeats, and of one with more -/

/-- What the access leaves of the controller, of its count of repeats, and of memory outside its granule. -/
def State.accessed (s t : State) (r : MemReq) (m : Nat) : Prop :=
  (t.ctl m).queue = [] ∧ t.reg64 .MEM_EDC_CNT m = s.reg64 .MEM_EDC_CNT m + BitVec.ofNat 64 (min r.mismatches 4) ∧
  s.ramKept t (128 * r.granule) 128

theorem State.transferred_accessed (s : State) (p : Place) (r : MemReq) (hq : (s.ctl p.mc).queue = []) (hl : s.meas.lost = false) :
    s.accessed (s.transferred p r) r p.mc := by
  obtain ⟨tq, _, _⟩ := s.transferred_ctl p r hq
  refine ⟨tq, s.transferred_reg64 p r, fun k hk => ?_⟩
  rw [s.transferred_ram p r hq]
  exact (r.ram_stored s hl).1 k hk

theorem State.transferred_answer (s : State) (p : Place) (r : MemReq) (hq : (s.ctl p.mc).queue = []) (hl : s.meas.lost = false) (a : MemAnswer) :
    s.accessed ((s.transferred p r).answerMem r.granule a) r p.mc ∧
    ((s.transferred p r).answerMem r.granule a).hsk = s.hsk ∧
    ∀ i < 128, ((s.transferred p r).answerMem r.granule a).ram.get ramDefault (128 * r.granule + i) =
      maskedByte (r.write.bind fun l => l[i]?) (s.ram.get ramDefault (128 * r.granule + i)) := by
  refine ⟨s.transferred_accessed p r hq hl, (s.transferred_kept p r).same .hsk (by decide), fun i hi => ?_⟩
  show (s.transferred p r).ram.get ramDefault _ = _
  rw [s.transferred_ram p r hq]
  exact (r.ram_stored s hl).2 i hi

theorem State.transferred_edcFault (s : State) (p : Place) (r : MemReq) : (s.transferred p r).edcFault (s.queued r) = s.edcFault r := by
  obtain ⟨hg, hc, hw, _, _⟩ := s.queued_same r
  unfold State.edcFault State.awaiting
  rw [hg, hc, hw, State.awaiters_of_seq ((s.transferred_kept p r).same .seq (by decide))]

/-- A read that could not be corrected: poisoned, and of memory nothing changed (R320). -/
theorem State.transferred_poisoned (s : State) (p : Place) {r : MemReq} (hw : r.write = none) (hq : (s.ctl p.mc).queue = [])
    (hl : s.meas.lost = false) :
    s.accessed ((s.transferred p r).uncorrectable p.mc (s.queued r) false) r p.mc ∧
    ((s.transferred p r).uncorrectable p.mc (s.queued r) false).meas.answer = some (r.granule, .poisoned) ∧
    ((s.transferred p r).uncorrectable p.mc (s.queued r) false).hsk.lines = s.hsk.lines ++ [(s.beat.lbc + 1, s.edcFault r)] ∧
    ((s.transferred p r).uncorrectable p.mc (s.queued r) false).ram = s.ram ∧
    (r.cls = .stream → ∀ th : Nat, ((s.transferred p r).uncorrectable p.mc (s.queued r) false).thr th =
      if th ∈ s.awaiters r.granule then (s.thr th).lose r.granule else s.thr th) := by
  have hk := s.transferred_kept p r
  obtain ⟨tq, treg, tram⟩ := s.transferred_accessed p r hq hl
  obtain ⟨hg, hc, hqw, _, _⟩ := s.queued_same r
  have hseq : (s.transferred p r).seq = s.seq := hk.same .seq (by decide)
  have hsame : (s.transferred p r).ram = s.ram := by
    rw [s.transferred_ram p r hq]
    unfold MemReq.stored
    rw [hw]
    rfl
  have hu := State.uncorrectable_kept (m := 0x13224) (Covers.refl _) (Kept.refl (s.transferred p r)) p.mc (s.queued r) false
  obtain ⟨⟨uq, _, _⟩, uram, ulines, uans, useq⟩ := (s.transferred p r).uncorrectable_read_spec p.mc (hqw.trans hw)
  rw [hg] at uans useq
  rw [s.transferred_edcFault, hk.beat (by decide) (by decide), show (s.transferred p r).hsk = s.hsk from hk.same .hsk (by decide)] at ulines
  refine ⟨⟨uq.trans tq, (hu.reg64 .MEM_EDC_CNT (by decide) p.mc).trans treg, fun k _ => by rw [uram, hsame]⟩, uans, ulines,
    uram.trans hsame, fun hs th => ?_⟩
  have hlose := State.loseGranule_thr ((s.transferred p r).raise ((s.transferred p r).edcFault (s.queued r))) r.granule th
  have hraise : ((s.transferred p r).raise ((s.transferred p r).edcFault (s.queued r))).seq = s.seq := hseq
  rw [State.awaiters_of_seq hraise] at hlose
  unfold State.thr at hlose ⊢
  rw [useq (hc.trans hs), hlose, hraise]

/-- A write that could not be corrected: its writer is told, and at most its granule changed (R320). -/
theorem State.transferred_writeFailed (s : State) (p : Place) {r : MemReq} {l : List (Option Byte)} (hw : r.write = some l)
    (hq : (s.ctl p.mc).queue = []) (hl : s.meas.lost = false) :
    s.accessed ((s.transferred p r).uncorrectable p.mc (s.queued r) false) r p.mc ∧
    ((s.transferred p r).uncorrectable p.mc (s.queued r) false).meas.answer = some (r.granule, .failed) ∧
    ((s.transferred p r).uncorrectable p.mc (s.queued r) false).hsk.lines = s.hsk.lines ++ [(s.beat.lbc + 1, s.edcFault r)] := by
  have hk := s.transferred_kept p r
  obtain ⟨tq, treg, tram⟩ := s.transferred_accessed p r hq hl
  obtain ⟨_, _, tl⟩ := s.transferred_ctl p r hq
  obtain ⟨hg, _, hqw, _, _⟩ := s.queued_same r
  have hu := State.uncorrectable_kept (m := 0x13224) (Covers.refl _) (Kept.refl (s.transferred p r)) p.mc (s.queued r) false
  obtain ⟨⟨uq, _, _⟩, uram, ulines, uans⟩ := (s.transferred p r).uncorrectable_write_spec p.mc (hqw.trans hw) tq (tl.trans hl)
  rw [hg] at uans uram
  rw [s.transferred_edcFault, hk.beat (by decide) (by decide), show (s.transferred p r).hsk = s.hsk from hk.same .hsk (by decide)] at ulines
  exact ⟨⟨uq.trans tq, (hu.reg64 .MEM_EDC_CNT (by decide) p.mc).trans treg, State.ramKept_trans tram uram⟩, uans, ulines⟩

/-- A granule of a controller in service whose queue is empty, of a channel that may take an activate. -/
theorem granuleAccessed {cls : MemClass} {g n : Nat} {w : Option (List (Option Byte))} {s : State} (hr : s.running = true)
    (h : g < s.backed / 128) (h3 : s.ctlState (s.place6 g).mc ≠ 3) (hq : (s.ctl (s.place6 g).mc).queue = [])
    (hh : (s.ctl (s.place6 g).mc).held = []) (hfree : (s.ctl (s.place6 g).mc).free (s.place6 g).ch ≤ s.beat.lbc)
    (hl : s.meas.lost = false) (hinj : w = none → s.injected 4 (s.place6 g).mc = false)
    (hbg : cls = .background → s.classDeferred 3 = false) :
    exec (.memGranuleAccess cls g w n) s = .next (if 4 < n then
      (s.transferred (s.place6 g) ⟨cls, g, w, n, [], false⟩).uncorrectable (s.place6 g).mc (s.queued ⟨cls, g, w, n, [], false⟩) false
      else (s.transferred (s.place6 g) ⟨cls, g, w, n, [], false⟩).answerMem g (if w = none then .data (s.mem (128 * g) 128) else .written)) := by
  have hnone : (s.injected 4 (s.place6 g).mc && w.isNone) = false := by
    cases w with
    | none => rw [hinj rfl]; rfl
    | some l => exact Bool.and_false _
  rw [exec_memGranuleAccess hr cls w n h h3]
  rw [s.serve_accepted (p := s.place6 g) (r := ⟨cls, g, w, n, [], false⟩) rfl h3 hq hh hfree hl hnone rfl hbg]
  cases w <;> rfl

end Sys2Proof.Machine
end


section
/-! PROOFS. The service of the GDDR6 controllers (R316, R319, R323), and the obligation. -/

namespace Sys2Proof.Machine

/-! ### EDC_WINDOW_END -/

theorem exec_edcWindowEnd {s : State} (hr : s.running = true) (mc : Fin 16) (h : (s.ctl mc.val).window + 800000 ≤ s.beat.lbc) :
    exec (.edcWindowEnd mc) s = .next (when (decide (s.fieldOf MEM_EDC_CFG_THRESH 0 < (s.ctl mc.val).edc))
      (State.raise ⟨8, 0, 0x0801, mc.val, 0,
        decide ((s.ctl mc.val).edc - (s.ctl mc.val).edcInjected ≤ s.fieldOf MEM_EDC_CFG_THRESH 0), none⟩)
      (s.modCtl mc.val fun c => { c with
        edc := 0
        edcInjected := 0
        window := s.beat.lbc
        retrain := c.retrain || decide (s.fieldOf MEM_EDC_CFG_THRESH 0 < (s.ctl mc.val).edc) })) := by
  refine (done_live hr _).trans (congrArg Host.Outcome.next ?_)
  dsimp only
  rw [if_neg (by omega)]

theorem State.ctl_when_raise (s : State) (c : Bool) (f : FaultRec) (m : Nat) : (when c (State.raise f) s).ctl m = s.ctl m := by
  unfold when
  split <;> rfl

theorem edcWindowEnd_spec {s : State} (hr : s.running = true) (mc : Fin 16) (h : (s.ctl mc.val).window + 800000 ≤ s.beat.lbc) :
    ∃ t, exec (.edcWindowEnd mc) s = .next t ∧ (t.ctl mc.val).edc = 0 ∧ (t.ctl mc.val).window = s.beat.lbc ∧
      (s.fieldOf MEM_EDC_CFG_THRESH 0 < (s.ctl mc.val).edc → (t.ctl mc.val).retrain = true ∧
        t.hsk.lines = s.hsk.lines ++ [(s.beat.lbc + 1, ⟨8, 0, 0x0801, mc.val, 0,
          decide ((s.ctl mc.val).edc - (s.ctl mc.val).edcInjected ≤ s.fieldOf MEM_EDC_CFG_THRESH 0), none⟩)]) ∧
      ((s.ctl mc.val).edc ≤ s.fieldOf MEM_EDC_CFG_THRESH 0 → (t.ctl mc.val).retrain = (s.ctl mc.val).retrain ∧ t.hsk = s.hsk) := by
  refine ⟨_, exec_edcWindowEnd hr mc h, ?_⟩
  rw [State.ctl_when_raise, State.ctl_modCtl]
  refine ⟨rfl, rfl, fun hover => ⟨?_, ?_⟩, fun hunder => ⟨?_, ?_⟩⟩
  · rw [decide_eq_true hover]
    exact Bool.or_true _
  · unfold when
    rw [if_pos (decide_eq_true hover)]
    rfl
  · rw [decide_eq_false (by omega)]
    exact Bool.or_false _
  · unfold when
    rw [if_neg (by simp only [decide_eq_true_eq]; omega)]
    rfl

/-! ### GDDR6_TEMP_READ -/

/-- The field of MEM_TEMP of a device. -/
def tempField (b : Bool) : Field := if b then MEM_TEMP_TEMP_B else MEM_TEMP_TEMP_A

/-- The number of a device of a controller. -/
def deviceOf (m : Nat) (b : Bool) : Nat := 2 * m + (if b then 1 else 0)

/-- What MEM_TEMP and THM_G_TEMP show of a readout; a failed one reads 0x8000 (R316). -/
def tempShown (t : Option Int) : Nat := t.elim 0x8000 (twos 16)

/-- The refresh rate that a readout wants: doubled above 85 degrees and where it failed, the normal one below 80 (R316). -/
def wantDouble (t : Option Int) (w : Bool) : Bool := t.elim true fun t => if 340 < t then true else if t < 320 then false else w

/-- The controller with the rate wanted of one device. -/
def Ctl.want (b : Bool) (t : Option Int) (c : Ctl) : Ctl :=
  if b then { c with wantB := wantDouble t c.wantB } else { c with wantA := wantDouble t c.wantA }

/-- A readout shown, before its event or its fault. -/
def State.showTemp (m : Nat) (b : Bool) (t : Option Int) (s : State) : State :=
  (((s.putField (tempField b) m (tempShown t)).putField THM_G_TEMP_TEMP (deviceOf m b) (tempShown t)).modCtl m (Ctl.want b t))

theorem State.deviceTemp_failed (s : State) (m : Nat) (b : Bool) :
    s.deviceTemp m b none = (s.showTemp m b none).fault 8 0 0x0802 (deviceOf m b) 0 := by
  cases b <;> rfl

/-- A reading taken shows, and may occur as an event. -/
theorem State.deviceTemp_read (s : State) (m : Nat) (b : Bool) (t : Int) :
    ∃ c, s.deviceTemp m b (some t) = when c (State.event (1136 + 8)) (s.showTemp m b (some t)) := by
  cases b <;> exact ⟨_, rfl⟩

theorem State.showTemp_shown (s : State) (m : Nat) (b : Bool) (t : Option Int) (h : tempShown t < 2 ^ 16) :
    (s.showTemp m b t).fieldOf (tempField b) m = tempShown t ∧
    (s.showTemp m b t).fieldOf THM_G_TEMP_TEMP (deviceOf m b) = tempShown t := by
  unfold State.showTemp
  rw [State.fieldOf_modCtl, State.fieldOf_modCtl]
  constructor
  · rw [State.fieldOf_putField_apart _ _ _ _ _ _ (by cases b <;> decide), State.fieldOf_putField _ _ _ _ (by cases b <;> decide)]
    cases b <;> exact Nat.mod_eq_of_lt h
  · rw [State.fieldOf_putField _ _ _ _ (by decide)]
    exact Nat.mod_eq_of_lt h

/-- The other device's readings stay. -/
theorem State.showTemp_other (s : State) (m : Nat) (b : Bool) (t : Option Int) :
    (s.showTemp m b t).fieldOf (tempField !b) m = s.fieldOf (tempField !b) m ∧
    (s.showTemp m b t).fieldOf THM_G_TEMP_TEMP (deviceOf m !b) = s.fieldOf THM_G_TEMP_TEMP (deviceOf m !b) := by
  unfold State.showTemp
  rw [State.fieldOf_modCtl, State.fieldOf_modCtl]
  constructor
  · rw [State.fieldOf_putField_apart _ _ _ _ _ _ (by cases b <;> decide), State.fieldOf_putField_apart _ _ _ _ _ _ (by cases b <;> decide)]
  · rw [State.fieldOf_putField_index _ _ _ _ _ _ (by decide) (by decide) (by cases b <;> simp [deviceOf]),
      State.fieldOf_putField_apart _ _ _ _ _ _ (by cases b <;> decide)]

theorem State.showTemp_ctl (s : State) (m : Nat) (b : Bool) (t : Option Int) : (s.showTemp m b t).ctl m = (s.ctl m).want b t := by
  unfold State.showTemp
  rw [State.ctl_modCtl, State.ctl_putField, State.ctl_putField]

theorem State.showTemp_rest (s : State) (m : Nat) (b : Bool) (t : Option Int) :
    (s.showTemp m b t).hsk = s.hsk ∧ (s.showTemp m b t).beat = s.beat := by
  unfold State.showTemp
  rw [State.modCtl_hsk, State.putField_hsk, State.putField_hsk, State.modCtl_beat, State.putField_beat, State.putField_beat]
  exact ⟨rfl, rfl⟩

/-- The fault of a failed readout (R316). -/
def State.tempFault (s : State) (m : Nat) (b : Bool) (t : Option Int) : List (Nat × FaultRec) :=
  if t.isNone then [s.faultLine 8 0 0x0802 (deviceOf m b) 0] else []

/-- The readout of a device changes what is shown of that device, the rate wanted of it, and the error lines where it failed. -/
theorem State.deviceTemp_frame (s : State) (m : Nat) (b : Bool) (t : Option Int) :
    (∀ f i, f.stem ≠ .HSK_EVT_PEND → (s.deviceTemp m b t).fieldOf f i = (s.showTemp m b t).fieldOf f i) ∧
    (s.deviceTemp m b t).ctl m = (s.ctl m).want b t ∧ (s.deviceTemp m b t).beat = s.beat ∧
    (s.deviceTemp m b t).hsk.lines = s.hsk.lines ++ s.tempFault m b t := by
  obtain ⟨hhsk, hbeat⟩ := s.showTemp_rest m b t
  unfold State.tempFault
  cases t with
  | none =>
    rw [State.deviceTemp_failed, State.ctl_fault, State.showTemp_ctl, State.fault_beat, State.fault_lines, hhsk, hbeat]
    refine ⟨fun f i _ => State.fieldOf_fault _ _ _ _ _ _ f i, rfl, rfl, ?_⟩
    unfold State.faultLine
    rw [hbeat]
    rfl
  | some t =>
    obtain ⟨c, hc⟩ := s.deviceTemp_read m b t
    rw [hc, Option.isNone_some, if_neg Bool.false_ne_true, List.append_nil]
    unfold when
    split
    · rw [State.ctl_event, State.showTemp_ctl, State.event_beat, State.event_lines, hhsk, hbeat]
      exact ⟨fun f i hf => State.fieldOf_event _ _ f i hf, rfl, rfl, rfl⟩
    · rw [State.showTemp_ctl, hhsk, hbeat]
      exact ⟨fun _ _ _ => rfl, rfl, rfl, rfl⟩

/-- Both readouts, one after the other. -/
theorem State.deviceTemps (s : State) (m : Nat) (a b : Option Int) (ha : tempShown a < 2 ^ 16) (hb : tempShown b < 2 ^ 16) :
    let t := (s.deviceTemp m false a).deviceTemp m true b
    t.fieldOf MEM_TEMP_TEMP_A m = tempShown a ∧ t.fieldOf MEM_TEMP_TEMP_B m = tempShown b ∧
    t.fieldOf THM_G_TEMP_TEMP (2 * m) = tempShown a ∧ t.fieldOf THM_G_TEMP_TEMP (2 * m + 1) = tempShown b ∧
    t.ctl m = ((s.ctl m).want false a).want true b ∧ t.hsk.lines = (s.hsk.lines ++ s.tempFault m false a) ++ s.tempFault m true b := by
  obtain ⟨af, actl, abeat, alines⟩ := s.deviceTemp_frame m false a
  obtain ⟨bf, bctl, _, blines⟩ := (s.deviceTemp m false a).deviceTemp_frame m true b
  obtain ⟨hta, hga⟩ := s.showTemp_shown m false a ha
  obtain ⟨htb, hgb⟩ := (s.deviceTemp m false a).showTemp_shown m true b hb
  obtain ⟨hta', hga'⟩ := (s.deviceTemp m false a).showTemp_other m true b
  have hfault : (s.deviceTemp m false a).tempFault m true b = s.tempFault m true b := by
    unfold State.tempFault State.faultLine
    rw [abeat]
  refine ⟨?_, ?_, ?_, ?_, by rw [bctl, actl], by rw [blines, alines, hfault]⟩
  · exact (bf _ _ (by decide)).trans (hta'.trans ((af _ _ (by decide)).trans hta))
  · exact (bf _ _ (by decide)).trans htb
  · exact (bf _ _ (by decide)).trans (hga'.trans ((af _ _ (by decide)).trans hga))
  · exact (bf _ _ (by decide)).trans hgb

theorem tempShown_lt (t : Int) : tempShown (some t) < 2 ^ 16 := by
  show (t % ((2 ^ 16 : Nat) : Int)).toNat < 2 ^ 16
  omega

theorem signed_tempShown {t : Int} (h1 : -2 ^ 15 < t) (h2 : t < 2 ^ 15) : signed 16 (tempShown (some t)) = t := by
  have hlt := tempShown_lt t
  have hval : ((tempShown (some t) : Nat) : Int) = t % 65536 := by
    show (((t % ((2 ^ 16 : Nat) : Int)).toNat : Nat) : Int) = t % 65536
    omega
  unfold signed
  rw [Nat.mod_eq_of_lt hlt]
  split <;> omega

theorem exec_gddr6TempRead {s : State} (hr : s.running = true) (mc : Fin 16) (a b : Option Int) (h2 : s.ctlState mc.val = 2)
    (hdue : ∀ r, (s.ctl mc.val).readAt = some r → r + 800000 ≤ s.beat.lbc) :
    exec (.gddr6TempRead mc a b) s = .next (((s.modCtl mc.val fun c => { c with readAt := some s.beat.lbc }).deviceTemp mc.val false a).deviceTemp
      mc.val true b) := by
  refine (done_live hr _).trans (congrArg Host.Outcome.next ?_)
  dsimp only
  refine if_neg ?_
  cases hat : (s.ctl mc.val).readAt with
  | none => simp [h2]
  | some r => simp [h2, hdue r hat]

/-! ### REFRESH_INTERVAL and DEVICE_LOST -/

theorem exec_refreshInterval {s : State} (hr : s.running = true) (mc : Fin 16) (h2 : s.ctlState mc.val = 2) : exec (.refreshInterval mc) s =
    .next ((s.putBit MEM_CTL_STAT_DBL_A mc.val (s.ctl mc.val).wantA).putBit MEM_CTL_STAT_DBL_B mc.val (s.ctl mc.val).wantB) := by
  refine (done_live hr _).trans (congrArg Host.Outcome.next ?_)
  dsimp only
  rw [if_neg (fun h => h h2)]

/-- The bit that marks a device failed. -/
def failBit (d : Nat) : Field := if d % 2 = 0 then MEM_CTL_STAT_FAIL_A else MEM_CTL_STAT_FAIL_B

theorem failBit_shape (d : Nat) : (failBit d).single = true ∧ (failBit d).apart MEM_CTL_STAT_STATE = true := by
  unfold failBit
  split <;> exact ⟨by decide, by decide⟩

theorem exec_deviceLost {s : State} (hr : s.running = true) (d : Fin 32) (h2 : s.ctlState (d.val / 2) = 2) : exec (.deviceLost d) s =
    .next ((((s.putField MEM_CTL_STAT_STATE (d.val / 2) 3).withMeas fun x => { x with lost := true }).putBit (failBit d.val) (d.val / 2)
      true).fault 8 3 0x0805 d.val 0) := by
  refine (done_live hr _).trans (congrArg Host.Outcome.next ?_)
  dsimp only
  rw [if_neg (fun h => h h2)]
  rfl

theorem State.fieldOf_withMeas (s : State) (f : Meas → Meas) (g : Field) (i : Nat) : (s.withMeas f).fieldOf g i = s.fieldOf g i := (rfl)

theorem State.lost_withMeas (s : State) : (s.withMeas fun x => { x with lost := true }).meas.lost = true := (rfl)

theorem deviceLost_spec {s : State} (hr : s.running = true) (d : Fin 32) (h2 : s.ctlState (d.val / 2) = 2) :
    ∃ t, exec (.deviceLost d) s = .next t ∧ t.ctlState (d.val / 2) = 3 ∧ t.meas.lost = true ∧
      t.bitOf (failBit d.val) (d.val / 2) = true ∧ t.hsk.lines = s.hsk.lines ++ [s.faultLine 8 3 0x0805 d.val 0] := by
  obtain ⟨hsingle, hapart⟩ := failBit_shape d.val
  refine ⟨_, exec_deviceLost hr d h2, ?_, ?_, ?_, ?_⟩
  · unfold State.ctlState
    rw [State.fieldOf_fault, State.fieldOf_putBit_apart _ _ _ _ _ _ hapart, State.fieldOf_withMeas, State.fieldOf_putField _ _ _ _ (by decide)]
    decide
  · rw [State.fault_meas, State.putBit_meas, State.lost_withMeas]
  · rw [State.bitOf_fault, State.bitOf_putBit _ _ _ _ hsingle]
  · rw [State.fault_lines, State.putBit_hsk, State.withMeas_hsk, State.putField_hsk]
    unfold State.faultLine
    rw [State.putBit_beat, State.withMeas_beat, State.putField_beat]

end Sys2Proof.Machine
end


section
/-! PROOFS. The obligation on the GDDR6 controllers. -/

namespace Sys2Proof.Machine

/-! ### The rates wanted -/

theorem Ctl.wants_both (c : Ctl) (a b : Option Int) : ((c.want false a).want true b).wantA = wantDouble a c.wantA ∧
    ((c.want false a).want true b).wantB = wantDouble b c.wantB := ⟨rfl, rfl⟩

theorem wantDouble_hot {t : Int} (h : 340 < t) (w : Bool) : wantDouble (some t) w = true := if_pos h

theorem wantDouble_cool {t : Int} (h : t < 320) (w : Bool) : wantDouble (some t) w = false := by
  show (if 340 < t then true else if t < 320 then false else w) = false
  rw [if_neg (by omega), if_pos h]

theorem gddr6TempRead_both {s : State} (hr : s.running = true) (mc : Fin 16) (a b : Int) (h2 : s.ctlState mc.val = 2)
    (hdue : ∀ r, (s.ctl mc.val).readAt = some r → r + 800000 ≤ s.beat.lbc) (ha : -2 ^ 15 < a) (ha' : a < 2 ^ 15) (hb : -2 ^ 15 < b)
    (hb' : b < 2 ^ 15) : ∃ t, exec (.gddr6TempRead mc (some a) (some b)) s = .next t ∧
      signed 16 (t.fieldOf MEM_TEMP_TEMP_A mc.val) = a ∧ signed 16 (t.fieldOf MEM_TEMP_TEMP_B mc.val) = b ∧
      signed 16 (t.fieldOf THM_G_TEMP_TEMP (2 * mc.val)) = a ∧ signed 16 (t.fieldOf THM_G_TEMP_TEMP (2 * mc.val + 1)) = b ∧
      (340 < a → (t.ctl mc.val).wantA = true) ∧ (a < 320 → (t.ctl mc.val).wantA = false) ∧
      (340 < b → (t.ctl mc.val).wantB = true) ∧ (b < 320 → (t.ctl mc.val).wantB = false) ∧ t.hsk.lines = s.hsk.lines := by
  refine ⟨_, exec_gddr6TempRead hr mc _ _ h2 hdue, ?_⟩
  obtain ⟨hta, htb, hga, hgb, hctl, hlines⟩ := (s.modCtl mc.val fun c => { c with readAt := some s.beat.lbc }).deviceTemps mc.val
    (some a) (some b) (tempShown_lt a) (tempShown_lt b)
  obtain ⟨hwa, hwb⟩ := ((s.modCtl mc.val fun c => { c with readAt := some s.beat.lbc }).ctl mc.val).wants_both (some a) (some b)
  rw [hta, htb, hga, hgb, hctl, hlines, hwa, hwb, signed_tempShown ha ha', signed_tempShown hb hb', State.modCtl_hsk]
  refine ⟨rfl, rfl, rfl, rfl, fun h => wantDouble_hot h _, fun h => wantDouble_cool h _, fun h => wantDouble_hot h _,
    fun h => wantDouble_cool h _, ?_⟩
  unfold State.tempFault
  simp

/-- A failed readout of device A. -/
theorem gddr6TempRead_failed {s : State} (hr : s.running = true) (mc : Fin 16) (b : Int) (h2 : s.ctlState mc.val = 2)
    (hdue : ∀ r, (s.ctl mc.val).readAt = some r → r + 800000 ≤ s.beat.lbc) :
    ∃ t, exec (.gddr6TempRead mc none (some b)) s = .next t ∧ t.fieldOf MEM_TEMP_TEMP_A mc.val = 0x8000 ∧
      t.fieldOf THM_G_TEMP_TEMP (2 * mc.val) = 0x8000 ∧ (t.ctl mc.val).wantA = true ∧
      t.hsk.lines = s.hsk.lines ++ [s.faultLine 8 0 0x0802 (2 * mc.val) 0] := by
  refine ⟨_, exec_gddr6TempRead hr mc _ _ h2 hdue, ?_⟩
  obtain ⟨hta, _, hga, _, hctl, hlines⟩ := (s.modCtl mc.val fun c => { c with readAt := some s.beat.lbc }).deviceTemps mc.val
    none (some b) (by decide) (tempShown_lt b)
  obtain ⟨hwa, _⟩ := ((s.modCtl mc.val fun c => { c with readAt := some s.beat.lbc }).ctl mc.val).wants_both none (some b)
  rw [hta, hga, hctl, hlines, hwa, State.modCtl_hsk]
  refine ⟨rfl, rfl, rfl, ?_⟩
  unfold State.tempFault State.faultLine
  rw [State.modCtl_beat]
  simp [deviceOf]

/-! ### The obligation -/

/-- Settles O37: the request of an empty queue is the one that its channel performs in the step; what it stores and what its transfers,
its fault and its answer leave follow from the rules of each operation. -/
theorem gddr6GranulesAndControllers : Obligations.Gddr6GranulesAndControllers := by
  unfold Obligations.Gddr6GranulesAndControllers
  refine ⟨fun cls g n w s hr => ⟨fun h => exec_memGranuleAccess_outside hr cls w n h, fun h => ?_⟩, fun mc s hr => ?_⟩
  · refine ⟨fun h3 => ?_, fun h3 hq hh hfree hl hinj hbg => ?_, fun h3 hb => exec_memGranuleAccess_blocked hr cls w n h h3 hb,
      fun hw => s.accept6_read _ hw, fun hw hfull => s.accept6_full _ _ hw hfull, fun ch i x hx => s.next6_spec hx⟩
    · rw [exec_memGranuleAccess_lost hr cls w n h h3, s.perform6_lost _ _ h3]
    · refine ⟨_, granuleAccessed hr h h3 hq hh hfree hl hinj hbg, ?_⟩
      by_cases hn : 4 < n
      · rw [if_pos hn]
        cases w with
        | none =>
          obtain ⟨⟨tq, treg, tram⟩, tans, tlines, tsame, tthr⟩ := s.transferred_poisoned (s.place6 g) (r := ⟨cls, g, none, n, [], false⟩) rfl hq hl
          exact ⟨tq, treg, tram, fun hle => absurd hn (by omega), fun _ => ⟨tans, tlines, fun _ => tsame, fun hs _ th => tthr hs th.val⟩⟩
        | some l =>
          obtain ⟨⟨tq, treg, tram⟩, tans, tlines⟩ := s.transferred_writeFailed (s.place6 g) (r := ⟨cls, g, some l, n, [], false⟩) rfl hq hl
          exact ⟨tq, treg, tram, fun hle => absurd hn (by omega), fun _ => ⟨tans, tlines, nofun, nofun⟩⟩
      · rw [if_neg hn]
        obtain ⟨⟨tq, treg, tram⟩, thsk, tbytes⟩ := s.transferred_answer (s.place6 g) ⟨cls, g, w, n, [], false⟩ hq hl
          (if w = none then .data (s.mem (128 * g) 128) else .written)
        refine ⟨tq, treg, tram, fun _ => ⟨thsk, rfl, fun i hi => (tbytes i hi).trans ?_⟩, fun h4 => absurd h4 hn⟩
        cases w with
        | none => rfl
        | some l =>
          dsimp only [Option.bind_some]
          cases l[i]? with
          | none => rfl
          | some o => cases o <;> rfl
  · refine ⟨fun h => edcWindowEnd_spec hr mc h, done_live hr _, fun a b h2 hdue ha ha' hb hb' => gddr6TempRead_both hr mc a b h2 hdue ha ha' hb hb',
      fun b h2 hdue => gddr6TempRead_failed hr mc b h2 hdue, fun h2 => exec_refreshInterval hr mc h2, fun d hd h2 => ?_⟩
    rw [← hd] at h2 ⊢
    exact deviceLost_spec hr d h2

end Sys2Proof.Machine
end


section
/-! PROOFS. What every command leaves of the beat count (R20). -/

namespace Sys2Proof.Machine

/-- The commands that move the LBC: the entry to RUN, the beat boundary and the module's resets (R16, R20, R456). -/
def movesLbc : Instr → Bool
  | .beatPllLock => true
  | .beatBoundary => true
  | .porstNFall => true
  | .powerMonitorReset _ => true
  | _ => false

/-- The footprint of everything but one part of the state. -/
def allBut (p : Part) : Nat := 0xffffffffffffffffffffffffffffffffffffffffffffffffffffffffffffffff - 2 ^ p.ctorIdx

theorem Kept.lbc {m : Nat} {r t : State} (h : Kept m r t) (hm : m.testBit Part.lbc.ctorIdx = false) : t.beat.lbc = r.beat.lbc :=
  h.same .lbc hm

/-- The footprint of every command but the four that move the beat count leaves it out. -/
theorem exec_kept_allBut_lbc {c : Instr} {s t : State} (hc : movesLbc c = false) (e : exec c s = .next t) : Kept (allBut .lbc) s t := by
  cases c with
  | hstMbOpen => exact execHstMbOpen_kept (by decide) _ _ _ _ _ _ _ e
  | hstMbClose => exact execHstMbClose_kept (by decide) _ _ e
  | hstMbReset => exact execHstMbReset_kept (by decide) _ _ e
  | hstWinSet => exact execHstWinSet_kept (by decide) _ _ e
  | hstRegWrite => exact execHstRegWrite_kept (by decide) _ _ _ _ e
  | hstRegRead => exact execHstRegRead_kept (by decide) _ _ e
  | sysHello => exact execSysHello_kept (by decide) _ _ _ _ _ e
  | sysAgree => exact execSysAgree_kept (by decide) _ e
  | cfgBegin => exact execCfgBegin_kept (by decide) _ e
  | cfgCommit => exact execCfgCommit_kept (by decide) _ _ _ _ e
  | cfgRollback => exact execCfgRollback_kept (by decide) _ e
  | sysProfileSelect => exact execSysProfileSelect_kept (by decide) _ _ e
  | sysProfileStore => exact execSysProfileStore_kept (by decide) _ _ e
  | sysShutdownLogRead => exact execSysShutdownLogRead_kept (by decide) _ _ _ _ e
  | sysShutdownLogClear => exact execSysShutdownLogClear_kept (by decide) _ e
  | ledgerSnap => exact execLedgerSnap_kept (by decide) _ e
  | tmgTsetLoad => exact execTmgTsetLoad_kept (by decide) _ _ _ _ _ e
  | tmgTsetRead => exact execTmgTsetRead_kept (by decide) _ _ _ _ e
  | tmgEdgeQuery => exact execTmgEdgeQuery_kept (by decide) _ _ _ _ e
  | vstDirWrite => exact execVstDirWrite_kept (by decide) _ _ _ _ e
  | vstDirRead => exact execVstDirRead_kept (by decide) _ _ _ _ e
  | vstSegVerify => exact execVstSegVerify_kept (by decide) _ _ e
  | vstMktabLoad => exact execVstMktabLoad_kept (by decide) _ _ _ _ _ e
  | seqUcodeLoad => exact execSeqUcodeLoad_kept (by decide) _ _ _ e
  | seqUcodeVerify => exact execSeqUcodeVerify_kept (by decide) _ _ e
  | seqProgLoad => exact execSeqProgLoad_kept (by decide) _ _ _ _ e
  | seqProgFree => exact execSeqProgFree_kept (by decide) _ _ e
  | seqBurstStart => exact execSeqBurstStart_kept (by decide) _ _ _ _ _ _ _ e
  | seqBurstStop => exact execSeqBurstStop_kept (by decide) _ _ _ e
  | seqThrRead => exact execSeqThrRead_kept (by decide) _ _ _ e
  | seqCslSet => exact execSeqCslSet_kept (by decide) _ _ _ _ e
  | capAqArm => exact execCapAqArm_kept (by decide) _ _ e
  | capAqDisarm => exact execCapAqDisarm_kept (by decide) _ _ e
  | capAqTrig => exact execCapAqTrig_kept (by decide) _ _ e
  | capAqRead => exact execCapAqRead_kept (by decide) _ _ _ _ e
  | capAqMaskLoad => exact execCapAqMaskLoad_kept (by decide) _ _ _ _ e
  | tiaStart => exact execTiaStart_kept (by decide) _ _ _ _ _ e
  | tiaStop => exact execTiaStop_kept (by decide) _ _ _ e
  | tiaStatRead => exact execTiaStatRead_kept (by decide) _ _ _ e
  | adcSelfcal => exact execAdcSelfcal_kept (by decide) _ _ e
  | adcArm => exact execAdcArm_kept (by decide) _ _ e
  | adcStop => exact execAdcStop_kept (by decide) _ _ _ e
  | adcTrig => exact execAdcTrig_kept (by decide) _ _ e
  | adcOpenwire => exact execAdcOpenwire_kept (by decide) _ _ _ _ _ _ _ e
  | supSet => exact execSupSet_kept (by decide) _ _ _ _ e
  | supSelftest => exact execSupSelftest_kept (by decide) _ _ _ e
  | klkPortCtl => exact execKlkPortCtl_kept (by decide) _ _ _ e
  | klkPrbs => exact execKlkPrbs_kept (by decide) _ _ _ _ _ _ _ e
  | klkTrigSend => exact execKlkTrigSend_kept (by decide) _ _ e
  | ntuTodRead => exact execNtuTodRead_kept (by decide) _ e
  | ntuTodStep => exact execNtuTodStep_kept (by decide) _ _ _ _ _ e
  | ntuAlmArm => exact execNtuAlmArm_kept (by decide) _ _ _ _ _ _ _ _ e
  | ntuAlmDisarm => exact execNtuAlmDisarm_kept (by decide) _ _ e
  | ntuTxTimed => exact execNtuTxTimed_kept (by decide) _ _ _ _ _ _ _ e
  | mgtAppletLoad => exact execMgtAppletLoad_kept (by decide) _ _ _ _ _ _ _ _ e
  | mgtAppletStop => exact execMgtAppletStop_kept (by decide) _ _ e
  | mgtDmaHost => exact execMgtDmaHost_kept (by decide) _ _ _ _ _ e
  | mgtCoreDump => exact execMgtCoreDump_kept (by decide) _ _ _ e
  | mgtDeqResume => exact execMgtDeqResume_kept (by decide) _ _ _ e
  | calRun => exact execCalRun_kept (by decide) _ _ _ _ _ _ e
  | calStore => exact execCalStore_kept (by decide) _ _ e
  | calRestore => exact execCalRestore_kept (by decide) _ _ _ e
  | hskRecRead => exact execHskRecRead_kept (by decide) _ _ _ _ e
  | hstFwStore => exact execHstFwStore_kept (by decide) _ _ _ e
  | v1Go => exact execV1Go_kept (by decide) e
  | sqTailWrite => exact execSqTailWrite_kept (by decide) _ _ e
  | cqHeadWrite => exact execCqHeadWrite_kept (by decide) _ _ e
  | hskAckWrite => exact execHskAckWrite_kept (by decide) _ _ e
  | hskInjectWrite => exact execHskInjectWrite_kept (by decide) _ _ e
  | seqGrWrite => exact execSeqGrWrite_kept (by decide) _ _ e
  | ntuIncWrite => exact execNtuIncWrite_kept (by decide) _ _ _ e
  | supLatchClear => exact execSupLatchClear_kept (by decide) _ _ e
  | mgtRxqRelWrite => exact execMgtRxqRelWrite_kept (by decide) _ _ e
  | dmaDoorbellWrite => exact execDmaDoorbellWrite_kept (by decide) _ _ _ e
  | registerWrite => exact execRegisterWrite_kept (by decide) _ _ _ e
  | loWordRead => exact execLoWordRead_kept (by decide) _ _ e
  | readClearRead => exact execReadClearRead_kept (by decide) _ _ e
  | todNsRead => exact execTodNsRead_kept (by decide) _ e
  | tiaCntLoRead => exact execTiaCntLoRead_kept (by decide) _ _ e
  | i2cRead => exact execI2cRead_kept (by decide) _ e
  | bar2Access => exact execBar2Access_kept (by decide) _ _ _ e
  | functionLevelReset => exact execFunctionLevelReset_kept (by decide) e
  | perstNAssert => exact execPerstNAssert_kept (by decide) e
  | perstNRise => exact execPerstNRise_kept (by decide) e
  | pcieLinkSettle => exact execPcieLinkSettle_kept (by decide) _ _ e
  | porstNRise => exact execPorstNRise_kept (by decide) _ e
  | porstNFall => cases hc
  | powerMonitorReset => cases hc
  | refWindow => exact execRefWindow_kept (by decide) _ e
  | beatPllLock => cases hc
  | beatLockTimeout => exact execBeatLockTimeout_kept (by decide) e
  | refclkLoss => exact execRefclkLoss_kept (by decide) e
  | holdoverRelock => exact execHoldoverRelock_kept (by decide) e
  | podPllLock => exact execPodPllLock_kept (by decide) _ e
  | podLockTimeout => exact execPodLockTimeout_kept (by decide) e
  | podPllUnlock => exact execPodPllUnlock_kept (by decide) _ e
  | beatBoundary => cases hc
  | bootRomLoad => exact execBootRomLoad_kept (by decide) e
  | firmwareBoot => exact execFirmwareBoot_kept (by decide) _ _ _ _ e
  | firmwareRestart => exact execFirmwareRestart_kept (by decide) e
  | descriptorStart => exact execDescriptorStart_kept (by decide) _ e
  | completionPost => exact execCompletionPost_kept (by decide) _ e
  | deferredCompletion => exact execDeferredCompletion_kept (by decide) _ _ e
  | deferredStart => exact execDeferredStart_kept (by decide) _ e
  | msixCoalesceTimeout => exact execMsixCoalesceTimeout_kept (by decide) _ e
  | msixSend => exact execMsixSend_kept (by decide) _ e
  | cfgApply mb => exact execCfgApply_kept (by decide) mb e
  | burstStartBeat => exact execBurstStartBeat_kept (by decide) _ e
  | nop => exact execNop_kept (by decide) _ e
  | fetch => exact execFetch_kept (by decide) _ e
  | park => exact execPark_kept (by decide) _ e
  | lsDecb => exact execLsDecb_kept (by decide) _ e
  | bgZero => exact execBgZero_kept (by decide) _ e
  | bflag => exact execBflag_kept (by decide) _ e
  | pqPush => exact execPqPush_kept (by decide) _ e
  | lsPush => exact execLsPush_kept (by decide) _ e
  | lsBack => exact execLsBack_kept (by decide) _ e
  | lsPop => exact execLsPop_kept (by decide) _ e
  | csPush => exact execCsPush_kept (by decide) _ e
  | csPop => exact execCsPop_kept (by decide) _ e
  | pcImm => exact execPcImm_kept (by decide) _ e
  | pcExit => exact execPcExit_kept (by decide) _ e
  | grSet => exact execGrSet_kept (by decide) _ e
  | grAdd => exact execGrAdd_kept (by decide) _ e
  | arm => exact execArm_kept (by decide) _ e
  | armTo => exact execArmTo_kept (by decide) _ e
  | mkSet => exact execMkSet_kept (by decide) _ e
  | sofSet => exact execSofSet_kept (by decide) _ e
  | haltQ => exact execHaltQ_kept (by decide) _ e
  | ibufRefill => exact execIbufRefill_kept (by decide) _ e
  | vectorIssue => exact execVectorIssue_kept (by decide) _ e
  | mkPulseEnd => exact execMkPulseEnd_kept (by decide) _ e
  | tsetEmptyDetect => exact execTsetEmptyDetect_kept (by decide) _ e
  | outputPipeSchedule => exact execOutputPipeSchedule_kept (by decide) _ e
  | calOffsetUpdate => exact execCalOffsetUpdate_kept (by decide) e
  | compareResult => exact execCompareResult_kept (by decide) _ _ _ _ e
  | compareInputResolve => exact execCompareInputResolve_kept (by decide) _ _ _ e
  | conditionSlotSet => exact execConditionSlotSet_kept (by decide) _ _ e
  | branchDecision => exact execBranchDecision_kept (by decide) _ e
  | branchEffect => exact execBranchEffect_kept (by decide) _ e
  | padReady => exact execPadReady_kept (by decide) _ _ e
  | padExpire => exact execPadExpire_kept (by decide) _ _ e
  | waitTimeout => exact execWaitTimeout_kept (by decide) _ e
  | joinRelease => exact execJoinRelease_kept (by decide) _ e
  | joinTimeout => exact execJoinTimeout_kept (by decide) _ e
  | spansyncRelease => exact execSpansyncRelease_kept (by decide) e
  | spansyncTimeout => exact execSpansyncTimeout_kept (by decide) e
  | spanKeepalive => exact execSpanKeepalive_kept (by decide) e
  | spanLinkLate => exact execSpanLinkLate_kept (by decide) _ e
  | siteAbort => exact execSiteAbort_kept (by decide) _ e
  | quietStateEntry => exact execQuietStateEntry_kept (by decide) _ e
  | streamFetchRequest => exact execStreamFetchRequest_kept (by decide) _ e
  | streamGranuleArrive => exact execStreamGranuleArrive_kept (by decide) _ e
  | blockAllocate => exact execBlockAllocate_kept (by decide) _ e
  | blockFree => exact execBlockFree_kept (by decide) _ _ e
  | cstRead => exact execCstRead_kept (by decide) _ _ e
  | memGranuleAccess => exact execMemGranuleAccess_kept (by decide) _ _ _ _ e
  | edcWindowEnd => exact execEdcWindowEnd_kept (by decide) _ e
  | gddr6TempRead => exact execGddr6TempRead_kept (by decide) _ _ _ e
  | deviceLost => exact execDeviceLost_kept (by decide) _ e
  | failBitCapture => exact execFailBitCapture_kept (by decide) _ e
  | failRecordTimeout => exact execFailRecordTimeout_kept (by decide) _ e
  | failLogFlush => exact execFailLogFlush_kept (by decide) _ e
  | captureSample => exact execCaptureSample_kept (by decide) _ e
  | aqSample => exact execAqSample_kept (by decide) _ e
  | aqMonitorTimeout => exact execAqMonitorTimeout_kept (by decide) _ e
  | aqHoldoffEnd => exact execAqHoldoffEnd_kept (by decide) _ e
  | toPulseEnd => exact execToPulseEnd_kept (by decide) _ e
  | tdcEdge => exact execTdcEdge_kept (by decide) _ _ _ e
  | tdcHoldoffEnd => exact execTdcHoldoffEnd_kept (by decide) _ _ e
  | tdcMeasure => exact execTdcMeasure_kept (by decide) _ e
  | tdcRunEnd => exact execTdcRunEnd_kept (by decide) _ e
  | freqGateEnd => exact execFreqGateEnd_kept (by decide) _ e
  | adcTriggerTake => exact execAdcTriggerTake_kept (by decide) _ e
  | adcConversion => exact execAdcConversion_kept (by decide) _ _ e
  | adcResultWrite => exact execAdcResultWrite_kept (by decide) _ e
  | adcSelfcalEnd => exact execAdcSelfcalEnd_kept (by decide) _ _ e
  | adcOpenwireEnd => exact execAdcOpenwireEnd_kept (by decide) _ _ e
  | supPeriodStart => exact execSupPeriodStart_kept (by decide) _ _ e
  | peakComparatorTrip => exact execPeakComparatorTrip_kept (by decide) _ _ e
  | supComparatorTrip => exact execSupComparatorTrip_kept (by decide) _ _ e
  | softStartStep => exact execSoftStartStep_kept (by decide) _ e
  | rampDownDone => exact execRampDownDone_kept (by decide) _ e
  | enableBlankingEnd => exact execEnableBlankingEnd_kept (by decide) _ _ _ e
  | supSelftestEnd => exact execSupSelftestEnd_kept (by decide) _ _ e
  | thmConversion counts estimates => exact execThmConversion_kept (by decide) counts estimates e
  | throttleTick => exact execThrottleTick_kept (by decide) e
  | shutdownRecordWrite => exact execShutdownRecordWrite_kept (by decide) _ e
  | coreWatchdogExpiry => exact execCoreWatchdogExpiry_kept (by decide) _ e
  | watchdogRestart => exact execWatchdogRestart_kept (by decide) _ e
  | coreTrap => exact execCoreTrap_kept (by decide) _ _ e
  | appletRegRequest => exact execAppletRegRequest_kept (by decide) _ _ _ e
  | expect => exact execExpect_kept (by decide) _ _ e
  | post => exact execPost_kept (by decide) _ _ _ e
  | threadYield => exact execThreadYield_kept (by decide) _ _ e
  | threadCreate => exact execThreadCreate_kept (by decide) _ _ _ _ _ _ _ e
  | threadRelease => exact execThreadRelease_kept (by decide) _ _ e
  | completionDelivery => exact execCompletionDelivery_kept (by decide) e
  | cqRefuseRetry => exact execCqRefuseRetry_kept (by decide) _ e
  | dmaDescriptorStart => exact execDmaDescriptorStart_kept (by decide) _ e
  | dmaGranuleMove => exact execDmaGranuleMove_kept (by decide) _ _ e
  | faultLatch => exact execFaultLatch_kept (by decide) e
  | faultRecordWrite => exact execFaultRecordWrite_kept (by decide) e
  | klFrameReceive => exact execKlFrameReceive_kept (by decide) _ _ e
  | condReceive => exact execCondReceive_kept (by decide) _ e
  | trigReceive => exact execTrigReceive_kept (by decide) _ e
  | noticeReceive => exact execNoticeReceive_kept (by decide) _ e
  | timeReceive => exact execTimeReceive_kept (by decide) _ _ e
  | dataReceive => exact execDataReceive_kept (by decide) _ e
  | ctrlReceive => exact execCtrlReceive_kept (by decide) _ e
  | linkReceive => exact execLinkReceive_kept (by decide) _ _ e
  | frameTransmit => exact execFrameTransmit_kept (by decide) _ e
  | replayTimeout => exact execReplayTimeout_kept (by decide) _ e
  | refuseReplay => exact execRefuseReplay_kept (by decide) _ e
  | signalDetect => exact execSignalDetect_kept (by decide) _ _ e
  | laneLock => exact execLaneLock_kept (by decide) _ _ e
  | eqAgreed => exact execEqAgreed_kept (by decide) _ e
  | negotiateExchange => exact execNegotiateExchange_kept (by decide) _ _ e
  | creditInit => exact execCreditInit_kept (by decide) _ _ _ _ e
  | trainingTimeout => exact execTrainingTimeout_kept (by decide) _ e
  | lossOfSignal => exact execLossOfSignal_kept (by decide) _ _ e
  | noPartnerRetry => exact execNoPartnerRetry_kept (by decide) _ e
  | laneLoss => exact execLaneLoss_kept (by decide) _ _ _ e
  | prbsCheck => exact execPrbsCheck_kept (by decide) _ _ e
  | dreqSend => exact execDreqSend_kept (by decide) _ _ e
  | syncSend => exact execSyncSend_kept (by decide) _ _ e
  | syncLoss => exact execSyncLoss_kept (by decide) e
  | ptpMessage => exact execPtpMessage_kept (by decide) _ _ _ e
  | ethernetLinkDown => exact execEthernetLinkDown_kept (by decide) _ e
  | todStepApply => exact execTodStepApply_kept (by decide) e
  | alarmFire => exact execAlarmFire_kept (by decide) _ e
  | timedFrameLaunch => exact execTimedFrameLaunch_kept (by decide) _ _ e
  | calRunBegin => exact execCalRunBegin_kept (by decide) _ _ _ e
  | calStepEnd => exact execCalStepEnd_kept (by decide) _ _ e
  | c3Recalibration => exact execC3Recalibration_kept (by decide) e
  | storeWrite => exact execStoreWrite_kept (by decide) _ e
  | tiEdge => exact execTiEdge_kept (by decide) _ _ _ e
  | tdcStartBeat => exact execTdcStartBeat_kept (by decide) _ e
  | threadPreempt => exact execThreadPreempt_kept (by decide) _ e
  | supComparatorResolve => exact execSupComparatorResolve_kept (by decide) _ _ _ e
  | alignmentMarkerReceive => exact execAlignmentMarkerReceive_kept (by decide) _ _ _ e
  | periodicReadRetraining => exact execPeriodicReadRetraining_kept (by decide) _ e
  | refreshInterval => exact execRefreshInterval_kept (by decide) _ e
  | pBaseRecompute => exact execPBaseRecompute_kept (by decide) _ e
  | ethernetLinkUp => exact execEthernetLinkUp_kept (by decide) _ e

/-- The state at the start of a beat: LBC and ToD have advanced, and nothing else has happened (R20, R355). -/
def State.newBeat (s : State) : State := s.advanceTod.withBeat fun x => { x with lbc := s.beat.lbc + 1 }

/-- What a new beat begins with beside LBC and ToD leaves the beat count. -/
theorem State.beginBeat_kept_newBeat (s : State) : Kept (allBut .lbc) s.newBeat s.beginBeat := by
  unfold State.beginBeat
  dsimp only
  have k := Kept.refl (m := allBut .lbc) s.newBeat
  have hm : Covers (allBut .lbc) (allBut .lbc) := Covers.refl _
  unfold State.newBeat at k ⊢
  revert k
  generalize (s.advanceTod.withBeat fun x => { x with lbc := s.beat.lbc + 1 }) = u
  intro k
  repeat' (with_reducible first | assumption | exact Covers.trans hm (by decide) | apply State.upToRequests_kept | apply State.sendAlarms_kept
                                | apply State.endWinMove_kept | apply State.checkCompletions_kept | apply State.supLatchAgain_kept | apply State.serveAll_kept
                                | apply State.checkLedger_kept | apply each_kept | apply State.threadBeat_kept
                                | apply State.leaveStall_kept
                                | apply State.withHsk_kept | apply State.setReg_kept | apply State.settleRefresh_kept
                                | apply State.exchangeMarks_kept | apply State.adcPassEnd_kept | apply foldl_kept
                                | apply kept_ite | exact Kept.refl _ | dsimp only | intro _ | split)

theorem State.endBeat_lbc (s : State) : s.endBeat.beat.lbc = s.beat.lbc :=
  (State.endBeat_kept (Covers.refl _) (Kept.refl s)).lbc (by decide)

theorem State.beginBeat_lbc (s : State) : s.beginBeat.beat.lbc = s.beat.lbc + 1 :=
  (State.beginBeat_kept_newBeat s).lbc (by decide)

theorem execBeatBoundary_lbc {s t : State} (e : execBeatBoundary s = .next t) :
    t.beat.lbc = if s.running then s.beat.lbc + 1 else s.beat.lbc := by
  injection e with e
  subst e
  unfold State.live
  split
  · rw [State.beginBeat_lbc, State.endBeat_lbc]
  · rfl

/-- The beat generator at the entry to RUN (R16, R20). -/
def State.enterRun (s : State) : State :=
  (s.putBit NTU_BEAT_STAT_BEAT_LOCK 0 true).withBeat fun b => { b with phase := .run, lbc := 0 }

theorem execBeatPllLock_locks {s : State} (h : s.beat.phase = .beatLock) :
    execBeatPllLock s = .next (when (!s.enterRun.shutDown) (each [0, 1] State.startCore) s.enterRun) := if_pos h

theorem execBeatPllLock_waits {s : State} (h : s.beat.phase ≠ .beatLock) : execBeatPllLock s = .next s := if_neg h

/-- The cores that the entry to RUN starts leave the beat generator (R374). -/
theorem State.startCores_kept (s : State) (c : Bool) : Kept 0x40000000000000000000000000000000000004000 s (when c (each [0, 1] State.startCore) s) :=
  when_kept (Kept.refl s) _ _ fun _ ht => each_kept (fun _ _ hu => State.startCore_kept (by decide) hu _) _ ht

theorem execBeatPllLock_lbc {s t : State} (e : execBeatPllLock s = .next t) :
    t.beat.lbc = if s.beat.phase = .beatLock then 0 else s.beat.lbc := by
  by_cases h : s.beat.phase = .beatLock
  · rw [execBeatPllLock_locks h] at e
    injection e with e
    rw [if_pos h, ← e]
    exact (State.startCores_kept _ _).lbc (by decide)
  · rw [execBeatPllLock_waits h] at e
    injection e with e
    rw [if_neg h, e]

/-- What a change leaves as it was, it leaves so where it is made under a condition. -/
theorem when_keeps {α : Type} (p : State → α) {c : Bool} {f : State → State} {s : State} (hf : p (f s) = p s) : p (when c f s) = p s := by
  cases c
  · rfl
  · exact hf

@[simp] theorem State.resetBy_beat (s : State) :
    s.resetBy.beat = { gpio := s.beat.gpio.map (fun g => { pin := g.pin }), tap := s.beat.tap } := by
  unfold State.resetBy
  exact when_keeps State.beat rfl

/-- Settles O5: every command but four has a footprint without the beat count; the four are looked at one by one. -/
theorem lbcCountsBeatsOnly : Obligations.LbcCountsBeatsOnly := by
  intro c s t e
  cases hc : movesLbc c with
  | false =>
    have hk := (exec_kept_allBut_lbc hc e).lbc (by decide)
    unfold movesLbc at hc
    split at hc <;> simp_all
  | true =>
    unfold movesLbc at hc
    split at hc
    · exact execBeatPllLock_lbc e
    · exact execBeatBoundary_lbc e
    · injection e with e
      simp [← e]
    · next rail =>
      cases rail <;> injection e with e <;> simp [← e]
    · cases hc

end Sys2Proof.Machine
end


section
/-! PROOFS. The stages of R57 that every Sesame command passes: its mailbox, the state gates, its reserved fields (R10, R56, R57, R70,
R440). -/

namespace Sys2Proof.Machine

/-- A status that R57 does not place between BUSY, BAD_COMMAND and BAD_ARGUMENT: one of these, or a higher one. -/
def Status.placed (st : Nat) : Bool := st == Status.busy || st == Status.badCommand || decide (Status.badArgument ≤ st)

/-- No check of a list fails with a status that R57 does not place. -/
def placedChecks (l : List (Bool × Nat)) : Bool := (l.map Prod.snd).all Status.placed

theorem placedChecks_append (l m : List (Bool × Nat)) : placedChecks (l ++ m) = (placedChecks l && placedChecks m) := by
  simp [placedChecks]

/-- The lowest status is that of a check that fails (R57). -/
theorem lowest_mem {l : List (Bool × Nat)} {st : Nat} (h : lowest l = some st) : (true, st) ∈ l := by
  induction l generalizing st with
  | nil => cases h
  | cons p l ih =>
    obtain ⟨c, b⟩ := p
    rw [lowest] at h
    cases hl : lowest l with
    | none =>
      rw [hl] at h
      cases c <;> cases h
      exact List.mem_cons_self
    | some t =>
      have hm := List.mem_cons_of_mem (c, b) (ih hl)
      rw [hl] at h
      cases c <;> cases h
      · exact hm
      · rcases min_choice b t with e | e <;> rw [e]
        · exact List.mem_cons_self
        · exact hm

/-- No check fails with a status below the lowest (R57). -/
theorem lowest_le {l : List (Bool × Nat)} {a : Nat} (h : (true, a) ∈ l) : ∃ st, lowest l = some st ∧ st ≤ a := by
  induction l with
  | nil => cases h
  | cons p l ih =>
    obtain ⟨c, b⟩ := p
    unfold lowest
    rcases List.mem_cons.1 h with h | h
    · cases h
      cases lowest l with
      | none => exact ⟨a, rfl, le_refl a⟩
      | some t => exact ⟨min a t, rfl, Nat.min_le_left a t⟩
    · obtain ⟨t, hl, hle⟩ := ih h
      rw [hl]
      cases c with
      | false => exact ⟨t, rfl, hle⟩
      | true => exact ⟨min b t, rfl, le_trans (Nat.min_le_right b t) hle⟩

/-- Among checks of which one fails with BAD_ARGUMENT, the lowest status is BUSY, BAD_COMMAND or BAD_ARGUMENT. -/
theorem lowest_badArgument {l : List (Bool × Nat)} (hp : placedChecks l = true) (hb : (true, Status.badArgument) ∈ l) :
    ∃ st, lowest l = some st ∧ st ∈ [Status.busy, Status.badCommand, Status.badArgument] := by
  obtain ⟨st, hst, hle⟩ := lowest_le hb
  refine ⟨st, hst, ?_⟩
  have hp : Status.placed st = true := List.all_eq_true.1 hp st (List.mem_map_of_mem (lowest_mem hst))
  simp only [Status.placed, Bool.or_eq_true, beq_iff_eq, decide_eq_true_eq] at hp
  have : st = Status.busy ∨ st = Status.badCommand ∨ st = Status.badArgument := by omega
  simpa using this

/-- What a Sesame command of code `k` makes of the state `u` in which it is judged: `t` is `u` where its mailbox is not served; where a
state gate is closed, `u` with that gate's status; and where they are open and a reserved field is not 0, `u` with a refusal. -/
structure Gated (iss : Issuer) (k : Nat) (u t : State) : Prop where
  unserved : u.canTake iss.mb.val = false → t = u
  gated : u.canTake iss.mb.val = true → ∀ st, u.gate k = some st → t = u.complete iss st []
  reserved : u.canTake iss.mb.val = true → u.gate k = none → iss.reserved = true → ∃ (st : Nat) (res : List Nat), t = u.complete iss st res ∧
    (st ∈ [Status.busy, Status.badCommand, Status.badArgument] ∨
      st = Status.rolledBack ∧ ∃ x, u.txnOf iss.mb.val = some x ∧ x.rolled = true)

theorem issuerCheck_reserved {iss : Issuer} (h : iss.reserved = true) : issuerCheck iss = (true, Status.badArgument) := by
  rw [issuerCheck, h]

theorem State.judge_gated {s : State} {k st : Nat} (h : s.gate k = some st) (avail : Bool) (checks : List (Bool × Nat)) :
    s.judge k avail checks = some st := by rw [State.judge, h]

/-- A reserved field that is not 0 refuses a command whose gates are open. -/
theorem State.judge_reserved {s : State} {iss : Issuer} {k : Nat} (hg : s.gate k = none) (hr : iss.reserved = true) (avail : Bool)
    {checks : List (Bool × Nat)} (hp : placedChecks checks = true) :
    ∃ st, s.judge k avail (issuerCheck iss :: checks) = some st ∧ st ∈ [Status.busy, Status.badCommand, Status.badArgument] := by
  rw [State.judge, hg, issuerCheck_reserved hr]
  exact lowest_badArgument (show placedChecks ([(!avail, Status.badCommand), (true, Status.badArgument)] ++ checks) = true by rw [placedChecks_append, hp]; rfl) (by simp)

theorem State.command_gated {s : State} {iss : Issuer} {k : Nat} {avail : Bool} {checks : List (Bool × Nat)} {run : State → State}
    (hp : placedChecks checks = true) : Gated iss k s (s.command iss k avail checks run) where
  unserved h := by rw [State.command, h]; rfl
  gated h st hg := by rw [State.command, h, State.judge_gated hg]; rfl
  reserved h hg hr := by
    obtain ⟨st, hj, hst⟩ := State.judge_reserved hg hr avail hp
    exact ⟨st, [], by rw [State.command, h, hj]; rfl, Or.inl hst⟩

/-- The state gates answer WRONG_STATE or NOT_AGREED. -/
theorem State.gate_status {s : State} {k st : Nat} (h : s.gate k = some st) : st = Status.wrongState ∨ st = Status.notAgreed := by
  unfold State.gate at h
  split at h
  · injection h with h; exact Or.inl h.symm
  · split at h
    · injection h with h; exact Or.inr h.symm
    · cases h

theorem State.commandBad_gated {s : State} {iss : Issuer} {k : Nat} {avail : Bool} {checks : List (Bool × Nat)} {bad : List Nat}
    {run : State → State} (hp : placedChecks checks = true) :
    Gated iss k s (s.commandBad iss k avail checks bad run) where
  unserved h := by rw [State.commandBad, h]; rfl
  gated h st hg := by rw [State.commandBad, h, State.judge_gated hg]; rcases State.gate_status hg with rfl | rfl <;> rfl
  reserved h hg hr := by
    obtain ⟨st, hj, hst⟩ := State.judge_reserved hg hr avail hp
    exact ⟨st, _, by rw [State.commandBad, h, hj]; rfl, Or.inl hst⟩

/-- With a reserved field that is not 0 and the gates open, an open transaction refuses what it would shadow: with ROLLED_BACK where it
was rolled back, else as R57 says (R60, R70). -/
theorem State.shadowed_gated {s : State} {iss : Issuer} {k : Nat} {avail : Bool} {checks more : List (Bool × Nat)} {bad res : List Nat}
    {entry : Shadow} {live : State → State} (hp : placedChecks checks = true) (hm : placedChecks more = true) :
    Gated iss k s (s.shadowed iss k avail checks more bad res entry live) where
  unserved h := by rw [State.shadowed, h]; rfl
  gated h st hg := by rw [State.shadowed, h, hg]; rfl
  reserved h hg hr := by
    have refused : ∀ l, placedChecks l = true → ∃ st, lowest ((!avail, Status.badCommand) :: issuerCheck iss :: checks ++ l) = some st ∧
        st ∈ [Status.busy, Status.badCommand, Status.badArgument] := fun l hl => by
      rw [issuerCheck_reserved hr]
      refine lowest_badArgument (show placedChecks ([(!avail, Status.badCommand), (true, Status.badArgument)] ++ checks ++ l) = true from ?_) (by simp)
      rw [placedChecks_append, placedChecks_append, hp, hl]
      rfl
    cases ht : s.txnOf iss.mb.val with
    | none =>
      obtain ⟨st, hl, hst⟩ := refused more hm
      exact ⟨st, if st = Status.badArgument then bad else [], by simp only [State.shadowed, h, hg, ht, hl, Bool.not_true, Bool.false_eq_true, if_false], Or.inl hst⟩
    | some x =>
      cases hx : x.rolled with
      | true => exact ⟨_, [], by simp only [State.shadowed, h, hg, ht, hx, Bool.not_true, Bool.false_eq_true, if_false, if_true], Or.inr ⟨rfl, x, rfl, hx⟩⟩
      | false =>
        obtain ⟨st, hl, hst⟩ := refused [(x.pending.isSome, Status.wrongState),
          (decide (4096 < shadowSize (addShadow x.entries entry)), Status.noResource)] rfl
        exact ⟨st, if st = Status.badArgument then bad else [], by simp only [State.shadowed, h, hg, ht, hx, hl, Bool.not_true, Bool.false_eq_true, if_false], Or.inl hst⟩

/-- A command that is judged in the state in which it comes is judged as R57 says. -/
theorem Gated.answers {o : Host.Outcome State Fault Refusal} {iss : Issuer} {k : Nat} {s t : State} (h : Gated iss k s t) (e : o = .next t)
    (hj : s.judgedIn k = s) :
    ∃ t, o = .next t ∧ (s.canTake iss.mb.val = false → t = s) ∧ (s.canTake iss.mb.val = true → Gated iss k (s.judgedIn k) t) :=
  ⟨t, e, h.unserved, fun _ => hj.symm ▸ h⟩

/-! ### Checks whose statuses R57 places -/

theorem State.supSetChecks_placed (s : State) (controllers : W32) (op : Byte) : placedChecks (s.supSetChecks controllers op) = true := rfl

theorem State.startChecks_placed (s : State) (sites nanos : W32) (program mode : Byte) (entry : W16) (at_ : W64) :
    placedChecks (s.startChecks sites program mode entry at_ nanos) = true := rfl

theorem State.writeChecks_placed (s : State) (who : Nat) (r : Reg) (v m : W32) : placedChecks (s.writeChecks who r v m) = true := by
  unfold State.writeChecks
  dsimp only
  split
  · rfl
  · split <;> rfl

/-! ### Bursts -/

/-- The judgement of a burst start in the state that stands at its boundary (R57, R76, R157). -/
def State.judgeStart (s : State) (iss : Issuer) (sites nanos : W32) (program mode : Byte) (entry : W16) (at_ : W64) : Option Nat :=
  s.judge 0x0120 (!(iss.mb == 16 && (mode == 1 || mode == 2))) (issuerCheck iss :: s.startChecks sites program mode entry at_ nanos)

/-- What a refusal by the power budget counts and tells before it is answered (R429). -/
def State.countRefusal (st : Nat) (s : State) : State :=
  if st = Status.thermal then (s.countUp THM_REFUSED_COUNT 0 1).event (1136 + 4) else s

section
variable {iss : Issuer} {sites nanos : W32} {program mode : Byte} {entry : W16} {at_ : W64} {s : State}

theorem execSeqBurstStart_unserved (h : s.canTake iss.mb.val = false) : execSeqBurstStart iss sites program mode entry at_ nanos s = .next s := by
  simp [execSeqBurstStart, State.requested, h, done]

theorem execSeqBurstStart_lapsed (h : s.canTake iss.mb.val = true) (hu : s.upToRequests.canTake iss.mb.val = false) :
    execSeqBurstStart iss sites program mode entry at_ nanos s = .next s.upToRequests := by
  simp [execSeqBurstStart, State.requested, h, hu, done]

theorem execSeqBurstStart_refused (h : s.canTake iss.mb.val = true) (hu : s.upToRequests.canTake iss.mb.val = true) {st : Nat}
    (hj : s.upToRequests.judgeStart iss sites nanos program mode entry at_ = some st) :
    execSeqBurstStart iss sites program mode entry at_ nanos s = .next ((s.upToRequests.countRefusal st).complete iss st []) := by
  unfold State.judgeStart at hj
  simp only [execSeqBurstStart, State.requested, h, hu, hj, done, if_true, Bool.not_true, Bool.false_eq_true, if_false]
  rfl

theorem execSeqBurstStart_armed (h : s.canTake iss.mb.val = true) (hu : s.upToRequests.canTake iss.mb.val = true)
    (hj : s.upToRequests.judgeStart iss sites nanos program mode entry at_ = none) :
    execSeqBurstStart iss sites program mode entry at_ nanos s = .next ((s.upToRequests.pinAll.armBurst (maskList sites 32) program.toNat
      entry.toNat (s.upToRequests.startBeat mode at_ nanos)).defer iss (.seqBurstStart iss sites program mode entry at_ nanos)
      (s.upToRequests.startBeat mode at_ nanos) [sites.toNat, 0]) := by
  unfold State.judgeStart at hj
  simp only [execSeqBurstStart, State.requested, h, hu, hj, done, if_true, Bool.not_true, Bool.false_eq_true, if_false]

/-- The start of a burst is judged after what stands above it at its boundary (R23). -/
theorem execSeqBurstStart_gated (h : s.canTake iss.mb.val = true) :
    ∃ t, execSeqBurstStart iss sites program mode entry at_ nanos s = .next t ∧ Gated iss 0x0120 s.upToRequests t := by
  cases hu : s.upToRequests.canTake iss.mb.val with
  | false => exact ⟨_, execSeqBurstStart_lapsed h hu, fun _ => rfl, fun h => absurd h (by simp [hu]), fun h => absurd h (by simp [hu])⟩
  | true =>
    cases hj : s.upToRequests.judgeStart iss sites nanos program mode entry at_ with
    | none =>
      refine ⟨_, execSeqBurstStart_armed h hu hj, fun e => absurd (hu.symm.trans e) (by decide), fun _ st hg => ?_, fun _ hg hr => ?_⟩
      · exact absurd (hj.symm.trans (State.judge_gated hg _ _)) nofun
      · obtain ⟨st, hs, _⟩ := State.judge_reserved hg hr _ (State.startChecks_placed _ sites nanos program mode entry at_)
        exact absurd (hj.symm.trans hs) nofun
    | some st =>
      have plain : st ≠ Status.thermal → s.upToRequests.countRefusal st = s.upToRequests := fun e => if_neg e
      refine ⟨_, execSeqBurstStart_refused h hu hj, fun e => absurd (hu.symm.trans e) (by decide), fun _ x hg => ?_, fun _ hg hr => ?_⟩
      · cases hj.symm.trans (State.judge_gated hg _ _)
        rw [plain (by rcases State.gate_status hg with rfl | rfl <;> decide)]
      · obtain ⟨x, hs, hx⟩ := State.judge_reserved hg hr _ (State.startChecks_placed _ sites nanos program mode entry at_)
        cases hj.symm.trans hs
        have hst : st ≠ Status.thermal := by rintro rfl; exact absurd hx (by decide)
        exact ⟨st, [], by rw [plain hst], Or.inl hx⟩

theorem execSeqBurstStop_unserved (h : s.canTake iss.mb.val = false) : execSeqBurstStop iss sites mode s = .next s := by
  simp [execSeqBurstStop, State.requested, h, done]

/-- The stop of bursts, in the state that stands at its boundary: abort, halt, or back to IDLE (R159). -/
def State.stopBurst (sites : W32) (mode : Byte) (iss : Issuer) (s : State) : State :=
  let l := maskList sites 32
  match mode.toNat with
  | 0 =>
    let l := l.filter (fun n => !(s.idle n))
    (each l (fun n => State.abortDue n 6) s).complete iss Status.ok [listMask l]
  | 1 =>
    let l := l.filter s.issuing
    (each l (fun n s => s.requestStop n s.beat.lbc 4) s).complete iss Status.ok [listMask l]
  | _ =>
    let l := l.filter (fun n => (s.thr n).st == 1 && !((s.thr n).abortsBy (s.beat.lbc + 1)))
    (each l (fun n s => (s.endThread n 0).leaveStart n 0) s).complete iss Status.ok [listMask l]

/-- The stop of bursts is judged after what stands above it at its boundary (R23). -/
theorem execSeqBurstStop_judged (h : s.canTake iss.mb.val = true) : execSeqBurstStop iss sites mode s =
    .next (s.upToRequests.command iss 0x0121 true [(sites == 0 || decide (2 < mode.toNat), Status.badArgument)] (State.stopBurst sites mode iss)) := by
  simp only [execSeqBurstStop, State.requested, h, done, if_true]
  rfl

end

theorem State.judgedIn_start (s : State) : s.judgedIn 0x0120 = s.upToRequests := if_pos (Or.inl rfl)

theorem State.judgedIn_stop (s : State) : s.judgedIn 0x0121 = s.upToRequests := if_pos (Or.inr rfl)

/-- Every Sesame command is judged as R57 says, those that start and stop bursts after what stands above them (R23). -/
theorem exec_gated {c : Instr} {iss : Issuer} {k : Nat} (s : State) (h : sesame c = some (iss, k)) :
    ∃ t, exec c s = .next t ∧ (s.canTake iss.mb.val = false → t = s) ∧ (s.canTake iss.mb.val = true → Gated iss k (s.judgedIn k) t) := by
  cases c with
  | tmgTsetRead | tmgEdgeQuery | seqUcodeLoad | seqUcodeVerify | seqProgFree | seqThrRead | seqCslSet | vstDirWrite | vstDirRead
  | vstSegVerify | capAqArm | capAqDisarm | capAqTrig | capAqRead | tiaStart | tiaStop | tiaStatRead | adcSelfcal | adcArm | adcStop
  | adcTrig | adcOpenwire | supSelftest | klkPortCtl | klkPrbs | klkTrigSend | hstMbOpen | hstMbClose | hstMbReset | hstWinSet
  | hstRegRead | hstFwStore | ntuTodRead | ntuTodStep | ntuAlmArm | ntuAlmDisarm | ntuTxTimed | mgtAppletLoad | mgtAppletStop
  | mgtDmaHost | mgtCoreDump | calRun | calStore | calRestore | hskRecRead | sysHello | sysAgree | cfgBegin | cfgCommit | cfgRollback
  | sysProfileSelect | sysProfileStore | sysShutdownLogRead | sysShutdownLogClear | ledgerSnap =>
    cases h
    exact (State.command_gated rfl).answers rfl rfl
  | tmgTsetLoad | vstMktabLoad | capAqMaskLoad =>
    cases h
    exact (State.shadowed_gated rfl rfl).answers rfl rfl
  | supSet =>
    cases h
    exact (State.shadowed_gated rfl (State.supSetChecks_placed _ _ _)).answers rfl rfl
  | hstRegWrite =>
    cases h
    refine (State.shadowed_gated rfl ?_).answers rfl rfl
    split
    · exact State.writeChecks_placed s 0 _ _ _
    · rfl
  | seqProgLoad => 
    cases h
    exact (State.commandBad_gated rfl).answers rfl rfl
  | seqBurstStart =>
    cases h
    change ∃ t, execSeqBurstStart _ _ _ _ _ _ _ s = .next t ∧ _
    cases ht : s.canTake iss.mb.val with
    | false => exact ⟨s, execSeqBurstStart_unserved ht, fun _ => rfl, nofun⟩
    | true =>
      obtain ⟨t, e, hg⟩ := execSeqBurstStart_gated ht
      exact ⟨t, e, nofun, fun _ => by rwa [State.judgedIn_start]⟩
  | seqBurstStop =>
    cases h
    change ∃ t, execSeqBurstStop _ _ _ s = .next t ∧ _
    cases ht : s.canTake iss.mb.val with
    | false => exact ⟨s, execSeqBurstStop_unserved ht, fun _ => rfl, nofun⟩
    | true => exact ⟨_, execSeqBurstStop_judged ht, nofun, fun _ => by rw [State.judgedIn_stop]; exact State.command_gated rfl⟩
  | _ => cases h

/-- Settles O6: every Sesame command is gated alike, whichever shape its own judgement has. -/
theorem sesameGatesHold : Obligations.SesameGatesHold := by
  constructor
  · intro c iss k s h
    obtain ⟨t, e, hs, hg⟩ := exec_gated s h
    refine ⟨fun hc => by rw [e, hs hc], fun hc => ?_⟩
    have g := hg hc
    refine ⟨fun hu => by rw [e, g.unserved hu], fun hu hf ha => ?_, fun hu hf ha ho => ?_⟩
    · rw [e, g.gated hu Status.wrongState (by simp [State.gate, hf, ha])]
    · rw [e, g.gated hu Status.notAgreed (by simp [State.gate, hf, ha, ho])]
  · intro c iss k s h hr hc u hu hgate
    obtain ⟨t, e, -, hg⟩ := exec_gated s h
    obtain ⟨st, res, ht, hst⟩ := (hg hc).reserved hu hgate hr
    exact ⟨st, res, by rw [e, ht], hst⟩

end Sys2Proof.Machine
end


section
/-! PROOFS. Resets and boot: what they leave of each part of the state (R16, R456, R459, R462, R463). -/

namespace Sys2Proof.Machine

/-! ### Registers of other stems -/

theorem State.reg_setReg_stem (s : State) {st st' : Stem} (i w i' w' : Nat) (v : W32) (h : st' ≠ st) :
    (s.setReg st i w v).reg st' i' w' = s.reg st' i' w' := by
  refine (State.setReg_kept (m := stemBit st) st (Covers.refl _) (Kept.refl s) i w v).reg st' ?_ i' w'
  rw [stemBit, Nat.testBit_two_pow]
  exact decide_eq_false fun e => h (Stem.ctorIdx_inj (by omega))

theorem State.reg_putField_stem (s : State) {f : Field} {st : Stem} (i v i' w' : Nat) (h : st ≠ f.stem) :
    (s.putField f i v).reg st i' w' = s.reg st i' w' := State.reg_setReg_stem s _ _ _ _ _ h

/-! ### Resets (R456, R459) -/

/-- The registers after a reset: reset values, but for the ordering code, and FW_STATE in a thermal shutdown. -/
theorem State.resetBy_reg (s : State) {st : Stem} (i w : Nat) (hid : st ≠ .HST_ID) (hstate : st ≠ .HST_STATE) :
    s.resetBy.reg st i w = regReset (regKey st i w) := by
  unfold State.resetBy
  rw [when_keeps (fun u => u.reg st i w) (State.reg_putField_stem _ _ _ _ _ hstate), State.reg_setReg_stem _ _ _ _ _ _ hid]
  rfl

theorem State.resetBy_id (s : State) : s.resetBy.reg .HST_ID 0 0 = s.reg .HST_ID 0 0 := by
  unfold State.resetBy
  rw [when_keeps (fun u => u.reg .HST_ID 0 0) (State.reg_putField_stem _ _ _ _ _ (by decide)), State.reg_setReg_same]

/-- The parts beside the registers after a reset. -/
theorem State.resetBy_parts (s : State) : s.resetBy.ram = [] ∧ s.resetBy.hsk = { } ∧ s.resetBy.hst = { perst := s.hst.perst } ∧
    s.resetBy.cst = { } ∧ s.resetBy.ntu = { } ∧ s.resetBy.seq = { } ∧ s.resetBy.klk = { seed := s.free } ∧ s.resetBy.meas = { } ∧
    s.resetBy.mgt = { } ∧ s.resetBy.nor = s.nor ∧ s.resetBy.hostMem = s.hostMem ∧ s.resetBy.cap = { ti := s.cap.ti } ∧
    s.resetBy.pending = s.pending ∧ s.resetBy.thm = { latch := s.thm.latch, shutdown := s.thm.shutdown } ∧
    s.resetBy.cal = { abandoned := s.cal.abandoned, store := if s.thm.shutdown.isSome then s.cal.store else none } := by
  unfold State.resetBy
  exact ⟨when_keeps State.ram rfl, when_keeps State.hsk rfl, when_keeps State.hst rfl, when_keeps State.cst rfl, when_keeps State.ntu rfl,
    when_keeps State.seq rfl, when_keeps State.klk rfl, when_keeps State.meas rfl, when_keeps State.mgt rfl, when_keeps State.nor rfl,
    when_keeps State.hostMem rfl, when_keeps State.cap rfl, when_keeps State.pending rfl, when_keeps State.thm rfl, when_keeps State.cal rfl⟩

theorem exec_porstNRise {s : State} (h : s.beat.phase = .held) (prof : BitVec 2) : exec (.porstNRise prof) s =
    .next ((s.putField HST_STATE_PROF_BALLS 0 prof.toNat).withBeat fun b => { b with phase := .refWait }) := if_pos h

/-! ### The start of an image (R462) -/

theorem exec_bootRomLoad_starts {s : State} {k : Nat} (hb : s.booting false = true) (hk : s.bootSlot = some k) : exec .bootRomLoad s =
    .next ((s.setReg .HST_FW_VERSION 0 0 (BitVec.ofNat 32 (leAt (s.norBytes (imageSlot k) 256) 8 4))).withBeat fun b => { b with image := some k }) := by
  refine (if_pos hb : execBootRomLoad s = _).trans ?_
  rw [hk]
  rfl

theorem exec_bootRomLoad_none {s : State} (hb : s.booting false = true) (hk : s.bootSlot = none) : exec .bootRomLoad s =
    .next ((s.setReg .HST_FW_VERSION 0 0 0xFFFFFFFF).withBeat fun b => { b with noImage := true }) := by
  refine (if_pos hb : execBootRomLoad s = _).trans ?_
  rw [hk]
  rfl

/-! ### The registers of a profile (R71) -/

/-- The stem of a register word lies in the subsystem and the slot of its offset (R477). -/
theorem Reg.ofOffset_place {off : Nat} {r : Reg} (h : Reg.ofOffset off = some r) :
    r.stem.info.sub = off / 0x1000000 ∧ (off / 0x1000000 ≠ 5 → r.stem.info.slot = off % 0x1000000 / 0x4000) := by
  unfold Reg.ofOffset at h
  dsimp only at h
  split at h
  · cases h
  · next st hst =>
    have hp := List.find?_some hst
    simp only [Bool.and_eq_true, beq_iff_eq] at hp
    obtain ⟨hsub, hslot⟩ := hp
    rw [Option.ite_none_right_eq_some] at h
    obtain ⟨_, h⟩ := h
    cases h
    exact ⟨hsub, fun h5 => by rw [hslot, if_neg h5]⟩

/-- A place in the register windows that is neither one of management's nor HSK_ACK's. -/
def plainPlace (off : Nat) : Prop := off / 0x1000000 ≠ 12 ∧ ¬(off / 0x1000000 = 15 ∧ off % 0x1000000 / 0x4000 = 1)

/-- A stem of a profile: of the converters, or a stem of one word outside management and other than HSK_ACK. -/
def profileStem (st : Stem) : Bool :=
  let f := st.info
  decide (f.slot < 1024) && ((f.sub == 5 && decide (f.count ≤ 64) && decide (f.slot < 32)) ||
    (f.sub != 5 && f.words == 1 && decide (f.count ≤ 4096) && f.sub != 12 && !(f.sub == 15 && f.slot == 1)))

theorem profileRegs_plain {own : Bool} {st : Stem} {i : Nat} (h : (st, i) ∈ profileRegs own) : plainPlace (st.offset i 0) := by
  obtain ⟨st', hst, hi⟩ := List.mem_flatMap.1 h
  obtain ⟨i', hi, e⟩ := List.mem_map.1 hi
  cases e
  have hp : profileStem st = true := by
    have : ∀ x ∈ profileStems ++ [Stem.NTU_DLY_TX, Stem.NTU_DLY_RX], profileStem x = true := by decide
    refine this st (List.mem_append.2 ((List.mem_append.1 hst).imp id fun h => ?_))
    cases own
    · cases h
    · exact h
  unfold plainPlace Stem.offset
  unfold Stem.instances at hi
  unfold profileStem at hp
  generalize st.info = f at *
  obtain ⟨sub, slot, count, words, txn, fw⟩ := f
  dsimp only at *
  simp only [Bool.and_eq_true, Bool.or_eq_true, decide_eq_true_eq, beq_iff_eq, bne_iff_ne, Bool.not_eq_true', Bool.and_eq_false_iff, beq_eq_false_iff_ne] at hp
  obtain ⟨hslot, ⟨⟨rfl, hcount⟩, hs⟩ | ⟨⟨⟨⟨h5, rfl⟩, hcount⟩, h12⟩, h15⟩⟩ := hp
  · simp only [if_true, List.mem_append, List.mem_map, List.mem_range] at hi
    rw [if_pos rfl]
    have hi : i < 128 := by omega
    split <;> omega
  · rw [if_neg h5, List.mem_range] at hi
    norm_num [h5]
    omega

/-- A write of a profile is that of a word outside management and HSK_ACK. -/
theorem profileWrites_plain {s : State} {p : Nat} {x : Reg × W32 × W32} (h : x ∈ shadowRegs (s.profileWrites p)) :
    x.1.stem ≠ .HSK_ACK ∧ x.1.stem ≠ .MGT_RXQ_REL := by
  obtain ⟨e, he, hx⟩ := List.mem_filterMap.1 h
  have hplain : ∃ off v m, e = .reg off v m ∧ plainPlace off := by
    unfold State.profileWrites at he
    split at he
    · obtain ⟨r, hr, rfl⟩ := List.mem_map.1 he
      exact ⟨_, _, _, rfl, profileRegs_plain hr⟩
    · split at he
      · obtain ⟨r, hr, rfl⟩ := List.mem_map.1 he
        exact ⟨_, _, _, rfl, profileRegs_plain (List.fst_mem_of_mem_zipIdx hr)⟩
      · cases he
  obtain ⟨off, v, m, rfl, h12, h15⟩ := hplain
  obtain ⟨r, hr, rfl⟩ := Option.map_eq_some_iff.1 hx
  obtain ⟨hsub, hslot⟩ := Reg.ofOffset_place hr
  refine ⟨fun hst => ?_, fun hst => h12 ?_⟩
  · rw [hst] at hsub hslot
    have h : off / 0x1000000 = 15 := hsub.symm
    exact h15 ⟨h, (hslot (by omega)).symm⟩
  · rw [hst] at hsub
    exact hsub.symm

theorem State.writeReg_mgt (s : State) (who : Nat) {r : Reg} (v m : W32) (ha : r.stem ≠ .HSK_ACK) (hr : r.stem ≠ .MGT_RXQ_REL) :
    (s.writeReg who r v m).mgt = s.mgt := by
  unfold State.writeReg
  dsimp only
  split
  · split <;> rfl
  · contradiction
  · split <;> rfl
  · exact (State.writeIncWord_kept (m := 0x160) (by decide) (Kept.refl s) _ _ _).same .mgt (by decide)
  · split <;> rfl
  · split
    · rfl
    · exact (State.unblock_kept (Covers.refl _) (Kept.refl _)).same .mgt (by decide)
  · exact (State.supRelease_kept (Covers.refl _) (Kept.refl s) _ _).same .mgt (by decide)
  · contradiction
  · rfl

theorem State.putField_mgt (s : State) (f : Field) (i v : Nat) : (s.putField f i v).mgt = s.mgt := rfl

theorem State.writeAll_mgt {l : List Shadow} (h : ∀ x ∈ shadowRegs l, x.1.stem ≠ .HSK_ACK ∧ x.1.stem ≠ .MGT_RXQ_REL) (s : State) :
    (s.writeAll l).mgt = s.mgt := by
  unfold State.writeAll
  generalize shadowRegs l = ws at h
  induction ws generalizing s with
  | nil => rfl
  | cons x ws ih =>
    obtain ⟨ha, hr⟩ := h x List.mem_cons_self
    exact (ih _ fun y hy => h y (List.mem_cons_of_mem x hy)).trans (State.writeReg_mgt s 0 _ _ ha hr)

/-- The profile that boot applies writes nothing of management's (R71, R72). -/
theorem State.bootProfile_mgt (s : State) : s.bootProfile.mgt = s.mgt := by
  unfold State.bootProfile
  dsimp only
  generalize (s.profileEmpty (s.fieldOf HST_STATE_PROF_BALLS 0) || decide (s.backed < s.profileNeed (s.fieldOf HST_STATE_PROF_BALLS 0))) = bad
  have hw : (when bad (State.fault 10 1 0x0A05 (s.fieldOf HST_STATE_PROF_BALLS 0) 0) s).mgt = s.mgt := when_keeps State.mgt rfl
  rw [← hw]
  generalize when bad (State.fault 10 1 0x0A05 (s.fieldOf HST_STATE_PROF_BALLS 0) 0) s = u
  generalize (if bad = true then 0 else s.fieldOf HST_STATE_PROF_BALLS 0) = p
  have hs := State.settleAll_kept (Covers.refl _) (Kept.refl (u.writeAll (u.profileWrites p))) u (u.profileWrites p)
  have hm : _ = _ := hs.same .mgt (by decide)
  rw [State.putField_mgt, hm, State.writeAll_mgt fun x hx => profileWrites_plain hx]

/-! ### The boot of firmware (R463) -/

/-- What boot does before firmware is READY: steps 2 to 5 of R463. -/
def State.bootSteps (failed : W32) (bad : BitVec 19) (a b : AdcFactors) (s : State) : State :=
  ((((((s.bootErase.bootSets bad).bootLog.train failed).loadUcode).selfcal 0 a).selfcal 1 b).bootStaging).bootProfile

/-- Firmware is READY and boot is over. -/
def State.bootEnd (s : State) : State := (s.putField HST_STATE_FW_STATE 0 1).withBeat fun b => { b with booted := true }

theorem exec_firmwareBoot {s : State} (failed : W32) (bad : BitVec 19) (a b : AdcFactors) (hb : s.booting true = true) (hn : s.beat.booted = false)
    (hc : s.converted = true) (h0 : s.coreState 0 ≠ 2) (h1 : s.coreState 1 ≠ 2) :
    exec (.firmwareBoot failed bad a b) s = .next (s.bootSteps failed bad a b).bootEnd.serveRequests := by
  refine (if_pos ?_ : execFirmwareBoot failed bad a b s = _)
  simp [hb, hn, hc, h0, h1]

theorem exec_firmwareBoot_waits {s : State} (failed : W32) (bad : BitVec 19) (a b : AdcFactors) (hc : s.converted = false) :
    exec (.firmwareBoot failed bad a b) s = .next s := by
  refine (if_neg ?_ : execFirmwareBoot failed bad a b s = _)
  simp [hc]

/-- The blocks that boot erases are erased of the store, whatever else it notes of them (R433). -/
theorem State.nor_bootErase (s : State) : s.bootErase.nor = (each s.logUnsound (fun b u => u.eraseNor b (b + 0x10000)) s).nor := by
  unfold State.bootErase
  suffices ∀ (l : List Nat) (u v : State), u.nor = v.nor →
      (each l (fun b s => (s.eraseNor b (b + 0x10000)).withCal fun c => { c with abandoned := c.abandoned.filter (· != b) }) u).nor =
        (each l (fun b u => u.eraseNor b (b + 0x10000)) v).nor from this _ s s rfl
  intro l
  induction l with
  | nil => exact fun _ _ h => h
  | cons b l ih => exact fun u v h => ih _ _ (congrArg (fun n => n.clear b (b + 0x10000)) h)

/-- The steps of boot after the erasing leave the store and the beat generator. -/
theorem State.bootSteps_kept (failed : W32) (bad : BitVec 19) (a b : AdcFactors) (s : State) :
    Kept 0xbfc51edbbefd67e7ddfbff6c01bebfe87197fef0ff00017fe4 s.bootErase (s.bootSteps failed bad a b) := by
  unfold State.bootSteps
  have h := Kept.refl (m := 0xbfc51edbbefd67e7ddfbff6c01bebfe87197fef0ff00017fe4) s.bootErase
  exact State.bootProfile_kept (by decide) (State.bootStaging_kept (by decide) (State.selfcal_kept (by decide) (State.selfcal_kept (by decide)
    (State.loadUcode_kept (by decide) (State.train_kept (by decide) (State.bootLog_kept (by decide) (State.bootSets_kept (by decide) h _)) _)) _ _) _ _))

/-- The steps of boot leave the cores, Sprout and the engines, and so the requests that wait for READY (R377). -/
theorem State.bootSteps_mgt (failed : W32) (bad : BitVec 19) (a b : AdcFactors) (s : State) : (s.bootSteps failed bad a b).mgt = s.mgt := by
  unfold State.bootSteps
  have h : ∀ u : State, Kept (allBut .mgt) u u := Kept.refl
  have hk := State.bootStaging_kept (by decide) (State.selfcal_kept (by decide) (State.selfcal_kept (by decide)
    (State.loadUcode_kept (by decide) (State.train_kept (by decide) (State.bootLog_kept (by decide) (State.bootSets_kept (by decide)
      (State.bootErase_kept (by decide) (h s)) bad)) failed)) 0 a) 1 b)
  rw [State.bootProfile_mgt]
  exact hk.same .mgt (by decide)

/-- Where no request waits, serving them changes nothing. -/
theorem State.serveRequests_none {s : State} (h : s.mgt.requests = []) : s.serveRequests = s := by
  have hm : ({ s.mgt with requests := [] } : Mgt) = s.mgt := by rw [← h]
  unfold State.serveRequests
  rw [h]
  exact congrArg (fun m => { s with mgt := m }) hm

theorem State.bootEnd_nor (s : State) : s.bootEnd.nor = s.nor := rfl
theorem State.bootEnd_mgt (s : State) : s.bootEnd.mgt = s.mgt := rfl
theorem State.bootEnd_beat (s : State) : s.bootEnd.beat = { s.beat with booted := true } := rfl

theorem State.bootEnd_ready (s : State) : s.bootEnd.ready = true :=
  beq_iff_eq.2 (State.fieldOf_putField s HST_STATE_FW_STATE 0 1 rfl)

/-- Boot ends READY, with the blocks of the shutdown log erased that hold neither nothing nor a record (R433, R463). -/
theorem exec_firmwareBoot_ready {s : State} (failed : W32) (bad : BitVec 19) (a b : AdcFactors) (hb : s.booting true = true)
    (hn : s.beat.booted = false) (hq : s.mgt.requests = []) (hc : s.converted = true) (h0 : s.coreState 0 ≠ 2) (h1 : s.coreState 1 ≠ 2) :
    ∃ t, exec (.firmwareBoot failed bad a b) s = .next t ∧ t.ready = true ∧ t.beat = { s.beat with booted := true } ∧
      t.nor = (each s.logUnsound (fun b u => u.eraseNor b (b + 0x10000)) s).nor := by
  have hs := State.bootSteps_kept failed bad a b s
  have he : (s.bootSteps failed bad a b).beat = s.beat :=
    (hs.beat (by decide) (by decide)).trans ((State.bootErase_kept (Covers.refl _) (Kept.refl s)).beat (by decide) (by decide))
  have hreq : (s.bootSteps failed bad a b).bootEnd.mgt.requests = [] := by rw [State.bootEnd_mgt, State.bootSteps_mgt, hq]
  refine ⟨_, exec_firmwareBoot failed bad a b hb hn hc h0 h1, ?_⟩
  rw [State.serveRequests_none hreq]
  refine ⟨State.bootEnd_ready _, by rw [State.bootEnd_beat, he], ?_⟩
  rw [State.bootEnd_nor, hs.same .nor (by decide), State.nor_bootErase s]

/-! ### The obligation -/

/-- Settles O17: a reset by what it leaves of each part, boot by the parts that its steps leave. -/
theorem resetsAndBootLeaveTheirState : Obligations.ResetsAndBootLeaveTheirState := by
  refine ⟨⟨fun c s hc => ?_, fun prof s hp => ?_⟩, fun s hb => ⟨fun k hk => ?_, fun hk => ?_⟩,
    fun failed bad a b s hb => ⟨fun hn hq hc h0 h1 => exec_firmwareBoot_ready failed bad a b hb hn hq hc h0 h1, exec_firmwareBoot_waits failed bad a b⟩⟩
  · obtain ⟨hram, hhsk, hhst, hcst, hntu, hseq, hklk, hmeas, hmgt, hnor, hhost, hcap, hpend, hthm, hcal⟩ := s.resetBy_parts
    rcases hc with rfl | ⟨_ | _, rfl⟩
    case inr.vddIo =>
      let u := s.withThm fun t => { t with shutdown := none, latch := false }
      obtain ⟨hram, hhsk, hhst, hcst, hntu, hseq, hklk, hmeas, hmgt, hnor, hhost, hcap, hpend, hthm, hcal⟩ := u.resetBy_parts
      exact ⟨u.resetBy, rfl, u.resetBy_beat, fun _ i w => u.resetBy_reg i w, u.resetBy_id, hram, hhsk, hhst, hcst, hntu, hseq, hklk, hmeas,
        hmgt, hnor, hhost, hcap, hpend, fun h => absurd rfl h, fun _ => ⟨hthm, hcal⟩⟩
    all_goals exact ⟨s.resetBy, rfl, s.resetBy_beat, fun _ i w => s.resetBy_reg i w, s.resetBy_id, hram, hhsk, hhst, hcst, hntu, hseq, hklk,
      hmeas, hmgt, hnor, hhost, hcap, hpend, fun _ => ⟨hthm, hcal⟩, nofun⟩
  · exact ⟨_, exec_porstNRise hp prof, rfl, State.fieldOf_putField_same s _ _ _ rfl prof.isLt, fun _ _ _ h => State.reg_putField_stem s _ _ _ _ h⟩
  · exact ⟨_, exec_bootRomLoad_starts hb hk, rfl, (State.reg_withBeat _ _ _ _ _).trans (State.reg_setReg_same s _ _ _ _)⟩
  · exact ⟨_, exec_bootRomLoad_none hb hk, rfl, (State.reg_withBeat _ _ _ _ _).trans (State.reg_setReg_same s _ _ _ _)⟩

end Sys2Proof.Machine
end


section
/-! PROOFS. The start and the stop of bursts (R57, R141, R157 to R159, R232, R238). -/

namespace Sys2Proof.Machine

/-! ### A completion and the deferred commands -/

theorem State.writeEntry_deferred (s : State) (c : Completion) : (s.writeEntry c).hst.deferred = s.hst.deferred := by
  unfold State.writeEntry
  rw [when_keeps (fun t : State => t.hst.deferred) rfl]
  show (s.setMem _ _).hst.deferred = s.hst.deferred
  rw [State.setMem_hst]

theorem State.setV1_deferred (s : State) (i : Nat) (v : W32) : (s.setV1 i v).hst.deferred = s.hst.deferred := rfl

theorem State.signal_deferred (s : State) (v : Nat) : (s.signal v).hst.deferred = s.hst.deferred := rfl

theorem State.v1Report_deferred (s : State) (c : Completion) : (s.v1Report c).hst.deferred = s.hst.deferred := by
  unfold State.v1Report
  rw [State.signal_deferred, State.setV1_deferred]
  refine each_keeps (P := fun t : State => t.hst.deferred = s.hst.deferred) (fun i t h => ?_) _ (State.setV1_deferred s _ _)
  exact (t.setV1_deferred _ _).trans h

theorem State.post_deferred (s : State) (c : Completion) : (s.post c).hst.deferred = s.hst.deferred := by
  unfold State.post
  split
  · split
    · rfl
    · exact s.v1Report_deferred c
  · split
    · rfl
    · split
      · rfl
      · exact s.writeEntry_deferred c

/-- A completion leaves the deferred commands as they are. -/
theorem State.complete_deferred (s : State) (iss : Issuer) (st : Nat) (res : List Nat) :
    (s.complete iss st res).hst.deferred = s.hst.deferred := s.post_deferred _

/-! ### The judgement of a start -/

section
variable {iss : Issuer} {sites nanos : W32} {program mode : Byte} {entry : W16} {at_ : W64} {u : State}

/-- Version 1 carries mode NOW alone (R76). -/
theorem start_available (hv : iss.mb ≠ 16 ∨ mode ≠ 1 ∧ mode ≠ 2) : (!(iss.mb == 16 && (mode == 1 || mode == 2))) = true := by
  rcases hv with hmb | ⟨h1, h2⟩
  · simp [hmb]
  · rw [beq_false_of_ne h1, beq_false_of_ne h2]; simp

/-- A served start is judged by its own checks alone. -/
theorem State.judgeStart_served (h : u.serves iss) (hv : iss.mb ≠ 16 ∨ mode ≠ 1 ∧ mode ≠ 2) :
    u.judgeStart iss sites nanos program mode entry at_ = lowest (u.startChecks sites program mode entry at_ nanos) := by
  rw [State.judgeStart, start_available hv, State.judge_of_serves h]

/-- What a refusal of a start counts, tells and answers arms no site and holds no block. -/
theorem State.refusal_holds_nothing (u : State) (st : Nat) (iss : Issuer) :
    ((u.countRefusal st).complete iss st []).seq = u.seq ∧ ((u.countRefusal st).complete iss st []).cst = u.cst ∧
    ((u.countRefusal st).complete iss st []).hst.deferred = u.hst.deferred := by
  have hdone := State.complete_kept (Covers.refl _) (Kept.refl (u.countRefusal st)) iss st []
  rw [State.complete_deferred, show State.seq _ = _ from hdone.same .seq (by decide), show State.cst _ = _ from hdone.same .cst (by decide)]
  unfold State.countRefusal
  split <;> exact ⟨rfl, rfl, rfl⟩

end

/-! ### A burst starts (R141, R232, R238) -/

/-- The ARMED thread of a site enters RUNNING, or WAITING by its first item, and what CAP keeps of a burst is cleared. -/
def State.startSite (n : Nat) (s : State) : State :=
  (s.modThr n fun t => { t with
    st := match t.queue.head? with | some it => if it.waits then 3 else 2 | none => 2 }).clearCapture n

/-! #### What CAP keeps of a burst is cleared -/

/-- A register word that is 0 stays 0 where words are cleared. -/
theorem State.reg_setReg_zero {s : State} {st : Stem} {i w : Nat} (hw : w < 4) (h : s.reg st i w = 0) (st' : Stem) (i' : Nat) :
    (s.setReg st' i' 0 0).reg st i w = 0 := by
  by_cases e : st' = st ∧ i' = i ∧ 0 = w
  · obtain ⟨rfl, rfl, rfl⟩ := e
    exact State.reg_setReg_same _ _ _ _ _
  · rw [State.reg_setReg_other _ _ _ _ _ _ _ _ (by decide) hw e, h]

theorem State.reg_setReg64_zero {s : State} {st : Stem} {i w : Nat} (hw : w < 4) (h : s.reg st i w = 0) (st' : Stem) (i' : Nat) :
    (s.setReg64 st' i' 0).reg st i w = 0 := by
  by_cases e : st' = st ∧ i' = i
  · obtain ⟨rfl, rfl⟩ := e
    by_cases h1 : w = 1
    · subst h1
      exact State.reg_setReg_same _ _ _ _ _
    · rw [State.setReg64, State.reg_setReg_other _ _ _ _ _ _ _ _ (by decide) hw (fun x => h1 x.2.2.symm)]
      exact State.reg_setReg_zero hw h st' i'
  · rw [State.setReg64, State.reg_setReg_other _ _ _ _ _ _ _ _ (by decide) hw (fun x => e ⟨x.1, x.2.1⟩),
      State.reg_setReg_other _ _ _ _ _ _ _ _ (by decide) hw (fun x => e ⟨x.1, x.2.1⟩), h]

theorem State.reg_setReg64_cleared (s : State) (st : Stem) (i : Nat) {w : Nat} (hw : w < 2) : (s.setReg64 st i 0).reg st i w = 0 := by
  match w, hw with
  | 0, _ => exact State.reg_setReg_other _ _ _ _ _ _ _ _ (by decide) (by decide) (by simp) |>.trans (State.reg_setReg_same _ _ _ _ _)
  | 1, _ => exact State.reg_setReg_same _ _ _ _ _

/-- What of a burst of site `n` CAP keeps is cleared (R232, R238). -/
structure State.CaptureClear (n : Nat) (s : State) : Prop where
  failVec (w : Nat) (hw : w < 2) : s.reg .CAP_FAIL_VEC n w = 0
  wp (w : Nat) (hw : w < 2) : s.reg .CAP_FLOG_WP n w = 0
  lost : s.reg .CAP_FLOG_LOST n 0 = 0
  staged : (s.failLog n).staged = []

/-- The writes of 0 that end `State.clearCapture`. -/
theorem State.reg_clearFcnt {s : State} {st : Stem} {i w : Nat} (hw : w < 4) (h : s.reg st i w = 0) (l : List Nat) :
    (each l (fun ch => State.setReg .CAP_CH_FCNT ch 0 0) s).reg st i w = 0 :=
  each_keeps (P := fun t : State => t.reg st i w = 0) (fun ch _ h => State.reg_setReg_zero hw h .CAP_CH_FCNT ch) l h

theorem State.failLog_modLog_same (s : State) (n : Nat) (f : FailLog → FailLog) : (s.modLog n f).failLog n = f (s.failLog n) :=
  Tab.get_set_same _ _ _ _

theorem State.failLog_modLog_other (s : State) {m n : Nat} (h : n ≠ m) (f : FailLog → FailLog) : (s.modLog m f).failLog n = s.failLog n :=
  Tab.get_set_other _ _ _ _ _ h

/-- The start of a burst clears what CAP keeps of it. -/
theorem State.clearCapture_clears (s : State) (n : Nat) : (s.clearCapture n).CaptureClear n where
  failVec w hw := by
    have hw4 : w < 4 := by omega
    exact State.reg_clearFcnt hw4 (State.reg_setReg_zero hw4 (State.reg_setReg_zero hw4 (State.reg_setReg64_zero hw4
      (State.reg_setReg64_zero hw4 (State.reg_setReg64_cleared s .CAP_FAIL_VEC n hw) .CAP_FIRST_VN n) .CAP_FLOG_WP n)
      .CAP_FLOG_STAT n) .CAP_FLOG_LOST n) _
  wp w hw := by
    have hw4 : w < 4 := by omega
    exact State.reg_clearFcnt hw4 (State.reg_setReg_zero hw4 (State.reg_setReg_zero hw4 (State.reg_setReg64_cleared _ .CAP_FLOG_WP n hw)
      .CAP_FLOG_STAT n) .CAP_FLOG_LOST n) _
  lost := State.reg_clearFcnt (by decide) (State.reg_setReg_same _ _ _ _ _) _
  staged := congrArg FailLog.staged (State.failLog_modLog_same _ n _)

/-- A register word that is 0 stays 0 where a burst starts. -/
theorem State.reg_clearCapture_zero {s : State} {st : Stem} {i w : Nat} (hw : w < 4) (h : s.reg st i w = 0) (m : Nat) :
    (s.clearCapture m).reg st i w = 0 :=
  State.reg_clearFcnt hw (State.reg_setReg_zero hw (State.reg_setReg_zero hw (State.reg_setReg64_zero hw (State.reg_setReg64_zero hw
    (State.reg_setReg64_zero hw h .CAP_FAIL_VEC m) .CAP_FIRST_VN m) .CAP_FLOG_WP m) .CAP_FLOG_STAT m) .CAP_FLOG_LOST m) _

/-- The start of a burst on another site leaves cleared what is cleared. -/
theorem State.CaptureClear.clearCapture {s : State} {n : Nat} (h : s.CaptureClear n) (m : Nat) : (s.clearCapture m).CaptureClear n := by
  by_cases e : n = m
  · exact e ▸ s.clearCapture_clears m
  · refine ⟨fun w hw => State.reg_clearCapture_zero (by omega) (h.failVec w hw) m, fun w hw => State.reg_clearCapture_zero (by omega) (h.wp w hw) m,
      State.reg_clearCapture_zero (by decide) h.lost m, ?_⟩
    have hlog : (s.clearCapture m).failLog n = s.failLog n := by
      refine (State.failLog_modLog_other _ e _).trans ?_
      exact each_keeps (P := fun t : State => t.failLog n = s.failLog n) (fun ch t h => show (t.setReg .CAP_CH_FCNT ch 0 0).failLog n = _ from h) _ rfl
    rw [hlog, h.staged]

theorem State.CaptureClear.reg64 {s : State} {n : Nat} (h : s.CaptureClear n) : s.reg64 .CAP_FAIL_VEC n = 0 ∧ s.reg64 .CAP_FLOG_WP n = 0 := by
  unfold State.reg64
  rw [h.failVec 0 (by decide), h.failVec 1 (by decide), h.wp 0 (by decide), h.wp 1 (by decide)]
  exact ⟨rfl, rfl⟩

theorem State.thr_clearCapture (s : State) (m n : Nat) : (s.clearCapture m).thr n = s.thr n := by
  unfold State.thr
  rw [show (s.clearCapture m).seq = s.seq from (State.clearCapture_kept (Covers.refl _) (Kept.refl s) m).same .seq (by decide)]

theorem State.thr_modThr_same (s : State) (n : Nat) (f : Thread → Thread) : (s.modThr n f).thr n = f (s.thr n) :=
  Tab.get_set_same _ _ _ _

theorem State.thr_modThr_other (s : State) {m n : Nat} (h : n ≠ m) (f : Thread → Thread) : (s.modThr m f).thr n = s.thr n :=
  Tab.get_set_other _ _ _ _ _ h

/-! #### The sites of a start -/

theorem State.startSite_other (s : State) {m n : Nat} (h : n ≠ m) : (s.startSite m).thr n = s.thr n := by
  rw [State.startSite, State.thr_clearCapture, State.thr_modThr_other _ h]

theorem State.startSite_st (s : State) (n : Nat) : ((s.startSite n).thr n).st = 2 ∨ ((s.startSite n).thr n).st = 3 := by
  rw [State.startSite, State.thr_clearCapture, State.thr_modThr_same]
  dsimp only
  split
  · split
    · exact Or.inr rfl
    · exact Or.inl rfl
  · exact Or.inl rfl

/-- A site has started: its thread is RUNNING or WAITING, and what CAP keeps of a burst is cleared. -/
def State.Started (n : Nat) (s : State) : Prop := ((s.thr n).st = 2 ∨ (s.thr n).st = 3) ∧ s.CaptureClear n

theorem State.startSite_started (s : State) (n : Nat) : (s.startSite n).Started n :=
  ⟨s.startSite_st n, State.clearCapture_clears _ n⟩

theorem State.CaptureClear.modThr {s : State} {n : Nat} (h : s.CaptureClear n) (m : Nat) (f : Thread → Thread) :
    (s.modThr m f).CaptureClear n := ⟨h.failVec, h.wp, h.lost, h.staged⟩

theorem State.Started.startSite {s : State} {n : Nat} (h : s.Started n) (m : Nat) : (s.startSite m).Started n := by
  obtain ⟨hst, hclear⟩ := h
  by_cases e : n = m
  · subst e
    exact s.startSite_started n
  · exact ⟨by rwa [State.startSite_other s e], (hclear.modThr m _).clearCapture m⟩

theorem State.startSite_kept (s : State) (n : Nat) : Kept 0x1f800000000000001200 s (s.startSite n) :=
  State.clearCapture_kept (by decide) (State.modThr_kept (by decide) (Kept.refl s) n _) n

/-! #### BURST_START_BEAT -/

/-- The sites that a start arms. -/
def Deferred.sites (d : Deferred) : List Nat := maskList (BitVec.ofNat 32 (d.data.getD 0 0)) 32

theorem Deferred.mem_sites (d : Deferred) (n : Fin 32) : n.val ∈ d.sites ↔ (d.data.getD 0 0).testBit n.val = true := by
  simp [Deferred.sites, maskList, BitVec.getLsbD_ofNat]

/-- What the start of a burst answers (R158). -/
def Deferred.startOutcome (d : Deferred) : Nat × List Nat :=
  if d.data.getD 1 0 = 0 then (Status.ok, [d.due % 2 ^ 32, d.due / 2 ^ 32 % 2 ^ 32]) else (Status.abortedFault, [])

/-- The ARMED sites of a start enter their burst. -/
def State.startSites (d : Deferred) (s : State) : State := each (d.sites.filter (fun n => (s.thr n).st == 1)) State.startSite s

theorem State.startSites_kept (s : State) (d : Deferred) : Kept 0x1f800000000000001200 s (s.startSites d) :=
  each_kept (fun n t h => h.trans (t.startSite_kept n)) _ (Kept.refl s)

theorem State.startSites_started {s : State} {d : Deferred} {n : Nat} (hn : n ∈ d.sites) (hst : (s.thr n).st = 1) :
    (s.startSites d).Started n :=
  each_reaches (fun m _ h => h.startSite m) (fun t => t.startSite_started n) (List.mem_filter.2 ⟨hn, show ((s.thr n).st == 1) = true by rw [hst]; rfl⟩) s

theorem State.startSites_other {s : State} {d : Deferred} {n : Nat} (h : n ∉ d.sites ∨ (s.thr n).st ≠ 1) :
    (s.startSites d).thr n = s.thr n := by
  refine each_keeps_mem (P := fun t : State => t.thr n = s.thr n) _ (fun m hm t ht => ?_) s rfl
  obtain ⟨hm, hst⟩ := List.mem_filter.1 hm
  have hne : n ≠ m := by
    rintro rfl
    exact h.elim (absurd hm) (absurd (beq_iff_eq.1 hst))
  exact (t.startSite_other hne).trans ht

/-- The outcome of a deferred command is known. -/
def State.setOutcome (index : Nat) (o : Nat × List Nat) (s : State) : State :=
  s.withHst fun h => { h with deferred := h.deferred.modify index (fun d => { d with outcome := some o }) }

theorem State.live_running {s : State} (h : s.running = true) (f : State → State) : s.live f = f s := if_pos h

/-- What a start makes of the aborts due at its sites: it has ended, or its ARMED sites enter their burst and its outcome is known. -/
def State.startAfter (index : Nat) (x : Deferred) (u : State) : State :=
  if x.outcome.isSome then u else (u.startSites x).setOutcome index x.startOutcome

theorem State.startThreads_eq (s : State) {i : Nat} (d : Deferred) {x : Deferred} (hx : (s.takeAborts d.sites).hst.deferred[i]? = some x) :
    s.startThreads i d = (s.takeAborts d.sites).startAfter i x := by
  have hget : (s.takeAborts d.sites).hst.deferred.getD i d = x := by rw [List.getD_eq_getElem?_getD, hx]; rfl
  exact hget ▸ rfl

section
variable {i : Nat} {d : Deferred} {iss : Issuer} {sites nanos : W32} {program mode : Byte} {entry : W16} {at_ : W64} {s : State}

theorem State.startDue_iff (hd : s.hst.deferred[i]? = some d) (hc : d.cmd = .seqBurstStart iss sites program mode entry at_ nanos)
    (ho : d.outcome = none) : s.startDue i = decide (d.due ≤ s.beat.lbc) := by
  simp [State.startDue, hd, hc, ho]

theorem exec_burstStartBeat (hr : s.running = true) (hd : s.hst.deferred[i]? = some d) :
    exec (.burstStartBeat i) s = .next (if s.startDue i then s.startThreads i d else s) := by
  change execBurstStartBeat i s = _
  rw [execBurstStartBeat, State.live, if_pos hr, hd]
  rfl

end

/-! ### The obligation -/

section
variable {iss : Issuer} {sites nanos : W32} {program mode : Byte} {entry : W16} {at_ : W64} {s : State}

/-- A start all of whose checks pass is armed and deferred. -/
theorem exec_seqBurstStart_passes (hs : s.serves iss) (hv : iss.mb ≠ 16 ∨ mode ≠ 1 ∧ mode ≠ 2) (hu : s.upToRequests.serves iss)
    (hc : ∀ c ∈ s.upToRequests.startChecks sites program mode entry at_ nanos, c.1 = false) :
    exec (.seqBurstStart iss sites program mode entry at_ nanos) s =
      .next ((s.upToRequests.pinAll.armBurst (maskList sites 32) program.toNat entry.toNat (s.upToRequests.startBeat mode at_ nanos)).defer iss
        (.seqBurstStart iss sites program mode entry at_ nanos) (s.upToRequests.startBeat mode at_ nanos) [sites.toNat, 0]) := by
  refine execSeqBurstStart_armed hs.1 hu.1 ?_
  rw [State.judgeStart_served hu hv, lowest_eq_none hc]

/-- A start that fails a check arms no site and holds no block. -/
theorem exec_seqBurstStart_fails (hs : s.serves iss) (hv : iss.mb ≠ 16 ∨ mode ≠ 1 ∧ mode ≠ 2) (hu : s.upToRequests.serves iss)
    {c : Bool × Nat} (hm : c ∈ s.upToRequests.startChecks sites program mode entry at_ nanos) (hc : c.1 = true) :
    ∃ t, exec (.seqBurstStart iss sites program mode entry at_ nanos) s = .next t ∧ t.seq = s.upToRequests.seq ∧
      t.cst = s.upToRequests.cst ∧ t.hst.deferred = s.upToRequests.hst.deferred := by
  obtain ⟨b, a⟩ := c
  cases hc
  obtain ⟨st, hl, -⟩ := lowest_le hm
  exact ⟨_, execSeqBurstStart_refused hs.1 hu.1 (by rw [State.judgeStart_served hu hv, hl]), State.refusal_holds_nothing _ st iss⟩

/-- A stop of bursts at a served mailbox that names a site is performed. -/
theorem exec_seqBurstStop_served (hs : s.serves iss) (hsites : sites ≠ 0) (hu : s.upToRequests.serves iss) (hm : mode.toNat ≤ 2) :
    exec (.seqBurstStop iss sites mode) s = .next (s.upToRequests.stopBurst sites mode iss) := by
  refine (execSeqBurstStop_judged hs.1).trans ?_
  rw [State.command_runs hu]
  intro p hp
  cases List.mem_singleton.1 hp
  rw [beq_false_of_ne hsites]
  simpa using hm

end

/-- Settles O51: the judgement of a start and a stop in the state that stands at their boundary, and the start beat site by site. -/
theorem burstsStartAndStop : Obligations.BurstsStartAndStop := by
  refine ⟨fun iss sites nanos p mode entry at_ s hs hv hu => ⟨exec_seqBurstStart_passes hs hv hu, fun c hm hc => exec_seqBurstStart_fails hs hv hu hm hc⟩,
    fun i d iss sites nanos p mode entry at_ s hr hd hc ho => ⟨fun hlt => ?_, fun hdue => ?_⟩,
    fun iss sites s hs hsites hu => ⟨?_, ?_, ?_⟩⟩
  · rw [exec_burstStartBeat hr hd, State.startDue_iff hd hc ho, decide_eq_false (by omega)]
    rfl
  · have he : exec (.burstStartBeat i) s = .next (s.startThreads i d) := by
      rw [exec_burstStartBeat hr hd, State.startDue_iff hd hc ho, decide_eq_true hdue]
      rfl
    intro u x hx
    rw [State.startThreads_eq s d hx] at he
    refine ⟨fun hsome => by rw [he, State.startAfter, if_pos hsome]; rfl, fun hnone => ?_⟩
    rw [State.startAfter, hnone] at he
    refine ⟨_, he, fun n hn hst => ?_, fun n hn => ?_, ?_⟩
    · obtain ⟨hrun, hclear⟩ := State.startSites_started ((x.mem_sites n).2 hn) hst
      exact ⟨hrun, hclear.reg64.1, hclear.reg64.2, hclear.lost, hclear.staged⟩
    · refine State.startSites_other (hn.imp (fun hn hm => ?_) id)
      rw [(x.mem_sites n).1 hm] at hn
      cases hn
    · refine ⟨{ x with outcome := some x.startOutcome }, ?_, rfl⟩
      have hdef : (u.startSites x).hst.deferred = u.hst.deferred := congrArg Hst.deferred ((u.startSites_kept x).same .hst (by decide))
      change ((u.startSites x).hst.deferred.modify i _)[i]? = _
      rw [hdef, List.getElem?_modify_eq, hx]
      rfl
  · rw [exec_seqBurstStop_served hs hsites hu (by decide)]
    rfl
  · rw [exec_seqBurstStop_served hs hsites hu (by decide)]
    rfl
  · rw [exec_seqBurstStop_served hs hsites hu (by decide)]
    rfl

end Sys2Proof.Machine
end


section
/-! PROOFS. A thread issues one vector in a beat (R77, R78, R119, R120, R153). -/

namespace Sys2Proof.Machine

/-! ### What the issue of a vector turns on -/

/-- The output pipe of thread `n`, its next start, its next VN, the groups, the timing sets and the beat are as they were. -/
structure State.IssueSame (n : Nat) (s t : State) : Prop where
  pipe : (t.thr n).pipe = (s.thr n).pipe
  next : (t.thr n).next = (s.thr n).next
  nextVn : (t.thr n).nextVn = (s.thr n).nextVn
  groups : t.seq.groups = s.seq.groups
  tsets : t.seq.tsets = s.seq.tsets
  lbc : t.beat.lbc = s.beat.lbc

theorem State.IssueSame.refl (n : Nat) (s : State) : s.IssueSame n s := ⟨rfl, rfl, rfl, rfl, rfl, rfl⟩

theorem State.IssueSame.trans {n : Nat} {s t u : State} (h : s.IssueSame n t) (k : t.IssueSame n u) : s.IssueSame n u :=
  ⟨k.pipe.trans h.pipe, k.next.trans h.next, k.nextVn.trans h.nextVn, k.groups.trans h.groups, k.tsets.trans h.tsets, k.lbc.trans h.lbc⟩

theorem State.IssueSame.each {α : Type} {n : Nat} {f : α → State → State} (hf : ∀ x (t : State), t.IssueSame n (f x t)) (l : List α) (s : State) :
    s.IssueSame n (each l f s) :=
  each_keeps (P := s.IssueSame n) (fun x t h => h.trans (hf x t)) l (State.IssueSame.refl n s)

theorem State.IssueSame.when {n : Nat} {f : State → State} (hf : ∀ t : State, t.IssueSame n (f t)) (c : Bool) (s : State) :
    s.IssueSame n (when c f s) := by
  unfold Machine.when
  split
  · exact hf s
  · exact State.IssueSame.refl n s

/-- A change of the thread that leaves its pipe, its next start and its next VN. -/
theorem State.IssueSame.modThr {n : Nat} (s : State) {f : Thread → Thread}
    (h : ∀ t, (f t).pipe = t.pipe ∧ (f t).next = t.next ∧ (f t).nextVn = t.nextVn) : s.IssueSame n (s.modThr n f) := by
  obtain ⟨hp, hn, hv⟩ := h (s.thr n)
  exact ⟨by rw [State.thr_modThr_same, hp], by rw [State.thr_modThr_same, hn], by rw [State.thr_modThr_same, hv], rfl, rfl, rfl⟩

theorem State.IssueSame.setPad (s : State) (n i : Nat) (p : Pad) : s.IssueSame n (s.setPad n i p) := by
  unfold State.setPad
  exact State.IssueSame.modThr s (fun _ => ⟨rfl, rfl, rfl⟩)

theorem State.IssueSame.modPip (s : State) (n ch : Nat) (f : Pip → Pip) : s.IssueSame n (s.modPip ch f) := ⟨rfl, rfl, rfl, rfl, rfl, rfl⟩

theorem State.IssueSame.setReg (s : State) (n : Nat) (st : Stem) (i w : Nat) (v : W32) : s.IssueSame n (s.setReg st i w v) :=
  ⟨rfl, rfl, rfl, rfl, rfl, rfl⟩

theorem State.IssueSame.putBit (s : State) (n : Nat) (f : Field) (i : Nat) (b : Bool) : s.IssueSame n (s.putBit f i b) :=
  ⟨rfl, rfl, rfl, rfl, rfl, rfl⟩

theorem State.IssueSame.leaveQuiet (s : State) (n : Nat) : s.IssueSame n (s.leaveQuiet n) :=
  State.IssueSame.each (fun ch t => (State.IssueSame.modPip t n ch _).trans (State.IssueSame.putBit _ n _ _ _)) _ s

theorem State.IssueSame.placeMarker (s : State) (n site code start period issued no : Nat) :
    s.IssueSame n (s.placeMarker site code start period issued no) := by
  delta State.placeMarker
  split
  · exact State.IssueSame.refl n s
  · extract_lets e ofs t balls owned lines s₁ s₂
    have clamp : s.IssueSame n s₁ := State.IssueSame.when (fun t => State.IssueSame.putBit t n _ _ _) _ s
    have denied : s₁.IssueSame n s₂ := State.IssueSame.when (fun t => State.IssueSame.putBit t n _ _ _) _ s₁
    have acts : s₂.IssueSame n (s₂.withSeq fun q => { q with
      mkActs := q.mkActs ++ owned.map (fun k => ⟨site, no, issued, k, leAt e 2 1, t⟩)
      imActs := q.imActs ++ lines.map (fun j => (j, site, issued, t)) }) := ⟨rfl, rfl, rfl, rfl, rfl, rfl⟩
    exact (clamp.trans denied).trans acts

theorem State.IssueSame.dropJump (s : State) (n i : Nat) : s.IssueSame n (s.dropJump n i) :=
  (State.IssueSame.putBit s n _ _ _).trans (State.IssueSame.setPad _ n i _)

theorem State.IssueSame.itemOver (s : State) (n : Nat) (it : Item) : s.IssueSame n (s.itemOver n it) := by
  delta State.itemOver
  extract_lets t b late s₁ s₂
  have left : s.IssueSame n s₁ := State.IssueSame.modThr s (fun _ => ⟨rfl, rfl, rfl⟩)
  have dropped : s₁.IssueSame n s₂ := State.IssueSame.each (fun i t => State.IssueSame.dropJump t n i) _ _
  refine (left.trans dropped).trans (State.IssueSame.each (fun i t => ?_) _ _)
  dsimp only
  split
  · split
    · exact State.IssueSame.setPad _ _ _ _
    · exact State.IssueSame.refl n t
  · split
    · exact State.IssueSame.refl n t
    · split <;> exact State.IssueSame.setPad _ _ _ _

theorem State.IssueSame.dropPass (s : State) (n : Nat) (p : Pass) : s.IssueSame n (s.dropPass n p) := by
  unfold State.dropPass
  exact State.IssueSame.modThr s (fun _ => ⟨rfl, rfl, rfl⟩)

theorem State.IssueSame.setPass (s : State) (n : Nat) (p : Pass) : s.IssueSame n (s.setPass n p) := by
  unfold State.setPass
  exact State.IssueSame.modThr s (fun _ => ⟨rfl, rfl, rfl⟩)

theorem State.IssueSame.advanceRow (s : State) (n : Nat) (it : Item) (p : Pass) (row : List Byte) : s.IssueSame n (s.advanceRow n it p row) := by
  delta State.advanceRow
  extract_lets more sparse p₁ p₂ s₁
  have moved : s.IssueSame n s₁ := State.IssueSame.setPass s n p₂
  split
  · exact (moved.trans (State.IssueSame.itemOver s₁ n it)).trans (State.IssueSame.dropPass _ n p₂)
  · exact moved

theorem State.memberOf_congr {s t : State} (h : t.seq.groups = s.seq.groups) (n : Nat) : t.memberOf n = s.memberOf n := by
  unfold State.memberOf State.group
  rw [h]

/-! ### One vector -/

/-- The period of a vector of a row (R77). -/
def State.rowPeriod (s : State) (n : Nat) (p : Pass) (row : List Byte) : Nat :=
  if entFixed p.entry then s.fieldOf TMG_SITE_CFG_FX_PERIOD n else imgPeriod (s.tset n (rowTset row))

/-- From `s` to `u` thread `n` has issued one vector `v` of row `r` of a pass, and the grid goes on (R77). -/
structure State.Issued (n : Nat) (p : Pass) (r : List Byte) (s u : State) (v : Vec) : Prop where
  pipe : (u.thr n).pipe = (s.thr n).pipe ++ [v]
  start : v.start = (s.thr n).next
  period : v.period = s.rowPeriod n p r
  seg : v.seg = p.seg
  row : v.row = p.row
  vn : v.vn = (s.thr n).nextVn
  issued : v.issued = s.beat.lbc
  next : (u.thr n).next = (s.thr n).next + s.rowPeriod n p r
  nextVn : (u.thr n).nextVn = ((s.thr n).nextVn + 1) % 2 ^ 48
  groups : u.seq.groups = s.seq.groups
  lbc : u.beat.lbc = s.beat.lbc

theorem State.Issued.trans {n : Nat} {p : Pass} {row : List Byte} {s u w : State} {v : Vec} (h : State.Issued n p row s u v) (k : u.IssueSame n w) :
    State.Issued n p row s w v :=
  { h with
    pipe := k.pipe.trans h.pipe, next := k.next.trans h.next, nextVn := k.nextVn.trans h.nextVn
    groups := k.groups.trans h.groups, lbc := k.lbc.trans h.lbc }

/-- A row of a segment is issued as one vector. -/
theorem State.emit_issued (s : State) (n : Nat) (p : Pass) (it : Item) (row : List Byte) : ∃ v, State.Issued n p row s (s.emit n p it true row) v := by
  delta State.emit
  extract_lets t fixed dm s₁ syms tset period v s₂ wrap s₃ s₄ s₅ e sparse code s₆
  have ready : s.IssueSame n s₁ := State.IssueSame.when (fun t => State.IssueSame.leaveQuiet t n) _ s
  have symbols : s₁.IssueSame n s₂ := State.IssueSame.each (α := Nat × Nat) (fun x t => State.IssueSame.modPip t n x.1 _) _ s₁
  obtain ⟨hpipe, hnext, hvn, hgroups, -, hlbc⟩ := ready.trans symbols
  have hperiod : period = s.rowPeriod n p row := by
    have hfx : s₁.fieldOf TMG_SITE_CFG_FX_PERIOD n = s.fieldOf TMG_SITE_CFG_FX_PERIOD n :=
      (when_kept (Kept.refl s) _ _ (fun t h => State.leaveQuiet_kept (m := 0x100000200) (by decide) h n)).fieldOf _ (by decide) n
    have hts (k : Nat) : s₁.tset n k = s.tset n k := by unfold State.tset; rw [ready.tsets]
    unfold State.rowPeriod
    by_cases hf : entFixed p.entry = true
    · simp only [period, fixed, hf, if_true, hfx]
    · simp only [period, tset, fixed, hf, if_false, hts, Bool.false_eq_true]
  have issued : State.Issued n p row s s₃ v :=
    { pipe := by rw [State.thr_modThr_same]; exact congrArg (· ++ [v]) hpipe
      start := rfl, period := hperiod, seg := rfl, row := rfl, vn := rfl, issued := ready.lbc
      next := by rw [State.thr_modThr_same]; exact congrArg₂ (· + ·) hnext hperiod
      nextVn := by rw [State.thr_modThr_same]; exact congrArg (fun k => (k + 1) % 2 ^ 48) hvn
      groups := hgroups, lbc := hlbc }
  have wrapped : s₃.IssueSame n s₄ := State.IssueSame.when (fun t => State.IssueSame.putBit t n _ _ _) _ s₃
  have shown : s₄.IssueSame n s₅ := by
    unfold s₅
    split
    · exact State.IssueSame.refl n s₄
    · exact ⟨rfl, rfl, rfl, rfl, rfl, rfl⟩
  have tail : State.Issued n p row s s₅ v := issued.trans (wrapped.trans shown)
  refine ⟨v, ?_⟩
  rw [if_neg (by decide)]
  have marked : State.Issued n p row s s₆ v := tail.trans (State.IssueSame.placeMarker s₅ n _ _ _ _ _ _)
  split
  · exact marked
  · exact marked.trans ((State.IssueSame.placeMarker s₆ n _ _ _ _ _ _).trans (State.IssueSame.modThr _ (fun _ => ⟨rfl, rfl, rfl⟩)))

/-! ### The crossing before it, and the beat -/

/-- Thread `n` is to issue row `row` of pass `p` for item `it`, and no decision, stop or abort stands. -/
structure State.Ready (n : Nat) (it : Item) (p : Pass) (row : List Byte) (s : State) : Prop where
  issuing : s.issuing n = true
  running : (s.thr n).st ≠ 4
  stopAt : (s.thr n).stopAt = none
  stopNext : (s.thr n).stopNext = none
  blocked : (s.thr n).blocked = false
  alone : s.memberOf n = none
  head : s.headItem n = some it
  began : (s.thr n).began.isSome = true
  halt : it.kind ≠ .halt
  join : it.kind ≠ .join
  spansync : it.kind ≠ .spansync
  pass : (s.thr n).passOf it = some p
  ended : p.ended = false
  checked : p.checked = true
  held : p.rowBytes p.row = some row
  sparse : s.sparseBad p.entry p.row = none
  crc : entCrcEn p.entry = false
  due : (s.thr n).next < (s.beat.lbc + 1) * beatFs

/-- What a ready thread does not look at may change. -/
theorem State.Ready.modThr {n : Nat} {it : Item} {p : Pass} {row : List Byte} {s : State} (h : s.Ready n it p row) {f : Thread → Thread}
    (hf : ∀ t, (f t).st = t.st ∧ (f t).stopAt = t.stopAt ∧ (f t).stopNext = t.stopNext ∧ (f t).blocked = t.blocked ∧ (f t).queue = t.queue ∧
      (f t).began = t.began ∧ (f t).stream = t.stream ∧ (f t).next = t.next) : (s.modThr n f).Ready n it p row := by
  obtain ⟨hst, hsa, hsn, hbl, hq, hbe, hstr, hne⟩ := hf (s.thr n)
  have ht : (s.modThr n f).thr n = f (s.thr n) := State.thr_modThr_same s n f
  exact {
    issuing := by unfold State.issuing; rw [ht, hst]; exact h.issuing
    running := by rw [ht, hst]; exact h.running
    stopAt := by rw [ht, hsa]; exact h.stopAt
    stopNext := by rw [ht, hsn]; exact h.stopNext
    blocked := by rw [ht, hbl]; exact h.blocked
    alone := h.alone
    head := by unfold State.headItem; rw [ht, hq]; exact h.head
    began := by rw [ht, hbe]; exact h.began
    halt := h.halt, join := h.join, spansync := h.spansync
    pass := by unfold Thread.passOf; rw [ht, hstr]; exact h.pass
    ended := h.ended, checked := h.checked, held := h.held, sparse := h.sparse, crc := h.crc
    due := by rw [ht, hne]; exact h.due }

/-- No crossing stands before the vector of a ready thread. -/
theorem State.Ready.cross {n : Nat} {it : Item} {p : Pass} {row : List Byte} {s : State} (h : s.Ready n it p row)
    (join : State → Item → Option Bool) : s.cross n join = none := by
  have hb : (s.thr n).began.isNone = false := by rw [← Option.not_isSome, h.began]; rfl
  unfold State.cross
  simp only [h.stopAt, Option.filter_none, h.head, h.halt, if_false, hb, Bool.false_eq_true, h.pass, h.ended]

theorem Item.not_holds {it : Item} (hj : it.kind ≠ .join) (hs : it.kind ≠ .spansync) : it.holds = false := by
  rw [Item.holds, beq_false_of_ne hj, beq_false_of_ne hs]; rfl

/-- The vector of a ready thread is issued from its row, which then is behind it. -/
theorem State.Ready.issueVector {n : Nat} {it : Item} {p : Pass} {row : List Byte} {s : State} (h : s.Ready n it p row) :
    s.issueVector n it p = (s.emit n p it true row).advanceRow n it p row := by
  have hrow : s.rowHere n it p = some row := by
    have hon : s.onStream n = none := by rw [State.onStream, h.alone]; rfl
    rw [State.rowHere, hon]
    exact h.held
  have hattach : s.attachStop n it p = (p, s) := by rw [State.attachStop, h.stopNext]
  unfold State.issueVector
  simp only [h.running, if_false, h.checked, if_true, hattach, hrow, Item.not_holds h.join h.spansync, Bool.false_eq_true, h.sparse, h.crc,
    Bool.and_false, Bool.false_and, when, Option.isSome_none]

/-- A member of no group notes no JOIN. -/
theorem State.noteSkip_alone {s : State} {n : Nat} (h : s.memberOf n = none) : s.noteSkip n = s := by
  rw [State.noteSkip, h]

/-- A thread whose next start lies past the beat issues nothing more in it. -/
theorem State.advanceAll_past {n : Nat} {s : State} (h : s.memberOf n = none) (hn : (s.beat.lbc + 1) * beatFs ≤ (s.thr n).next) :
    ∀ k, s.advanceAll n k = s
  | 0 => rfl
  | k + 1 => by
    have hstop : s.advance n (fun s it => some (s.joinMet n it)) 1 = s := by
      unfold State.advance
      simp only [decide_eq_true hn, Bool.or_true, if_true]
    rw [State.advanceAll, State.noteSkip_alone h, hstop]
    exact State.advanceAll_past h hn k

/-- A ready thread whose vector takes it past the beat issues that vector alone. -/
theorem State.Ready.advanceAll {n : Nat} {it : Item} {p : Pass} {row : List Byte} {s : State} (h : s.Ready n it p row)
    (hp : (s.beat.lbc + 1) * beatFs ≤ (s.thr n).next + s.rowPeriod n p row) (k : Nat) :
    ∃ v, State.Issued n p row s (s.advanceAll n (k + 1)) v := by
  obtain ⟨v, hv⟩ := s.emit_issued n p it row
  have hone := hv.trans (State.IssueSame.advanceRow _ n it p row)
  have hstep : s.advance n (fun s it => some (s.joinMet n it)) 1 = (s.emit n p it true row).advanceRow n it p row := by
    have hlate : decide ((s.beat.lbc + 1) * beatFs ≤ (s.thr n).next) = false := decide_eq_false (Nat.not_le.2 h.due)
    unfold State.advance
    simp only [h.issuing, h.blocked, hlate, Bool.not_true, Bool.or_false, Bool.false_eq_true, if_false, h.cross, h.head, h.pass,
      h.issueVector]
    rfl
  refine ⟨v, ?_⟩
  rw [State.advanceAll, State.noteSkip_alone h.alone, hstep, State.advanceAll_past]
  · exact hone
  · rw [State.memberOf_congr hone.groups]; exact h.alone
  · rw [hone.lbc, hone.next]; exact hp

/-- What came before the vector left the pipe, the grid and the period as they were. -/
theorem State.Issued.of_same {n : Nat} {p : Pass} {row : List Byte} {s w u : State} {v : Vec} (k : s.IssueSame n w)
    (hp : w.rowPeriod n p row = s.rowPeriod n p row) (h : State.Issued n p row w u v) : State.Issued n p row s u v :=
  { pipe := by rw [h.pipe, k.pipe], start := by rw [h.start, k.next], period := by rw [h.period, hp], seg := h.seg, row := h.row
    vn := by rw [h.vn, k.nextVn], issued := by rw [h.issued, k.lbc], next := by rw [h.next, k.next, hp]
    nextVn := by rw [h.nextVn, k.nextVn], groups := by rw [h.groups, k.groups], lbc := by rw [h.lbc, k.lbc] }

/-- The thread with the requests taken out that are due (R183, R185). -/
def Thread.withoutDue (b : Nat) (t : Thread) : Thread := { t with atEnds := t.atEnds.filter (fun x => !decide (x.2 ≤ b)) }

/-- Where no decision stands, no effect is due. -/
theorem State.effects_none {s : State} {n : Nat} (ht : (s.thr n).taken = none) (ha : (s.thr n).atEnds = []) :
    s.effects n = s.modThr n (Thread.withoutDue s.beat.lbc) := by
  have hdue : s.effectDue n = s := by rw [State.effectDue, ht]
  unfold State.effects
  simp only [hdue, ha, List.filter_nil]
  rfl

/-- The beat in which a thread issues is noted with it. -/
def State.noteBeat (n : Nat) (s : State) : State :=
  if (s.thr n).issueBeat = some s.beat.lbc then s else s.modThr n fun t => { t with issueBeat := some s.beat.lbc, sig := [] }

theorem State.IssueSame.noteBeat (s : State) (n : Nat) : s.IssueSame n (s.noteBeat n) := by
  unfold State.noteBeat
  split
  · exact State.IssueSame.refl n s
  · exact State.IssueSame.modThr s (fun _ => ⟨rfl, rfl, rfl⟩)

theorem State.Ready.noteBeat {n : Nat} {it : Item} {p : Pass} {row : List Byte} {s : State} (h : s.Ready n it p row) :
    (s.noteBeat n).Ready n it p row := by
  unfold State.noteBeat
  split
  · exact h
  · exact h.modThr (fun _ => ⟨rfl, rfl, rfl, rfl, rfl, rfl, rfl, rfl⟩)

theorem State.rowPeriod_noteBeat (s : State) (n : Nat) (p : Pass) (row : List Byte) : (s.noteBeat n).rowPeriod n p row = s.rowPeriod n p row := by
  unfold State.noteBeat
  split <;> rfl

/-- A ready thread in whose beat no effect is due issues its vector (R77, R78). -/
theorem State.Ready.issueNow {n : Nat} {it : Item} {p : Pass} {row : List Byte} {s : State} (h : s.Ready n it p row)
    (ht : (s.thr n).taken = none) (ha : (s.thr n).atEnds = [])
    (hp : (s.beat.lbc + 1) * beatFs ≤ (s.thr n).next + s.rowPeriod n p row) : ∃ v, State.Issued n p row s (s.issueNow n) v := by
  have heq : s.issueNow n = (((s.modThr n (Thread.withoutDue s.beat.lbc)).noteBeat n).advanceAll n 96).compareGroup
      (((s.modThr n (Thread.withoutDue s.beat.lbc)).noteBeat n).memberOf n) := by
    rw [← State.effects_none ht ha]; rfl
  have hready := (h.modThr (f := Thread.withoutDue s.beat.lbc) (fun _ => ⟨rfl, rfl, rfl, rfl, rfl, rfl, rfl, rfl⟩)).noteBeat
  have hsame := (State.IssueSame.modThr s (f := Thread.withoutDue s.beat.lbc) (fun _ => ⟨rfl, rfl, rfl⟩)).trans
    (State.IssueSame.noteBeat (s.modThr n (Thread.withoutDue s.beat.lbc)) n)
  have hperiod := State.rowPeriod_noteBeat (s.modThr n (Thread.withoutDue s.beat.lbc)) n p row
  obtain ⟨v, hv⟩ := hready.advanceAll (by rw [hsame.lbc, hsame.next, hperiod]; exact hp) 95
  refine ⟨v, ?_⟩
  rw [heq, hready.alone]
  exact hv.of_same hsame hperiod

theorem exec_vectorIssue_idle {x : Fin 32} {s : State} (hr : s.running = true) (h : s.issuing x.val = false) : exec (.vectorIssue x) s = .next s := by
  change execVectorIssue x s = _
  rw [execVectorIssue, State.live, if_pos hr, h]
  rfl

theorem exec_vectorIssue_issues {x : Fin 32} {s : State} (hr : s.running = true) (h : s.issuing x.val = true) (ha : (s.thr x.val).abortAt = none) :
    exec (.vectorIssue x) s = .next (s.issueNow x.val) := by
  change execVectorIssue x s = _
  rw [execVectorIssue, State.live, if_pos hr, h, Thread.abortsBy, ha]
  rfl

end Sys2Proof.Machine
end



section
/-! PROOFS. What the scheduling of vectors, their cut and their discarding leave of the vectors in the output pipe (R25, R26, R99). -/

namespace Sys2Proof.Machine

/-- Every vector in thread `n`'s output pipe was there before, with the same number and issue beat, and one scheduled stays so. -/
def State.PipeFrom (n : Nat) (s t : State) : Prop :=
  ∀ w ∈ (t.thr n).pipe, ∃ v ∈ (s.thr n).pipe, w.no = v.no ∧ w.issued = v.issued ∧ (v.scheduled = true → w.scheduled = true)

theorem State.PipeFrom.of_pipe {n : Nat} {s t : State} (h : (t.thr n).pipe = (s.thr n).pipe) : s.PipeFrom n t :=
  fun w hw => ⟨w, h ▸ hw, rfl, rfl, id⟩

theorem State.PipeFrom.of_thr {n : Nat} {s t : State} (h : t.seq.thr = s.seq.thr) : s.PipeFrom n t :=
  State.PipeFrom.of_pipe (by unfold State.thr; rw [h])

theorem State.PipeFrom.refl (n : Nat) (s : State) : s.PipeFrom n s := State.PipeFrom.of_thr rfl

theorem State.PipeFrom.trans {n : Nat} {s t u : State} (h : s.PipeFrom n t) (k : t.PipeFrom n u) : s.PipeFrom n u := by
  intro w hw
  obtain ⟨v, hv, hno, hi, hs⟩ := k w hw
  obtain ⟨x, hx, hno', hi', hs'⟩ := h v hv
  exact ⟨x, hx, hno.trans hno', hi.trans hi', hs ∘ hs'⟩

theorem State.PipeFrom.each {α : Type} {n : Nat} {f : α → State → State} (hf : ∀ x (t : State), t.PipeFrom n (f x t)) (l : List α) (s : State) :
    s.PipeFrom n (each l f s) :=
  each_keeps (P := s.PipeFrom n) (fun x t h => h.trans (hf x t)) l (State.PipeFrom.refl n s)

theorem State.PipeFrom.when {n : Nat} {f : State → State} (hf : ∀ t : State, t.PipeFrom n (f t)) (c : Bool) (s : State) :
    s.PipeFrom n (when c f s) := by
  unfold Machine.when
  split
  · exact hf s
  · exact State.PipeFrom.refl n s

theorem State.PipeFrom.ite {n : Nat} {s t u : State} {c : Prop} [Decidable c] (ht : s.PipeFrom n t) (hu : s.PipeFrom n u) :
    s.PipeFrom n (if c then t else u) := by
  split
  · exact ht
  · exact hu

/-- The vectors of a thread's pipe changed one by one, each keeping its number and issue beat. -/
theorem State.PipeFrom.mapPipe {n : Nat} (s : State) (m : Nat) {f : Vec → Vec}
    (hf : ∀ v, (f v).no = v.no ∧ (f v).issued = v.issued ∧ (v.scheduled = true → (f v).scheduled = true)) :
    s.PipeFrom n (s.modThr m fun t => { t with pipe := t.pipe.map f }) := by
  by_cases e : n = m
  · subst e
    intro w hw
    rw [State.thr_modThr_same] at hw
    obtain ⟨v, hv, rfl⟩ := List.mem_map.1 hw
    exact ⟨v, hv, hf v⟩
  · exact State.PipeFrom.of_pipe (by rw [State.thr_modThr_other s e])

/-- A vector of one number changed in the pipe, keeping its number and issue beat. -/
theorem State.PipeFrom.mapVec {n : Nat} (s : State) (m no : Nat) {f : Vec → Vec}
    (hf : ∀ v, (f v).no = v.no ∧ (f v).issued = v.issued ∧ (v.scheduled = true → (f v).scheduled = true)) :
    s.PipeFrom n (s.modThr m fun t => { t with pipe := t.pipe.map (fun w => if w.no = no then f w else w) }) := by
  refine State.PipeFrom.mapPipe s m (fun v => ?_)
  split
  · exact hf v
  · exact ⟨rfl, rfl, id⟩

theorem State.putBit_seq (s : State) (f : Field) (i : Nat) (b : Bool) : (s.putBit f i b).seq = s.seq := rfl

theorem State.countUp_seq (s : State) (f : Field) (i v : Nat) : (s.countUp f i v).seq = s.seq := State.setReg_seq _ _ _ _ _

/-- Of the pattern engine's state, a drop changes the list of the beat's drops alone (R101). -/
theorem State.drop_seq (s : State) (ch kind : Nat) : ∃ l, (s.drop ch kind).seq = { s.seq with drops := l } := by
  unfold State.drop
  rw [State.withSeq_seq, State.putBit_seq, State.countUp_seq, State.setReg_seq]
  exact ⟨_, rfl⟩

theorem State.drop_thr (s : State) (ch kind : Nat) : (s.drop ch kind).seq.thr = s.seq.thr := by
  obtain ⟨l, h⟩ := s.drop_seq ch kind
  rw [h]

theorem State.drop_pips (s : State) (ch kind : Nat) : (s.drop ch kind).seq.pips = s.seq.pips := by
  obtain ⟨l, h⟩ := s.drop_seq ch kind
  rw [h]

theorem State.PipeFrom.drop (n : Nat) (s : State) (ch kind : Nat) : s.PipeFrom n (s.drop ch kind) := State.PipeFrom.of_thr (s.drop_thr ch kind)

theorem State.PipeFrom.drops (n : Nat) (ch k : Nat) (s : State) : s.PipeFrom n ((List.range k).foldl (fun t _ => t.drop ch 1) s) :=
  State.PipeFrom.each (f := fun _ t => State.drop ch 1 t) (fun _ t => State.PipeFrom.drop n t ch 1) (List.range k) s

theorem State.PipeFrom.place (n : Nat) (s : State) (ch : Nat) (c : Change) : s.PipeFrom n (s.place ch c) := State.PipeFrom.of_thr rfl

theorem State.PipeFrom.setLast (n : Nat) (s : State) (ch path : Nat) (e : Edge) : s.PipeFrom n (s.setLast ch path e) := State.PipeFrom.of_thr rfl

theorem State.PipeFrom.modPip (n : Nat) (s : State) (ch : Nat) (f : Pip → Pip) : s.PipeFrom n (s.modPip ch f) := State.PipeFrom.of_thr rfl

theorem State.PipeFrom.edge (n : Nat) (s : State) (ch : Nat) (c : Change) : s.PipeFrom n (s.edge ch c) := by
  unfold State.edge
  split
  · exact State.PipeFrom.place n s ch c
  · split
    · exact (State.PipeFrom.setLast n s ch _ _).trans (State.PipeFrom.place n _ ch c)
    · exact State.PipeFrom.drop n s ch 0

theorem State.PipeFrom.addStrobe (n : Nat) (s : State) (ch thr : Nat) (v : Vec) (b : Strobe) : s.PipeFrom n (s.addStrobe ch thr v b) :=
  (State.PipeFrom.modPip n s ch _).trans (State.PipeFrom.mapVec _ thr v.no (fun _ => ⟨rfl, rfl, id⟩))

theorem State.PipeFrom.driveFree (n : Nat) (s : State) (ch : Nat) (v : Vec) (img : List Byte) (i sym : Nat) :
    s.PipeFrom n (s.driveFree ch v img i sym) := by
  delta State.driveFree
  extract_lets fmt base d drive change put s₁ one s₂ s₃
  have hput : ∀ den level path (t : State), t.PipeFrom n (put den level path t) := by
    intro den level path t
    unfold put
    split
    · exact State.PipeFrom.refl n t
    · split
      · exact State.PipeFrom.refl n t
      · exact State.PipeFrom.edge n t ch _
  have enable : s.PipeFrom n s₁ := by
    unfold s₁
    split
    · exact State.PipeFrom.refl n s
    · exact (hput _ _ _ s).trans (hput _ _ _ _)
  have surround : s₁.PipeFrom n s₂ := by
    unfold s₂
    split
    · exact State.PipeFrom.place n s₁ ch _
    · exact State.PipeFrom.refl n s₁
  have data : s₂.PipeFrom n s₃ := hput _ _ _ s₂
  have upto := (enable.trans surround).trans data
  split
  · split
    · exact upto.trans (hput _ _ _ s₃)
    · split
      · exact upto.trans (hput _ _ _ s₃)
      · split
        · exact upto.trans (hput _ _ _ s₃)
        · exact upto
  · exact enable

theorem State.PipeFrom.strobeFree (n : Nat) (s : State) (ch thr : Nat) (v : Vec) (img : List Byte) (i sym : Nat) :
    s.PipeFrom n (s.strobeFree ch thr v img i sym) := by
  delta State.strobeFree
  split
  · exact State.PipeFrom.refl n s
  · split
    · exact State.PipeFrom.refl n s
    · extract_lets base d a0 t1 a1 closes ok0 s₁ overlap s₂ dropped ok1 s₃ opened dropped' s₄ win
      have opening : s.PipeFrom n s₁ := by
        unfold s₁
        split
        · exact State.PipeFrom.setLast n s ch 4 _
        · exact (State.PipeFrom.drop n s ch 0).trans (State.PipeFrom.drop n _ ch 2)
      have overlapped : s₁.PipeFrom n s₂ := State.PipeFrom.when (fun t => State.PipeFrom.drop n t ch 2) _ s₁
      have closing : s₂.PipeFrom n s₃ := by
        unfold s₃
        split
        · exact State.PipeFrom.refl n s₂
        · split
          · exact State.PipeFrom.setLast n s₂ ch 5 _
          · exact (State.PipeFrom.drop n s₂ ch 0).trans (State.PipeFrom.when (fun t => State.PipeFrom.drop n t ch 2) _ _)
      have window : s₃.PipeFrom n s₄ := by
        unfold s₄
        split
        · exact State.PipeFrom.modPip n s₃ ch _
        · exact State.PipeFrom.refl n s₃
      have upto := ((opening.trans overlapped).trans closing).trans window
      exact State.PipeFrom.ite (State.PipeFrom.refl n s) (State.PipeFrom.ite
        (State.PipeFrom.ite (upto.trans (State.PipeFrom.modPip n s₄ ch _)) upto) (upto.trans (State.PipeFrom.addStrobe n s₄ ch thr v _)))

theorem State.PipeFrom.scheduleFixed (n : Nat) (s : State) (ch thr : Nat) (v : Vec) (i sym : Nat) :
    s.PipeFrom n (s.scheduleFixed ch thr v i sym) := by
  delta State.scheduleFixed
  extract_lets base a put s₁ s₂ x ofs a0
  have hput : ∀ den level (t : State), t.PipeFrom n (put den level t) := by
    intro den level t
    unfold put
    split
    · exact State.PipeFrom.refl n t
    · exact State.PipeFrom.place n t ch _
  have driven : s.PipeFrom n s₁ := by
    unfold s₁
    split
    · exact hput _ _ s
    · exact State.PipeFrom.refl n s
  have released : s.PipeFrom n s₂ := hput _ _ s
  split
  · split <;> exact driven.trans (hput _ _ s₁)
  · split
    · split
      · exact released
      · exact released.trans (State.PipeFrom.addStrobe n s₂ ch thr v _)
    · exact released

theorem State.PipeFrom.scheduleChannel (n : Nat) (s : State) (thr : Nat) (v : Vec) (i ch : Nat) :
    s.PipeFrom n (s.scheduleChannel thr v i ch) := by
  delta State.scheduleChannel
  extract_lets sym img s₁ r
  split
  · exact State.PipeFrom.refl n s
  · split
    · exact State.PipeFrom.scheduleFixed n s ch thr v i sym
    · have placed : s.PipeFrom n s₁ := (State.PipeFrom.driveFree n s ch v img i sym).trans (State.PipeFrom.strobeFree n _ ch thr v img i sym)
      exact placed.trans ((State.PipeFrom.modPip n s₁ ch _).trans (State.PipeFrom.drops n ch r.2 _))

/-! ### Stage 8 of the output pipe -/

/-- Every vector of number `no` in thread `n`'s output pipe is scheduled. -/
def State.VecScheduled (n no : Nat) (s : State) : Prop := ∀ w ∈ (s.thr n).pipe, w.no = no → w.scheduled = true

theorem State.VecScheduled.from {n no : Nat} {s t : State} (h : s.VecScheduled n no) (k : s.PipeFrom n t) : t.VecScheduled n no := by
  intro w hw hno
  obtain ⟨v, hv, hv', -, hs⟩ := k w hw
  exact hs (h v hv (hv'.symm.trans hno))

/-- A vector scheduled is marked so, and no vector loses its mark. -/
theorem State.scheduleVec_spec (s : State) (n : Nat) (v : Vec) : s.PipeFrom n (s.scheduleVec n v) ∧ (s.scheduleVec n v).VecScheduled n v.no := by
  delta State.scheduleVec
  extract_lets caps s₁
  have channels : s.PipeFrom n s₁ := State.PipeFrom.each (α := Nat × Nat) (fun p t => State.PipeFrom.scheduleChannel n t n v p.2 p.1) _ s
  refine ⟨channels.trans (State.PipeFrom.mapVec s₁ n v.no (fun _ => ⟨rfl, rfl, fun _ => rfl⟩)), fun w hw hno => ?_⟩
  rw [State.thr_modThr_same] at hw
  obtain ⟨y, -, rfl⟩ := List.mem_map.1 hw
  by_cases e : y.no = v.no
  · rw [if_pos e]
  · rw [if_neg e] at hno
    exact absurd hno e

/-- Of the vectors scheduled one after another, all are marked. -/
theorem State.scheduleVecs_spec (n : Nat) (l : List Vec) : ∀ s : State, s.PipeFrom n (l.foldl (fun t v => t.scheduleVec n v) s) ∧
    ∀ v ∈ l, (l.foldl (fun t v => t.scheduleVec n v) s).VecScheduled n v.no := by
  induction l with
  | nil => exact fun s => ⟨State.PipeFrom.refl n s, fun v hv => absurd hv List.not_mem_nil⟩
  | cons x l ih =>
    intro s
    obtain ⟨hx, hxs⟩ := s.scheduleVec_spec n x
    obtain ⟨hl, hls⟩ := ih (s.scheduleVec n x)
    refine ⟨hx.trans hl, fun v hv => ?_⟩
    rcases List.mem_cons.1 hv with rfl | hv
    · exact hxs.from hl
    · exact hls v hv

/-- OUTPUT_PIPE_SCHEDULE schedules every vector issued 8 beats ago. -/
theorem exec_outputPipeSchedule {x : Fin 32} {s : State} (hr : s.running = true) :
    ∃ u, exec (.outputPipeSchedule x) s = .next u ∧ ∀ v ∈ (u.thr x.val).pipe, v.issued + 8 ≤ s.beat.lbc → v.scheduled = true := by
  obtain ⟨hfrom, hall⟩ := State.scheduleVecs_spec x.val
    ((s.thr x.val).pipe.filter (fun v => !v.scheduled && decide (v.issued + 8 ≤ s.beat.lbc))) s
  refine ⟨_, congrArg Host.Outcome.next (State.live_running hr _), fun w hw hdue => ?_⟩
  obtain ⟨v, hv, hno, hissued, hs⟩ := hfrom w hw
  cases hv' : v.scheduled with
  | true => exact hs hv'
  | false =>
    refine hall v (List.mem_filter.2 ⟨hv, ?_⟩) w hw hno
    rw [hv', ← hissued, decide_eq_true hdue]
    rfl

end Sys2Proof.Machine
end


section
/-! PROOFS. Empty timing sets, the quiet state of a channel, and the end of a marker pulse (R33, R91, R103, R131). -/

namespace Sys2Proof.Machine

/-- The C2 fault of an empty timing set that a vector selected (R91). -/
def Vec.emptyFault (v : Vec) (n : Nat) : FaultRec :=
  ⟨0, 2, 0x0003, fld 15 8 v.tset + fld 4 0 n, BitVec.ofNat 32 (2 ^ n), false, some (v.vn, v.row, v.seg)⟩

/-- The thread without the vector of a number in its output pipe. -/
def Thread.withoutVec (no : Nat) (t : Thread) : Thread := { t with pipe := t.pipe.filter (fun w => w.no != no) }

theorem exec_tsetEmptyDetect {x : Fin 32} {s : State} {v : Vec} (hr : s.running = true) (hi : s.issuing x.val = true)
    (hv : (s.thr x.val).pipe.find? (fun v => v.period == 0 && decide (v.issued + 2 ≤ s.beat.lbc)) = some v) :
    exec (.tsetEmptyDetect x) s =
      .next ((s.modThr x.val (Thread.withoutVec v.no)).raiseNow (v.emptyFault x.val)) := by
  refine congrArg Host.Outcome.next ((State.live_running hr _).trans ?_)
  simp only [hv, hi, Bool.not_true, Bool.false_eq_true, if_false]
  rfl

/-! ### The quiet state -/

theorem State.pip_modPip_same (s : State) (ch : Nat) (f : Pip → Pip) : (s.modPip ch f).pip ch = f (s.pip ch) := Tab.get_set_same _ _ _ _

theorem State.pip_modPip_other (s : State) {c ch : Nat} (h : ch ≠ c) (f : Pip → Pip) : (s.modPip c f).pip ch = s.pip ch :=
  Tab.get_set_other _ _ _ _ _ h

theorem State.pip_congr {s t : State} (h : t.seq.pips = s.seq.pips) (ch : Nat) : t.pip ch = s.pip ch := by
  unfold State.pip
  rw [h]

theorem State.pips_drops (ch k : Nat) (s : State) : ((List.range k).foldl (fun t _ => t.drop ch 1) s).seq.pips = s.seq.pips :=
  each_keeps (f := fun _ t => State.drop ch 1 t) (P := fun t : State => t.seq.pips = s.seq.pips) (fun _ t h => (t.drop_pips ch 1).trans h) (List.range k) rfl

theorem State.place_quietAt (s : State) (ch : Nat) (c : Change) : ((s.place ch c).pip ch).quietAt = (s.pip ch).quietAt := by
  rw [State.place, State.pip_modPip_same]

theorem Pip.judge_quietAt (p : Pip) : p.judge.1.quietAt = p.quietAt := rfl

/-- The transitions into the quiet state leave when it is due as it was. -/
theorem State.placeQuiet_quietAt (s : State) (ch : Nat) (t lead : Int) : ((s.placeQuiet ch t lead).pip ch).quietAt = (s.pip ch).quietAt := by
  unfold State.placeQuiet
  rw [State.pip_congr (State.pips_drops ch _ _), State.pip_modPip_same, Pip.judge_quietAt, State.place_quietAt, State.place_quietAt]

/-- A channel that enters its quiet state is in it, and none is due any more (R33). -/
theorem State.enterQuiet_spec (s : State) (ch : Nat) (t : Int) :
    (s.enterQuiet ch t).bitOf TMG_CH_CFG_IN_QUIET ch = true ∧ ((s.enterQuiet ch t).pip ch).quietAt = none := by
  unfold State.enterQuiet
  constructor
  · rw [(State.placeQuiet_kept (m := 0xc000000200) (by decide) (Kept.refl _) ch t _).bitOf TMG_CH_CFG_IN_QUIET (by decide), State.bitOf_putBit _ _ _ _ (by decide)]
  · rw [State.placeQuiet_quietAt]
    refine (congrArg Pip.quietAt (State.pip_congr (s := s.modPip ch fun p => { p with quietAt := none }) ?_ ch)).trans ?_
    · rfl
    · rw [State.pip_modPip_same]

theorem exec_quietStateEntry {ch : Fin 128} {s : State} {g : Int} (hr : s.running = true) (hg : (s.pip ch.val).quietAt = some g) :
    exec (.quietStateEntry ch) s = .next (if g < (s.now + beatFs : Nat) then s.enterQuiet ch.val g else s) := by
  refine congrArg Host.Outcome.next ((State.live_running hr _).trans ?_)
  simp only [hg]

/-! ### The end of a marker pulse -/

theorem exec_mkPulseEnd {k : Fin 16} {s : State} {e : Nat} (hr : s.running = true) (he : (s.mark k.val).ends = some e) :
    exec (.mkPulseEnd k) s = .next (if e < 8 * (s.beat.lbc + 1) then
      (if ((s.settleBall k.val e).mark k.val).ends = some e then (s.settleBall k.val e).setMark k.val { on := false, ends := none }
        else s.settleBall k.val e) else s) := by
  refine congrArg Host.Outcome.next ((State.live_running hr _).trans ?_)
  simp only [he]

end Sys2Proof.Machine
end


section
/-! PROOFS. The abort of a site: its thread, its rows in the output pipe, its channels (R25, R26, R103, R142). -/

namespace Sys2Proof.Machine

theorem Kept.seq {m : Nat} {s t : State} (h : Kept m s t) (hm : m.testBit Part.seq.ctorIdx = false) : t.seq = s.seq := h.same .seq hm

/-! ### The cut of a channel -/

theorem State.forgetWindows_seq (s : State) (n : Nat) (vs : List Nat) : (s.forgetWindows n vs).seq = s.seq :=
  (State.forgetWindows_kept (Covers.refl _) (Kept.refl s) n vs).seq (by decide)

/-- Windows discarded leave the threads, and of the pips the tWindows alone change. -/
theorem State.dropWindows_seq (s : State) (ch : Nat) (hit : TWin → Bool) :
    (s.dropWindows ch hit).seq = s.seq ∨
    (s.dropWindows ch hit).seq = (s.modPip ch fun p => { p with tWindows := p.tWindows.filter (fun w => !hit w) }).seq := by
  delta State.dropWindows
  extract_lets vs s₁ ms
  split
  · exact Or.inl rfl
  · exact Or.inr (each_keeps (P := fun t : State => t.seq = s₁.seq) (fun m t h => (t.forgetWindows_seq m vs).trans h) _ rfl)

theorem State.dropWindows_thr (s : State) (ch : Nat) (hit : TWin → Bool) : (s.dropWindows ch hit).seq.thr = s.seq.thr := by
  rcases s.dropWindows_seq ch hit with h | h <;> rw [h]
  rfl

theorem State.dropWindows_pip_other (s : State) {c ch : Nat} (hit : TWin → Bool) (h : ch ≠ c) : (s.dropWindows c hit).pip ch = s.pip ch := by
  rcases s.dropWindows_seq c hit with e | e
  · exact State.pip_congr (congrArg Pattern.pips e) ch
  · exact (State.pip_congr (congrArg Pattern.pips e) ch).trans (s.pip_modPip_other h _)

theorem State.dropWindows_pip (s : State) (ch : Nat) (hit : TWin → Bool) :
    ((s.dropWindows ch hit).pip ch).cutAt = (s.pip ch).cutAt ∧ ((s.dropWindows ch hit).pip ch).strobes = (s.pip ch).strobes := by
  rcases s.dropWindows_seq ch hit with e | e
  · rw [State.pip_congr (congrArg Pattern.pips e) ch]
    exact ⟨rfl, rfl⟩
  · rw [State.pip_congr (congrArg Pattern.pips e) ch, State.pip_modPip_same]
    exact ⟨rfl, rfl⟩

theorem State.PipeFrom.dropStrobe (n : Nat) (s : State) (ch : Nat) (b : Strobe) : s.PipeFrom n (s.dropStrobe ch b) :=
  State.PipeFrom.mapVec s b.thr b.vec (fun _ => ⟨rfl, rfl, id⟩)

theorem State.PipeFrom.cutChannel (n : Nat) (s : State) (ch : Nat) (cut : Int) : s.PipeFrom n (s.cutChannel ch cut) :=
  ((State.PipeFrom.each (fun b t => State.PipeFrom.dropStrobe n t ch b) _ s).trans (State.PipeFrom.modPip n _ ch _)).trans
    (State.PipeFrom.of_thr (State.dropWindows_thr _ ch _))

theorem State.PipeFrom.retract (n : Nat) (s : State) (site ch : Nat) (v : Vec) : s.PipeFrom n (s.retract site ch v) := by
  delta State.retract
  extract_lets s₁ s₂ s₃ s₄ f
  have taken : s.PipeFrom n s₁ := State.PipeFrom.mapVec s site v.no (fun _ => ⟨rfl, rfl, id⟩)
  have counted : s.PipeFrom n s₂ := taken.trans (State.PipeFrom.of_thr rfl)
  have cleared : s₂.PipeFrom n s₃ := State.PipeFrom.mapVec s₂ site v.no (fun _ => ⟨rfl, rfl, id⟩)
  have failed : s.PipeFrom n s₄ := (counted.trans cleared).trans (State.PipeFrom.of_thr rfl)
  exact State.PipeFrom.ite taken (State.PipeFrom.ite counted (State.PipeFrom.ite (failed.trans (State.PipeFrom.of_thr rfl)) failed))

theorem State.PipeFrom.retractAll (n : Nat) (s : State) (site ch : Nat) (cut : Int) : s.PipeFrom n (s.retractAll site ch cut) := by
  refine State.PipeFrom.each (fun v t => ?_) _ s
  split
  · exact State.PipeFrom.retract n t site ch _
  · exact State.PipeFrom.refl n t

theorem State.PipeFrom.siteQuiet (n : Nat) (s : State) (site : Nat) (t cut : Int) : s.PipeFrom n (s.siteQuiet site t cut) :=
  (State.PipeFrom.each (fun ch u => ((State.PipeFrom.retractAll n u site ch cut).trans (State.PipeFrom.cutChannel n _ ch cut)).trans
    (State.PipeFrom.modPip n _ ch _)) _ s).trans (State.PipeFrom.of_thr rfl)

/-! ### What a cut leaves of a channel -/

theorem State.retract_pips (s : State) (site ch : Nat) (v : Vec) : (s.retract site ch v).seq.pips = s.seq.pips := by
  delta State.retract
  extract_lets s₁ s₂ s₃ s₄ f
  split
  · rfl
  · split
    · rfl
    · split <;> rfl

theorem State.retractAll_pips (s : State) (site ch : Nat) (cut : Int) : (s.retractAll site ch cut).seq.pips = s.seq.pips := by
  refine each_keeps (P := fun t : State => t.seq.pips = s.seq.pips) (fun v t h => ?_) _ rfl
  split
  · exact (State.retract_pips t site ch _).trans h
  · exact h

theorem State.dropStrobes_pips (s : State) (ch : Nat) (l : List Strobe) : (each l (fun b => State.dropStrobe ch b) s).seq.pips = s.seq.pips :=
  each_keeps (P := fun t : State => t.seq.pips = s.seq.pips) (fun b t h => show (t.dropStrobe ch b).seq.pips = _ from h) l rfl

theorem State.cutChannel_pip_other (s : State) {c ch : Nat} (cut : Int) (h : ch ≠ c) : (s.cutChannel c cut).pip ch = s.pip ch := by
  unfold State.cutChannel
  rw [State.dropWindows_pip_other _ _ h, State.pip_modPip_other _ h, State.pip_congr (State.dropStrobes_pips s c _)]

/-- A channel cut at `cut` has no strobe at or after it (R26). -/
theorem State.cutChannel_pip (s : State) (ch : Nat) (cut : Int) :
    ((s.cutChannel ch cut).pip ch).cutAt = some cut ∧ ∀ y ∈ ((s.cutChannel ch cut).pip ch).strobes, y.grid < cut := by
  unfold State.cutChannel
  obtain ⟨hcut, hstrobes⟩ := State.dropWindows_pip _ ch (fun w => decide (cut ≤ w.grid))
  rw [hcut, hstrobes, State.pip_modPip_same]
  refine ⟨rfl, fun y hy => ?_⟩
  obtain ⟨-, hy⟩ := List.mem_filter.1 hy
  simpa using hy

/-- A channel is to take its quiet state at `t` on the grid, and is cut at `cut` (R26, R103). -/
structure State.CutAt (ch : Nat) (t cut : Int) (s : State) : Prop where
  quietAt : (s.pip ch).quietAt = some t
  cutAt : (s.pip ch).cutAt = some cut
  strobes : ∀ y ∈ (s.pip ch).strobes, y.grid < cut

theorem State.CutAt.congr {ch : Nat} {t cut : Int} {s u : State} (h : s.CutAt ch t cut) (e : u.pip ch = s.pip ch) : u.CutAt ch t cut :=
  ⟨e ▸ h.quietAt, e ▸ h.cutAt, e ▸ h.strobes⟩

/-- A channel of a site whose burst ends: what its strobes after the cut showed is taken back, it is cut, and its quiet state is due. -/
def State.quietChannel (site : Nat) (t cut : Int) (ch : Nat) (s : State) : State :=
  ((s.retractAll site ch cut).cutChannel ch cut).modPip ch fun p => { p with quietAt := some t }

theorem State.CutAt.quietIn {ch : Nat} {cut : Int} {s : State} (hcut : (s.pip ch).cutAt = some cut)
    (hstrobes : ∀ y ∈ (s.pip ch).strobes, y.grid < cut) (t : Int) : (s.modPip ch fun p => { p with quietAt := some t }).CutAt ch t cut := by
  have e := s.pip_modPip_same ch (fun p => { p with quietAt := some t })
  exact ⟨by rw [e], by rw [e]; exact hcut, by rw [e]; exact hstrobes⟩

theorem State.quietChannel_cut (s : State) (site ch : Nat) (t cut : Int) : (s.quietChannel site t cut ch).CutAt ch t cut := by
  obtain ⟨hcut, hstrobes⟩ := State.cutChannel_pip (s.retractAll site ch cut) ch cut
  unfold State.quietChannel
  exact State.CutAt.quietIn hcut hstrobes t

theorem State.quietChannel_other (s : State) (site : Nat) {c ch : Nat} (t cut : Int) (h : ch ≠ c) :
    (s.quietChannel site t cut c).pip ch = s.pip ch := by
  unfold State.quietChannel
  rw [State.pip_modPip_other _ h, State.cutChannel_pip_other _ _ h, State.pip_congr (State.retractAll_pips s site c cut)]

/-- Every channel of a site that is to take its quiet state is cut. -/
theorem State.siteQuiet_cut (s : State) (site : Nat) (t cut : Int) {ch : Nat} (h : ch ∈ s.siteChannels site) :
    (s.siteQuiet site t cut).CutAt ch t cut := by
  have hall : (each (s.siteChannels site) (State.quietChannel site t cut) s).CutAt ch t cut := by
    refine each_reaches (P := fun u : State => u.CutAt ch t cut) (fun c u hu => ?_) (fun u => u.quietChannel_cut site ch t cut) h s
    by_cases e : ch = c
    · subst e
      exact u.quietChannel_cut site ch t cut
    · exact hu.congr (u.quietChannel_other site t cut e)
  exact hall.congr rfl

/-! ### The end of a thread -/

/-- A thread has ended in state `st`: its queue is empty, its engine parked, no abort stands, no pad is armed (R142). -/
structure Thread.Ended (st : Nat) (t : Thread) : Prop where
  st : t.st = st
  queue : t.queue = []
  parked : t.parked = true
  abortAt : t.abortAt = none
  pads : ∀ i < 8, (t.pads.get (fun _ => { }) i).armed = false

/-- Every pad of a thread disarmed. -/
theorem State.disarmAll_pads (s : State) (n : Nat) {i : Nat} (hi : i < 8) : ((s.disarmAll n).pad n i).armed = false := by
  have disarm (j : Nat) (t : State) : ((t.setPad n j { t.pad n j with armed := false }).pad n i).armed = false ∨
      i ≠ j ∧ (t.setPad n j { t.pad n j with armed := false }).pad n i = t.pad n i := by
    unfold State.setPad State.pad
    rw [State.thr_modThr_same]
    by_cases e : i = j
    · subst e
      exact Or.inl (congrArg Pad.armed (Tab.get_set_same _ _ _ _))
    · exact Or.inr ⟨e, Tab.get_set_other _ _ _ _ _ e⟩
  have keeps (j : Nat) (t : State) (h : (t.pad n i).armed = false) :
      ((t.setPad n j { t.pad n j with armed := false }).pad n i).armed = false := by
    rcases disarm j t with e | ⟨-, e⟩
    · exact e
    · rw [e, h]
  cases hp : (s.pad n i).armed with
  | false => exact each_keeps (P := fun t : State => (t.pad n i).armed = false) keeps _ hp
  | true =>
    refine each_reaches (P := fun t : State => (t.pad n i).armed = false) keeps (fun t => ?_)
      (List.mem_filter.2 ⟨List.mem_range.2 hi, hp⟩) s
    rcases disarm i t with e | ⟨e, -⟩
    · exact e
    · exact absurd rfl e

/-- What a thread that leaves its burst gives back (R142, R221). -/
def Thread.withoutBurst (t : Thread) : Thread := { t with windowBlocks := [], padBlocks := [], locks := [], stream := [], flight := [], pinned := [] }

theorem State.thr_congr {s t : State} (h : t.seq.thr = s.seq.thr) (n : Nat) : t.thr n = s.thr n := by
  unfold State.thr
  rw [h]

/-- Of the threads, a thread that leaves its burst alone changes, and no pip does. -/
theorem State.leaveBurst_seq (s : State) (n : Nat) :
    (s.leaveBurst n).thr n = (s.thr n).withoutBurst ∧ (s.leaveBurst n).seq.pips = s.seq.pips := by
  delta State.leaveBurst
  extract_lets t s₁ s₂ s₃ s₄
  have blocks : s₁.seq = s.seq :=
    (State.freeBlockList_kept (m := 0x700000000000000000000000000000a0) (by decide) (State.freeBlockList_kept (by decide) (Kept.refl s) 0 t.windowBlocks) 1 t.padBlocks).seq (by decide)
  have thread : s₃.thr n = (s.thr n).withoutBurst := by
    refine (State.thr_modThr_same s₂ n _).trans ?_
    rw [State.thr_congr ((show s₂.seq.thr = s₁.seq.thr from rfl).trans (congrArg Pattern.thr blocks)) n]
    rfl
  have pips : s₃.seq.pips = s.seq.pips := (show s₃.seq.pips = s₁.seq.pips from rfl).trans (congrArg Pattern.pips blocks)
  have group : s₄.seq.thr = s₃.seq.thr ∧ s₄.seq.pips = s₃.seq.pips := by
    unfold s₄
    split
    · exact ⟨rfl, rfl⟩
    · extract_lets s₅ all s₆
      have freed : s₆.seq = s₅.seq := (State.freeBlockList_kept (Covers.refl _) (Kept.refl s₅) 0 _).seq (by decide)
      split
      · have charges : (each all (fun m => State.setReg .VST_ADM_CHG m 0 0) s₆).seq = s₅.seq :=
          each_keeps (P := fun t : State => t.seq = s₅.seq) (fun m t h => show (t.setReg .VST_ADM_CHG m 0 0).seq = _ from h) all freed
        have hthr := congrArg Pattern.thr charges
        have hpips := congrArg Pattern.pips charges
        exact ⟨hthr, hpips⟩
      · exact ⟨rfl, rfl⟩
  obtain ⟨hthr, hpips⟩ := group
  have same : (s₄.thr n) = (s.thr n).withoutBurst := (State.thr_congr hthr n).trans thread
  split
  · exact ⟨same, hpips.trans pips⟩
  · exact ⟨same, hpips.trans pips⟩

theorem State.disarmAll_pipe (s : State) (n : Nat) :
    ((s.disarmAll n).thr n).pipe = (s.thr n).pipe ∧ (s.disarmAll n).seq.pips = s.seq.pips := by
  refine each_keeps (P := fun t : State => (t.thr n).pipe = (s.thr n).pipe ∧ t.seq.pips = s.seq.pips) (fun i t h => ?_) _ ⟨rfl, rfl⟩
  obtain ⟨hpipe, hpips⟩ := h
  exact ⟨(State.IssueSame.setPad t n i _).pipe.trans hpipe, hpips⟩

/-- A thread that ends is in its end state; its output pipe and the pips stay (R142). -/
theorem State.endThread_spec (s : State) (n st : Nat) :
    Thread.Ended st ((s.endThread n st).thr n) ∧ ((s.endThread n st).thr n).pipe = (s.thr n).pipe ∧
    (s.endThread n st).seq.pips = s.seq.pips := by
  unfold State.endThread
  obtain ⟨hpipe, hpips⟩ := s.disarmAll_pipe n
  obtain ⟨hthr, hburst⟩ := State.leaveBurst_seq ((s.disarmAll n).modThr n fun t => { t with
    st := st, queue := [], parked := true, refill := none, pendPad := none, began := none, marked := false
    blocked := false, abortAt := none, stopAt := none, stopNext := none, taken := none, atEnds := [], waitEnd := none
    haps := [], arrived := none, ib := [] }) n
  rw [State.thr_modThr_same] at hthr
  rw [hthr]
  exact ⟨⟨rfl, rfl, rfl, rfl, fun i hi => s.disarmAll_pads n hi⟩, hpipe, hburst.trans hpips⟩

/-! ### What follows the end of a thread -/

/-- Thread `n` and the pips are as they were. -/
structure State.SeqSame (n : Nat) (s t : State) : Prop where
  thr : t.thr n = s.thr n
  pips : t.seq.pips = s.seq.pips

theorem State.SeqSame.of_seq {n : Nat} {s t : State} (h : t.seq = s.seq) : s.SeqSame n t :=
  ⟨State.thr_congr (congrArg Pattern.thr h) n, congrArg Pattern.pips h⟩

theorem State.SeqSame.trans {n : Nat} {s t u : State} (h : s.SeqSame n t) (k : t.SeqSame n u) : s.SeqSame n u :=
  ⟨k.thr.trans h.thr, k.pips.trans h.pips⟩

theorem State.SeqSame.modThr {n m : Nat} (s : State) (h : n ≠ m) (f : Thread → Thread) : s.SeqSame n (s.modThr m f) :=
  ⟨s.thr_modThr_other h f, rfl⟩

theorem State.event_seq (s : State) (e : Nat) : (s.event e).seq = s.seq := rfl

theorem State.leaveStart_seq (s : State) (n how : Nat) : (s.leaveStart n how).seq = s.seq := rfl

theorem State.raiseAt_seq (s : State) (b : Nat) (f : FaultRec) : (s.raiseAt b f).seq = s.seq := rfl

theorem State.SeqSame.modGroup (s : State) (n g : Nat) (f : Group → Group) : s.SeqSame n (s.modGroup g f) := ⟨rfl, rfl⟩

theorem State.SeqSame.issueFault {n m : Nat} (s : State) (h : n ≠ m) (sub code detail : Nat) (vn : Option (Nat × Nat × Nat)) :
    s.SeqSame n (s.issueFault m sub code detail vn) := by
  unfold State.issueFault State.stopIssue
  exact (State.SeqSame.modThr s h _).trans (State.SeqSame.of_seq (State.raiseAt_seq _ _ _))

/-- A member that departs from its group's stream changes no other thread. -/
theorem State.SeqSame.splitOff {n m : Nat} (s : State) (g : Nat) (h : n ≠ m) : s.SeqSame n (s.splitOff g m) := by
  delta State.splitOff
  split
  · extract_lets s₁
    have used : s.SeqSame n s₁ := (State.SeqSame.modGroup s n g _).trans (State.SeqSame.of_seq (State.putBit_seq _ _ _ _))
    split
    · exact used
    · exact used.trans (State.SeqSame.modThr s₁ h _)
  · split
    · exact State.SeqSame.of_seq rfl
    · exact State.SeqSame.issueFault s h 1 0x0109 _ none

/-- A comparison of a group leaves a thread that does not issue. -/
theorem State.SeqSame.lockstep {n : Nat} (s : State) (hn : s.issuing n = false) (g : Nat) : s.SeqSame n (s.lockstep g) := by
  delta State.lockstep
  extract_lets gr on sigs keep
  split
  · exact ⟨rfl, rfl⟩
  · refine each_keeps_mem (P := fun t : State => s.SeqSame n t) _ (fun m hm t ht => ?_) s ⟨rfl, rfl⟩
    have hne : n ≠ m := by
      rintro rfl
      obtain ⟨-, hm⟩ := List.mem_filter.1 (List.mem_filter.1 hm).1
      simp [hn] at hm
    exact ht.trans (State.SeqSame.splitOff t g hne)

theorem State.SeqSame.compareGroup {n : Nat} (s : State) (hn : s.issuing n = false) : ∀ g, s.SeqSame n (s.compareGroup g)
  | none => ⟨rfl, rfl⟩
  | some g => State.SeqSame.lockstep s hn g

/-- The thread with its last vector noted as that of the burst that is over. -/
def Thread.noteOver (t : Thread) : Thread := { t with overNo := t.vecNo }

theorem State.aqSiteOver_seq (s : State) (n : Nat) : (s.aqSiteOver n).seq = (s.modThr n Thread.noteOver).seq := by
  have hk : Kept 0x20000000000000000000000000004000000000000000001020 (s.modThr n Thread.noteOver) (s.aqSiteOver n) :=
    each_kept (fun a t h => when_kept h _ _ (fun u hu => State.aqComplete_kept (by decide) hu a true)) _ (Kept.refl _)
  exact hk.seq (by decide)

theorem State.armedPads_ended {s : State} {n st : Nat} (h : Thread.Ended st (s.thr n)) : s.armedPads n = [] := by
  refine List.filter_eq_nil_iff.2 (fun i hi => ?_)
  rw [State.pad, h.pads i (List.mem_range.1 hi)]
  exact Bool.false_ne_true

end Sys2Proof.Machine
end


section
/-! PROOFS. SITE_ABORT, and the issue of vectors as a whole (R25, R26, R77, R91, R103, R131). -/

namespace Sys2Proof.Machine

/-- A footprint without the channels' configuration leaves the channels of a site. -/
theorem Kept.siteChannels {m : Nat} {s t : State} (h : Kept m s t) (hm : m.testBit (32 + Stem.TMG_CH_CFG.ctorIdx) = false) (n : Nat) :
    t.siteChannels n = s.siteChannels n := by
  unfold State.siteChannels
  congr 1
  funext ch
  unfold State.inSite
  rw [h.bitOf TMG_CH_CFG_ASSIGNED hm, h.fieldOf TMG_CH_CFG_SITE hm]

/-- Every vector left in a thread's output pipe was issued at least 12 beats before `b`. -/
def State.PipeOld (n b : Nat) (s : State) : Prop := ∀ v ∈ (s.thr n).pipe, v.issued + 12 ≤ b

theorem State.PipeOld.from {n b : Nat} {s t : State} (h : s.PipeOld n b) (k : s.PipeFrom n t) : t.PipeOld n b := by
  intro w hw
  obtain ⟨v, hv, -, hi, -⟩ := k w hw
  exact hi ▸ h v hv

/-- The rows of a thread issued less than 12 beats before `b` discarded (R25). -/
def Thread.withoutRows (b : Nat) (t : Thread) : Thread := { t with pipe := t.pipe.filter (fun v => decide (v.issued + 12 ≤ b)) }

theorem State.withoutRows_old (s : State) (n b : Nat) : (s.modThr n (Thread.withoutRows b)).PipeOld n b := by
  intro v hv
  rw [State.thr_modThr_same] at hv
  exact of_decide_eq_true (List.mem_filter.1 hv).2

/-- SEQ_THR_END shows the reason given (R142). -/
theorem State.fieldOf_threadEnd (s : State) (n reason : Nat) :
    (s.setReg .SEQ_THR_END n 0 (BitVec.ofNat 32 (fld 31 28 reason))).fieldOf SEQ_THR_END_REASON n = reason % 16 := by
  unfold State.fieldOf
  rw [show SEQ_THR_END_REASON = ⟨.SEQ_THR_END, 0, 31, 28⟩ from rfl]
  dsimp only
  rw [State.reg_setReg_same]
  simp only [bits, fld, BitVec.toNat_ofNat]
  omega

/-- Thread `n` is ABORTED with nothing to do, and what is left in its output pipe goes on to the balls (R25, R142). -/
structure State.Gone (n b : Nat) (s : State) : Prop where
  ended : Thread.Ended 6 (s.thr n)
  old : s.PipeOld n b

theorem State.Gone.same {n b : Nat} {s t : State} (h : s.Gone n b) (k : s.SeqSame n t) : t.Gone n b :=
  ⟨k.thr ▸ h.ended, h.old.from (State.PipeFrom.of_pipe (congrArg Thread.pipe k.thr))⟩

/-- An ended thread may be stamped. -/
theorem State.Gone.stamp {n b : Nat} {s : State} (h : s.Gone n b) {f : Thread → Thread}
    (hf : ∀ t, (f t).st = t.st ∧ (f t).queue = t.queue ∧ (f t).parked = t.parked ∧ (f t).abortAt = t.abortAt ∧ (f t).pads = t.pads ∧
      (f t).pipe = t.pipe) : (s.modThr n f).Gone n b := by
  obtain ⟨hst, hqueue, hparked, habort, hpads, hpipe⟩ := hf (s.thr n)
  have ht := s.thr_modThr_same n f
  refine ⟨?_, h.old.from (State.PipeFrom.of_pipe (by rw [ht, hpipe]))⟩
  rw [ht]
  exact ⟨hst.trans h.ended.st, hqueue.trans h.ended.queue, hparked.trans h.ended.parked, habort.trans h.ended.abortAt,
    fun i hi => by rw [hpads]; exact h.ended.pads i hi⟩

theorem State.Gone.not_issuing {n b : Nat} {s : State} (h : s.Gone n b) : s.issuing n = false := by
  unfold State.issuing
  rw [h.ended.st]
  rfl

/-! #### The steps of an abort -/

/-- The rows of a site that are still in the output pipe at beat `b`, and the markers they would set, are discarded (R25). -/
def State.discardSite (n b : Nat) (s : State) : State :=
  ((each (s.siteChannels n) (fun ch => State.discardRows ch b) s).modThr n (Thread.withoutRows b)).withSeq fun q => { q with
    mkActs := q.mkActs.filter (fun a => a.thr != n || a.action == 4 || decide (a.issued + 12 ≤ b))
    imActs := q.imActs.filter (fun a => a.2.1 != n || decide (a.2.2.1 + 12 ≤ b)) }

/-- The beat of a thread's abort is noted. -/
def State.noteAbort (n : Nat) (s : State) : State := s.modThr n fun t => { t with abortedAt := some s.beat.lbc }

/-- The thread of an aborted site ends (R142). -/
def State.closeThread (n reason : Nat) (s : State) : State :=
  ((s.endThread n 6).setReg .SEQ_THR_END n 0 (BitVec.ofNat 32 (fld 31 28 reason))).noteAbort n

/-- What an abort tells: the start that the site leaves, the event, the units of acquisition, and its group. -/
def State.tellAbort (n reason : Nat) (armed : Bool) (g : Option Nat) (s : State) : State :=
  (((when armed (State.leaveStart n (if reason = 6 then 1 else 3)) s).event (848 + 4 * n + 1)).aqSiteOver n).compareGroup g

theorem State.discardSite_kept (s : State) (n b : Nat) : Kept 0x27e000000000000000000002200 s (s.discardSite n b) :=
  State.withSeq_kept (by decide) (State.modThr_kept (by decide) (each_kept (fun ch t h => State.discardRows_kept (by decide) h ch b) _ (Kept.refl s)) n _) _

theorem State.discardSite_old (s : State) (n b : Nat) : (s.discardSite n b).PipeOld n b :=
  (State.withoutRows_old _ n b).from (State.PipeFrom.of_thr rfl)

theorem State.Gone.noteAbort {n b : Nat} {s : State} (h : s.Gone n b) : (s.noteAbort n).Gone n b :=
  h.stamp (fun _ => ⟨rfl, rfl, rfl, rfl, rfl, rfl⟩)

theorem State.noteAbort_pips (s : State) (n : Nat) : (s.noteAbort n).seq.pips = s.seq.pips := rfl

theorem State.noteAbort_fieldOf (s : State) (n : Nat) (f : Field) (i : Nat) : (s.noteAbort n).fieldOf f i = s.fieldOf f i := rfl

theorem State.closeThread_gone {n b : Nat} {s : State} (h : s.PipeOld n b) (reason : Nat) : (s.closeThread n reason).Gone n b := by
  obtain ⟨ended, pipe, -⟩ := s.endThread_spec n 6
  have gone : (s.endThread n 6).Gone n b := ⟨ended, h.from (State.PipeFrom.of_pipe pipe)⟩
  unfold State.closeThread
  exact (gone.same (State.SeqSame.of_seq (State.setReg_seq _ _ _ _ _))).noteAbort

theorem State.closeThread_pips (s : State) (n reason : Nat) : (s.closeThread n reason).seq.pips = s.seq.pips := by
  obtain ⟨-, -, pips⟩ := s.endThread_spec n 6
  rw [State.closeThread, State.noteAbort_pips, State.setReg_seq, pips]

theorem State.closeThread_reason (s : State) (n reason : Nat) : (s.closeThread n reason).fieldOf SEQ_THR_END_REASON n = reason % 16 := by
  rw [State.closeThread, State.noteAbort_fieldOf, State.fieldOf_threadEnd]

theorem State.tellAbort_kept (s : State) (n reason : Nat) (armed : Bool) (g : Option Nat) :
    Kept 0x20000000000000000000000000004000000004000000001260 s (s.tellAbort n reason armed g) :=
  State.compareGroup_kept (by decide) (State.aqSiteOver_kept (by decide) (State.event_kept (by decide)
    (when_kept (Kept.refl s) _ _ (fun t h => State.leaveStart_kept (by decide) h n _)) _) n) g

/-- What an abort tells leaves the thread as it ended, and the pips. -/
theorem State.tellAbort_gone {n b : Nat} {s : State} (h : s.Gone n b) (reason : Nat) (armed : Bool) (g : Option Nat) :
    (s.tellAbort n reason armed g).Gone n b ∧ (s.tellAbort n reason armed g).seq.pips = s.seq.pips := by
  have told : ((when armed (State.leaveStart n (if reason = 6 then 1 else 3)) s).event (848 + 4 * n + 1)).seq = s.seq :=
    (State.event_seq _ _).trans (when_keeps State.seq (State.leaveStart_seq _ _ _))
  have seqAfter := State.aqSiteOver_seq ((when armed (State.leaveStart n (if reason = 6 then 1 else 3)) s).event (848 + 4 * n + 1)) n
  have pipsAfter := congrArg Pattern.pips seqAfter
  have stamped := ((h.same (State.SeqSame.of_seq told)).stamp (f := Thread.noteOver) (fun _ => ⟨rfl, rfl, rfl, rfl, rfl, rfl⟩)).same
    (State.SeqSame.of_seq seqAfter)
  have compared := State.SeqSame.compareGroup _ stamped.not_issuing g
  exact ⟨stamped.same compared, compared.pips.trans (pipsAfter.trans (congrArg Pattern.pips told :))⟩

/-- The abort of a site whose thread was ARMED: its channels stay as they are. -/
theorem State.abortSite_armed {s : State} {n : Nat} (b reason : Nat) (h : (s.thr n).st = 1) :
    s.abortSite n b reason = ((s.discardSite n b).closeThread n reason).tellAbort n reason true (s.memberOf n) := by
  have harmed : ((s.thr n).st == 1) = true := by rw [h]; rfl
  unfold State.abortSite
  dsimp only
  rw [harmed]
  rfl

/-- The abort of a site whose burst had started: its channels are cut, to take their quiet state on the grid. -/
theorem State.abortSite_started {s : State} {n : Nat} (b reason : Nat) (h : (s.thr n).st ≠ 1) :
    s.abortSite n b reason = (((s.discardSite n b).siteQuiet n (gridAfter (s.thr n).next (s.thr n).lastPeriod ((b + 1) * beatFs) : Nat)
      ((b + 1) * beatFs : Nat)).closeThread n reason).tellAbort n reason false (s.memberOf n) := by
  unfold State.abortSite
  dsimp only
  rw [beq_false_of_ne h]
  rfl

/-- What the abort of a site leaves: its thread, its output pipe, the reason, and, if its burst had started, its channels (R25, R26, R103). -/
theorem State.abortSite_spec (s : State) (n b reason : Nat) :
    (s.abortSite n b reason).Gone n b ∧ (s.abortSite n b reason).fieldOf SEQ_THR_END_REASON n = reason % 16 ∧
    ((s.thr n).st ≠ 1 → ∀ ch ∈ s.siteChannels n, (s.abortSite n b reason).CutAt ch
      (gridAfter (s.thr n).next (s.thr n).lastPeriod ((b + 1) * beatFs) : Nat) (((b + 1) * beatFs : Nat) : Int)) := by
  have ends (u : State) (armed : Bool) (hu : u.PipeOld n b) :
      ((u.closeThread n reason).tellAbort n reason armed (s.memberOf n)).Gone n b ∧
      ((u.closeThread n reason).tellAbort n reason armed (s.memberOf n)).fieldOf SEQ_THR_END_REASON n = reason % 16 ∧
      ((u.closeThread n reason).tellAbort n reason armed (s.memberOf n)).seq.pips = u.seq.pips := by
    obtain ⟨gone, pips⟩ := State.tellAbort_gone (State.closeThread_gone hu reason) reason armed (s.memberOf n)
    have kept := State.tellAbort_kept (u.closeThread n reason) n reason armed (s.memberOf n)
    exact ⟨gone, (kept.fieldOf SEQ_THR_END_REASON (by decide) n).trans (u.closeThread_reason n reason), pips.trans (u.closeThread_pips n reason)⟩
  by_cases h : (s.thr n).st = 1
  · rw [State.abortSite_armed b reason h]
    obtain ⟨gone, hreason, -⟩ := ends _ true (s.discardSite_old n b)
    exact ⟨gone, hreason, fun hst => absurd h hst⟩
  · rw [State.abortSite_started b reason h]
    obtain ⟨gone, hreason, pips⟩ := ends _ false ((s.discardSite_old n b).from (State.PipeFrom.siteQuiet n _ n _ _))
    refine ⟨gone, hreason, fun _ ch hch => ?_⟩
    refine (State.siteQuiet_cut (s.discardSite n b) n _ _ ?_).congr (State.pip_congr pips ch)
    rw [(s.discardSite_kept n b).siteChannels (by decide)]
    exact hch

theorem exec_siteAbort {x : Fin 32} {s : State} {b r : Nat} (hr : s.running = true) (ha : (s.thr x.val).abortAt = some (b, r)) :
    exec (.siteAbort x) s = .next (if s.beat.lbc < b then s else s.abortSite x.val b r) := by
  refine congrArg Host.Outcome.next ((State.live_running hr _).trans ?_)
  rw [State.takeAbort, ha]

/-- Settles O54: the vector of a beat, the output pipe, an empty timing set, an abort, a quiet state and a marker pulse, one by one. -/
theorem vectorsIssueOnTheGrid : Obligations.VectorsIssueOnTheGrid := by
  intro x s hr
  refine ⟨?_, fun hi => exec_vectorIssue_idle hr hi, exec_outputPipeSchedule hr, ?_, ?_, ?_, ?_⟩
  · intro it p row hissuing hst habort htaken hends hstop hnext hblocked halone hhead hbegan hhalt hjoin hspan hpass hended hchecked hheld
      hsparse hcrc hdue period hlate
    have ready : s.Ready x.val it p row := ⟨hissuing, hst, hstop, hnext, hblocked, halone, hhead, hbegan, hhalt, hjoin, hspan, hpass, hended,
      hchecked, hheld, hsparse, hcrc, hdue⟩
    obtain ⟨v, hv⟩ := ready.issueNow htaken hends hlate
    exact ⟨_, v, exec_vectorIssue_issues hr hissuing habort, hv.pipe, hv.start, hv.period, hv.seg, hv.row, hv.vn, hv.issued, hv.next, hv.nextVn⟩
  · intro v hissuing hv
    exact ⟨_, exec_tsetEmptyDetect hr hissuing hv, congrArg Thread.pipe (State.thr_modThr_same s x.val (Thread.withoutVec v.no)), rfl⟩
  · intro b r ha
    refine ⟨fun hdue => ?_, fun hlt => by rw [exec_siteAbort hr ha, if_pos hlt]⟩
    obtain ⟨gone, hreason, hcut⟩ := s.abortSite_spec x.val b r
    refine ⟨_, by rw [exec_siteAbort hr ha, if_neg (Nat.not_lt.2 hdue)], gone.ended.st, gone.ended.queue, gone.ended.parked, gone.ended.abortAt,
      State.armedPads_ended gone.ended, hreason, gone.old, fun hst ch hch => ?_⟩
    obtain ⟨hquiet, hcutAt, hstrobes⟩ := hcut hst ch hch
    exact ⟨hquiet, hcutAt, hstrobes⟩
  · intro ch g hg
    refine ⟨fun hdue => ⟨_, by rw [exec_quietStateEntry hr hg, if_pos hdue], s.enterQuiet_spec ch.val g⟩, fun hlate => ?_⟩
    rw [exec_quietStateEntry hr hg, if_neg (Int.not_lt.2 hlate)]
  · intro k e he
    refine ⟨fun hdue => by rw [exec_mkPulseEnd hr he, if_pos hdue], fun hlate => ?_⟩
    rw [exec_mkPulseEnd hr he, if_neg (Nat.not_lt.2 hlate)]

end Sys2Proof.Machine
end


section
/-! PROOFS. The beat generator and the pod PLLs (R16 to R20, R482). -/

namespace Sys2Proof.Machine

/-! ### REF_WAIT, BEAT_LOCK and the entry to RUN (R16) -/

theorem windowPasses_iff (n : Nat) : windowPasses n = true ↔ 995 * 1000 ≤ n ∧ n ≤ 1005 * 1000 := by
  simp [windowPasses]

/-- A REFCLK window shows its result in REF_OK, and moves the generator where R16 and R18 say so. -/
theorem exec_refWindow {s : State} (n : Nat) (h : s.beat.phase ≠ .held) : exec (.refWindow n) s =
    let u := s.putBit NTU_BEAT_STAT_REF_OK 0 (windowPasses n)
    .next (match s.beat.phase, windowPasses n with
      | .refWait, true => u.withBeat fun b => { b with phase := .beatLock }
      | .beatLock, false => u.withBeat fun b => { b with phase := .refWait }
      | .run, true => u.withBeat fun b => { b with regained := true }
      | _, _ => u) := by
  refine (if_neg h : execRefWindow n s = _).trans ?_
  rw [State.putBit_beat]
  cases s.beat.phase <;> cases windowPasses n <;> rfl

theorem State.coreState_startCore (s : State) (k j : Nat) : (s.startCore k).coreState j = if j = k then 1 else s.coreState j := by
  have h : (s.startCore k).coreState j = (s.putField MGT_CORE_STAT_STATE k 1).coreState j :=
    (State.restartDog_kept (Covers.refl _) (Kept.refl _) k).fieldOf MGT_CORE_STAT_STATE (by decide) j
  rw [h, State.coreState, State.coreState]
  split
  · next e => rw [e]; exact State.fieldOf_putField_same s MGT_CORE_STAT_STATE k 1 rfl (by decide)
  · next e => exact State.fieldOf_putField_index s MGT_CORE_STAT_STATE MGT_CORE_STAT_STATE k j 1 rfl rfl (Ne.symm e)

theorem State.enterRun_beatLock (s : State) : s.enterRun.bitOf NTU_BEAT_STAT_BEAT_LOCK 0 = true :=
  State.bitOf_putBit s NTU_BEAT_STAT_BEAT_LOCK 0 true rfl

theorem State.enterRun_shutDown (s : State) : s.enterRun.shutDown = s.shutDown := rfl

/-- The lock in BEAT_LOCK enters RUN and starts both firmware cores, but not in a thermal shutdown (R16, R374, R431). -/
theorem exec_beatPllLock_enters {s : State} (h : s.beat.phase = .beatLock) :
    ∃ t, exec .beatPllLock s = .next t ∧ t.beat.phase = .run ∧ t.beat.lbc = 0 ∧ t.bitOf NTU_BEAT_STAT_BEAT_LOCK 0 = true ∧
      (s.shutDown = false → t.coreState 0 = 1 ∧ t.coreState 1 = 1) := by
  have hk := State.startCores_kept s.enterRun (!s.enterRun.shutDown)
  have hb := hk.beat (by decide) (by decide)
  refine ⟨_, execBeatPllLock_locks h, ?_, ?_, ?_, fun hs => ?_⟩
  · rw [hb]; rfl
  · rw [hb]; rfl
  · rw [hk.bitOf NTU_BEAT_STAT_BEAT_LOCK (by decide), State.enterRun_beatLock]
  · rw [State.enterRun_shutDown, hs]
    have two : ∀ u : State, when (!false) (each [0, 1] State.startCore) u = (u.startCore 0).startCore 1 := fun _ => rfl
    rw [two, State.coreState_startCore, State.coreState_startCore, State.coreState_startCore]
    exact ⟨rfl, rfl⟩

theorem exec_beatLockTimeout {s : State} (h : s.beat.phase = .beatLock) :
    exec .beatLockTimeout s = .next (s.withBeat fun b => { b with phase := .refWait }) := if_pos h

/-! ### Holdover (R18, R19) -/

theorem exec_refclkLoss {s : State} (hr : s.running = true) (hh : s.bitOf NTU_BEAT_STAT_HOLDOVER 0 = false) : exec .refclkLoss s =
    .next (((((s.putBit NTU_BEAT_STAT_HOLDOVER 0 true).putBit NTU_BEAT_STAT_REF_LOSS 0 true).putBit NTU_BEAT_STAT_BEAT_LOCK 0 false).withBeat
      fun b => { b with regained := false }).fault 11 3 0x0B01 0 0) := by
  refine congrArg Host.Outcome.next ((State.live_running hr _).trans ?_)
  rw [hh]
  rfl

theorem State.running_phase {s : State} (h : s.running = true) : s.beat.phase = .run := of_decide_eq_true h

theorem State.bitOf_withBeat (s : State) (f : Beat → Beat) (g : Field) (i : Nat) : (s.withBeat f).bitOf g i = s.bitOf g i := rfl

/-- The loss of REFCLK outside holdover (R18). -/
theorem exec_refclkLoss_holds {s : State} (hr : s.running = true) (hh : s.bitOf NTU_BEAT_STAT_HOLDOVER 0 = false) :
    ∃ t, exec .refclkLoss s = .next t ∧ t.bitOf NTU_BEAT_STAT_HOLDOVER 0 = true ∧ t.bitOf NTU_BEAT_STAT_REF_LOSS 0 = true ∧
      t.bitOf NTU_BEAT_STAT_BEAT_LOCK 0 = false ∧ t.hsk.lines = s.hsk.lines ++ [s.faultLine 11 3 0x0B01 0 0] ∧ t.beat.phase = .run ∧
      t.beat.regained = false := by
  refine ⟨_, exec_refclkLoss hr hh, ?_, ?_, ?_, rfl, State.running_phase hr, rfl⟩
  · rw [State.bitOf_fault, State.bitOf_withBeat, State.bitOf_putBit_apart _ _ _ _ _ _ rfl rfl, State.bitOf_putBit_apart _ _ _ _ _ _ rfl rfl]
    exact State.bitOf_putBit _ _ _ _ rfl
  · rw [State.bitOf_fault, State.bitOf_withBeat, State.bitOf_putBit_apart _ _ _ _ _ _ rfl rfl]
    exact State.bitOf_putBit _ _ _ _ rfl
  · rw [State.bitOf_fault, State.bitOf_withBeat]
    exact State.bitOf_putBit _ _ _ _ rfl

theorem exec_holdoverRelock {s : State} (hr : s.running = true) (hg : s.beat.regained = true) : exec .holdoverRelock s =
    .next ((s.putBit NTU_BEAT_STAT_HOLDOVER 0 false).putBit NTU_BEAT_STAT_BEAT_LOCK 0 true) :=
  congrArg Host.Outcome.next ((State.live_running hr _).trans (if_pos hg))

/-- The relock after a window has passed again ends holdover (R19). -/
theorem exec_holdoverRelock_holds {s : State} (hr : s.running = true) (hg : s.beat.regained = true) :
    ∃ t, exec .holdoverRelock s = .next t ∧ t.bitOf NTU_BEAT_STAT_HOLDOVER 0 = false ∧ t.bitOf NTU_BEAT_STAT_BEAT_LOCK 0 = true ∧
      t.beat = s.beat := by
  refine ⟨_, exec_holdoverRelock hr hg, ?_, State.bitOf_putBit _ _ _ _ rfl, ?_⟩
  · rw [State.bitOf_putBit_apart _ _ _ _ _ _ rfl rfl, State.bitOf_putBit _ _ _ _ rfl]
  · rw [State.putBit_beat, State.putBit_beat]

/-! ### The pods (R17, R482) -/

/-- A pod's lock set or cleared moves no other pod's. -/
theorem State.podLocked_setPodLock (s : State) (k j : Fin 16) (b : Bool) :
    (s.setPodLock k.val b).podLocked j.val = if j = k then b else s.podLocked j.val := by
  have bit : (BitVec.ofNat 32 (2 ^ (16 + k.val))).getLsbD (16 + j.val) = decide (j = k) := by
    rw [BitVec.getLsbD_ofNat, Nat.testBit_two_pow, decide_eq_true (show 16 + j.val < 32 by omega), Bool.true_and]
    exact decide_eq_decide.2 (by omega)
  have inside : decide (16 + j.val < 32) = true := decide_eq_true (by omega)
  unfold State.podLocked State.setPodLock
  rw [State.reg_setReg_same]
  cases b
  · rw [if_neg Bool.false_ne_true, BitVec.getLsbD_and, BitVec.getLsbD_not, bit, inside]
    by_cases h : j = k <;> simp [h]
  · rw [if_pos rfl, BitVec.getLsbD_or, bit]
    by_cases h : j = k <;> simp [h]

theorem exec_podPllLock {s : State} (hr : s.running = true) (k : Fin 16) : exec (.podPllLock k) s = .next (s.setPodLock k.val true) :=
  congrArg Host.Outcome.next (State.live_running hr _)

theorem exec_podPllUnlock {s : State} (hr : s.running = true) (k : Fin 16) (hk : s.podLocked k.val = true) : exec (.podPllUnlock k) s =
    .next (((s.setPodLock k.val false).podLost k.val).fault 0 2 0x0002 k.val (BitVec.ofNat 32 (listMask (s.podSites k.val)))) := by
  refine congrArg Host.Outcome.next ((State.live_running hr _).trans ?_)
  dsimp only
  rw [hk]
  rfl

/-- Faults presented in the beat of their detection go to the end of the error lines, in their order. -/
theorem lines_each_raiseNow {α : Type} (f : α → FaultRec) (l : List α) : ∀ s : State,
    (each l (fun k => State.raiseNow (f k)) s).hsk.lines = s.hsk.lines ++ l.map (fun k => (s.beat.lbc, f k)) ∧
      (each l (fun k => State.raiseNow (f k)) s).beat = s.beat := by
  induction l with
  | nil => exact fun s => ⟨(List.append_nil _).symm, rfl⟩
  | cons k l ih =>
    intro s
    obtain ⟨hl, hb⟩ := ih (s.raiseNow (f k))
    exact ⟨hl.trans (List.append_assoc _ _ _), hb⟩

theorem exec_podLockTimeout {s : State} (hr : s.running = true) (hj : s.beat.podsJudged = false) (hb : 800000 ≤ s.beat.lbc) :
    exec .podLockTimeout s = .next (each ((List.range 16).filter (fun k => !(s.podLocked k)))
      (fun k => State.raiseNow ⟨0, 2, 0x0001, k, 0, false, none⟩) (s.withBeat fun b => { b with podsJudged := true })) := by
  refine congrArg Host.Outcome.next ((State.live_running hr _).trans (if_neg ?_))
  simp [hj]
  omega

end Sys2Proof.Machine
end


section
/-! PROOFS. What waits for a beat boundary besides commits stays as it is, and no commit comes to be pending, in all that a boundary does
but applying commits (R22, R23, R445). One lemma per function of the model that changes Husk or the host interface. -/

namespace Sys2Proof.Machine

/-- No commit is pending. -/
def State.NoCommit (s : State) : Prop := ∀ x ∈ s.hst.txns, x.pending = none

/-- The injection that waits for the boundary is as it was, and no commit has come to be pending. -/
structure Steady (r t : State) : Prop where
  inject : t.hsk.inject = r.hsk.inject
  noCommit : r.NoCommit → t.NoCommit

/-- The footprint of all but Husk and the host interface. -/
def besidesHusk : Nat := allBut .hsk &&& allBut .hst

theorem Steady.refl (s : State) : Steady s s := ⟨rfl, id⟩

theorem Steady.trans {r s t : State} (h : Steady r s) (k : Steady s t) : Steady r t := ⟨k.inject.trans h.inject, k.noCommit ∘ h.noCommit⟩

theorem Steady.of_kept {r s t : State} (k : Kept besidesHusk s t) (h : Steady r s) : Steady r t := by
  have hhsk : t.hsk = s.hsk := k.same .hsk (by decide)
  have hhst : t.hst = s.hst := k.same .hst (by decide)
  refine ⟨by rw [hhsk]; exact h.inject, fun hr => ?_⟩
  unfold State.NoCommit
  rw [hhst]
  exact h.noCommit hr

theorem Steady.each {α : Type} {r : State} {f : α → State → State} (hf : ∀ x t, Steady r t → Steady r (f x t)) (l : List α) {s : State}
    (h : Steady r s) : Steady r (each l f s) := each_keeps (P := Steady r) hf l h

theorem Steady.foldl {α : Type} {r : State} {f : State → α → State} (hf : ∀ t x, Steady r t → Steady r (f t x)) (l : List α) {s : State}
    (h : Steady r s) : Steady r (l.foldl f s) := each_keeps (f := fun x t => f t x) (P := Steady r) (fun x t => hf t x) l h

theorem Steady.ite {r a b : State} {c : Prop} [Decidable c] (ha : c → Steady r a) (hb : ¬c → Steady r b) : Steady r (if c then a else b) := by
  split
  · exact ha ‹_›
  · exact hb ‹_›

theorem Steady.when {r s : State} (h : Steady r s) (c) (f) (hf : ∀ t, Steady r t → Steady r (f t)) : Steady r (when c f s) := by
  unfold Machine.when
  exact Steady.ite (fun _ => hf s h) (fun _ => h)

theorem State.withHsk_steady {r s : State} (h : Steady r s) {f : Hsk → Hsk} (hf : ∀ k, (f k).inject = k.inject) : Steady r (s.withHsk f) :=
  ⟨(hf s.hsk).trans h.inject, h.noCommit⟩

theorem State.withHst_steady {r s : State} (h : Steady r s) {f : Hst → Hst} (hf : ∀ k, (f k).txns = k.txns) : Steady r (s.withHst f) := by
  refine ⟨h.inject, fun hr x hx => h.noCommit hr x ?_⟩
  rw [← hf s.hst]
  exact hx

/-- Every state that a partial step answers is steady. -/
def SteadyOpt (r : State) (o : Option State) : Prop := ∀ t, o = some t → Steady r t

theorem steadyOpt_some {r t : State} (h : Steady r t) : SteadyOpt r (some t) := fun _ e => by injection e with e; exact e ▸ h

theorem steadyOpt_none {r : State} : SteadyOpt r none := fun _ e => nomatch e

theorem State.raiseAt_steady {r s : State} (h : Steady r s) (b) (f) : Steady r (State.raiseAt b f s) := by
  unfold State.raiseAt
  repeat' (with_reducible first | assumption | apply State.withHsk_steady | intro _ | exact rfl)

theorem State.raise_steady {r s : State} (h : Steady r s) (f) : Steady r (State.raise f s) := by
  unfold State.raise
  repeat' (with_reducible first | assumption | apply State.raiseAt_steady)

theorem State.raiseNow_steady {r s : State} (h : Steady r s) (f) : Steady r (State.raiseNow f s) := by
  unfold State.raiseNow
  repeat' (with_reducible first | assumption | apply State.raiseAt_steady)

theorem State.fault_steady {r s : State} (h : Steady r s) (sub) (cls) (code) (detail) (mask) : Steady r (State.fault sub cls code detail mask s) := by
  unfold State.fault
  repeat' (with_reducible first | assumption | apply State.raise_steady)

theorem State.event_steady {r s : State} (h : Steady r s) (e') : Steady r (State.event e' s) := by
  unfold State.event
  repeat' (with_reducible first | assumption | apply Steady.of_kept (State.setReg_kept (hm := by decide) (h := Kept.refl _) ..)
                                | apply State.withHsk_steady | intro _ | exact rfl)

theorem State.signal_steady {r s : State} (h : Steady r s) (v) : Steady r (State.signal v s) := by
  unfold State.signal
  repeat' (with_reducible first | assumption | apply State.withHst_steady | intro _ | exact rfl)

theorem State.freeBlock_steady {r s : State} (h : Steady r s) (p) (b) : Steady r (State.freeBlock p b s) := by
  unfold State.freeBlock
  repeat' (with_reducible first | assumption | apply Steady.of_kept (State.setReg_kept (hm := by decide) (h := Kept.refl _) ..)
                                | apply Steady.of_kept (State.withCst_kept (hm := by decide) (h := Kept.refl _) ..)
                                | apply State.fault_steady
                                | apply Steady.of_kept (State.putBit_kept (hm := by decide) (h := Kept.refl _) ..) | apply Steady.ite
                                | intro _)

theorem State.freeBlockList_steady {r s : State} (h : Steady r s) (p) (l) : Steady r (State.freeBlockList p l s) := by
  unfold State.freeBlockList
  repeat' (with_reducible first | assumption | apply Steady.each | apply State.freeBlock_steady | intro _)

theorem State.setBox_steady {r s : State} (h : Steady r s) (m') (b) : Steady r (State.setBox m' b s) := by
  unfold State.setBox
  repeat' (with_reducible first | assumption | apply State.withHst_steady | intro _ | exact rfl)

theorem State.writeEntry_steady {r s : State} (h : Steady r s) (c) : Steady r (State.writeEntry c s) := by
  unfold State.writeEntry
  repeat' (with_reducible first | assumption | apply Steady.of_kept (State.setMem_kept (hm := by decide) (h := Kept.refl _) ..)
                                | apply Steady.when | apply State.signal_steady | apply State.setBox_steady | intro _)

theorem State.setV1_steady {r s : State} (h : Steady r s) (i) (v) : Steady r (State.setV1 i v s) := by
  unfold State.setV1
  repeat' (with_reducible first | assumption | apply State.withHst_steady | intro _ | exact rfl)

theorem State.v1Report_steady {r s : State} (h : Steady r s) (c) : Steady r (State.v1Report c s) := by
  unfold State.v1Report
  repeat' (with_reducible first | assumption | apply State.setV1_steady | apply Steady.each | apply State.signal_steady | intro _)

theorem State.post_steady {r s : State} (h : Steady r s) (c) : Steady r (State.post c s) := by
  unfold State.post
  repeat' (with_reducible first | assumption | apply State.v1Report_steady | apply State.event_steady | apply State.withHst_steady
                                | apply State.writeEntry_steady | apply Steady.ite | intro _ | exact rfl)

theorem State.complete_steady {r s : State} (h : Steady r s) (iss) (status) (res) : Steady r (State.complete iss status res s) := by
  unfold State.complete
  repeat' (with_reducible first | assumption | apply State.post_steady)

theorem State.modDeferred_steady {r s : State} (h : Steady r s) (hit) (f) : Steady r (State.modDeferred hit f s) := by
  unfold State.modDeferred
  repeat' (with_reducible first | assumption | apply State.withHst_steady | intro _ | exact rfl)

theorem State.reportDrops_steady {r s : State} (h : Steady r s) : Steady r (State.reportDrops s) := by
  unfold State.reportDrops
  repeat' (with_reducible first | assumption | apply State.fault_steady
                                | apply Steady.of_kept (State.withSeq_kept (hm := by decide) (h := Kept.refl _) ..) | split)

theorem State.dropFrame_steady {r s : State} (h : Steady r s) (p) : Steady r (State.dropFrame p s) := by
  unfold State.dropFrame
  repeat' (with_reducible first | assumption | apply Steady.of_kept (State.countUp_kept (hm := by decide) (h := Kept.refl _) ..)
                                | apply Steady.of_kept (State.modPort_kept (hm := by decide) (h := Kept.refl _) ..)
                                | apply State.fault_steady | apply State.event_steady | apply Steady.ite | intro _)

theorem State.floodFrom_steady {r s : State} (h : Steady r s) (origin) (no) (f) : Steady r (State.floodFrom origin no f s) := by
  unfold State.floodFrom
  repeat' (with_reducible first | assumption | apply Steady.each
                                | apply Steady.of_kept (State.queueFrame_kept (hm := by decide) (h := Kept.refl _) ..)
                                | apply State.dropFrame_steady | intro _ | split)

theorem State.flood_steady {r s : State} (h : Steady r s) (type) (aux) (payload) : Steady r (State.flood type aux payload s) := by
  unfold State.flood
  repeat' (with_reducible first | assumption | apply State.floodFrom_steady | split)

theorem State.armPad_steady {r s : State} (h : Steady r s) (n) (i) (target) (pc) (timeout) (w) : Steady r (State.armPad n i target pc timeout w s) := by
  unfold State.armPad
  repeat' (with_reducible first | assumption | apply Steady.of_kept (State.modThr_kept (hm := by decide) (h := Kept.refl _) ..)
                                | apply State.raiseNow_steady
                                | apply Steady.of_kept (State.setPad_kept (hm := by decide) (h := Kept.refl _) ..)
                                | apply Steady.of_kept (State.fillPad_kept (hm := by decide) (h := Kept.refl _) ..) | dsimp only | split)

theorem State.aqIgnore_steady {r s : State} (h : Steady r s) (a) : Steady r (State.aqIgnore a s) := by
  unfold State.aqIgnore
  repeat' (with_reducible first | assumption | apply Steady.of_kept (State.modAq_kept (hm := by decide) (h := Kept.refl _) ..)
                                | apply Steady.of_kept (State.countUp_kept (hm := by decide) (h := Kept.refl _) ..) | apply Steady.when
                                | apply State.event_steady | intro _)

theorem State.aqComplete_steady {r s : State} (h : Steady r s) (a) (short) : Steady r (State.aqComplete a short s) := by
  unfold State.aqComplete
  repeat' (with_reducible first | assumption | apply Steady.of_kept (State.modAq_kept (hm := by decide) (h := Kept.refl _) ..)
                                | apply Steady.of_kept (State.putField_kept (hm := by decide) (h := Kept.refl _) ..)
                                | apply Steady.of_kept (State.aqState_kept (hm := by decide) (h := Kept.refl _) ..)
                                | apply State.event_steady
                                | apply Steady.of_kept (State.aqFill_kept (hm := by decide) (h := Kept.refl _) ..) | dsimp only | split)

theorem State.aqFreeze_steady {r s : State} (h : Steady r s) (a) (k') (bin) : Steady r (State.aqFreeze a k' bin s) := by
  unfold State.aqFreeze
  repeat' (with_reducible first | assumption | apply Steady.of_kept (State.modAq_kept (hm := by decide) (h := Kept.refl _) ..)
                                | apply Steady.of_kept (State.aqState_kept (hm := by decide) (h := Kept.refl _) ..)
                                | apply Steady.of_kept (State.setReg_kept (hm := by decide) (h := Kept.refl _) ..)
                                | apply State.event_steady
                                | apply Steady.of_kept (State.happenAll_kept (hm := by decide) (h := Kept.refl _) ..))

theorem State.testHeld_steady {r s : State} (h : Steady r s) (a) (trig) : Steady r (State.testHeld a trig s) := by
  unfold State.testHeld
  repeat' (with_reducible first | assumption | apply State.aqFreeze_steady | dsimp only | split)

theorem State.aqPublish_steady {r s : State} (h : Steady r s) (a) : Steady r (State.aqPublish a s) := by
  unfold State.aqPublish
  repeat' (with_reducible first | assumption | apply Steady.of_kept (State.happenAll_kept (hm := by decide) (h := Kept.refl _) ..)
                                | apply State.flood_steady
                                | apply Steady.of_kept (State.withCap_kept (hm := by decide) (h := Kept.refl _) ..) | split)

theorem State.aqAccept_steady {r s : State} (h : Steady r s) (a) (k') (frac) (interp) (forced) : Steady r (State.aqAccept a k' frac interp forced s) := by
  unfold State.aqAccept
  repeat' (with_reducible first | assumption | apply Steady.of_kept (State.modAq_kept (hm := by decide) (h := Kept.refl _) ..)
                                | apply Steady.of_kept (State.aqState_kept (hm := by decide) (h := Kept.refl _) ..)
                                | apply State.event_steady | apply State.testHeld_steady | apply State.aqComplete_steady | dsimp only
                                | split)

theorem State.aqResolve_steady {r : State} (t k : Nat) : ∀ (a : Nat) {s : State}, Steady r s → Steady r (State.aqResolve a t k s) := by
  induction k with
  | zero => intro _ s h; exact h
  | succ k ih =>
    intro a s h
    unfold State.aqResolve
    repeat' (with_reducible first | assumption | apply ih | apply Steady.of_kept (State.modAq_kept (hm := by decide) (h := Kept.refl _) ..)
                                  | apply State.aqIgnore_steady | apply State.aqPublish_steady | apply State.aqAccept_steady
                                  | apply Steady.each | intro _ | split)

theorem State.aqTrigger_steady {r s : State} (h : Steady r s) (a) (t) : Steady r (State.aqTrigger a t s) := by
  unfold State.aqTrigger
  repeat' (with_reducible first | assumption | apply State.aqResolve_steady
                                | apply Steady.of_kept (State.modAq_kept (hm := by decide) (h := Kept.refl _) ..)
                                | apply State.aqIgnore_steady | apply Steady.ite | intro _)

theorem State.triggerAll_steady {r s : State} (h : Steady r s) (src) (arg) (t) : Steady r (State.triggerAll src arg t s) := by
  unfold State.triggerAll
  repeat' (with_reducible first | assumption | apply Steady.each | apply State.aqTrigger_steady | intro _)

theorem State.aqSiteOver_steady {r s : State} (h : Steady r s) (site) : Steady r (State.aqSiteOver site s) := by
  unfold State.aqSiteOver
  repeat' (with_reducible first | assumption | apply Steady.each | apply Steady.when | apply State.aqComplete_steady
                                | apply Steady.of_kept (State.modThr_kept (hm := by decide) (h := Kept.refl _) ..) | intro _)

theorem State.leaveBurst_steady {r s : State} (h : Steady r s) (n) : Steady r (State.leaveBurst n s) := by
  unfold State.leaveBurst
  repeat' (with_reducible first | assumption | apply State.freeBlockList_steady
                                | apply Steady.of_kept (State.withSeq_kept (hm := by decide) (h := Kept.refl _) ..)
                                | apply Steady.of_kept (State.modThr_kept (hm := by decide) (h := Kept.refl _) ..)
                                | apply Steady.of_kept (State.setReg_kept (hm := by decide) (h := Kept.refl _) ..)
                                | apply Steady.of_kept (State.modGroup_kept (hm := by decide) (h := Kept.refl _) ..) | apply Steady.each
                                | apply Steady.of_kept (State.unpinAll_kept (hm := by decide) (h := Kept.refl _) ..) | dsimp only | intro _
                                | split)

theorem State.endThread_steady {r s : State} (h : Steady r s) (n) (st) : Steady r (State.endThread n st s) := by
  unfold State.endThread
  repeat' (with_reducible first | assumption | apply Steady.of_kept (State.disarmAll_kept (hm := by decide) (h := Kept.refl _) ..)
                                | apply Steady.of_kept (State.modThr_kept (hm := by decide) (h := Kept.refl _) ..)
                                | apply State.leaveBurst_steady)

theorem State.halt_steady {r s : State} (h : Steady r s) (n) (reason) (code) : Steady r (State.halt n reason code s) := by
  unfold State.halt
  repeat' (with_reducible first | assumption | apply Steady.of_kept (State.siteQuiet_kept (hm := by decide) (h := Kept.refl _) ..)
                                | apply State.endThread_steady
                                | apply Steady.of_kept (State.setReg_kept (hm := by decide) (h := Kept.refl _) ..)
                                | apply State.aqSiteOver_steady | apply State.event_steady)

theorem State.placeLanding_steady {r s : State} (h : Steady r s) (n) (i) : Steady r (State.placeLanding n i s) := by
  unfold State.placeLanding
  repeat' (with_reducible first | assumption | apply Steady.of_kept (State.setPad_kept (hm := by decide) (h := Kept.refl _) ..)
                                | apply Steady.of_kept (State.modThr_kept (hm := by decide) (h := Kept.refl _) ..)
                                | apply State.armPad_steady | dsimp only | split)

theorem State.jumpAtEnd_steady {r s : State} (h : Steady r s) (n) (i) (imm) : Steady r (State.jumpAtEnd n i imm s) := by
  unfold State.jumpAtEnd
  repeat' (with_reducible first | assumption | apply Steady.when
                                | apply Steady.of_kept (State.clearSlot_kept (hm := by decide) (h := Kept.refl _) ..)
                                | apply Steady.of_kept (State.disarmAll_kept (hm := by decide) (h := Kept.refl _) ..)
                                | apply Steady.of_kept (State.restore_kept (hm := by decide) (h := Kept.refl _) ..)
                                | apply State.placeLanding_steady
                                | apply Steady.of_kept (State.modThr_kept (hm := by decide) (h := Kept.refl _) ..)
                                | apply Steady.of_kept (State.countBranch_kept (hm := by decide) (h := Kept.refl _) ..)
                                | apply Steady.of_kept (State.land_kept (hm := by decide) (h := Kept.refl _) ..) | intro _)

theorem State.stopIssue_steady {r s : State} (h : Steady r s) (n) (f) : Steady r (State.stopIssue n f s) := by
  unfold State.stopIssue
  repeat' (with_reducible first | assumption | apply Steady.of_kept (State.modThr_kept (hm := by decide) (h := Kept.refl _) ..)
                                | apply State.raiseAt_steady)

theorem State.issueFault_steady {r s : State} (h : Steady r s) (n) (sub) (code) (detail) (vn) : Steady r (State.issueFault n sub code detail vn s) := by
  unfold State.issueFault
  repeat' (with_reducible first | assumption | apply State.stopIssue_steady)

theorem State.endPass_steady {r s : State} (h : Steady r s) (n) (it) (p) : Steady r (State.endPass n it p s) := by
  unfold State.endPass
  repeat' (with_reducible first | assumption | apply State.halt_steady | apply State.jumpAtEnd_steady
                                | apply Steady.of_kept (State.itemOver_kept (hm := by decide) (h := Kept.refl _) ..)
                                | apply Steady.of_kept (State.dropPass_kept (hm := by decide) (h := Kept.refl _) ..)
                                | apply Steady.of_kept (State.planPass_kept (hm := by decide) (h := Kept.refl _) ..) | dsimp only | split)

theorem State.cross_steady {r s : State} (h : Steady r s) (n) (join) : SteadyOpt r (State.cross n join s) := by
  unfold State.cross
  repeat' (with_reducible first | assumption | apply Steady.of_kept (State.recordShadow_kept (hm := by decide) (h := Kept.refl _) ..)
                                | apply State.halt_steady | apply State.issueFault_steady
                                | apply Steady.of_kept (State.itemOver_kept (hm := by decide) (h := Kept.refl _) ..)
                                | apply Steady.of_kept (State.beginItem_kept (hm := by decide) (h := Kept.refl _) ..)
                                | apply Steady.of_kept (State.modThr_kept (hm := by decide) (h := Kept.refl _) ..)
                                | apply Steady.of_kept (State.spanForget_kept (hm := by decide) (h := Kept.refl _) ..)
                                | apply State.event_steady | apply State.jumpAtEnd_steady
                                | apply Steady.of_kept (State.arriveSpan_kept (hm := by decide) (h := Kept.refl _) ..)
                                | apply Steady.of_kept (State.planPass_kept (hm := by decide) (h := Kept.refl _) ..)
                                | apply State.endPass_steady | apply steadyOpt_some | exact steadyOpt_none | dsimp only | split)

theorem State.splitOff_steady {r s : State} (h : Steady r s) (g) (m') : Steady r (State.splitOff g m' s) := by
  unfold State.splitOff
  repeat' (with_reducible first | assumption | apply Steady.of_kept (State.modGroup_kept (hm := by decide) (h := Kept.refl _) ..)
                                | apply Steady.of_kept (State.putBit_kept (hm := by decide) (h := Kept.refl _) ..)
                                | apply Steady.of_kept (State.modThr_kept (hm := by decide) (h := Kept.refl _) ..)
                                | apply State.issueFault_steady | dsimp only | split)

theorem State.lockstep_steady {r s : State} (h : Steady r s) (g) : Steady r (State.lockstep g s) := by
  unfold State.lockstep
  repeat' (with_reducible first | assumption | apply Steady.each | apply State.splitOff_steady | dsimp only | intro _ | split)

theorem State.compareGroup_steady {r s : State} (h : Steady r s) (g) : Steady r (State.compareGroup g s) := by
  unfold State.compareGroup
  repeat' (with_reducible first | assumption | apply State.lockstep_steady | split)

theorem State.crossAll_steady {r : State} (n k : Nat) : ∀ {s : State}, Steady r s → Steady r (State.crossAll n k s) := by
  induction k with
  | zero => intro s h; exact h
  | succ k ih =>
    intro s h
    have hc := State.cross_steady (Steady.of_kept (State.noteSkip_kept (by decide) (Kept.refl s) n) h) n (fun s it => some (s.joinMet n it))
    unfold State.crossAll
    split
    · exact h
    · split
      · next t e => exact ih (hc t e)
      · exact h

theorem State.crossThreads_steady {r s : State} (h : Steady r s) : Steady r (State.crossThreads s) := by
  unfold State.crossThreads
  repeat' (with_reducible first | assumption | apply Steady.each
                                | apply Steady.of_kept (State.effects_kept (hm := by decide) (h := Kept.refl _) ..)
                                | apply State.crossAll_steady | intro _ | split)

theorem State.leaveStart_steady {r s : State} (h : Steady r s) (n) (how) : Steady r (State.leaveStart n how s) := by
  unfold State.leaveStart
  repeat' (with_reducible first | assumption | apply State.modDeferred_steady)

theorem State.abortSite_steady {r s : State} (h : Steady r s) (n) (b1) (reason) : Steady r (State.abortSite n b1 reason s) := by
  unfold State.abortSite
  repeat' (with_reducible first | assumption | apply Steady.each
                                | apply Steady.of_kept (State.discardRows_kept (hm := by decide) (h := Kept.refl _) ..)
                                | apply Steady.of_kept (State.modThr_kept (hm := by decide) (h := Kept.refl _) ..)
                                | apply Steady.of_kept (State.withSeq_kept (hm := by decide) (h := Kept.refl _) ..)
                                | apply Steady.of_kept (State.siteQuiet_kept (hm := by decide) (h := Kept.refl _) ..)
                                | apply State.endThread_steady
                                | apply Steady.of_kept (State.setReg_kept (hm := by decide) (h := Kept.refl _) ..) | apply Steady.when
                                | apply State.leaveStart_steady | apply State.event_steady | apply State.aqSiteOver_steady
                                | apply State.compareGroup_steady | intro _ | split)

theorem State.takeAbort_steady {r s : State} (h : Steady r s) (n) : Steady r (State.takeAbort n s) := by
  unfold State.takeAbort
  repeat' (with_reducible first | assumption | apply State.abortSite_steady | split)

theorem State.takeAborts_steady {r s : State} (h : Steady r s) (l) : Steady r (State.takeAborts l s) := by
  unfold State.takeAborts
  repeat' (with_reducible first | assumption | apply Steady.each | apply State.takeAbort_steady | intro _)

theorem State.spanFlush_steady {r s : State} (h : Steady r s) : Steady r (State.spanFlush s) := by
  unfold State.spanFlush
  repeat' (with_reducible first | assumption | apply Steady.each | apply State.flood_steady
                                | apply Steady.of_kept (State.withSeq_kept (hm := by decide) (h := Kept.refl _) ..) | apply Steady.ite
                                | intro _)

/-- A change of a transaction that makes no commit pending. -/
theorem State.modTxn_steady {r s : State} (h : Steady r s) (m) {f : Txn → Txn} (hf : ∀ x, x.pending = none → (f x).pending = none) :
    Steady r (s.modTxn m f) := by
  refine ⟨h.inject, fun hr x hx => ?_⟩
  obtain ⟨y, hy, rfl⟩ := List.mem_map.1 hx
  have hp := h.noCommit hr y hy
  split
  · exact hf y hp
  · exact hp

theorem State.tdcPush_steady {r s : State} (h : Steady r s) (n) (x) : Steady r (State.tdcPush n x s) := by
  unfold State.tdcPush
  repeat' (with_reducible first | assumption | apply Steady.of_kept (State.countUp_kept (hm := by decide) (h := Kept.refl _) ..)
                                | apply Steady.when | apply State.event_steady
                                | apply Steady.of_kept (State.modTdc_kept (hm := by decide) (h := Kept.refl _) ..) | dsimp only | intro _
                                | split)

theorem State.closeGate_steady {r s : State} (h : Steady r s) (n) (win) : Steady r (State.closeGate n win s) := by
  unfold State.closeGate
  repeat' (with_reducible first | assumption | apply Steady.of_kept (State.modTdc_kept (hm := by decide) (h := Kept.refl _) ..)
                                | apply Steady.of_kept (State.tdcMiss_kept (hm := by decide) (h := Kept.refl _) ..)
                                | apply State.tdcPush_steady | dsimp only | split)

theorem State.closeWindow_steady {r s : State} (h : Steady r s) (c) (w) : Steady r (State.closeWindow c w s) := by
  unfold State.closeWindow
  repeat' (with_reducible first | assumption | apply Steady.of_kept (State.modPip_kept (hm := by decide) (h := Kept.refl _) ..)
                                | apply Steady.of_kept (State.modTdc_kept (hm := by decide) (h := Kept.refl _) ..)
                                | apply Steady.of_kept (State.tdcMiss_kept (hm := by decide) (h := Kept.refl _) ..)
                                | apply State.closeGate_steady | apply Steady.when | apply Steady.each | dsimp only | intro _ | split)

theorem State.closeWindows_steady {r s : State} (h : Steady r s) : Steady r (State.closeWindows s) := by
  unfold State.closeWindows
  repeat' (with_reducible first | assumption | apply Steady.each | apply State.closeWindow_steady | intro _)

theorem State.adcBegin_steady {r s : State} (h : Steady r s) (a) (m') : Steady r (State.adcBegin a m' s) := by
  unfold State.adcBegin
  repeat' (with_reducible first | assumption | apply Steady.of_kept (State.modAdc_kept (hm := by decide) (h := Kept.refl _) ..)
                                | apply Steady.of_kept (State.setAdc_kept (hm := by decide) (h := Kept.refl _) ..)
                                | apply Steady.of_kept (State.putField_kept (hm := by decide) (h := Kept.refl _) ..)
                                | apply State.event_steady)

theorem State.adcPassed_steady {r s : State} (h : Steady r s) (a) : Steady r (State.adcPassed a s) := by
  unfold State.adcPassed
  repeat' (with_reducible first | assumption | apply Steady.of_kept (State.setReg64_kept (hm := by decide) (h := Kept.refl _) ..)
                                | apply Steady.when | apply State.event_steady | intro _)

theorem State.adcPassEnd_steady {r s : State} (h : Steady r s) (a) (t) : Steady r (State.adcPassEnd a t s) := by
  unfold State.adcPassEnd
  repeat' (with_reducible first | assumption | apply State.adcPassed_steady
                                | apply Steady.of_kept (State.adcIdle_kept (hm := by decide) (h := Kept.refl _) ..)
                                | apply Steady.of_kept (State.modAdc_kept (hm := by decide) (h := Kept.refl _) ..)
                                | apply Steady.of_kept (State.putBit_kept (hm := by decide) (h := Kept.refl _) ..)
                                | apply State.adcBegin_steady
                                | apply Steady.of_kept (State.setAdc_kept (hm := by decide) (h := Kept.refl _) ..) | dsimp only | split)

theorem State.supFault_steady {r s : State} (h : Steady r s) (c) (trips) : Steady r (State.supFault c trips s) := by
  unfold State.supFault
  repeat' (with_reducible first | assumption | apply State.withHsk_steady | apply State.fault_steady | dsimp only | split | intro _)

theorem State.supTrip_steady {r s : State} (h : Steady r s) (c) (m') : Steady r (State.supTrip c m' s) := by
  unfold State.supTrip
  repeat' (with_reducible first | assumption | apply Steady.of_kept (State.setReg_kept (hm := by decide) (h := Kept.refl _) ..)
                                | apply Steady.of_kept (State.modSup_kept (hm := by decide) (h := Kept.refl _) ..)
                                | apply State.event_steady
                                | apply Steady.of_kept (State.happenAll_kept (hm := by decide) (h := Kept.refl _) ..) | apply Steady.when
                                | apply State.supFault_steady
                                | apply Steady.of_kept (State.supLow_kept (hm := by decide) (h := Kept.refl _) ..) | dsimp only | intro _
                                | split)

theorem State.supLatchAgain_steady {r s : State} (h : Steady r s) : Steady r (State.supLatchAgain s) := by
  unfold State.supLatchAgain
  repeat' (with_reducible first | assumption | apply Steady.each | apply State.supTrip_steady
                                | apply Steady.of_kept (State.modSup_kept (hm := by decide) (h := Kept.refl _) ..) | intro _)

theorem State.uncorrectable_steady {r s : State} (h : Steady r s) (m') (r') (inj) : Steady r (State.uncorrectable m' r' inj s) := by
  unfold State.uncorrectable
  repeat' (with_reducible first | assumption | apply State.raise_steady | apply Steady.when
                                | apply Steady.of_kept (State.voidLogs_kept (hm := by decide) (h := Kept.refl _) ..)
                                | apply Steady.of_kept (State.spoil_kept (hm := by decide) (h := Kept.refl _) ..)
                                | apply Steady.of_kept (State.answerMem_kept (hm := by decide) (h := Kept.refl _) ..)
                                | apply Steady.of_kept (State.loseGranule_kept (hm := by decide) (h := Kept.refl _) ..) | intro _ | split)

theorem State.perform6_steady {r s : State} (h : Steady r s) (p) (r') : Steady r (State.perform6 p r' s) := by
  unfold State.perform6
  repeat' (with_reducible first | assumption | apply Steady.when
                                | apply Steady.of_kept (State.loseGranule_kept (hm := by decide) (h := Kept.refl _) ..)
                                | apply Steady.of_kept (State.answerMem_kept (hm := by decide) (h := Kept.refl _) ..)
                                | apply Steady.of_kept (State.useInjection_kept (hm := by decide) (h := Kept.refl _) ..) | apply Steady.each
                                | apply Steady.of_kept (State.activate_kept (hm := by decide) (h := Kept.refl _) ..)
                                | apply Steady.of_kept (State.edcRepeats_kept (hm := by decide) (h := Kept.refl _) ..)
                                | apply Steady.of_kept (State.modCtl_kept (hm := by decide) (h := Kept.refl _) ..)
                                | apply State.uncorrectable_steady | dsimp only | intro _ | split)

theorem State.serve6_steady {r s : State} (h : Steady r s) (m') (ch) : Steady r (State.serve6 m' ch s) := by
  unfold State.serve6
  repeat' (with_reducible first | assumption | apply Steady.of_kept (State.modCtl_kept (hm := by decide) (h := Kept.refl _) ..)
                                | apply Steady.of_kept (State.payOwed_kept (hm := by decide) (h := Kept.refl _) ..)
                                | apply State.perform6_steady
                                | apply Steady.of_kept (State.accept6_kept (hm := by decide) (h := Kept.refl _) ..) | dsimp only | split)

theorem State.serveAll_steady {r s : State} (h : Steady r s) : Steady r (State.serveAll s) := by
  unfold State.serveAll
  repeat' (with_reducible first | assumption | apply Steady.each | apply State.serve6_steady | intro _)

theorem State.startThreads_steady {r s : State} (h : Steady r s) (index) (d) : Steady r (State.startThreads index d s) := by
  unfold State.startThreads
  repeat' (with_reducible first | assumption | apply State.takeAborts_steady | apply Steady.each
                                | apply Steady.of_kept (State.modThr_kept (hm := by decide) (h := Kept.refl _) ..)
                                | apply Steady.of_kept (State.clearCapture_kept (hm := by decide) (h := Kept.refl _) ..)
                                | apply State.withHst_steady | dsimp only | split | intro _)

theorem State.startAll_steady {r s : State} (h : Steady r s) : Steady r (State.startAll s) := by
  unfold State.startAll
  repeat' (with_reducible first | assumption | apply Steady.each | apply State.startThreads_steady | intro _ | split)

theorem State.sendAlarms_steady {r s : State} (h : Steady r s) : Steady r (State.sendAlarms s) := by
  unfold State.sendAlarms
  repeat' (with_reducible first | assumption | apply Steady.each | apply State.flood_steady
                                | apply Steady.of_kept (State.withNtu_kept (hm := by decide) (h := Kept.refl _) ..) | intro _)

theorem State.exchange_steady {r s : State} (h : Steady r s) : Steady r (State.exchange s) := by
  unfold State.exchange
  repeat' (with_reducible first | assumption | apply State.withHsk_steady | apply Steady.each | apply State.signal_steady
                                | apply Steady.of_kept (State.postEvent_kept (hm := by decide) (h := Kept.refl _) ..) | dsimp only | split
                                | intro _)

theorem State.postEngine_steady {r s : State} (h : Steady r s) (e') (c) : Steady r (State.postEngine e' c s) := by
  unfold State.postEngine
  repeat' (with_reducible first | assumption | apply State.exchange_steady
                                | apply Steady.of_kept (State.modEngine_kept (hm := by decide) (h := Kept.refl _) ..) | apply Steady.when
                                | apply Steady.of_kept (State.refused_kept (hm := by decide) (h := Kept.refl _) ..)
                                | apply Steady.of_kept (State.enqueue_kept (hm := by decide) (h := Kept.refl _) ..) | dsimp only | intro _
                                | split)

theorem State.checkCompletions_steady {r s : State} (h : Steady r s) : Steady r (State.checkCompletions s) := by
  unfold State.checkCompletions
  repeat' (with_reducible first | assumption | apply Steady.when | apply State.fault_steady | intro _)

theorem State.endDesc_steady {r s : State} (h : Steady r s) (e') (q) (status) (d) : Steady r (State.endDesc e' q status d s) := by
  unfold State.endDesc
  repeat' (with_reducible first | assumption | apply Steady.of_kept (State.writeDesc_kept (hm := by decide) (h := Kept.refl _) ..)
                                | apply Steady.of_kept (State.modDq_kept (hm := by decide) (h := Kept.refl _) ..)
                                | apply Steady.of_kept (State.modEngine_kept (hm := by decide) (h := Kept.refl _) ..)
                                | apply State.postEngine_steady | apply State.event_steady | split)

theorem State.cancelQueue_steady {r s : State} (h : Steady r s) (e') (q) : Steady r (State.cancelQueue e' q s) := by
  unfold State.cancelQueue
  repeat' (with_reducible first | assumption | apply Steady.each | apply State.endDesc_steady
                                | apply Steady.of_kept (State.modBlocked_kept (hm := by decide) (h := Kept.refl _) ..) | dsimp only
                                | intro _ | split)

theorem State.appletEnd_steady {r s : State} (h : Steady r s) (k') : Steady r (State.appletEnd k' s) := by
  unfold State.appletEnd
  repeat' (with_reducible first | assumption | apply Steady.each
                                | apply Steady.of_kept (State.freeThread_kept (hm := by decide) (h := Kept.refl _) ..)
                                | apply State.cancelQueue_steady | intro _)

theorem State.appletReset_steady {r s : State} (h : Steady r s) (k') : Steady r (State.appletReset k' s) := by
  unfold State.appletReset
  repeat' (with_reducible first | assumption | apply State.appletEnd_steady
                                | apply Steady.of_kept (State.putField_kept (hm := by decide) (h := Kept.refl _) ..)
                                | apply Steady.of_kept (State.withMgt_kept (hm := by decide) (h := Kept.refl _) ..)
                                | apply Steady.of_kept (State.invalidate_kept (hm := by decide) (h := Kept.refl _) ..))

theorem State.setPlim_steady {r s : State} (h : Steady r s) : Steady r (State.setPlim s) := by
  unfold State.setPlim
  repeat' (with_reducible first | assumption | apply Steady.of_kept (State.putField_kept (hm := by decide) (h := Kept.refl _) ..)
                                | apply State.event_steady | apply Steady.ite | intro _)

theorem State.throttle_steady {r s : State} (h : Steady r s) : Steady r (State.throttle s) := by
  unfold State.throttle
  repeat' (with_reducible first | assumption | apply Steady.of_kept (State.withThm_kept (hm := by decide) (h := Kept.refl _) ..)
                                | apply Steady.of_kept (State.unblock_kept (hm := by decide) (h := Kept.refl _) ..)
                                | apply Steady.of_kept (State.putField_kept (hm := by decide) (h := Kept.refl _) ..)
                                | apply State.setPlim_steady
                                | apply Steady.of_kept (State.putBit_kept (hm := by decide) (h := Kept.refl _) ..) | dsimp only | split)

theorem State.runOver_steady {r s : State} (h : Steady r s) (status) (res) : Steady r (State.runOver status res s) := by
  unfold State.runOver
  repeat' (with_reducible first | assumption | apply Steady.of_kept (State.withCal_kept (hm := by decide) (h := Kept.refl _) ..)
                                | apply Steady.of_kept (State.putField_kept (hm := by decide) (h := Kept.refl _) ..)
                                | apply State.modDeferred_steady)

theorem State.abortAdcRuns_steady {r s : State} (h : Steady r s) : Steady r (State.abortAdcRuns s) := by
  unfold State.abortAdcRuns
  repeat' (with_reducible first | assumption | apply Steady.each
                                | apply Steady.of_kept (State.adcBack_kept (hm := by decide) (h := Kept.refl _) ..)
                                | apply State.withHst_steady | intro _ | exact rfl)

theorem State.abortRun_steady {r s : State} (h : Steady r s) : Steady r (State.abortRun s) := by
  unfold State.abortRun
  repeat' (with_reducible first | assumption | apply State.abortAdcRuns_steady | apply State.runOver_steady | apply Steady.each
                                | apply Steady.of_kept (State.applyMeasured_kept (hm := by decide) (h := Kept.refl _) ..)
                                | apply Steady.of_kept (State.adcBack_kept (hm := by decide) (h := Kept.refl _) ..) | dsimp only | intro _
                                | split)

theorem State.enqueueRecord_steady {r s : State} (h : Steady r s) (x) : Steady r (State.enqueueRecord x s) := by
  unfold State.enqueueRecord
  repeat' (with_reducible first | assumption | apply State.withHsk_steady
                                | apply Steady.of_kept (State.setReg64_kept (hm := by decide) (h := Kept.refl _) ..)
                                | apply State.event_steady
                                | apply Steady.of_kept (State.countUp_kept (hm := by decide) (h := Kept.refl _) ..) | dsimp only | split
                                | intro _)

theorem State.roll_steady {r s : State} (h : Steady r s) (m') : Steady r (State.roll m' s) := by
  unfold State.roll
  exact Steady.ite (fun _ => State.setBox_steady h _ _) (fun _ => h)

theorem State.rollBack_steady {r s : State} (h : Steady r s) (m') : Steady r (State.rollBack m' s) := by
  have dropped : Steady r (s.withHst fun k => { k with txns := k.txns.filter (fun y => y.mb != m') }) :=
    ⟨h.inject, fun hr x hx => h.noCommit hr x (List.mem_filter.1 hx).1⟩
  have cleared : Steady r ((s.modTxn m' fun x => { x with rolled := true, entries := [], pending := none }).roll m') :=
    State.roll_steady (State.modTxn_steady h m' (fun _ _ => rfl)) m'
  have emptied : Steady r ((s.modTxn m' fun x => { x with rolled := true, entries := [] }).roll m') :=
    State.roll_steady (State.modTxn_steady h m' (f := fun x => { x with rolled := true, entries := [] }) (fun _ hp => hp)) m'
  unfold State.rollBack
  split
  · exact h
  · split
    · exact h
    · split
      · split
        · exact Steady.ite (fun _ => dropped) (fun _ => State.complete_steady dropped _ _ _)
        · exact State.complete_steady cleared _ _ _
      · exact Steady.ite (fun _ => State.post_steady emptied _) (fun _ => emptied)

theorem State.rollBackAll_steady {r s : State} (h : Steady r s) (hit) : Steady r (State.rollBackAll hit s) := by
  unfold State.rollBackAll
  repeat' (with_reducible first | assumption | apply Steady.each | apply State.rollBack_steady | intro _)

theorem State.notice_steady {r s : State} (h : Steady r s) (x) : Steady r (State.notice x s) := by
  unfold State.notice
  repeat' (with_reducible first | assumption | apply State.flood_steady | split)

theorem State.containC2_steady {r s : State} (h : Steady r s) (l) : Steady r (State.containC2 l s) := by
  unfold State.containC2
  repeat' (with_reducible first | assumption | apply State.rollBackAll_steady
                                | apply Steady.of_kept (State.abortSites_kept (hm := by decide) (h := Kept.refl _) ..))

theorem State.containC3_steady {r s : State} (h : Steady r s) (l) : Steady r (State.containC3 l s) := by
  unfold State.containC3
  repeat' (with_reducible first | assumption | apply State.rollBackAll_steady
                                | apply Steady.of_kept (State.supRampAll_kept (hm := by decide) (h := Kept.refl _) ..)
                                | apply Steady.of_kept (State.abortSites_kept (hm := by decide) (h := Kept.refl _) ..)
                                | apply State.abortRun_steady | apply Steady.when
                                | apply Steady.of_kept (State.withCal_kept (hm := by decide) (h := Kept.refl _) ..) | apply Steady.each
                                | apply State.notice_steady | intro _)

theorem State.enterFaultStop_steady {r s : State} (h : Steady r s) : Steady r (State.enterFaultStop s) := by
  unfold State.enterFaultStop
  repeat' (with_reducible first | assumption | apply Steady.of_kept (State.supOffAll_kept (hm := by decide) (h := Kept.refl _) ..)
                                | apply Steady.of_kept (State.putField_kept (hm := by decide) (h := Kept.refl _) ..) | apply Steady.each
                                | apply Steady.of_kept (State.adcStopNow_kept (hm := by decide) (h := Kept.refl _) ..)
                                | apply State.appletReset_steady | intro _)

theorem State.contain_steady {r s : State} (h : Steady r s) (l) : Steady r (State.contain l s) := by
  unfold State.contain
  repeat' (with_reducible first | assumption | apply State.enterFaultStop_steady | apply State.containC3_steady
                                | apply State.containC2_steady | split)

theorem State.latchFaults_steady {r s : State} (h : Steady r s) : Steady r (State.latchFaults s) := by
  unfold State.latchFaults
  repeat' (with_reducible first | assumption | apply Steady.each | apply State.enqueueRecord_steady | apply State.withHsk_steady
                                | apply State.contain_steady | split | intro _ | exact rfl)

theorem State.exchangeOnce_steady {r s : State} (h : Steady r s) : Steady r (State.exchangeOnce s) := by
  unfold State.exchangeOnce
  repeat' (with_reducible first | assumption | apply State.exchange_steady | split)

theorem State.endWinMove_steady {r s : State} (h : Steady r s) : Steady r (State.endWinMove s) := by
  unfold State.endWinMove
  repeat' (with_reducible first | assumption | apply State.withHst_steady | apply State.complete_steady | split | intro _ | exact rfl)

theorem State.upToCommits_steady {r s : State} (h : Steady r s) : Steady r (State.upToCommits s) := by
  unfold State.upToCommits
  repeat' (with_reducible first | assumption | apply State.latchFaults_steady | apply State.takeAborts_steady
                                | apply Steady.of_kept (State.enterQuiets_kept (hm := by decide) (h := Kept.refl _) ..)
                                | apply State.startAll_steady | apply State.crossThreads_steady)

theorem State.exchangeMarks_steady {r s : State} (h : Steady r s) (b) : Steady r (State.exchangeMarks b s) := by
  unfold State.exchangeMarks
  repeat' (with_reducible first | assumption | apply Steady.each
                                | apply Steady.of_kept (State.adcTrigger_kept (hm := by decide) (h := Kept.refl _) ..)
                                | apply State.triggerAll_steady
                                | apply Steady.of_kept (State.happenAll_kept (hm := by decide) (h := Kept.refl _) ..) | intro _)

theorem State.checkLedger_steady {r s : State} (h : Steady r s) : Steady r (State.checkLedger s) := by
  unfold State.checkLedger
  repeat' (with_reducible first | assumption | apply Steady.when | apply State.fault_steady | intro _)

end Sys2Proof.Machine
end


section
/-! PROOFS. The commits of a boundary leave ToD (R355). One lemma per function of the model that changes the time unit's state. -/

namespace Sys2Proof.Machine

/-- ToD is as it was. -/
def SameTod (r t : State) : Prop := t.tod = r.tod

theorem SameTod.of_kept {r s t : State} (k : Kept (allBut .ntu) s t) (h : SameTod r s) : SameTod r t := by
  have hntu : t.ntu = s.ntu := k.same .ntu (by decide)
  unfold SameTod State.tod
  rw [hntu]
  exact h

theorem SameTod.each {α : Type} {r : State} {f : α → State → State} (hf : ∀ x t, SameTod r t → SameTod r (f x t)) (l : List α) {s : State}
    (h : SameTod r s) : SameTod r (each l f s) := each_keeps (P := SameTod r) hf l h

theorem SameTod.ite {r a b : State} {c : Prop} [Decidable c] (ha : c → SameTod r a) (hb : ¬c → SameTod r b) :
    SameTod r (if c then a else b) := by
  split
  · exact ha ‹_›
  · exact hb ‹_›

theorem SameTod.when {r s : State} (h : SameTod r s) (c) (f) (hf : ∀ t, SameTod r t → SameTod r (f t)) : SameTod r (when c f s) := by
  unfold Machine.when
  exact SameTod.ite (fun _ => hf s h) (fun _ => h)

theorem State.withNtu_sameTod {r s : State} (h : SameTod r s) {f : Ntu → Ntu}
    (hf : ∀ n, (f n).sec = n.sec ∧ (f n).ns = n.ns ∧ (f n).frac = n.frac) : SameTod r (s.withNtu f) := by
  obtain ⟨hsec, hns, hfrac⟩ := hf s.ntu
  unfold SameTod State.tod at h ⊢
  show ((f s.ntu).sec * 1000000000 + (f s.ntu).ns) * 2 ^ 32 + (f s.ntu).frac = _
  rw [hsec, hns, hfrac, h]

theorem State.takeInc_sameTod {r s : State} (h : SameTod r s) : SameTod r (State.takeInc s) := by
  unfold State.takeInc
  repeat' (with_reducible first | assumption | apply SameTod.of_kept (State.setReg64_kept (hm := by decide) (h := Kept.refl _) ..)
                                | apply State.withNtu_sameTod | split | intro _ | exact ⟨rfl, rfl, rfl⟩)

theorem State.writeInc_sameTod {r s : State} (h : SameTod r s) (who) (v) : SameTod r (State.writeInc who v s) := by
  unfold State.writeInc
  repeat' (with_reducible first | assumption | apply State.withNtu_sameTod
                                | apply SameTod.of_kept (State.fault_kept (hm := by decide) (h := Kept.refl _) ..) | split | intro _
                                | exact ⟨rfl, rfl, rfl⟩)

theorem State.writeIncWord_sameTod {r s : State} (h : SameTod r s) (who) (high) (v) : SameTod r (State.writeIncWord who high v s) := by
  unfold State.writeIncWord
  repeat' (with_reducible first | assumption | apply State.writeInc_sameTod
                                | apply SameTod.of_kept (State.holdLo_kept (hm := by decide) (h := Kept.refl _) ..) | split)

theorem State.modDelay_sameTod {r s : State} (h : SameTod r s) (p) (f) : SameTod r (State.modDelay p f s) := by
  unfold State.modDelay
  repeat' (with_reducible first | assumption | apply State.withNtu_sameTod | intro _ | exact ⟨rfl, rfl, rfl⟩)

theorem State.leaveActive_sameTod {r s : State} (h : SameTod r s) (p) : SameTod r (State.leaveActive p s) := by
  unfold State.leaveActive
  repeat' (with_reducible first | assumption | apply SameTod.of_kept (State.event_kept (hm := by decide) (h := Kept.refl _) ..)
                                | apply SameTod.of_kept (State.returnTimed_kept (hm := by decide) (h := Kept.refl _) ..)
                                | apply State.modDelay_sameTod
                                | apply SameTod.of_kept (State.discardQueued_kept (hm := by decide) (h := Kept.refl _) ..)
                                | apply SameTod.of_kept (State.upLost_kept (hm := by decide) (h := Kept.refl _) ..) | dsimp only | split)

theorem State.disablePort_sameTod {r s : State} (h : SameTod r s) (p) : SameTod r (State.disablePort p s) := by
  unfold State.disablePort
  repeat' (with_reducible first | assumption | apply SameTod.of_kept (State.discardRetry_kept (hm := by decide) (h := Kept.refl _) ..)
                                | apply State.leaveActive_sameTod
                                | apply SameTod.of_kept (State.dropQueue_kept (hm := by decide) (h := Kept.refl _) ..)
                                | apply SameTod.of_kept (State.setPort_kept (hm := by decide) (h := Kept.refl _) ..)
                                | apply SameTod.of_kept (State.noLanes_kept (hm := by decide) (h := Kept.refl _) ..)
                                | apply SameTod.of_kept (State.freeBlockList_kept (hm := by decide) (h := Kept.refl _) ..)
                                | apply SameTod.of_kept (State.modPort_kept (hm := by decide) (h := Kept.refl _) ..))

theorem State.writeReg_sameTod {r s : State} (h : SameTod r s) (who) (r') (v) (m') : SameTod r (State.writeReg who r' v m' s) := by
  unfold State.writeReg
  repeat' (with_reducible first | assumption | apply SameTod.of_kept (State.putWord_kept (hm := by decide) (h := Kept.refl _) ..)
                                | apply SameTod.of_kept (State.acknowledge_kept (hm := by decide) (h := Kept.refl _) ..)
                                | apply SameTod.of_kept (State.writeInject_kept (hm := by decide) (h := Kept.refl _) ..)
                                | apply State.writeIncWord_sameTod
                                | apply SameTod.of_kept (State.holdLo_kept (hm := by decide) (h := Kept.refl _) ..)
                                | apply SameTod.of_kept (State.setReg64_kept (hm := by decide) (h := Kept.refl _) ..)
                                | apply SameTod.of_kept (State.unblock_kept (hm := by decide) (h := Kept.refl _) ..)
                                | apply SameTod.of_kept (State.supRelease_kept (hm := by decide) (h := Kept.refl _) ..)
                                | apply SameTod.of_kept (State.releaseFrames_kept (hm := by decide) (h := Kept.refl _) ..) | dsimp only
                                | split)

theorem State.restartServo_sameTod {r s : State} (h : SameTod r s) : SameTod r (State.restartServo s) := by
  unfold State.restartServo
  repeat' (with_reducible first | assumption | apply SameTod.of_kept (State.putBit_kept (hm := by decide) (h := Kept.refl _) ..)
                                | apply State.withNtu_sameTod | intro _ | exact ⟨rfl, rfl, rfl⟩)

theorem State.followEnable_sameTod {r s : State} (h : SameTod r s) (p) : SameTod r (State.followEnable p s) := by
  unfold State.followEnable
  repeat' (with_reducible first | assumption | apply SameTod.of_kept (State.endTest_kept (hm := by decide) (h := Kept.refl _) ..)
                                | apply SameTod.of_kept (State.putField_kept (hm := by decide) (h := Kept.refl _) ..)
                                | apply SameTod.of_kept (State.setPort_kept (hm := by decide) (h := Kept.refl _) ..)
                                | apply State.disablePort_sameTod | split)

theorem State.settleWrite_sameTod {r s : State} (h : SameTod r s) (old) (x) : SameTod r (State.settleWrite old x s) := by
  have leave {t u : State} (k : Kept (allBut .ntu) t u) (ht : SameTod r t) : SameTod r u := ht.of_kept k
  unfold State.settleWrite
  dsimp only
  split
  · exact h.when _ _ (fun t ht => leave (State.quietNow_kept (by decide) (Kept.refl t) _) ht)
  · exact (h.when _ _ (fun t ht => leave (State.unresolve_kept (by decide) (Kept.refl t) _ _) ht)).when _ _
      (fun t ht => leave (State.unresolve_kept (by decide) (Kept.refl t) _ _) ht)
  · exact leave (State.detectorMoved_kept (by decide) (Kept.refl s) _ _) h
  · exact leave (State.detectorInverted_kept (by decide) (Kept.refl s) _ _) h
  · exact leave (State.pinLog_kept (by decide) (Kept.refl s) _) h
  · exact leave (State.pinLog_kept (by decide) (Kept.refl s) _) h
  · exact leave (State.modCtl_kept (by decide) (Kept.refl s) _ _) h
  · exact leave (State.setPlim_kept (by decide) (Kept.refl s)) h
  · exact h.when _ _ (fun t ht => State.restartServo_sameTod ht)
  · exact State.followEnable_sameTod h _
  · exact h

theorem State.writeAll_sameTod {r s : State} (h : SameTod r s) (l) : SameTod r (State.writeAll l s) := by
  unfold State.writeAll
  repeat' (with_reducible first | assumption | apply SameTod.each | apply State.writeReg_sameTod | intro _)

theorem State.settleAll_sameTod {r s : State} (h : SameTod r s) (old) (l) : SameTod r (State.settleAll old l s) := by
  unfold State.settleAll
  repeat' (with_reducible first | assumption | apply State.settleWrite_sameTod
                                | apply SameTod.of_kept (State.applyLoad_kept (hm := by decide) (h := Kept.refl _) ..) | apply SameTod.each
                                | apply State.takeInc_sameTod | intro _)

theorem State.applyCommit_sameTod {r s : State} (h : SameTod r s) (m') (x) (c) : SameTod r (State.applyCommit m' x c s) := by
  unfold State.applyCommit
  repeat' (with_reducible first | assumption | apply State.writeAll_sameTod
                                | apply SameTod.of_kept (State.closeTxn_kept (hm := by decide) (h := Kept.refl _) ..)
                                | apply SameTod.of_kept (State.modTxn_kept (hm := by decide) (h := Kept.refl _) ..)
                                | apply SameTod.of_kept (State.endCommit_kept (hm := by decide) (h := Kept.refl _) ..)
                                | apply State.settleAll_sameTod | apply SameTod.when
                                | apply SameTod.of_kept (State.putField_kept (hm := by decide) (h := Kept.refl _) ..) | dsimp only | split
                                | intro _)

end Sys2Proof.Machine
end


section
/-! PROOFS. The beat boundary in RUN: ToD, what waited for the boundary, and the order of R23 (R20, R22, R23, R355 to R357, R445). -/

namespace Sys2Proof.Machine

/-! ### ToD -/

theorem State.tod_congr {s t : State} (h : t.ntu = s.ntu) : t.tod = s.tod := by
  unfold State.tod
  rw [h]

/-- ToD set to a value within its 48-bit seconds is that value. -/
theorem State.tod_setTod (s : State) {v : Nat} (hv : v < 2 ^ 48 * (1000000000 * 2 ^ 32)) : (s.setTod v).tod = v := by
  show (v / 2 ^ 32 / 1000000000 % 2 ^ 48 * 1000000000 + v / 2 ^ 32 % 1000000000) * 2 ^ 32 + v % 2 ^ 32 = v
  have hsec : v / 2 ^ 32 / 1000000000 % 2 ^ 48 = v / 2 ^ 32 / 1000000000 := by
    apply Nat.mod_eq_of_lt
    rw [Nat.div_div_eq_div_mul, Nat.div_lt_iff_lt_mul (by decide)]
    calc v < 2 ^ 48 * (1000000000 * 2 ^ 32) := hv
      _ = 2 ^ 48 * (2 ^ 32 * 1000000000) := by rw [Nat.mul_comm 1000000000]
  rw [hsec]
  omega

/-- The time unit once ToD has advanced, before a written NTU_INC takes effect. -/
def State.slewed (s : State) : State :=
  ((s.setTod s.nextTod).withNtu fun n => { n with slew := s.ntu.slew - slewNow s.ntu.slew }).putBit NTU_SERVO_STAT_SLEWING 0
    (s.ntu.slew - slewNow s.ntu.slew != 0)

theorem State.advanceTod_eq (s : State) : s.advanceTod = s.slewed.takeInc := rfl

theorem State.newBeat_ntu (s : State) : s.newBeat.ntu = s.slewed.takeInc.ntu := by
  rw [State.newBeat, State.withBeat_ntu, State.advanceTod_eq]

theorem State.slewed_ntu (s : State) :
    s.slewed.ntu = ((s.setTod s.nextTod).withNtu fun n => { n with slew := s.ntu.slew - slewNow s.ntu.slew }).ntu := State.setReg_ntu _ _ _ _ _

/-- A boundary advances ToD by NTU_INC and the term of a running slew (R355, R357). -/
theorem State.tod_newBeat {s : State} (h : s.nextTod < 2 ^ 48 * (1000000000 * 2 ^ 32)) : s.newBeat.tod = s.nextTod :=
  calc s.newBeat.tod = s.slewed.takeInc.tod := State.tod_congr s.newBeat_ntu
    _ = s.slewed.tod := State.takeInc_sameTod rfl
    _ = ((s.setTod s.nextTod).withNtu fun n => { n with slew := s.ntu.slew - slewNow s.ntu.slew }).tod := State.tod_congr s.slewed_ntu
    _ = (s.setTod s.nextTod).tod := State.withNtu_sameTod rfl (fun _ => ⟨rfl, rfl, rfl⟩)
    _ = s.nextTod := State.tod_setTod s h

theorem State.takeInc_slew (s : State) : s.takeInc.ntu.slew = s.ntu.slew := by
  unfold State.takeInc
  split <;> rfl

theorem State.slewed_slew (s : State) : s.slewed.ntu.slew = s.ntu.slew - slewNow s.ntu.slew := by
  rw [State.slewed_ntu]
  rfl

theorem State.slewed_inc (s : State) : s.slewed.ntu.inc = s.ntu.inc := by
  rw [State.slewed_ntu]
  rfl

/-- A boundary uses up the term of a running slew (R357). -/
theorem State.newBeat_slew (s : State) : s.newBeat.ntu.slew = s.ntu.slew - slewNow s.ntu.slew := by
  rw [State.newBeat_ntu, State.takeInc_slew, State.slewed_slew]

/-- A written NTU_INC is in force from the boundary on, and waits no more (R356). -/
theorem State.takeInc_some {s : State} {v : W64} (h : s.ntu.inc = some v) : s.takeInc.reg64 .NTU_INC 0 = v ∧ s.takeInc.ntu.inc = none := by
  unfold State.takeInc
  rw [h]
  exact ⟨State.reg64_setReg64 s .NTU_INC 0 v, rfl⟩

theorem State.newBeat_inc {s : State} {v : W64} (h : s.ntu.inc = some v) : s.newBeat.reg64 .NTU_INC 0 = v ∧ s.newBeat.ntu.inc = none := by
  obtain ⟨hreg, hinc⟩ := State.takeInc_some (s := s.slewed) (s.slewed_inc.trans h)
  rw [State.newBeat_ntu]
  exact ⟨hreg, hinc⟩

/-! ### The steps of a boundary -/

/-- The pipelined work of a boundary, which stands before an injection that waited (R22). -/
def State.pipelined (b : Nat) (s : State) : State :=
  (((each [0, 1] (fun a => State.adcPassEnd a ((b + 1) * beatFs)) s.sendAlarms).exchangeMarks b).settleRefresh).serveAll.supLatchAgain

/-- A written HSK_INJECT that waited for the boundary takes effect (R445). -/
def State.takeInject (s : State) : State :=
  match s.hsk.inject with
  | some v => (s.setReg .HSK_INJECT 0 0 v).withHsk fun h => { h with inject := none }
  | none => s

/-- The rest of what stands before R23's precedences at a boundary. -/
def State.threadsOn (s : State) : State :=
  (each (List.range 32) State.leaveStall (each (List.range 32) State.threadBeat s)).checkLedger.checkCompletions.endWinMove

theorem State.beginBeat_eq (s : State) :
    s.beginBeat = (s.newBeat.pipelined s.beat.lbc).takeInject.threadsOn.upToRequests := by
  delta State.beginBeat
  extract_lets b s₁ s₂ s₃ s₄
  have hpipe : s₃ = s.newBeat.pipelined s.beat.lbc := rfl
  have hinject : s₄ = s₃.takeInject := by
    unfold s₄ State.takeInject
    cases s₃.hsk.inject <;> rfl
  rw [← hpipe, ← hinject]
  rfl

theorem State.NoCommit.dueCommit {s : State} (h : s.NoCommit) (m : Nat) : s.dueCommit m = none := by
  unfold State.dueCommit
  cases ht : s.txnOf m with
  | none => rfl
  | some x =>
    have hx : x ∈ s.hst.txns := List.mem_of_find?_eq_some ht
    simp [h x hx]

/-- Without a due commit, only faults, aborts, starts, thread changes and a throttle tick stand above the requests (R23). -/
theorem State.upToRequests_quiet {s : State} (h : s.NoCommit) : s.upToRequests = s.upToCommits.throttle.exchangeOnce := by
  have hq : s.upToCommits.NoCommit := (State.upToCommits_steady (Steady.refl s)).noCommit h
  unfold State.upToRequests
  refine congrArg (fun t : State => t.throttle.exchangeOnce) ?_
  refine each_keeps (P := fun t => t = s.upToCommits) (fun m t ht => ?_) _ rfl
  rw [ht, hq.dueCommit m]

/-! ### What the steps leave -/

/-- The footprint of all but the beat count, the time unit and NTU_INC. -/
def besidesTime : Nat := allBut .lbc &&& allBut .ntu - 2 ^ (32 + Stem.NTU_INC.ctorIdx)

/-- The footprint of all but the beat count, the time unit, NTU_INC and HSK_INJECT. -/
def besidesTimeAndInject : Nat := besidesTime - 2 ^ (32 + Stem.HSK_INJECT.ctorIdx)

theorem State.endBeat_kept_time (s : State) : Kept besidesTime s s.endBeat := State.endBeat_kept (by decide) (Kept.refl s)

theorem State.endBeat_steady (s : State) : Steady s s.endBeat := by
  unfold State.endBeat
  repeat' (with_reducible first | exact Steady.refl _ | assumption | apply Steady.each | apply State.adcPassEnd_steady
                                | apply State.exchange_steady | apply State.reportDrops_steady | apply State.closeWindows_steady
                                | apply State.spanFlush_steady
                                | apply Steady.of_kept (State.pipeStages_kept (hm := by decide) (h := Kept.refl _) ..)
                                | apply Steady.of_kept (State.drainLogs_kept (hm := by decide) (h := Kept.refl _) ..)
                                | apply Steady.of_kept (State.settlePips_kept (hm := by decide) (h := Kept.refl _) ..)
                                | apply Steady.of_kept (State.settleMarks_kept (hm := by decide) (h := Kept.refl _) ..)
                                | apply Steady.of_kept (State.settleOutputs_kept (hm := by decide) (h := Kept.refl _) ..)
                                | dsimp only | intro _)

theorem State.newBeat_steady (s : State) : Steady s s.newBeat := by
  have h : Steady s s.advanceTod := Steady.of_kept (State.advanceTod_kept (by decide) (Kept.refl s)) (Steady.refl s)
  exact ⟨h.inject, h.noCommit⟩

theorem State.pipelined_kept (s : State) (b : Nat) : Kept besidesTime (s.withNtu fun n => { n with trigs := [] }) (s.pipelined b) := by
  have sent : Kept besidesTime (s.withNtu fun n => { n with trigs := [] }) s.sendAlarms :=
    each_kept (fun x t h => State.flood_kept (by decide) h 2 x []) _ (Kept.refl _)
  have converted := each_kept (fun a t h => State.adcPassEnd_kept (by decide) h a ((b + 1) * beatFs)) [0, 1] sent
  exact State.supLatchAgain_kept (by decide) (State.serveAll_kept (by decide) (State.settleRefresh_kept (by decide)
    (State.exchangeMarks_kept (by decide) converted b)))

theorem State.pipelined_steady (s : State) (b : Nat) : Steady s (s.pipelined b) := by
  have converted := Steady.each (fun a t h => State.adcPassEnd_steady h a ((b + 1) * beatFs)) [0, 1] (State.sendAlarms_steady (Steady.refl s))
  exact State.supLatchAgain_steady (State.serveAll_steady (Steady.of_kept (State.settleRefresh_kept (by decide) (Kept.refl _))
    (State.exchangeMarks_steady converted b)))

theorem State.takeInject_kept (s : State) : Kept besidesTime s s.takeInject := by
  unfold State.takeInject
  split
  · exact State.withHsk_kept (by decide) (State.setReg_kept _ (by decide) (Kept.refl s) _ _ _) _
  · exact Kept.refl s

/-- A written HSK_INJECT is in the register from the boundary on, and waits no more (R445). -/
theorem State.takeInject_some {s : State} {v : W32} (h : s.hsk.inject = some v) :
    s.takeInject.reg .HSK_INJECT 0 0 = v ∧ s.takeInject.hsk.inject = none := by
  unfold State.takeInject
  rw [h]
  exact ⟨State.reg_setReg_same s .HSK_INJECT 0 0 v, rfl⟩

theorem State.takeInject_hst (s : State) : s.takeInject.hst = s.hst := by
  unfold State.takeInject
  split <;> rfl

theorem State.threadsOn_kept (s : State) : Kept besidesTimeAndInject s s.threadsOn := by
  have threads := each_kept (fun n t h => State.threadBeat_kept (m := besidesTimeAndInject) (by decide) h n) (List.range 32) (Kept.refl s)
  have stalls := each_kept (fun n t h => State.leaveStall_kept (by decide) h n) (List.range 32) threads
  exact State.endWinMove_kept (by decide) (State.checkCompletions_kept (by decide) (State.checkLedger_kept (by decide) stalls))

theorem State.threadsOn_steady (s : State) : Steady s s.threadsOn := by
  have threads := Steady.each (fun n t h => Steady.of_kept (State.threadBeat_kept (by decide) (Kept.refl t) n) h) (List.range 32) (Steady.refl s)
  have stalls := Steady.each (fun n t h => Steady.of_kept (State.leaveStall_kept (by decide) (Kept.refl t) n) h) (List.range 32) threads
  exact State.endWinMove_steady (State.checkCompletions_steady (State.checkLedger_steady stalls))

theorem State.upToRequests_sameTod (s : State) : SameTod s s.upToRequests := by
  have commits : SameTod s s.upToCommits := SameTod.of_kept (State.upToCommits_kept (by decide) (Kept.refl s)) rfl
  have applied := SameTod.each (fun m t h => show SameTod s (match t.dueCommit m with | some x => t.applyCommit m x.1 x.2 | none => t) by
    split
    · exact State.applyCommit_sameTod h _ _ _
    · exact h) (List.range 17) commits
  exact SameTod.of_kept (State.exchangeOnce_kept (by decide) (Kept.refl _)) (SameTod.of_kept (State.throttle_kept (by decide) (Kept.refl _)) applied)

/-- Without a due commit, what stands above the requests leaves the time unit, NTU_INC, HSK_INJECT and what waits for it. -/
theorem State.upToRequests_leaves {s : State} (h : s.NoCommit) :
    Kept besidesTimeAndInject s s.upToRequests ∧ Steady s s.upToRequests := by
  rw [State.upToRequests_quiet h]
  exact ⟨State.exchangeOnce_kept (by decide) (State.throttle_kept (by decide) (State.upToCommits_kept (by decide) (Kept.refl s))),
    State.exchangeOnce_steady (State.throttle_steady (State.upToCommits_steady (Steady.refl s)))⟩

/-! ### The boundary as a whole -/

theorem State.clearTrigs_slew (s : State) : (s.withNtu fun n => { n with trigs := [] }).ntu.slew = s.ntu.slew := rfl

theorem State.clearTrigs_inc (s : State) : (s.withNtu fun n => { n with trigs := [] }).ntu.inc = s.ntu.inc := rfl

theorem State.clearTrigs_reg64 (s : State) (st : Stem) (i : Nat) : (s.withNtu fun n => { n with trigs := [] }).reg64 st i = s.reg64 st i := rfl

/-- What a boundary does before R23's precedences. -/
def State.newWork (s : State) : State := (s.newBeat.pipelined s.beat.lbc).takeInject.threadsOn

theorem State.beginBeat_newWork (s : State) : s.beginBeat = s.newWork.upToRequests := s.beginBeat_eq

theorem State.newWork_kept (s : State) : Kept besidesTime (s.newBeat.withNtu fun n => { n with trigs := [] }) s.newWork :=
  ((State.pipelined_kept s.newBeat s.beat.lbc).trans (State.takeInject_kept _)).trans ((State.threadsOn_kept _).mono (by decide))

theorem State.newWork_ntu (s : State) : s.newWork.ntu = (s.newBeat.withNtu fun n => { n with trigs := [] }).ntu :=
  s.newWork_kept.same .ntu (by decide)

theorem State.newWork_lbc (s : State) : s.newWork.beat.lbc = s.beat.lbc + 1 := s.newWork_kept.lbc (by decide)

theorem State.newWork_tod (s : State) : s.newWork.tod = s.newBeat.tod :=
  (State.tod_congr s.newWork_ntu).trans (State.withNtu_sameTod rfl (fun _ => ⟨rfl, rfl, rfl⟩))

theorem State.newWork_noCommit {s : State} (h : s.NoCommit) : s.newWork.NoCommit := by
  have hp : (s.newBeat.pipelined s.beat.lbc).NoCommit := (State.pipelined_steady _ _).noCommit (s.newBeat_steady.noCommit h)
  have hi : (s.newBeat.pipelined s.beat.lbc).takeInject.NoCommit := by
    unfold State.NoCommit
    rw [State.takeInject_hst]
    exact hp
  exact (State.threadsOn_steady _).noCommit hi

/-- A written HSK_INJECT that waited is in its register before R23's precedences (R445). -/
theorem State.newWork_inject {s : State} {v : W32} (h : s.hsk.inject = some v) :
    s.newWork.reg .HSK_INJECT 0 0 = v ∧ s.newWork.hsk.inject = none := by
  have hp : (s.newBeat.pipelined s.beat.lbc).hsk.inject = some v := by
    rw [(State.pipelined_steady s.newBeat s.beat.lbc).inject, s.newBeat_steady.inject, h]
  obtain ⟨hreg, hnone⟩ := State.takeInject_some hp
  exact ⟨((State.threadsOn_kept _).reg .HSK_INJECT (by decide) 0 0).trans hreg, (State.threadsOn_steady _).inject.trans hnone⟩

/-- The end of a beat leaves what ToD advances by. -/
theorem State.endBeat_nextTod (s : State) : s.endBeat.nextTod = s.nextTod := by
  have hinc : s.endBeat.inc = s.inc := by
    unfold State.inc
    rw [s.endBeat_kept_time.reg64 .NTU_INC (by decide)]
  unfold State.nextTod
  rw [State.tod_congr (s.endBeat_kept_time.same .ntu (by decide)), hinc, s.endBeat_kept_time.same .ntu (by decide)]

theorem exec_beatBoundary {s : State} (h : s.running = true) : exec .beatBoundary s = .next s.endBeat.beginBeat :=
  congrArg Host.Outcome.next (State.live_running h _)

/-- A boundary advances ToD by NTU_INC and the term of a running slew, whatever commits are due in it (R355, R357). -/
theorem State.boundary_tod {s : State} (h : s.nextTod < 2 ^ 48 * (1000000000 * 2 ^ 32)) : s.endBeat.beginBeat.tod = s.nextTod := by
  rw [State.beginBeat_newWork, State.upToRequests_sameTod, State.newWork_tod,
    State.tod_newBeat (by rw [State.endBeat_nextTod]; exact h), State.endBeat_nextTod]

/-- No commit being pending, a boundary uses up the slew's term and takes the values that waited for it (R356, R357, R445). -/
theorem State.boundary_takes {s : State} (h : s.NoCommit) :
    s.endBeat.beginBeat.ntu.slew = s.ntu.slew - slewNow s.ntu.slew ∧
      (∀ v, s.ntu.inc = some v → s.endBeat.beginBeat.reg64 .NTU_INC 0 = v ∧ s.endBeat.beginBeat.ntu.inc = none) ∧
      ∀ v, s.hsk.inject = some v → s.endBeat.beginBeat.reg .HSK_INJECT 0 0 = v ∧ s.endBeat.beginBeat.hsk.inject = none := by
  have hntu : s.endBeat.ntu = s.ntu := s.endBeat_kept_time.same .ntu (by decide)
  obtain ⟨hk, hsteady⟩ := State.upToRequests_leaves (State.newWork_noCommit (s.endBeat_steady.noCommit h))
  have hend : s.endBeat.beginBeat.ntu = (s.endBeat.newBeat.withNtu fun n => { n with trigs := [] }).ntu := by
    rw [State.beginBeat_newWork, hk.same .ntu (by decide), State.newWork_ntu]
  rw [hend, State.beginBeat_newWork]
  refine ⟨?_, fun v hv => ?_, fun v hv => ?_⟩
  · rw [State.clearTrigs_slew, State.newBeat_slew, hntu]
  · obtain ⟨hreg, hnone⟩ := State.newBeat_inc ((congrArg Ntu.inc hntu).trans hv)
    rw [State.clearTrigs_inc, hk.reg64 .NTU_INC (by decide), (State.newWork_kept _).reg64 .NTU_INC (by decide), State.clearTrigs_reg64]
    exact ⟨hreg, hnone⟩
  · obtain ⟨hreg, hnone⟩ := State.newWork_inject (s.endBeat_steady.inject.trans hv)
    exact ⟨(hk.reg .HSK_INJECT (by decide) 0 0).trans hreg, hsteady.inject.trans hnone⟩

/-! ### The obligation -/

/-- Settles O18: the beat generator and the pods by the equation of each command, the boundary by what its steps leave. -/
theorem beatGeneratorPodsAndBoundary : Obligations.BeatGeneratorPodsAndBoundary := by
  unfold Obligations.BeatGeneratorPodsAndBoundary
  refine ⟨⟨fun n s hs => ?_, windowPasses_iff, fun s hs => ⟨exec_beatPllLock_enters hs, exec_beatLockTimeout hs⟩, fun s hr =>
    ⟨exec_refclkLoss_holds hr, exec_holdoverRelock_holds hr⟩⟩, ⟨fun k s hr => ?_, fun s hr hj hb => ?_, fun k s hr hk => ?_⟩,
    fun s hr htod => ?_⟩
  · refine ⟨fun hp hw => ?_, fun hp hw => ?_, fun hp hw => ?_⟩ <;> rw [exec_refWindow n hs, hp, hw]
  · refine ⟨_, exec_podPllLock hr k, ?_, fun j hj => ?_⟩
    · rw [State.podLocked_setPodLock, if_pos rfl]
    · rw [State.podLocked_setPodLock, if_neg hj]
  · obtain ⟨hlines, hbeat⟩ := lines_each_raiseNow (fun k => (⟨0, 2, 0x0001, k, 0, false, none⟩ : FaultRec))
      ((List.range 16).filter (fun k => !(s.podLocked k))) (s.withBeat fun b => { b with podsJudged := true })
    exact ⟨_, exec_podLockTimeout hr hj hb, congrArg Beat.podsJudged hbeat, hlines⟩
  · exact ⟨_, exec_podPllUnlock hr k hk, (State.podLocked_setPodLock s k k false).trans (if_pos rfl), rfl⟩
  · refine ⟨_, exec_beatBoundary hr, rfl, ?_, State.boundary_tod htod, ⟨_, State.beginBeat_newWork _, ?_⟩, State.boundary_takes⟩
    · rw [State.beginBeat_lbc, State.endBeat_lbc]
    · rw [State.newWork_lbc, State.endBeat_lbc]

end Sys2Proof.Machine
end

section
/-! PROOFS. The bytes of a completion entry, and where it is written (R47, R50, R51). -/

namespace Sys2Proof.Machine

/-- The number that bytes written from a number spell is that number, cut to their width. -/
theorem ofLE_leBytes (k : Nat) : ∀ v, ofLE (leBytes k v) = v % 256 ^ k := by
  induction k with
  | zero => intro v; rw [Nat.pow_zero, Nat.mod_one]; rfl
  | succ k ih =>
    intro v
    rw [leBytes, ofLE, ih, BitVec.toNat_ofNat]
    show v % 256 + 256 * (v / 256 % 256 ^ k) = v % 256 ^ (k + 1)
    rw [Nat.pow_succ', Nat.mod_mul]

/-- A field at the front of a structure. -/
theorem leAt_append_left (x y : List Byte) {k : Nat} (h : x.length = k) : leAt (x ++ y) 0 k = ofLE x := by
  simp [leAt, ← h]

/-- A field behind the front of a structure. -/
theorem leAt_append_right (x y : List Byte) {n : Nat} (h : x.length = n) (o k : Nat) : leAt (x ++ y) (n + o) k = leAt y o k := by
  simp [leAt, ← h, List.drop_append, List.drop_eq_nil_of_le (Nat.le_add_right x.length o)]

/-- A word of a list of 32-bit words. -/
theorem leAt_words (f : Nat → Nat) (l : List Nat) : ∀ i (h : i < l.length),
    leAt (l.flatMap fun j => leBytes 4 (f j)) (4 * i) 4 = f l[i] % 2 ^ 32 := by
  induction l with
  | nil => intro i h; exact absurd h (Nat.not_lt_zero i)
  | cons j l ih =>
    intro i h
    rw [List.flatMap_cons]
    cases i with
    | zero => rw [Nat.mul_zero, leAt_append_left _ _ (length_leBytes 4 _), ofLE_leBytes]; rfl
    | succ i =>
      rw [Nat.mul_succ, Nat.add_comm, leAt_append_right _ _ (length_leBytes 4 _), ih i (by simpa using h)]
      rfl

theorem Tab.getList_drop {α : Type} (d : Nat → α) (t : Tab α) (n : Nat) : ∀ o a, (Tab.getList d t a (o + n)).drop o = Tab.getList d t (a + o) n := by
  intro o
  induction o with
  | zero => intro a; simp
  | succ o ih =>
    intro a
    rw [Nat.succ_add, Tab.getList, List.drop_succ_cons, ih, Nat.add_right_comm, Nat.add_assoc]

theorem Tab.getList_take {α : Type} (d : Nat → α) (t : Tab α) (n : Nat) : ∀ k a, (Tab.getList d t a (k + n)).take k = Tab.getList d t a k := by
  intro k
  induction k with
  | zero => intro a; rfl
  | succ k ih =>
    intro a
    rw [Nat.succ_add, Tab.getList, List.take_succ_cons, ih]
    rfl

/-- A number in memory is the field of the bytes around it. -/
theorem State.memNat_field {s : State} (hl : s.meas.lost = false) (a : Nat) {o k n : Nat} (h : o + k ≤ n) :
    s.memNat (a + o) k = leAt (s.mem a n) o k := by
  obtain ⟨m, rfl⟩ := Nat.exists_eq_add_of_le h
  simp only [State.memNat, State.mem, hl, leAt, Bool.false_eq_true, if_false]
  rw [Nat.add_assoc, Tab.getList_drop, Tab.getList_take]

/-- An entry is 32 bytes. -/
theorem length_entryBytes (c : Completion) (phase : Bool) (sqHead : Nat) : (entryBytes c phase sqHead).length = 32 := by
  simp [entryBytes, length_leBytes]

theorem leAt_entryBytes_tag (c : Completion) (phase : Bool) (sqHead : Nat) : leAt (entryBytes c phase sqHead) 0 4 = c.tag.toNat := by
  unfold entryBytes
  rw [List.append_assoc, List.append_assoc, leAt_append_left _ _ (length_leBytes 4 _), ofLE_leBytes]
  exact Nat.mod_eq_of_lt c.tag.isLt

theorem leAt_entryBytes_status (c : Completion) (phase : Bool) (sqHead : Nat) (h : c.status < 0x10000) :
    leAt (entryBytes c phase sqHead) 4 2 = c.status := by
  unfold entryBytes
  rw [List.append_assoc, List.append_assoc, leAt_append_right _ _ (length_leBytes 4 _) 0, leAt_append_left _ _ (length_leBytes 2 _), ofLE_leBytes]
  exact Nat.mod_eq_of_lt h

theorem leAt_entryBytes_phase (c : Completion) (phase : Bool) (sqHead : Nat) :
    leAt (entryBytes c phase sqHead) 6 2 = (if phase then 0x8000 else 0) + sqHead % 4096 := by
  unfold entryBytes
  rw [List.append_assoc, List.append_assoc, leAt_append_right _ _ (length_leBytes 4 _) 2, leAt_append_right _ _ (length_leBytes 2 _) 0,
    leAt_append_left _ _ (length_leBytes 2 _), ofLE_leBytes]
  simp only [flag, fld]
  split <;> omega

theorem leAt_entryBytes_res (c : Completion) (phase : Bool) (sqHead : Nat) {i : Nat} (h : i < 6) :
    leAt (entryBytes c phase sqHead) (8 + 4 * i) 4 = c.res.getD i 0 % 2 ^ 32 := by
  unfold entryBytes
  rw [leAt_append_right _ _ (by simp [length_leBytes]), leAt_words _ _ i (by simpa using h)]
  simp

/-- Where the next completion entry of a mailbox stands (R47). -/
def Mailbox.entryAt (b : Mailbox) : Nat := 0x4000000000 + b.cqBase * 256 + 32 * b.cqTail

theorem State.writeEntry_ram (s : State) (c : Completion) : (s.writeEntry c).ram =
    (s.setMem (s.box c.mb).entryAt (entryBytes c (s.box c.mb).phase (s.box c.mb).sqHead)).ram := by
  unfold State.writeEntry when
  dsimp only
  split <;> rfl

theorem State.writeEntry_meas (s : State) (c : Completion) : (s.writeEntry c).meas = s.meas := by
  unfold State.writeEntry when
  dsimp only
  split <;> exact State.setMem_meas _ _ _

theorem State.writeEntry_regs (s : State) (c : Completion) : (s.writeEntry c).regs = s.regs := by
  unfold State.writeEntry when
  dsimp only
  split <;> exact State.setMem_regs _ _ _

theorem State.box_setBox (s : State) (m : Nat) (b : Mailbox) : (s.setBox m b).box m = b := Tab.get_set_same _ _ _ _

theorem State.writeEntry_box (s : State) (c : Completion) : ((s.writeEntry c).box c.mb).cqTail =
      (if (s.box c.mb).cqTail + 1 = 2 ^ (s.box c.mb).cqLog then 0 else (s.box c.mb).cqTail + 1) ∧
    ((s.writeEntry c).box c.mb).phase =
      (if (s.box c.mb).cqTail + 1 = 2 ^ (s.box c.mb).cqLog then !(s.box c.mb).phase else (s.box c.mb).phase) := by
  have signal_box : ∀ (t : State) v, (t.signal v).box c.mb = t.box c.mb := fun _ _ => rfl
  unfold State.writeEntry when
  dsimp only
  split <;> simp [signal_box, State.box_setBox]

/-- The 32 bytes that an entry leaves at CQ_TAIL. -/
theorem State.writeEntry_mem {s : State} (c : Completion) (hl : s.meas.lost = false) :
    (s.writeEntry c).mem (s.box c.mb).entryAt 32 = entryBytes c (s.box c.mb).phase (s.box c.mb).sqHead := by
  have h := State.mem_setMem_same s (s.box c.mb).entryAt (entryBytes c (s.box c.mb).phase (s.box c.mb).sqHead) hl
  rw [length_entryBytes] at h
  simp only [State.mem, State.setMem_meas, State.writeEntry_meas, hl, State.writeEntry_ram, Bool.false_eq_true, if_false] at h ⊢
  exact h

/-- A completion for an open mailbox with a free entry is written into its ring (R54). -/
theorem State.complete_writes {s : State} {iss : Issuer} (h16 : iss.mb ≠ 16) (hst : (s.box iss.mb.val).st ≠ 0)
    (hfree : (s.box iss.mb.val).cqFree ≠ 0) (st : Nat) (res : List Nat) :
    s.complete iss st res = s.writeEntry ⟨iss.mb.val, iss.tag, st, res⟩ := by
  have h : iss.mb.val ≠ 16 := fun e => h16 (Fin.ext e)
  simp only [State.complete, State.post, h, hst, hfree, if_false]

/-- Settles O7: the entry's fields from its 32 bytes, the rest of memory by the law of a write. -/
theorem completionEntryWritten : Obligations.CompletionEntryWritten := by
  unfold Obligations.CompletionEntryWritten
  intro s iss status res h16 hst hfree hl hstatus b a t
  have ht : t = s.writeEntry ⟨iss.mb.val, iss.tag, status, res⟩ := State.complete_writes h16 hst hfree status res
  have hmem : t.mem a 32 = entryBytes ⟨iss.mb.val, iss.tag, status, res⟩ b.phase b.sqHead := by rw [ht]; exact State.writeEntry_mem _ hl
  have htl : t.meas.lost = false := by rw [ht, State.writeEntry_meas, hl]
  have field : ∀ {o k}, o + k ≤ 32 → t.memNat (a + o) k = leAt (entryBytes ⟨iss.mb.val, iss.tag, status, res⟩ b.phase b.sqHead) o k :=
    fun h => hmem ▸ State.memNat_field htl a h
  refine ⟨?_, ?_, ?_, fun i hi => ?_, fun k hk => ?_, ?_, ?_⟩
  · exact (field (o := 0) (by omega)).trans (leAt_entryBytes_tag _ _ _)
  · exact (field (by omega)).trans (leAt_entryBytes_status _ _ _ hstatus)
  · exact (field (by omega)).trans (leAt_entryBytes_phase _ _ _)
  · rw [Nat.add_assoc]
    exact (field (by omega)).trans (leAt_entryBytes_res _ _ _ hi)
  · rw [ht, State.writeEntry_ram]
    exact State.ram_setMem_other _ _ _ _ hl (by rw [length_entryBytes]; exact hk)
  · rw [ht, State.writeEntry_regs]
  · rw [ht]
    exact State.writeEntry_box _ _

end Sys2Proof.Machine
end

section
/-! PROOFS. Mailboxes opened, closed and reset (R51, R58, R59, R480). -/

namespace Sys2Proof.Machine

/-- HST_MB_OPEN of a closed mailbox with room for both rings. -/
theorem exec_hstMbOpen_opens {iss : Issuer} {m a b v n : Byte} {time : W16} {s : State} {x y : Nat} (h : s.serves iss) (h16 : iss.mb ≠ 16)
    (hm : 1 ≤ m.toNat ∧ m.toNat ≤ 15) (ha : 1 ≤ a.toNat ∧ a.toNat ≤ 12) (hb : 1 ≤ b.toNat ∧ b.toNat ≤ 12) (hv : v.toNat ≤ 63)
    (hst : (s.box m.toNat).st = 0) (hx : s.runFrom (ringBlocks a.toNat 64) 0 8192 = some x)
    (hy : (s.takeRun 3 x (ringBlocks a.toNat 64)).runFrom (ringBlocks b.toNat 32) 0 8192 = some y)
    (hroom : s.mayTake 3 (ringBlocks a.toNat 64 + ringBlocks b.toNat 32) = true) :
    let box : Mailbox := { sqBase := 8 * x, sqLog := a.toNat, cqBase := 8 * y, cqLog := b.toNat, st := 1, vector := v.toNat,
                           count := n.toNat + 1, time := time.toNat }
    exec (.hstMbOpen iss m a b v n time) s = .next ((((((s.takeRun 3 x (ringBlocks a.toNat 64)).takeRun 3 y
      (ringBlocks b.toNat 32)).zeroRings box).setBox m.toNat box)).complete iss Status.ok [2048 * x, 2048 * y]) := by
  have hargs : (m.toNat == 0 || decide (15 < m.toNat) || a.toNat == 0 || decide (12 < a.toNat) || b.toNat == 0 || decide (12 < b.toNat) ||
      decide (63 < v.toNat)) = false := by
    simp only [Bool.or_eq_false_iff, beq_eq_false_iff_ne, decide_eq_false_iff_not]
    omega
  intro box
  show execHstMbOpen iss m a b v n time s = _
  unfold execHstMbOpen
  simp only [hx, hy, bne_iff_ne.2 h16]
  rw [State.command_runs h (by simp [hargs, hst, hroom])]
  rfl

/-- HST_MB_CLOSE of another open mailbox that owes nothing. -/
theorem exec_hstMbClose_closes {iss : Issuer} {m : Byte} {s : State} (h : s.serves iss) (h16 : iss.mb ≠ 16) (h1 : 1 ≤ m.toNat)
    (h15 : m.toNat ≤ 15) (hself : m.toNat ≠ iss.mb.val) (hst : (s.box m.toNat).st ≠ 0) (howed : s.owed m.toNat = 0)
    (htxn : s.txnOf m.toNat = none) : exec (.hstMbClose iss m) s =
      .next ((((s.mute m.toNat).freeBlockList 3 (s.box m.toNat).blocks).setBox m.toNat { }).complete iss Status.ok []) := by
  have hargs : (m.toNat == 0 || decide (15 < m.toNat) || m.toNat == iss.mb.val) = false := by
    simp only [Bool.or_eq_false_iff, beq_eq_false_iff_ne, decide_eq_false_iff_not]
    omega
  show execHstMbClose iss m s = _
  unfold execHstMbClose
  simp only [bne_iff_ne.2 h16]
  rw [State.command_runs h (by simp [hargs, hst, howed, htxn]), State.closeBox, if_neg hst]
  rfl

/-- HST_MB_RESET of another open mailbox. -/
theorem exec_hstMbReset_resets {iss : Issuer} {m : Byte} {s : State} (h : s.serves iss) (h16 : iss.mb ≠ 16)
    (h15 : m.toNat ≤ 15) (hself : m.toNat ≠ iss.mb.val) (hst : (s.box m.toNat).st ≠ 0) :
    let b := s.box m.toNat
    let clean : Mailbox := { b with sqTail := 0, cqHead := 0, sqHead := 0, cqTail := 0, st := 1, phase := true, fresh := 0, oldest := 0 }
    exec (.hstMbReset iss m) s = .next ((((s.mute m.toNat).zeroRings b).setBox m.toNat clean).complete iss Status.ok []) := by
  intro b clean
  show execHstMbReset iss m s = _
  unfold execHstMbReset
  simp only [bne_iff_ne.2 h16]
  rw [State.command_runs h (by simp [hself, hst, Nat.not_lt.2 h15])]
  rfl

/-- Settles O8: none of the checks of each command fails. -/
theorem mailboxesOpenCloseReset : Obligations.MailboxesOpenCloseReset := by
  unfold Obligations.MailboxesOpenCloseReset
  exact ⟨fun _ _ _ _ _ _ _ _ _ _ h h16 hm hm' ha ha' hb hb' hv hst hx hy hroom =>
      exec_hstMbOpen_opens h h16 ⟨hm, hm'⟩ ⟨ha, ha'⟩ ⟨hb, hb'⟩ hv hst hx hy hroom,
    fun _ _ _ h h16 h1 h15 hself hst howed htxn => exec_hstMbClose_closes h h16 h1 h15 hself hst howed htxn,
    fun _ _ _ h h16 h15 hself hst => exec_hstMbReset_resets h h16 h15 hself hst⟩

end Sys2Proof.Machine
end

section
/-! PROOFS. Doorbells, coalesced messages and MSI-X (R36, R47, R48, R54, R55, R450). -/

namespace Sys2Proof.Machine

theorem exec_sqTailWrite {s : State} (hr : s.running = true) (mb : Fin 16) (v : W32) :
    exec (.sqTailWrite mb v) s = .next (s.writeSqTail mb.val v) := done_live hr _

theorem exec_cqHeadWrite {s : State} (hr : s.running = true) (mb : Fin 16) (v : W32) :
    exec (.cqHeadWrite mb v) s = .next (s.writeCqHead mb.val v) := done_live hr _

theorem State.writeSqTail_eq (s : State) (m : Nat) (v : W32) :
    let b := s.box m
    let n := 2 ^ b.sqLog
    let k := v.toNat % 4096
    s.writeSqTail m v = s.writeDoorbell m k n (decide (n ≤ (b.sqTail + n - b.sqHead) % n + (k + n - b.sqTail) % n)) fun b => { b with sqTail := k } := rfl

theorem State.writeCqHead_eq (s : State) (m : Nat) (v : W32) : s.writeCqHead m v =
    s.writeDoorbell m (v.toNat % 4096) (2 ^ (s.box m).cqLog) false fun b => { b with cqHead := v.toNat % 4096 } := rfl

theorem State.box_event (s : State) (e m : Nat) : (s.event e).box m = s.box m := rfl

/-- A doorbell of a CLOSED mailbox is nothing but the fault. -/
theorem State.writeDoorbell_closed {s : State} {m : Nat} (h : (s.box m).st = 0) (v n : Nat) (full : Bool) (set : Mailbox → Mailbox) :
    s.writeDoorbell m v n full set = s.fault 10 0 0x0A04 (32 + m) 0 := by
  simp [State.writeDoorbell, State.badDoorbell, h]

/-- An index within the ring that does not fill it is taken. -/
theorem State.writeDoorbell_taken {s : State} {m v n : Nat} (h : (s.box m).st ≠ 0) (hv : v < n) (set : Mailbox → Mailbox) :
    s.writeDoorbell m v n false set = (s.event (1104 + 2 * m)).setBox m (set (s.box m)) := by
  simp [State.writeDoorbell, h, Nat.not_le.2 hv]

/-- What a wrong index does: the mailbox is in ERROR, and the fault tells the cause. -/
theorem State.writeDoorbell_wrong {s : State} {m v n : Nat} {full : Bool} {cause : Nat} (h : (s.box m).st ≠ 0)
    (hc : n ≤ v ∧ cause = 0 ∨ v < n ∧ full = true ∧ cause = 1) (set : Mailbox → Mailbox) : s.writeDoorbell m v n full set =
      ((s.event (1104 + 2 * m)).setBox m { s.box m with st := 2 }).fault 10 0 0x0A04 (cause * 16 + m) 0 := by
  rcases hc with ⟨hv, rfl⟩ | ⟨hv, rfl, rfl⟩
  · simp [State.writeDoorbell, State.badDoorbell, h, hv, State.box_event]
  · simp [State.writeDoorbell, State.badDoorbell, h, Nat.not_le.2 hv, State.box_event]

/-- The message of a vector goes to host memory where nothing masks it. -/
theorem exec_msixSend_sends {s : State} (hr : s.running = true) (v : Fin 64) (hdue : s.exchange.hst.msixOwed.getLsbD v.val = true ∨
    s.exchange.hst.msixPend.getLsbD v.val = true) (hlink : s.exchange.hst.link.isSome = true) (hen : s.exchange.hst.config.msixEnable = true)
    (hd3 : s.exchange.hst.config.d3hot = false) :
    let e := s.exchange
    let bit : W64 := BitVec.ofNat 64 (2 ^ v.val)
    let owed := e.withHst fun h => { h with msixOwed := h.msixOwed &&& ~~~bit }
    exec (.msixSend v) s = .next (if e.hst.config.msixMask || (e.msixWord (4 * v.val + 3)).getLsbD 0
      then owed.withHst fun h => { h with msixPend := h.msixPend ||| bit }
      else (owed.withHst fun h => { h with msixPend := h.msixPend &&& ~~~bit }).setHost
        (join64 (e.msixWord (4 * v.val)) (e.msixWord (4 * v.val + 1))).toNat (leBytes 4 (e.msixWord (4 * v.val + 2)).toNat)) := by
  have hoff : (s.exchange.hst.link.isNone || !s.exchange.hst.config.msixEnable || s.exchange.hst.config.d3hot) = false := by
    simp [hlink, hen, hd3]
  have hskip : (!(s.exchange.hst.msixOwed.getLsbD v.val) && !(s.exchange.hst.msixPend.getLsbD v.val) ||
      (s.exchange.hst.link.isNone || !s.exchange.hst.config.msixEnable || s.exchange.hst.config.d3hot)) = false := by
    rw [hoff]
    rcases hdue with h | h <;> simp [h]
  refine (done_live hr _).trans (congrArg _ ?_)
  dsimp only
  rw [hskip]
  rfl

/-- Settles O12: doorbells by the laws of a doorbell, messages by what masks them. -/
theorem doorbellsAndMessagesAct : Obligations.DoorbellsAndMessagesAct := by
  unfold Obligations.DoorbellsAndMessagesAct
  refine ⟨fun mb v s hr => ?_, fun mb s hr hf ho => ?_, fun v s hr => ?_⟩
  · simp only [exec_sqTailWrite hr, exec_cqHeadWrite hr, State.writeSqTail_eq, State.writeCqHead_eq, Host.Outcome.next.injEq]
    refine ⟨fun hst => ⟨fun hk hq => ?_, fun hk => ?_, fun hk hq => ?_, fun hk => ?_, fun hk => ?_⟩, fun hst => ⟨?_, ?_⟩⟩
    · rw [decide_eq_false (Nat.not_le.2 hq)]
      exact State.writeDoorbell_taken hst hk _
    · exact State.writeDoorbell_wrong hst (Or.inl ⟨hk, rfl⟩) _
    · exact State.writeDoorbell_wrong hst (Or.inr ⟨hk, decide_eq_true hq, rfl⟩) _
    · exact State.writeDoorbell_taken hst hk _
    · exact State.writeDoorbell_wrong hst (Or.inl ⟨hk, rfl⟩) _
    · exact State.writeDoorbell_closed hst _ _ _ _
    · exact State.writeDoorbell_closed hst _ _ _ _
  · exact (done_live hr _).trans (congrArg _ (if_pos ⟨hf, ho⟩))
  · intro e bit masked hdue hlink hen hd3
    rw [exec_msixSend_sends hr v hdue hlink hen hd3]
    constructor
    · intro hm
      rw [if_neg (by simpa [masked] using hm)]
      rfl
    · intro hm
      rw [if_pos (by simpa [masked] using hm)]
      rfl

end Sys2Proof.Machine
end

section
/-! PROOFS. Descriptors and the version 1 mailbox (R49, R52, R56, R74, R76, R479). -/

namespace Sys2Proof.Machine

/-- The command of an assigned code is the Sesame command of that code: so in every row of the table of codes. -/
theorem sesame_commandOf {iss : Issuer} {code : Nat} {l : List Byte} {x : Instr × List (Nat × Nat)} (h : commandOf iss code l = some x) :
    sesame x.1 = some (iss, code) := by
  unfold commandOf at h
  split at h <;> first | (injection h with h; subst h; rfl) | cases h

/-- A descriptor spells a Sesame command. -/
theorem sesame_descriptorOf {mb : Fin 17} {l : List Byte} {c : Instr} (h : descriptorOf mb l = some c) : ∃ k, sesame c = some k := by
  unfold descriptorOf at h
  dsimp only at h
  split at h
  · cases h
  · split at h
    · next hc => cases h; exact ⟨_, sesame_commandOf hc⟩
    · cases h

/-- The meaning of a Sesame command is that of the command: its row names the function that `exec` does, and a command without a row is
none of Sesame's. -/
theorem exec_eq_runSesame {c : Instr} {k : Issuer × Nat} (h : sesame c = some k) (s : State) : exec c s = runSesame c s := by
  cases c <;> first | rfl | cases h

/-- A descriptor that spells a command does what the command does, and one that spells none is answered with BAD_COMMAND; each answers a
next state. -/
theorem State.runDescriptor_spec (mb : Fin 17) (l : List Byte) (u : State) :
    (∃ t, u.runDescriptor mb l = .next t) ∧ (∀ c, descriptorOf mb l = some c → u.runDescriptor mb l = exec c u) ∧
    (descriptorOf mb l = none → u.runDescriptor mb l = .next (u.complete ⟨mb, u32 l 4, false, false⟩ Status.badCommand [])) := by
  unfold State.runDescriptor
  cases hd : descriptorOf mb l with
  | none => exact ⟨⟨_, rfl⟩, nofun, fun _ => rfl⟩
  | some c =>
    obtain ⟨⟨iss, k⟩, hk⟩ := sesame_descriptorOf hd
    have he := exec_eq_runSesame hk u
    obtain ⟨t, ht, -⟩ := exec_gated u hk
    refine ⟨⟨t, he.symm.trans ht⟩, fun c' hc => ?_, nofun⟩
    cases hc
    exact he.symm

theorem exec_descriptorStart_late {s : State} (h : s.hst.startedAt = some s.beat.lbc) (mb : Fin 16) : exec (.descriptorStart mb) s = .next s := if_pos h

/-- The mailbox whose turn it is starts the descriptor at its SQ_HEAD. -/
theorem exec_descriptorStart_turn {s : State} {mb : Fin 16} (hn : s.nextBox = some mb.val) (hv : s.v1Due = false)
    (h : s.hst.startedAt ≠ some s.beat.lbc) : exec (.descriptorStart mb) s =
      ((s.setBox mb.val { s.box mb.val with sqHead := ((s.box mb.val).sqHead + 1) % 2 ^ (s.box mb.val).sqLog }).withHst fun x =>
        { x with last := mb.val, startedAt := some s.beat.lbc }).runDescriptor ⟨mb.val, by omega⟩
        (s.mem (0x4000000000 + (s.box mb.val).sqBase * 256 + 64 * (s.box mb.val).sqHead) 64) := by
  show execDescriptorStart mb s = _
  simp [execDescriptorStart, h, hv, hn]

/-- A command that waits in the version 1 mailbox starts in the turn of any other. -/
theorem exec_descriptorStart_v1 {s : State} (hv : s.v1Due = true) (h : s.hst.startedAt ≠ some s.beat.lbc) (mb : Fin 16) :
    exec (.descriptorStart mb) s = s.startV1 := by
  show execDescriptorStart mb s = _
  rw [execDescriptorStart, if_neg h, if_pos hv]

/-- V1_GO takes the words of the mailbox, and starts them where firmware serves it and has started nothing in the beat. -/
theorem exec_v1Go {s : State} (hr : s.running = true) (h2 : s.fieldOf HST_STATE_SESAME 0 ≠ 2) (hb : (s.v1Word 8).getLsbD 1 = false) :
    let w := s.setV1 8 (s.v1Word 8 ||| 2)
    exec .v1Go s = if w.canTake 16 ∧ s.hst.startedAt ≠ some s.beat.lbc then w.startV1 else .next (w.withHst fun h => { h with v1Wait := true }) := by
  have hgo : (!s.running || s.fieldOf HST_STATE_SESAME 0 == 2 || (s.v1Word 8).getLsbD 1) = false := by
    rw [hr, hb, beq_false_of_ne h2]
    rfl
  show execV1Go s = _
  rw [execV1Go, hgo]
  rfl

/-- The control word is no part of the version 1 descriptor. -/
theorem State.v1Descriptor_setControl (s : State) (v : W32) : (s.setV1 8 v).v1Descriptor = s.v1Descriptor := by
  have h : ∀ i < 8, (s.setV1 8 v).v1Word i = s.v1Word i := fun i hi => by rw [State.v1Word_setV1, if_neg (by omega)]
  simp [State.v1Descriptor, h]

/-- Settles O13: whichever mailbox starts, it is `runDescriptor` that follows. -/
theorem descriptorsAreServedInTurn : Obligations.DescriptorsAreServedInTurn := by
  unfold Obligations.DescriptorsAreServedInTurn
  refine ⟨fun mb s h => exec_descriptorStart_late h mb, fun mb s hn hv h => ?_, fun mb s hv h => ?_, fun s hr h2 hb => ⟨fun ht h => ?_, fun hw => ?_⟩⟩
  · rw [exec_descriptorStart_turn hn hv h]
    exact State.runDescriptor_spec _ _ _
  · rw [exec_descriptorStart_v1 hv h]
    exact State.runDescriptor_spec _ _ _
  · rw [exec_v1Go hr h2 hb, if_pos ⟨ht, h⟩, State.startV1, State.v1Descriptor_setControl]
    exact State.runDescriptor_spec _ _ _
  · rw [exec_v1Go hr h2 hb, if_neg]
    rintro ⟨ht, h⟩
    rcases hw with hw | hw
    · exact absurd (ht.symm.trans hw) (by decide)
    · exact h hw

end Sys2Proof.Machine
end

section
/-! PROOFS. The fast page, as the host writes it (R39, R46, R47, R75, R441). -/

namespace Sys2Proof.Machine

theorem exec_registerWrite_host {s : State} (hr : s.running = true) (a : W64) (v : W32) :
    exec (.registerWrite .host a ⟨v, none⟩) s = s.writeFast a.toNat v := by
  show execRegisterWrite .host a ⟨v, none⟩ s = _
  simp [execRegisterWrite, hr]

theorem exec_registerWrite_host_wide {s : State} (hr : s.running = true) (a : W64) (v h : W32) :
    exec (.registerWrite .host a ⟨v, some h⟩) s =
      (match exec (.registerWrite .host a ⟨v, none⟩) s with | .next t => t.writeFast (a.toNat + 4) h | o => o) := by
  rw [exec_registerWrite_host hr]
  show execRegisterWrite .host a ⟨v, some h⟩ s = _
  simp only [execRegisterWrite, hr, Bool.not_true, Bool.false_eq_true, if_false]
  rfl

theorem State.writeFast_sqTail (s : State) {m : Nat} (hm : m < 16) (v : W32) : s.writeFast (0x1000 + 0x10 * m) v = .next (s.writeSqTail m v) := by
  unfold State.writeFast
  rw [if_neg (by omega), if_pos (by omega)]
  dsimp only
  rw [if_pos (by omega), show (0x1000 + 0x10 * m - 0x1000) / 0x10 = m by omega]
  rfl

theorem State.writeFast_cqHead (s : State) {m : Nat} (hm : m < 16) (v : W32) : s.writeFast (0x1004 + 0x10 * m) v = .next (s.writeCqHead m v) := by
  unfold State.writeFast
  rw [if_neg (by omega), if_pos (by omega)]
  dsimp only
  rw [if_neg (by omega), if_pos (by omega), show (0x1004 + 0x10 * m - 0x1000) / 0x10 = m by omega]
  rfl

theorem State.writeFast_v1 (s : State) {i : Nat} (hi : i < 4) (v : W32) : s.writeFast (0x3000 + 4 * i) v = .next (s.setV1 i v) := by
  unfold State.writeFast
  rw [if_neg (by omega), if_neg (by omega), if_pos (by omega), show (0x3000 + 4 * i - 0x3000) / 4 = i by omega]
  rfl

theorem State.writeFast_control (s : State) {v : W32} (h : v.getLsbD 0 = false) :
    s.writeFast 0x3020 v = .next (if v.getLsbD 2 then s.setV1 8 (s.v1Word 8 &&& 3) else s) := by
  unfold State.writeFast
  rw [if_neg (by omega), if_neg (by omega), if_neg (by omega), if_pos rfl]
  dsimp only
  rw [h]
  rfl

theorem State.writeFast_msix (s : State) {k : Nat} (hk : k < 256) (v : W32) : s.writeFast (0xE000 + 4 * k) v =
    .next (s.withHst fun h => { h with msix := h.msix.set msixReset k (if k % 4 = 3 then v &&& 1 else v) }) := by
  unfold State.writeFast
  rw [if_neg (by omega), if_neg (by omega), if_neg (by omega), if_neg (by omega), if_pos (by omega), show (0xE000 + 4 * k - 0xE000) / 4 = k by omega]
  rfl

/-- The two halves of HSK_ACK. -/
theorem State.writeFast_ack (s : State) (high : Bool) (v : W32) : s.writeFast (if high then 0x114 else 0x110) v =
    .next (s.acknowledge (if high then v.zeroExtend 64 <<< 32 else v.zeroExtend 64)) := by
  have hv : v &&& 0xFFFFFFFF = v := BitVec.and_allOnes
  cases high
  all_goals
    unfold State.writeFast
    simp only [State.writeReg, hv]
    rfl

/-- An offset that the page does not list, or that is read-only. -/
theorem State.writeFast_unlisted (s : State) {o : Nat} (v : W32) (h : o < 0x110 ∨ 0x118 ≤ o ∧ o < 0x1000 ∨ 0x1100 ≤ o ∧ o < 0x3000 ∨
    0x3010 ≤ o ∧ o < 0x3020 ∨ 0x3024 ≤ o ∧ o < 0xE000 ∨ 0xE400 ≤ o) : s.writeFast o v = .next s := by
  unfold State.writeFast
  rw [if_neg (by omega), if_neg (by omega), if_neg (by omega), if_neg (by omega), if_neg (by omega)]
  rfl

theorem exec_hskAckWrite {s : State} (hr : s.running = true) (high : Bool) (v : W32) : exec (.hskAckWrite high v) s =
    .next (s.acknowledge (if high then v.zeroExtend 64 <<< 32 else v.zeroExtend 64)) := done_live hr _

theorem State.latchFaults_none {s : State} (h : s.presented = []) : s.latchFaults = s := by
  rw [State.latchFaults, h]
  rfl

/-- A word of the MSI-X table written, and nothing else. -/
theorem State.msixWord_set (s : State) (k : Nat) (x : W32) (j : Nat) :
    (s.withHst fun h => { h with msix := h.msix.set msixReset k x }).msixWord j = if j = k then x else s.msixWord j := by
  unfold State.msixWord
  split
  · next e => rw [e]; exact Tab.get_set_same _ _ _ _
  · next e => exact Tab.get_set_other _ _ _ _ _ e

/-- What an acknowledgement clears, and that it changes nothing but the register file. -/
theorem State.acknowledge_spec (s : State) (w : W64) :
    let u := s.latchFaults
    let keep : W64 := if u.hsk.freshBeat = s.beat.lbc then u.hsk.fresh else 0
    let t := s.acknowledge w
    t.status = u.status &&& ~~~(w &&& ~~~keep) ∧ t.hsk = u.hsk ∧ { t with regs := u.regs } = u := by
  have hb : s.latchFaults.beat.lbc = s.beat.lbc := Kept.lbc (State.latchFaults_kept (Covers.refl _) (Kept.refl s)) (by decide)
  intro u keep t
  refine ⟨?_, rfl, rfl⟩
  have ht : t = u.setReg64 .HSK_STATUS 0 (u.status &&& ~~~(w &&& ~~~(if u.hsk.freshBeat = u.beat.lbc then u.hsk.fresh else 0))) := rfl
  rw [ht, State.status, State.reg64_setReg64, hb]

/-- Settles O35: one law of the page for each kind of word. -/
theorem fastPageWritesAct : Obligations.FastPageWritesAct := by
  unfold Obligations.FastPageWritesAct
  refine ⟨fun a v s hr => ⟨fun m hm e => ?_, fun m hm e => ?_, fun i hi e => ?_, fun e h0 => ?_, fun i hi j hj e => ?_, fun e => ?_, fun e => ?_, fun h => ?_,
    fun h => exec_registerWrite_host_wide hr a v h⟩, fun high v s hr => ⟨fun h => State.latchFaults_none h, _, exec_hskAckWrite hr high v, State.acknowledge_spec s _⟩⟩
  all_goals rw [exec_registerWrite_host hr]
  · rw [e, State.writeFast_sqTail s hm]
  · rw [e, State.writeFast_cqHead s hm]
  · rw [e, State.writeFast_v1 s hi]
  · rw [e, State.writeFast_control s h0]
  · rw [e, show 0xE000 + 16 * i + 4 * j = 0xE000 + 4 * (4 * i + j) by omega, State.writeFast_msix s (by omega), show (4 * i + j) % 4 = j by omega]
    refine ⟨_, rfl, ?_, fun k hk => ?_, rfl, rfl⟩
    · rw [State.msixWord_set, if_pos rfl]
    · rw [State.msixWord_set, if_neg hk]
  · rw [e, exec_hskAckWrite hr]
    exact State.writeFast_ack s false v
  · rw [e, exec_hskAckWrite hr]
    exact State.writeFast_ack s true v
  · exact State.writeFast_unlisted s v h

end Sys2Proof.Machine
end

section
/-! PROOFS. The agreement on a feature set (R56, R61, R62, R74). -/

namespace Sys2Proof.Machine

/-- A command that is accepted in FAULT_STOP and before the agreement meets no gate (R56, R440). -/
theorem State.gate_of_accepts (s : State) {code : Nat} (hstop : stopAccepts code = true) (hopen : openAccepts code = true) : s.gate code = none := by
  simp [State.gate, hstop, hopen]

section
variable {s : State} {iss : Issuer} {code : Nat} {checks : List (Bool × Nat)} {run : State → State}

/-- A command that meets no gate and that its checks do not refuse runs. -/
theorem State.command_runs_ungated (ht : s.canTake iss.mb.val = true) (hr : iss.reserved = false) (hg : s.gate code = none)
    (hc : ∀ p ∈ checks, p.1 = false) : s.command iss code true checks run = run s := by
  simp only [State.command, State.judge, ht, hg, Bool.not_true, lowest_shadowed hr, lowest_eq_none hc, if_true]

/-- A command that meets no gate answers the status with which its checks refuse it. -/
theorem State.command_refuses_ungated (ht : s.canTake iss.mb.val = true) (hr : iss.reserved = false) (hg : s.gate code = none) {st : Nat}
    (hc : lowest checks = some st) : s.command iss code true checks run = s.complete iss st [] := by
  simp only [State.command, State.judge, ht, hg, Bool.not_true, lowest_shadowed hr, hc, if_true]

end

/-- The applet cores in RUN return to RESET, the host's words are kept, and the device's are answered (R61, R374). -/
def State.greet (iss : Issuer) (words : List W32) (s : State) : State :=
  ((each ([2, 3, 4, 5, 6, 7].filter (fun k => s.coreState k == 1)) State.appletReset s).withHst fun h => { h with hello := some words }).complete iss
    Status.ok [0x3FF, 0, 0, 0, 0x0200]

/-- SYS_HELLO before the agreement. -/
theorem exec_sysHello_first {iss : Issuer} {s : State} (ht : s.canTake iss.mb.val = true) (hr : iss.reserved = false) (ha : s.agreed = false)
    (a b c d : W32) : exec (.sysHello iss a b c d) s = .next (s.greet iss [a, b, c, d]) := by
  refine congrArg Host.Outcome.next ((State.command_runs_ungated ht hr (s.gate_of_accepts rfl rfl) (by simp [ha])).trans ?_)
  rw [ha]
  rfl

/-- SYS_HELLO after the agreement, which it clears first. -/
theorem exec_sysHello_again {iss : Issuer} {s : State} (ht : s.canTake iss.mb.val = true) (hr : iss.reserved = false) (ha : s.agreed = true)
    (htxns : s.hst.txns = []) (howed : ∀ k < 17, k ≠ iss.mb.val → s.owed k = 0) (a b c d : W32) : exec (.sysHello iss a b c d) s =
      .next (State.greet iss [a, b, c, d] (each ((List.range 16).filter (fun k => k != 0 && k != iss.mb.val)) State.closeBox s.clearAgreement)) := by
  have hany : (List.range 17).any (fun k => k != iss.mb.val && s.owed k != 0) = false := by
    rw [List.any_eq_false]
    intro k hk
    by_cases hm : k = iss.mb.val
    · simp [hm]
    · simp [howed k (List.mem_range.1 hk) hm]
  refine congrArg Host.Outcome.next ((State.command_runs_ungated ht hr (s.gate_of_accepts rfl rfl) (by simp [htxns, hany])).trans ?_)
  rw [ha]
  rfl

theorem State.closeBox_hello (s : State) (m : Nat) : (s.closeBox m).hst.hello = s.hst.hello := by
  by_cases hc : (s.box m).st = 0
  · simp [State.closeBox, hc]
  · rw [State.closeBox_hst hc]
    rfl

/-- The words of the set agreed in force, AGREED set, and SESAME naming the protocol in use; the host's words are forgotten (R61). -/
def State.putAgreement (one : Bool) (set : List W32) (s : State) : State :=
  ((((each set.zipIdx (fun p => State.setReg .HST_FEAT p.2 0 p.1) s).putBit HST_STATE_AGREED 0 true).putField HST_STATE_SESAME 0
    (if one then 1 else 2)).putBit HST_STATE_CQ_REFUSE 0 ((set.getD 0 0).getLsbD 2)).withHst fun h => { h with hello := none }

/-- The agreement as two steps: the set in force, and the other protocol's mailboxes closed. -/
theorem State.fixAgreement_eq (one : Bool) (set : List W32) (s : State) : s.fixAgreement one set =
    (let t := s.putAgreement one set
     if one then
       let u := each ((List.range 15).map (· + 1)) State.closeBox (t.mute 0)
       (u.setBox 0 { u.box 0 with st := 0 }).withHst fun h => { h with state0 := (u.box 0).st }
     else if t.hst.v1Wait then (t.setV1 8 (t.v1Word 8 &&& ~~~2#32)).withHst fun h => { h with v1Wait := false }
     else t) := rfl

/-- The second step leaves the registers of the agreement, and no words of the host. -/
theorem State.fixAgreement_keeps (one : Bool) (set : List W32) (s : State) :
    Kept 0x700000000000000000000000000000e0 (s.putAgreement one set) (s.fixAgreement one set) ∧ (s.fixAgreement one set).hst.hello = none := by
  rw [State.fixAgreement_eq]
  generalize ht : s.putAgreement one set = t
  have hello : t.hst.hello = none := by rw [← ht]; rfl
  dsimp only
  split
  · have hk : Kept 0x700000000000000000000000000000e0 t (each ((List.range 15).map (· + 1)) State.closeBox (t.mute 0)) :=
      each_kept (fun m _ h => State.closeBox_kept (Covers.refl _) h m) _ (State.mute_kept (by decide) (Kept.refl t) 0)
    have hh : (each ((List.range 15).map (· + 1)) State.closeBox (t.mute 0)).hst.hello = none :=
      each_keeps (P := fun u => u.hst.hello = none) (fun m u h => (u.closeBox_hello m).trans h) _ hello
    generalize each ((List.range 15).map (· + 1)) State.closeBox (t.mute 0) = u at hk hh ⊢
    exact ⟨State.withHst_kept (by decide) (State.setBox_kept (by decide) hk _ _) _, hh⟩
  · split
    · exact ⟨State.withHst_kept (by decide) (State.setV1_kept (by decide) (Kept.refl t) _ _) _, hello⟩
    · exact ⟨Kept.refl t, hello⟩

theorem State.fieldOf_withHst (s : State) (f : Hst → Hst) (g : Field) (i : Nat) : (s.withHst f).fieldOf g i = s.fieldOf g i := rfl

theorem State.bitOf_withHst (s : State) (f : Hst → Hst) (g : Field) (i : Nat) : (s.withHst f).bitOf g i = s.bitOf g i := rfl

/-- What stands once a set is agreed. -/
theorem State.fixAgreement_agreed (one : Bool) (set : List W32) (s : State) : (s.fixAgreement one set).agreed = true ∧
    (s.fixAgreement one set).fieldOf HST_STATE_SESAME 0 = (if one then 1 else 2) ∧ (s.fixAgreement one set).hst.hello = none := by
  obtain ⟨hk, hello⟩ := State.fixAgreement_keeps one set s
  refine ⟨(hk.bitOf HST_STATE_AGREED (by decide) 0).trans ?_, (hk.fieldOf HST_STATE_SESAME (by decide) 0).trans ?_, hello⟩
  · unfold State.putAgreement
    rw [State.bitOf_withHst, State.bitOf_putBit_apart _ _ _ _ _ _ (by decide) (by decide), State.bitOf_putField_apart _ _ _ _ _ _ (by decide) (by decide),
      State.bitOf_putBit _ _ _ _ (by decide)]
  · unfold State.putAgreement
    rw [State.fieldOf_withHst, State.fieldOf_putBit_apart _ _ _ _ _ _ (by decide), State.fieldOf_putField _ _ _ _ (by decide)]
    cases one <;> rfl

section
variable {iss : Issuer} {s : State} (ht : s.canTake iss.mb.val = true) (hr : iss.reserved = false)
include ht hr

/-- SYS_AGREE of a set with the bit of the mailbox's protocol. -/
theorem exec_sysAgree_agrees {words : List W32} (hw : s.hst.hello = some words)
    (hb : ((agreedSet words).getD 0 0).getLsbD (if iss.mb = 16 then 1 else 0) = true) : exec (.sysAgree iss) s =
      .next ((s.fixAgreement (iss.mb == 16) (agreedSet words)).complete iss Status.ok ((agreedSet words).map BitVec.toNat)) := by
  show execSysAgree iss s = _
  unfold execSysAgree
  simp only [hw, Option.getD_some, beq_iff_eq]
  rw [State.command_runs_ungated ht hr (s.gate_of_accepts rfl rfl) (by simpa using hb)]
  rfl

/-- SYS_AGREE of a set without that bit. -/
theorem exec_sysAgree_lacks {words : List W32} (hw : s.hst.hello = some words)
    (hb : ((agreedSet words).getD 0 0).getLsbD (if iss.mb = 16 then 1 else 0) = false) :
    exec (.sysAgree iss) s = .next (s.complete iss Status.notAgreed []) := by
  show execSysAgree iss s = _
  unfold execSysAgree
  simp only [hw, Option.getD_some, beq_iff_eq]
  rw [State.command_refuses_ungated ht hr (s.gate_of_accepts rfl rfl) (lowest_eq_some (st := Status.notAgreed) (by simpa using hb) (by simp))]
  rfl

/-- SYS_AGREE without words of the host. -/
theorem exec_sysAgree_wordless (hw : s.hst.hello = none) : exec (.sysAgree iss) s = .next (s.complete iss Status.wrongState []) := by
  show execSysAgree iss s = _
  unfold execSysAgree
  simp only [hw]
  rw [State.command_refuses_ungated ht hr (s.gate_of_accepts rfl rfl) (lowest_eq_some (st := Status.wrongState) (by simp) (by simp))]
  rfl

end

/-- Settles O10: SYS_HELLO by whether a set is agreed, SYS_AGREE by what the host's words make. -/
theorem agreementIsNegotiated : Obligations.AgreementIsNegotiated := by
  unfold Obligations.AgreementIsNegotiated
  refine ⟨fun iss a b c d s ht hr ha => exec_sysHello_first ht hr ha a b c d,
    fun iss a b c d s ht hr ha htxns howed => exec_sysHello_again ht hr ha htxns howed a b c d,
    fun iss words s ht hr hw hb => ?_, fun iss words s ht hr hw hb => exec_sysAgree_lacks ht hr hw hb,
    fun iss s ht hr hw => exec_sysAgree_wordless ht hr hw, fun a b c d => ?_⟩
  · obtain ⟨hagreed, hsesame, hhello⟩ := State.fixAgreement_agreed (iss.mb == 16) (agreedSet words) s
    exact ⟨exec_sysAgree_agrees ht hr hw hb, hagreed, by simpa using hsesame, hhello⟩
  · simp [agreedSet, offered]

end Sys2Proof.Machine
end

section
/-! PROOFS. The deferred time steps, through what else happens in a beat: the list of deferred commands as far as NTU_TOD_STEP goes. -/

namespace Sys2Proof.Machine

/-- A deferred command as far as it is a time step. -/
def Deferred.step? (d : Deferred) : Option Deferred := match d.cmd with | .ntuTodStep .. => some d | _ => none

/-- The time steps of a state, in their places. -/
def State.steps (s : State) : List (Option Deferred) := s.hst.deferred.map Deferred.step?

theorem Deferred.step?_of_cmd {d e : Deferred} (h : d.step? = none) (hc : e.cmd = d.cmd) : e.step? = none := by
  unfold Deferred.step? at h ⊢
  rw [hc]
  split at h
  · cases h
  · rfl

/-- The outcome of a command that is no time step. -/
theorem Deferred.step?_outcome {d : Deferred} (h : d.step? = none) (o : Option (Nat × List Nat)) : Deferred.step? { d with outcome := o } = d.step? :=
  (Deferred.step?_of_cmd (d := d) (e := { d with outcome := o }) h rfl).trans h.symm

theorem map_step?_modFirst {hit : Deferred → Bool} {f : Deferred → Deferred} (hh : ∀ d, hit d = true → d.step? = none)
    (hf : ∀ d, (f d).cmd = d.cmd) (l : List Deferred) : (modFirst hit f l).map Deferred.step? = l.map Deferred.step? := by
  induction l with
  | nil => rfl
  | cons d l ih =>
    unfold modFirst
    split
    · next h => rw [List.map_cons, List.map_cons, hh d h, Deferred.step?_of_cmd (hh d h) (hf d)]
    · rw [List.map_cons, List.map_cons, ih]

/-- A change of the first command that is picked, none of them a time step. -/
theorem State.steps_modDeferred (s : State) {hit : Deferred → Bool} {f : Deferred → Deferred} (hh : ∀ d, hit d = true → d.step? = none)
    (hf : ∀ d, (f d).cmd = d.cmd) : (s.modDeferred hit f).steps = s.steps := map_step?_modFirst hh hf _

/-- A change of every command, none of them a time step. -/
theorem State.steps_mapDeferred (s : State) {f : Deferred → Deferred} (hf : ∀ d, (f d).step? = d.step?) :
    (s.withHst fun h => { h with deferred := h.deferred.map f }).steps = s.steps := by
  simp [State.steps, Function.comp_def, hf]

theorem Kept.hst {m : Nat} {s t : State} (h : Kept m s t) (hm : m.testBit Part.hst.ctorIdx = false) : t.hst = s.hst := h.same .hst hm

theorem Kept.ntu {m : Nat} {s t : State} (h : Kept m s t) (hm : m.testBit Part.ntu.ctorIdx = false) : t.ntu = s.ntu := h.same .ntu hm

theorem Kept.steps {m : Nat} {s t : State} (h : Kept m s t) (hm : m.testBit Part.hst.ctorIdx = false) : t.steps = s.steps := by
  unfold State.steps
  rw [h.hst hm]

theorem State.steps_leaveStart (s : State) (n how : Nat) : (s.leaveStart n how).steps = s.steps := by
  refine State.steps_modDeferred s (fun d h => ?_) (fun d => rfl)
  simp only [Bool.and_eq_true] at h
  unfold Deferred.step?
  split
  · next e => rw [e] at h; exact absurd h.2 Bool.false_ne_true
  · rfl

theorem State.steps_abortSite (s : State) (n b reason : Nat) : (s.abortSite n b reason).steps = s.steps := by
  have tell (t : State) (armed : Bool) (g : Option Nat) : (t.tellAbort n reason armed g).steps = t.steps := by
    have told : (when armed (State.leaveStart n (if reason = 6 then 1 else 3)) t).steps = t.steps := when_keeps State.steps (State.steps_leaveStart t _ _)
    exact (Kept.steps (State.compareGroup_kept (by decide) (State.aqSiteOver_kept (by decide) (State.event_kept (by decide)
      (Kept.refl _) _) n) g) (m := 0x20000000000000000000000000004000000004000000001220) (by decide)).trans told
  have close (t : State) : (t.closeThread n reason).steps = t.steps :=
    Kept.steps (m := 0x700000000000000800000200000002a0) (State.modThr_kept (by decide) (State.setReg_kept _ (by decide) (State.endThread_kept (by decide) (Kept.refl t) n 6) _ _ _) _ _) (by decide)
  by_cases h : (s.thr n).st = 1
  · rw [State.abortSite_armed b reason h, tell, close, (s.discardSite_kept n b).steps (by decide)]
  · rw [State.abortSite_started b reason h, tell, close,
      Kept.steps (State.siteQuiet_kept (Covers.refl _) (Kept.refl _) n _ _) (by decide), (s.discardSite_kept n b).steps (by decide)]

theorem State.steps_takeAborts (s : State) (l : List Nat) : (s.takeAborts l).steps = s.steps := by
  refine each_keeps (P := fun t : State => t.steps = s.steps) (fun n t ht => ?_) l rfl
  unfold State.takeAbort
  split
  · exact ht
  · split
    · exact ht
    · rw [State.steps_abortSite, ht]

theorem map_step?_modify {f : Deferred → Deferred} (hf : ∀ d, (f d).cmd = d.cmd) {l : List Deferred} {i : Nat}
    (hn : (l.map Deferred.step?)[i]? = some none) : (l.modify i f).map Deferred.step? = l.map Deferred.step? := by
  refine List.ext_getElem? fun k => ?_
  rw [List.getElem?_map, List.getElem?_map, List.getElem?_modify]
  by_cases hk : i = k
  · subst hk
    rw [List.getElem?_map] at hn
    obtain ⟨d, hd, hs⟩ := Option.map_eq_some_iff.1 hn
    simp [hd, hs, Deferred.step?_of_cmd hs (hf d)]
  · simp [hk]

/-- The outcome of a command that is no time step, at its index. -/
theorem State.steps_setOutcome {s : State} {i : Nat} (hn : s.steps[i]? = some none) (o : Nat × List Nat) : (s.setOutcome i o).steps = s.steps :=
  map_step?_modify (f := fun d => { d with outcome := some o }) (fun _ => rfl) hn

/-- The start of a burst whose command is deferred at its index. -/
theorem State.steps_startThreads {s : State} {i : Nat} {d : Deferred} (hd : s.hst.deferred[i]? = some d) (hs : d.step? = none) :
    (s.startThreads i d).steps = s.steps := by
  have ha : (s.takeAborts d.sites).steps = s.steps := State.steps_takeAborts s _
  have hn : (s.takeAborts d.sites).steps[i]? = some none := by
    rw [ha, State.steps, List.getElem?_map, hd, Option.map_some, hs]
  obtain ⟨x, hx, -⟩ := Option.map_eq_some_iff.1 ((List.getElem?_map ..).symm.trans hn)
  rw [State.startThreads_eq s d hx, ← ha, State.startAfter]
  split
  · rfl
  · have hsites := (State.startSites_kept (s.takeAborts d.sites) x).steps (by decide)
    rw [← hsites]
    exact State.steps_setOutcome (hsites ▸ hn) _

theorem State.steps_startAll (s : State) : s.startAll.steps = s.steps := by
  refine each_keeps (P := fun t : State => t.steps = s.steps) (fun i t ht => ?_) _ rfl
  split
  · next d hd =>
    split
    · next hdue =>
      refine (State.steps_startThreads hd ?_).trans ht
      unfold State.startDue at hdue
      rw [hd, Bool.and_eq_true] at hdue
      unfold Deferred.step?
      split
      · next e => rw [e] at hdue; exact absurd hdue.2 Bool.false_ne_true
      · rfl
    · exact ht
  · exact ht

theorem State.steps_cancelTodStarts (s : State) : s.cancelTodStarts.steps = s.steps := by
  unfold State.cancelTodStarts
  dsimp only
  rw [State.steps_mapDeferred]
  · refine (Kept.steps (each_kept (fun n t h => State.endThread_kept (Covers.refl _) h n 0) _ (Kept.refl _)) (by decide)).trans ?_
    rw [State.steps_startAll, State.steps_takeAborts]
  · intro d
    split
    · next h =>
      have hs : d.step? = none := by
        rw [Bool.and_eq_true] at h
        unfold Deferred.step?
        split
        · next e => rw [e] at h; exact absurd h.2 Bool.false_ne_true
        · rfl
      exact Deferred.step?_outcome hs _
    · rfl

theorem State.steps_returnTimed (s : State) (hit : Nat → Nat → Bool) (status : Nat) : (s.returnTimed hit status).steps = s.steps := by
  refine State.steps_mapDeferred s fun d => ?_
  split
  · next p q t ht =>
    split
    · have hs : d.step? = none := by
        unfold Deferred.step?
        split
        · next e => simp [Deferred.timed, e] at ht
        · rfl
      exact Deferred.step?_outcome hs _
    · rfl
  · rfl

theorem State.steps_alarmOver (s : State) (i status how : Nat) : (s.alarmOver i status how).steps = s.steps := by
  unfold State.alarmOver
  dsimp only
  rw [State.steps_modDeferred]
  · unfold State.steps
    rw [State.putField_hst]
  · intro d h
    unfold armOf at h
    rw [Bool.and_eq_true] at h
    unfold Deferred.step?
    split
    · next e => rw [e] at h; exact absurd h.2 Bool.false_ne_true
    · rfl
  · exact fun _ => rfl

end Sys2Proof.Machine
end

section
/-! PROOFS. Time-of-day: its reads, steps and slews, and NTU_INC (R41, R355 to R359, R368). -/

namespace Sys2Proof.Machine

/-! ### A step beyond 1 us, in its stages -/

/-- The new ToD, in the next epoch. -/
def State.jumpTod (delta : Int) (s : State) : State :=
  ((s.setTod ((s.tod : Int) + delta).toNat).withNtu fun n => { n with epoch := (s.ntu.epoch + 1) % 256 }).putField NTU_SERVO_STAT_EPOCH 0
    ((s.ntu.epoch + 1) % 256)

/-- An alarm armed by time is cancelled by a step (R361). -/
def State.cancelAlarm (i : Nat) (s : State) : State := (s.putBit NTU_ALM_STAT_CANCELLED i true).alarmOver i Status.timeStepped 1

/-- The alarms that are armed by time are cancelled. -/
def State.cancelAlarms (s : State) : State := each ((List.range 32).filter (fun i => s.fieldOf NTU_ALM_STAT_STATE i == 1)) State.cancelAlarm s

/-- What waits for a time of day ends: alarms, burst starts and, after a step back, timed frames (R358). -/
def State.dropTimed (delta : Int) (s : State) : State :=
  let u := s.cancelAlarms.cancelTodStarts
  if delta < 0 then u.returnTimed (fun _ t => decide (u.tod + timeOf 1 0 < t * 2 ^ 32)) Status.timeStepped else u

theorem State.correctTod_steps (s : State) {delta : Int} (h : 1000 * 2 ^ 32 < delta.natAbs) (servo : Bool) : s.correctTod delta servo =
    ((s.jumpTod delta).dropTimed delta).fault 11 0 0x0B04 (flag 8 servo + (s.ntu.epoch + 1) % 256) 0 := by
  unfold State.correctTod
  rw [if_neg (Nat.not_le.2 h)]
  rfl

theorem State.correctTod_slews (s : State) {delta : Int} (h : delta.natAbs ≤ 1000 * 2 ^ 32) (servo : Bool) : s.correctTod delta servo =
    (s.withNtu fun n => { n with slew := delta }).putBit NTU_SERVO_STAT_SLEWING 0 (delta != 0) := if_pos h

theorem State.cancelAlarm_kept {m : Nat} {r s : State} (hm : Covers m 0x20000000000000000000000000000000000000040) (h : Kept m r s) (i : Nat) :
    Kept m r (s.cancelAlarm i) :=
  State.alarmOver_kept hm (State.putBit_kept _ (hm.trans (by decide)) h _ _) _ _ _

/-- What waits for a time of day is no part of time itself. -/
theorem State.dropTimed_kept (s : State) (delta : Int) : Kept 0x2000000002000000007000027e00401f8800040200000032e0 s (s.dropTimed delta) := by
  have h : Kept 0x2000000002000000007000027e00401f8800040200000032e0 s s.cancelAlarms.cancelTodStarts :=
    State.cancelTodStarts_kept (by decide) (each_kept (fun i t h => State.cancelAlarm_kept (by decide) h i) _ (Kept.refl s))
  unfold State.dropTimed
  exact kept_ite (fun _ => State.returnTimed_kept (by decide) h _ _) (fun _ => h)

theorem State.steps_cancelAlarm (s : State) (i : Nat) : (s.cancelAlarm i).steps = s.steps := by
  unfold State.cancelAlarm
  rw [State.steps_alarmOver]
  unfold State.steps
  rw [State.putBit_hst]

theorem State.steps_dropTimed (s : State) (delta : Int) : (s.dropTimed delta).steps = s.steps := by
  have ha : s.cancelAlarms.steps = s.steps :=
    each_keeps (P := fun t : State => t.steps = s.steps) (fun i t ht => (State.steps_cancelAlarm t i).trans ht) _ rfl
  have h : s.cancelAlarms.cancelTodStarts.steps = s.steps := (State.steps_cancelTodStarts _).trans ha
  unfold State.dropTimed
  dsimp only
  split
  · rw [State.steps_returnTimed, h]
  · exact h

/-- A cancelled alarm is not armed by time, and one that is not stays so. -/
theorem State.cancelAlarm_state (s : State) (i a : Nat) :
    (s.cancelAlarm i).fieldOf NTU_ALM_STAT_STATE a = if i = a then 0 else s.fieldOf NTU_ALM_STAT_STATE a := by
  unfold State.cancelAlarm State.alarmOver State.modDeferred
  dsimp only
  rw [State.fieldOf_withHst]
  split
  · next h => rw [h, State.fieldOf_putField _ _ _ _ (by decide)]; rfl
  · next h => rw [State.fieldOf_putField_index _ _ _ _ _ _ (by decide) (by decide) h, State.fieldOf_putBit_apart _ _ _ _ _ _ (by decide)]

theorem State.cancelAlarms_none (s : State) {a : Nat} (h : a < 32) : s.cancelAlarms.fieldOf NTU_ALM_STAT_STATE a ≠ 1 := by
  have keep : ∀ i (t : State), t.fieldOf NTU_ALM_STAT_STATE a ≠ 1 → (t.cancelAlarm i).fieldOf NTU_ALM_STAT_STATE a ≠ 1 := fun i t ht => by
    rw [State.cancelAlarm_state]
    split
    · decide
    · exact ht
  by_cases ha : s.fieldOf NTU_ALM_STAT_STATE a = 1
  · refine each_reaches (P := fun t : State => t.fieldOf NTU_ALM_STAT_STATE a ≠ 1) keep (a := a) (fun t => ?_) (by simp [h, ha]) s
    rw [State.cancelAlarm_state, if_pos rfl]
    decide
  · exact each_keeps (P := fun t : State => t.fieldOf NTU_ALM_STAT_STATE a ≠ 1) keep _ ha

theorem State.dropTimed_alarms (s : State) (delta : Int) {a : Nat} (h : a < 32) : (s.dropTimed delta).fieldOf NTU_ALM_STAT_STATE a ≠ 1 := by
  have hk : Kept 0x2000000000000000007000027e00401f8800040200000032e0 s.cancelAlarms (s.dropTimed delta) := by
    have hc := State.cancelTodStarts_kept (Covers.refl _) (Kept.refl s.cancelAlarms)
    unfold State.dropTimed
    exact kept_ite (fun _ => State.returnTimed_kept (by decide) hc _ _) (fun _ => hc)
  rw [hk.fieldOf NTU_ALM_STAT_STATE (by decide)]
  exact s.cancelAlarms_none h

/-! ### The step that is due -/

/-- A time step that is due (R357, R358). -/
def State.dueStep (s : State) (d : Deferred) : Bool :=
  d.outcome.isNone && decide (d.due ≤ s.beat.lbc) && (match d.cmd with | .ntuTodStep .. => true | _ => false)

/-- The step answers when it came, how it was taken, and the epoch that it leaves. -/
def noteStep (how epoch : Nat) (d : Deferred) : Deferred := { d with outcome := some (Status.ok, [d.due % 2 ^ 32, d.due / 2 ^ 32, how, epoch]) }

theorem State.dueStep_false {s : State} {e : Deferred}
    (h : ∀ a b c f g, e.cmd = .ntuTodStep a b c f g → e.outcome ≠ none ∨ s.beat.lbc < e.due) : s.dueStep e = false := by
  unfold State.dueStep
  split
  · next hc =>
    rcases h _ _ _ _ _ hc with ho | hd
    · simp [ho]
    · simp [Nat.not_le.2 hd]
  · rw [Bool.and_false]

theorem Deferred.step?_eq_some {d e : Deferred} (h : d.step? = some e) : e = d := by
  unfold Deferred.step? at h
  split at h
  · exact (Option.some.inj h).symm
  · cases h

theorem State.step?_of_dueStep {s : State} {e : Deferred} (h : s.dueStep e = true) : e.step? = some e := by
  unfold State.dueStep at h
  rw [Bool.and_eq_true] at h
  unfold Deferred.step?
  split
  · rfl
  · next hn =>
    have h2 := h.2
    split at h2
    · exact absurd ‹_› (hn _ _ _ _ _)
    · cases h2

/-- Where the command that is picked first stands, its change is found. -/
theorem getElem?_modFirst {hit : Deferred → Bool} (f : Deferred → Deferred) {d : Deferred} (hd : hit d = true) {l : List Deferred} :
    ∀ {i : Nat}, l[i]? = some d → (∀ e ∈ l.take i, hit e = false) → (modFirst hit f l)[i]? = some (f d) := by
  induction l with
  | nil => intro i h; cases h
  | cons x l ih =>
    intro i h hb
    cases i with
    | zero =>
      obtain rfl : x = d := Option.some.inj h
      rw [modFirst, if_pos hd]
      rfl
    | succ i =>
      rw [modFirst, if_neg (by simp [hb x List.mem_cons_self])]
      exact ih h fun e he => hb e (List.mem_cons_of_mem _ he)

section
variable {s : State} {i : Nat} {d : Deferred} (hd : s.hst.deferred[i]? = some d) (hdue : s.dueStep d = true)
  (hb : ∀ e ∈ s.hst.deferred.take i, s.dueStep e = false)
include hd hdue hb

theorem State.find?_dueStep : s.hst.deferred.find? s.dueStep = some d := by
  obtain ⟨hi, rfl⟩ := List.getElem?_eq_some_iff.1 hd
  refine List.find?_eq_some_iff_getElem.2 ⟨hdue, i, hi, rfl, fun j hj => ?_⟩
  rw [hb _ (List.mem_take_iff_getElem.2 ⟨j, by omega, rfl⟩)]
  rfl

/-- In a state with the same time steps, the one that is due stands where it stood, and none before it is due. -/
theorem State.noteStep_found {t : State} (ht : t.steps = s.steps) (how epoch : Nat) :
    (t.modDeferred s.dueStep (noteStep how epoch)).hst.deferred[i]? = some (noteStep how epoch d) := by
  refine getElem?_modFirst _ hdue ?_ fun e he => ?_
  · have h : t.steps[i]? = some (some d) := by
      rw [ht, State.steps, List.getElem?_map, hd, Option.map_some, State.step?_of_dueStep hdue]
    obtain ⟨x, hx, hs⟩ := Option.map_eq_some_iff.1 ((List.getElem?_map ..).symm.trans h)
    rw [hx, Deferred.step?_eq_some hs]
  · by_contra hne
    have hs := State.step?_of_dueStep (Bool.eq_true_of_not_eq_false hne)
    have hm : e.step? ∈ s.steps.take i := by
      rw [← ht, State.steps, ← List.map_take]
      exact List.mem_map_of_mem he
    rw [State.steps, ← List.map_take] at hm
    obtain ⟨x, hx, hxs⟩ := List.mem_map.1 hm
    rw [hs] at hxs
    rw [Deferred.step?_eq_some hxs] at hne
    exact hne (hb x hx)

theorem exec_todStepApply_due (hr : s.running = true) {iss : Issuer} {mode : Byte} {lbc value : W64} {nanos : W32}
    (hc : d.cmd = .ntuTodStep iss mode lbc value nanos) : exec .todStepApply s =
      .next ((s.correctTod (s.stepDelta mode value nanos) false).modDeferred s.dueStep
        (noteStep (if (s.stepDelta mode value nanos).natAbs ≤ 1000 * 2 ^ 32 then 1 else 0)
          (s.correctTod (s.stepDelta mode value nanos) false).ntu.epoch)) := by
  refine (done_live hr _).trans (congrArg _ ?_)
  show (match s.hst.deferred.find? s.dueStep with | some d => _ | none => _) = _
  rw [State.find?_dueStep hd hdue hb]
  dsimp only
  rw [hc]
  rfl

end

theorem exec_todStepApply_none {s : State} (hr : s.running = true) (h : ∀ e ∈ s.hst.deferred, s.dueStep e = false) : exec .todStepApply s =
    .next (match s.ntu.servoStep with
      | some o => (s.withNtu fun n => { n with servoStep := none }).correctTod (o * 65536) true
      | none => s) := by
  refine (done_live hr _).trans (congrArg _ ?_)
  show (match s.hst.deferred.find? s.dueStep with | some d => _ | none => _) = _
  rw [List.find?_eq_none.2 fun e he => by simp [h e he]] <;> rfl

/-- What a correction within 1 us leaves. -/
theorem State.correctTod_slewed (s : State) {delta : Int} (h : delta.natAbs ≤ 1000 * 2 ^ 32) : let t := s.correctTod delta false
    t.ntu.slew = delta ∧ t.tod = s.tod ∧ t.ntu.epoch = s.ntu.epoch ∧ t.bitOf NTU_SERVO_STAT_SLEWING 0 = decide (delta ≠ 0) ∧
    t.steps = s.steps := by
  have hntu : (s.correctTod delta false).ntu = { s.ntu with slew := delta } := by
    rw [State.correctTod_slews s h]
    exact State.setReg_ntu ..
  refine ⟨congrArg Ntu.slew hntu, ?_, (congrArg Ntu.epoch hntu :), ?_, ?_⟩
  · unfold State.tod
    rw [hntu]
  · rw [State.correctTod_slews s h, State.bitOf_putBit _ _ _ _ (by decide), Bool.eq_iff_iff, bne_iff_ne, decide_eq_true_eq]
  · unfold State.steps
    rw [State.correctTod_slews s h, State.putBit_hst, State.withNtu_hst]

/-- What a step beyond 1 us leaves. -/
theorem State.correctTod_leaves (s : State) {delta : Int} (h : 1000 * 2 ^ 32 < delta.natAbs) : let t := s.correctTod delta false
    (0 ≤ s.tod + delta → (s.tod + delta).toNat < 2 ^ 48 * (1000000000 * 2 ^ 32) → t.tod = (s.tod + delta).toNat) ∧
    t.ntu.epoch = (s.ntu.epoch + 1) % 256 ∧ (∀ a : Fin 32, t.fieldOf NTU_ALM_STAT_STATE a.val ≠ 1) ∧
    t.hsk.lines.getLast? = some (s.faultLine 11 0 0x0B04 t.ntu.epoch 0) ∧ t.steps = s.steps := by
  have hk := (s.jumpTod delta).dropTimed_kept delta
  have hntu : ((s.jumpTod delta).dropTimed delta).ntu = (s.jumpTod delta).ntu := hk.ntu (by decide)
  have hlbc : ((s.jumpTod delta).dropTimed delta).beat.lbc = s.beat.lbc := hk.lbc (by decide)
  have hepoch : ((s.jumpTod delta).dropTimed delta).ntu.epoch = (s.ntu.epoch + 1) % 256 := by rw [hntu]; rfl
  rw [State.correctTod_steps s h]
  refine ⟨fun _ hx => ?_, hepoch, fun a => State.dropTimed_alarms _ _ a.isLt, ?_, (State.steps_dropTimed _ _).trans rfl⟩
  · exact (State.tod_congr hntu).trans (State.tod_setTod s hx)
  · rw [State.fault_lines, List.getLast?_concat]
    show some ((_ + 1, _) : Nat × FaultRec) = some ((_ + 1, _) : Nat × FaultRec)
    rw [hlbc, show ((((s.jumpTod delta).dropTimed delta).fault 11 0 0x0B04 (flag 8 false + (s.ntu.epoch + 1) % 256) 0).ntu.epoch) =
      (s.ntu.epoch + 1) % 256 from hepoch, show flag 8 false = 0 from rfl, Nat.zero_add]

/-! ### The commands -/

theorem exec_ntuTodRead {s : State} {iss : Issuer} (h : s.serves iss) : exec (.ntuTodRead iss) s = .next (s.complete iss Status.ok
    [s.ntu.ns, s.ntu.sec % 2 ^ 32, s.ntu.frac / 2 ^ 16 * 2 ^ 16 + s.ntu.sec / 2 ^ 32 % 2 ^ 16, s.beat.lbc % 2 ^ 32,
     s.beat.lbc / 2 ^ 32 % 2 ^ 32, s.ntu.epoch + (if s.bitOf NTU_SERVO_STAT_SLEWING 0 then 256 else 0)]) := by
  show done (s.command iss 0x0B01 true [] _) = _
  rw [State.command_runs h (by simp)]
  rfl

theorem exec_ntuTodStep_accepted {s : State} {iss : Issuer} (h : s.serves iss) (h16 : iss.mb ≠ 16) {mode : Byte} {lbc value : W64} {nanos : W32}
    (hmode : mode.toNat ≤ 1) (hl : lbc = 0 ∨ s.beat.lbc + 800 ≤ lbc.toNat) (hv : mode = 1 → value.toNat < 2 ^ 48 ∧ nanos.toNat < 1000000000)
    (ho : s.servoOwns = false) (hs : s.ntu.slew = 0) (hp : s.stepPending = false) : exec (.ntuTodStep iss mode lbc value nanos) s =
      .next (s.defer iss (.ntuTodStep iss mode lbc value nanos) (if lbc = 0 then s.beat.lbc + 1 else lbc.toNat) []) := by
  have hargs : (decide (1 < mode.toNat) || (lbc != 0 && decide (lbc.toNat < s.beat.lbc + 800)) ||
      (mode == 1 && (decide (2 ^ 48 ≤ value.toNat) || decide (1000000000 ≤ nanos.toNat)))) = false := by
    rw [Bool.or_eq_false_iff, Bool.or_eq_false_iff]
    refine ⟨⟨decide_eq_false (Nat.not_lt.2 hmode), ?_⟩, ?_⟩
    · rcases hl with rfl | hl
      · rfl
      · rw [decide_eq_false (Nat.not_lt.2 hl), Bool.and_false]
    · by_cases hm : mode = 1
      · obtain ⟨hv, hn⟩ := hv hm
        rw [decide_eq_false (Nat.not_le.2 hv), decide_eq_false (Nat.not_le.2 hn), Bool.or_false, Bool.and_false]
      · rw [beq_false_of_ne hm, Bool.false_and]
  show execNtuTodStep iss mode lbc value nanos s = _
  unfold execNtuTodStep
  simp only [bne_iff_ne.2 h16]
  rw [State.command_runs h (by simpa [ho, hs, hp] using hargs)]
  rfl

/-! ### NTU_INC -/

theorem writerKey_eq_zero {who : Writer} (h : writerKey who = 0) : who = .host := by
  cases who with
  | host => rfl
  | hazel k => exact absurd h (Nat.succ_ne_zero _)

/-- A whole value of NTU_INC: held for the next boundary within the range of R356, else ignored, with the fault for all but the host. -/
def State.putInc (who : Writer) (x : W64) (u : State) : State :=
  if 0x13FAE147B ≤ x.toNat ∧ x.toNat ≤ 0x14051EB85
  then u.withNtu fun n => { n with inc := some x } else if who = .host then u else u.fault 11 0 0x0B02 (lo32 x).toNat 0

theorem State.writeInc_eq (s : State) (who : Writer) (x : W64) : s.writeInc (writerKey who) x = s.putInc who x := by
  have hok : incOk x = decide (0x13FAE147B ≤ x.toNat ∧ x.toNat ≤ 0x14051EB85) := by rw [Bool.decide_and]; rfl
  unfold State.writeInc State.putInc
  rw [hok]
  simp only [decide_eq_true_eq]
  refine if_congr Iff.rfl rfl (if_congr ⟨writerKey_eq_zero, fun h => ?_⟩ rfl rfl)
  rw [h]
  rfl

theorem State.heldOf_holdLo (s : State) (who : Nat) (st : Stem) (i : Nat) (v : W32) : (s.holdLo who st i v).heldOf who st i = v := Tab.get_set_same _ _ _ _

theorem exec_ntuIncWrite_owned {s : State} (hr : s.running = true) (ho : s.servoOwns = true) (high : Bool) (w : Written) :
    exec (.ntuIncWrite .host high w) s = .next s :=
  (done_live hr _).trans (congrArg _ (if_pos ⟨rfl, ho⟩))

/-- A write of NTU_INC that the servo's ownership does not stop. -/
theorem exec_ntuIncWrite {s : State} {who : Writer} (hr : s.running = true) (ho : who = .host → s.servoOwns = false) (high : Bool) (w : Written) :
    exec (.ntuIncWrite who high w) s = .next (match w.wide with
      | some h => (s.writeIncWord (writerKey who) false w.value).writeIncWord (writerKey who) true h
      | none => s.writeIncWord (writerKey who) high w.value) :=
  (done_live hr _).trans (congrArg _ (if_neg fun h => by
    have := ho (writerKey_eq_zero h.1)
    rw [h.2] at this
    exact absurd this (by decide)))

/-- Settles O19: a correction slews or steps; a step keeps the time steps that wait, and so finds its own. -/
theorem timeIsReadSetAndStepped : Obligations.TimeIsReadSetAndStepped := by
  unfold Obligations.TimeIsReadSetAndStepped
  refine ⟨fun iss s h => exec_ntuTodRead h, fun iss mode lbc value nanos s h h16 hmode hl hv ho hs hp => exec_ntuTodStep_accepted h h16 hmode hl hv ho hs hp,
    ?_, fun s hr h => exec_todStepApply_none hr fun e he => State.dueStep_false (h e he),
    fun high w s hr ho => exec_ntuIncWrite_owned hr ho high w, ?_⟩
  · intro i d iss mode lbc value nanos s hr hd hc hout hbeat hbefore delta
    have hdue : s.dueStep d = true := by simp [State.dueStep, hout, hbeat, hc]
    have hb : ∀ e ∈ s.hst.deferred.take i, s.dueStep e = false := fun e he => State.dueStep_false (hbefore e he)
    have hexec := exec_todStepApply_due hd hdue hb hr hc
    constructor
    · intro hsmall
      obtain ⟨hslew, htod, hepoch, hbit, hsteps⟩ := s.correctTod_slewed hsmall
      rw [if_pos hsmall, hepoch] at hexec
      exact ⟨_, hexec, hslew, htod, hepoch, hbit, _, State.noteStep_found hd hdue hb hsteps _ _, rfl⟩
    · intro hbig
      obtain ⟨htod, hepoch, halarms, hline, hsteps⟩ := s.correctTod_leaves hbig
      rw [if_neg (Nat.not_le.2 hbig)] at hexec
      exact ⟨_, hexec, htod, hepoch, halarms, hline, _, State.noteStep_found hd hdue hb hsteps _ _, rfl⟩
  · intro who v s hr ho held taken
    have htaken : ∀ x u, taken x u = u.putInc who x := fun x u => rfl
    refine ⟨exec_ntuIncWrite hr ho false _, ?_, fun high h => ?_⟩
    · rw [exec_ntuIncWrite hr ho, htaken, ← State.writeInc_eq]
      rfl
    · rw [exec_ntuIncWrite hr ho, htaken, ← State.writeInc_eq]
      show Host.Outcome.next (held.writeInc (writerKey who) (join64 (held.heldOf (writerKey who) .NTU_INC 0) h)) = _
      rw [State.heldOf_holdLo]

end Sys2Proof.Machine
end

section
/-! PROOFS. The supply controllers: what their comparators and commands change, controller by controller (R304 to R309). -/

namespace Sys2Proof.Machine

/-- A list without repetition, whose changes for other entries leave what is read of entry `a`: its own change is taken once. -/
theorem each_at {α β : Type} {get : State → β} {g : β → β} {a : α} {f : α → State → State} (hother : ∀ x t, x ≠ a → get (f x t) = get t)
    (hself : ∀ t, get (f a t) = g (get t)) {l : List α} (hl : l.Nodup) (hm : a ∈ l) : ∀ s : State, get (each l f s) = g (get s) := by
  induction l with
  | nil => exact absurd hm List.not_mem_nil
  | cons x l ih =>
    intro s
    obtain ⟨hx, hl⟩ := List.nodup_cons.1 hl
    rcases List.mem_cons.1 hm with rfl | hm
    · refine (each_keeps_mem (P := fun t => get t = g (get s)) l (fun y hy t ht => ?_) _ (hself s))
      rw [hother y t fun e => hx (e ▸ hy), ht]
    · refine (ih hl hm (f x s)).trans (congrArg g (hother x s fun e => hx (e ▸ hm)))

theorem mem_maskList {w : Nat} {m : BitVec w} {n i : Nat} : i ∈ maskList m n ↔ i < n ∧ m.getLsbD i = true := by
  rw [maskList, List.mem_filter, List.mem_range]

/-! ### What changes for one controller only -/

/-- From `r` to `s` no SUP_STAT moves but that of controller `k`. -/
def StatOnly (k : Nat) (r s : State) : Prop := ∀ c, c ≠ k → s.reg .SUP_STAT c = r.reg .SUP_STAT c

theorem StatOnly.refl {k : Nat} (s : State) : StatOnly k s s := fun _ _ => rfl

section
variable {k : Nat} {r s : State} (h : StatOnly k r s)
include h

theorem StatOnly.trans {t : State} (h' : StatOnly k s t) : StatOnly k r t := fun c hc => (h' c hc).trans (h c hc)

theorem StatOnly.kept {m : Nat} {t : State} (hk : Kept m s t) (hm : m.testBit (32 + Stem.SUP_STAT.ctorIdx) = false) : StatOnly k r t :=
  h.trans fun c _ => hk.reg .SUP_STAT hm c 0

theorem StatOnly.setReg (v : W32) : StatOnly k r (s.setReg .SUP_STAT k 0 v) := h.trans fun c hc =>
  State.reg_setReg_other s _ _ _ _ _ _ _ (by decide) (by decide) fun e => hc e.2.1.symm

theorem StatOnly.modSup (c : Nat) (f : Sup → Sup) : StatOnly k r (s.modSup c f) := h.trans fun _ _ => rfl

theorem StatOnly.putState (v : Nat) : StatOnly k r (s.putField SUP_STAT_STATE k v) := h.setReg _

theorem StatOnly.supLow (st : Nat) : StatOnly k r (s.supLow k st) := (h.modSup k _).putState st

end

theorem StatOnly.ite {k : Nat} {r a b : State} {p : Prop} [Decidable p] (ha : StatOnly k r a) (hb : StatOnly k r b) :
    StatOnly k r (if p then a else b) := by
  split
  · exact ha
  · exact hb

section
variable {k : Nat} {r s : State} (h : StatOnly k r s)
include h

theorem StatOnly.supTrip (m : Nat) : StatOnly k r (s.supTrip k m) := by
  unfold State.supTrip
  refine StatOnly.ite h ?_
  have hlatch := (h.setReg (s.reg .SUP_STAT k ||| BitVec.ofNat 32 (2 ^ m))).modSup k fun x => { x with cur := x.cur ||| 2 ^ m }
  refine StatOnly.ite hlatch ?_
  have hfault (c : Bool) (trips e : Nat) (b : Nat) (f : Sup → Sup) {u : State} (hu : StatOnly k r u) :
      StatOnly k r (when c (State.supFault k trips) (((u.event e).happenAll 6 (k + 32 * m) b).modSup k f)) :=
    hu.kept (m := 0x20000000000000000000000000000000000000000000002220)
      (when_kept (State.modSup_kept (by decide) (State.happenAll_kept (by decide) (State.event_kept (by decide) (Kept.refl u) e) _ _ b) _ _)
        _ _ fun t ht => State.supFault_kept (by decide) ht _ _) (by decide)
  exact StatOnly.ite ((hfault _ _ _ _ _ hlatch).supLow 4) (hfault _ _ _ _ _ hlatch)

theorem StatOnly.supJudge (m : Nat) (hit : Bool) : StatOnly k r (s.supJudge k m hit) :=
  StatOnly.ite ((h.modSup k _).supTrip m) (h.modSup k _)

theorem StatOnly.supResolve (m : Nat) (x : Int) : StatOnly k r (s.supResolve k m x) :=
  StatOnly.ite h ((h.setReg _).supJudge m _)

theorem StatOnly.supBlanked (peak : Bool) (x : Sensed) : StatOnly k r (s.supBlanked k peak x) :=
  each_keeps (P := StatOnly k r) (fun m _ ht => ht.supJudge m _) _ ((h.modSup k _).setReg _)

theorem StatOnly.supPeak (x : PeakSense) : StatOnly k r (s.supPeak k x) :=
  StatOnly.ite h (StatOnly.ite ((h.modSup k _).supTrip 3) (h.modSup k _))

end

/-- The trips that are taken first are those of the named controllers. -/
theorem State.tripsFirst_stat (s : State) {m : W32} {c : Nat} (hc : m.getLsbD c = false) : (s.tripsFirst m).reg .SUP_STAT c = s.reg .SUP_STAT c := by
  have mine {k : Fin 32} {t u : State} (h : StatOnly k.val t u) :
      (if m.getLsbD k.val = true then u else t).reg .SUP_STAT c = t.reg .SUP_STAT c := by
    split
    · next hk => exact h c fun e => by rw [e, hk] at hc; cases hc
    · rfl
  refine each_keeps (P := fun t : State => t.reg .SUP_STAT c = s.reg .SUP_STAT c) (fun i t ht => ?_) _ rfl
  refine Eq.trans ?_ ht
  split
  · exact mine ((StatOnly.refl t).supJudge _ _)
  · exact mine ((StatOnly.refl t).supResolve _ _)
  · exact mine ((StatOnly.refl t).supBlanked _ _)
  · exact mine ((StatOnly.refl t).supPeak _)
  · rfl

/-- They leave every VSET. -/
theorem State.tripsFirst_vset (s : State) (m : W32) (c : Nat) : (s.tripsFirst m).reg .SUP_VSET c = s.reg .SUP_VSET c :=
  (State.tripsFirst_kept (Covers.refl _) (Kept.refl s) m).reg .SUP_VSET (by decide) c 0

/-! ### SUP_SET -/

/-- SUP_SET at one controller. -/
def State.supSetOne (op : Byte) (vset : W16) (c : Nat) (s : State) : State :=
  let s := if vset = 0xFFFF then s else s.putField SUP_VSET_VSET c vset.toNat
  match op.toNat with
  | 0 => if s.supState c = 4 then s.supLow c 0 else s.supRamp c
  | 1 => s.supStart c
  | _ => if s.supState c = 0 then s else s.supLow c 0

theorem State.supSet_eq_each (s : State) (m : W32) (op : Byte) (vset : W16) :
    s.supSet m op vset = each (maskList m 32) (State.supSetOne op vset) s := rfl

/-- The state that SUP_SET makes of a controller's (R306). -/
def setState (op : Byte) (st : Nat) : Nat :=
  match op.toNat with
  | 0 => if st = 4 then 0 else if st = 1 ∨ st = 2 then 3 else st
  | 1 => if st = 0 ∨ st = 3 then 1 else st
  | _ => 0

theorem State.supState_putState (s : State) (c v : Nat) (hv : v < 8) : (s.putField SUP_STAT_STATE c v).supState c = v :=
  State.fieldOf_putField_same _ _ _ _ (by decide) hv

theorem State.supState_supLow (s : State) (c st : Nat) (h : st < 8) : (s.supLow c st).supState c = st := State.supState_putState _ c st h

theorem State.supState_supRamp (s : State) (c : Nat) : (s.supRamp c).supState c = if s.supState c = 1 ∨ s.supState c = 2 then 3 else s.supState c := by
  unfold State.supRamp
  split
  · exact State.supState_putState _ c 3 (by decide)
  · rfl

theorem State.supState_supStart (s : State) (c : Nat) : (s.supStart c).supState c = if s.supState c = 0 ∨ s.supState c = 3 then 1 else s.supState c := by
  unfold State.supStart
  split
  · next h => rw [State.supState_putState _ c 1 (by decide), if_pos (Or.inl h)]
  · next h => rw [State.supState_putState _ c 1 (by decide), if_pos (Or.inr h)]
  · next h0 h3 => rw [if_neg (by rintro (h | h); exacts [h0 h, h3 h])]

theorem State.supState_putVset (s : State) (v : W16) (c : Nat) :
    (if v = 0xFFFF then s else s.putField SUP_VSET_VSET c v.toNat).supState c = s.supState c := by
  split
  · rfl
  · exact State.fieldOf_putField_apart s SUP_VSET_VSET SUP_STAT_STATE c c _ (by decide)

theorem State.supState_supSetOne (s : State) (op : Byte) (v : W16) (c : Nat) : (s.supSetOne op v c).supState c = setState op (s.supState c) := by
  unfold State.supSetOne setState
  rw [← s.supState_putVset v c]
  generalize (if v = 0xFFFF then s else s.putField SUP_VSET_VSET c v.toNat) = t
  dsimp only
  split
  · split
    · exact t.supState_supLow c 0 (by decide)
    · exact t.supState_supRamp c
  · exact t.supState_supStart c
  · split
    · assumption
    · exact t.supState_supLow c 0 (by decide)

theorem statOnly_supSetOne (s : State) (op : Byte) (v : W16) (k : Nat) : StatOnly k s (s.supSetOne op v k) := by
  unfold State.supSetOne
  have hv : StatOnly k s (if v = 0xFFFF then s else s.putField SUP_VSET_VSET k v.toNat) :=
    StatOnly.ite (StatOnly.refl s) fun c _ => State.reg_putField_stem s _ _ _ _ (by decide)
  dsimp only
  split
  · exact StatOnly.ite (hv.supLow 0) (StatOnly.ite ((hv.modSup k _).putState 3) hv)
  · unfold State.supStart
    split
    · exact (hv.modSup k _).putState 1
    · exact (hv.modSup k _).putState 1
    · exact hv
  · exact StatOnly.ite hv (hv.supLow 0)

/-- VSET changes only by its own write. -/
theorem State.vset_supSetOne (s : State) (op : Byte) (v : W16) (k c : Nat) :
    (s.supSetOne op v k).reg .SUP_VSET c = (if v = 0xFFFF then s else s.putField SUP_VSET_VSET k v.toNat).reg .SUP_VSET c := by
  unfold State.supSetOne
  generalize (if v = 0xFFFF then s else s.putField SUP_VSET_VSET k v.toNat) = t
  have hk : Kept 0x2000000000000000000000000002000 t (match op.toNat with
      | 0 => if t.supState k = 4 then t.supLow k 0 else t.supRamp k
      | 1 => t.supStart k
      | _ => if t.supState k = 0 then t else t.supLow k 0) := by
    split
    · exact kept_ite (fun _ => State.supLow_kept (by decide) (Kept.refl t) _ _) fun _ => State.supRamp_kept (by decide) (Kept.refl t) _
    · exact State.supStart_kept (by decide) (Kept.refl t) _
    · exact kept_ite (fun _ => Kept.refl t) fun _ => State.supLow_kept (by decide) (Kept.refl t) _ _
  exact hk.reg .SUP_VSET (by decide) c 0

theorem State.vset_supSetOne_other (s : State) (op : Byte) (v : W16) {k c : Nat} (h : k ≠ c) :
    (s.supSetOne op v k).reg .SUP_VSET c = s.reg .SUP_VSET c := by
  rw [State.vset_supSetOne]
  split
  · rfl
  · exact State.reg_setReg_other s _ _ _ _ _ _ _ (by decide) (by decide) fun e => h e.2.1

theorem State.vset_supSetOne_self (s : State) (op : Byte) {v : W16} (hv : v = 0xFFFF ∨ v.toNat ≤ 4000) (c : Nat) :
    (s.supSetOne op v c).fieldOf SUP_VSET_VSET c = if v = 0xFFFF then s.fieldOf SUP_VSET_VSET c else v.toNat := by
  have hreg := s.vset_supSetOne op v c c
  unfold State.fieldOf
  rw [show SUP_VSET_VSET.stem = .SUP_VSET from rfl, show SUP_VSET_VSET.word = 0 from rfl, hreg]
  split
  · rfl
  · next h =>
    have hlt : v.toNat < 2 ^ (SUP_VSET_VSET.hi + 1 - SUP_VSET_VSET.lo) := by
      have := hv.resolve_left h
      show v.toNat < 4096
      omega
    exact State.fieldOf_putField_same s SUP_VSET_VSET c _ (by decide) hlt

section
variable (s : State) {m : W32} (op : Byte) {v : W16} {c : Nat}

theorem State.supSet_named (hc : c ∈ maskList m 32) : (s.supSet m op v).supState c = setState op (s.supState c) := by
  rw [State.supSet_eq_each]
  refine each_at (get := fun t => t.supState c) (fun k t hk => ?_) (fun t => t.supState_supSetOne op v c) (maskList_nodup m 32) hc s
  unfold State.supState State.fieldOf
  exact congrArg (fun w => bits w _ _) (statOnly_supSetOne t op v k c hk.symm)

theorem State.supSet_vset (hv : v = 0xFFFF ∨ v.toNat ≤ 4000) (hc : c ∈ maskList m 32) :
    (s.supSet m op v).fieldOf SUP_VSET_VSET c = if v = 0xFFFF then s.fieldOf SUP_VSET_VSET c else v.toNat := by
  rw [State.supSet_eq_each]
  refine each_at (get := fun t => t.fieldOf SUP_VSET_VSET c) (g := fun x => if v = 0xFFFF then x else v.toNat) (fun k t hk => ?_)
    (fun t => t.vset_supSetOne_self op hv c) (maskList_nodup m 32) hc s
  unfold State.fieldOf
  exact congrArg (fun w => bits w _ _) (t.vset_supSetOne_other op v hk)

theorem State.supSet_unnamed (hc : m.getLsbD c = false) :
    (s.supSet m op v).reg .SUP_VSET c = s.reg .SUP_VSET c ∧ (s.supSet m op v).reg .SUP_STAT c = s.reg .SUP_STAT c := by
  rw [State.supSet_eq_each]
  refine each_keeps_mem (P := fun t : State => t.reg .SUP_VSET c = s.reg .SUP_VSET c ∧ t.reg .SUP_STAT c = s.reg .SUP_STAT c) _
    (fun k hk t ht => ?_) s ⟨rfl, rfl⟩
  have hne : c ≠ k := by
    rintro rfl
    rw [(mem_maskList.1 hk).2] at hc
    cases hc
  rw [t.vset_supSetOne_other op v hne.symm, statOnly_supSetOne t op v k c hne]
  exact ht

end

end Sys2Proof.Machine
end

section
/-! PROOFS. The commands of the supply controllers, and their soft start and ramps (R65, R304, R306, R309): the clauses of O33 one by
one, which all hold but for the form of its shadow. -/

namespace Sys2Proof.Machine

theorem State.sup_modSup (s : State) (c : Nat) (f : Sup → Sup) : (s.modSup c f).sup c = f (s.sup c) := Tab.get_set_same _ _ _ _

theorem State.sup_putField (s : State) (fd : Field) (i v c : Nat) : (s.putField fd i v).sup c = s.sup c := by
  unfold State.sup State.putField
  rw [State.setReg_meas]

/-! ### SUP_SET -/

/-- OFF and OFF_NOW are refused by nothing that a controller or a calibration does. -/
theorem State.supSetChecks_off (s : State) (m : W32) {op : Byte} (h : op ≠ 1) : ∀ p ∈ s.supSetChecks m op, p.1 = false := by
  unfold State.supSetChecks
  rw [if_neg h]
  simp

/-- Nothing that is at work on them holds controllers named by ON. -/
def State.supUnheld (s : State) (m : W32) : Prop :=
  s.cal.recal = false ∧ ∀ d ∈ s.hst.deferred, s.atWork d = true → ∀ c ∈ maskList m 32, c ∉ d.sups

theorem State.supHeld_false {s : State} {m : W32} (h : s.supUnheld m) :
    (s.hst.deferred.any (fun d => s.atWork d && d.sups.any (maskList m 32).contains) || (s.cal.recal && !(maskList m 32).isEmpty)) = false := by
  rw [h.1, Bool.false_and, Bool.or_false, List.any_eq_false]
  intro d hd hc
  obtain ⟨hw, hs⟩ := (Bool.and_eq_true _ _).mp hc
  obtain ⟨c, hc, hm⟩ := List.any_eq_true.1 hs
  exact h.2 d hd hw c (List.contains_iff_mem.1 hm) hc

theorem State.supSetChecks_on {s : State} {m : W32} (h : s.supUnheld m)
    (hc : ∀ c ∈ maskList m 32, s.supState c ≠ 4 ∧ s.bitOf SUP_STAT_SUSPECT c = false) : ∀ p ∈ s.supSetChecks m 1, p.1 = false := by
  intro p hp
  simp only [State.supSetChecks, if_true, List.mem_cons, List.not_mem_nil, or_false] at hp
  rcases hp with rfl | rfl | rfl
  · exact List.any_eq_false.2 fun c hm => by simpa using (hc c hm).1
  · exact List.any_eq_false.2 fun c hm => by simp [(hc c hm).2]
  · exact s.supHeld_false h

/-- A tripped controller refuses ON with WRONG_STATE, which goes before the SUSPECT mark (R57). -/
theorem State.lowest_supSet_tripped {s : State} {m : W32} (h : s.supUnheld m) (ht : ∃ c ∈ maskList m 32, s.supState c = 4) :
    lowest ((false, Status.badArgument) :: s.supSetChecks m 1) = some Status.wrongState := by
  obtain ⟨c, hc, h4⟩ := ht
  have htrip : (maskList m 32).any (fun c => s.supState c == 4) = true := List.any_eq_true.2 ⟨c, hc, by simp [h4]⟩
  have hheld := s.supHeld_false h
  simp only [State.supSetChecks, if_true, htrip, hheld, lowest, Bool.false_eq_true, if_false]
  cases (maskList m 32).any fun c => s.bitOf SUP_STAT_SUSPECT c <;> rfl

section
variable {iss : Issuer} {m : W32} {op : Byte} {v : W16} {s : State} (h : s.serves iss) (hm : m ≠ 0) (hop : op.toNat ≤ 2)
  (hv : v = 0xFFFF ∨ v.toNat ≤ 4000)

include hm hop hv

theorem supSet_args : (m == 0 || decide (2 < op.toNat) || (v != 0xFFFF && decide (4000 < v.toNat))) = false := by
  rw [beq_false_of_ne hm, decide_eq_false (Nat.not_lt.2 hop), Bool.false_or, Bool.false_or]
  rcases hv with rfl | hv
  · rfl
  · rw [decide_eq_false (Nat.not_lt.2 hv), Bool.and_false]

include h

theorem exec_supSet_runs (ht : s.txnOf iss.mb.val = none) (hc : ∀ p ∈ (s.tripsFirst m).supSetChecks m op, p.1 = false) :
    exec (.supSet iss m op v) s = .next (((s.tripsFirst m).supSet m op v).complete iss Status.ok [m.toNat]) := by
  refine congrArg Host.Outcome.next (State.shadowed_runs h ht (lowest_eq_none fun p hp => ?_))
  rcases List.mem_cons.1 hp with rfl | hp
  · exact supSet_args hm hop hv
  · exact hc p hp

theorem exec_supSet_tripped (ht : s.txnOf iss.mb.val = none) (hone : op = 1) (hu : (s.tripsFirst m).supUnheld m)
    (h4 : ∃ c ∈ maskList m 32, (s.tripsFirst m).supState c = 4) :
    exec (.supSet iss m op v) s = .next (s.complete iss Status.wrongState []) := by
  subst hone
  refine congrArg Host.Outcome.next (State.shadowed_refuses h ht ?_)
  rw [supSet_args hm hop hv]
  exact State.lowest_supSet_tripped hu h4

theorem exec_supSet_entered {x : Txn} (ht : s.txnOf iss.mb.val = some x) (hr : x.rolled = false) (hp : x.pending = none)
    (hroom : shadowSize (addShadow x.entries (.load (.supSet iss m op v) [])) ≤ 4096) :
    exec (.supSet iss m op v) s = .next ((s.modTxn iss.mb.val fun y => { y with
      entries := addShadow x.entries (.load (.supSet iss m op v) []) }).complete iss Status.ok [m.toNat]) := by
  refine congrArg Host.Outcome.next (State.shadowed_entered h ht hr hp _ (fun p hp => ?_) _ _ hroom _)
  rw [List.mem_singleton] at hp
  exact hp ▸ supSet_args hm hop hv

end

theorem State.tripsFirst_nil {s : State} (m : W32) (h : s.restOfBeat = []) : s.tripsFirst m = s := by
  unfold State.tripsFirst
  rw [h]
  rfl

theorem State.tripsFirst_trip {s : State} {m : W32} {c : Fin 32} {x : MonitorInput} (hc : m.getLsbD c.val = true)
    (h : s.restOfBeat = [.supComparatorTrip c x]) : s.tripsFirst m = s.supInput c.val x := by
  unfold State.tripsFirst
  rw [h]
  exact if_pos hc

/-! ### SUP_SELFTEST -/

theorem exec_supSelftest {iss : Issuer} {c m : Byte} {s : State} (h : s.serves iss) (hc : c.toNat < 32) (hm : m ≠ 0) (hm16 : m.toNat < 16)
    (hoff : s.supState c.toNat = 0) (hidle : iss.nowait = true → s.supOwnerIdle c.toNat = true) :
    exec (.supSelftest iss c m) s = .next (s.defer iss (.supSelftest iss c m) 0 []) := by
  refine congrArg Host.Outcome.next (State.command_runs h fun p hp => ?_)
  rw [Nat.mod_eq_of_lt hc] at hp
  simp only [List.mem_cons, List.not_mem_nil, or_false] at hp
  rcases hp with rfl | rfl
  · rw [decide_eq_false (Nat.not_le.2 hc), beq_false_of_ne hm, decide_eq_false (Nat.not_le.2 hm16)]; rfl
  · cases hn : iss.nowait with
    | false => simp [hoff]
    | true => simp [hoff, hidle hn]

/-- The outcome that a self-check gives: the comparators that passed and those that failed. -/
def State.selftestOver (i bad pass : Nat) (s : State) : State :=
  s.withHst fun h => { h with deferred := h.deferred.modify i (fun d => { d with outcome := some (Status.ok, [pass, bad]) }) }

theorem State.selftestOver_deferred {s : State} {i : Nat} {d : Deferred} (hd : s.hst.deferred[i]? = some d) (bad pass : Nat) :
    (s.selftestOver i bad pass).hst.deferred = s.hst.deferred.set i { d with outcome := some (Status.ok, [pass, bad]) } := by
  show s.hst.deferred.modify i _ = _
  rw [List.modify_eq_set_getElem?, hd]
  rfl

theorem exec_supSelftestEnd {i : Nat} {failed : BitVec 4} {d : Deferred} {iss : Issuer} {c m : Byte} {s : State} (hr : s.running = true)
    (hd : s.hst.deferred[i]? = some d) (hcmd : d.cmd = .supSelftest iss c m) (hs : d.started = true) (ho : d.outcome = none)
    (hdue : d.due ≤ s.beat.lbc) (hm : m.toNat < 16) (hc : c.toNat < 32) : exec (.supSelftestEnd i failed) s =
      .next (if failed.toNat &&& m.toNat ≠ 0
        then ((s.selftestOver i (failed.toNat &&& m.toNat) (m.toNat - (failed.toNat &&& m.toNat))).putBit SUP_STAT_SUSPECT c.toNat true).fault
          6 0 0x0602 ((failed.toNat &&& m.toNat) * 256 + c.toNat) 0
        else if m = 15 then (s.selftestOver i (failed.toNat &&& m.toNat) (m.toNat - (failed.toNat &&& m.toNat))).putBit SUP_STAT_SUSPECT c.toNat false
        else s.selftestOver i (failed.toNat &&& m.toNat) (m.toNat - (failed.toNat &&& m.toNat))) := by
  refine (done_live hr _).trans (congrArg _ ?_)
  dsimp only
  rw [hd]
  dsimp only
  rw [hcmd]
  dsimp only
  rw [hs, ho, decide_eq_false (Nat.not_lt.2 hdue), Nat.mod_eq_of_lt hm, Nat.mod_eq_of_lt hc]
  rfl

/-! ### SUP_LATCH_CLEAR -/

theorem exec_supLatchClear {s : State} (hr : s.running = true) (c : Fin 32) (v : W32) :
    exec (.supLatchClear c v) s = .next (s.supRelease c.val v.toNat) := done_live hr _

theorem State.supLatch_supRelease (s : State) (c : Nat) (v : W32) {m : Nat} (hm : m < 4) :
    (s.supRelease c v.toNat).supLatch c m = (s.supLatch c m && !(v.getLsbD m)) := by
  have hreg : (s.supRelease c v.toNat).reg .SUP_STAT c =
      s.reg .SUP_STAT c &&& ~~~(BitVec.ofNat 32 (v.toNat &&& s.fieldOf SUP_STAT_LATCH c)) := State.reg_setReg_same ..
  have hlatch : (s.fieldOf SUP_STAT_LATCH c).testBit m = (s.reg .SUP_STAT c).getLsbD m := by
    show ((s.reg .SUP_STAT c).toNat / 2 ^ 0 % 2 ^ 4).testBit m = _
    rw [Nat.pow_zero, Nat.div_one, Nat.testBit_mod_two_pow, decide_eq_true hm, Bool.true_and, BitVec.testBit_toNat]
  have h32 : m < 32 := by omega
  unfold State.supLatch
  rw [hreg, BitVec.getLsbD_and, BitVec.getLsbD_not, BitVec.getLsbD_ofNat, Nat.testBit_and, hlatch, BitVec.testBit_toNat, decide_eq_true h32]
  cases (s.reg .SUP_STAT c).getLsbD m <;> simp

/-! ### Soft start and ramps -/

/-- VSET_ACT one code nearer to its goal. -/
def towardGoal (act goal : Nat) : Nat := if act < goal then act + 1 else if goal < act then act - 1 else act

/-- The step of a controller, with the goal that its state gives. -/
def State.softStep (c goal : Nat) (s : State) : State :=
  let act := towardGoal (s.sup c).act goal
  let t := s.modSup c fun x => { x with
    act := act, stepAt := s.beat.lbc, zeroAt := if s.supState c = 3 ∧ act = 0 ∧ (s.sup c).zeroAt.isNone then some s.beat.lbc else x.zeroAt }
  if s.supState c = 1 ∧ act = goal then t.putField SUP_STAT_STATE c 2 else t

theorem exec_softStartStep {c : Fin 32} {s : State} (hr : s.running = true) (hen : s.supEn c.val = true) (hf : (s.sup c.val).fresh = false)
    (hdue : (s.sup c.val).stepAt + (if (s.sup c.val).fast then 1 else s.fieldOf SUP_CFG_SS_DIV c.val) ≤ s.beat.lbc) :
    exec (.softStartStep c) s = .next (s.softStep c.val (if s.supState c.val = 3 then 0 else s.fieldOf SUP_VSET_VSET c.val)) := by
  refine (done_live hr _).trans (congrArg _ ?_)
  dsimp only
  rw [hen, hf, decide_eq_false (Nat.not_lt.2 hdue)]
  rfl

theorem State.softStep_sup (s : State) (c goal : Nat) :
    ((s.softStep c goal).sup c).stepAt = s.beat.lbc ∧ ((s.softStep c goal).sup c).act = towardGoal (s.sup c).act goal := by
  unfold State.softStep
  dsimp only
  split
  · rw [State.sup_putField, State.sup_modSup]
    exact ⟨rfl, rfl⟩
  · rw [State.sup_modSup]
    exact ⟨rfl, rfl⟩

theorem State.softStep_state (s : State) (c goal : Nat) :
    (s.softStep c goal).supState c = if s.supState c = 1 ∧ towardGoal (s.sup c).act goal = goal then 2 else s.supState c := by
  unfold State.softStep
  dsimp only
  split
  · exact State.supState_putState _ c 2 (by decide)
  · rfl

theorem exec_rampDownDone {c : Fin 32} {b : Nat} {s : State} (hr : s.running = true) (hz : (s.sup c.val).zeroAt = some b)
    (h3 : s.supState c.val = 3) (hb : b + 16000 ≤ s.beat.lbc) : exec (.rampDownDone c) s = .next (s.supLow c.val 0) := by
  refine (done_live hr _).trans (congrArg _ ?_)
  dsimp only
  rw [hz]
  exact if_pos ⟨h3, hb⟩

/-- A state that no run reaches: agreed and in RUN, with two transactions of MB0. A command goes by the first. -/
def twiceBegun : State := {
  beat := { phase := .run, lbc := 1000 }
  regs := [(regKey .MEM_IL 0 0, 0xFFFF0010#32), (regKey .HST_STATE 0 0, 0xC0000001#32)]
  hst := { txns := [⟨0, 7, false, [], none⟩, ⟨0, 7, false, [.reg 0 0 0], none⟩] } }

theorem twiceBegun_serves : twiceBegun.serves ⟨0, 7, false, false⟩ := by decide

/-- Refutes O33 by the form of its shadow alone: it adds SUP_SET to each transaction's own entries, where the command gives every
transaction of the mailbox the entries of the first. They differ where a mailbox has two, which the statement's states may. -/
theorem not_suppliesAreCommanded : ¬ Obligations.SuppliesAreCommanded := by
  unfold Obligations.SuppliesAreCommanded
  rintro ⟨hset, -⟩
  obtain ⟨-, -, -, -, hshadow⟩ := hset ⟨0, 7, false, false⟩ 1 0 0 twiceBegun twiceBegun_serves (by decide) (by decide) (Or.inr (by decide))
  have hstated := hshadow ⟨0, 7, false, [], none⟩ rfl rfl rfl (by decide)
  rw [exec_supSet_entered (x := ⟨0, 7, false, [], none⟩) twiceBegun_serves (by decide) (by decide) (Or.inr (by decide)) rfl rfl rfl
    (by decide)] at hstated
  injection hstated with hstates
  exact absurd (congrArg (fun t => t.hst.txns) hstates) (by decide)

end Sys2Proof.Machine
end

section
/-! PROOFS. Configuration transactions: their begin, commit and rollback, and a due commit (R63 to R72). -/

namespace Sys2Proof.Machine

theorem exec_cfgBegin {iss : Issuer} {s : State} (h : s.serves iss) (hf : s.feature 3 = true)
    (ht : match s.txnOf iss.mb.val with | some x => x.rolled = true | none => True)
    (hroom : (s.hst.txns.filter (fun x => x.mb != iss.mb.val)).length < 4) :
    exec (.cfgBegin iss) s = .next ((((s.closeTxn iss.mb.val).unroll iss.mb.val).withHst fun h =>
      { h with txns := h.txns ++ [⟨iss.mb.val, iss.tag, false, [], none⟩] }).complete iss Status.ok []) := by
  have held : (match s.txnOf iss.mb.val with | some x => !x.rolled | none => false) = false := by
    cases hx : s.txnOf iss.mb.val with
    | none => rfl
    | some x => rw [hx] at ht; exact congrArg not ht
  refine congrArg Host.Outcome.next (State.command_runs h fun p hp => ?_)
  simp only [List.mem_cons, List.not_mem_nil, or_false] at hp
  rcases hp with rfl | rfl | rfl
  · exact congrArg not hf
  · exact held
  · exact decide_eq_false (Nat.not_le.2 hroom)

/-! ### CFG_COMMIT -/

section
variable {iss : Issuer} {x : Txn} {s : State} (h : s.serves iss) (hx : s.openTxn iss.mb.val = some x)
include h hx

/-- Of a rolled-back transaction, before its arguments are judged (R70). -/
theorem exec_cfgCommit_rolled (hmb : iss.mb ≠ 16) (hr : x.rolled = true) (mode : Byte) (lbc : W64) (sites : W32) :
    exec (.cfgCommit iss mode lbc sites) s = .next (s.complete iss Status.rolledBack []) := by
  show execCfgCommit iss mode lbc sites s = _
  unfold execCfgCommit
  dsimp only
  rw [beq_false_of_ne hmb, Bool.false_and]
  refine congrArg Host.Outcome.next ((State.command_runs h (by simp)).trans ?_)
  rw [hx]
  exact if_pos hr

/-- With arguments that pass, of a transaction that no commit waits in. -/
theorem exec_cfgCommit_taken (hr : x.rolled = false) (hp : x.pending = none) {mode : Byte} {lbc : W64} {sites : W32}
    (hv1 : (iss.mb == 16 && mode.toNat == 1) = false)
    (hargs : (decide (2 < mode.toNat) || (mode.toNat == 1 && decide (lbc.toNat < s.beat.lbc + 800)) || (mode.toNat == 2 && sites == 0)) = false) :
    exec (.cfgCommit iss mode lbc sites) s = .next (s.takeCommit iss mode.toNat lbc.toNat sites) := by
  show execCfgCommit iss mode lbc sites s = _
  unfold execCfgCommit
  dsimp only
  rw [hv1]
  refine congrArg Host.Outcome.next ((State.command_runs h (by simp)).trans ?_)
  rw [hx, hargs]
  refine (if_neg (by simp [hr])).trans ?_
  dsimp only
  rw [hp]
  rfl

theorem exec_cfgRollback : exec (.cfgRollback iss) s =
    .next ((match x.pending with
      | some c => ((s.closeTxn iss.mb.val).unroll iss.mb.val).complete c.iss Status.rolledBack []
      | none => (s.closeTxn iss.mb.val).unroll iss.mb.val).complete iss Status.ok [shadowSize x.entries]) := by
  refine congrArg Host.Outcome.next ((State.command_runs h (by simp)).trans ?_)
  rw [hx] <;> rfl

end

theorem exec_cfgRollback_none {iss : Issuer} {s : State} (h : s.serves iss) (hx : s.openTxn iss.mb.val = none) :
    exec (.cfgRollback iss) s = .next (s.complete iss Status.wrongState []) := by
  refine congrArg Host.Outcome.next ((State.command_runs h (by simp)).trans ?_)
  rw [hx]

/-! ### A due commit -/

/-- The commit that a boundary comes to at a mailbox. -/
theorem exec_cfgApply {mb : Fin 17} {x : Txn} {c : Commit} {s : State} (hr : s.running = true) (hd : s.upToCommits.dueCommit mb.val = some (x, c))
    (hl : ∀ m < mb.val, s.upToCommits.dueCommit m = none) :
    exec (.cfgApply mb) s = .next (s.upToCommits.applyCommit mb.val x c).exchangeOnce := by
  refine (done_live hr _).trans (congrArg (fun t => Host.Outcome.next (State.exchangeOnce t)) ?_)
  have hany : (List.range mb.val).any (fun m => (s.upToCommits.dueCommit m).isSome) = false :=
    List.any_eq_false.2 fun m hm => by simp [hl m (List.mem_range.1 hm)]
  dsimp only
  rw [hany, hd]
  rfl

/-- The idle check asks for every site idle where the commit is a profile's, and for nothing else. -/
theorem idleCheck_profile (s : State) {c : Commit} (hc : c.profile = true) :
    (c.profile && (List.range 32).any (fun n => !(s.idle n))) = !((List.range 32).all s.idle) := by
  rw [hc, Bool.true_and, List.not_all_eq_any_not]

theorem lowest_cons_false (st : Nat) (l : List (Bool × Nat)) : lowest ((false, st) :: l) = lowest l := by
  rw [lowest]
  cases lowest l <;> rfl

section
variable {x : Txn} {c : Commit} (m : Nat) (s : State)

theorem State.applyCommit_passed (hc : c.profile = false) (h : lowest (commitChecks s (s.writeAll x.entries) x.entries) = none) :
    s.applyCommit m x c = ((State.settleAll s x.entries (s.writeAll x.entries)).closeTxn m).endCommit c Status.ok
      [s.beat.lbc % 2 ^ 32, s.beat.lbc / 2 ^ 32 % 2 ^ 32, shadowSize x.entries] := by
  unfold State.applyCommit
  rw [hc]
  dsimp only
  rw [Bool.false_and, lowest_cons_false, h]
  rfl

theorem State.applyCommit_failed (hc : c.profile = false) {st : Nat} (h : lowest (commitChecks s (s.writeAll x.entries) x.entries) = some st) :
    s.applyCommit m x c = (s.modTxn m fun y => { y with pending := none }).endCommit c st [] := by
  unfold State.applyCommit
  rw [hc]
  dsimp only
  rw [Bool.false_and, lowest_cons_false, h]
  rfl

theorem State.applyProfile_passed (hc : c.profile = true) (h : lowest ((!((List.range 32).all s.idle), Status.wrongState) ::
      commitChecks s (s.writeAll x.entries) x.entries) = none) :
    s.applyCommit m x c = (((State.settleAll s x.entries (s.writeAll x.entries)).closeTxn m).putField HST_STATE_PROFILE 0 (c.mode - 8)).endCommit c
      Status.ok [s.beat.lbc % 2 ^ 32, s.beat.lbc / 2 ^ 32 % 2 ^ 32] := by
  unfold State.applyCommit
  dsimp only
  rw [idleCheck_profile s hc, h, hc]
  rfl

theorem State.applyProfile_failed (hc : c.profile = true) {st : Nat} (h : lowest ((!((List.range 32).all s.idle), Status.wrongState) ::
      commitChecks s (s.writeAll x.entries) x.entries) = some st) : s.applyCommit m x c = (s.closeTxn m).endCommit c st [] := by
  unfold State.applyCommit
  dsimp only
  rw [idleCheck_profile s hc, h, hc]
  rfl

end

theorem exec_sysProfileSelect {iss : Issuer} {p : Byte} {s : State} (h : s.serves iss) (hp : p.toNat ≤ 3) (hidle : ∀ n < 32, s.idle n = true)
    (htxns : s.hst.txns = []) (hfull : s.profileEmpty p.toNat = false) (hneed : s.profileNeed p.toNat ≤ s.backed) :
    exec (.sysProfileSelect iss p) s = .next (s.withHst fun h => { h with
      txns := [⟨iss.mb.val, iss.tag, false, s.profileWrites p.toNat, some ⟨iss, 8 + p.toNat, s.beat.lbc + 1, 0, false⟩⟩] }) := by
  have hbusy : (List.range 32).any (fun n => !(s.idle n)) = false := List.any_eq_false.2 fun n hn => by simp [hidle n (List.mem_range.1 hn)]
  refine congrArg Host.Outcome.next ((State.command_runs h ?_).trans ?_)
  · simpa [htxns, hfull, Nat.not_lt.2 hp, Nat.not_lt.2 hneed] using fun _ => hidle
  · unfold State.withHst
    dsimp only
    rw [htxns]
    rfl

/-- Settles O11: each command by its checks, and a due commit by the lowest of what its writes are judged by. -/
theorem transactionsBeginCommitAndApply : Obligations.TransactionsBeginCommitAndApply := by
  unfold Obligations.TransactionsBeginCommitAndApply
  refine ⟨⟨fun iss s h hf ht hroom => exec_cfgBegin h hf ht hroom, ?_, fun iss mode lbc sites x s h hmb hx hr => exec_cfgCommit_rolled h hx hmb hr mode lbc sites,
    fun iss x s h hx => exec_cfgRollback h hx, fun iss s h hx => exec_cfgRollback_none h hx⟩, ?_,
    fun iss p s h hp hidle htxns hfull hneed => exec_sysProfileSelect h hp hidle htxns hfull hneed⟩
  · intro iss lbc sites x s h hx hr hp
    refine ⟨?_, fun hmb hl => ?_, fun hs hbusy => ?_⟩
    · rw [exec_cfgCommit_taken h hx hr hp (by simp) (by simp)]
      rfl
    · rw [exec_cfgCommit_taken h hx hr hp (by simp [hmb]) (by simp [Nat.not_lt.2 hl])]
      rfl
    · rw [exec_cfgCommit_taken h hx hr hp (by simp) (by simpa using hs)]
      unfold State.takeCommit
      rw [hbusy]
      rfl
  · intro mb x c s hr u w v b hd hl
    rw [exec_cfgApply hr hd hl]
    refine ⟨fun hc => ⟨fun h => ?_, fun st h => ?_⟩, fun hc => ⟨fun h => ?_, fun st h => ?_⟩⟩
    · rw [State.applyCommit_passed _ _ hc h]
    · rw [State.applyCommit_failed _ _ hc h]
    · rw [State.applyProfile_passed _ _ hc h]
    · rw [State.applyProfile_failed _ _ hc h]

end Sys2Proof.Machine
end

section
/-! PROOFS. The commands that begin a write of the store, and the read of the shutdown log (R71, R410, R432, R464). -/

namespace Sys2Proof.Machine

/-- A command whose last checks are that no store write runs or is owed and that the temperature window is open (R412). -/
theorem State.command_stores {s : State} {iss : Issuer} (h : s.serves iss) (hb : s.storeBusy = false) (hw : s.storeWindow = true) {code : Nat}
    {bad held : Bool} (hbad : bad = false) (hheld : held = false) (run : State → State) :
    s.command iss code true [(bad, Status.badArgument), (s.storeBusy || held, Status.busy), (!(s.storeWindow), Status.thermal)] run = run s :=
  State.command_runs h (by simp [hb, hw, hbad, hheld])

section
variable {s : State} {iss : Issuer} (h : s.serves iss) (hb : s.storeBusy = false) (hw : s.storeWindow = true)
include h hb hw

theorem exec_sysProfileStore {p : Byte} (h0 : p ≠ 0) (h3 : p.toNat ≤ 3) : exec (.sysProfileStore iss p) s =
    .next (s.draw.2.beginStore iss (.sysProfileStore iss p) (s.draw.2.slotSteps (0x20 + p.toNat) 1 (s.draw.2.profileBody s.draw.1)).1
      [(s.draw.2.slotSteps (0x20 + p.toNat) 1 (s.draw.2.profileBody s.draw.1)).2]) := by
  have hp : p.toNat ≠ 0 := fun e => h0 (BitVec.eq_of_toNat_eq e)
  refine congrArg Host.Outcome.next (State.command_runs h fun q hq => ?_)
  simp only [List.mem_cons, List.not_mem_nil, or_false] at hq
  rcases hq with rfl | rfl | rfl
  · rw [beq_false_of_ne hp, decide_eq_false (Nat.not_lt.2 h3)]; rfl
  · exact hb
  · exact congrArg not hw

theorem exec_sysShutdownLogClear : exec (.sysShutdownLogClear iss) s = .next (s.beginStore iss (.sysShutdownLogClear iss)
    (eraseSteps 0 0x1D00000 0x100000 ++ [⟨.recount, 0, 0, []⟩]) [16]) :=
  congrArg Host.Outcome.next (State.command_runs h (by simp [hb, hw]))

theorem exec_calStore {m : W32} (hm : m ≠ 0) (hlt : m.toNat < 2 ^ 19) (hheld : ∀ id ∈ maskList m 19, s.setHeld id = false) :
    exec (.calStore iss m) s = .next (s.beginStore iss (.calStore iss m) (s.storeSteps (maskList m 19)) [m.toNat]) := by
  have hsets : badSets m = false := by
    unfold badSets
    rw [beq_false_of_ne hm, decide_eq_false (Nat.not_le.2 hlt)]
    rfl
  have hfree : (maskList m 19).any s.setHeld = false := List.any_eq_false.2 fun id hid => by simp [hheld id hid]
  exact congrArg Host.Outcome.next (State.command_stores h hb hw hsets hfree _)

end

/-- The slot that an image is stored to: the one not started. -/
def State.nextSlot (s : State) : Nat := match s.beat.image with | some k => 1 - k | none => 0

/-- The sequence number of the next image. -/
def State.nextSeq (s : State) : Nat := match s.beat.image with | some k => leAt (s.norBytes (imageSlot k) 256) 0xB0 4 + 1 | none => 1

/-- The steps that store an image with header `g` and body, the header's first page last. -/
def imageSteps (k : Nat) (g body : List Byte) : List StoreStep :=
  eraseSteps (0x100 + k) (imageSlot k) 0x800000 ++ programSteps (0x100 + k) (imageSlot k + 0x1000) body ++
    programSteps (0x100 + k) (imageSlot k + 256) (g.drop 256) ++
    [⟨.verify, 0x100 + k, imageSlot k, []⟩, ⟨.program, 0x100 + k, imageSlot k, g.take 256⟩]

theorem exec_hstFwStore {s : State} {iss : Issuer} (h : s.serves iss) (hb : s.storeBusy = false) (hw : s.storeWindow = true) {a : W64} {n : W32}
    (hram : s.badGddr a 8 n.toNat = false) (hok : imageOk ((s.mem a.toNat n.toNat).take 4096) ((s.mem a.toNat n.toNat).drop 4096) = true)
    (hn : n.toNat = 4096 + leAt ((s.mem a.toNat n.toNat).take 4096) 0x10 4) : exec (.hstFwStore iss a n) s =
      .next (s.beginStore iss (.hstFwStore iss a n) (imageSteps s.nextSlot (((s.mem a.toNat n.toNat).take 4096).take 0xB0 ++ leBytes 4 s.nextSeq ++
        ((s.mem a.toNat n.toNat).take 4096).drop 0xB4) ((s.mem a.toNat n.toNat).drop 4096)) [s.nextSlot, s.nextSeq % 2 ^ 32]) := by
  have hbad : (s.badGddr a 8 n.toNat || !(imageOk ((s.mem a.toNat n.toNat).take 4096) ((s.mem a.toNat n.toNat).drop 4096)) ||
      decide (n.toNat ≠ 4096 + leAt ((s.mem a.toNat n.toNat).take 4096) 0x10 4)) = false := by
    rw [hram, hok, decide_eq_false (not_not.2 hn)]
    rfl
  show done (s.command iss 0x0A30 true [(_, Status.badArgument), (s.storeBusy, Status.busy), (!(s.storeWindow), Status.thermal)] _) = _
  rw [State.command_runs h fun q hq => ?_]
  · rfl
  · simp only [List.mem_cons, List.not_mem_nil, or_false] at hq
    rcases hq with rfl | rfl | rfl
    · exact hbad
    · exact hb
    · exact congrArg not hw

/-- A read of the log whose arguments pass: at once for few records, else later. -/
theorem exec_sysShutdownLogRead {iss : Issuer} {a : W64} {first n : W16} {s : State} (h : s.serves iss)
    (ha : a = 0 ∨ s.badRam a 8 (256 * n.toNat) = false) (hf : first.toNat ≤ 4095) (hn : n.toNat ≤ 4096) :
    exec (.sysShutdownLogRead iss a first n) s = .next (if n.toNat ≤ 16
      then (s.readLog a.toNat first.toNat n.toNat).2.complete iss Status.ok (s.readLog a.toNat first.toNat n.toNat).1
      else s.defer iss (.sysShutdownLogRead iss a first n) 0 []) := by
  refine congrArg Host.Outcome.next (State.command_runs h fun q hq => ?_)
  rw [List.mem_singleton] at hq
  subst hq
  rw [decide_eq_false (Nat.not_lt.2 hf), decide_eq_false (Nat.not_lt.2 hn), Bool.or_false, Bool.or_false]
  rcases ha with rfl | ha
  · rfl
  · exact (congrArg (_ && ·) ha).trans (Bool.and_false _)

/-- Settles O23: each command runs where its checks pass, and begins the write that its body names. -/
theorem storeCommandsBeginTheirWrite : Obligations.StoreCommandsBeginTheirWrite := by
  unfold Obligations.StoreCommandsBeginTheirWrite
  refine ⟨fun s hb hw => ⟨fun iss p h h0 h3 => exec_sysProfileStore h hb hw h0 h3, fun iss h => exec_sysShutdownLogClear h hb hw,
    fun iss a n h hram hok hn => exec_hstFwStore h hb hw hram hok hn,
    fun iss m h hm hlt hheld => exec_calStore h hb hw hm hlt hheld⟩, ?_⟩
  intro iss a first n s h ha hf hn r
  rw [exec_sysShutdownLogRead h ha hf hn]
  exact ⟨fun hle => congrArg _ (if_pos hle), fun hlt => congrArg _ (if_neg (Nat.not_le.2 hlt))⟩

end Sys2Proof.Machine
end

section
/-! PROOFS. The commands of the acquisition units (R242 to R258). -/

namespace Sys2Proof.Machine

/-! ### The units -/

theorem State.aq_modAq_same (s : State) (a : Nat) (f : Aq → Aq) : (s.modAq a f).aq a = f (s.aq a) := Tab.get_set_same _ _ _ _

theorem State.aq_modAq_other (s : State) {a b : Nat} (h : b ≠ a) (f : Aq → Aq) : (s.modAq b f).aq a = s.aq a := Tab.get_set_other _ _ _ _ _ (Ne.symm h)

theorem State.aq_setReg (s : State) (st : Stem) (i w : Nat) (v : W32) (a : Nat) : (s.setReg st i w v).aq a = s.aq a := by
  unfold State.aq
  rw [State.setReg_cap]

theorem State.aq_putField (s : State) (f : Field) (i v a : Nat) : (s.putField f i v).aq a = s.aq a := State.aq_setReg ..

theorem Kept.aq {m : Nat} {s t : State} (h : Kept m s t) (hm : m.testBit Part.cap.ctorIdx = false) (a : Nat) : t.aq a = s.aq a := by
  unfold State.aq
  rw [h.same .cap hm]

/-- A unit's state set. -/
def Aq.enter (st beat : Nat) (u : Aq) : Aq := { u with st := st, readySince := if st = 2 then beat else u.readySince }

theorem State.aq_aqState_same (s : State) (a st : Nat) : (s.aqState a st).aq a = (s.aq a).enter st s.beat.lbc :=
  (State.aq_putField ..).trans (s.aq_modAq_same a _)

theorem State.aq_aqState_other (s : State) {a b : Nat} (h : b ≠ a) (st : Nat) : (s.aqState b st).aq a = s.aq a :=
  (State.aq_putField ..).trans (s.aq_modAq_other h _)

/-! ### CAP_AQ_ARM -/

/-- What the arming of a unit shows of it: its slot, what is recorded, and its state. -/
def State.armed (s : State) (a : Nat) : Nat × Nat × Tab AqSlot × Nat := (s.aqPre a, (s.aq a).slot, (s.aq a).slots, (s.aq a).st)

theorem State.aqPre_aqArm (s : State) (a b : Nat) : (s.aqArm b).aqPre a = s.aqPre a :=
  (State.aqArm_kept (Covers.refl _) (Kept.refl s) b).fieldOf CAP_AQ_PRE_PRE (by decide) a

/-- The blocks that an arming gives a unit, and the state once they are taken. -/
def State.armBlocks (s : State) (a : Nat) : List Nat × State :=
  let t := s.giveSamples (s.fieldOf CAP_AQ_SRC_SITE a) a fun v => v.sampleDue (s.fieldOf CAP_AQ_SRC_WIN a) s.beat.lbc
  if (t.aq a).st = 0 then t.takeBlocks 2 (t.aqBlocks a) else ((t.aq a).blocks, t)

/-- The unit armed, before it fills. -/
def State.armFresh (s : State) (a : Nat) : State :=
  (((s.armBlocks a).2.modAq a fun u => Aq.fresh u.mask (s.armBlocks a).1).putField CAP_AQ_STAT_SLOTS_DONE a 0).setReg .CAP_AQ_MASKV a 0 0

theorem State.aqArm_eq (s : State) (a : Nat) : s.aqArm a = (s.armFresh a).aqFill a := rfl

theorem State.armBlocks_kept (s : State) (a : Nat) : Kept 0x30000000000000000000000000000280 s (s.armBlocks a).2 := by
  have hgive : Kept 0x30000000000000000000000000000280 s (s.giveSamples (s.fieldOf CAP_AQ_SRC_SITE a) a fun v =>
      v.sampleDue (s.fieldOf CAP_AQ_SRC_WIN a) s.beat.lbc) := State.giveSamples_kept (by decide) (Kept.refl s) _ _ _
  unfold State.armBlocks
  exact kept_ite_snd (fun _ => State.takeBlocks_kept (by decide) 2 _ hgive) fun _ => hgive

theorem State.aq_armFresh_same (s : State) (a : Nat) : (s.armFresh a).aq a = Aq.fresh ((s.armBlocks a).2.aq a).mask (s.armBlocks a).1 := by
  unfold State.armFresh
  rw [State.aq_setReg, State.aq_putField, State.aq_modAq_same]

theorem State.aq_armFresh_other (s : State) {a b : Nat} (h : b ≠ a) : (s.armFresh b).aq a = s.aq a := by
  unfold State.armFresh
  rw [State.aq_setReg, State.aq_putField, State.aq_modAq_other _ h]
  exact (s.armBlocks_kept b).aq (by decide) a

theorem State.aqPre_armFresh (s : State) (a b : Nat) : (s.armFresh b).aqPre a = s.aqPre a := by
  have h : Kept 0x30000000014000000000000000001280 s (s.armFresh b) := State.setReg_kept _ (by decide) (State.putField_kept _ (by decide)
    (State.modAq_kept (by decide) ((s.armBlocks_kept b).mono (by decide)) _ _) _ _) _ _ _
  exact h.fieldOf CAP_AQ_PRE_PRE (by decide) a

theorem State.armed_aqArm_same (s : State) (a : Nat) : (s.aqArm a).armed a = (s.aqPre a, 0, [], if s.aqPre a = 0 then 2 else 1) := by
  have hcur : (Aq.fresh ((s.armBlocks a).2.aq a).mask (s.armBlocks a).1).cur.n = 0 := rfl
  unfold State.armed
  rw [State.aqPre_aqArm, State.aqArm_eq, State.aqFill, State.aq_aqState_same, State.aq_armFresh_same, State.aqPre_armFresh, hcur]
  simp only [Nat.le_zero]
  rfl

theorem State.armed_aqArm_other (s : State) {a b : Nat} (h : b ≠ a) : (s.aqArm b).armed a = s.armed a := by
  unfold State.armed
  rw [State.aqPre_aqArm, State.aqArm_eq, State.aqFill, State.aq_aqState_other _ h, State.aq_armFresh_other _ h]

/-- Each unit of a mask without repetition is armed. -/
theorem State.armed_each {l : List Nat} (hl : l.Nodup) {a : Nat} (ha : a ∈ l) (s : State) :
    (each l State.aqArm s).armed a = (s.aqPre a, 0, [], if s.aqPre a = 0 then 2 else 1) :=
  each_at (get := fun t => t.armed a) (g := fun x => (x.1, 0, [], if x.1 = 0 then 2 else 1)) (fun _ t h => t.armed_aqArm_other h)
    (fun t => t.armed_aqArm_same a) hl ha s

theorem maskList_ne_nil {m : W16} (hm : m ≠ 0) : (maskList m 16).isEmpty = false := by
  rw [List.isEmpty_eq_false_iff]
  intro h
  refine hm (BitVec.eq_of_getLsbD_eq fun i hi => ?_)
  refine Eq.trans ?_ BitVec.getLsbD_zero.symm
  exact Bool.eq_false_iff.2 fun hb => List.not_mem_nil (h ▸ mem_maskList.2 ⟨hi, hb⟩)

theorem exec_capAqArm {iss : Issuer} {m : W16} {s : State} (h : s.serves iss) (hm : m ≠ 0)
    (hfree : ∀ a ∈ maskList m 16, (s.aq a).st = 0 ∨ (s.aq a).st = 5 ∨ (s.aq a).st = 6)
    (hroom : let need := (((maskList m 16).filter (fun a => (s.aq a).st == 0)).map s.aqBlocks).foldl (· + ·) 0
      need = 0 ∨ s.mayTake 2 need = true) :
    exec (.capAqArm iss m) s = .next ((each (maskList m 16) State.aqArm s).complete iss Status.ok [m.toNat]) := by
  refine congrArg Host.Outcome.next (State.command_runs h fun p hp => ?_)
  simp only [List.mem_cons, List.not_mem_nil, or_false] at hp
  rcases hp with rfl | rfl | rfl
  · exact maskList_ne_nil hm
  · refine List.any_eq_false.2 fun a ha => ?_
    rcases hfree a ha with e | e | e <;> simp [e]
  · rcases hroom with e | e
    · exact (congrArg (fun n => n != 0 && !(s.mayTake 2 n)) e).trans rfl
    · exact (congrArg (_ && !·) e).trans (Bool.and_false _)

/-! ### CAP_AQ_DISARM -/

/-- The end of a unit's arming: its blocks are freed and it is IDLE. -/
def State.aqDisarm (a : Nat) (s : State) : State :=
  (((s.freeBlockList 2 (s.aq a).blocks).modAq a fun u => Aq.fresh u.mask []).putField CAP_AQ_STAT_SLOTS_DONE a 0).aqState a 0

/-- What CAP_AQ_DISARM shows of a unit. -/
def State.disarmed (s : State) (a : Nat) : Nat × List Nat × Tab AqSlot × Tab W64 := ((s.aq a).st, (s.aq a).blocks, (s.aq a).slots, (s.aq a).mask)

theorem State.aq_freeBlockList (s : State) (p : Nat) (l : List Nat) (a : Nat) : (s.freeBlockList p l).aq a = s.aq a :=
  (State.freeBlockList_kept (Covers.refl _) (Kept.refl s) p l).aq (by decide) a

theorem State.disarmed_aqDisarm_same (s : State) (a : Nat) : (s.aqDisarm a).disarmed a = (0, [], [], (s.aq a).mask) := by
  unfold State.disarmed State.aqDisarm
  rw [State.aq_aqState_same, State.aq_putField, State.aq_modAq_same, State.aq_freeBlockList]
  rfl

theorem State.disarmed_aqDisarm_other (s : State) {a b : Nat} (h : b ≠ a) : (s.aqDisarm b).disarmed a = s.disarmed a := by
  unfold State.disarmed State.aqDisarm
  rw [State.aq_aqState_other _ h, State.aq_putField, State.aq_modAq_other _ h, State.aq_freeBlockList]

theorem exec_capAqDisarm {iss : Issuer} {m : W16} {s : State} (h : s.serves iss) (hm : m ≠ 0) : exec (.capAqDisarm iss m) s =
    .next (((each (maskList m 16) State.aqDisarm s).abortReads (maskList m 16)).complete iss Status.ok
      [((maskList m 16).map (fun a => (s.aq a).blocks.length)).foldl (· + ·) 0]) :=
  congrArg Host.Outcome.next (State.command_runs h (by simpa using maskList_ne_nil hm))

theorem State.finish_deferred (s : State) (d : Deferred) (status : Nat) (res : List Nat) : (s.finish d status res).hst.deferred = s.hst.deferred := by
  unfold State.finish
  split
  · rfl
  · exact s.complete_deferred ..

/-- The reads that end so leave the list. -/
theorem State.abortReads_deferred (s : State) (l : List Nat) : (s.abortReads l).hst.deferred = s.hst.deferred.filter
    (fun d => !(match d.cmd with | .capAqRead _ _ u _ => l.contains u.toNat | _ => false)) :=
  each_keeps (P := fun t : State => t.hst.deferred = _) (fun d t ht => (t.finish_deferred d _ _).trans ht) _ rfl

theorem State.abortReads_over (s : State) {l : List Nat} {d : Deferred} (hd : d ∈ (s.abortReads l).hst.deferred) {i : Issuer} {a : W64} {k e : Byte}
    (hc : d.cmd = .capAqRead i a k e) : k.toNat ∉ l := by
  rw [State.abortReads_deferred] at hd
  have hk := (List.mem_filter.1 hd).2
  rw [hc] at hk
  simpa using hk

theorem State.aq_abortReads (s : State) (l : List Nat) (a : Nat) : (s.abortReads l).aq a = s.aq a :=
  (State.abortReads_kept (Covers.refl _) (Kept.refl s) l).aq (by decide) a

/-! ### The other commands -/

theorem exec_capAqTrig {iss : Issuer} {m : W16} {s : State} (h : s.serves iss) (hm : m ≠ 0) : exec (.capAqTrig iss m) s =
    .next ((each ((maskList m 16).filter (fun a => s.fieldOf CAP_AQ_TRIG_SRC a == 1)) (fun a t => t.aqTrigger a t.now) s).complete iss Status.ok
      [listMask ((maskList m 16).filter (fun a => s.fieldOf CAP_AQ_TRIG_SRC a == 1))]) :=
  congrArg Host.Outcome.next (State.command_runs h fun p hp => by rw [List.mem_singleton.1 hp]; exact beq_false_of_ne hm)

section
variable {iss : Issuer} {dest : W64} {a i : Byte} {s : State} (h : s.serves iss) (ha : a.toNat < 16) (hi : i.toNat < 16)
  (hram : s.badRam dest 8 (32 + 4 * (s.aqSlot a.toNat i.toNat).samples) = false)

include ha hi hram

theorem capAqRead_args : (decide (16 ≤ a.toNat) || decide (16 ≤ i.toNat) ||
    s.badRam dest 8 (32 + 4 * (s.aqSlot (a.toNat % 16) (i.toNat % 16)).samples)) = false := by
  rw [Nat.mod_eq_of_lt ha, Nat.mod_eq_of_lt hi, decide_eq_false (Nat.not_le.2 ha), decide_eq_false (Nat.not_le.2 hi)]
  exact hram

include h

/-- A read of a complete slot, or of a FROZEN unit, is accepted to run later. -/
theorem exec_capAqRead (hc : (s.aqSlot a.toNat i.toNat).complete = true ∨ (s.aq a.toNat).st = 6) :
    exec (.capAqRead iss dest a i) s = .next (s.defer iss (.capAqRead iss dest a i) 0 []) := by
  refine congrArg Host.Outcome.next (State.command_runs h fun p hp => ?_)
  simp only [List.mem_cons, List.not_mem_nil, or_false] at hp
  rcases hp with rfl | rfl
  · exact capAqRead_args ha hi hram
  · rw [Nat.mod_eq_of_lt ha, Nat.mod_eq_of_lt hi]
    rcases hc with e | e <;> simp [e]

theorem exec_capAqRead_refused (hc : (s.aqSlot a.toNat i.toNat).complete = false) (h6 : (s.aq a.toNat).st ≠ 6) :
    exec (.capAqRead iss dest a i) s = .next (s.complete iss Status.wrongState []) := by
  have hargs := capAqRead_args ha hi hram
  refine congrArg Host.Outcome.next (State.command_refuses h ?_)
  rw [hargs, Nat.mod_eq_of_lt ha, Nat.mod_eq_of_lt hi, hc, bne_iff_ne.2 h6]
  rfl

end

section
variable {s : State} {iss : Issuer} (h : s.serves iss) (ht : s.txnOf iss.mb.val = none) {code : Nat} {checks more : List (Bool × Nat)}
  {bad res : List Nat} {entry : Shadow} {live : State → State}
include h ht

/-- A command that a transaction shadows runs outside one, whatever it would report of bad arguments. -/
theorem State.shadowed_runs_reporting (hc : lowest (checks ++ more) = none) : s.shadowed iss code true checks more bad res entry live = live s := by
  have hg := State.gate_of_serves h code
  obtain ⟨htake, _, _, hres⟩ := h
  have hl := (lowest_shadowed hres (checks ++ more)).trans hc
  simp only [State.shadowed, htake, hg, ht, List.cons_append, hl, Bool.not_true, Bool.false_eq_true, if_false]

/-- It reports them where they refuse it. -/
theorem State.shadowed_reports (hc : lowest (checks ++ more) = some Status.badArgument) :
    s.shadowed iss code true checks more bad res entry live = s.complete iss Status.badArgument bad := by
  have hg := State.gate_of_serves h code
  obtain ⟨htake, _, _, hres⟩ := h
  have hl := (lowest_shadowed hres (checks ++ more)).trans hc
  simp only [State.shadowed, htake, hg, ht, List.cons_append, hl, Bool.not_true, Bool.false_eq_true, if_false, if_true]

end

section
variable {iss : Issuer} {src : W64} {a : Byte} {n : W16} {s : State} (h : s.serves iss) (ha : a.toNat < 16) (h1 : 1 ≤ n.toNat)
  (hn : n.toNat ≤ 4096) (hram : s.badRam src 8 (8 * n.toNat) = false) (ht : s.txnOf iss.mb.val = none) (hst : (s.aq a.toNat).st = 0)

include ha h1 hn hram

theorem capAqMaskLoad_args : (decide (16 ≤ a.toNat) || decide (n.toNat = 0) || decide (4096 < n.toNat) || s.badRam src 8 (8 * n.toNat)) = false := by
  rw [decide_eq_false (Nat.not_le.2 ha), decide_eq_false (Nat.ne_of_gt h1), decide_eq_false (Nat.not_lt.2 hn), hram]
  rfl

include h ht hst

theorem exec_capAqMaskLoad (hbad : maskBad (s.mem src.toNat (8 * n.toNat)) n.toNat = none) : exec (.capAqMaskLoad iss src a n) s =
    .next ((s.loadMask a.toNat n.toNat (s.mem src.toNat (8 * n.toNat))).complete iss Status.ok [n.toNat]) := by
  show execCapAqMaskLoad iss src a n s = _
  unfold execCapAqMaskLoad
  dsimp only
  rw [capAqMaskLoad_args ha h1 hn hram, hram, Nat.mod_eq_of_lt ha, hst]
  refine congrArg Host.Outcome.next (State.shadowed_runs_reporting h ht ?_)
  simp [lowest, hbad]

theorem exec_capAqMaskLoad_reports {b : Nat} (hbad : maskBad (s.mem src.toNat (8 * n.toNat)) n.toNat = some b) :
    exec (.capAqMaskLoad iss src a n) s = .next (s.complete iss Status.badArgument [0, b]) := by
  show execCapAqMaskLoad iss src a n s = _
  unfold execCapAqMaskLoad
  dsimp only
  rw [capAqMaskLoad_args ha h1 hn hram, hram, Nat.mod_eq_of_lt ha, hst]
  refine congrArg Host.Outcome.next ((State.shadowed_reports h ht ?_).trans ?_)
  · simp [lowest, hbad]
  · simp [hbad]

end

/-- Settles O58: arming and disarming change each named unit once and no other; the rest is read off the commands. -/
theorem acquisitionUnitsAreServed : Obligations.AcquisitionUnitsAreServed := by
  unfold Obligations.AcquisitionUnitsAreServed
  intro iss s h
  refine ⟨fun m hm => ⟨fun hfree hroom => ⟨_, exec_capAqArm h hm hfree hroom, fun a ha => ?_⟩,
    ⟨_, exec_capAqDisarm h hm, fun a ha => ?_, fun d hd i a k e hc => State.abortReads_over _ hd hc⟩, exec_capAqTrig h hm⟩,
    fun dest a i ha hi hram => ⟨exec_capAqRead h ha hi hram, exec_capAqRead_refused h ha hi hram⟩,
    fun src a n ha h1 hn hram ht hst => ⟨exec_capAqMaskLoad h ha h1 hn hram ht hst, fun b => exec_capAqMaskLoad_reports h ha h1 hn hram ht hst⟩⟩
  · have harmed := State.armed_each (maskList_nodup m 16) ha s
    unfold State.armed at harmed
    simp only [Prod.mk.injEq] at harmed
    obtain ⟨-, hslot, hslots, hst⟩ := harmed
    exact ⟨hslot, hslots, hst⟩
  · have hdis : (each (maskList m 16) State.aqDisarm s).disarmed a = (0, [], [], (s.aq a).mask) :=
      each_at (get := fun t => t.disarmed a) (g := fun x => (0, [], [], x.2.2.2)) (fun _ t hne => t.disarmed_aqDisarm_other hne)
        (fun t => t.disarmed_aqDisarm_same a) (maskList_nodup m 16) ha s
    unfold State.disarmed at hdis
    simp only [Prod.mk.injEq] at hdis
    rw [State.aq_abortReads]
    exact hdis

end Sys2Proof.Machine
end

section
/-! PROOFS. The tables that deferred commands load: timing sets, marker entries and directory entries (R106, R125, R126). -/

namespace Sys2Proof.Machine

/-- Entries written one after another from place `i` on are one write of the list. -/
theorem each_zipIdx_eq {α : Type} {put : Nat → α → State → State} {all : Nat → List α → State → State} (hnil : ∀ i s, all i [] s = s)
    (hcons : ∀ i x l s, all (i + 1) l (put i x s) = all i (x :: l) s) (i : Nat) (l : List α) : ∀ (n : Nat) (s : State),
    each (l.zipIdx n) (fun p => put (i + p.2) p.1) s = all (i + n) l s := by
  induction l with
  | nil => exact fun n s => (hnil _ s).symm
  | cons x l ih => exact fun n s => (ih (n + 1) (put (i + n) x s)).trans (hcons (i + n) x l s)

/-- What a table holds at `j` after a list was written from `i` on. -/
theorem Tab.get_setList {α : Type} [DecidableEq α] (d : Nat → α) (t : Tab α) (i j : Nat) (l : List α) (x : α) :
    (t.setList d i l).get d j = if i ≤ j ∧ j < i + l.length then l.getD (j - i) x else t.get d j := by
  split
  · next h =>
    have hlt : j - i < l.length := by omega
    have hin := Tab.get_setList_inside d l t i (j - i) hlt
    rw [show i + (j - i) = j by omega] at hin
    rw [hin, List.getD_eq_getElem _ _ hlt]
  · exact Tab.get_setList_other d l t i j (by omega)

theorem length_splitImages (k : Nat) : ∀ l, (splitImages k l).length = k := by
  induction k with
  | zero => exact fun _ => rfl
  | succ k ih => exact fun l => congrArg Nat.succ (ih _)

theorem length_splitEntries (z k : Nat) : ∀ l, (splitEntries z k l).length = k := by
  induction k with
  | zero => exact fun _ => rfl
  | succ k ih => exact fun l => congrArg Nat.succ (ih _)

/-! ### Timing sets and marker entries -/

/-- The timing sets written from key `i` on. -/
def State.putTsets (i : Nat) (l : List (List Byte)) (s : State) : State := s.withSeq fun q => { q with tsets := q.tsets.setList (fun _ => []) i l }

/-- The marker entries written from key `i` on. -/
def State.putMarks (i : Nat) (l : List (List Byte)) (s : State) : State :=
  s.withSeq fun q => { q with mktab := q.mktab.setList (fun _ => List.replicate 16 0) i l }

theorem State.eachTset_eq (i : Nat) (l : List (List Byte)) (s : State) :
    each l.zipIdx (fun p => State.putTsets (i + p.2) [p.1]) s = s.putTsets i l :=
  each_zipIdx_eq (put := fun i x => State.putTsets i [x]) (all := State.putTsets) (fun _ _ => rfl) (fun _ _ _ _ => rfl) i l 0 s

theorem State.eachMark_eq (i : Nat) (l : List (List Byte)) (s : State) :
    each l.zipIdx (fun p => State.putMarks (i + p.2) [p.1]) s = s.putMarks i l :=
  each_zipIdx_eq (put := fun i x => State.putMarks i [x]) (all := State.putMarks) (fun _ _ => rfl) (fun _ _ _ _ => rfl) i l 0 s

theorem State.loadTsets_eq (s : State) (site first : Nat) (l : List (List Byte)) : s.loadTsets site first l = s.putTsets (site * 256 + first) l := by
  rw [← State.eachTset_eq]
  unfold State.loadTsets State.setTset
  simp only [← Nat.add_assoc]
  rfl

theorem State.loadMarks_eq (s : State) (site first : Nat) (l : List (List Byte)) : s.loadMarks site first l = s.putMarks (site * 256 + first) l := by
  rw [← State.eachMark_eq]
  unfold State.loadMarks State.setMkEntry
  simp only [← Nat.add_assoc]
  rfl

section
variable (s : State) {site first count : Nat} {l : List (List Byte)} (hl : l.length = count) (hfit : first + count ≤ 256)
include hl hfit

/-- The key of an entry of a site lies in the run of keys that a load writes just where the entry is one of those loaded. -/
theorem loadKey_iff (n : Nat) {k : Nat} (hk : k < 256) : site * 256 + first ≤ n * 256 + k ∧ n * 256 + k < site * 256 + first + l.length ↔
    n = site ∧ first ≤ k ∧ k < first + count := by
  omega

theorem State.tset_loadTsets (n : Nat) {k : Nat} (hk : k < 256) : (s.loadTsets site first l).tset n k =
    if n = site ∧ first ≤ k ∧ k < first + count then l.getD (n * 256 + k - (site * 256 + first)) [] else s.tset n k := by
  rw [State.loadTsets_eq]
  exact (Tab.get_setList _ _ _ _ _ []).trans (if_congr (loadKey_iff hl hfit n hk) rfl rfl)

theorem State.mkEntry_loadMarks (n : Nat) {k : Nat} (hk : k < 256) : (s.loadMarks site first l).mkEntry n k =
    if n = site ∧ first ≤ k ∧ k < first + count then l.getD (n * 256 + k - (site * 256 + first)) [] else s.mkEntry n k := by
  rw [State.loadMarks_eq]
  exact (Tab.get_setList _ _ _ _ _ []).trans (if_congr (loadKey_iff hl hfit n hk) rfl rfl)

end

/-! ### The directory -/

theorem State.setDirs_eq (s : State) (first : Nat) (l : List (List Byte)) : each l.zipIdx (fun p => State.setDir (first + p.2) p.1) s =
    s.withSeq fun q => { q with dir := q.dir.setList (fun _ => zeroEntry) first l } :=
  each_zipIdx_eq (put := State.setDir) (all := fun i l s => s.withSeq fun q => { q with dir := q.dir.setList (fun _ => zeroEntry) i l })
    (fun _ _ => rfl) (fun _ _ _ _ => rfl) first l 0 s

theorem State.dirEntry_writeDir (s : State) (first : Nat) (l : List (List Byte)) (k : Nat) : (s.writeDir first l).dirEntry k =
    if first ≤ k ∧ k < first + l.length then l.getD (k - first) [] else s.dirEntry k := by
  have hdir : (s.writeDir first l).dirEntry k = (s.withSeq fun q => { q with dir := q.dir.setList (fun _ => zeroEntry) first l }).dirEntry k := by
    unfold State.writeDir
    rw [State.setDirs_eq]
    dsimp only
    split <;> rfl
  exact hdir.trans (Tab.get_setList _ _ _ _ _ [])

/-- A write of the directory moves nothing but the pattern memory. -/
theorem State.writeDir_seqOnly (s : State) (first : Nat) (l : List (List Byte)) : { s.writeDir first l with seq := s.seq } = s := by
  unfold State.writeDir
  rw [State.setDirs_eq]
  dsimp only
  split <;> rfl

end Sys2Proof.Machine
end

section
/-! PROOFS. The blocks that a pool takes, and a program's bytes in them (R167, R205, R206). -/

namespace Sys2Proof.Machine

theorem State.freeFrom_free (s : State) (k : Nat) : ∀ {b x : Nat}, s.freeFrom b k = some x → s.owner x = 0 := by
  induction k with
  | zero => intro b x h; cases h
  | succ k ih =>
    intro b x h
    unfold State.freeFrom at h
    split at h
    · next hb => exact (Option.some.inj h) ▸ hb
    · exact ih h

/-- The block that an allocation hands out was free. -/
theorem State.pickBlock_free {s : State} {p b : Nat} (h : s.pickBlock p = some b) : s.owner b = 0 := by
  unfold State.pickBlock at h
  split at h
  · exact s.freeFrom_free _ h
  · split at h
    · next hb => exact (Option.some.inj h) ▸ s.freeFrom_free _ hb
    · exact s.freeFrom_free _ h

theorem State.owner_retag (s : State) (b p x : Nat) : (s.retag b p).owner x = if x = b then p + 1 else s.owner x := by
  have hcst : (s.retag b p).cst = { s.cst with owner := s.cst.owner.set Cst.ownerReset b (p + 1) } :=
    (State.setReg_cst ..).trans (State.setReg_cst ..)
  unfold State.owner
  rw [hcst]
  split
  · next h => rw [h]; exact Tab.get_set_same _ _ _ _
  · next h => exact Tab.get_set_other _ _ _ _ _ h

/-- What one block taken leaves. -/
theorem State.takeBlock_some {s t : State} {p b : Nat} (h : s.takeBlock p = (some b, t)) : s.owner b = 0 ∧ t = s.retag b p := by
  unfold State.takeBlock at h
  split at h
  · split at h
    · next hb =>
      obtain ⟨hx, ht⟩ := Prod.mk.inj h
      exact ⟨s.pickBlock_free (hb.trans hx), (ht.symm.trans (by rw [Option.some.inj hx]))⟩
    · cases h
  · cases h

/-- The blocks that a pool takes were free, and are taken once each. -/
theorem State.takeBlocks_free (p n : Nat) : ∀ s : State, (s.takeBlocks p n).1.Nodup ∧ ∀ b ∈ (s.takeBlocks p n).1, s.owner b = 0 := by
  induction n with
  | zero => exact fun s => ⟨List.nodup_nil, fun b hb => absurd hb List.not_mem_nil⟩
  | succ n ih =>
    intro s
    unfold State.takeBlocks
    split
    · exact ⟨List.nodup_nil, fun b hb => absurd hb List.not_mem_nil⟩
    · next b t ht =>
      obtain ⟨hfree, rfl⟩ := State.takeBlock_some ht
      obtain ⟨hnodup, hrest⟩ := ih (s.retag b p)
      have hb : ∀ x ∈ ((s.retag b p).takeBlocks p n).1, x ≠ b ∧ s.owner x = 0 := fun x hx => by
        have h0 := hrest x hx
        rw [State.owner_retag] at h0
        split at h0
        · cases h0
        · exact ⟨‹_›, h0⟩
      refine ⟨List.nodup_cons.2 ⟨fun h => (hb b h).1 rfl, hnodup⟩, fun x hx => ?_⟩
      rcases List.mem_cons.1 hx with rfl | hx
      · exact hfree
      · exact (hb x hx).2

/-! ### The bytes of a program -/

theorem State.fillBlocks_meas (s : State) (l : List Nat) (bytes : List Byte) : (s.fillBlocks l bytes).meas = s.meas :=
  (State.fillBlocks_kept (Covers.refl _) l bytes (Kept.refl s)).same .meas (by decide)

theorem State.fillBlocks_regs (l : List Nat) : ∀ (bytes : List Byte) (s : State), (s.fillBlocks l bytes).regs = s.regs := by
  induction l with
  | nil => exact fun _ _ => rfl
  | cons b l ih => exact fun bytes s => (ih _ _).trans (s.setMem_regs _ _)

theorem blockAddr_apart {b c : Nat} (h : c ≠ b) {i : Nat} (hi : i < 2048) : blockAddr b + i < blockAddr c ∨ blockAddr c + 2048 ≤ blockAddr b + i := by
  unfold blockAddr
  omega

/-- A block that a program does not have stays as it was. -/
theorem State.ram_fillBlocks_other {b i : Nat} (hi : i < 2048) (l : List Nat) : ∀ (bytes : List Byte) {s : State}, s.meas.lost = false → b ∉ l →
    (s.fillBlocks l bytes).ram.get ramDefault (blockAddr b + i) = s.ram.get ramDefault (blockAddr b + i) := by
  induction l with
  | nil => exact fun _ _ _ _ => rfl
  | cons c l ih =>
    intro bytes s hl hb
    obtain ⟨hc, hb⟩ := List.ne_and_not_mem_of_not_mem_cons hb
    have hlen : (bytes.take 2048).length ≤ 2048 := by rw [List.length_take]; exact Nat.min_le_left _ _
    refine (ih _ (by rw [State.setMem_meas]; exact hl) hb).trans (State.ram_setMem_other _ _ _ _ hl ?_)
    rcases blockAddr_apart (Ne.symm hc) hi with h | h
    · exact Or.inl h
    · exact Or.inr (by omega)

theorem Tab.getList_congr {α : Type} {d : Nat → α} {t u : Tab α} (n : Nat) : ∀ {a : Nat}, (∀ i < n, t.get d (a + i) = u.get d (a + i)) →
    t.getList d a n = u.getList d a n := by
  induction n with
  | zero => exact fun _ => rfl
  | succ n ih =>
    intro a h
    unfold Tab.getList
    rw [show t.get d a = u.get d a from h 0 (Nat.succ_pos n), ih fun i hi => by rw [Nat.add_right_comm]; exact h (i + 1) (Nat.succ_lt_succ hi)]

theorem State.mem_congr {s t : State} (hs : s.meas.lost = false) (ht : t.meas.lost = false) {a n : Nat}
    (h : ∀ i < n, t.ram.get ramDefault (a + i) = s.ram.get ramDefault (a + i)) : t.mem a n = s.mem a n := by
  unfold State.mem
  rw [hs, ht]
  exact Tab.getList_congr n h

/-- Each block of a program holds its part of the bytes. -/
theorem State.mem_fillBlocks (l : List Nat) : ∀ (bytes : List Byte) {s : State}, s.meas.lost = false → l.Nodup → ∀ j < l.length,
    (s.fillBlocks l bytes).mem (blockAddr (l.getD j 0)) ((bytes.drop (2048 * j)).take 2048).length = (bytes.drop (2048 * j)).take 2048 := by
  induction l with
  | nil => exact fun _ _ _ _ j hj => absurd hj (Nat.not_lt_zero j)
  | cons b l ih =>
    intro bytes s hl hn j hj
    obtain ⟨hb, hn⟩ := List.nodup_cons.1 hn
    have hl' : (s.setMem (blockAddr b) (bytes.take 2048)).meas.lost = false := by rw [State.setMem_meas]; exact hl
    cases j with
    | zero =>
      refine (State.mem_congr hl' (by rw [State.fillBlocks, State.fillBlocks_meas]; exact hl') fun i hi => ?_).trans (s.mem_setMem_same _ _ hl)
      have hi : i < 2048 := Nat.lt_of_lt_of_le hi (by rw [List.length_take]; exact Nat.min_le_left _ _)
      exact State.ram_fillBlocks_other hi l _ hl' hb
    | succ j =>
      have hstep := ih (bytes.drop 2048) hl' hn j (Nat.lt_of_succ_lt_succ hj)
      rw [List.drop_drop, show 2048 + 2048 * j = 2048 * (j + 1) by omega] at hstep
      exact hstep

/-! ### SEQ_PROG_LOAD -/

/-- The program's number names its blocks, which hold its bytes. -/
def State.putProg (p k : Nat) (l : List Nat) (bytes : List Byte) (s : State) : State := (s.setProg p { count := k, blocks := l }).fillBlocks l bytes

section
variable (s : State) (p k : Nat) (l : List Nat) (bytes : List Byte)

theorem State.putProg_seq : (s.putProg p k l bytes).seq = (s.setProg p { count := k, blocks := l }).seq :=
  (State.fillBlocks_kept (Covers.refl _) l bytes (Kept.refl _)).same .seq (by decide)

theorem State.prog_putProg (q : Nat) : (s.putProg p k l bytes).prog q = if q = p then { count := k, blocks := l } else s.prog q := by
  unfold State.prog
  rw [State.putProg_seq]
  split
  · next h => rw [h]; exact Tab.get_set_same _ _ _ _
  · next h => exact Tab.get_set_other _ _ _ _ _ h

theorem State.putProg_regs : (s.putProg p k l bytes).regs = s.regs := State.fillBlocks_regs l bytes _

end

section
variable {d : Deferred} {program : Byte} {countM1 : W16} {s : State}

theorem State.runProgLoad_used (h : s.progUsed program.toNat = true) : s.runProgLoad d program countM1 = s.finish d Status.wrongState [] := if_pos h

theorem State.runProgLoad_full (h : s.progUsed program.toNat = false)
    (hf : (s.freeBlockList 6 (s.prog program.toNat).blocks).mayTake 6 (progBlocks (countM1.toNat + 1)) = false) :
    s.runProgLoad d program countM1 = s.finish d Status.noResource [] := by
  unfold State.runProgLoad State.progFits
  dsimp only
  rw [h, hf]
  rfl

theorem State.runProgLoad_fits (h : s.progUsed program.toNat = false)
    (hf : (s.freeBlockList 6 (s.prog program.toNat).blocks).mayTake 6 (progBlocks (countM1.toNat + 1)) = true) :
    s.runProgLoad d program countM1 =
      ((((s.freeBlockList 6 (s.prog program.toNat).blocks).takeBlocks 6 (progBlocks (countM1.toNat + 1))).2.putProg program.toNat (countM1.toNat + 1)
        ((s.freeBlockList 6 (s.prog program.toNat).blocks).takeBlocks 6 (progBlocks (countM1.toNat + 1))).1 d.bytes)).finish d Status.ok
          [((s.freeBlockList 6 (s.prog program.toNat).blocks).takeBlocks 6 (progBlocks (countM1.toNat + 1))).1.length] := by
  unfold State.runProgLoad State.progFits
  dsimp only
  rw [h, hf]
  rfl

end

end Sys2Proof.Machine
end

section
/-! PROOFS. Copies of the control store: their load and their verification (R165, R166). -/

namespace Sys2Proof.Machine

theorem each_cons {α : Type} (x : α) (l : List α) (f : α → State → State) (s : State) : each (x :: l) f s = each l f (f x s) := rfl

/-- A bit that each entry of a list sets for its own index, and leaves for every other. -/
theorem each_sets {get : Nat → State → Bool} {f : Nat → State → State} (h : ∀ c a s, get a (f c s) = (a == c || get a s)) (a : Nat) (l : List Nat) :
    ∀ s : State, get a (each l f s) = (l.contains a || get a s) := by
  induction l with
  | nil => exact fun _ => rfl
  | cons c l ih =>
    intro s
    refine (ih (f c s)).trans ?_
    rw [h, List.contains_cons]
    cases a == c <;> cases l.contains a <;> rfl

/-! ### The load of a copy -/

/-- The words of an image written into a copy. -/
def State.putImage (l : List Byte) (c : Nat) (s : State) : State :=
  s.withSeq fun q => { q with ucode := q.ucode.setList (fun _ => 0x0FC0000000) (16384 * c) ((List.range 16384).map (imgWord l)) }

theorem State.uword_putImage (s : State) (l : List Byte) (c b : Nat) (a : Fin 16384) :
    (s.putImage l c).uword b a = if b = c then imgWord l a else s.uword b a := by
  have ha := a.isLt
  unfold State.uword State.putImage
  rw [State.withSeq_seq, Tab.get_setList _ _ _ _ _ 0, List.length_map, List.length_range]
  split
  · next h =>
    obtain rfl : b = c := by omega
    rw [if_pos rfl, Nat.add_sub_cancel_left, List.getD_eq_getElem?_getD, List.getElem?_map, List.getElem?_range ha]
    rfl
  · next h => rw [if_neg (by omega)]

theorem State.reg_putImage (s : State) (l : List Byte) (c : Nat) (st : Stem) (i w : Nat) : (s.putImage l c).reg st i w = s.reg st i w :=
  State.reg_withSeq ..

/-- The registers of a copy once an image is in it. -/
def State.markLoaded (l : List Byte) (c : Nat) (s : State) : State :=
  (((s.setReg .SEQ_CS_CRC c 0 (BitVec.ofNat 32 (leAt l 0x10 4))).setReg .SEQ_CS_VER c 0 (BitVec.ofNat 32 (leAt l 8 4))).putBit
    SEQ_CS_STAT_LOADED c true).putBit SEQ_CS_STAT_SUSPECT c false

theorem State.loadCopy_eq (s : State) (l : List Byte) (c : Nat) : s.loadCopy l c = (s.putImage l c).markLoaded l c := rfl

theorem State.markLoaded_seq (s : State) (l : List Byte) (c : Nat) : (s.markLoaded l c).seq = s.seq := by
  unfold State.markLoaded State.putBit State.putField
  rw [State.setReg_seq, State.setReg_seq, State.setReg_seq, State.setReg_seq]

/-- What a load shows of a copy: its words, version, CRC and marks. -/
def State.copyOf (s : State) (c : Nat) : (Fin 16384 → Nat) × W32 × W32 × Bool × Bool :=
  (fun a => s.uword c a, s.reg .SEQ_CS_VER c, s.reg .SEQ_CS_CRC c, s.bitOf SEQ_CS_STAT_LOADED c, s.bitOf SEQ_CS_STAT_SUSPECT c)

theorem State.uword_loadCopy (s : State) (l : List Byte) (c b : Nat) (a : Fin 16384) :
    (s.loadCopy l c).uword b a = if b = c then imgWord l a else s.uword b a := by
  rw [State.loadCopy_eq]
  unfold State.uword
  rw [State.markLoaded_seq]
  exact s.uword_putImage l c b a

theorem State.copyOf_loadCopy_same (s : State) (l : List Byte) (c : Nat) :
    (s.loadCopy l c).copyOf c = (fun a : Fin 16384 => imgWord l a, BitVec.ofNat 32 (leAt l 8 4), BitVec.ofNat 32 (leAt l 0x10 4), true, false) := by
  have hwords : (fun a : Fin 16384 => (s.loadCopy l c).uword c a) = fun a : Fin 16384 => imgWord l a := funext fun a => (s.uword_loadCopy l c c a).trans (if_pos rfl)
  have hver : (s.loadCopy l c).reg .SEQ_CS_VER c = BitVec.ofNat 32 (leAt l 8 4) := by
    rw [State.loadCopy_eq]
    unfold State.markLoaded State.putBit
    rw [State.reg_putField_stem _ _ _ _ _ (by decide), State.reg_putField_stem _ _ _ _ _ (by decide), State.reg_setReg_same]
  have hcrc : (s.loadCopy l c).reg .SEQ_CS_CRC c = BitVec.ofNat 32 (leAt l 0x10 4) := by
    rw [State.loadCopy_eq]
    unfold State.markLoaded State.putBit
    rw [State.reg_putField_stem _ _ _ _ _ (by decide), State.reg_putField_stem _ _ _ _ _ (by decide),
      State.reg_setReg_stem _ _ _ _ _ _ (by decide), State.reg_setReg_same]
  have hloaded : (s.loadCopy l c).bitOf SEQ_CS_STAT_LOADED c = true := by
    rw [State.loadCopy_eq]
    unfold State.markLoaded
    rw [State.bitOf_putBit_apart _ _ _ _ _ _ (by decide) (by decide), State.bitOf_putBit _ _ _ _ (by decide)]
  have hsuspect : (s.loadCopy l c).bitOf SEQ_CS_STAT_SUSPECT c = false := State.bitOf_putBit _ _ _ _ (by decide)
  unfold State.copyOf
  rw [hwords, hver, hcrc, hloaded, hsuspect]

/-- A load leaves the registers of every other copy. -/
theorem State.reg_loadCopy_other (s : State) (l : List Byte) {b c : Nat} (h : c ≠ b) (st : Stem) : (s.loadCopy l c).reg st b = s.reg st b := by
  have other (t : State) (st' : Stem) (v : W32) : (t.setReg st' c 0 v).reg st b = t.reg st b :=
    State.reg_setReg_other t _ _ _ _ _ _ _ (by decide) (by decide) fun e => h e.2.1
  rw [State.loadCopy_eq]
  exact (other _ _ _).trans ((other _ _ _).trans ((other _ _ _).trans ((other _ _ _).trans (s.reg_putImage l c st b 0))))

theorem State.copyOf_loadCopy_other (s : State) (l : List Byte) {b c : Nat} (h : c ≠ b) : (s.loadCopy l c).copyOf b = s.copyOf b := by
  have hreg := fun st => s.reg_loadCopy_other l h st
  have hwords : (fun a : Fin 16384 => (s.loadCopy l c).uword b a) = fun a : Fin 16384 => s.uword b a :=
    funext fun a => (s.uword_loadCopy l c b a).trans (if_neg (Ne.symm h))
  unfold State.copyOf State.bitOf
  rw [hwords]
  simp only [SEQ_CS_STAT_LOADED, SEQ_CS_STAT_SUSPECT, hreg]

/-! ### SEQ_UCODE_LOAD -/

/-- The named copies hold the image. -/
def State.loadCopies (clusters : Byte) (l : List Byte) (s : State) : State := each (maskList clusters 8) (State.loadCopy l) s

/-- Copies marked SUSPECT. -/
def State.suspectAll (l : List Nat) (s : State) : State := each l (fun c => State.putBit SEQ_CS_STAT_SUSPECT c true) s

theorem State.copyOf_loadCopies (s : State) {clusters : Byte} (l : List Byte) {c : Nat} (hc : c < 8) : (s.loadCopies clusters l).copyOf c =
    if clusters.getLsbD c = true then (fun a : Fin 16384 => imgWord l a, BitVec.ofNat 32 (leAt l 8 4), BitVec.ofNat 32 (leAt l 0x10 4), true, false)
    else s.copyOf c := by
  split
  · next h =>
    exact each_at (get := fun t => t.copyOf c) (g := fun _ => _) (fun b t hb => t.copyOf_loadCopy_other l hb) (fun t => t.copyOf_loadCopy_same l c)
      (maskList_nodup clusters 8) (mem_maskList.2 ⟨hc, h⟩) s
  · next h =>
    refine each_keeps_mem (P := fun t : State => t.copyOf c = s.copyOf c) _ (fun b hb t ht => ?_) s rfl
    exact (t.copyOf_loadCopy_other l (by rintro rfl; exact h (mem_maskList.1 hb).2)).trans ht

theorem State.stat_loadCopies_other (s : State) {clusters : Byte} (l : List Byte) {c : Nat} (h : clusters.getLsbD c = false) :
    (s.loadCopies clusters l).reg .SEQ_CS_STAT c = s.reg .SEQ_CS_STAT c :=
  each_keeps_mem (P := fun t : State => t.reg .SEQ_CS_STAT c = s.reg .SEQ_CS_STAT c) _
    (fun b hb t ht => (t.reg_loadCopy_other l (by rintro rfl; exact absurd (mem_maskList.1 hb).2 (by rw [h]; decide)) _).trans ht) s rfl

theorem State.bitOf_putBit_other (s : State) (f : Field) {i j : Nat} (b : Bool) (h : i ≠ j) (hf : f.word < 4) :
    (s.putBit f i b).bitOf f j = s.bitOf f j := by
  unfold State.bitOf State.putBit State.putField
  rw [State.reg_setReg_other s _ _ _ _ _ _ _ hf hf fun e => h e.2.1]

theorem State.suspect_suspectAll (s : State) (l : List Nat) (c : Nat) :
    (s.suspectAll l).bitOf SEQ_CS_STAT_SUSPECT c = (l.contains c || s.bitOf SEQ_CS_STAT_SUSPECT c) :=
  each_sets (get := fun a t => t.bitOf SEQ_CS_STAT_SUSPECT a) (fun b a t => by
    by_cases h : a = b
    · rw [h, State.bitOf_putBit _ _ _ _ (by decide), beq_self_eq_true, Bool.true_or]
    · rw [State.bitOf_putBit_other _ _ _ (Ne.symm h) (by decide), beq_false_of_ne h, Bool.false_or]) c l s

theorem State.suspectAll_kept (s : State) (l : List Nat) : Kept 0x200000000000 s (s.suspectAll l) := by
  refine each_kept (fun c t h => State.putBit_kept _ (by decide) h _ _) _ (Kept.refl s)

theorem State.stat_suspectAll_other (s : State) {l : List Nat} {c : Nat} (h : c ∉ l) : (s.suspectAll l).reg .SEQ_CS_STAT c = s.reg .SEQ_CS_STAT c :=
  each_keeps_mem (P := fun t : State => t.reg .SEQ_CS_STAT c = s.reg .SEQ_CS_STAT c) _
    (fun b hb t ht => (State.reg_setReg_other t _ _ _ _ _ _ _ (by decide) (by decide) fun e => h (by obtain ⟨-, rfl, -⟩ := e; exact hb)).trans ht) s rfl

theorem State.loaded_suspectAll (s : State) (l : List Nat) (c : Nat) :
    (s.suspectAll l).bitOf SEQ_CS_STAT_LOADED c = s.bitOf SEQ_CS_STAT_LOADED c :=
  each_keeps (P := fun t : State => t.bitOf SEQ_CS_STAT_LOADED c = s.bitOf SEQ_CS_STAT_LOADED c)
    (fun b t ht => (State.bitOf_putBit_apart t _ _ _ _ _ (by decide) (by decide)).trans ht) l rfl

/-- The named copies whose read-back differs. -/
def badNamed (clusters bad : Byte) : List Nat := (maskList clusters 8).filter (fun c => bad.getLsbD c)

theorem mem_badNamed {clusters bad : Byte} {c : Nat} : c ∈ badNamed clusters bad ↔ (c < 8 ∧ clusters.getLsbD c = true) ∧ bad.getLsbD c = true := by
  rw [badNamed, List.mem_filter, mem_maskList]

theorem badNamed_eq_nil {clusters bad : Byte} : badNamed clusters bad = [] ↔ clusters &&& bad = 0 := by
  constructor
  · intro h
    refine BitVec.eq_of_getLsbD_eq fun c hc => (Eq.trans ?_ BitVec.getLsbD_zero.symm)
    rw [BitVec.getLsbD_and, ← Bool.not_eq_true, Bool.and_eq_true]
    exact fun hb => List.not_mem_nil (h ▸ mem_badNamed.2 ⟨⟨hc, hb.1⟩, hb.2⟩)
  · intro h
    refine List.eq_nil_iff_forall_not_mem.2 fun c hc => ?_
    obtain ⟨⟨-, hn⟩, hb⟩ := mem_badNamed.1 hc
    have hand := (BitVec.getLsbD_and (x := clusters) (y := bad) (i := c)).symm.trans (congrArg (BitVec.getLsbD · c) h)
    rw [hn, hb] at hand
    exact absurd (hand.trans BitVec.getLsbD_zero) (by decide)

/-- The named copies loaded, and those that read back wrong marked. -/
def State.loadedCopies (clusters bad : Byte) (l : List Byte) (s : State) : State := (s.loadCopies clusters l).suspectAll (badNamed clusters bad)

/-- What a load of an image into named copies shows of `t`, from `s`. -/
def State.showsLoad (s t : State) (clusters bad : Byte) (l : List Byte) : Prop :=
  ∀ c < 8, (clusters.getLsbD c = true → (∀ a < 16384, t.uword c a = imgWord l a) ∧ t.reg .SEQ_CS_VER c 0 = BitVec.ofNat 32 (leAt l 8 4) ∧
    t.reg .SEQ_CS_CRC c 0 = BitVec.ofNat 32 (leAt l 0x10 4) ∧ t.bitOf SEQ_CS_STAT_LOADED c = true ∧
    t.bitOf SEQ_CS_STAT_SUSPECT c = bad.getLsbD c) ∧
    (clusters.getLsbD c = false → (∀ a < 16384, t.uword c a = s.uword c a) ∧ t.reg .SEQ_CS_STAT c 0 = s.reg .SEQ_CS_STAT c 0)

theorem State.uword_suspectAll (s : State) (l : List Nat) (c a : Nat) : (s.suspectAll l).uword c a = s.uword c a := by
  unfold State.uword
  rw [(s.suspectAll_kept l).seq (by decide)]

theorem State.loadedCopies_shows (s : State) (clusters bad : Byte) (l : List Byte) : s.showsLoad (s.loadedCopies clusters bad l) clusters bad l := by
  intro c hc
  have hcopy := s.copyOf_loadCopies (clusters := clusters) l hc
  unfold State.loadedCopies
  constructor
  · intro hn
    rw [if_pos hn] at hcopy
    unfold State.copyOf at hcopy
    simp only [Prod.mk.injEq] at hcopy
    obtain ⟨hwords, hver, hcrc, hloaded, hsuspect⟩ := hcopy
    have hk := (s.loadCopies clusters l).suspectAll_kept (badNamed clusters bad)
    refine ⟨fun a ha => ?_, (hk.reg .SEQ_CS_VER (by decide) c 0).trans hver, (hk.reg .SEQ_CS_CRC (by decide) c 0).trans hcrc, ?_, ?_⟩
    · rw [State.uword_suspectAll]
      exact congrFun hwords ⟨a, ha⟩
    · rw [State.loaded_suspectAll, hloaded]
    · rw [State.suspect_suspectAll, hsuspect, Bool.or_false, Bool.eq_iff_iff, List.contains_iff_mem, mem_badNamed]
      exact ⟨And.right, fun hb => ⟨⟨hc, hn⟩, hb⟩⟩
  · intro hn
    rw [if_neg (by rw [hn]; decide)] at hcopy
    refine ⟨fun a ha => ?_, ?_⟩
    · rw [State.uword_suspectAll]
      exact congrFun (congrArg Prod.fst hcopy) ⟨a, ha⟩
    · rw [State.stat_suspectAll_other _ fun hm => by rw [(mem_badNamed.1 hm).1.2] at hn; cases hn]
      exact s.stat_loadCopies_other l hn

/-- The C1 fault of a copy that reads back wrong, with a code that the manual leaves open. -/
def State.copyFault (s : State) : State := s.draw.2.fault 1 1 (s.draw.1.toNat % 2 ^ 16) (s.draw.1.toNat / 2 ^ 16 % 2 ^ 32) 0

theorem State.showsLoad_copyFault {s t : State} {clusters bad : Byte} {l : List Byte} (h : s.showsLoad t clusters bad l) :
    s.showsLoad t.copyFault clusters bad l := h

theorem State.runUcodeLoad_clean (s : State) (d : Deferred) {clusters bad : Byte} (h : clusters &&& bad = 0) :
    s.runUcodeLoad d clusters bad = (s.loadedCopies clusters bad d.bytes).finish d Status.ok [leAt d.bytes 8 4, leAt d.bytes 0x10 4] := by
  have hnil := badNamed_eq_nil.2 h
  have hempty : State.suspectAll [] = id := rfl
  unfold State.loadedCopies
  rw [hnil, hempty]
  exact if_pos (List.isEmpty_iff.2 hnil)

theorem State.runUcodeLoad_bad (s : State) (d : Deferred) {clusters bad : Byte} (h : clusters &&& bad ≠ 0) :
    s.runUcodeLoad d clusters bad = (s.loadedCopies clusters bad d.bytes).copyFault.finish d Status.abortedFault [] :=
  if_neg fun he => h (badNamed_eq_nil.1 (List.isEmpty_iff.1 he))

/-! ### SEQ_UCODE_VERIFY -/

/-- The copies of some clusters with bad parity or a wrong CRC. -/
def State.wrongCopies (s : State) (clusters : Byte) : List Nat :=
  (List.range 8).filter (fun c => clusters.getLsbD c && (!(s.badWords c).isEmpty || s.crcDiffers c))

theorem State.wrongCopies_eq (s : State) (clusters : Byte) :
    (maskList clusters 8).filter (fun c => !(s.badWords c).isEmpty || s.crcDiffers c) = s.wrongCopies clusters := by
  unfold State.wrongCopies maskList
  rw [List.filter_filter]
  exact List.filter_congr fun c _ => Bool.and_comm _ _

/-- Where a copy is in error, as SEQ_CS_ERR shows it. -/
def State.copyError (s : State) (c : Nat) : Nat :=
  match (s.badWords c).head? with
  | some a => fld 31 28 (parityBad (s.uword c a)) + fld 13 0 a
  | none => 0

/-- A copy found in error: SUSPECT, with its C0 fault. -/
def State.markWrong (c : Nat) (s : State) : State :=
  ((s.putBit SEQ_CS_STAT_SUSPECT c true).setReg .SEQ_CS_ERR c 0 (BitVec.ofNat 32 (s.copyError c))).fault 1 0 0x010C (s.copyError c + fld 26 24 c) 0

/-- The clusters in error marked, one after another. -/
def State.verified (clusters : Byte) (s : State) : State := each (s.wrongCopies clusters) State.markWrong s

theorem State.runUcodeVerify_eq (s : State) (d : Deferred) (clusters : Byte) : s.runUcodeVerify d clusters =
    (s.verified clusters).finish d Status.ok [listMask (s.wrongCopies clusters),
      ((maskList clusters 8).map (fun c => (s.badWords c).length)).foldl (· + ·) 0, listMask ((maskList clusters 8).filter s.crcDiffers)] := by
  unfold State.runUcodeVerify State.verified
  dsimp only
  rw [State.wrongCopies_eq]
  refine congrArg (fun f : Nat → State → State => State.finish d Status.ok _ (each (s.wrongCopies clusters) f s)) (funext fun c => funext fun t => ?_)
  unfold State.markWrong State.copyError
  cases (t.badWords c).head? <;> rfl

theorem State.markWrong_kept (s : State) (c : Nat) : Kept 0x1200000000020 s (s.markWrong c) :=
  State.fault_kept (by decide) (State.setReg_kept _ (by decide) (State.putBit_kept _ (by decide) (Kept.refl s) _ _) _ _ _) _ _ _ _ _

theorem State.suspect_markWrong (s : State) (c a : Nat) :
    (s.markWrong c).bitOf SEQ_CS_STAT_SUSPECT a = (a == c || s.bitOf SEQ_CS_STAT_SUSPECT a) := by
  have hput : (s.markWrong c).bitOf SEQ_CS_STAT_SUSPECT a = (s.putBit SEQ_CS_STAT_SUSPECT c true).bitOf SEQ_CS_STAT_SUSPECT a := by
    unfold State.markWrong
    rw [State.bitOf_fault]
    unfold State.bitOf
    rw [State.reg_setReg_stem _ _ _ _ _ _ (by decide)]
  rw [hput]
  by_cases h : a = c
  · rw [h, State.bitOf_putBit _ _ _ _ (by decide), beq_self_eq_true, Bool.true_or]
  · rw [State.bitOf_putBit_other _ _ _ (Ne.symm h) (by decide), beq_false_of_ne h, Bool.false_or]

theorem State.markWrong_lines (s : State) (c : Nat) : (s.markWrong c).hsk.lines.length = s.hsk.lines.length + 1 := by
  unfold State.markWrong
  rw [State.fault_lines, List.length_append, State.setReg_hsk, State.putBit_hsk]
  rfl

theorem length_lines_each_markWrong (l : List Nat) : ∀ s : State, (each l State.markWrong s).hsk.lines.length = s.hsk.lines.length + l.length := by
  induction l with
  | nil => exact fun _ => rfl
  | cons c l ih =>
    intro s
    rw [each_cons, ih, State.markWrong_lines, List.length_cons, Nat.add_assoc, Nat.add_comm 1]

theorem State.verified_seq (s : State) (clusters : Byte) : (s.verified clusters).seq = s.seq :=
  each_keeps (P := fun t : State => t.seq = s.seq) (fun c t ht => ((t.markWrong_kept c).seq (by decide)).trans ht) _ rfl

theorem State.suspect_verified (s : State) (clusters : Byte) {c : Nat} (hc : c < 8) : (s.verified clusters).bitOf SEQ_CS_STAT_SUSPECT c =
    (clusters.getLsbD c && (!(s.badWords c).isEmpty || s.crcDiffers c) || s.bitOf SEQ_CS_STAT_SUSPECT c) := by
  refine (each_sets (get := fun a t => t.bitOf SEQ_CS_STAT_SUSPECT a) (fun b a t => t.suspect_markWrong b a) c _ s).trans ?_
  refine congrArg (· || _) ?_
  rw [Bool.eq_iff_iff, List.contains_iff_mem, State.wrongCopies, List.mem_filter, List.mem_range]
  exact ⟨And.right, fun h => ⟨hc, h⟩⟩

end Sys2Proof.Machine
end

section
/-! PROOFS. What CAP_AQ_READ writes, what CAL_RESTORE leaves, and the start and the reset of an applet's core (R257, R374, R378, R404). -/

namespace Sys2Proof.Machine

/-! ### The record of an acquisition slot -/

theorem Tab.length_getList {α : Type} (d : Nat → α) (t : Tab α) (n : Nat) : ∀ a, (Tab.getList d t a n).length = n := by
  induction n with
  | zero => exact fun _ => rfl
  | succ n ih => exact fun a => congrArg Nat.succ (ih (a + 1))

theorem State.length_mem (s : State) (a n : Nat) : (s.mem a n).length = n := by
  unfold State.mem
  split
  · rw [List.length_map, List.length_range]
  · exact Tab.length_getList _ _ _ _

/-- A piece of a list made of pieces of one length. -/
theorem take_drop_flatMap {α β : Type} {f : α → List β} {z : Nat} (hf : ∀ x, (f x).length = z) (l : List α) : ∀ {j : Nat} (hj : j < l.length),
    ((l.flatMap f).drop (z * j)).take z = f l[j] := by
  induction l with
  | nil => exact fun hj => absurd hj (Nat.not_lt_zero _)
  | cons x l ih =>
    intro j hj
    rw [List.flatMap_cons]
    cases j with
    | zero => rw [Nat.mul_zero, List.drop_zero]; exact List.take_left' (hf x)
    | succ j =>
      rw [Nat.mul_succ, Nat.add_comm, ← List.drop_drop, List.drop_left' (hf x)]
      exact ih (Nat.lt_of_succ_lt_succ hj)

/-- The sample that a slot's record begins with. -/
def AqSlot.base (pre : Nat) (c : AqSlot) : Nat := match c.trig with | some t => t - pre | none => 0

/-- The samples of a record, one after another. -/
def State.aqSamples (s : State) (a i : Nat) : List Byte :=
  (List.range (s.aqSlot a i).samples).flatMap (fun j => s.mem (s.aqAddr a i ((s.aqSlot a i).base (s.aqPre a) + j)) 4)

/-- A record: its header and the samples. -/
theorem State.aqImage_eq (s : State) (a i : Nat) : ∃ idx flags bin vn : Nat, s.aqImage a i = leBytes 8 (s.aqSlot a i).lbc ++ (leBytes 4 idx ++
    (leBytes 4 flags ++ (leBytes 4 (s.aqSlot a i).samples ++ (leBytes 4 bin ++ (leBytes 8 vn ++ s.aqSamples a i))))) := by
  unfold State.aqImage
  simp only [List.append_assoc]
  exact ⟨_, _, _, _, rfl⟩

theorem State.length_aqSamples (s : State) (a i : Nat) : (s.aqSamples a i).length = 4 * (s.aqSlot a i).samples := by
  unfold State.aqSamples
  rw [List.length_flatMap]
  simp [State.length_mem, Nat.mul_comm]

theorem State.aqImage_shows (s : State) (a i : Nat) : (s.aqImage a i).length = 32 + 4 * (s.aqSlot a i).samples ∧
    leAt (s.aqImage a i) 0 8 = (s.aqSlot a i).lbc % 2 ^ 64 ∧ leAt (s.aqImage a i) 0x10 4 = (s.aqSlot a i).samples % 2 ^ 32 ∧
    ∀ j < (s.aqSlot a i).samples, ((s.aqImage a i).drop (32 + 4 * j)).take 4 =
      s.mem (s.aqAddr a i ((s.aqSlot a i).base (s.aqPre a) + j)) 4 := by
  obtain ⟨idx, flags, bin, vn, h⟩ := s.aqImage_eq a i
  rw [h]
  refine ⟨?_, ?_, ?_, fun j hj => ?_⟩
  · simp only [List.length_append, length_leBytes, State.length_aqSamples]
    omega
  · rw [leAt_append_left _ _ (length_leBytes 8 _), ofLE_leBytes]
    rfl
  · rw [leAt_append_right _ _ (length_leBytes 8 _) 8, leAt_append_right _ _ (length_leBytes 4 _) 4, leAt_append_right _ _ (length_leBytes 4 _) 0,
      leAt_append_left _ _ (length_leBytes 4 _), ofLE_leBytes]
    rfl
  · have hfront : (leBytes 8 (s.aqSlot a i).lbc ++ leBytes 4 idx ++ leBytes 4 flags ++ leBytes 4 (s.aqSlot a i).samples ++ leBytes 4 bin ++
        leBytes 8 vn).length = 32 := by simp only [List.length_append, length_leBytes]
    simp only [← List.append_assoc]
    rw [← List.drop_drop, List.drop_left' hfront]
    unfold State.aqSamples
    rw [take_drop_flatMap (fun _ => s.length_mem _ _) _ (by rw [List.length_range]; exact hj), List.getElem_range]

/-! ### CAL_RESTORE -/

/-- The restore of one set: its body, and VALID_T. -/
def State.restoreBody (source id : Nat) (s : State) : State :=
  if source = 0 then
    (s.loadSlot id (s.fieldOf CAL_SET_STAT_SLOT id)).putField CAL_SET_STAT_VALID_T id
      (leAt (s.norBytes (slotBase id (s.fieldOf CAL_SET_STAT_SLOT id)) 256) 0x14 1)
  else (s.loadFactory id).putField CAL_SET_STAT_VALID_T id (if id = 18 then 1 else 31)

/-- The restore of one set. -/
def State.restoreOne (source id : Nat) (s : State) : State :=
  let t := (s.restoreBody source id).putBit CAL_SET_STAT_DIRTY id (source != 0 && (s.restoreBody source id).fieldOf CAL_SET_STAT_SOURCE id == 2)
  if id = 18 then t.loadDelays else t

theorem State.restoreSets_eq (s : State) (sets : W32) (source : Nat) : s.restoreSets sets source = each (maskList sets 19) (State.restoreOne source) s := rfl

/-- What a restore reads and shows of a set. -/
structure SetView where
  stored : Nat → Nat
  slot : Nat
  source : Nat
  validT : Nat
  dirty : Bool

/-- What a restore reads and shows of set `id`. -/
def State.setView (s : State) (id : Nat) : SetView where
  stored k := leAt (s.norBytes (slotBase id k) 256) 0x14 1
  slot := s.fieldOf CAL_SET_STAT_SLOT id
  source := s.fieldOf CAL_SET_STAT_SOURCE id
  validT := s.fieldOf CAL_SET_STAT_VALID_T id
  dirty := s.bitOf CAL_SET_STAT_DIRTY id

/-- What a restore makes of it (R404). -/
def SetView.restored (source id : Nat) (v : SetView) : SetView := { v with
  validT := if source = 0 then v.stored v.slot % 32 else if id = 18 then 1 else 31
  dirty := source != 0 && v.source == 2 }

theorem State.setView_congr {s t : State} {id : Nat} (hnor : t.nor = s.nor) (hreg : t.reg .CAL_SET_STAT id = s.reg .CAL_SET_STAT id) :
    t.setView id = s.setView id := by
  unfold State.setView State.norBytes State.fieldOf State.bitOf
  rw [hnor]
  simp only [CAL_SET_STAT_SLOT, CAL_SET_STAT_SOURCE, CAL_SET_STAT_VALID_T, CAL_SET_STAT_DIRTY, hreg]

theorem State.setView_kept {m : Nat} {s t : State} (h : Kept m s t) (hnor : m.testBit Part.nor.ctorIdx = false)
    (hstat : m.testBit (32 + Stem.CAL_SET_STAT.ctorIdx) = false) (id : Nat) : t.setView id = s.setView id :=
  State.setView_congr (h.same .nor hnor) (h.reg .CAL_SET_STAT hstat id 0)

theorem State.putField_nor (s : State) (f : Field) (i v : Nat) : (s.putField f i v).nor = s.nor := State.setReg_nor ..

theorem State.norBytes_putField (s : State) (f : Field) (i v a n : Nat) : (s.putField f i v).norBytes a n = s.norBytes a n := by
  unfold State.norBytes State.putField
  rw [State.setReg_nor]

theorem State.setView_putValid (s : State) (id v : Nat) :
    (s.putField CAL_SET_STAT_VALID_T id v).setView id = { s.setView id with validT := v % 32 } := by
  unfold State.setView
  rw [State.fieldOf_putField_apart _ _ _ _ _ _ (by decide), State.fieldOf_putField_apart _ _ _ _ _ _ (by decide),
    State.fieldOf_putField _ _ _ _ (by decide), State.bitOf_putField_apart _ _ _ _ _ _ (by decide) (by decide)]
  simp only [State.norBytes_putField]
  rfl

theorem State.setView_putDirty (s : State) (id : Nat) (b : Bool) :
    (s.putBit CAL_SET_STAT_DIRTY id b).setView id = { s.setView id with dirty := b } := by
  unfold State.setView
  rw [State.fieldOf_putBit_apart _ _ _ _ _ _ (by decide), State.fieldOf_putBit_apart _ _ _ _ _ _ (by decide),
    State.fieldOf_putBit_apart _ _ _ _ _ _ (by decide), State.bitOf_putBit _ _ _ _ (by decide)]
  simp only [State.putBit, State.norBytes_putField]

theorem State.setView_restoreBody (s : State) (source id : Nat) : (s.restoreBody source id).setView id =
    { s.setView id with validT := if source = 0 then (s.setView id).stored (s.setView id).slot % 32 else if id = 18 then 1 else 31 } := by
  unfold State.restoreBody
  split
  · rw [State.setView_putValid, State.setView_kept (State.loadSlot_kept (Covers.refl _) (Kept.refl s) id _) (by decide) (by decide)]
    rfl
  · rw [State.setView_putValid, State.setView_kept (State.loadFactory_kept (Covers.refl _) (Kept.refl s) id) (by decide) (by decide)]
    split <;> rfl

theorem State.setView_restoreOne (s : State) (source id : Nat) : (s.restoreOne source id).setView id = (s.setView id).restored source id := by
  have hsource : (s.restoreBody source id).fieldOf CAL_SET_STAT_SOURCE id = s.fieldOf CAL_SET_STAT_SOURCE id :=
    congrArg SetView.source (s.setView_restoreBody source id)
  have hdirty := (s.restoreBody source id).setView_putDirty id (source != 0 && (s.restoreBody source id).fieldOf CAL_SET_STAT_SOURCE id == 2)
  rw [State.setView_restoreBody, hsource] at hdirty
  unfold State.restoreOne
  dsimp only
  rw [hsource]
  split
  · exact (State.setView_kept (State.loadDelays_kept (Covers.refl _) (Kept.refl _)) (by decide) (by decide) id).trans hdirty
  · exact hdirty

/-- A restore of another set leaves what is read of this one. -/
theorem State.restoreOne_other (s : State) (source : Nat) {id b : Nat} (h : b ≠ id) :
    (s.restoreOne source b).nor = s.nor ∧ (s.restoreOne source b).reg .CAL_SET_STAT id = s.reg .CAL_SET_STAT id := by
  have put (t : State) (f : Field) (v : Nat) (hf : f.word < 4) : (t.putField f b v).reg .CAL_SET_STAT id = t.reg .CAL_SET_STAT id :=
    State.reg_setReg_other t _ _ _ _ _ _ _ hf (by decide) fun e => h e.2.1
  have body : (s.restoreBody source b).nor = s.nor ∧ (s.restoreBody source b).reg .CAL_SET_STAT id = s.reg .CAL_SET_STAT id := by
    unfold State.restoreBody
    split
    · have hk := State.loadSlot_kept (Covers.refl _) (Kept.refl s) b (s.fieldOf CAL_SET_STAT_SLOT b)
      exact ⟨(State.putField_nor ..).trans (hk.same .nor (by decide)), (put _ _ _ (by decide)).trans (hk.reg .CAL_SET_STAT (by decide) id 0)⟩
    · have hk := State.loadFactory_kept (Covers.refl _) (Kept.refl s) b
      exact ⟨(State.putField_nor ..).trans (hk.same .nor (by decide)), (put _ _ _ (by decide)).trans (hk.reg .CAL_SET_STAT (by decide) id 0)⟩
  unfold State.restoreOne
  dsimp only
  split
  · have hk := State.loadDelays_kept (Covers.refl _) (Kept.refl ((s.restoreBody source b).putBit CAL_SET_STAT_DIRTY b
      (source != 0 && (s.restoreBody source b).fieldOf CAL_SET_STAT_SOURCE b == 2)))
    exact ⟨((hk.same .nor (by decide) :).trans (State.putField_nor ..)).trans body.1, (hk.reg .CAL_SET_STAT (by decide) id 0).trans ((put _ _ _ (by decide)).trans body.2)⟩
  · exact ⟨(State.putField_nor ..).trans body.1, (put _ _ _ (by decide)).trans body.2⟩

theorem State.setView_restoreSets (s : State) {sets : W32} (source : Nat) {id : Nat} (hid : id ∈ maskList sets 19) :
    (s.restoreSets sets source).setView id = (s.setView id).restored source id :=
  each_at (get := fun t => t.setView id) (g := fun v => v.restored source id)
    (fun _ t hb => State.setView_congr (t.restoreOne_other source hb).1 (t.restoreOne_other source hb).2)
    (fun t => t.setView_restoreOne source id) (maskList_nodup sets 19) hid s

theorem State.stat_restoreSets_other (s : State) {sets : W32} (source : Nat) {id : Nat} (hid : sets.getLsbD id = false) :
    (s.restoreSets sets source).reg .CAL_SET_STAT id = s.reg .CAL_SET_STAT id := by
  rw [State.restoreSets_eq]
  refine each_keeps_mem (P := fun t : State => t.reg .CAL_SET_STAT id = s.reg .CAL_SET_STAT id) _ (fun b hb t ht => ?_) s rfl
  have hne : b ≠ id := by
    rintro rfl
    rw [(mem_maskList.1 hb).2] at hid
    cases hid
  exact (t.restoreOne_other source hne).2.trans ht


/-! ### The core of an applet -/

theorem State.coreState_withMgt (s : State) (f : Mgt → Mgt) (k : Nat) : (s.withMgt f).coreState k = s.coreState k := rfl

theorem State.grant_congr {s t : State} (h : t.mgt.grants = s.mgt.grants) (k : Nat) : t.grant k = s.grant k := by
  unfold State.grant
  rw [h]

theorem State.appletReset_over (s : State) (k : Nat) : (s.appletReset k).coreState k = 0 ∧ (s.appletReset k).grant k = {} := by
  unfold State.appletReset State.invalidate
  refine ⟨?_, ?_⟩
  · dsimp only
    rw [State.coreState_withMgt, State.coreState_withMgt]
    exact State.fieldOf_putField _ _ _ _ (by decide)
  · unfold State.grant
    dsimp only
    rw [State.withMgt_mgt, State.withMgt_mgt]
    exact Tab.get_set_same (fun _ => ({ } : Grant)) _ k { }

/-- Pages taken for an address space: neither memory, nor registers, nor a grant moves. -/
theorem State.takePages_leaves (s : State) (k n : Nat) (keep : List (Nat × Nat)) : (s.takePages k n keep).2.regs = s.regs ∧
    (s.takePages k n keep).2.ram = s.ram ∧ (s.takePages k n keep).2.mgt.grants = s.mgt.grants := by
  unfold State.takePages
  dsimp only
  split
  · exact ⟨rfl, rfl, rfl⟩
  · exact ⟨rfl, rfl, rfl⟩

/-- The number of pages of an applet, and the pages with its tables that firmware takes for them (R378, R390). -/
def State.appletPages (s : State) (image : Nat) : Nat :=
  ceilDiv (leAt (s.mem image 64) 0x18 4 + leAt (s.mem image 64) 0x1C 4) 4096

def State.appletTake (s : State) (k image : Nat) : Option Nat × State :=
  s.takePages k (s.appletPages image + tablePages (s.appletPages image)) [(image, image + 64 + leAt (s.mem image 64) 0x18 4)]

/-- The applet's image and an empty root in pages from `a` on, and its pages mapped. -/
def State.appletMapped (s t : State) (image a : Nat) : State :=
  State.mapPages (a + 4096 * s.appletPages image) (s.appletPages image) (leAt (s.mem image 64) 8 8) a (a + 4096 * s.appletPages image + 4096)
    ((t.setMem a (s.mem (image + 64) (leAt (s.mem image 64) 0x18 4) ++ List.replicate (leAt (s.mem image 64) 0x1C 4) 0)).setMem
      (a + 4096 * s.appletPages image) (List.replicate 4096 0))

/-- The core in RUN in its address space. -/
def State.appletRun (k root : Nat) (s : State) : State := ((s.invalidate k).setReg64 .MGT_ASID_ROOT k (BitVec.ofNat 64 root)).startCore k

section
variable {s : State} {d : Deferred} {k image : Nat} (hg : (s.grant k).count ≠ 0) (hs : s.coreState k = 0)
include hg hs

theorem State.appletStart_full (hx : (s.appletTake k image).1 = none) : s.appletStart d k image =
    ((s.appletTake k image).2.withMgt fun m => { m with grants := m.grants.set (fun _ => { }) k { } }).finish d Status.noResource [] := by
  have hgo : ¬((s.grant k).count = 0 ∨ s.coreState k ≠ 0) := by rintro (h | h); exacts [hg h, h hs]
  unfold State.appletStart
  rw [if_neg hgo]
  show (match s.appletTake k image with | (none, s) => _ | (some a, s) => _) = _
  generalize s.appletTake k image = x at hx ⊢
  obtain ⟨o, t⟩ := x
  obtain rfl : o = none := hx
  rfl

theorem State.appletStart_runs {a : Nat} (hx : (s.appletTake k image).1 = some a) : s.appletStart d k image =
    ((s.appletMapped (s.appletTake k image).2 image a).appletRun k (a + 4096 * s.appletPages image)).finish d Status.ok d.data := by
  have hgo : ¬((s.grant k).count = 0 ∨ s.coreState k ≠ 0) := by rintro (h | h); exacts [hg h, h hs]
  unfold State.appletStart
  rw [if_neg hgo]
  show (match s.appletTake k image with | (none, s) => _ | (some a, s) => _) = _
  generalize s.appletTake k image = x at hx ⊢
  obtain ⟨o, t⟩ := x
  obtain rfl : o = some a := hx
  rfl

end

theorem State.appletMapped_grants (s t : State) (image a : Nat) : (s.appletMapped t image a).mgt.grants = t.mgt.grants := by
  unfold State.appletMapped
  rw [(State.mapPages_kept (Covers.refl _) _ _ _ _ _ (Kept.refl _)).same .mgt (by decide), State.setMem_mgt, State.setMem_mgt]

theorem State.appletRun_kept (s : State) (k root : Nat) : Kept 0x1040000000000000000000000000000000000004000 s (s.appletRun k root) :=
  State.startCore_kept (by decide) (State.setReg64_kept _ (by decide) (State.invalidate_kept (by decide) (Kept.refl s) k) _ _) k

theorem State.appletRun_grants (s : State) (k root : Nat) : (s.appletRun k root).mgt.grants = s.mgt.grants := by
  unfold State.appletRun State.startCore State.restartDog
  dsimp only
  rw [State.withMgt_mgt, State.putField_mgt]
  unfold State.setReg64
  rw [State.setReg_mgt, State.setReg_mgt, State.invalidate, State.withMgt_mgt]

theorem State.appletRun_shows (s : State) (k root : Nat) : (s.appletRun k root).coreState k = 1 ∧
    (s.appletRun k root).mgt.grants = s.mgt.grants ∧ (s.appletRun k root).reg64 .MGT_ASID_ROOT k = BitVec.ofNat 64 root ∧
    (s.appletRun k root).ram = s.ram := by
  refine ⟨(State.coreState_startCore _ k k).trans (if_pos rfl), s.appletRun_grants k root, ?_, (s.appletRun_kept k root).same .ram (by decide)⟩
  exact ((State.startCore_kept (Covers.refl _) (Kept.refl _) k).reg64 .MGT_ASID_ROOT (by decide) k).trans (State.reg64_setReg64 _ _ _ _)

end Sys2Proof.Machine
end

section
/-! PROOFS. Held completions, and deferred commands: their start and their end (R53, R54, R405). -/

namespace Sys2Proof.Machine

/-! ### COMPLETION_POST -/

/-- The first entry of a list that is picked, where none before it is. -/
theorem findIdx?_append_cons {α : Type} {p : α → Bool} {l r : List α} {x : α} (hl : ∀ y ∈ l, p y = false) (hx : p x = true) :
    (l ++ x :: r).findIdx? p = some l.length := by
  rw [List.findIdx?_eq_some_iff_getElem]
  refine ⟨by simp, by simpa using hx, fun j hj => ?_⟩
  rw [List.getElem_append_left hj]
  simpa using hl _ (List.getElem_mem hj)

theorem exec_completionPost {mb : Fin 17} {before : List Completion} {c : Completion} {after : List Completion} {s : State} (hr : s.running = true)
    (hh : s.hst.held = before ++ c :: after) (hb : ∀ x ∈ before, x.mb ≠ mb.val) (hc : c.mb = mb.val) (hroom : (s.box mb.val).cqFree ≠ 0) :
    exec (.completionPost mb) s = .next ((s.withHst fun h => { h with held := before ++ after }).writeEntry c) := by
  have hidx : s.hst.held.findIdx? (fun c => c.mb == mb.val) = some before.length := by
    rw [hh]
    exact findIdx?_append_cons (fun y hy => beq_false_of_ne (hb y hy)) (beq_iff_eq.2 hc)
  have hget : s.hst.held.getD before.length ⟨0, 0, 0, []⟩ = c := by
    rw [hh, List.getD_append_right _ _ _ _ (Nat.le_refl _), Nat.sub_self]
    rfl
  have herase : s.hst.held.eraseIdx before.length = before ++ after := by
    rw [hh, List.eraseIdx_append_of_length_le (Nat.le_refl _), Nat.sub_self]
    rfl
  obtain ⟨k, hk⟩ := Nat.exists_eq_succ_of_ne_zero hroom
  refine (done_live hr _).trans (congrArg _ ?_)
  dsimp only
  rw [hidx, hk]
  unfold State.withHst
  rw [← hget, ← herase]
  rfl

/-! ### DEFERRED_COMPLETION -/

section
variable {i : Nat} {d : Deferred} {s : State} (hr : s.running = true) (hs : s.shutDown = false) (hd : s.hst.deferred[i]? = some d)
include hr hs hd

theorem exec_deferredCompletion_known {st : Nat} {res : List Nat} (ho : d.outcome = some (st, res)) (facts : RunFacts) :
    exec (.deferredCompletion i facts) s = .next ((s.dropDeferred i).finish d st res) := by
  refine (done_live hr _).trans (congrArg _ ?_)
  dsimp only
  rw [hd]
  refine (if_neg (by rw [hs]; decide)).trans ?_
  rw [ho]

/-- One whose outcome is not known yet acts at its end. -/
theorem exec_deferredCompletion_run (ho : d.outcome = none) (facts : RunFacts) :
    exec (.deferredCompletion i facts) s = .next (State.endDeferredRun d facts s (s.dropDeferred i)) := by
  refine (done_live hr _).trans (congrArg _ ?_)
  dsimp only
  rw [hd]
  refine (if_neg (by rw [hs]; decide)).trans ?_
  rw [ho]

end

/-! ### DEFERRED_START -/

/-- A deferred command begins: it is due at a beat. -/
def State.beginDeferred (i due : Nat) (s : State) : State :=
  s.withHst fun h => { h with deferred := h.deferred.modify i (fun d => { d with started := true, due := due }) }

/-- What a deferred command that has not begun does: it begins, once what it waits for has ended. -/
def State.startDeferred (i : Nat) (cmd : Instr) (s : State) : State :=
  match cmd with
  | .seqUcodeVerify _ m => if (clusterThreads m).all s.idle then s.beginDeferred i (s.beat.lbc + 16384 * (maskList m 8).length) else s
  | .adcSelfcal _ m =>
    if s.adcsFree (maskList m 2) && !s.deviceRuns then (s.adcBusy (maskList m 2) selfcalBeats).beginDeferred i 0 else s
  | .adcOpenwire _ _ inputs c _ settle _ =>
    if s.adcState (c.toNat % 2) = 1 && !s.deviceRuns then
      (s.adcBusy [c.toNat % 2] (ceilDiv (openwireClocks (maskList inputs 38) settle.toNat * 8) 5)).beginDeferred i 0
    else s
  | .supSelftest _ c m =>
    if s.supOwnerIdle (c.toNat % 32) && s.supState (c.toNat % 32) == 0 && !(s.supCalibrates (c.toNat % 32)) then
      s.beginDeferred i (s.beat.lbc + 40000 * (maskList m 4).length)
    else s
  | .calRun _ scope _ _ _ inst =>
    if s.calFree scope inst && s.mayRun scope then
      (if scope = 2 then s.adcBusy (maskList inst 2) selfcalBeats else s).beginDeferred i 0
    else s
  | _ => s

theorem exec_deferredStart {i : Nat} {d : Deferred} {s : State} (hr : s.running = true) (hs : s.shutDown = false)
    (hd : s.hst.deferred[i]? = some d) (hst : d.started = false) (ho : d.outcome = none) :
    exec (.deferredStart i) s = .next (s.startDeferred i d.cmd) := by
  refine (done_live hr _).trans (congrArg _ ?_)
  dsimp only
  rw [hd]
  refine (if_neg (by rw [hs, hst, ho]; simp)).trans ?_
  rfl

/-! ### What a load of a table shows -/

section
variable (u : State) {site first count : Nat} {l : List (List Byte)} (hl : l.length = count)
include hl

/-- Only the timing sets named change, and they hold the images. -/
theorem State.loadTsets_shows (hfit : first + count ≤ 256) : { u.loadTsets site first l with seq := u.seq } = u ∧
    (∀ k < count, (u.loadTsets site first l).tset site (first + k) = l.getD k []) ∧
    ∀ n k, k < 256 → (n ≠ site ∨ k < first ∨ first + count ≤ k) → (u.loadTsets site first l).tset n k = u.tset n k := by
  refine ⟨by rw [State.loadTsets_eq]; rfl, fun k hk => ?_, fun n k hk hout => ?_⟩
  · rw [u.tset_loadTsets hl hfit site (by omega), if_pos ⟨rfl, by omega, by omega⟩, ← Nat.add_assoc, Nat.add_sub_cancel_left]
  · rw [u.tset_loadTsets hl hfit n hk, if_neg (by omega)]

/-- Only the marker entries named change, and they hold the bytes. -/
theorem State.loadMarks_shows (hfit : first + count ≤ 256) : { u.loadMarks site first l with seq := u.seq } = u ∧
    (∀ k < count, (u.loadMarks site first l).mkEntry site (first + k) = l.getD k []) ∧
    ∀ n k, k < 256 → (n ≠ site ∨ k < first ∨ first + count ≤ k) → (u.loadMarks site first l).mkEntry n k = u.mkEntry n k := by
  refine ⟨by rw [State.loadMarks_eq]; rfl, fun k hk => ?_, fun n k hk hout => ?_⟩
  · rw [u.mkEntry_loadMarks hl hfit site (by omega), if_pos ⟨rfl, by omega, by omega⟩, ← Nat.add_assoc, Nat.add_sub_cancel_left]
  · rw [u.mkEntry_loadMarks hl hfit n hk, if_neg (by omega)]

/-- Only the directory entries named change, and they hold the bytes. -/
theorem State.writeDir_shows : { u.writeDir first l with seq := u.seq } = u ∧
    (∀ k < count, (u.writeDir first l).dirEntry (first + k) = l.getD k []) ∧
    ∀ k, (k < first ∨ first + count ≤ k) → (u.writeDir first l).dirEntry k = u.dirEntry k := by
  refine ⟨u.writeDir_seqOnly first l, fun k hk => ?_, fun k hout => ?_⟩
  · rw [u.dirEntry_writeDir, if_pos ⟨by omega, by omega⟩, Nat.add_sub_cancel_left]
  · rw [u.dirEntry_writeDir, if_neg (by omega)]

end

/-- A read of the log moves nothing but memory. -/
theorem State.readLog_ramOnly (u : State) (dest first count : Nat) : { (u.readLog dest first count).2 with ram := u.ram } = u :=
  each_keeps (P := fun t : State => { t with ram := u.ram } = u) (fun p t ht => by
    rw [show State.setMem (dest + 256 * p.2) (u.norBytes p.1 256) t = { t with ram := _ } from State.setMem_sameButRam ..]
    exact ht) _ rfl

/-! ### What each command leaves at its end -/

/-- The program and its blocks, once they are taken. -/
theorem State.progTaken_shows (u : State) (p k : Nat) (bytes : List Byte) :
    let r := (u.freeBlockList 6 (u.prog p).blocks).takeBlocks 6 (progBlocks k)
    let t := r.2.putProg p k r.1 bytes
    t.prog p = { count := k, blocks := r.1 } ∧ (∀ q, q ≠ p → t.prog q = u.prog q) ∧ t.regs = r.2.regs ∧
    (u.meas.lost = false → ∀ j < r.1.length,
      t.mem (blockAddr (r.1.getD j 0)) ((bytes.drop (2048 * j)).take 2048).length = (bytes.drop (2048 * j)).take 2048) := by
  intro r t
  have hk : Kept 0x700000000000000000000000000000a0 u r.2 :=
    State.takeBlocks_kept (by decide) 6 _ (State.freeBlockList_kept (by decide) (Kept.refl u) 6 _)
  refine ⟨(State.prog_putProg ..).trans (if_pos rfl), fun q hq => (State.prog_putProg ..).trans ((if_neg hq).trans ?_), State.putProg_regs .., ?_⟩
  · unfold State.prog
    rw [hk.seq (by decide)]
  · intro hl
    have hmeas : (r.2.setProg p { count := k, blocks := r.1 }).meas.lost = false := (congrArg Meas.lost (hk.same .meas (by decide))).trans hl
    exact State.mem_fillBlocks r.1 bytes hmeas (State.takeBlocks_free 6 _ _).1

/-- The marks of the sets named, and those of every other. -/
theorem State.restoreSets_shows (u : State) (sets : W32) (source : Byte) {id : Nat} (hid : id < 19) :
    (sets.getLsbD id = true →
      (u.restoreSets sets source.toNat).fieldOf CAL_SET_STAT_VALID_T id = (if source = 0
        then leAt (u.norBytes (slotBase id (u.fieldOf CAL_SET_STAT_SLOT id)) 256) 0x14 1 % 32 else if id = 18 then 1 else 31) ∧
      (u.restoreSets sets source.toNat).bitOf CAL_SET_STAT_DIRTY id = (source != 0 && u.fieldOf CAL_SET_STAT_SOURCE id == 2)) ∧
    (sets.getLsbD id = false → (u.restoreSets sets source.toNat).reg .CAL_SET_STAT id 0 = u.reg .CAL_SET_STAT id 0) := by
  have hzero : source.toNat = 0 ↔ source = 0 := ⟨fun h => BitVec.eq_of_toNat_eq h, fun h => h ▸ rfl⟩
  refine ⟨fun h => ?_, fun h => u.stat_restoreSets_other _ h⟩
  have hview := u.setView_restoreSets source.toNat (mem_maskList.2 ⟨hid, h⟩)
  refine ⟨(congrArg SetView.validT hview).trans (if_congr hzero rfl rfl), (congrArg SetView.dirty hview).trans ?_⟩
  refine congrArg (· && _) ?_
  rw [Bool.eq_iff_iff, bne_iff_ne, bne_iff_ne]
  exact not_congr hzero

/-- No pages for an applet: its grant returns. -/
theorem State.appletFull_shows (u : State) (k image : Nat) :
    let t := (u.appletTake k image).2.withMgt fun m => { m with grants := m.grants.set (fun _ => { }) k { } }
    t.grant k = { } ∧ t.regs = u.regs ∧ t.ram = u.ram := by
  obtain ⟨hregs, hram, -⟩ := u.takePages_leaves k (u.appletPages image + tablePages (u.appletPages image))
    [(image, image + 64 + leAt (u.mem image 64) 0x18 4)]
  exact ⟨Tab.get_set_same (fun _ => ({ } : Grant)) _ k { }, hregs, hram⟩

/-- An applet in RUN in its pages. -/
theorem State.appletRuns_shows (u : State) (k image a : Nat) :
    let t := (u.appletMapped (u.appletTake k image).2 image a).appletRun k (a + 4096 * u.appletPages image)
    t.coreState k = 1 ∧ t.grant k = u.grant k ∧ t.reg64 .MGT_ASID_ROOT k = BitVec.ofNat 64 (a + 4096 * u.appletPages image) ∧
    t.ram = (u.appletMapped (u.appletTake k image).2 image a).ram := by
  obtain ⟨-, -, hgrants⟩ := u.takePages_leaves k (u.appletPages image + tablePages (u.appletPages image))
    [(image, image + 64 + leAt (u.mem image 64) 0x18 4)]
  obtain ⟨hcore, hrun, hroot, hram⟩ := (u.appletMapped (u.appletTake k image).2 image a).appletRun_shows k (a + 4096 * u.appletPages image)
  exact ⟨hcore, State.grant_congr (hrun.trans ((u.appletMapped_grants _ image a).trans hgrants)) k, hroot, hram⟩

section
variable {d : Deferred} (facts : RunFacts) (s u : State)

theorem endDeferredRun_adcStop {iss : Issuer} {m mode : Byte} (hc : d.cmd = .adcStop iss m mode) : State.endDeferredRun d facts s u =
    if ∃ a : Fin 2, (d.data.getD 0 0).testBit a.val = true ∧ (s.adc a.val).stopping = true then s else u.finish d Status.ok d.data := by
  unfold State.endDeferredRun
  rw [hc]
  refine if_congr ?_ rfl rfl
  rw [List.any_eq_true]
  constructor
  · rintro ⟨a, ha, hb⟩
    obtain ⟨hbit, hstop⟩ := (Bool.and_eq_true _ _).mp hb
    exact ⟨⟨a, List.mem_range.1 ha⟩, hbit, hstop⟩
  · rintro ⟨a, hbit, hstop⟩
    exact ⟨a.val, List.mem_range.2 a.isLt, (Bool.and_eq_true _ _).mpr ⟨hbit, hstop⟩⟩

theorem endDeferredRun_vstDirWrite {iss : Issuer} {src : W64} {first : W16} {count : W32} (hc : d.cmd = .vstDirWrite iss src first count) :
    State.endDeferredRun d facts s u = match u.lockedIn first.toNat count.toNat with
      | some n => u.finish d Status.wrongState [0, n]
      | none => (u.writeDir first.toNat (splitEntries 32 count.toNat d.bytes)).finish d Status.ok [count.toNat] := by
  unfold State.endDeferredRun
  rw [hc] <;> rfl

theorem endDeferredRun_ucodeVerify_waits {iss : Issuer} {m : Byte} (hc : d.cmd = .seqUcodeVerify iss m)
    (h : d.started = false ∨ s.beat.lbc < d.due) : State.endDeferredRun d facts s u = s := by
  unfold State.endDeferredRun
  rw [hc]
  refine if_neg fun hd => ?_
  rcases h with h | h
  · rw [h] at hd
    exact Bool.false_ne_true hd.1
  · exact absurd hd.2 (Nat.not_le.2 h)

end

/-! ### The two statements of O14 -/

/-- Settles O14: each command by what it does at its end, and its start by what it waits for. -/
theorem deferredCommandsAreAnswered : Obligations.DeferredCommandsAreAnswered := by
  unfold Obligations.DeferredCommandsAreAnswered
  refine ⟨fun mb before c after s hr hh hb hc hroom => exec_completionPost hr hh hb hc hroom,
    fun i d facts st res s hr hs hd ho => exec_deferredCompletion_known hr hs hd ho facts, ?_, ?_⟩
  · intro i d facts s hr hs hd ho u run
    have hrun : run = .next (State.endDeferredRun d facts s u) := exec_deferredCompletion_run hr hs hd ho facts
    have ends {w : State} (h : State.endDeferredRun d facts s u = w) : run = .next w := hrun.trans (congrArg _ h)
    clear_value run
    refine ⟨?_, ?_, ?_, ?_, ?_, ?_, ?_, ?_, ?_, ?_, ?_, ?_, ?_, ?_⟩
    · intro iss source site first count hc hfit
      exact ⟨_, ends (by unfold State.endDeferredRun; rw [hc]), u.loadTsets_shows (length_splitImages _ _) hfit⟩
    · intro iss source site first count hc hfit
      exact ⟨_, ends (by unfold State.endDeferredRun; rw [hc]), u.loadMarks_shows (length_splitEntries _ _ _) hfit⟩
    · intro iss source first count hc
      have hend := endDeferredRun_vstDirWrite facts s u hc
      refine ⟨fun n hn => ends (hend.trans (by rw [hn])), fun hn => ⟨_, ends (hend.trans (by rw [hn])), u.writeDir_shows (length_splitEntries _ _ _)⟩⟩
    · intro iss dest first count hc
      exact ends (by unfold State.endDeferredRun; rw [hc])
    · intro iss dest first count hc
      exact ⟨_, ends (by unfold State.endDeferredRun; rw [hc]), u.readLog_ramOnly _ _ _, rfl⟩
    · intro iss seg hc crc
      exact ends (by unfold State.endDeferredRun; rw [hc]; rfl)
    · intro iss source clusters hc l bad
      have hend : State.endDeferredRun d facts s u = u.runUcodeLoad d clusters facts.badCopies := by unfold State.endDeferredRun; rw [hc]
      have hshow := u.loadedCopies_shows clusters facts.badCopies l
      by_cases hb : bad = 0
      · exact ⟨_, fun _ => ends (hend.trans (u.runUcodeLoad_clean d hb)), fun h => absurd hb h, hshow⟩
      · exact ⟨_, fun h => absurd h hb, fun _ => ends (hend.trans (u.runUcodeLoad_bad d hb)), State.showsLoad_copyFault hshow⟩
    · intro iss clusters hc wrong
      refine ⟨fun h => ends (endDeferredRun_ucodeVerify_waits facts s u hc h), fun hst hdue => ?_⟩
      have hend : State.endDeferredRun d facts s u = u.runUcodeVerify d clusters := by
        unfold State.endDeferredRun
        rw [hc]
        exact if_pos ⟨hst, hdue⟩
      exact ⟨_, ends (hend.trans (u.runUcodeVerify_eq d clusters)), u.verified_seq clusters, length_lines_each_markWrong _ _,
        fun c hc => u.suspect_verified clusters hc⟩
    · intro iss source p count hc k v
      have hend : State.endDeferredRun d facts s u = u.runProgLoad d p count := by unfold State.endDeferredRun; rw [hc]
      refine ⟨fun h => ends (hend.trans (State.runProgLoad_used h)), fun h hf => ends (hend.trans (State.runProgLoad_full h hf)), fun h hf => ?_⟩
      exact ⟨_, ends (hend.trans (State.runProgLoad_fits h hf)), u.progTaken_shows p.toNat k d.bytes⟩
    · intro iss dest unit slot hc c base
      have hend : State.endDeferredRun d facts s u = if s.classDeferred 0 then s else u.runAqRead d dest unit slot := by
        unfold State.endDeferredRun
        rw [hc]
      refine ⟨fun h => ends (hend.trans (if_pos h)), fun h => ?_⟩
      exact ⟨u.aqImage unit.toNat slot.toNat, ends (hend.trans (if_neg (by rw [h]; decide))), u.aqImage_shows unit.toNat slot.toNat⟩
    · intro iss converters mode hc
      exact ends (endDeferredRun_adcStop facts s u hc)
    · intro iss sets source hc
      exact ⟨_, ends (by unfold State.endDeferredRun; rw [hc]), fun id hid => u.restoreSets_shows sets source hid⟩
    · intro iss image core threads engines queues sites quota hc hk hg hcore k h n p x
      have hend : State.endDeferredRun d facts s u = u.appletStart d k image.toNat := by unfold State.endDeferredRun; rw [hc]
      refine ⟨fun hx => ⟨_, ends (hend.trans (State.appletStart_full hg hcore hx)), u.appletFull_shows k image.toNat⟩,
        fun a hx => ?_⟩
      have hx' : (u.appletTake k image.toNat).1 = some a := hx
      have hg' : (u.grant k).count ≠ 0 := hg
      have hcore' : u.coreState k = 0 := hcore
      have hstart := State.appletStart_runs (d := d) hg' hcore' hx'
      have hshows := u.appletRuns_shows k image.toNat a
      exact ⟨_, ends (hend.trans hstart), hshows⟩
    · intro iss core hc hk
      exact ⟨_, ends (by unfold State.endDeferredRun; rw [hc]), u.appletReset_over core.toNat⟩
  · intro i d s hr hs hd hst ho start
    have hrun := exec_deferredStart hr hs hd hst ho
    refine ⟨?_, ?_, ?_, ?_, ?_⟩
    · intro iss m hc hidle
      rw [hrun, hc]
      exact congrArg _ (if_pos hidle)
    · intro iss m hc hfree hdev
      rw [hrun, hc]
      exact congrArg _ (if_pos (by rw [hfree, hdev]; rfl))
    · intro iss a inputs c cur settle thr hc hidle hdev
      rw [hrun, hc]
      exact congrArg _ (if_pos (by rw [hidle, hdev]; rfl))
    · intro iss c m hc hidle hoff hcal
      rw [hrun, hc]
      exact congrArg _ (if_pos (by rw [hidle, hoff, hcal]; rfl))
    · intro iss scope mode set fl inst hc hfree hmay
      rw [hrun, hc]
      exact congrArg _ (if_pos (by rw [hfree, hmay]; rfl))

end Sys2Proof.Machine
end

section
/-! PROOFS. The TDC: what an accepted edge and a taken timestamp leave of each TDC (R260 to R265), and what a value leaves in the
statistics (R268, R272). -/

namespace Sys2Proof.Machine

/-! ### TDCs -/

theorem State.tdc_modTdc_same (s : State) (n : Nat) (f : Tdc → Tdc) : (s.modTdc n f).tdc n = f (s.tdc n) := Tab.get_set_same _ _ _ _

theorem State.tdc_modTdc_other (s : State) {m n : Nat} (h : n ≠ m) (f : Tdc → Tdc) : (s.modTdc m f).tdc n = s.tdc n :=
  Tab.get_set_other _ _ _ _ _ h

theorem State.tdc_congr {s t : State} (h : t.meas = s.meas) (n : Nat) : t.tdc n = s.tdc n := by unfold State.tdc; rw [h]

/-- Nothing but the measurement of TDC `n` has changed: every other TDC is as it was, and its edge detector too. -/
structure State.MeasuresOnly (n : Nat) (s t : State) : Prop where
  others (m : Nat) (h : m ≠ n) : t.tdc m = s.tdc m
  level : (t.tdc n).level = (s.tdc n).level
  hold : (t.tdc n).hold = (s.tdc n).hold

theorem State.MeasuresOnly.trans {n : Nat} {r s t : State} (h : r.MeasuresOnly n s) (k : s.MeasuresOnly n t) : r.MeasuresOnly n t :=
  ⟨fun m hm => (k.others m hm).trans (h.others m hm), k.level.trans h.level, k.hold.trans h.hold⟩

theorem State.MeasuresOnly.of_meas {n : Nat} {s t : State} (h : t.meas = s.meas) : s.MeasuresOnly n t :=
  ⟨fun m _ => State.tdc_congr h m, congrArg Tdc.level (State.tdc_congr h n), congrArg Tdc.hold (State.tdc_congr h n)⟩

theorem State.MeasuresOnly.modTdc (s : State) (n : Nat) {f : Tdc → Tdc} (hl : (f (s.tdc n)).level = (s.tdc n).level)
    (hh : (f (s.tdc n)).hold = (s.tdc n).hold) : s.MeasuresOnly n (s.modTdc n f) :=
  ⟨fun _ h => s.tdc_modTdc_other h f, (congrArg Tdc.level (s.tdc_modTdc_same n f)).trans hl, (congrArg Tdc.hold (s.tdc_modTdc_same n f)).trans hh⟩

/-- A level accepted, the dead time after it begun (R263). -/
def State.acceptLevel (n now : Nat) (lv : Bool) (s : State) : State :=
  s.modTdc n fun t => { t with level := some lv, hold := some (now + max 450000 (s.fieldOf TIA_RX_CFG_HOLDOFF n * 156250), lv) }

/-! ### Timestamps (R265) -/

/-- With room in the buffer a timestamp goes to its end. -/
theorem State.tdcPush_room (s : State) (n : Nat) (x : Stamp) (h : (s.tdc n).buffer.length < 64) : s.tdcPush n x =
    s.modTdc n fun t => { t with buffer := t.buffer ++ [{ x with fresh := x.fresh || (s.tdc n).breakNext }], breakNext := false } :=
  if_neg (Nat.not_le.2 h)

theorem State.tdcPush_measuresOnly (s : State) (n : Nat) (x : Stamp) : s.MeasuresOnly n (s.tdcPush n x) := by
  unfold State.tdcPush
  dsimp only
  split
  · refine State.MeasuresOnly.trans (State.MeasuresOnly.of_meas ?_) (State.MeasuresOnly.modTdc _ n rfl rfl)
    unfold when
    split <;> rfl
  · exact State.MeasuresOnly.modTdc s n rfl rfl

/-- A note made of a TDC's measurement, and a timestamp put in its buffer. -/
theorem State.notedPush_measuresOnly (s : State) (n : Nat) {f : Tdc → Tdc} (hl : (f (s.tdc n)).level = (s.tdc n).level)
    (hh : (f (s.tdc n)).hold = (s.tdc n).hold) (x : Stamp) : s.MeasuresOnly n ((s.modTdc n f).tdcPush n x) :=
  (State.MeasuresOnly.modTdc s n hl hh).trans (State.tdcPush_measuresOnly _ n x)

theorem State.MeasuresOnly.ite {n : Nat} {r s t : State} {c : Prop} [Decidable c] (hs : r.MeasuresOnly n s) (ht : r.MeasuresOnly n t) :
    r.MeasuresOnly n (if c then s else t) := by
  split
  · exact hs
  · exact ht

theorem State.tdcMeets_measuresOnly (s : State) (n : Nat) (stop : Bool) (stamp : Int) (rising : Bool) (window : Option TWin) :
    s.MeasuresOnly n (s.tdcMeets n stop stamp rising window) := by
  have hself : s.MeasuresOnly n s := State.MeasuresOnly.of_meas rfl
  unfold State.tdcMeets
  extract_lets t twin win inGate isStart isStop vec
  clear_value win inGate vec
  refine .ite hself ?_
  split
  · exact .ite (s.tdcPush_measuresOnly n _) hself
  · have hstart : s.MeasuresOnly n (if !stop && isStart && !t.usedStart.contains vec then
        (s.modTdc n fun t => { t with usedStart := t.usedStart ++ [vec] }).tdcPush n { time := stamp, rising := rising, win := win } else s) :=
      .ite (s.notedPush_measuresOnly n rfl rfl _) hself
    exact .ite (hstart.trans (State.notedPush_measuresOnly _ n rfl rfl _)) hstart
  · exact .ite hself (s.notedPush_measuresOnly n rfl rfl _)
  · exact .ite hself (State.MeasuresOnly.modTdc s n rfl rfl)

/-- Under CONT an edge of a named polarity, from the start beat on, enters the buffer of a TDC in EDGE_EDGE (R265, R266). -/
theorem State.tdcMeets_edgeEdge (s : State) {n : Nat} {stamp : Int} {lv : Bool} (window : Option TWin) (htakes : s.tdcTakes n = true)
    (hmode : s.fieldOf TIA_CH_CFG_MODE n = 0) (hgate : s.bitOf TIA_CH_CFG_GATE n = false) (hbegan : ((s.tdc n).began * 2048 : Nat) ≤ stamp)
    (hpol : polarity (s.fieldOf TIA_CH_CFG_START_POL n) lv = true ∨ polarity (s.fieldOf TIA_CH_CFG_STOP_POL n) lv = true) :
    s.tdcMeets n false stamp lv window = s.tdcPush n { time := stamp, rising := lv } := by
  have hnamed : (polarity (s.fieldOf TIA_CH_CFG_START_POL n) lv || polarity (s.fieldOf TIA_CH_CFG_STOP_POL n) lv) = true := by
    rcases hpol with h | h <;> simp [h]
  have hgated : decide (((s.tdc n).began * 2048 : Nat) ≤ stamp) = true := decide_eq_true hbegan
  simp only [State.tdcMeets, htakes, hmode, hgate, hgated, hnamed, Bool.not_true, Bool.not_false, Bool.or_self, Bool.and_self, Bool.false_eq_true, if_false, if_true]

/-! ### TDC_EDGE (R262 to R265) -/

/-- The CH_CH measurements that name a channel as their reference (R268). -/
def State.refersTo (s : State) (n : Nat) : List Nat :=
  (List.range 128).filter (fun m => s.fieldOf TIA_CH_CFG_MODE m == 1 && s.fieldOf TIA_CH_CFG_REF_CH m == n)

/-- An accepted edge meets its own measurement, and those that name the channel as their reference. -/
def State.edgeMeets (n : Nat) (stamp : Int) (lv : Bool) (win : Option TWin) (s : State) : State :=
  let t := s.tdcMeets n false stamp lv win
  each (t.refersTo n) (fun m => State.tdcMeets m true stamp lv win) t

theorem State.edgeMeets_detector (s : State) (n : Nat) (stamp : Int) (lv : Bool) (win : Option TWin) :
    ((s.edgeMeets n stamp lv win).tdc n).level = (s.tdc n).level ∧ ((s.edgeMeets n stamp lv win).tdc n).hold = (s.tdc n).hold := by
  have hown := s.tdcMeets_measuresOnly n false stamp lv win
  refine each_keeps (P := fun t => (t.tdc n).level = (s.tdc n).level ∧ (t.tdc n).hold = (s.tdc n).hold) (fun m t ht => ?_) _ ⟨hown.level, hown.hold⟩
  obtain ⟨hl, hh⟩ := ht
  have hm := t.tdcMeets_measuresOnly m true stamp lv win
  by_cases e : n = m
  · subst e
    exact ⟨hm.level.trans hl, hm.hold.trans hh⟩
  · rw [hm.others n e]
    exact ⟨hl, hh⟩

/-- Of a TDC that is not in CH_CH, only its own measurement meets its edge. -/
theorem State.edgeMeets_tdc (s : State) {n : Nat} (stamp : Int) (lv : Bool) (win : Option TWin) (hmode : s.fieldOf TIA_CH_CFG_MODE n ≠ 1) :
    (s.edgeMeets n stamp lv win).tdc n = (s.tdcMeets n false stamp lv win).tdc n := by
  refine each_keeps_mem (P := fun t => t.tdc n = (s.tdcMeets n false stamp lv win).tdc n) _ (fun m hm t ht => ?_) _ rfl
  have hmeets := State.tdcMeets_kept (Covers.refl _) (Kept.refl s) n false stamp lv win
  have hne : n ≠ m := by
    rintro rfl
    have hm1 := (List.mem_filter.1 hm).2
    rw [hmeets.fieldOf TIA_CH_CFG_MODE (by decide)] at hm1
    simp [hmode] at hm1
  rw [(t.tdcMeets_measuresOnly m true stamp lv win).others n hne, ht]

section
variable {s : State} (hr : s.running = true) (ch : Fin 128) (level : Bool) (ofs : Nat)
include hr

theorem exec_tdcEdge_ignored (h : s.tdcUnresolved ch.val = true ∨ (∃ e l, (s.tdc ch.val).hold = some (e, l) ∧ s.now + ofs < e) ∨
    (s.tdc ch.val).level = some (s.tdcLevel ch.val level)) : exec (.tdcEdge ch level ofs) s = .next s := by
  refine (done_live hr _).trans (congrArg _ (if_pos ?_))
  rcases h with h | ⟨e, l, h, hlt⟩ | h
  · simp [h]
  · simp [h, hlt]
  · simp [h]

theorem exec_tdcEdge_accepted (hres : s.tdcUnresolved ch.val = false) (hdead : ∀ e l, (s.tdc ch.val).hold = some (e, l) → e ≤ s.now + ofs)
    (hlv : (s.tdc ch.val).level ≠ some (s.tdcLevel ch.val level)) : exec (.tdcEdge ch level ofs) s =
    .next (let u := s.acceptLevel ch.val (s.now + ofs) (s.tdcLevel ch.val level)
      u.edgeMeets ch.val (lsbOf (((s.now + ofs : Nat) : Int) - signed 25 (s.fieldOf TMG_DSK_CMP_OFFSET ch.val))) (s.tdcLevel ch.val level)
        (u.windowAt ch.val ((s.now + ofs : Nat) : Int))) := by
  refine (done_live hr _).trans (congrArg _ (if_neg ?_))
  rcases hh : (s.tdc ch.val).hold with _ | ⟨e, l⟩
  · simp [hres, hlv]
  · simp [hres, hlv, hdead e l hh]

end

/-- A timestamp accepted in EDGE_EDGE under CONT goes to the end of a buffer with room (R265). -/
theorem State.edgeMeets_buffer (s : State) {n : Nat} {stamp : Int} {lv : Bool} (win : Option TWin) (htakes : s.tdcTakes n = true)
    (hmode : s.fieldOf TIA_CH_CFG_MODE n = 0) (hgate : s.bitOf TIA_CH_CFG_GATE n = false) (hbegan : ((s.tdc n).began * 2048 : Nat) ≤ stamp)
    (hpol : polarity (s.fieldOf TIA_CH_CFG_START_POL n) lv = true ∨ polarity (s.fieldOf TIA_CH_CFG_STOP_POL n) lv = true)
    (hroom : (s.tdc n).buffer.length < 64) : ((s.edgeMeets n stamp lv win).tdc n).buffer.map (fun x => (x.time, x.rising)) =
      (s.tdc n).buffer.map (fun x => (x.time, x.rising)) ++ [(stamp, lv)] := by
  rw [State.edgeMeets_tdc s stamp lv win (by rw [hmode]; decide), State.tdcMeets_edgeEdge s win htakes hmode hgate hbegan hpol,
    State.tdcPush_room s n _ hroom, State.tdc_modTdc_same, List.map_append]
  rfl

/-- The level that a detector accepts changes nothing that its measurement goes by. -/
theorem State.acceptLevel_tdc (s : State) (n now : Nat) (lv : Bool) : (s.acceptLevel n now lv).tdc n = { s.tdc n with
    level := some lv, hold := some (now + max 450000 (s.fieldOf TIA_RX_CFG_HOLDOFF n * 156250), lv) } := State.tdc_modTdc_same ..

/-- The edge accepted is the detector's level, and its dead time has begun. -/
theorem State.acceptLevel_detector (s : State) (n now : Nat) (stamp : Int) (lv : Bool) (win : Option TWin) :
    let t := (s.acceptLevel n now lv).edgeMeets n stamp lv win
    (t.tdc n).level = some lv ∧ (t.tdc n).hold = some (now + max 450000 (s.fieldOf TIA_RX_CFG_HOLDOFF n * 156250), lv) := by
  obtain ⟨hlevel, hhold⟩ := (s.acceptLevel n now lv).edgeMeets_detector n stamp lv win
  rw [State.acceptLevel_tdc] at hlevel hhold
  exact ⟨hlevel, hhold⟩

theorem State.acceptLevel_buffer (s : State) {n : Nat} (now : Nat) {stamp : Int} {lv : Bool} (win : Option TWin) (htakes : s.tdcTakes n = true)
    (hmode : s.fieldOf TIA_CH_CFG_MODE n = 0) (hgate : s.bitOf TIA_CH_CFG_GATE n = false) (hbegan : ((s.tdc n).began * 2048 : Nat) ≤ stamp)
    (hpol : polarity (s.fieldOf TIA_CH_CFG_START_POL n) lv = true ∨ polarity (s.fieldOf TIA_CH_CFG_STOP_POL n) lv = true)
    (hroom : (s.tdc n).buffer.length < 64) :
    (((s.acceptLevel n now lv).edgeMeets n stamp lv win).tdc n).buffer.map (fun x => (x.time, x.rising)) =
      (s.tdc n).buffer.map (fun x => (x.time, x.rising)) ++ [(stamp, lv)] := by
  have htdc := s.acceptLevel_tdc n now lv
  have htakes' : (s.acceptLevel n now lv).tdcTakes n = true := by
    rw [← htakes]
    unfold State.tdcTakes
    rw [htdc]
    rfl
  have hbuf := State.edgeMeets_buffer (s.acceptLevel n now lv) (stamp := stamp) win htakes' hmode hgate (by rw [htdc]; exact hbegan) hpol (by rw [htdc]; exact hroom)
  rw [htdc] at hbuf
  exact hbuf

end Sys2Proof.Machine
end

section
/-! PROOFS. The TDC's measurement: the timestamps it takes, the values it makes of them, and their statistics (R263 to R272). -/

namespace Sys2Proof.Machine

/-! ### TDC_HOLDOFF_END and COMPARE_INPUT_RESOLVE (R88, R262, R263) -/

section
variable {s : State} (hr : s.running = true) (ch : Fin 128)
include hr

theorem exec_tdcHoldoffEnd {e : Nat} {set : Bool} (level : Bool) (hh : (s.tdc ch.val).hold = some (e, set)) (he : e < (s.beat.lbc + 1) * beatFs) :
    exec (.tdcHoldoffEnd ch level) s = .next (let lv := s.tdcLevel ch.val level
      let u := s.modTdc ch.val fun t => { t with hold := none, level := some lv }
      if lv = set then u else u.countUp TIA_ERR_GLITCH ch.val 1) := by
  refine (done_live hr _).trans (congrArg _ ?_)
  dsimp only
  rw [hh]
  dsimp only
  rw [if_neg (Nat.not_le.2 he), when]
  by_cases hl : s.tdcLevel ch.val level = set <;> simp [hl]

end

/-- The flag of a channel's input that is UNRESOLVED (R88). -/
def unresolvedFlag (low : Bool) : Field := if low then TMG_CH_STAT_CPL_UNRES else TMG_CH_STAT_CPH_UNRES

/-- An input of a channel as it resolves: its flag clears, and its pip's note of it. -/
def State.inputResolved (n : Nat) (low : Bool) (s : State) : State :=
  (s.putBit (unresolvedFlag low) n false).modPip n fun p => if low then { p with unresL := false } else { p with unresH := false }

/-- A flag of an input clears, and nothing else that a TDC reads changes. -/
theorem State.inputResolved_reads (s : State) (n : Nat) (low : Bool) : let u := s.inputResolved n low
    u.bitOf (unresolvedFlag low) n = false ∧ (∀ m, u.tdc m = s.tdc m) ∧ (∀ raw, u.tdcLevel n raw = s.tdcLevel n raw) := by
  have hother (g : Field) (ha : (unresolvedFlag low).apart g = true) (hg : g.single = true) : (s.inputResolved n low).bitOf g n = s.bitOf g n :=
    State.bitOf_putBit_apart s _ g n n false ha hg
  refine ⟨State.bitOf_putBit s _ n false (by cases low <;> rfl), fun _ => rfl, fun raw => ?_⟩
  unfold State.tdcLevel
  rw [hother TIA_CH_CFG_IN (by cases low <;> rfl) rfl, hother TMG_CH_TIM_CPL_INV (by cases low <;> rfl) rfl,
    hother TMG_CH_TIM_CPH_INV (by cases low <;> rfl) rfl]

section
variable {s : State} (hr : s.running = true) (ch : Fin 128) (low level : Bool)
include hr

theorem exec_compareInputResolve_idle (h : s.bitOf (unresolvedFlag low) ch.val = false ∨ s.beat.lbc = 0) :
    exec (.compareInputResolve ch low level) s = .next s := by
  refine (done_live hr _).trans (congrArg _ (if_pos ?_))
  rcases h with h | h
  · cases low <;> simpa [unresolvedFlag] using Or.inl h
  · simp [h]

theorem exec_compareInputResolve (h : s.bitOf (unresolvedFlag low) ch.val = true) (hb : s.beat.lbc ≠ 0) :
    exec (.compareInputResolve ch low level) s = .next (let u := s.inputResolved ch.val low
      if s.bitOf TIA_CH_CFG_IN ch.val = low then u.modTdc ch.val fun t => { t with level := some (s.tdcLevel ch.val level), hold := none } else u) := by
  obtain ⟨_, _, hlevel⟩ := s.inputResolved_reads ch.val low
  have hin : (s.inputResolved ch.val low).bitOf TIA_CH_CFG_IN ch.val = s.bitOf TIA_CH_CFG_IN ch.val :=
    State.bitOf_putBit_apart s _ _ _ _ false (by cases low <;> rfl) rfl
  refine (done_live hr _).trans (congrArg _ ((if_neg ?_).trans ?_))
  · cases low <;> simpa [unresolvedFlag, hb] using h
  · simp only [← hlevel level, ← hin]
    cases low <;> rfl

end

/-! ### Statistics of a value (R268, R270, R272) -/

theorem signed_ofInt {v : Int} (h : v.natAbs ≤ 2 ^ 31 - 1) : signed 32 (BitVec.ofInt 32 v).toNat = v := by
  rw [BitVec.toNat_ofInt]
  unfold signed
  split <;> omega

theorem State.reg_setReg64_stem (s : State) {st st' : Stem} (i j w : Nat) (v : W64) (h : st' ≠ st) :
    (s.setReg64 st i v).reg st' j w = s.reg st' j w := by
  unfold State.setReg64
  rw [State.reg_setReg_stem _ _ _ _ _ _ h, State.reg_setReg_stem _ _ _ _ _ _ h]

/-- SSQ reads as what was set, cut to its 96 bits. -/
theorem State.tdcSsq_setSsq (s : State) (n v : Nat) : (s.setSsq n v).tdcSsq n = v % 2 ^ 96 := by
  have h0 : (s.setSsq n v).reg .TIA_SSQ n 0 = BitVec.ofNat 32 v :=
    (State.reg_setReg_other _ _ _ _ _ _ _ _ (by decide) (by decide) (by simp)).trans
      ((State.reg_setReg_other _ _ _ _ _ _ _ _ (by decide) (by decide) (by simp)).trans (State.reg_setReg_same ..))
  have h1 : (s.setSsq n v).reg .TIA_SSQ n 1 = BitVec.ofNat 32 (v / 2 ^ 32) :=
    (State.reg_setReg_other _ _ _ _ _ _ _ _ (by decide) (by decide) (by simp)).trans (State.reg_setReg_same ..)
  have h2 : (s.setSsq n v).reg .TIA_SSQ n 2 = BitVec.ofNat 32 (v / 2 ^ 64) := State.reg_setReg_same ..
  unfold State.tdcSsq
  rw [h0, h1, h2, BitVec.toNat_ofNat, BitVec.toNat_ofNat, BitVec.toNat_ofNat]
  omega

/-- The statistics as they stood before a window's first value, noted under TWIN (R267). -/
def State.undoNoted (n : Nat) (win : Option TWin) (s : State) : State :=
  match win with
  | some w => if (s.tdc n).undo.map Prod.fst = some w.vec then s else s.modTdc n fun t => { t with undo := some (w.vec, s.stats n) }
  | none => s

/-- The extremes of a run with one more value. -/
def State.widened (n : Nat) (v : Int) (s : State) : State :=
  let w := BitVec.ofInt 32 v
  let s := if v < signed 32 (s.reg .TIA_MIN n).toNat then s.setReg .TIA_MIN n 0 w else s
  if signed 32 (s.reg .TIA_MAX n).toNat < v then s.setReg .TIA_MAX n 0 w else s

/-- The sums of a run with one more value. -/
def State.summed (n : Nat) (v : Int) (s : State) : State :=
  let s := s.setReg64 .TIA_CNT n (BitVec.ofNat 64 ((s.reg64 .TIA_CNT n).toNat + 1))
  let s := s.setReg64 .TIA_SUM n (s.reg64 .TIA_SUM n + BitVec.ofInt 64 v)
  s.setSsq n (s.tdcSsq n + v.natAbs * v.natAbs)

/-- The last value of a run, and the intervals of a FREQ gate. -/
def State.lastNoted (n : Nat) (v : Int) (edges : Nat) (s : State) : State :=
  let s := s.setReg .TIA_LAST n 0 (BitVec.ofInt 32 v)
  if edges = 0 then s else s.setReg64 .TIA_IVL n (s.reg64 .TIA_IVL n + BitVec.ofNat 64 (edges - 1))

/-- A run's statistics with one more value (R272). -/
def State.tallied (n : Nat) (v : Int) (edges : Nat) (s : State) : State := ((s.summed n v).widened n v).lastNoted n v edges

theorem State.tdcValue_eq (s : State) {n : Nat} {v : Int} (edges : Nat) (win : Option TWin) (hv : v.natAbs ≤ 2 ^ 31 - 1) (ht : s.tdcTakes n = true) :
    s.tdcValue n v edges win = (let t := (s.undoNoted n win).tallied n v edges
      if (t.reg .TIA_N n).toNat + 1 ≤ ((s.undoNoted n win).reg64 .TIA_CNT n).toNat + 1 then t.tdcEnd n false else t) := by
  unfold State.tdcValue
  rw [if_neg (by omega), if_neg (by simp [ht])]
  rfl

theorem State.undoNoted_kept (s : State) (n : Nat) (win : Option TWin) : Kept 0x2000 s (s.undoNoted n win) := by
  cases win with
  | none => exact Kept.refl s
  | some w => exact kept_ite (fun _ => Kept.refl s) fun _ => State.modTdc_kept (by decide) (Kept.refl s) _ _

theorem State.undoNoted_ended (s : State) (n : Nat) (win : Option TWin) : ((s.undoNoted n win).tdc n).ended = (s.tdc n).ended := by
  cases win with
  | none => rfl
  | some w =>
    unfold State.undoNoted
    dsimp only
    split
    · rfl
    · rw [State.tdc_modTdc_same]

theorem State.summed_kept (s : State) (n : Nat) (v : Int) : Kept (stemBit .TIA_CNT ||| stemBit .TIA_SUM ||| stemBit .TIA_SSQ) s (s.summed n v) :=
  State.setSsq_kept (by decide) (State.setReg64_kept _ (by decide) (State.setReg64_kept _ (by decide) (Kept.refl s) _ _) _ _) _ _

theorem State.widened_kept (s : State) (n : Nat) (v : Int) : Kept (stemBit .TIA_MIN ||| stemBit .TIA_MAX) s (s.widened n v) := by
  have hmin : Kept (stemBit .TIA_MIN ||| stemBit .TIA_MAX) s
      (if v < signed 32 (s.reg .TIA_MIN n).toNat then s.setReg .TIA_MIN n 0 (BitVec.ofInt 32 v) else s) :=
    kept_ite (fun _ => State.setReg_kept _ (by decide) (Kept.refl s) _ _ _) fun _ => Kept.refl s
  exact kept_ite (fun _ => State.setReg_kept _ (by decide) hmin _ _ _) fun _ => hmin

theorem State.lastNoted_kept (s : State) (n : Nat) (v : Int) (edges : Nat) :
    Kept (stemBit .TIA_LAST ||| stemBit .TIA_IVL) s (s.lastNoted n v edges) := by
  have hlast : Kept (stemBit .TIA_LAST ||| stemBit .TIA_IVL) s (s.setReg .TIA_LAST n 0 (BitVec.ofInt 32 v)) :=
    State.setReg_kept _ (by decide) (Kept.refl s) _ _ _
  exact kept_ite (fun _ => hlast) fun _ => State.setReg64_kept _ (by decide) hlast _ _

theorem State.tdcSsq_of_kept {m : Nat} {s t : State} (h : Kept m s t) (hm : m.testBit (32 + Stem.TIA_SSQ.ctorIdx) = false) (n : Nat) :
    t.tdcSsq n = s.tdcSsq n := by
  unfold State.tdcSsq
  rw [h.reg _ hm, h.reg _ hm, h.reg _ hm]

/-- CNT, SUM and SSQ with one more value. -/
theorem State.summed_reads (s : State) (n : Nat) (v : Int) : let t := s.summed n v
    t.reg64 .TIA_CNT n = s.reg64 .TIA_CNT n + 1 ∧ t.reg64 .TIA_SUM n = s.reg64 .TIA_SUM n + BitVec.ofInt 64 v ∧
    t.tdcSsq n = (s.tdcSsq n + v.natAbs * v.natAbs) % 2 ^ 96 := by
  let a := s.setReg64 .TIA_CNT n (BitVec.ofNat 64 ((s.reg64 .TIA_CNT n).toNat + 1))
  let b := a.setReg64 .TIA_SUM n (a.reg64 .TIA_SUM n + BitVec.ofInt 64 v)
  have ha : Kept (stemBit .TIA_CNT) s a := State.setReg64_kept _ (by decide) (Kept.refl s) _ _
  have hb : Kept (stemBit .TIA_SUM) a b := State.setReg64_kept _ (by decide) (Kept.refl a) _ _
  have hc : Kept (stemBit .TIA_SSQ) b (s.summed n v) := State.setSsq_kept (by decide) (Kept.refl b) _ _
  have hcnt : a.reg64 .TIA_CNT n = s.reg64 .TIA_CNT n + 1 := (State.reg64_setReg64 ..).trans (BitVec.eq_of_toNat_eq (by simp))
  have hsum : b.reg64 .TIA_SUM n = s.reg64 .TIA_SUM n + BitVec.ofInt 64 v :=
    (State.reg64_setReg64 ..).trans (by rw [ha.reg64 .TIA_SUM (by decide)])
  refine ⟨(hc.reg64 .TIA_CNT (by decide) n).trans ((hb.reg64 .TIA_CNT (by decide) n).trans hcnt),
    (hc.reg64 .TIA_SUM (by decide) n).trans hsum, ?_⟩
  refine (State.tdcSsq_setSsq b n _).trans ?_
  rw [State.tdcSsq_of_kept hb (by decide), State.tdcSsq_of_kept ha (by decide)]

/-- MIN and MAX take a value beyond them. -/
theorem State.widened_reads (s : State) (n : Nat) {v : Int} (hv : v.natAbs ≤ 2 ^ 31 - 1) : let t := s.widened n v
    signed 32 (t.reg .TIA_MIN n).toNat = min (signed 32 (s.reg .TIA_MIN n).toNat) v ∧
    signed 32 (t.reg .TIA_MAX n).toNat = max (signed 32 (s.reg .TIA_MAX n).toNat) v := by
  let a := if v < signed 32 (s.reg .TIA_MIN n).toNat then s.setReg .TIA_MIN n 0 (BitVec.ofInt 32 v) else s
  have ha : Kept (stemBit .TIA_MIN) s a := kept_ite (fun _ => State.setReg_kept _ (by decide) (Kept.refl s) _ _ _) fun _ => Kept.refl s
  have hb : Kept (stemBit .TIA_MAX) a (s.widened n v) :=
    kept_ite (fun _ => State.setReg_kept _ (by decide) (Kept.refl a) _ _ _) fun _ => Kept.refl a
  have hmin : signed 32 (a.reg .TIA_MIN n).toNat = min (signed 32 (s.reg .TIA_MIN n).toNat) v := by
    by_cases h : v < signed 32 (s.reg .TIA_MIN n).toNat
    · rw [show a = _ from if_pos h, State.reg_setReg_same, signed_ofInt hv]
      omega
    · rw [show a = s from if_neg h]
      omega
  refine ⟨(congrArg (fun w : W32 => signed 32 w.toNat) (hb.reg .TIA_MIN (by decide) n 0)).trans hmin, ?_⟩
  have hmax : a.reg .TIA_MAX n = s.reg .TIA_MAX n := ha.reg .TIA_MAX (by decide) n 0
  rw [← hmax]
  by_cases h : signed 32 (a.reg .TIA_MAX n).toNat < v
  · rw [show s.widened n v = _ from if_pos h, State.reg_setReg_same, signed_ofInt hv]
    omega
  · rw [show s.widened n v = a from if_neg h]
    omega

/-- LAST is the value, and IVL counts the intervals of a gate. -/
theorem State.lastNoted_reads (s : State) (n : Nat) {v : Int} (edges : Nat) (hv : v.natAbs ≤ 2 ^ 31 - 1) : let t := s.lastNoted n v edges
    signed 32 (t.reg .TIA_LAST n).toNat = v ∧ t.reg64 .TIA_IVL n = s.reg64 .TIA_IVL n + BitVec.ofNat 64 (edges - 1) := by
  let a := s.setReg .TIA_LAST n 0 (BitVec.ofInt 32 v)
  have ha : Kept (stemBit .TIA_LAST) s a := State.setReg_kept _ (by decide) (Kept.refl s) _ _ _
  have hlast : signed 32 (a.reg .TIA_LAST n).toNat = v := by rw [State.reg_setReg_same, signed_ofInt hv]
  have hivl : a.reg64 .TIA_IVL n = s.reg64 .TIA_IVL n := ha.reg64 .TIA_IVL (by decide) n
  by_cases h : edges = 0
  · rw [show s.lastNoted n v edges = a from if_pos h]
    refine ⟨hlast, ?_⟩
    rw [hivl, h]
    simp
  · rw [show s.lastNoted n v edges = a.setReg64 .TIA_IVL n (a.reg64 .TIA_IVL n + BitVec.ofNat 64 (edges - 1)) from if_neg h]
    refine ⟨?_, (State.reg64_setReg64 ..).trans (by rw [hivl])⟩
    rw [State.reg_setReg64_stem _ _ _ _ _ (by decide), hlast]

/-- What a run's statistics read with one more value. -/
structure State.Counted (n : Nat) (v : Int) (edges : Nat) (s t : State) : Prop where
  cnt : t.reg64 .TIA_CNT n = s.reg64 .TIA_CNT n + 1
  sum : t.reg64 .TIA_SUM n = s.reg64 .TIA_SUM n + BitVec.ofInt 64 v
  ssq : t.tdcSsq n = (s.tdcSsq n + v.natAbs * v.natAbs) % 2 ^ 96
  min : signed 32 (t.reg .TIA_MIN n).toNat = min (signed 32 (s.reg .TIA_MIN n).toNat) v
  max : signed 32 (t.reg .TIA_MAX n).toNat = max (signed 32 (s.reg .TIA_MAX n).toNat) v
  last : signed 32 (t.reg .TIA_LAST n).toNat = v
  ivl : t.reg64 .TIA_IVL n = s.reg64 .TIA_IVL n + BitVec.ofNat 64 (edges - 1)
  miss : t.fieldOf TIA_ERR_MISS n = s.fieldOf TIA_ERR_MISS n

theorem State.tallied_counted (s : State) (n : Nat) {v : Int} (edges : Nat) (hv : v.natAbs ≤ 2 ^ 31 - 1) : s.Counted n v edges (s.tallied n v edges) := by
  have ha := s.summed_kept n v
  have hb := (s.summed n v).widened_kept n v
  have hc := ((s.summed n v).widened n v).lastNoted_kept n v edges
  obtain ⟨hcnt, hsum, hssq⟩ := s.summed_reads n v
  obtain ⟨hmin, hmax⟩ := (s.summed n v).widened_reads n hv
  obtain ⟨hlast, hivl⟩ := ((s.summed n v).widened n v).lastNoted_reads n edges hv
  exact {
    cnt := (hc.reg64 .TIA_CNT (by decide) n).trans ((hb.reg64 .TIA_CNT (by decide) n).trans hcnt)
    sum := (hc.reg64 .TIA_SUM (by decide) n).trans ((hb.reg64 .TIA_SUM (by decide) n).trans hsum)
    ssq := (State.tdcSsq_of_kept hc (by decide) n).trans ((State.tdcSsq_of_kept hb (by decide) n).trans hssq)
    min := by rw [← ha.reg .TIA_MIN (by decide) n 0, ← hmin]; exact congrArg _ (congrArg _ (hc.reg .TIA_MIN (by decide) n 0))
    max := by rw [← ha.reg .TIA_MAX (by decide) n 0, ← hmax]; exact congrArg _ (congrArg _ (hc.reg .TIA_MAX (by decide) n 0))
    last := hlast
    ivl := by rw [← ha.reg64 .TIA_IVL (by decide) n, ← hb.reg64 .TIA_IVL (by decide) n, ← hivl]; rfl
    miss := (hc.fieldOf TIA_ERR_MISS (by decide) n).trans ((hb.fieldOf TIA_ERR_MISS (by decide) n).trans (ha.fieldOf TIA_ERR_MISS (by decide) n)) }

/-- Operations that keep the statistics before and after do not matter to what is counted. -/
theorem State.Counted.of_kept {n edges : Nat} {v : Int} {r s t u : State} (h : s.Counted n v edges t) {m : Nat} (hm : Covers 0x400000000000000000002000 m)
    (hs : Kept m r s) (ht : Kept m t u) : r.Counted n v edges u := by
  have ks := hs.mono hm
  have kt := ht.mono hm
  exact {
    cnt := by rw [kt.reg64 .TIA_CNT (by decide), h.cnt, ks.reg64 .TIA_CNT (by decide)]
    sum := by rw [kt.reg64 .TIA_SUM (by decide), h.sum, ks.reg64 .TIA_SUM (by decide)]
    ssq := by rw [State.tdcSsq_of_kept kt (by decide), h.ssq, State.tdcSsq_of_kept ks (by decide)]
    min := by rw [kt.reg .TIA_MIN (by decide), h.min, ks.reg .TIA_MIN (by decide)]
    max := by rw [kt.reg .TIA_MAX (by decide), h.max, ks.reg .TIA_MAX (by decide)]
    last := by rw [kt.reg .TIA_LAST (by decide), h.last]
    ivl := by rw [kt.reg64 .TIA_IVL (by decide), h.ivl, ks.reg64 .TIA_IVL (by decide)]
    miss := by rw [kt.fieldOf TIA_ERR_MISS (by decide), h.miss, ks.fieldOf TIA_ERR_MISS (by decide)] }

theorem State.tallied_kept (s : State) (n : Nat) (v : Int) (edges : Nat) : Kept (stemBit .TIA_CNT ||| stemBit .TIA_SUM ||| stemBit .TIA_SSQ |||
    stemBit .TIA_MIN ||| stemBit .TIA_MAX ||| stemBit .TIA_LAST ||| stemBit .TIA_IVL) s (s.tallied n v edges) :=
  ((s.summed_kept n v).mono (by decide)).trans (((State.widened_kept _ n v).mono (by decide)).trans ((State.lastNoted_kept _ n v edges).mono (by decide)))

/-- A value in the range of R268 is counted, and the run ends as the Nth. -/
theorem State.tdcValue_counted (s : State) {n : Nat} {v : Int} (edges : Nat) (win : Option TWin) (hv : v.natAbs ≤ 2 ^ 31 - 1) (ht : s.tdcTakes n = true) :
    s.Counted n v edges (s.tdcValue n v edges win) ∧
    ((s.tdcValue n v edges win).tdc n).ended = decide ((s.reg .TIA_N n).toNat ≤ (s.reg64 .TIA_CNT n).toNat) := by
  have hu := s.undoNoted_kept n win
  have htal := (s.undoNoted n win).tallied_kept n v edges
  have hcounted := (s.undoNoted n win).tallied_counted n edges hv
  have hn : ((s.undoNoted n win).tallied n v edges).reg .TIA_N n = s.reg .TIA_N n := (htal.reg .TIA_N (by decide) n 0).trans (hu.reg .TIA_N (by decide) n 0)
  have htdc : (((s.undoNoted n win).tallied n v edges).tdc n).ended = (s.tdc n).ended :=
    (congrArg Tdc.ended (State.tdc_congr (htal.same .meas (by decide)) n)).trans (s.undoNoted_ended n win)
  have htakes : ((s.undoNoted n win).tallied n v edges).tdcTakes n = true := by
    rw [← ht]
    unfold State.tdcTakes
    rw [htdc, htal.fieldOf TIA_STAT_STATE (by decide), hu.fieldOf TIA_STAT_STATE (by decide)]
  rw [State.tdcValue_eq s edges win hv ht]
  dsimp only
  rw [hn, hu.reg64 .TIA_CNT (by decide)]
  by_cases h : (s.reg .TIA_N n).toNat ≤ (s.reg64 .TIA_CNT n).toNat
  · rw [if_pos (Nat.succ_le_succ h), decide_eq_true h]
    refine ⟨hcounted.of_kept (Covers.refl _) (hu.mono (by decide)) (State.tdcEnd_kept (Covers.refl _) (Kept.refl _) n false), ?_⟩
    rw [State.tdcEnd, if_pos htakes, State.tdc_congr (State.putBit_meas ..), State.tdc_modTdc_same]
  · rw [if_neg (fun e => h (Nat.le_of_succ_le_succ e)), decide_eq_false h]
    refine ⟨hcounted.of_kept (Covers.refl _) (hu.mono (by decide)) (Kept.refl _), ?_⟩
    rw [htdc]
    simp only [State.tdcTakes, Bool.and_eq_true, Bool.not_eq_true'] at ht
    exact ht.2

end Sys2Proof.Machine
end

section
/-! PROOFS. TDC_MEASURE and FREQ_GATE_END, and the obligation on edges and timestamps (R265, R268). -/

namespace Sys2Proof.Machine

/-! ### TDC_MEASURE (R265, R268) -/

/-- The measurement stage takes the oldest timestamp; `r` are those after it. -/
def State.stampTaken (n : Nat) (r : List Stamp) (s : State) : State :=
  s.modTdc n fun t => { t with buffer := r, lastMeasure := some s.beat.lbc, lossSeen := t.lossSeen && !r.isEmpty }

/-- The open start of a TDC set. -/
def State.opens (n : Nat) (v : Option Stamp) (s : State) : State := s.modTdc n fun t => { t with start := v }

/-- The open start that a timestamp pairs with: of its own window, and with no loss between (R265, R268). -/
def State.openStart (s : State) (n : Nat) (x : Stamp) : Option Stamp := (s.tdc n).start.filter (fun o => o.win == x.win && !x.fresh)

/-- The halves that wait for their mates as a timestamp comes, none after a loss. -/
def State.waitingHalves (s : State) (n : Nat) (x : Stamp) : List Stamp := if x.fresh then [] else (s.tdc n).halves

/-- The mate of a timestamp of CH_CH: of the other channel, and of the same vector (R268). -/
def Stamp.mateIn (x : Stamp) (l : List Stamp) : Option Stamp := l.find? (fun o => o.stop != x.stop && o.win.map TWin.vec == x.win.map TWin.vec)

section
variable (s : State) (n : Nat) (x : Stamp)

/-- The open start gives a value with every timestamp under one polarity, and with one of STOP_POL otherwise. -/
theorem State.tdcEdgeEdge_pairs {o : Stamp} (ho : s.openStart n x = some o)
    (h : s.fieldOf TIA_CH_CFG_START_POL n = s.fieldOf TIA_CH_CFG_STOP_POL n ∨ polarity (s.fieldOf TIA_CH_CFG_STOP_POL n) x.rising = true) :
    s.tdcEdgeEdge n x = (s.opens n (if s.fieldOf TIA_CH_CFG_START_POL n = s.fieldOf TIA_CH_CFG_STOP_POL n then some x else none)).tdcValue n
      (x.time - o.time) 0 x.win := by
  unfold State.openStart at ho
  unfold State.tdcEdgeEdge
  dsimp only
  rw [ho]
  dsimp only
  by_cases he : s.fieldOf TIA_CH_CFG_START_POL n = s.fieldOf TIA_CH_CFG_STOP_POL n
  · rw [if_pos he, if_pos he]
    rfl
  · rw [if_neg he, if_neg he, if_pos (h.resolve_left he)]
    rfl

/-- Where nothing pairs, a timestamp of START_POL opens anew; without an open start any other leaves none. -/
theorem State.tdcEdgeEdge_opens (h : s.openStart n x = none ∨
    (s.fieldOf TIA_CH_CFG_START_POL n ≠ s.fieldOf TIA_CH_CFG_STOP_POL n ∧ polarity (s.fieldOf TIA_CH_CFG_STOP_POL n) x.rising = false)) :
    s.tdcEdgeEdge n x =
      if s.fieldOf TIA_CH_CFG_START_POL n = s.fieldOf TIA_CH_CFG_STOP_POL n ∨ polarity (s.fieldOf TIA_CH_CFG_START_POL n) x.rising = true then s.opens n (some x)
      else if s.openStart n x = none then s.opens n none else s := by
  unfold State.openStart at h ⊢
  unfold State.tdcEdgeEdge
  dsimp only
  cases ho : (s.tdc n).start.filter (fun o => o.win == x.win && !x.fresh) with
  | none => rfl
  | some o =>
    obtain ⟨hab, hb⟩ := h.resolve_left (by simp [ho])
    simp [hab, hb]
    rfl

theorem State.tdcChCh_pairs {o : Stamp} (ho : x.mateIn (s.waitingHalves n x) = some o) : s.tdcChCh n x =
    (s.modTdc n fun t => { t with halves := (s.waitingHalves n x).erase o }).tdcValue n (if x.stop then x.time - o.time else o.time - x.time) 0 x.win := by
  unfold Stamp.mateIn State.waitingHalves at ho
  unfold State.tdcChCh
  dsimp only
  rw [ho]
  rfl

theorem State.tdcChCh_waits (ho : x.mateIn (s.waitingHalves n x) = none) : s.tdcChCh n x =
    s.modTdc n fun t => { t with halves := (s.waitingHalves n x ++ [x]).drop ((s.waitingHalves n x).length - 63) } := by
  unfold Stamp.mateIn State.waitingHalves at ho
  unfold State.tdcChCh
  dsimp only
  rw [ho]
  rfl

end

/-- A timestamp taken leaves the open start and the halves. -/
theorem State.stampTaken_tdc (s : State) (n : Nat) (r : List Stamp) :
    ((s.stampTaken n r).tdc n).start = (s.tdc n).start ∧ ((s.stampTaken n r).tdc n).halves = (s.tdc n).halves := by
  unfold State.stampTaken
  rw [State.tdc_modTdc_same]
  exact ⟨rfl, rfl⟩

section
variable {s : State} (hr : s.running = true) {ch : Fin 128} {x : Stamp} {r : List Stamp} (hb : (s.tdc ch.val).buffer = x :: r)
  (hl : (s.tdc ch.val).lastMeasure ≠ some s.beat.lbc)
include hr hb hl

/-- The oldest timestamp is taken to the measurement of its mode. -/
theorem exec_tdcMeasure : exec (.tdcMeasure ch) s = .next (let u := s.stampTaken ch.val r
    match s.fieldOf TIA_CH_CFG_MODE ch.val, x.win with
    | 0, _ => u.tdcEdgeEdge ch.val x
    | 1, _ => u.tdcChCh ch.val x
    | 2, some w => u.tdcValue ch.val (x.time - lsbOf (w.start + pipeFs + (if s.bitOf TIA_CH_CFG_REF ch.val then w.stb else 0) : Nat)) 0 x.win
    | 2, none => u
    | _, _ =>
      if x.edges = 0 ∨ x.fresh then u.opens ch.val (some x)
      else match (s.tdc ch.val).start with
        | some o => (u.opens ch.val none).tdcValue ch.val (x.time - o.time) x.edges x.win
        | none => u) := by
  obtain ⟨hstart, _⟩ := s.stampTaken_tdc ch.val r
  refine (done_live hr _).trans (congrArg _ ?_)
  dsimp only
  rw [hb]
  dsimp only
  rw [if_neg hl, ← hstart]
  rfl

end

/-! ### FREQ_GATE_END (R265, R268) -/

theorem exec_freqGateEnd {s : State} (hr : s.running = true) {ch : Fin 128} (ht : s.tdcTakes ch.val = true) (hm : s.fieldOf TIA_CH_CFG_MODE ch.val = 3)
    (hg : s.bitOf TIA_CH_CFG_GATE ch.val = false) (hp : s.stampsPast ch.val ((s.tdc ch.val).gate + s.fieldOf TIA_GATE_GATE ch.val) = true) :
    exec (.freqGateEnd ch) s = .next ((s.closeGate ch.val none).modTdc ch.val fun t => { t with
      gate := (s.tdc ch.val).gate + s.fieldOf TIA_GATE_GATE ch.val }) :=
  (done_live hr _).trans (congrArg _ (if_pos (by simp [ht, hm, hg, hp])))

/-! ### The obligation -/

/-- Settles O30: the commands are run case by case, and a value is followed through the statistics it changes. -/
theorem tdcEdgesAreTimestamped : Obligations.TdcEdgesAreTimestamped := by
  unfold Obligations.TdcEdgesAreTimestamped
  refine ⟨fun ch level ofs s hr => ⟨exec_tdcEdge_ignored hr ch level ofs, fun hres hdead hlv => ⟨_, exec_tdcEdge_accepted hr ch level ofs hres hdead hlv, ?_⟩⟩,
    fun ch level set e s hr hh he => exec_tdcHoldoffEnd hr ch level hh he,
    fun ch low level s hr => ⟨exec_compareInputResolve_idle hr ch low level, fun h hb => ⟨_, exec_compareInputResolve hr ch low level h hb, ?_⟩⟩,
    fun ch x r s hr hb hl => ?_, fun ch v edges win s => ⟨fun hv => if_pos (by omega), fun hv ht => ?_, fun hv ht => ?_⟩,
    fun ch s hr ht hm hg hp => exec_freqGateEnd hr ht hm hg (decide_eq_true hp)⟩
  · obtain ⟨hlevel, hhold⟩ := s.acceptLevel_detector ch.val (s.now + ofs) _ (s.tdcLevel ch.val level) _
    exact ⟨hlevel, hhold, s.acceptLevel_buffer (s.now + ofs) _⟩
  · obtain ⟨hflag, htdc, _⟩ := s.inputResolved_reads ch.val low
    dsimp only
    split
    · exact ⟨hflag, by rw [State.tdc_modTdc_same]⟩
    · exact ⟨hflag, by rw [htdc]⟩
  · obtain ⟨hstart, hhalves⟩ := s.stampTaken_tdc ch.val r
    have hrun := exec_tdcMeasure hr hb hl
    have hopen : (s.stampTaken ch.val r).openStart ch.val x = (s.tdc ch.val).start.filter (fun o => o.win == x.win && !x.fresh) := by
      unfold State.openStart; rw [hstart]
    have hwait : (s.stampTaken ch.val r).waitingHalves ch.val x = if x.fresh then [] else (s.tdc ch.val).halves := by
      unfold State.waitingHalves; rw [hhalves]
    refine ⟨fun hm => ⟨fun o ho hab => ?_, fun h => ?_⟩, fun hm => ⟨fun o ho => ?_, fun ho => ?_⟩, fun hm w hw => ?_, fun hm hx => ?_, fun hm he hf o ho => ?_⟩
    · rw [hrun, hm]
      exact congrArg _ (State.tdcEdgeEdge_pairs _ _ x (hopen.trans ho) hab)
    · rw [hrun, hm]
      refine congrArg _ ((State.tdcEdgeEdge_opens _ _ x (by rw [hopen]; exact h)).trans ?_)
      rw [hopen]
      rfl
    · rw [hrun, hm]
      refine congrArg _ ((State.tdcChCh_pairs _ _ x (o := o) (by rw [hwait]; exact ho)).trans ?_)
      rw [hwait]
      rfl
    · rw [hrun, hm]
      refine congrArg _ ((State.tdcChCh_waits _ _ x (by rw [hwait]; exact ho)).trans ?_)
      rw [hwait]
      rfl
    · rw [hrun, hm, hw]
      rfl
    · rw [hrun, hm]
      exact congrArg _ (if_pos hx)
    · rw [hrun, hm, ho]
      exact congrArg _ (if_neg (by simp [he, hf]))
  · exact (if_neg (by omega)).trans (if_pos (by simp [ht]))
  · obtain ⟨hc, hended⟩ := s.tdcValue_counted edges win hv ht
    exact ⟨hc.cnt, hc.sum, hc.ssq, hc.min, hc.max, hc.last, hc.ivl, hc.miss, hended⟩

end Sys2Proof.Machine
end

section
/-! PROOFS. The loads and reads of timing sets, marker tables and the Segment Directory, as they are taken (R90, R106 to R108, R125,
R126, R135 to R137). -/

namespace Sys2Proof.Machine

section
variable {iss : Issuer} {s : State} (h : s.serves iss)
include h

/-! ### Timing sets and marker tables -/

theorem exec_tmgTsetLoad {a : W64} {site first : Byte} {n : W16} {l : List (List Byte)} (ht : s.txnOf iss.mb.val = none)
    (ha : a.toNat % 8 = 0) (hsite : site.toNat < 32) (h1 : 1 ≤ n.toNat) (hfit : first.toNat + n.toNat ≤ 256)
    (hl : s.readImages a.toNat first.toNat n.toNat = (l, none)) (hidle : s.idle site.toNat = true) :
    exec (.tmgTsetLoad iss a site first n) s = .next (s.defer iss (.tmgTsetLoad iss a site first n) 0 (numbers l.flatten)) := by
  have hargs : (a.toNat % 8 != 0 || decide (32 ≤ site.toNat) || n.toNat == 0 || decide (256 < first.toNat + n.toNat)) = false := by
    simp only [Bool.or_eq_false_iff, bne_eq_false_iff_eq, decide_eq_false_iff_not, beq_eq_false_iff_ne]
    omega
  show execTmgTsetLoad iss a site first n s = _
  unfold execTmgTsetLoad
  simp only [hargs, Bool.false_eq_true, if_false, hl]
  refine congrArg Host.Outcome.next (State.shadowed_runs_reporting h ht (lowest_eq_none fun p hp => ?_))
  simp only [List.cons_append, List.nil_append, List.mem_cons, List.not_mem_nil, or_false] at hp
  rcases hp with rfl | rfl
  · rfl
  · simp [hidle]

theorem exec_vstMktabLoad {a : W64} {site first : Byte} {n : W16} (ht : s.txnOf iss.mb.val = none) (hsite : site.toNat < 32)
    (hfirst : 1 ≤ first.toNat) (h1 : 1 ≤ n.toNat) (hfit : first.toNat + n.toNat ≤ 256) (hram : s.badRam a 16 (16 * n.toNat) = false)
    (hok : ∀ e ∈ splitEntries 16 n.toNat (s.mem a.toNat (16 * n.toNat)), mkEntryOk e = true) (hidle : s.idle site.toNat = true) :
    exec (.vstMktabLoad iss a site first n) s = .next (s.defer iss (.vstMktabLoad iss a site first n) 0
      (numbers (s.mem a.toNat (16 * n.toNat)))) := by
  have hfirst0 : (first == 0) = false := beq_false_of_ne fun e => by rw [e] at hfirst; exact absurd hfirst (by decide)
  have hargs : (decide (32 ≤ site.toNat) || first == 0 || n.toNat == 0 || decide (255 < n.toNat) || decide (256 < first.toNat + n.toNat) ||
      s.badRam a 16 (16 * n.toNat)) = false := by
    simp only [hram, hfirst0, Bool.or_false, Bool.or_eq_false_iff, decide_eq_false_iff_not, beq_eq_false_iff_ne]
    omega
  have hbad : (splitEntries 16 n.toNat (s.mem a.toNat (16 * n.toNat))).findIdx? (fun e => !(mkEntryOk e)) = none :=
    List.findIdx?_eq_none_iff.2 fun e he => by simp [hok e he]
  show execVstMktabLoad iss a site first n s = _
  unfold execVstMktabLoad
  simp only [hargs, Bool.false_eq_true, if_false, hbad]
  refine congrArg Host.Outcome.next (State.shadowed_runs_reporting h ht (lowest_eq_none fun p hp => ?_))
  simp only [List.cons_append, List.nil_append, List.mem_cons, List.not_mem_nil, or_false] at hp
  rcases hp with rfl | rfl
  · rfl
  · simp [hidle]

theorem exec_tmgTsetRead {a : W64} {site t : Byte} (hsite : site.toNat < 32)
    (hram : s.badRam a 8 (if s.tset site.toNat t.toNat = [] then List.replicate 16 0 else s.tset site.toNat t.toNat).length = false) :
    exec (.tmgTsetRead iss a site t) s = .next (let b := if s.tset site.toNat t.toNat = [] then List.replicate 16 0 else s.tset site.toNat t.toNat
      (s.setMem a.toNat b).complete iss Status.ok [b.length]) := by
  show execTmgTsetRead iss a site t s = _
  unfold execTmgTsetRead
  simp only [List.isEmpty_iff]
  exact congrArg Host.Outcome.next (State.command_runs h fun p hp => by rw [List.mem_singleton.1 hp, hram, decide_eq_false (Nat.not_le.2 hsite)]; rfl)

/-- What TMG_EDGE_QUERY answers: R98 with S_k = 0, the tap code, and whether the edge is disabled (R108). -/
def State.edgeAnswer (s : State) (ch t p : Nat) : List Nat :=
  let site := s.fieldOf TMG_CH_CFG_SITE ch
  let img := s.tset site t
  let i := (s.siteChannels site).findIdx (· == ch)
  let time : Int := if p = 6 then 0 else (imgEdgeWord img i p % 2 ^ 37 : Nat)
  let r := quantise (time + s.deskew ch (p == 4 || p == 5) (s.fixedMode site) + s.calOffset ch p)
  [twos 32 r.1, r.2, twos 32 (s.force ch (516 * p + 4 + 2 * r.2)), if p ≠ 6 ∧ imgEdge img i p = none then 1 else 0]

omit h in
theorem edgeDisabled_eq (p : Nat) (e : Option Nat) : (if p != 6 && e.isNone then 1 else 0) = if p ≠ 6 ∧ e = none then 1 else 0 := by
  cases e <;> by_cases h6 : p = 6 <;> simp [h6]

theorem exec_tmgEdgeQuery {ch t p : Byte} (hch : ch.toNat < 128) (hp : p.toNat ≤ 6) (ha : s.bitOf TMG_CH_CFG_ASSIGNED ch.toNat = true)
    (himg : s.tset (s.fieldOf TMG_CH_CFG_SITE ch.toNat) t.toNat ≠ [])
    (hi : (s.siteChannels (s.fieldOf TMG_CH_CFG_SITE ch.toNat)).findIdx (· == ch.toNat) < imgN (s.tset (s.fieldOf TMG_CH_CFG_SITE ch.toNat) t.toNat)) :
    exec (.tmgEdgeQuery iss ch t p) s = .next (s.complete iss Status.ok (s.edgeAnswer ch.toNat t.toNat p.toNat)) := by
  unfold State.edgeAnswer
  dsimp only
  rw [← edgeDisabled_eq]
  refine congrArg Host.Outcome.next (State.command_runs h fun q hq => ?_)
  simp only [List.mem_cons, List.not_mem_nil, or_false] at hq
  rcases hq with rfl | rfl
  · rw [decide_eq_false (Nat.not_le.2 hch), decide_eq_false (Nat.not_lt.2 hp)]
    rfl
  · rw [ha, List.isEmpty_eq_false_iff.2 himg, decide_eq_false (Nat.not_le.2 hi)]
    rfl

/-! ### The Segment Directory (R125, R126, R135, R136) -/

/-- An entry is locked, or is locked in this beat by what waits for its threads (R23, R126). -/
def State.entryHeld (s : State) (e : Nat) : Prop := s.locked e = true ∨ ∃ m : Fin 32, s.idle m.val = false ∧ e ∈ (s.threadsAhead.thr m.val).locks

omit h in
theorem State.threadsAhead_none (hp : s.restOfBeat = []) : s.threadsAhead = s := by
  unfold State.threadsAhead
  rw [hp]
  rfl

/-- The locks that a directory command meets. -/
def State.meets (s : State) (e : Nat) : Bool :=
  s.locked e || (((List.range 32).filter (fun n => !(s.idle n))).flatMap (fun n => (s.threadsAhead.thr n).locks)).contains e

omit h in
theorem State.meets_iff (e : Nat) : s.meets e = true ↔ s.entryHeld e := by
  unfold State.meets State.entryHeld
  simp only [Bool.or_eq_true, List.contains_iff_mem, List.mem_flatMap, List.mem_filter, List.mem_range, Bool.not_eq_true']
  refine or_congr_right ⟨fun ⟨m, ⟨hm, hi⟩, he⟩ => ⟨⟨m, hm⟩, hi, he⟩, fun ⟨m, hi, he⟩ => ⟨m.val, ⟨m.isLt, hi⟩, he⟩⟩

omit h in
theorem State.lockedIn_eq (first k : Nat) : s.lockedIn first k = ((List.range k).map (first + ·)).find? s.meets := rfl

omit h in
/-- No entry of a run is held: the command meets none. -/
theorem State.lockedIn_none {first k : Nat} (hk : ∀ i < k, ¬ s.entryHeld (first + i)) : s.lockedIn first k = none := by
  rw [State.lockedIn_eq, List.find?_eq_none]
  simp only [List.mem_map, List.mem_range]
  rintro _ ⟨i, hi, rfl⟩
  rw [State.meets_iff]
  exact hk i hi

omit h in
/-- The first entry of a run that is held is the one reported. -/
theorem State.lockedIn_first {first k i : Nat} (hi : i < k) (hheld : s.entryHeld (first + i)) (hbefore : ∀ j < i, ¬ s.entryHeld (first + j)) :
    s.lockedIn first k = some (first + i) := by
  rw [State.lockedIn_eq, List.find?_map, Option.map_eq_some_iff]
  refine ⟨i, List.find?_range_eq_some.2 ⟨(State.meets_iff _).2 hheld, List.mem_range.2 hi, fun j hj => ?_⟩, rfl⟩
  have hfree : s.meets (first + j) = false := Bool.eq_false_iff.2 (mt (State.meets_iff _).1 (hbefore j hj))
  simp [hfree]

section
variable {a : W64} {first : W16} {n : W32} (hmb : iss.mb ≠ 16) (h1 : 1 ≤ n.toNat) (hfit : first.toNat + n.toNat ≤ 65536)
  (hram : s.badRam a 32 (32 * n.toNat) = false)

include h1 hfit hram

omit h in
theorem vstDir_args : (badCount first.toNat n.toNat || s.badRam a 32 (32 * n.toNat)) = false := by
  unfold badCount
  simp only [hram, Bool.or_false, Bool.or_eq_false_iff, decide_eq_false_iff_not, beq_eq_false_iff_ne]
  omega

include hmb

/-- VST_DIR_WRITE by its first bad entry and the first one held. -/
theorem exec_vstDirWrite : let l := splitEntries 32 n.toNat (s.mem a.toNat (32 * n.toNat))
    exec (.vstDirWrite iss a first n) s = .next (match l.findIdx? (fun e => !(s.entryOk e)), s.lockedIn first.toNat n.toNat with
      | some i, _ => s.complete iss Status.badArgument [0, first.toNat + i]
      | none, some e => s.complete iss Status.wrongState [0, e]
      | none, none =>
        if n.toNat ≤ 256 then (s.writeDir first.toNat l).complete iss Status.ok [n.toNat]
        else s.defer iss (.vstDirWrite iss a first n) 0 (numbers (s.mem a.toNat (32 * n.toNat)))) := by
  have hargs := vstDir_args h1 hfit hram
  show execVstDirWrite iss a first n s = _
  unfold execVstDirWrite
  simp only [hargs, bne_iff_ne.2 hmb, Bool.false_eq_true, if_false]
  exact congrArg Host.Outcome.next (State.command_runs h fun p hp => absurd hp List.not_mem_nil)

theorem exec_vstDirRead : exec (.vstDirRead iss a first n) s = .next (if n.toNat ≤ 256
    then (s.setMem a.toNat (s.dirBytes first.toNat n.toNat)).complete iss Status.ok [n.toNat]
    else s.defer iss (.vstDirRead iss a first n) 0 (numbers (s.dirBytes first.toNat n.toNat))) := by
  have hargs := vstDir_args h1 hfit hram
  show execVstDirRead iss a first n s = _
  unfold execVstDirRead
  simp only [hargs, bne_iff_ne.2 hmb]
  exact congrArg Host.Outcome.next (State.command_runs h fun p hp => by rw [List.mem_singleton.1 hp])

/-- VST_DIR_WRITE of entries that all pass their checks. -/
theorem exec_vstDirWrite_checked (hok : ∀ e ∈ splitEntries 32 n.toNat (s.mem a.toNat (32 * n.toNat)), s.entryOk e = true) :
    exec (.vstDirWrite iss a first n) s = .next (match s.lockedIn first.toNat n.toNat with
      | some e => s.complete iss Status.wrongState [0, e]
      | none =>
        if n.toNat ≤ 256 then (s.writeDir first.toNat (splitEntries 32 n.toNat (s.mem a.toNat (32 * n.toNat)))).complete iss Status.ok [n.toNat]
        else s.defer iss (.vstDirWrite iss a first n) 0 (numbers (s.mem a.toNat (32 * n.toNat)))) := by
  have hbad : (splitEntries 32 n.toNat (s.mem a.toNat (32 * n.toNat))).findIdx? (fun e => !(s.entryOk e)) = none :=
    List.findIdx?_eq_none_iff.2 fun e he => by simp [hok e he]
  rw [exec_vstDirWrite h hmb h1 hfit hram, hbad]
  cases s.lockedIn first.toNat n.toNat <;> rfl

/-- Of entries with one that fails its checks nothing is written, and the first such entry is reported. -/
theorem exec_vstDirWrite_bad {i : Nat} {e : List Byte} (hi : (splitEntries 32 n.toNat (s.mem a.toNat (32 * n.toNat)))[i]? = some e)
    (he : s.entryOk e = false) (hbefore : ∀ x ∈ (splitEntries 32 n.toNat (s.mem a.toNat (32 * n.toNat))).take i, s.entryOk x = true) :
    exec (.vstDirWrite iss a first n) s = .next (s.complete iss Status.badArgument [0, first.toNat + i]) := by
  have hbad : (splitEntries 32 n.toNat (s.mem a.toNat (32 * n.toNat))).findIdx? (fun e => !(s.entryOk e)) = some i := by
    obtain ⟨hlt, hget⟩ := List.getElem?_eq_some_iff.1 hi
    refine List.findIdx?_eq_some_iff_getElem.2 ⟨hlt, by rw [hget, he]; rfl, fun j hj => ?_⟩
    have hmem := hbefore _ (List.mem_take_iff_getElem.2 ⟨j, by omega, rfl⟩)
    rw [hmem]
    decide
  rw [exec_vstDirWrite h hmb h1 hfit hram, hbad]

end

end

/-- Settles O49: each command passes its checks, and what it answers is read off its run. -/
theorem patternMemoriesAreLoadedAndRead : Obligations.PatternMemoriesAreLoadedAndRead := by
  unfold Obligations.PatternMemoriesAreLoadedAndRead
  intro iss s h
  refine ⟨fun a site first n l ht ha hsite h1 hfit hl hidle => exec_tmgTsetLoad h ht ha hsite h1 hfit hl hidle,
    fun a site first n ht hsite hfirst h1 hfit hram hok hidle => exec_vstMktabLoad h ht hsite hfirst h1 hfit hram hok hidle,
    fun a site t hsite hram => exec_tmgTsetRead h hsite hram, fun ch t p hch hp ha himg hi => exec_tmgEdgeQuery h hch hp ha himg hi,
    fun a first n hmb h1 hfit hram => ?_, fun seg hv => ?_⟩
  · refine ⟨State.threadsAhead_none, fun hok k hk hheld hbefore => ?_, fun hok hnone => ⟨fun hn => ?_, fun hn => ?_⟩,
      fun i e hi he hbefore => exec_vstDirWrite_bad h hmb h1 hfit hram hi he hbefore, fun hn => ?_, fun hn => ?_⟩
    · rw [exec_vstDirWrite_checked h hmb h1 hfit hram hok, State.lockedIn_first hk hheld hbefore]
    · rw [exec_vstDirWrite_checked h hmb h1 hfit hram hok, State.lockedIn_none hnone]
      exact congrArg _ (if_pos hn)
    · rw [exec_vstDirWrite_checked h hmb h1 hfit hram hok, State.lockedIn_none hnone]
      exact congrArg _ (if_neg (Nat.not_le.2 hn))
    · rw [exec_vstDirRead h hmb h1 hfit hram, if_pos hn]
    · rw [exec_vstDirRead h hmb h1 hfit hram, if_neg (Nat.not_le.2 hn)]
  · exact congrArg Host.Outcome.next (State.command_runs h fun p hp => by rw [List.mem_singleton.1 hp, hv]; rfl)

end Sys2Proof.Machine
end

section
/-! PROOFS. Compare results and condition slots: what a result leaves in its vector and its channel, and what a happening leaves in its
slot (R84, R87, R170 to R172). -/

namespace Sys2Proof.Machine

/-! ### What a happening leaves -/

/-- No pip has changed, and no vector of any output pipe. -/
structure State.PipesSame (s t : State) : Prop where
  pips : t.seq.pips = s.seq.pips
  pipe (n : Nat) : (t.thr n).pipe = (s.thr n).pipe

theorem State.PipesSame.trans {r s t : State} (h : r.PipesSame s) (k : s.PipesSame t) : r.PipesSame t :=
  ⟨k.pips.trans h.pips, fun n => (k.pipe n).trans (h.pipe n)⟩

theorem State.PipesSame.of_thr {s t : State} (hp : t.seq.pips = s.seq.pips) (ht : t.seq.thr = s.seq.thr) : s.PipesSame t :=
  ⟨hp, fun n => congrArg Thread.pipe (State.thr_congr ht n)⟩

theorem State.PipesSame.modThr (s : State) (n : Nat) {f : Thread → Thread} (h : (f (s.thr n)).pipe = (s.thr n).pipe) : s.PipesSame (s.modThr n f) := by
  refine ⟨rfl, fun m => ?_⟩
  by_cases e : m = n
  · subst e
    rw [State.thr_modThr_same, h]
  · rw [State.thr_modThr_other s e]

theorem State.PipesSame.each {α : Type} {f : α → State → State} (hf : ∀ x (t : State), t.PipesSame (f x t)) (l : List α) (s : State) :
    s.PipesSame (each l f s) :=
  each_keeps (P := s.PipesSame) (fun x t h => h.trans (hf x t)) l (State.PipesSame.of_thr rfl rfl)

theorem State.PipesSame.when {f : State → State} (hf : ∀ t : State, t.PipesSame (f t)) (c : Bool) (s : State) : s.PipesSame (when c f s) := by
  unfold Machine.when
  split
  · exact hf s
  · exact State.PipesSame.of_thr rfl rfl

theorem State.noteHap_pipes (s : State) (n : Nat) (h : Hap) : s.PipesSame (s.noteHap n h) := by
  unfold State.noteHap
  split
  · exact State.PipesSame.modThr s n rfl
  · exact State.PipesSame.of_thr rfl rfl

theorem State.spanSet_pipes (s : State) (n k b : Nat) : s.PipesSame (s.spanSet n k b) := by
  unfold State.spanSet
  dsimp only
  split
  · exact State.PipesSame.of_thr rfl rfl
  · exact s.noteHap_pipes n _

theorem State.spanPut_pipes (s : State) (b slots flags pi : Nat) (nos : List (Nat × Nat)) : s.PipesSame (s.spanPut b slots flags pi nos) :=
  State.PipesSame.of_thr rfl rfl

theorem State.happen_pipes (s : State) (n k b : Nat) (no : Option Nat) : s.PipesSame (s.happen n k b no) := by
  unfold State.happen
  dsimp only
  split
  · exact s.noteHap_pipes n _
  · split
    · exact (s.spanPut_pipes ..).trans (State.spanSet_pipes _ n k _)
    · exact State.PipesSame.of_thr rfl rfl

theorem State.compareHappen_pipes (s : State) (n no idx c last : Nat) (pass first all : Bool) :
    s.PipesSame (s.compareHappen n no idx c last pass first all) := by
  unfold State.compareHappen
  extract_lets fire' s₁ s₂ s₃
  have h₁ : s.PipesSame s₁ := State.PipesSame.each (fun k t => t.happen_pipes n k _ _) _ s
  have h₂ : s₁.PipesSame s₂ := State.PipesSame.when (fun t => State.PipesSame.each (fun k t => t.happen_pipes n k _ _) _ t) _ s₁
  have h₃ : s₂.PipesSame s₃ := State.PipesSame.when (fun t => t.happen_pipes n 16 _ _) _ s₂
  exact h₁.trans (h₂.trans (h₃.trans (State.PipesSame.when (fun t => State.PipesSame.each (fun k t => t.happen_pipes n k _ _) _ t) _ s₃)))

/-! ### COMPARE_RESULT (R84, R87, R88) -/

/-- The vector that a strobe's result enters. -/
def Vec.withResult (v : Vec) (c : Nat) (b : Strobe) (read : Option (Bool × Bool)) (beat : Nat) : Vec :=
  if b.sym = 8 then v.sampled c read else v.judged c b (passes b.sym read) read beat

/-- The oldest strobe has left its channel; an unresolved input that it sampled is noted (R88). -/
def State.strobeGone (c : Nat) (b : Strobe) (rest : List Strobe) (read : Option (Bool × Bool)) (s : State) : State :=
  (if b.dropped || read.isSome then s else s.unresolved c).modPip c fun p => { p with strobes := rest }

theorem State.strobeGone_thr (s : State) (c : Nat) (b : Strobe) (rest : List Strobe) (read : Option (Bool × Bool)) :
    (s.strobeGone c b rest read).seq.thr = s.seq.thr := by
  unfold State.strobeGone
  split
  · rfl
  · unfold State.unresolved when
    dsimp only
    split <;> rfl

section
variable (s : State) (c : Nat) (b : Strobe) (rest : List Strobe) (read : Option (Bool × Bool)) (beat : Nat)

theorem State.takeResult_strobes : ((s.takeResult c b rest read beat).pip c).strobes = rest := by
  have hgone : ((s.strobeGone c b rest read).pip c).strobes = rest := by
    unfold State.strobeGone
    rw [State.pip_modPip_same]
  unfold State.takeResult
  extract_lets pass s₁ s₂
  split
  · exact hgone
  · extract_lets w s₃ all
    refine (congrArg Pip.strobes (State.pip_congr (t := _) (s := s₂) ?_ c)).trans hgone
    split
    · rfl
    · exact (State.compareHappen_pipes ..).pips

theorem State.takeResult_pipe {v : Vec} (hv : (s.thr b.thr).pipe.find? (fun v => v.no == b.vec) = some v) :
    ((s.takeResult c b rest read beat).thr b.thr).pipe =
      (s.thr b.thr).pipe.map fun w => if w.no = v.no then v.withResult c b read beat else w := by
  have hthr : (s.strobeGone c b rest read).thr b.thr = s.thr b.thr := State.thr_congr (s.strobeGone_thr c b rest read) b.thr
  unfold State.takeResult
  extract_lets pass s₁ s₂
  have h₂ : s₂.thr b.thr = s.thr b.thr := hthr
  rw [h₂, hv]
  dsimp -zeta only
  extract_lets w s₃ all
  have h₃ : (s₃.thr b.thr).pipe = (s.thr b.thr).pipe.map fun y => if y.no = v.no then v.withResult c b read beat else y := by
    unfold s₃
    rw [State.thr_modThr_same, h₂]
    rfl
  split
  · exact h₃
  · refine ((State.compareHappen_pipes ..).pipe b.thr).trans ?_
    rw [State.thr_modThr_same]
    exact h₃

end

section
variable {s : State} (hr : s.running = true) (ch : Fin 128) (h l : Bool) (ofs : Nat)
include hr

theorem exec_compareResult_none (hs : (s.pip ch.val).strobes = []) : exec (.compareResult ch h l ofs) s = .next s := by
  refine (done_live hr _).trans (congrArg _ ?_)
  rw [hs]

theorem exec_compareResult {b : Strobe} {rest : List Strobe} (hs : (s.pip ch.val).strobes = b :: rest) :
    exec (.compareResult ch h l ofs) s = .next (
      let read := s.strobeRead ch.val b h l
      let beat := beatOf (b.time (passes b.sym read) ofs)
      if s.beat.lbc < beat then s else s.takeResult ch.val b rest read beat) := by
  refine (done_live hr _).trans (congrArg _ ?_)
  rw [hs]

end

/-! ### CONDITION_SLOT_SET (R170, R172) -/

theorem exec_conditionSlotSet_none {s : State} (hr : s.running = true) (x : Fin 32) (k : Fin 16) (h : s.hapsDue x.val k.val = []) :
    exec (.conditionSlotSet x k) s = .next s :=
  (done_live hr _).trans (congrArg _ (if_pos (by rw [h]; rfl)))

theorem exec_conditionSlotSet {s : State} (hr : s.running = true) (x : Fin 32) (k : Fin 16) (h : s.hapsDue x.val k.val ≠ []) :
    exec (.conditionSlotSet x k) s = .next (
      let v := s.slot x.val k.val
      ((s.modThr x.val fun y => { y with haps := y.haps.filter (fun h => !(h.slot == k.val && decide (h.beat ≤ s.beat.lbc))) }).setSlot x.val k.val {
        sticky := if v.sticky.isNone && s.bitOf SEQ_CSL_CFG_STICKY (16 * x.val + k.val) then some s.beat.lbc else v.sticky
        beat := some s.beat.lbc
        of_ := (if v.beat = some s.beat.lbc then v.of_ else []) ++ (s.hapsDue x.val k.val).map Hap.of_ }).triggerAll 4 (x.val + 32 * k.val) s.now) := by
  have hslot (f : Thread → Thread) (hf : (f (s.thr x.val)).slots = (s.thr x.val).slots) : (s.modThr x.val f).slot x.val k.val = s.slot x.val k.val := by
    unfold State.slot
    rw [State.thr_modThr_same, hf]
  refine (done_live hr _).trans (congrArg _ ((if_neg (by simpa using h)).trans ?_))
  unfold State.setSlotNow
  dsimp only
  rw [hslot _ rfl]
  rfl

end Sys2Proof.Machine
end

section
/-! PROOFS. What the taking of a pad leaves of its thread (R145, R175, R180). -/

namespace Sys2Proof.Machine

/-! ### Pads -/

theorem State.pad_congr {s t : State} {n : Nat} (h : (t.thr n).pads = (s.thr n).pads) (i : Nat) : t.pad n i = s.pad n i := by
  unfold State.pad
  rw [h]

theorem State.pad_setPad_same (s : State) (n i : Nat) (p : Pad) : (s.setPad n i p).pad n i = p := by
  unfold State.pad State.setPad
  rw [State.thr_modThr_same]
  exact Tab.get_set_same _ _ _ _

theorem State.pad_setPad_other (s : State) (n : Nat) {i j : Nat} (h : j ≠ i) (p : Pad) : (s.setPad n i p).pad n j = s.pad n j := by
  unfold State.pad State.setPad
  rw [State.thr_modThr_same]
  exact Tab.get_set_other _ _ _ _ _ h

theorem State.mem_armedPads {s : State} {n i : Nat} : i ∈ s.armedPads n ↔ i < 8 ∧ (s.pad n i).armed = true := by
  unfold State.armedPads
  rw [List.mem_filter, List.mem_range]

/-- Every pad is as it was, but disarmed. -/
theorem State.pad_disarmAll (s : State) (n : Nat) {i : Nat} (hi : i < 8) : (s.disarmAll n).pad n i = { s.pad n i with armed := false } := by
  by_cases h : i ∈ s.armedPads n
  · exact each_at (get := fun t : State => t.pad n i) (g := fun p => { p with armed := false })
      (fun j t hne => t.pad_setPad_other n (Ne.symm hne) _) (fun t => t.pad_setPad_same n i _) (List.Nodup.filter _ List.nodup_range) h s
  · have hoff : (s.pad n i).armed = false := Bool.eq_false_iff.2 fun e => h (State.mem_armedPads.2 ⟨hi, e⟩)
    have hsame : (s.disarmAll n).pad n i = s.pad n i :=
      each_keeps_mem (P := fun t : State => t.pad n i = s.pad n i) _
        (fun j hj t ht => (t.pad_setPad_other n (fun e : i = j => h (e.symm ▸ hj)) _).trans ht) s rfl
    rw [hsame]
    cases hp : s.pad n i
    rw [hp] at hoff
    simp only at hoff
    rw [hoff]

/-! ### The engine of a thread -/

/-- The registers of a thread's engine that a taken pad restores, and the stop that is due. -/
def Thread.engine (t : Thread) : Nat × List (Nat × Nat) × List Nat × Option Stop := (t.pc, t.ls, t.cs, t.stopAt)

/-- The engine of thread `n`, the beat, and the pads but pad `i` are as they were. -/
structure State.PadOnly (n i : Nat) (s t : State) : Prop where
  engine : (t.thr n).engine = (s.thr n).engine
  beat : t.beat = s.beat
  pads (k : Nat) (h : k ≠ i) : t.pad n k = s.pad n k

section
variable {n i : Nat}

theorem State.PadOnly.trans {r s t : State} (h : r.PadOnly n i s) (k : s.PadOnly n i t) : r.PadOnly n i t :=
  ⟨k.engine.trans h.engine, k.beat.trans h.beat, fun j hj => (k.pads j hj).trans (h.pads j hj)⟩

theorem State.PadOnly.of_thr {s t : State} (ht : t.seq.thr = s.seq.thr) (hb : t.beat = s.beat) : s.PadOnly n i t :=
  ⟨congrArg Thread.engine (State.thr_congr ht n), hb, fun k _ => State.pad_congr (congrArg Thread.pads (State.thr_congr ht n)) k⟩

theorem State.PadOnly.modThr (s : State) {f : Thread → Thread} (he : (f (s.thr n)).engine = (s.thr n).engine) (hp : (f (s.thr n)).pads = (s.thr n).pads) :
    s.PadOnly n i (s.modThr n f) :=
  ⟨by rw [State.thr_modThr_same, he], rfl, fun k _ => State.pad_congr (by rw [State.thr_modThr_same, hp]) k⟩

theorem State.PadOnly.setPad (s : State) (q : Pad) : s.PadOnly n i (s.setPad n i q) :=
  ⟨by unfold State.setPad; rw [State.thr_modThr_same]; rfl, rfl, fun _ hk => s.pad_setPad_other n hk q⟩

/-- A pass that begins takes a number and locks its entry. -/
theorem State.PadOnly.newPass (s : State) (item seg first passNo : Nat) (linked replay : Bool) :
    s.PadOnly n i (s.newPass n item seg first passNo linked replay).2 := by
  unfold State.newPass
  exact State.PadOnly.modThr s (f := fun t => { t with passNo := t.passNo + 1, locks := if t.locks.contains seg then t.locks else t.locks ++ [seg] })
    rfl rfl

theorem State.PadOnly.padChain (it : Item) (k : Nat) : ∀ (seg first passNo : Nat) (linked : Bool) (rows : Nat) (s : State),
    s.PadOnly n i (State.padChain n it seg first passNo linked rows k s).2.2 := by
  induction k with
  | zero => exact fun _ _ _ _ _ s => State.PadOnly.of_thr rfl rfl
  | succ k ih =>
    intro seg first passNo linked rows s
    have hnew := State.PadOnly.newPass (n := n) (i := i) s it.id seg first passNo linked false
    unfold State.padChain
    extract_lets r q own
    split
    · exact hnew
    · split
      · exact hnew.trans (ih ..)
      · exact hnew

theorem State.PadOnly.fillPad (s : State) (pad old : Pad) (it : Item) : s.PadOnly n i (s.fillPad n i pad old it) := by
  unfold State.fillPad
  extract_lets t q s₁
  split
  · exact (State.PadOnly.setPad s _).trans (State.PadOnly.modThr _ rfl rfl)
  · have hchain : s.PadOnly n i q.2.2 := State.PadOnly.padChain it _ _ _ _ _ _ s
    have hpaid : q.2.2.PadOnly n i s₁ := State.PadOnly.of_thr rfl rfl
    exact (hchain.trans hpaid).trans (State.PadOnly.setPad s₁ _)

/-- A pad that is armed changes no other pad and nothing of the engine's registers. -/
theorem State.PadOnly.armPad (s : State) (target pc : Nat) (timeout : Bool) (w : W64) : s.PadOnly n i (s.armPad n i target pc timeout w) := by
  unfold State.armPad
  extract_lets t pi covered begun pad old s₁
  have hserial : s.PadOnly n i s₁ := State.PadOnly.modThr s rfl rfl
  split
  · have hparked : s.PadOnly n i (s.modThr n fun t => { t with parked := true }) := State.PadOnly.modThr s rfl rfl
    exact hparked.trans (State.PadOnly.of_thr rfl rfl)
  · split
    · exact hserial.trans (State.PadOnly.setPad s₁ _)
    · split
      · exact hserial.trans (State.PadOnly.setPad s₁ _)
      · exact hserial.trans (State.PadOnly.fillPad s₁ _ _ _)

end

/-! ### The steps of a decision (R180) -/

/-- The thread with other pads. -/
def Thread.withPads (t : Thread) (p : Tab Pad) : Thread := { t with pads := p }

theorem State.disarmAll_thr (s : State) (n : Nat) : (∃ p, (s.disarmAll n).thr n = (s.thr n).withPads p) ∧ (s.disarmAll n).beat = s.beat := by
  refine each_keeps (P := fun t : State => (∃ p, t.thr n = (s.thr n).withPads p) ∧ t.beat = s.beat) (fun i t ht => ?_) _ ⟨⟨(s.thr n).pads, rfl⟩, rfl⟩
  obtain ⟨⟨p, hp⟩, hb⟩ := ht
  refine ⟨⟨p.set (fun _ => { }) i { t.pad n i with armed := false }, ?_⟩, hb⟩
  unfold State.setPad
  rw [State.thr_modThr_same, hp]
  rfl

theorem State.setGrs_thr (s : State) (n m : Nat) (l : List (W32 × Nat)) :
    (each l (fun x => State.setGr m x.2 x.1) s).thr n = s.thr n ∧ (each l (fun x => State.setGr m x.2 x.1) s).beat = s.beat :=
  each_keeps (P := fun t : State => t.thr n = s.thr n ∧ t.beat = s.beat) (f := fun (x : W32 × Nat) => State.setGr m x.2 x.1) (fun _ _ h => h) l ⟨rfl, rfl⟩

/-- The engine as a pad's checkpoint has it. -/
structure State.RestoredFrom (n : Nat) (p : Pad) (s t : State) : Prop where
  engine : (t.thr n).engine = (p.target + 1, p.ls, p.cs, (s.thr n).stopAt)
  parked : (t.thr n).parked = false
  beat : t.beat = s.beat
  pads : (t.thr n).pads = (s.thr n).pads

theorem State.restore_restored (s : State) (n i : Nat) : s.RestoredFrom n (s.pad n i) (s.restore n i) := by
  unfold State.restore State.slide
  extract_lets p s₁ used
  obtain ⟨h₁, hbeat⟩ : s₁.thr n = s.thr n ∧ s₁.beat = s.beat := s.setGrs_thr n n p.grs.zipIdx
  clear_value s₁
  refine ⟨?_, ?_, hbeat, ?_⟩
  · rw [State.thr_modThr_same, State.thr_modThr_same, h₁]; rfl
  · rw [State.thr_modThr_same, State.thr_modThr_same]
  · rw [State.thr_modThr_same, State.thr_modThr_same, h₁]

/-- The pad that a landing item's own timeout takes is the lowest that is neither armed nor the one taken (R146). -/
theorem find_lowestOther {armed : Nat → Bool} {i : Nat} (hoff : ∀ k < 8, armed k = false) {j : Nat}
    (h : (List.range 8).find? (fun j => j != i && !(armed j)) = some j) : j = if i = 0 then 1 else 0 := by
  obtain ⟨hj, hmem, hbefore⟩ := List.find?_range_eq_some.1 h
  have h0 := hbefore 0
  have h1 := hbefore 1
  simp only [hoff 0 (by omega), hoff 1 (by omega), hoff j (List.mem_range.1 hmem), Bool.not_false, Bool.and_true, bne_iff_ne, ne_eq, Bool.not_eq_true',
    bne_eq_false_iff_eq] at hj h0 h1
  split <;> omega

theorem State.armedPads_off {s : State} {n : Nat} (h : ∀ k < 8, (s.pad n k).armed = false) : s.armedPads n = [] :=
  List.filter_eq_nil_iff.2 fun k hk => by simp [h k (List.mem_range.1 hk)]

theorem State.armedPads_congr {s t : State} {n : Nat} (h : (t.thr n).pads = (s.thr n).pads) : t.armedPads n = s.armedPads n :=
  List.filter_congr fun k _ => by rw [State.pad_congr h]

/-- The pad that a landing item's own timeout takes; none where it has no limit, or ends by itself. -/
def State.ownTimeout (s : State) (n i : Nat) (it : Item) : Option Nat :=
  if it.limit = 0 ∨ !it.repeats then none else (List.range 8).find? (fun j => j != i && !(s.pad n j).armed)

/-- The landing item of a pad, made an item of the thread. -/
def State.landingItem (s : State) (n i : Nat) (it : Item) : Item :=
  { (if it.takes then { it with marker := (s.pad n i).marker, sof := (s.pad n i).sof } else it) with
    id := (s.thr n).serial, timeoutPad := s.ownTimeout n i it, pushed := 0 }

/-- The landing item and its rows stand in the pad, and its number is used. -/
def State.withLanding (n i : Nat) (it : Item) (s : State) : State :=
  (s.setPad n i { s.pad n i with
    landing := some (s.landingItem n i it), rows := (s.pad n i).rows.map (fun q => { q with item := (s.thr n).serial }) }).modThr n fun t =>
      { t with serial := t.serial + 1 }

theorem State.placeLanding_none {s : State} {n i : Nat} (h : (s.pad n i).landing = none) : s.placeLanding n i = s := by
  unfold State.placeLanding
  simp only [h]

theorem State.placeLanding_some {s : State} {n i : Nat} {it : Item} (h : (s.pad n i).landing = some it) : s.placeLanding n i =
    match s.ownTimeout n i it with
    | some j => (s.withLanding n i it).armPad n j (bits ((s.pad n i).pis.headD 0) 31 16) (s.pad n i).target true ((s.pad n i).pis.headD 0)
    | none => s.withLanding n i it := by
  unfold State.placeLanding
  simp only [h]
  rfl

/-- A landing item placed in its pad arms and disarms none. -/
theorem State.withLanding_spec (s : State) (n i : Nat) (it : Item) : s.PadOnly n i (s.withLanding n i it) ∧
    (∀ k, ((s.withLanding n i it).pad n k).armed = (s.pad n k).armed) ∧ ((s.withLanding n i it).thr n).parked = (s.thr n).parked := by
  unfold State.withLanding
  generalize hq : ({ s.pad n i with
    landing := some (s.landingItem n i it), rows := (s.pad n i).rows.map (fun q => { q with item := (s.thr n).serial }) } : Pad) = q
  have hset : s.PadOnly n i (s.setPad n i q) := State.PadOnly.setPad s q
  have hpads : (((s.setPad n i q).modThr n fun t => { t with serial := t.serial + 1 }).thr n).pads = ((s.setPad n i q).thr n).pads := by
    rw [State.thr_modThr_same]
  refine ⟨hset.trans (State.PadOnly.modThr _ rfl rfl), fun k => ?_, ?_⟩
  · rw [State.pad_congr hpads]
    by_cases e : k = i
    · rw [e, State.pad_setPad_same, ← hq]
    · rw [hset.pads k e]
  · unfold State.setPad
    rw [State.thr_modThr_same, State.thr_modThr_same]

/-- With every pad off, a landing item placed leaves the engine's registers, and at most its own timeout pad armed; where it has no limit,
or ends by itself, none, and the engine is not parked. -/
theorem State.placeLanding_spec (s : State) (n i : Nat) (hoff : ∀ k < 8, (s.pad n k).armed = false) :
    ((s.placeLanding n i).thr n).engine = (s.thr n).engine ∧ (s.placeLanding n i).beat = s.beat ∧
    (∀ k ∈ (s.placeLanding n i).armedPads n, k = if i = 0 then 1 else 0) ∧
    ((∀ it, (s.pad n i).landing = some it → it.limit = 0 ∨ it.repeats = false) →
      (s.placeLanding n i).armedPads n = [] ∧ ((s.placeLanding n i).thr n).parked = (s.thr n).parked) := by
  cases hl : (s.pad n i).landing with
  | none =>
    rw [State.placeLanding_none hl, State.armedPads_off hoff]
    exact ⟨rfl, rfl, by simp, fun _ => ⟨rfl, rfl⟩⟩
  | some it =>
    obtain ⟨hset, harmed, hparked⟩ := s.withLanding_spec n i it
    have hoff' : ∀ k < 8, ((s.withLanding n i it).pad n k).armed = false := fun k hk => (harmed k).trans (hoff k hk)
    rw [State.placeLanding_some hl]
    cases hj : s.ownTimeout n i it with
    | none => exact ⟨hset.engine, hset.beat, by simp [State.armedPads_off hoff'], fun _ => ⟨State.armedPads_off hoff', hparked⟩⟩
    | some j =>
      have harm : (s.withLanding n i it).PadOnly n j ((s.withLanding n i it).armPad n j (bits ((s.pad n i).pis.headD 0) 31 16) (s.pad n i).target true
        ((s.pad n i).pis.headD 0)) := State.PadOnly.armPad _ _ _ _ _
      by_cases hno : it.limit = 0 ∨ it.repeats = false
      · have hnone : s.ownTimeout n i it = none := if_pos (hno.imp id (by simp))
        exact absurd (hnone.symm.trans hj) (by simp)
      · have hfound : (List.range 8).find? (fun j => j != i && !(s.pad n j).armed) = some j :=
          (if_neg (by simpa using hno)).symm.trans hj
        refine ⟨harm.engine.trans hset.engine, harm.beat.trans hset.beat, fun k hk => ?_, fun h => absurd (h it rfl) hno⟩
        obtain ⟨hk8, hka⟩ := State.mem_armedPads.1 hk
        have hkj : k = j := by
          by_contra e
          rw [harm.pads k e, hoff' k hk8] at hka
          exact absurd hka (by decide)
        exact hkj.trans (find_lowestOther hoff hfound)

/-- Pad `i` has been taken for the next beat: the engine goes on at its target from its checkpoint, every pad is disarmed but the
landing item's own timeout pad, and no item of the beat stands (R180). -/
structure State.TakenPad (n i : Nat) (s u : State) : Prop where
  taken : (u.thr n).taken = some (i, s.beat.lbc + 1)
  engine : (u.thr n).engine = ((s.pad n i).target + 1, (s.pad n i).ls, (s.pad n i).cs, (s.thr n).stopAt)
  armed : ∀ k ∈ u.armedPads n, k = if i = 0 then 1 else 0
  queue : ∀ y ∈ (u.thr n).queue, y.timeoutPad = none ∧ y.pushed ≠ s.beat.lbc
  free : (∀ it, (s.pad n i).landing = some it → it.limit = 0 ∨ it.repeats = false) → u.armedPads n = [] ∧ (u.thr n).parked = false

/-- A slot cleared changes the thread's slots alone. -/
theorem State.clearSlot_thr (s : State) (n k : Nat) : ∃ v, (s.clearSlot n k).thr n = { s.thr n with slots := v } := by
  unfold State.clearSlot State.setSlot
  rw [State.thr_modThr_same]
  exact ⟨_, rfl⟩

/-- The engine restored from a pad's checkpoint, and its landing item placed, with every other pad off. -/
def State.padRestored (n i : Nat) (s : State) : State :=
  (((when (!(s.pad n i).timeout) (State.clearSlot n (s.pad n i).slot) s).disarmAll n).restore n i).placeLanding n i

/-- The thread with a pad taken in beat `d`. -/
def Thread.withTaken (i d : Nat) (no : Option Origin) (t : Thread) : Thread :=
  { t with
    ubeat := some d, taken := some (i, d + 1), shadow := no
    queue := (t.queue.filter (fun it => it.pushed != d)).map (fun it => { it with timeoutPad := none })
    atEnds := t.atEnds.filter (fun x => decide (x.2 ≤ d)) }

theorem State.takePad_eq (s : State) (n i : Nat) (no : Option Origin) :
    s.takePad n i no = (s.padRestored n i).modThr n (Thread.withTaken i (s.padRestored n i).beat.lbc no) := by
  unfold State.takePad State.padRestored
  rfl

theorem State.padRestored_spec (s : State) {n i : Nat} (hi : i < 8) : let u := s.padRestored n i
    u.beat = s.beat ∧ (u.thr n).engine = ((s.pad n i).target + 1, (s.pad n i).ls, (s.pad n i).cs, (s.thr n).stopAt) ∧
    (∀ k ∈ u.armedPads n, k = if i = 0 then 1 else 0) ∧
    ((∀ it, (s.pad n i).landing = some it → it.limit = 0 ∨ it.repeats = false) → u.armedPads n = [] ∧ (u.thr n).parked = false) := by
  unfold State.padRestored
  have hclear : let c := when (!(s.pad n i).timeout) (State.clearSlot n (s.pad n i).slot) s
      (c.thr n).pads = (s.thr n).pads ∧ (c.thr n).stopAt = (s.thr n).stopAt ∧ c.beat = s.beat := by
    unfold when
    split
    · obtain ⟨v, hv⟩ := s.clearSlot_thr n (s.pad n i).slot
      dsimp only
      rw [hv]
      exact ⟨rfl, rfl, rfl⟩
    · exact ⟨rfl, rfl, rfl⟩
  generalize when (!(s.pad n i).timeout) (State.clearSlot n (s.pad n i).slot) s = c at hclear ⊢
  obtain ⟨hpads, hstop, hbeat⟩ := hclear
  obtain ⟨⟨q, hq⟩, hbeat'⟩ := c.disarmAll_thr n
  have hr := (c.disarmAll n).restore_restored n i
  have hpad : (c.disarmAll n).pad n i = { s.pad n i with armed := false } := by rw [c.pad_disarmAll n hi, State.pad_congr hpads]
  have hoff : ∀ k < 8, (((c.disarmAll n).restore n i).pad n k).armed = false := fun k hk => by
    rw [State.pad_congr hr.pads, c.pad_disarmAll n hk]
  have hstop' : ((c.disarmAll n).thr n).stopAt = (s.thr n).stopAt := by rw [hq]; exact hstop
  obtain ⟨hengine, hplaced, harmed, hfree⟩ := ((c.disarmAll n).restore n i).placeLanding_spec n i hoff
  refine ⟨hplaced.trans (hr.beat.trans (hbeat'.trans hbeat)), ?_, harmed, fun hno => ?_⟩
  · rw [hengine, hr.engine, hpad, hstop']
  · obtain ⟨hnil, hparked⟩ := hfree (by rw [State.pad_congr hr.pads, hpad]; exact hno)
    exact ⟨hnil, hparked.trans hr.parked⟩

theorem State.takePad_taken (s : State) {n i : Nat} (hi : i < 8) (no : Option Origin) : s.TakenPad n i (s.takePad n i no) := by
  obtain ⟨hbeat, hengine, harmed, hfree⟩ := s.padRestored_spec (n := n) hi
  rw [State.takePad_eq, hbeat]
  generalize s.padRestored n i = u at hengine harmed hfree ⊢
  have hthr := u.thr_modThr_same n (Thread.withTaken i s.beat.lbc no)
  generalize u.modThr n (Thread.withTaken i s.beat.lbc no) = w at hthr ⊢
  have harms : w.armedPads n = u.armedPads n := State.armedPads_congr (by rw [hthr]; rfl)
  refine ⟨by rw [hthr]; rfl, by rw [hthr]; exact hengine, by rw [harms]; exact harmed, ?_, fun hno => ?_⟩
  · rw [hthr]
    intro y hy
    obtain ⟨z, hz, rfl⟩ := List.mem_map.1 hy
    exact ⟨rfl, bne_iff_ne.1 (List.mem_filter.1 hz).2⟩
  · obtain ⟨hnil, hparked⟩ := hfree hno
    exact ⟨harms.trans hnil, by rw [hthr]; exact hparked⟩

end Sys2Proof.Machine
end

section
/-! PROOFS. Decisions and their effects (R173, R174, R180, R183 to R187). -/

namespace Sys2Proof.Machine

/-! ### What a decision turns on -/

/-- What the decisions of thread `n` turn on is as it was: its pads, slots and queue, the registers and the beat. -/
structure State.DecidesSame (n : Nat) (s t : State) : Prop where
  pads : (t.thr n).pads = (s.thr n).pads
  slots : (t.thr n).slots = (s.thr n).slots
  queue : (t.thr n).queue = (s.thr n).queue
  regs : t.regs = s.regs
  beat : t.beat = s.beat

theorem State.DecidesSame.modThr (s : State) (n : Nat) {f : Thread → Thread} (hp : (f (s.thr n)).pads = (s.thr n).pads)
    (hs : (f (s.thr n)).slots = (s.thr n).slots) (hq : (f (s.thr n)).queue = (s.thr n).queue) : s.DecidesSame n (s.modThr n f) :=
  ⟨by rw [State.thr_modThr_same, hp], by rw [State.thr_modThr_same, hs], by rw [State.thr_modThr_same, hq], rfl, rfl⟩

theorem State.DecidesSame.trans {n : Nat} {r s t : State} (h : r.DecidesSame n s) (k : s.DecidesSame n t) : r.DecidesSame n t :=
  ⟨k.pads.trans h.pads, k.slots.trans h.slots, k.queue.trans h.queue, k.regs.trans h.regs, k.beat.trans h.beat⟩

/-- The JIF pads of a thread that are armed. -/
def State.jifPads (s : State) (n : Nat) : List Nat := (s.armedPads n).filter (fun i => !(s.pad n i).timeout)

/-- Its true immediate pads. -/
def State.nowPads (s : State) (n : Nat) : List Nat := (s.jifPads n).filter (fun i => !(s.pad n i).atEnd && (s.padValue n i).1)

/-- Its true AT_END pads that are not requested yet. -/
def State.endPads (s : State) (n : Nat) (t : Thread) : List Nat :=
  (s.jifPads n).filter (fun i => (s.pad n i).atEnd && (s.padValue n i).1 && !(t.atEnds.any (fun x => x.1 == i)) &&
    !(t.stream.any (fun p => p.atEnd == some i)))

section
variable {n : Nat} {s t : State} (h : s.DecidesSame n t)
include h

theorem State.DecidesSame.pad (i : Nat) : t.pad n i = s.pad n i := State.pad_congr h.pads i

theorem State.DecidesSame.slotValue (k : Nat) (neg : Bool) (live : Option Live) (b : Nat) : t.slotValue n k neg live b = s.slotValue n k neg live b := by
  have hslot : t.slot n k = s.slot n k := by unfold State.slot; rw [h.slots]
  have hbit : t.bitOf SEQ_CSL_CFG_STICKY (16 * n + k) = s.bitOf SEQ_CSL_CFG_STICKY (16 * n + k) := by unfold State.bitOf State.reg; rw [h.regs]
  unfold State.slotValue
  rw [hslot, hbit]

theorem State.DecidesSame.padValue (i : Nat) : t.padValue n i = s.padValue n i := by
  unfold State.padValue
  rw [h.pad, h.beat]
  exact h.slotValue ..

theorem State.DecidesSame.jifPads : t.jifPads n = s.jifPads n := by
  unfold State.jifPads
  rw [State.armedPads_congr h.pads]
  exact List.filter_congr fun i _ => by rw [h.pad]

theorem State.DecidesSame.nowPads : t.nowPads n = s.nowPads n := by
  unfold State.nowPads
  rw [h.jifPads]
  exact List.filter_congr fun i _ => by rw [h.pad, h.padValue]

theorem State.DecidesSame.endPads (x : Thread) : t.endPads n x = s.endPads n x := by
  unfold State.endPads
  rw [h.jifPads]
  exact List.filter_congr fun i _ => by rw [h.pad, h.padValue]

theorem State.DecidesSame.oldestPad (l : List Nat) : t.oldestPad n l = s.oldestPad n l := by
  induction l with
  | nil => rfl
  | cons i r ih =>
    unfold State.oldestPad
    rw [ih]
    simp only [h.pad]

theorem State.DecidesSame.headItem : t.headItem n = s.headItem n := by
  unfold State.headItem
  rw [h.queue, h.beat]

end

theorem State.oldestPad_mem {s : State} {n i : Nat} : ∀ {l : List Nat}, s.oldestPad n l = some i → i ∈ l
  | [], h => by simp [State.oldestPad] at h
  | j :: r, h => by
    unfold State.oldestPad at h
    cases hr : s.oldestPad n r with
    | none =>
      rw [hr] at h
      simp only [Option.some.injEq] at h
      exact h ▸ List.mem_cons_self
    | some k =>
      have hk := State.oldestPad_mem hr
      rw [hr] at h
      simp only at h
      split at h
      · exact Option.some.inj h ▸ List.mem_cons_of_mem _ hk
      · exact Option.some.inj h ▸ List.mem_cons_self

/-! ### BRANCH_DECISION (R173, R174, R185, R186) -/

/-- The fail that a thread's stop mode looks at in the present beat. -/
def State.failHap (s : State) (n : Nat) : Option Hap := (s.thr n).haps.find? (fun h => h.slot == 16 && decide (h.beat + 1 ≤ s.beat.lbc))

/-- A fail stops the thread at once. -/
def State.stopsOnFail (s : State) (n : Nat) : Bool := (s.failHap n).isSome && ((s.thr n).sof == 1 || s.fieldOf CAP_FLOG_CFG_POLICY n == 3)

/-- The thread with the fails taken out that beat `d` has looked at. -/
def Thread.withoutFails (d : Nat) (t : Thread) : Thread := { t with haps := t.haps.filter (fun h => !(h.slot == 16 && decide (h.beat + 1 ≤ d))) }

/-- The thread stopped by a fail in beat `d` (R185). -/
def Thread.stopped (d : Nat) (failed : Option Hap) (t : Thread) : Thread :=
  { t with stopAt := some ⟨d + 1, 3, true⟩, shadow := (failed.map Hap.of_).join, atEnds := t.atEnds.filter (fun x => decide (x.2 ≤ d)) }

/-- A request for the end of the pass, of effect in beat `e` (R183). -/
def Thread.request (i e : Nat) (t : Thread) : Thread := { t with atEnds := t.atEnds ++ [(i, e)] }

/-- The requests of a beat: of true pads, and of a stop at the end of the pass. -/
def State.requestEnds (n e : Nat) (l : List Nat) (stop : Bool) (s : State) : State :=
  when stop (State.modThr n (Thread.request 8 e)) (each l (fun i s => s.modThr n (Thread.request i e)) s)

/-- A WAIT or MATCH ends whose slot is true in the beat before; `t` is the thread before the decisions of beat `d`
(R186). -/
def State.decideWait (n d : Nat) (t : Thread) (s : State) : State :=
  match s.headItem n with
  | none => s
  | some it =>
    if (it.kind == .wait || it.kind == .matchPass) && t.waitEnd.isNone && (s.slotValue n it.slot it.neg t.itemLive (d - 1)).1 then
      (s.clearSlot n it.slot).modThr n fun t => { t with waitEnd := some (d + 1) }
    else s

/-- No decision stands in the beat. -/
structure State.Open (s : State) (n : Nat) : Prop where
  issuing : s.issuing n = true
  abort : (s.thr n).abortsBy (s.beat.lbc + 1) = false
  taken : (s.thr n).taken = none
  stopAt : (s.thr n).stopAt = none

theorem State.decideBeat_idle {s : State} {n : Nat} (h : s.issuing n = false ∨ (s.thr n).abortsBy (s.beat.lbc + 1) = true ∨
    (s.thr n).taken.isSome = true ∨ (s.thr n).stopAt.isSome = true) : s.decideBeat n = s := by
  unfold State.decideBeat
  refine if_pos ?_
  rcases h with h | h | h | h <;> simp [h]

/-- The fails of a beat are looked at, and nothing else that the decision turns on changes. -/
theorem State.failsSeen_same (s : State) (n : Nat) : s.DecidesSame n (s.modThr n (Thread.withoutFails s.beat.lbc)) :=
  State.DecidesSame.modThr s n rfl rfl rfl

section
variable {s : State} {n : Nat} (h : s.Open n)
include h

/-- The decision of a beat in which none stands (R174). -/
theorem State.Open.decideBeat_eq : s.decideBeat n = (let u := s.modThr n (Thread.withoutFails s.beat.lbc)
    if s.stopsOnFail n then u.modThr n (Thread.stopped s.beat.lbc (s.failHap n))
    else match u.oldestPad n (u.nowPads n) with
      | some i => u.takePad n i (u.padValue n i).2
      | none => (u.requestEnds n (s.beat.lbc + 1) (u.endPads n (s.thr n)) ((s.failHap n).isSome && (s.thr n).sof == 2)).decideWait n s.beat.lbc (s.thr n)) := by
  obtain ⟨hi, ha, ht, hs⟩ := h
  have hgate : (!(s.issuing n) || (s.thr n).abortsBy (s.beat.lbc + 1) || (s.thr n).taken.isSome || (s.thr n).stopAt.isSome) = false := by
    simp [hi, ha, ht, hs]
  unfold State.decideBeat
  dsimp only
  rw [hgate]
  rfl

/-- A fail that stops the thread stands before every pad. -/
theorem State.Open.stops (hstop : s.stopsOnFail n = true) : ((s.decideBeat n).thr n).stopAt = some ⟨s.beat.lbc + 1, 3, true⟩ := by
  rw [h.decideBeat_eq]
  dsimp only
  rw [if_pos hstop, State.thr_modThr_same]
  rfl

/-- The true immediate pad that was armed longest ago is taken. -/
theorem State.Open.takes (hstop : s.stopsOnFail n = false) {i : Nat} (hi : s.oldestPad n (s.nowPads n) = some i) :
    ∃ no, s.decideBeat n = (s.modThr n (Thread.withoutFails s.beat.lbc)).takePad n i no := by
  have hsame := s.failsSeen_same n
  rw [h.decideBeat_eq]
  dsimp only
  rw [hstop, if_neg Bool.false_ne_true, hsame.oldestPad, hsame.nowPads, hi]
  exact ⟨_, rfl⟩

/-- With no fail and no immediate pad, the AT_END pads are requested, and then a WAIT or MATCH may end. -/
theorem State.Open.requests (hstop : s.stopsOnFail n = false) (hnow : s.oldestPad n (s.nowPads n) = none) :
    s.decideBeat n = ((s.modThr n (Thread.withoutFails s.beat.lbc)).requestEnds n (s.beat.lbc + 1) (s.endPads n (s.thr n))
      ((s.failHap n).isSome && (s.thr n).sof == 2)).decideWait n s.beat.lbc (s.thr n) := by
  have hsame := s.failsSeen_same n
  rw [h.decideBeat_eq]
  dsimp only
  rw [hstop, if_neg Bool.false_ne_true, hsame.oldestPad, hsame.nowPads, hnow, hsame.endPads]

end

/-- A pad taken of a thread in which no decision stands (R180). -/
theorem State.Open.takenPad {s : State} {n i : Nat} (h : s.Open n) (hstop : s.stopsOnFail n = false) (hi : s.oldestPad n (s.nowPads n) = some i) :
    s.TakenPad n i (s.decideBeat n) := by
  obtain ⟨no, he⟩ := h.takes hstop hi
  have hi8 : i < 8 := (State.mem_armedPads.1 (List.mem_filter.1 (List.mem_filter.1 (State.oldestPad_mem hi)).1).1).1
  have hpad : (s.modThr n (Thread.withoutFails s.beat.lbc)).pad n i = s.pad n i := (s.failsSeen_same n).pad i
  have hstopAt : ((s.modThr n (Thread.withoutFails s.beat.lbc)).thr n).stopAt = (s.thr n).stopAt := by rw [State.thr_modThr_same]; rfl
  have ht := State.takePad_taken (s.modThr n (Thread.withoutFails s.beat.lbc)) (n := n) hi8 no
  rw [he]
  exact ⟨ht.taken, by rw [ht.engine, hpad, hstopAt], ht.armed, ht.queue, by rw [← hpad]; exact ht.free⟩

/-! #### Requests -/

/-- What requests, and the end of a WAIT, leave: of the thread, its requests grow, and no pad is taken. -/
structure State.Requested (n : Nat) (s t : State) : Prop where
  taken : (t.thr n).taken = (s.thr n).taken
  atEnds : ∀ x ∈ (s.thr n).atEnds, x ∈ (t.thr n).atEnds
  queue : (t.thr n).queue = (s.thr n).queue
  beat : t.beat = s.beat

theorem State.Requested.trans {n : Nat} {r s t : State} (h : r.Requested n s) (k : s.Requested n t) : r.Requested n t :=
  ⟨k.taken.trans h.taken, fun x hx => k.atEnds x (h.atEnds x hx), k.queue.trans h.queue, k.beat.trans h.beat⟩

theorem State.Requested.refl (n : Nat) (s : State) : s.Requested n s := ⟨rfl, fun _ h => h, rfl, rfl⟩

theorem State.Requested.modThr (s : State) (n : Nat) {f : Thread → Thread} (ht : (f (s.thr n)).taken = (s.thr n).taken)
    (ha : ∀ x ∈ (s.thr n).atEnds, x ∈ (f (s.thr n)).atEnds) (hq : (f (s.thr n)).queue = (s.thr n).queue) : s.Requested n (s.modThr n f) :=
  ⟨by rw [State.thr_modThr_same, ht], by rw [State.thr_modThr_same]; exact ha, by rw [State.thr_modThr_same, hq], rfl⟩

theorem State.Requested.clearSlot (s : State) (n k : Nat) : s.Requested n (s.clearSlot n k) := by
  obtain ⟨v, hv⟩ := s.clearSlot_thr n k
  exact ⟨by rw [hv], by rw [hv]; exact fun _ hx => hx, by rw [hv], by unfold State.clearSlot State.setSlot; rfl⟩

theorem State.Requested.request (s : State) (n i e : Nat) : s.Requested n (s.modThr n (Thread.request i e)) :=
  State.Requested.modThr s n rfl (fun _ hx => List.mem_append_left _ hx) rfl

theorem State.Requested.requestAll (n e : Nat) (l : List Nat) (s : State) : s.Requested n (each l (fun i s => s.modThr n (Thread.request i e)) s) :=
  each_keeps (P := s.Requested n) (fun i t ht => ht.trans (State.Requested.request t n i e)) l (State.Requested.refl n s)

theorem State.Requested.requestEnds (s : State) (n e : Nat) (l : List Nat) (stop : Bool) : s.Requested n (s.requestEnds n e l stop) := by
  unfold State.requestEnds when
  split
  · exact (State.Requested.requestAll n e l s).trans (State.Requested.request _ n 8 e)
  · exact State.Requested.requestAll n e l s

theorem State.Requested.decideWait (s : State) (n d : Nat) (t : Thread) : s.Requested n (s.decideWait n d t) := by
  unfold State.decideWait
  split
  · exact State.Requested.refl n s
  · next it _ =>
    split
    · exact (State.Requested.clearSlot s n it.slot).trans (State.Requested.modThr _ n rfl (fun _ hx => hx) rfl)
    · exact State.Requested.refl n s

/-- Each pad requested has its request. -/
theorem State.requestAll_mem (n e : Nat) {l : List Nat} {i : Nat} (hi : i ∈ l) (s : State) :
    (i, e) ∈ ((each l (fun i s => s.modThr n (Thread.request i e)) s).thr n).atEnds :=
  each_reaches (P := fun t : State => (i, e) ∈ (t.thr n).atEnds) (fun j t ht => (State.Requested.request t n j e).atEnds _ ht)
    (fun t => by rw [State.thr_modThr_same]; exact List.mem_append_right _ List.mem_cons_self) hi s

theorem State.requestEnds_mem (s : State) (n e : Nat) {l : List Nat} {i : Nat} (hi : i ∈ l) (stop : Bool) :
    (i, e) ∈ ((s.requestEnds n e l stop).thr n).atEnds := by
  unfold State.requestEnds when
  split
  · exact (State.Requested.request _ n 8 e).atEnds _ (State.requestAll_mem n e hi s)
  · exact State.requestAll_mem n e hi s

theorem State.requestEnds_stop (s : State) (n e : Nat) (l : List Nat) : (8, e) ∈ ((s.requestEnds n e l true).thr n).atEnds := by
  unfold State.requestEnds when
  rw [if_pos rfl, State.thr_modThr_same]
  exact List.mem_append_right _ List.mem_cons_self

/-- A true slot ends the item. -/
theorem State.decideWait_ends {s : State} {n d : Nat} {t : Thread} {it : Item} (hit : s.headItem n = some it)
    (hk : it.kind = .wait ∨ it.kind = .matchPass) (hw : t.waitEnd = none) (hv : (s.slotValue n it.slot it.neg t.itemLive (d - 1)).1 = true) :
    ((s.decideWait n d t).thr n).waitEnd = some (d + 1) := by
  have hc : ((it.kind == .wait || it.kind == .matchPass) && t.waitEnd.isNone && (s.slotValue n it.slot it.neg t.itemLive (d - 1)).1) = true := by
    rw [hv, hw]
    rcases hk with e | e <;> rw [e] <;> rfl
  unfold State.decideWait
  rw [hit]
  dsimp only
  rw [if_pos hc, State.thr_modThr_same]

/-- A beat whose decision takes no pad leaves the head item. -/
theorem State.decideBeat_headItem (s : State) (n : Nat) (h : ((s.decideBeat n).thr n).taken = none) : (s.decideBeat n).headItem n = s.headItem n := by
  have of_same {t : State} (hq : (t.thr n).queue = (s.thr n).queue) (hb : t.beat = s.beat) : t.headItem n = s.headItem n := by
    unfold State.headItem
    rw [hq, hb]
  by_cases hidle : s.issuing n = false ∨ (s.thr n).abortsBy (s.beat.lbc + 1) = true ∨ (s.thr n).taken.isSome = true ∨ (s.thr n).stopAt.isSome = true
  · rw [State.decideBeat_idle hidle]
  · simp only [not_or, Bool.not_eq_false, Bool.not_eq_true, Option.isSome_eq_false_iff, Option.isNone_iff_eq_none] at hidle
    obtain ⟨hi, ha, ht, hs⟩ := hidle
    have hopen : s.Open n := ⟨hi, ha, ht, hs⟩
    cases hstop : s.stopsOnFail n with
    | true =>
      rw [hopen.decideBeat_eq]
      dsimp only
      rw [if_pos hstop]
      exact of_same (by rw [State.thr_modThr_same, State.thr_modThr_same]; rfl) rfl
    | false =>
      cases hold : s.oldestPad n (s.nowPads n) with
      | some i =>
        rw [(hopen.takenPad hstop hold).taken] at h
        exact absurd h (by simp)
      | none =>
        have hreq := (State.Requested.requestEnds (s.modThr n (Thread.withoutFails s.beat.lbc)) n (s.beat.lbc + 1) (s.endPads n (s.thr n))
          ((s.failHap n).isSome && (s.thr n).sof == 2)).trans (State.Requested.decideWait _ n s.beat.lbc (s.thr n))
        rw [hopen.requests hstop hold]
        exact of_same (hreq.queue.trans (s.failsSeen_same n).queue) hreq.beat

/-! ### BRANCH_EFFECT (R180) -/

theorem State.countBranch_seq (s : State) (n : Nat) (imm : Bool) : (s.countBranch n imm).seq = s.seq :=
  (State.countBranch_kept (m := 0x4000000010000) (by decide) (Kept.refl s) n imm).seq (by decide)

/-- The landing item of pad `p` has taken the place of the queue and the stream. -/
structure Thread.Landed (p : Pad) (t : Thread) : Prop where
  taken : t.taken = none
  began : t.began = none
  atEnds : t.atEnds = []
  stream : t.stream = p.rows
  queue : t.queue = p.landing.toList

theorem State.land_landed (s : State) (n i : Nat) : Thread.Landed (s.pad n i) ((s.land n i).thr n) := by
  unfold State.land
  extract_lets p s₁ s₂
  rw [State.thr_modThr_same]
  exact ⟨rfl, rfl, rfl, rfl, rfl⟩

/-- Where no request is left after the effect due, none takes effect. -/
theorem State.effects_due {s : State} {n : Nat} (h : ((s.effectDue n).thr n).atEnds = []) :
    s.effects n = (s.effectDue n).modThr n (Thread.withoutDue (s.effectDue n).beat.lbc) := by
  unfold State.effects
  generalize s.effectDue n = u at h ⊢
  simp only [h, List.filter_nil]
  rfl

/-- A pad's effect: the landing item takes the place of queue and stream, and no request is left. -/
theorem State.effects_landed {s : State} {n i e : Nat} (ht : (s.thr n).taken = some (i, e)) (he : e ≤ s.beat.lbc) :
    Thread.Landed (s.pad n i) ((s.effects n).thr n) := by
  have hdue : s.effectDue n = (s.countBranch n true).land n i := by
    unfold State.effectDue
    rw [ht]
    exact if_pos he
  have hpad : (s.countBranch n true).pad n i = s.pad n i :=
    State.pad_congr (congrArg Thread.pads (State.thr_congr (congrArg Pattern.thr (s.countBranch_seq n true)) n)) i
  have hland := (s.countBranch n true).land_landed n i
  rw [hpad, ← hdue] at hland
  rw [State.effects_due hland.atEnds, State.thr_modThr_same]
  unfold Thread.withoutDue
  exact ⟨hland.taken, hland.began, by rw [hland.atEnds]; rfl, hland.stream, hland.queue⟩

section
variable {s : State} (hr : s.running = true) (x : Fin 32)
include hr

theorem exec_branchDecision : exec (.branchDecision x) s = .next (s.decideBeat x.val) := done_live hr _

theorem exec_branchEffect_idle (h : s.issuing x.val = false) : exec (.branchEffect x) s = .next s :=
  (done_live hr _).trans (congrArg _ (if_neg (by simp [h])))

theorem exec_branchEffect (h : s.issuing x.val = true) : exec (.branchEffect x) s = .next (s.effects x.val) :=
  (done_live hr _).trans (congrArg _ (if_pos h))

/-! ### WAIT_TIMEOUT (R146, R174, R187) -/

theorem exec_waitTimeout_early {it : Item} (hit : s.headItem x.val = some it) (he : ∀ e, (s.thr x.val).expires it = some e → s.beat.lbc + 1 < e) :
    exec (.waitTimeout x) s = .next s := by
  refine (done_live hr _).trans (congrArg _ ?_)
  unfold State.expireItem
  rw [hit]
  cases hx : (s.thr x.val).expires it with
  | none => simp [hx]
  | some e =>
    have hlt := he e hx
    simp [hx, hlt]

/-- At the limit of a WAIT the other decisions of the beat come first; where they leave its timeout, its pad is taken. -/
theorem exec_waitTimeout {it : Item} {i e : Nat} (hi : s.issuing x.val = true) (hit : s.headItem x.val = some it) (hk : it.kind = .wait)
    (hp : it.timeoutPad = some i) (hx : (s.thr x.val).expires it = some e) (he : e ≤ s.beat.lbc + 1) :
    exec (.waitTimeout x) s = .next (if (s.decideBeat x.val).undecided x.val then (s.decideBeat x.val).takePad x.val i none else s.decideBeat x.val) := by
  refine (done_live hr _).trans (congrArg _ ?_)
  unfold State.expireItem
  rw [hit]
  dsimp only
  rw [hx, hk, hi]
  dsimp only
  rw [if_neg (by simp [he])]
  cases hu : (s.decideBeat x.val).undecided x.val with
  | true =>
    have htaken : ((s.decideBeat x.val).thr x.val).taken = none := by
      simp only [State.undecided, Bool.and_eq_true, Option.isNone_iff_eq_none] at hu
      exact hu.1.1.1.2
    rw [State.decideBeat_headItem s x.val htaken, hit]
    simp [hp]
  | false =>
    simp only [Bool.false_eq_true, if_false]
    split <;> rfl

end

/-! ### The obligation -/

/-- Settles O56: the decision of a beat is one equation, whose branches are followed one by one; a pad that is taken is followed through
its engine, its pads and its queue. -/
theorem decisionsAreTakenInOrder : Obligations.DecisionsAreTakenInOrder := by
  unfold Obligations.DecisionsAreTakenInOrder
  intro x s hr n t d
  refine ⟨fun ch h l ofs => ⟨exec_compareResult_none hr ch h l ofs, fun b rest hs => ?_⟩,
    fun k => ⟨exec_conditionSlotSet_none hr x k, exec_conditionSlotSet hr x k⟩,
    fun h => (exec_branchDecision hr x).trans (congrArg _ (State.decideBeat_idle h)), fun hi ha ht hs => ?_, exec_branchEffect_idle hr x,
    fun i e hi ht he => ?_, fun it i hi hit hk hp => ⟨fun e hx he => ⟨fun hu => ?_, fun hu => ?_⟩, exec_waitTimeout_early hr x hit⟩⟩
  · refine ⟨fun hlt => (exec_compareResult hr ch h l ofs hs).trans (congrArg _ (if_pos hlt)), fun hle =>
      ⟨_, (exec_compareResult hr ch h l ofs hs).trans (congrArg _ (if_neg (Nat.not_lt.2 hle))), s.takeResult_strobes .., fun v hv => ?_⟩⟩
    exact s.takeResult_pipe _ _ _ _ _ hv
  · have hopen : s.Open n := ⟨hi, ha, ht, hs⟩
    refine ⟨fun hstop => ⟨_, exec_branchDecision hr x, hopen.stops hstop⟩, fun i hstop hold => ?_, fun hstop hnow => ?_, fun it hf hnow hends hit hk hw hv => ?_⟩
    · have hu := hopen.takenPad hstop hold
      have hengine := hu.engine
      simp only [Thread.engine, Prod.mk.injEq] at hengine
      obtain ⟨hpc, hls, hcs, hstopAt⟩ := hengine
      exact ⟨_, exec_branchDecision hr x, hu.taken, hpc, hls, hcs, hu.armed, hstopAt.trans hs, hu.queue, hu.free⟩
    · have hnone : s.oldestPad n (s.nowPads n) = none := congrArg (s.oldestPad n) hnow
      have hwait := State.Requested.decideWait ((s.modThr n (Thread.withoutFails s.beat.lbc)).requestEnds n (s.beat.lbc + 1) (s.endPads n (s.thr n))
        ((s.failHap n).isSome && (s.thr n).sof == 2)) n s.beat.lbc (s.thr n)
      have hreq := (State.Requested.requestEnds (s.modThr n (Thread.withoutFails s.beat.lbc)) n (s.beat.lbc + 1) (s.endPads n (s.thr n))
        ((s.failHap n).isSome && (s.thr n).sof == 2)).trans hwait
      have htaken : ((s.modThr n (Thread.withoutFails s.beat.lbc)).thr n).taken = none := by rw [State.thr_modThr_same]; exact ht
      refine ⟨_, (exec_branchDecision hr x).trans (congrArg _ (hopen.requests hstop hnone)), hreq.taken.trans htaken, fun i hmem => ?_, fun hf h2 => ?_⟩
      · exact hwait.atEnds _ (State.requestEnds_mem _ n _ hmem _)
      · have hstop2 : ((s.failHap n).isSome && (s.thr n).sof == 2) = true := by
          rw [show (s.failHap n).isSome = true from hf, show (s.thr n).sof = 2 from h2]; rfl
        refine hwait.atEnds _ ?_
        rw [hstop2]
        exact State.requestEnds_stop _ n _ _
    · have hfail : s.failHap n = none := hf
      have hstop : s.stopsOnFail n = false := by unfold State.stopsOnFail; rw [hfail]; rfl
      have hnone : s.oldestPad n (s.nowPads n) = none := congrArg (s.oldestPad n) hnow
      have hsame := s.failsSeen_same n
      have hrun := hopen.requests hstop hnone
      rw [hfail, show s.endPads n (s.thr n) = [] from hends] at hrun
      refine ⟨_, (exec_branchDecision hr x).trans (congrArg _ hrun), ?_⟩
      exact State.decideWait_ends (hsame.headItem.trans hit) hk hw ((congrArg Prod.fst (hsame.slotValue ..)).trans hv)
  · have hl := State.effects_landed ht he
    exact ⟨_, exec_branchEffect hr x hi, hl.taken, hl.began, hl.stream, hl.queue⟩
  · exact (exec_waitTimeout hr x hi hit hk hp hx he).trans (congrArg _ (if_pos hu))
  · exact (exec_waitTimeout hr x hi hit hk hp hx he).trans (congrArg _ (if_neg (by rw [hu]; decide)))

end Sys2Proof.Machine
end

section
/-! PROOFS. Register accesses by cores and applets, and the named writes (R9, R60, R139, R379, R394, R398, R445). -/

namespace Sys2Proof.Machine

/-! ### REGISTER_WRITE by a core (R379, R394) -/

section
variable {s : State} (hr : s.running = true)
include hr

/-- A core's write of four bytes is the write of one word. -/
theorem exec_registerWrite_hazel (k : Fin 8) (a : W64) (v : W32) :
    exec (.registerWrite (.hazel k) a ⟨v, none⟩) s = .next (s.writeCore k.val a.toNat v) := by
  show execRegisterWrite (.hazel k) a ⟨v, none⟩ s = _
  unfold execRegisterWrite
  rw [hr]
  rfl

/-- A core's write of eight bytes is that of the lower word and then of the upper one. -/
theorem exec_registerWrite_wide (k : Fin 8) (a : W64) (v h : W32) :
    exec (.registerWrite (.hazel k) a ⟨v, some h⟩) s = .next ((s.writeCore k.val a.toNat v).writeCore k.val (a.toNat + 4) h) := by
  show execRegisterWrite (.hazel k) a ⟨v, some h⟩ s = _
  unfold execRegisterWrite
  rw [hr]
  rfl

theorem exec_dmaDoorbellWrite (e : Fin 16) (q : Fin 4) (v : W32) :
    exec (.dmaDoorbellWrite e q v) s = .next (s.ringDoorbell e.val q.val v.toNat) := done_live hr _

end

theorem State.writeCore_register {s : State} {k a : Nat} {r : Reg} (hd : doorbellAt a = none) (hreg : regAt a = some r) (hk : k < 2) (v : W32) :
    s.writeCore k a v = State.settleWrite s r (s.writeReg (k + 1) r v 0xFFFFFFFF) := by
  unfold State.writeCore
  rw [hd, hreg]
  exact if_pos hk

theorem State.writeCore_doorbell {s : State} {k a e q : Nat} (hd : doorbellAt a = some (e, q)) (hown : k < 2 ∨ (s.grant k).engineList.contains e = true)
    (v : W32) : s.writeCore k a v = s.ringDoorbell e q v.toNat := by
  unfold State.writeCore
  rw [hd]
  exact if_pos hown

/-- An applet's write of anything but a doorbell of its own engines is ignored. -/
theorem State.writeCore_ignored {s : State} {k a : Nat} (hk : 2 ≤ k)
    (hd : ∀ e q, doorbellAt a = some (e, q) → (s.grant k).engineList.contains e = false) (v : W32) : s.writeCore k a v = s := by
  unfold State.writeCore
  cases hdoor : doorbellAt a with
  | some d =>
    have hnot := hd d.1 d.2 hdoor
    exact if_neg (by rw [hnot]; exact fun e => e.elim (Nat.not_lt.2 hk) Bool.false_ne_true)
  | none =>
    cases regAt a with
    | none => rfl
    | some r => exact if_neg (Nat.not_lt.2 hk)

/-! ### Doorbells and receive queues (R394, R398) -/

theorem State.ringDoorbell_tail {s : State} {e q : Nat} (hen : s.bitOf MGT_DEQ_CFG_EN (4 * e + q) = true) (v : Nat) :
    (s.ringDoorbell e q v).dq e q = { s.dq e q with tail := v % 2 ^ s.fieldOf MGT_DEQ_CFG_LOG2 (4 * e + q) } := by
  have hring : s.ringDoorbell e q v = s.modDq e q fun x => { x with tail := v % 2 ^ s.fieldOf MGT_DEQ_CFG_LOG2 (4 * e + q) } :=
    if_neg (by simp [hen])
  rw [hring]
  unfold State.dq State.modDq State.modEngine State.engine State.withMgt
  dsimp only
  rw [Tab.get_set_same, Tab.get_set_same]

theorem State.ringDoorbell_disabled {s : State} {e q : Nat} (hen : s.bitOf MGT_DEQ_CFG_EN (4 * e + q) = false) (v : Nat) :
    s.ringDoorbell e q v = s := if_pos (by simp [hen])

/-- The frames released leave their queue; what frees their buffers leaves every queue. -/
theorem State.releaseFrames_frames (s : State) (q n : Nat) : ((s.releaseFrames q n).rxq q).frames = (s.rxq q).frames.drop n := by
  unfold State.releaseFrames
  extract_lets gone s₁ s₂
  have hfreed : (each gone State.freeFrame s₂).mgt = s₂.mgt :=
    (each_kept (fun f t ht => State.freeFrame_kept (Covers.refl _) ht f) gone (Kept.refl s₂)).same .mgt (by decide)
  have hheld : s₂.mgt = s₁.mgt := State.putField_mgt ..
  have hrx : (each gone State.freeFrame s₂).rxq q = s₁.rxq q := by
    unfold State.rxq
    rw [hfreed, hheld]
  have hdropped : s₁.rxq q = { s.rxq q with frames := (s.rxq q).frames.drop n } := Tab.get_set_same _ _ _ _
  rw [hrx, hdropped]

/-! ### APPLET_REG_REQUEST (R60, R379) -/

/-- No register of a grant has a check of a status below WRONG_STATE: NTU_INC and HSK_INJECT, which have one, are no register of a site. -/
theorem State.writeChecks_granted {s : State} {g : Grant} {r : Reg} (h : s.granted g r = true) (who : Nat) (v m : W32) :
    ∀ p ∈ s.writeChecks who r v m, p.2 = Status.wrongState := by
  unfold State.writeChecks
  intro p hp
  dsimp only at hp
  split at hp
  · simp_all
  · split at hp
    · next hst => simp [State.granted, hst, Stem.info] at h
    · next hst => simp [State.granted, hst, Stem.info] at h
    · simp_all
    · exact absurd hp List.not_mem_nil

/-- With firmware READY and a feature set agreed, a request is judged by its checks alone. -/
theorem State.judge_open {s : State} (hready : s.ready = true) (hagreed : s.agreed = true) (code : Nat) (checks : List (Bool × Nat)) :
    s.judge code true checks = lowest checks := by
  have hf : s.faultStop = false := by
    simp only [State.ready, beq_iff_eq] at hready
    simp [State.faultStop, hready]
  have hg : s.gate code = none := by simp [State.gate, hf, hagreed]
  simp only [State.judge, hg, lowest]
  cases lowest checks <;> rfl

/-- The answer to an applet's request: its status and value. -/
def State.putAnswer (core st : Nat) (v : W32) (s : State) : State :=
  s.withMgt fun m => { m with answers := m.answers.set (fun _ => (0, 0)) core (st, v.toNat) }

section
variable {s : State} (core : Fin 8) (a : W64) (w : Option (W32 × W32))

/-- A request of an applet's core in RUN with a grant is served at once while firmware is READY. -/
theorem exec_appletRegRequest (hr : s.running = true) (hcore : 2 ≤ core.val) (hgrant : (s.grant core.val).count ≠ 0)
    (hstate : s.coreState core.val = 1) (hready : s.ready = true) (hshut : s.shutDown = false) :
    exec (.appletRegRequest core a w) s = .next (s.serveRegister core a w) := by
  refine (done_live hr _).trans (congrArg _ ?_)
  rw [if_neg (by simp only [Nat.not_lt.2 hcore, hgrant, hstate, hshut, ne_eq, not_true_eq_false, Bool.false_eq_true, or_self, not_false_eq_true]),
    if_pos hready]

variable (hready : s.ready = true) (hagreed : s.agreed = true)
include hready hagreed

theorem State.serveRegister_outside (h : regAt a.toNat = none ∨ ∃ r, regAt a.toNat = some r ∧ s.granted (s.grant core.val) r = false) :
    s.serveRegister core a w = s.putAnswer core.val Status.badArgument 0 := by
  unfold State.serveRegister
  rcases h with h | ⟨r, h, hg⟩
  · simp only [h, State.judge_open hready hagreed]
    rfl
  · simp only [h, hg, State.judge_open hready hagreed]
    rfl

variable {r : Reg} (hreg : regAt a.toNat = some r) (hg : s.granted (s.grant core.val) r = true)
include hreg hg

theorem State.serveRegister_read : s.serveRegister core a none = ((s.beforeRead r).readReg (.hazel core) r).2.putAnswer core.val Status.ok
    ((s.beforeRead r).readReg (.hazel core) r).1 := by
  unfold State.serveRegister
  simp only [hreg, hg, State.judge_open hready hagreed]
  rfl

variable (v m : W32)

theorem State.serveRegister_txn (htxn : r.stem.info.txn = true) : s.serveRegister core a (some (v, m)) = s.putAnswer core.val Status.wrongState 0 := by
  have hchecks : lowest ((false, Status.badArgument) :: (true, Status.wrongState) :: s.writeChecks (core.val + 1) r v m) = some Status.wrongState :=
    lowest_eq_some ⟨(true, Status.wrongState), by simp, rfl⟩ fun p hp hfails => by
      rcases List.mem_cons.1 hp with rfl | hp
      · exact absurd hfails Bool.false_ne_true
      · rcases List.mem_cons.1 hp with rfl | hp
        · rfl
        · exact State.writeChecks_granted hg _ v m p hp
  unfold State.serveRegister
  simp only [hreg, hg, htxn, State.judge_open hready hagreed, Bool.not_true, Bool.false_eq_true, if_false, hchecks]
  rfl

theorem State.serveRegister_write (htxn : r.stem.info.txn = false) (hc : ∀ p ∈ s.writeChecks (core.val + 1) r v m, p.1 = false) :
    s.serveRegister core a (some (v, m)) = (s.writeReg (core.val + 1) r v m).putAnswer core.val Status.ok 0 := by
  have hchecks : lowest ((false, Status.badArgument) :: (false, Status.wrongState) :: s.writeChecks (core.val + 1) r v m) = none :=
    lowest_eq_none (by simpa using hc)
  unfold State.serveRegister
  simp only [hreg, hg, htxn, State.judge_open hready hagreed, Bool.not_true, Bool.false_eq_true, if_false, hchecks]
  rfl

end

/-! ### SEQ_GR_WRITE and HSK_INJECT_WRITE (R139, R445) -/

theorem exec_hskInjectWrite {s : State} (hr : s.running = true) (who : Writer) (v : W32) : exec (.hskInjectWrite who v) s =
    .next (if (match who with | .host => true | .hazel k => decide (k.val < 2)) && s.feature 9 && injectOk v then s.writeInject v else s) :=
  done_live hr _

/-- Settles O36: each access is one equation of what its core or its engine does; an applet's request is judged by the checks of its
register alone. -/
theorem coreAndAppletAccessesAct : Obligations.CoreAndAppletAccessesAct := by
  unfold Obligations.CoreAndAppletAccessesAct
  refine ⟨⟨fun k a v s hr => ⟨fun r hd hreg hk => ?_, fun e q hd hown => ?_, fun hk hd => ?_, exec_registerWrite_wide hr k a v⟩,
    fun e q v s hr => ⟨fun hen => ?_, fun hen => ?_⟩, fun q v s hr => ⟨_, done_live hr _, s.releaseFrames_frames q.val v.toNat⟩,
    fun i v s hr => ⟨fun hi => ?_, fun hi => ?_⟩, fun who v s hr => ⟨fun hmine hf hv => ?_, fun hno => ?_⟩⟩,
    fun core a w s hr hcore hgrant hstate hready hagreed hshut => ?_⟩
  · rw [exec_registerWrite_hazel hr, State.writeCore_register hd hreg hk]
  · rw [exec_registerWrite_hazel hr, exec_dmaDoorbellWrite hr, State.writeCore_doorbell hd hown]
  · rw [exec_registerWrite_hazel hr, State.writeCore_ignored hk hd]
  · exact ⟨_, exec_dmaDoorbellWrite hr e q v, State.ringDoorbell_tail hen v.toNat⟩
  · rw [exec_dmaDoorbellWrite hr, State.ringDoorbell_disabled hen]
  · exact ⟨_, (done_live hr _).trans (congrArg _ (if_pos hi)), State.reg_setReg_same .., rfl⟩
  · exact (done_live hr _).trans (congrArg _ (if_neg (by simp [hi])))
  · rw [exec_hskInjectWrite hr, hf, hv]
    cases who with
    | host => rfl
    | hazel k => exact congrArg _ (if_pos (by simp [hmine k rfl]))
  · rw [exec_hskInjectWrite hr]
    refine congrArg _ (if_neg ?_)
    rcases hno with h | h | ⟨k, rfl, hk⟩
    · simp [h]
    · simp [h]
    · simp [Nat.not_lt.2 hk]
  · have hserved := exec_appletRegRequest core a w hr hcore hgrant hstate hready hshut
    refine ⟨fun h => hserved.trans (congrArg _ (State.serveRegister_outside core a w hready hagreed h)), fun r hreg hg => ⟨?_, ?_⟩⟩
    · intro x hw
      subst hw
      exact hserved.trans (congrArg _ (State.serveRegister_read core a hready hagreed hreg hg))
    · rintro v m rfl
      exact ⟨fun htxn => hserved.trans (congrArg _ (State.serveRegister_txn core a hready hagreed hreg hg v m htxn)),
        fun htxn hc => hserved.trans (congrArg _ (State.serveRegister_write core a hready hagreed hreg hg v m htxn hc))⟩

end Sys2Proof.Machine
end

section
/-! PROOFS. The loads and checks of microcode and programs as they are taken, and SEQ_THR_READ and SEQ_CSL_SET (R147, R162, R165 to R168,
R201). -/

namespace Sys2Proof.Machine

section
variable {s : State} {iss : Issuer} (h : s.serves iss) {code : Nat} {checks : List (Bool × Nat)} {bad : List Nat} {run : State → State}
include h

/-- A served command that would report its bad arguments runs where none of its checks fails. -/
theorem State.commandBad_runs (hc : ∀ p ∈ checks, p.1 = false) : s.commandBad iss code true checks bad run = run s := by
  have hj := State.judge_of_serves h code checks
  obtain ⟨htake, _⟩ := h
  simp only [State.commandBad, htake, hj, lowest_eq_none hc, if_true]

/-- It reports them where they refuse it. -/
theorem State.commandBad_reports (hc : lowest checks = some Status.badArgument) :
    s.commandBad iss code true checks bad run = s.complete iss Status.badArgument bad := by
  have hj := State.judge_of_serves h code checks
  obtain ⟨htake, _⟩ := h
  simp only [State.commandBad, htake, hj, hc, if_true]

end

/-- The first element of a list that fails a check is at the index reported. -/
theorem findIdx?_first {α : Type} {l : List α} {ok : α → Bool} {i : Nat} {e : α} (hi : l[i]? = some e) (he : ok e = false)
    (hbefore : ∀ x ∈ l.take i, ok x = true) : l.findIdx? (fun x => !(ok x)) = some i := by
  obtain ⟨hlt, hget⟩ := List.getElem?_eq_some_iff.1 hi
  refine List.findIdx?_eq_some_iff_getElem.2 ⟨hlt, by rw [hget, he]; rfl, fun j hj => ?_⟩
  rw [hbefore _ (List.mem_take_iff_getElem.2 ⟨j, by omega, rfl⟩)]
  decide

section
variable {s : State} {iss : Issuer} (h : s.serves iss)
include h

/-! ### The control store (R162, R165, R166) -/

theorem exec_seqUcodeLoad {a : W64} {m : Byte} (hm : m ≠ 0) (hram : s.badRam a 8 131136 = false) (hok : ucodeOk (s.mem a.toNat 131136) = true)
    (hidle : ∀ n ∈ clusterThreads m, s.idle n = true) :
    exec (.seqUcodeLoad iss a m) s = .next (s.defer iss (.seqUcodeLoad iss a m) 0 (numbers (s.mem a.toNat 131136))) := by
  show execSeqUcodeLoad iss a m s = _
  unfold execSeqUcodeLoad
  have hall : (clusterThreads m).all s.idle = true := List.all_eq_true.2 hidle
  simp only [hram, Bool.false_eq_true, if_false]
  refine congrArg Host.Outcome.next (State.command_runs h fun p hp => ?_)
  rcases List.mem_cons.1 hp with rfl | hp
  · simp only [beq_eq_false_iff_ne.2 hm, hok, Bool.not_true, Bool.or_self]
  · rw [List.mem_singleton.1 hp, hall]
    rfl

theorem exec_seqUcodeVerify {m : Byte} (hm : m ≠ 0) (hidle : iss.nowait = false ∨ ∀ n ∈ clusterThreads m, s.idle n = true) :
    exec (.seqUcodeVerify iss m) s = .next (s.defer iss (.seqUcodeVerify iss m) 0 []) := by
  refine congrArg Host.Outcome.next (State.command_runs h fun p hp => ?_)
  rcases List.mem_cons.1 hp with rfl | hp
  · exact beq_eq_false_iff_ne.2 hm
  · rw [List.mem_singleton.1 hp]
    rcases hidle with hwait | hidle
    · simp [hwait]
    · simp [List.all_eq_true.2 hidle]

/-! ### Programs (R147, R167) -/

/-- The `k` PIs at an address, each as its bytes. -/
def State.pisAt (s : State) (a k : Nat) : List (List Byte) := splitEntries 8 k (s.mem a (8 * k))

/-- The bytes of a PI that is legal in a program of `k` PIs. -/
def piLegal (k : Nat) (e : List Byte) : Bool := piOk k (BitVec.ofNat 64 (ofLE e))

section
variable {a : W64} {p : Byte} {n : W16} (hp : p.toNat < 32) (hram : s.badGddr a 8 (8 * (n.toNat + 1)) = false)
include hp hram

omit h in
/-- SEQ_PROG_LOAD by its first illegal PI, and what stands in its way where there is none. -/
theorem exec_seqProgLoad : exec (.seqProgLoad iss a p n) s = .next (
    let bad := (s.pisAt a.toNat (n.toNat + 1)).findIdx? fun e => !(piLegal (n.toNat + 1) e)
    s.commandBad iss 0x0110 true [(bad.isSome, Status.badArgument), (s.progUsed p.toNat, Status.wrongState),
      (!(s.progFits p.toNat (n.toNat + 1)), Status.noResource)] [0, bad.getD 0]
      (State.defer iss (.seqProgLoad iss a p n) 0 (numbers (s.mem a.toNat (8 * (n.toNat + 1)))))) := by
  have hargs : (decide (32 ≤ p.toNat) || s.badGddr a 8 (8 * (n.toNat + 1))) = false := by rw [decide_eq_false (Nat.not_le.2 hp), hram]; rfl
  show execSeqProgLoad iss a p n s = _
  unfold execSeqProgLoad
  simp only [hargs, Bool.false_or, Bool.false_eq_true, if_false]
  rfl

theorem exec_seqProgLoad_legal (hok : ∀ e ∈ s.pisAt a.toNat (n.toNat + 1),
    piLegal (n.toNat + 1) e = true) (hused : s.progUsed p.toNat = false) (hfits : s.progFits p.toNat (n.toNat + 1) = true) :
    exec (.seqProgLoad iss a p n) s = .next (s.defer iss (.seqProgLoad iss a p n) 0 (numbers (s.mem a.toNat (8 * (n.toNat + 1))))) := by
  rw [exec_seqProgLoad hp hram, List.findIdx?_eq_none_iff.2 fun e he => by simp [hok e he], hused, hfits]
  exact congrArg _ (State.commandBad_runs h (by simp))

theorem exec_seqProgLoad_illegal {i : Nat} {e : List Byte} (hi : (s.pisAt a.toNat (n.toNat + 1))[i]? = some e)
    (he : piLegal (n.toNat + 1) e = false)
    (hbefore : ∀ x ∈ (s.pisAt a.toNat (n.toNat + 1)).take i, piLegal (n.toNat + 1) x = true) :
    exec (.seqProgLoad iss a p n) s = .next (s.complete iss Status.badArgument [0, i]) := by
  rw [exec_seqProgLoad hp hram, findIdx?_first (ok := piLegal (n.toNat + 1)) hi he hbefore]
  refine congrArg _ (State.commandBad_reports h ?_)
  cases s.progUsed p.toNat <;> cases s.progFits p.toNat (n.toNat + 1) <;> rfl

end

theorem exec_seqProgFree {p : Byte} (hp : p.toNat < 32) (hused : s.progUsed p.toNat = false) (hloaded : (s.prog p.toNat).count ≠ 0) :
    exec (.seqProgFree iss p) s = .next (((s.freeBlockList 6 (s.prog p.toNat).blocks).setProg p.toNat { }).complete iss Status.ok
      [(s.prog p.toNat).blocks.length]) := by
  refine congrArg Host.Outcome.next (State.command_runs h fun c hc => ?_)
  rcases List.mem_cons.1 hc with rfl | hc
  · exact decide_eq_false (Nat.not_le.2 hp)
  · rw [List.mem_singleton.1 hc, hused]
    exact beq_eq_false_iff_ne.2 hloaded

/-! ### Threads and condition slots (R168, R201) -/

theorem exec_seqThrRead {a : W64} {n : Byte} (hn : n.toNat < 32) (hram : s.badRam a 8 256 = false) :
    exec (.seqThrRead iss a n) s = .next ((s.setMem a.toNat (s.thrRecord n.toNat)).complete iss Status.ok [256]) := by
  refine congrArg Host.Outcome.next (State.command_runs h fun p hp => ?_)
  rw [List.mem_singleton.1 hp, hram, decide_eq_false (Nat.not_le.2 hn)]
  rfl

/-- SEQ_CSL_SET of an operation that it has runs. -/
theorem State.cslSet_runs {m : W32} {k op : Byte} (hm : m ≠ 0) (hk : k.toNat ≤ 15) (hop : op.toNat ≤ 1) (run : State → State) :
    s.command iss 0x0140 true [(m == 0 || decide (15 < k.toNat) || decide (1 < op.toNat), Status.badArgument)] run = run s :=
  State.command_runs h fun p hp => by
    rw [List.mem_singleton.1 hp, beq_eq_false_iff_ne.2 hm, decide_eq_false (Nat.not_lt.2 hk), decide_eq_false (Nat.not_lt.2 hop)]
    rfl

end

/-- Settles O50: each command passes its checks, and what it answers is read off its run. -/
theorem microcodeAndProgramsAreServed : Obligations.MicrocodeAndProgramsAreServed := by
  unfold Obligations.MicrocodeAndProgramsAreServed
  intro iss s h
  refine ⟨fun a m hm hram hok hidle => exec_seqUcodeLoad h hm hram hok hidle, fun m hm hidle => exec_seqUcodeVerify h hm hidle,
    fun a p n hp hram => ⟨fun hok hused hfits => exec_seqProgLoad_legal h hp hram hok hused hfits,
      fun i e hi he hbefore => exec_seqProgLoad_illegal h hp hram hi he hbefore⟩,
    fun p hp hused hloaded => exec_seqProgFree h hp hused hloaded, fun a n hn hram => exec_seqThrRead h hn hram, fun m k hm hk => ⟨?_, ?_⟩⟩
  · exact congrArg Host.Outcome.next (State.cslSet_runs h hm hk (by decide) _)
  · exact congrArg Host.Outcome.next (State.cslSet_runs h hm hk (by decide) _)

end Sys2Proof.Machine
end

section
/-! PROOFS. How a microword is executed: what every micro-op command does with a word that it does not find, and the state in which the
micro-op of a word acts (R149, R163, R180). -/

namespace Sys2Proof.Machine

/-! ### A thread changed twice -/

theorem Tab.without_insert_same {α : Type} (i : Nat) (x : α) : ∀ t : Tab α, (∀ p ∈ t, p.1 ≠ i) → Tab.without (Tab.insert t i x) i = t
  | [], _ => by simp [Tab.insert, Tab.without]
  | (k, v) :: r, h => by
    have hk : k ≠ i := h (k, v) List.mem_cons_self
    have hr : ∀ p ∈ r, p.1 ≠ i := fun p hp => h p (List.mem_cons_of_mem _ hp)
    have hkeep : Tab.without ((k, v) :: r) i = (k, v) :: r := List.filter_eq_self.2 fun p hp => by simpa using h p hp
    unfold Tab.insert
    split
    · simpa [Tab.without] using hkeep
    · have ih := Tab.without_insert_same i x r hr
      unfold Tab.without at ih ⊢
      rw [List.filter_cons_of_pos (by simpa using hk), ih]

/-- Of two writes to one key the later stands. -/
theorem Tab.set_set_same {α : Type} [DecidableEq α] (d : Nat → α) (t : Tab α) (i : Nat) (x y : α) :
    Tab.set d (Tab.set d t i x) i y = Tab.set d t i y := by
  have hw : Tab.without (Tab.set d t i x) i = Tab.without t i := by
    unfold Tab.set
    split
    · exact List.filter_eq_self.2 fun p hp => by simpa using Tab.without_ne t i p hp
    · exact Tab.without_insert_same i x _ (Tab.without_ne t i)
  unfold Tab.set at hw ⊢
  rw [hw]

theorem State.modThr_modThr (s : State) (n : Nat) (f g : Thread → Thread) : (s.modThr n f).modThr n g = s.modThr n fun t => g (f t) := by
  show (s.modThr n f).withSeq (fun q => { q with thr := q.thr.set (fun _ => { }) n (g ((s.modThr n f).thr n)) }) = _
  rw [State.thr_modThr_same]
  show s.withSeq (fun q => { q with thr := (q.thr.set (fun _ => { }) n (f (s.thr n))).set (fun _ => { }) n (g (f (s.thr n))) }) = _
  simp only [Tab.set_set_same]
  rfl

theorem State.modThr_congr (s : State) (n : Nat) {f g : Thread → Thread} (h : f (s.thr n) = g (s.thr n)) : s.modThr n f = s.modThr n g := by
  unfold State.modThr
  rw [h]

/-! ### A microword that is not executed -/

/-- Every micro-op command executes a microword of its thread, of its code. -/
theorem exec_microOp {x : Fin 32} {c : Instr × Nat} (hc : c ∈ microOps x) : ∃ f, ∀ s, exec c.1 s = .next (s.micro x.val c.2 f) := by
  revert c
  simp only [microOps, List.forall_mem_cons, List.not_mem_nil, false_imp_iff, implies_true, and_true]
  and_intros <;> exact ⟨_, fun _ => rfl⟩

section
variable {s : State} {n : Nat} (hr : s.running = true) (code : Nat) (f : Nat → State → Option State)
include hr

theorem State.micro_unread (h : s.reads n = false) : s.micro n code f = s := by
  unfold State.micro
  rw [State.live_of_running hr]
  exact if_pos (by simp [h])

theorem State.micro_damaged (h : s.reads n = true) (hd : (s.clusterReads (n / 4)).any (fun x => x.2.2.1 != 0 || x.2.2.2) = true) :
    s.micro n code f = s.machineCheck (n / 4) := by
  unfold State.micro
  rw [State.live_of_running hr, h, if_neg (by decide), if_pos hd]

end

section
variable {s : State} {n code : Nat} {f : Nat → State → Option State}

/-- With sound words the decisions of the beat come first, and then what the word says. -/
theorem State.micro_sound (h : s.soundAt n) (code : Nat) (f : Nat → State → Option State) : s.micro n code f =
    if !((s.decided n).reads n) || uop ((s.decided n).wordAt n) != code then s.decided n
    else (f ((s.decided n).wordAt n) (s.onward n)).getD ((s.decided n).spendBeat n) := by
  obtain ⟨hr, hread, hsound⟩ := h
  unfold State.micro
  rw [State.live_of_running hr, hread, hsound, if_neg (by decide), if_neg Bool.false_ne_true]
  have hstep (o : Option State) : (match o with | none => (s.decided n).spendBeat n | some t => t) = o.getD ((s.decided n).spendBeat n) := by
    cases o <;> rfl
  exact if_congr Iff.rfl rfl (hstep _)

theorem State.micro_missed (h : s.soundAt n) (hm : (s.decided n).reads n = false ∨ uop ((s.decided n).wordAt n) ≠ code) :
    s.micro n code f = s.decided n := by
  rw [State.micro_sound h]
  refine if_pos ?_
  rcases hm with hm | hm <;> simp [hm]

/-- A micro-op that acts. -/
theorem State.done_micro {v : State} (h : s.atOp n code) (hf : f ((s.decided n).wordAt n) (s.onward n) = some v) :
    done (s.micro n code f) = .next v := by
  obtain ⟨hsound, hread, hop⟩ := h
  rw [State.micro_sound hsound, hread, hop, hf]
  simp [done]

/-- A micro-op that repeats. -/
theorem State.done_micro_repeats (h : s.atOp n code) (hf : f ((s.decided n).wordAt n) (s.onward n) = none) :
    done (s.micro n code f) = .next ((s.decided n).spendBeat n) := by
  obtain ⟨hsound, hread, hop⟩ := h
  rw [State.micro_sound hsound, hread, hop, hf]
  simp [done]

end

/-! ### The state in which a micro-op acts -/

section
variable (s : State) (n w : Nat)

theorem State.nextWord_thr : (s.nextWord n w).thr n = { s.thr n with ubeat := some s.beat.lbc, ua := unext w } := by
  unfold State.nextWord State.spendBeat
  rw [State.thr_modThr_same, State.thr_modThr_same]

theorem State.nextWord_gr (k : Nat) : (s.nextWord n w).gr n k = s.gr n k := (rfl)

theorem State.nextWord_grs : (s.nextWord n w).grs n = s.grs n := (rfl)

theorem State.nextWord_prog (p : Nat) : (s.nextWord n w).prog p = s.prog p := (rfl)

end

section
variable (s : State) (n : Nat)

/-- The thread as the decisions of the beat leave it. -/
abbrev State.decidedThr (s : State) (n : Nat) : Thread := (s.decided n).thr n

/-- Of the state after the decisions, only the beat that the thread's engine has spent and its next address are new. -/
theorem State.onward_thr : (s.onward n).thr n =
    { s.decidedThr n with ubeat := some (s.decided n).beat.lbc, ua := unext ((s.decided n).wordAt n) } := State.nextWord_thr ..

theorem State.onward_gr (k : Nat) : (s.onward n).gr n k = (s.decided n).gr n k := State.nextWord_gr ..

theorem State.onward_grs : (s.onward n).grs n = (s.decided n).grs n := State.nextWord_grs ..

theorem State.onward_prog (p : Nat) : (s.onward n).prog p = (s.decided n).prog p := State.nextWord_prog ..

theorem State.onward_freePad : (s.onward n).freePad n = (s.decided n).freePad n := by
  have hpads : ((s.onward n).thr n).pads = ((s.decided n).thr n).pads := by rw [State.onward_thr]
  unfold State.freePad
  rw [State.armedPads_congr hpads]
  simp only [State.pad_congr hpads]

end

end Sys2Proof.Machine
end

section
/-! PROOFS. The micro-ops that move the engine: its counters, stacks and PC, and the instruction buffer (R149, R150, R152, R160). -/

namespace Sys2Proof.Machine

/-! ### A stack fault (R160) -/

/-- The engine of thread `n` parks, with the C2 fault `code` in SEQ at its PC and its last vector. -/
def State.Crashes (s : State) (n : Nat) (o : Host.Outcome State Fault Refusal) (code : Nat) : Prop :=
  ∃ v, o = .next v ∧ (v.thr n).parked = true ∧
    v.hsk.lines = s.hsk.lines ++ [(s.beat.lbc + 1, ⟨1, 2, code, fld 31 16 (s.thr n).pc, BitVec.ofNat 32 (2 ^ n), false,
      some ((s.thr n).vn, (s.reg .VST_POS n).toNat, s.fieldOf VST_POS_SEG n)⟩)]

theorem State.stackFault_thr (s : State) (n code : Nat) : (s.stackFault n code).thr n = { s.thr n with parked := true } := by
  have hthr : (s.stackFault n code).seq = (s.modThr n fun t => { t with parked := true }).seq := by
    unfold State.stackFault State.raise
    rw [State.raiseAt_seq]
  rw [State.thr_congr (congrArg Pattern.thr hthr), State.thr_modThr_same]

theorem State.crashes_of_stackFault {s : State} {n w code : Nat} {o : Host.Outcome State Fault Refusal}
    (h : o = .next ((s.nextWord n w).stackFault n code)) : s.Crashes n o code := by
  refine ⟨_, h, ?_, ?_⟩
  · rw [State.stackFault_thr]
  · unfold State.stackFault
    rw [State.nextWord_thr]
    rfl

/-! ### The PC and the instruction buffer (R152) -/

/-- The instruction buffer slides; nothing else of the thread changes. -/
theorem State.slide_thr (s : State) (n : Nat) : ∃ l, (s.slide n).thr n = { s.thr n with ib := l } := by
  unfold State.slide
  rw [State.thr_modThr_same]
  exact ⟨_, rfl⟩

theorem State.jumpPc_pc (s : State) (n pc : Nat) : ((s.jumpPc n pc).thr n).pc = pc := by
  unfold State.jumpPc
  extract_lets t
  split
  · obtain ⟨l, hl⟩ := (s.modThr n fun t => { t with pc := pc }).slide_thr n
    rw [hl, State.thr_modThr_same]
  · rw [State.thr_modThr_same]

/-- A change of PC within the buffer begins no refill. -/
theorem State.jumpPc_hit {s : State} {n pc : Nat} (hlo : max (s.thr n).ibFrom ((s.thr n).pc - 32) ≤ pc) (hhi : pc ≤ (s.thr n).pc + 31) :
    ((s.jumpPc n pc).thr n).refill = (s.thr n).refill := by
  obtain ⟨l, hl⟩ := (s.modThr n fun t => { t with pc := pc }).slide_thr n
  have hjump : s.jumpPc n pc = (s.modThr n fun t => { t with pc := pc }).slide n := if_pos ⟨hlo, hhi⟩
  rw [hjump, hl, State.thr_modThr_same]

/-- A change of PC beyond the buffer empties it, and the PI comes 26 beats later. -/
theorem State.jumpPc_miss {s : State} {n pc : Nat} (h : pc < (s.thr n).ibFrom ∨ pc < (s.thr n).pc - 32 ∨ (s.thr n).pc + 31 < pc) :
    ((s.jumpPc n pc).thr n).refill = some (s.beat.lbc + 26) ∧ ((s.jumpPc n pc).thr n).ib = [] := by
  have hjump : s.jumpPc n pc = s.modThr n fun t => { t with pc := pc, ibFrom := pc, ib := [], refill := some (s.beat.lbc + 26) } :=
    if_neg (by omega)
  rw [hjump, State.thr_modThr_same]
  exact ⟨rfl, rfl⟩

section
variable {s : State} {x : Fin 32} {d : Nat} (hr : s.running = true) (hd : (s.thr x.val).refill = some d)
include hr hd

theorem exec_ibufRefill_early (h : s.beat.lbc < d) : exec (.ibufRefill x) s = .next s := by
  refine (done_live hr _).trans (congrArg _ ?_)
  rw [hd]
  exact if_neg (Nat.not_le.2 h)

/-- A refill that is due fills the empty buffer from the program. -/
theorem exec_ibufRefill (h : d ≤ s.beat.lbc) (hib : (s.thr x.val).ib = []) :
    exec (.ibufRefill x) s = .next (let t := s.thr x.val
      s.modThr x.val fun y => { y with
        refill := none
        ib := (List.range (min (t.pc + 32) (s.prog t.prog).count - max t.ibFrom (t.pc - 32))).map (fun k =>
          (max t.ibFrom (t.pc - 32) + k, s.pi t.prog (max t.ibFrom (t.pc - 32) + k))) }) := by
  refine (done_live hr _).trans (congrArg _ ?_)
  rw [hd]
  refine (if_pos h).trans ?_
  unfold State.slide
  rw [State.modThr_modThr]
  refine State.modThr_congr _ _ ?_
  dsimp only
  rw [hib]
  rfl

end

/-! ### The micro-ops (R149) -/

section
variable {s : State} {x : Fin 32}

theorem exec_nop (h : s.atOp x.val 0x00) : exec (.nop x) s = .next (s.onward x.val) := State.done_micro h rfl

theorem exec_park (h : s.atOp x.val 0x02) : exec (.park x) s = .next ((s.onward x.val).modThr x.val fun y => { y with parked := true }) :=
  State.done_micro h rfl

section
variable (h : s.atOp x.val 0x01)
include h

theorem exec_fetch_past (hp : ((s.decided x.val).prog (s.decidedThr x.val).prog).count ≤ (s.decidedThr x.val).pc) :
    exec (.fetch x) s = .next ((s.onward x.val).modThr x.val fun y => { y with parked := true }) :=
  State.done_micro h (if_pos (by rw [State.onward_thr, State.onward_prog]; exact hp))

variable (hp : (s.decidedThr x.val).pc < ((s.decided x.val).prog (s.decidedThr x.val).prog).count)
include hp

theorem exec_fetch_waits (hib : ∀ e ∈ (s.decidedThr x.val).ib, e.1 ≠ (s.decidedThr x.val).pc) :
    exec (.fetch x) s = .next ((s.decided x.val).spendBeat x.val) := by
  have hnone : (s.decidedThr x.val).ib.find? (fun e => e.1 == (s.decidedThr x.val).pc) = none :=
    List.find?_eq_none.2 fun e he => by simpa using hib e he
  exact State.done_micro_repeats h (by simp only [State.onward_thr, State.onward_prog, Nat.not_le.2 hp, hnone, if_false])

theorem exec_fetch_takes {w : W64} (hw : (s.decidedThr x.val).ib.find? (fun e => e.1 == (s.decidedThr x.val).pc) =
    some ((s.decidedThr x.val).pc, w)) : exec (.fetch x) s =
    .next (((s.onward x.val).modThr x.val fun y => { y with ir := w, pc := (s.decidedThr x.val).pc + 1, ua := piOp w }).slide x.val) := by
  refine (State.done_micro h (by simp only [State.onward_thr, State.onward_prog, Nat.not_le.2 hp, hw, if_false]; rfl)).trans
    (congrArg (fun u : State => Host.Outcome.next (u.slide x.val)) (State.modThr_congr _ _ ?_))
  rw [State.onward_thr]

end

section
variable (h : s.atOp x.val 0x10)
include h

theorem exec_lsDecb_empty (hl : (s.decidedThr x.val).ls = []) : exec (.lsDecb x) s = .next ((s.onward x.val).stackFault x.val 0x0104) :=
  State.done_micro h (by simp only [State.onward_thr, hl])

theorem exec_lsDecb_last {pc : Nat} {l : List (Nat × Nat)} (hl : (s.decidedThr x.val).ls = (pc, 0) :: l) : exec (.lsDecb x) s =
    .next ((s.onward x.val).modThr x.val fun y => { y with ua := uoperand ((s.decided x.val).wordAt x.val) % 2 ^ 14 }) := by
  refine State.done_micro h ?_
  simp only [State.onward_thr, hl]
  refine congrArg some (State.modThr_congr _ _ ?_)
  simp only [State.onward_thr, ← hl]

theorem exec_lsDecb_counts {pc k : Nat} {l : List (Nat × Nat)} (hl : (s.decidedThr x.val).ls = (pc, k + 1) :: l) :
    exec (.lsDecb x) s = .next ((s.onward x.val).modThr x.val fun y => { y with ls := (pc, k) :: l }) :=
  State.done_micro h (by simp only [State.onward_thr, hl])

end

section
variable (h : s.atOp x.val 0x11)
include h

theorem exec_bgZero_zero (hz : (s.decided x.val).gr x.val (piSel (s.decidedThr x.val).ir) = 0) : exec (.bgZero x) s =
    .next ((s.onward x.val).modThr x.val fun y => { y with ua := uoperand ((s.decided x.val).wordAt x.val) % 2 ^ 14 }) :=
  State.done_micro h (congrArg some (if_pos (by rw [State.onward_thr, State.onward_gr, hz]; rfl)))

theorem exec_bgZero_other (hz : (s.decided x.val).gr x.val (piSel (s.decidedThr x.val).ir) ≠ 0) :
    exec (.bgZero x) s = .next (s.onward x.val) :=
  State.done_micro h (congrArg some (if_neg (by rw [State.onward_thr, State.onward_gr]; simpa using hz)))

end

section
variable (h : s.atOp x.val 0x12)
include h

theorem exec_bflag_set (hb : (s.decidedThr x.val).ir.getLsbD (52 + uoperand ((s.decided x.val).wordAt x.val) / 2 ^ 14) = true) :
    exec (.bflag x) s =
      .next ((s.onward x.val).modThr x.val fun y => { y with ua := uoperand ((s.decided x.val).wordAt x.val) % 2 ^ 14 }) :=
  State.done_micro h (congrArg some (if_pos (by rw [State.onward_thr]; exact hb)))

theorem exec_bflag_clear (hb : (s.decidedThr x.val).ir.getLsbD (52 + uoperand ((s.decided x.val).wordAt x.val) / 2 ^ 14) = false) :
    exec (.bflag x) s = .next (s.onward x.val) :=
  State.done_micro h (congrArg some (if_neg (by rw [State.onward_thr]; exact Bool.eq_false_iff.1 hb)))

end

section
variable (h : s.atOp x.val 0x21)
include h

theorem exec_lsPush_full (hl : 16 ≤ (s.decidedThr x.val).ls.length) :
    exec (.lsPush x) s = .next ((s.onward x.val).stackFault x.val 0x0103) :=
  State.done_micro h (if_pos (by rw [State.onward_thr]; exact hl))

theorem exec_lsPush (hl : (s.decidedThr x.val).ls.length < 16) :
    let t := s.decidedThr x.val
    exec (.lsPush x) s = .next ((s.onward x.val).modThr x.val fun y => { y with
      ls := (t.pc, if t.ir.getLsbD 52 then ((s.decided x.val).gr x.val (piSel t.ir) - 1).toNat else bits t.ir 31 0) :: t.ls }) := by
  refine State.done_micro h ((if_neg (by rw [State.onward_thr]; exact Nat.not_le.2 hl)).trans (congrArg some (State.modThr_congr _ _ ?_)))
  simp only [State.onward_thr, State.onward_gr, bit]

end

theorem exec_lsBack_empty (h : s.atOp x.val 0x22) (hl : (s.decidedThr x.val).ls = []) :
    exec (.lsBack x) s = .next ((s.onward x.val).stackFault x.val 0x0104) :=
  State.done_micro h (by simp only [State.onward_thr, hl])

theorem exec_lsBack (h : s.atOp x.val 0x22) {e : Nat × Nat} {l : List (Nat × Nat)} (hl : (s.decidedThr x.val).ls = e :: l) :
    exec (.lsBack x) s = .next ((s.onward x.val).jumpPc x.val e.1) :=
  State.done_micro h (by simp only [State.onward_thr, hl])

theorem exec_lsPop_empty (h : s.atOp x.val 0x23) (hl : (s.decidedThr x.val).ls = []) :
    exec (.lsPop x) s = .next ((s.onward x.val).stackFault x.val 0x0104) :=
  State.done_micro h (by simp only [State.onward_thr, hl])

theorem exec_lsPop (h : s.atOp x.val 0x23) {e : Nat × Nat} {l : List (Nat × Nat)} (hl : (s.decidedThr x.val).ls = e :: l) :
    exec (.lsPop x) s = .next ((s.onward x.val).modThr x.val fun y => { y with ls := l }) :=
  State.done_micro h (by simp only [State.onward_thr, hl])

theorem exec_csPush_full (h : s.atOp x.val 0x24) (hl : 16 ≤ (s.decidedThr x.val).cs.length) :
    exec (.csPush x) s = .next ((s.onward x.val).stackFault x.val 0x0105) :=
  State.done_micro h (if_pos (by rw [State.onward_thr]; exact hl))

theorem exec_csPush (h : s.atOp x.val 0x24) (hl : (s.decidedThr x.val).cs.length < 16) : exec (.csPush x) s =
    .next ((s.onward x.val).modThr x.val fun y => { y with cs := (s.decidedThr x.val).pc :: (s.decidedThr x.val).cs }) := by
  refine State.done_micro h ((if_neg (by rw [State.onward_thr]; exact Nat.not_le.2 hl)).trans (congrArg some (State.modThr_congr _ _ ?_)))
  rw [State.onward_thr]

theorem exec_csPop_empty (h : s.atOp x.val 0x25) (hl : (s.decidedThr x.val).cs = []) :
    exec (.csPop x) s = .next ((s.onward x.val).stackFault x.val 0x0106) :=
  State.done_micro h (by simp only [State.onward_thr, hl])

theorem exec_csPop (h : s.atOp x.val 0x25) {pc : Nat} {l : List Nat} (hl : (s.decidedThr x.val).cs = pc :: l) :
    exec (.csPop x) s = .next (((s.onward x.val).modThr x.val fun y => { y with cs := l }).jumpPc x.val pc) :=
  State.done_micro h (by simp only [State.onward_thr, hl])

theorem exec_pcImm (h : s.atOp x.val 0x26) :
    exec (.pcImm x) s = .next ((s.onward x.val).jumpPc x.val (bits (s.decidedThr x.val).ir 15 0)) :=
  State.done_micro h (by rw [State.onward_thr])

theorem exec_pcExit (h : s.atOp x.val 0x27) :
    exec (.pcExit x) s = .next ((s.onward x.val).jumpPc x.val (bits (s.decidedThr x.val).ir 47 32)) :=
  State.done_micro h (by rw [State.onward_thr])

end

/-- Settles O52: one equation for each micro-op and each case of its condition; what a refill and a stack fault leave is read off the
thread. That the fault's record carries the last vector is the model's choice (log entry 66), and so is that a parked engine reads nothing
(log entry 101). -/
theorem controlMicroOpsAct : Obligations.ControlMicroOpsAct := by
  unfold Obligations.ControlMicroOpsAct
  intro x s0
  refine ⟨fun c hc => ?_, exec_nop, fun h => ⟨exec_fetch_past h, exec_fetch_waits h, fun _ hp hw => exec_fetch_takes h hp hw⟩, exec_park,
    fun h => ⟨fun hl => State.crashes_of_stackFault (exec_lsDecb_empty h hl), fun _ _ => exec_lsDecb_last h, fun _ _ _ => exec_lsDecb_counts h⟩,
    fun h => ⟨exec_bgZero_zero h, exec_bgZero_other h⟩, fun h => ⟨exec_bflag_set h, exec_bflag_clear h⟩,
    fun h => ⟨fun hl => State.crashes_of_stackFault (exec_lsPush_full h hl), exec_lsPush h⟩,
    fun h => ⟨fun hl => State.crashes_of_stackFault (exec_lsBack_empty h hl), fun _ _ => exec_lsBack h⟩,
    fun h => ⟨fun hl => State.crashes_of_stackFault (exec_lsPop_empty h hl), fun _ _ => exec_lsPop h⟩,
    fun h => ⟨fun hl => State.crashes_of_stackFault (exec_csPush_full h hl), exec_csPush h⟩,
    fun h => ⟨fun hl => State.crashes_of_stackFault (exec_csPop_empty h hl), fun _ _ => exec_csPop h⟩,
    fun h => ⟨_, exec_pcImm h, State.jumpPc_pc .., fun hlo hhi => ?_, fun hmiss => ?_⟩, exec_pcExit,
    fun hr d hd => ⟨exec_ibufRefill_early hr hd, exec_ibufRefill hr hd⟩⟩
  · obtain ⟨f, hf⟩ := exec_microOp hc
    exact ⟨fun hr hread => (hf s0).trans (congrArg _ (State.micro_unread hr _ f hread)),
      fun hsound hm => (hf s0).trans (congrArg _ (State.micro_missed hsound hm))⟩
  · have hthr := s0.onward_thr x.val
    exact (State.jumpPc_hit (by rw [hthr]; exact hlo) (by rw [hthr]; exact hhi)).trans (by rw [hthr])
  · exact State.jumpPc_miss (by rw [s0.onward_thr]; exact hmiss)

end Sys2Proof.Machine
end

section
/-! PROOFS. The micro-ops that write registers, queue items and arm pads (R144 to R146, R149, R175). -/

namespace Sys2Proof.Machine

/-! ### Items pushed (R145, R146) -/

/-- The passes that a thread takes over of a shared window change its stream and what is asked for it alone. -/
theorem State.takeUp_thr (s : State) (n id : Nat) : ∃ stream passNo locks flight, (s.takeUp n id).thr n =
    { s.thr n with stream := stream, passNo := passNo, locks := locks, flight := flight } := by
  unfold State.takeUp
  extract_lets a u l own
  split
  · exact ⟨(s.thr n).stream, (s.thr n).passNo, (s.thr n).locks, (s.thr n).flight, rfl⟩
  · rw [State.thr_modThr_same]
    exact ⟨_, _, _, _, rfl⟩

/-- An item that JOIN and SPANSYNC are not takes the pending marker and mode. -/
def ItemKind.marked (k : ItemKind) : Bool := k != .join && k != .spansync

/-- From `t` to `u` the item `it` has been queued, as `e`. -/
structure Thread.Pushed (it : Item) (t u : Thread) (e : Item) : Prop where
  serial : u.serial = t.serial + 1
  pendPad : u.pendPad = none
  queue : u.queue = t.queue ++ [e]
  kind : e.kind = it.kind
  id : e.id = t.serial
  timeoutPad : e.timeoutPad = t.pendPad
  takes (h : it.kind.marked = true) : e.marker = t.pendMark ∧ e.sof = t.pendSof ∧ u.pendMark = 0 ∧ u.pendSof = none
  leaves (h : it.kind.marked = false) : u.pendMark = t.pendMark ∧ u.pendSof = t.pendSof

theorem State.pushItem_pushed (s : State) (n : Nat) (it : Item) : ∃ e, Thread.Pushed it (s.thr n) ((s.pushItem n it).thr n) e := by
  unfold State.pushItem
  obtain ⟨stream, passNo, locks, flight, htake⟩ := State.takeUp_thr (s.modThr n fun t =>
    { t with
      queue := t.queue ++ [{ (if it.kind.marked then { it with marker := t.pendMark, sof := t.pendSof } else it) with
        timeoutPad := t.pendPad, id := t.serial, pushed := s.beat.lbc }]
      serial := t.serial + 1
      pendPad := none
      pendMark := if it.kind.marked then 0 else t.pendMark
      pendSof := if it.kind.marked then none else t.pendSof }) n (s.thr n).serial
  rw [State.thr_modThr_same] at htake
  refine ⟨_, (congrArg Thread.serial htake).trans rfl, (congrArg Thread.pendPad htake).trans rfl, (congrArg Thread.queue htake).trans rfl, ?_, rfl, rfl,
    fun h => ⟨?_, ?_, (congrArg Thread.pendMark htake).trans (if_pos h), (congrArg Thread.pendSof htake).trans (if_pos h)⟩,
    fun h => ⟨(congrArg Thread.pendMark htake).trans (if_neg ?_), (congrArg Thread.pendSof htake).trans (if_neg ?_)⟩⟩
  · dsimp only
    split <;> rfl
  · rw [if_pos h]
  · rw [if_pos h]
  · rw [h]
    decide
  · rw [h]
    decide

/-! ### The micro-ops (R149) -/

/-- The item that IR spells as the kind that the word's OPERAND names. -/
def State.pushedItem (s : State) (n : Nat) : Option Item :=
  itemOfPi (setBits (s.thr n).ir 63 56 (pushOp (uoperand (s.wordAt n) % 8))) (s.grs n) 0 ((s.thr n).pc - 1) 0

section
variable {s : State} {x : Fin 32}

theorem exec_grSet (h : s.atOp x.val 0x28) : let t := s.decidedThr x.val
    exec (.grSet x) s = .next ((s.onward x.val).setReg .SEQ_GR (16 * x.val + piSel t.ir) 0 (BitVec.ofNat 32 (bits t.ir 31 0))) :=
  State.done_micro h (by rw [State.onward_thr]; rfl)

theorem exec_grAdd (h : s.atOp x.val 0x29) : let t := s.decidedThr x.val
    exec (.grAdd x) s = .next ((s.onward x.val).setReg .SEQ_GR (16 * x.val + piSel t.ir) 0
      ((s.decided x.val).gr x.val (piSel t.ir) + BitVec.ofNat 32 (bits t.ir 31 0))) :=
  State.done_micro h (by simp only [State.onward_thr, State.onward_gr]; rfl)

theorem exec_mkSet (h : s.atOp x.val 0x2C) : exec (.mkSet x) s =
    .next ((s.onward x.val).modThr x.val fun y => { y with pendMark := bits (s.decidedThr x.val).ir 7 0 }) :=
  State.done_micro h (congrArg some (State.modThr_congr _ _ (by rw [State.onward_thr])))

theorem exec_sofSet (h : s.atOp x.val 0x2D) : exec (.sofSet x) s =
    .next ((s.onward x.val).modThr x.val fun y => { y with pendSof := some (bits (s.decidedThr x.val).ir 1 0) }) :=
  State.done_micro h (congrArg some (State.modThr_congr _ _ (by rw [State.onward_thr])))

section
variable (h : s.atOp x.val 0x20)
include h

theorem exec_pqPush_full (hq : 8 ≤ (s.decidedThr x.val).queue.length) : exec (.pqPush x) s = .next ((s.decided x.val).spendBeat x.val) :=
  State.done_micro_repeats h (if_pos (by rw [State.onward_thr]; exact hq))

variable (hq : (s.decidedThr x.val).queue.length < 8)
include hq

theorem exec_pqPush_none (hi : (s.decided x.val).pushedItem x.val = none) : exec (.pqPush x) s = .next (s.onward x.val) := by
  unfold State.pushedItem at hi
  exact State.done_micro h (by simp only [State.onward_thr, State.onward_grs, Nat.not_le.2 hq, hi, if_false])

theorem exec_pqPush {i : Item} (hi : (s.decided x.val).pushedItem x.val = some i) :
    exec (.pqPush x) s = .next ((s.onward x.val).pushItem x.val i) := by
  unfold State.pushedItem at hi
  exact State.done_micro h (by simp only [State.onward_thr, State.onward_grs, Nat.not_le.2 hq, hi, if_false])

/-- An item queued goes by the thread as the decisions left it. -/
theorem exec_pqPush_pushed {i : Item} (hi : (s.decided x.val).pushedItem x.val = some i) :
    ∃ v e, exec (.pqPush x) s = .next v ∧ Thread.Pushed i (s.decidedThr x.val) (v.thr x.val) e := by
  obtain ⟨e, he⟩ := (s.onward x.val).pushItem_pushed x.val i
  rw [State.onward_thr] at he
  exact ⟨_, e, exec_pqPush h hq hi, ⟨he.serial, he.pendPad, he.queue, he.kind, he.id, he.timeoutPad, he.takes, he.leaves⟩⟩

end

section
variable (h : s.atOp x.val 0x2E)
include h

theorem exec_haltQ_full (hq : 8 ≤ (s.decidedThr x.val).queue.length) : exec (.haltQ x) s = .next ((s.decided x.val).spendBeat x.val) :=
  State.done_micro_repeats h (if_pos (by rw [State.onward_thr]; exact hq))

theorem exec_haltQ (hq : (s.decidedThr x.val).queue.length < 8) : ∃ v, exec (.haltQ x) s = .next v ∧
    (v.thr x.val).pendMark = 0 ∧ (v.thr x.val).pendSof = none ∧
    ∃ e : Item, (v.thr x.val).queue = (s.decidedThr x.val).queue ++ [e] ∧ e.kind = .halt ∧ e.code = bits (s.decidedThr x.val).ir 15 0 := by
  refine ⟨_, State.done_micro h (if_neg (by rw [State.onward_thr]; exact Nat.not_le.2 hq)), ?_⟩
  rw [State.thr_modThr_same, State.onward_thr]
  exact ⟨rfl, rfl, _, rfl, rfl, rfl⟩

end

section
variable (h : s.atOp x.val 0x2A)
include h

theorem exec_arm_full (hp : (s.decided x.val).freePad x.val = none) : exec (.arm x) s = .next ((s.decided x.val).spendBeat x.val) :=
  State.done_micro_repeats h (by simp only [State.onward_freePad, hp])

theorem exec_arm {i : Nat} (hp : (s.decided x.val).freePad x.val = some i) : let t := s.decidedThr x.val
    exec (.arm x) s = .next ((s.onward x.val).armPad x.val i (bits t.ir 15 0) (t.pc - 1) false t.ir) :=
  State.done_micro h (by simp only [State.onward_freePad, State.onward_thr, hp])

end

section
variable (h : s.atOp x.val 0x2B)
include h

theorem exec_armTo_none (h0 : bits (s.decidedThr x.val).ir 47 32 = 0) : exec (.armTo x) s = .next (s.onward x.val) :=
  State.done_micro h (if_pos (by rw [State.onward_thr]; exact h0))

variable (h0 : bits (s.decidedThr x.val).ir 47 32 ≠ 0)
include h0

theorem exec_armTo_full (hp : (s.decided x.val).freePad x.val = none) : exec (.armTo x) s = .next ((s.decided x.val).spendBeat x.val) :=
  State.done_micro_repeats h (by simp only [State.onward_freePad, State.onward_thr, h0, hp, if_false])

theorem exec_armTo {i : Nat} (hp : (s.decided x.val).freePad x.val = some i) : let t := s.decidedThr x.val
    exec (.armTo x) s = .next (((s.onward x.val).armPad x.val i (bits t.ir 31 16) (t.pc - 1) true t.ir).modThr x.val fun y =>
      { y with pendPad := some i }) :=
  State.done_micro h (by simp only [State.onward_freePad, State.onward_thr, h0, hp, if_false])

end

end

end Sys2Proof.Machine
end

section
/-! PROOFS. The machine check of a cluster (R163, R445, R446), and the obligation on items. -/

namespace Sys2Proof.Machine

/-! ### The threads of a cluster -/

/-- What every change of a list keeps is enough for one of them to bring about what all keep from then on. -/
theorem each_reaches_from {α : Type} {P Q : State → Prop} {f : α → State → State} (hP : ∀ x t, P t → P (f x t)) (hQ : ∀ x t, Q t → Q (f x t)) {a : α}
    (ha : ∀ t, P t → Q (f a t)) {l : List α} (hm : a ∈ l) : ∀ s, P s → Q (each l f s) := by
  induction l with
  | nil => exact absurd hm List.not_mem_nil
  | cons x l ih =>
    intro s h
    rcases List.mem_cons.1 hm with rfl | hm
    · exact each_keeps hQ l (ha s h)
    · exact ih hm (f x s) (hP x s h)

/-- The four threads of a cluster. -/
def clusterOf (c : Nat) : List Nat := (List.range 4).map (fun k => 4 * c + k)

theorem mem_clusterOf {c m : Nat} : m ∈ clusterOf c ↔ m / 4 = c := by
  unfold clusterOf
  simp only [List.mem_map, List.mem_range]
  constructor
  · rintro ⟨k, hk, rfl⟩
    omega
  · exact fun h => ⟨m % 4, Nat.mod_lt _ (by decide), by omega⟩

/-- The abort of a span member goes to the other members. -/
def State.tellSpan (n : Nat) (s : State) : State :=
  when (s.inSpan n && !((s.thr n).abortsBy (s.beat.lbc + 1))) (State.spanPut (s.burstBeat n) 0 4 0 []) s

/-- The thread with its engine parked in beat `b`. -/
def Thread.parkedIn (b : Nat) (t : Thread) : Thread := { t with parked := true, ubeat := some b }

/-- A machine check stops a thread that is not idle: its engine parks and its site aborts. -/
def State.stopMember (n : Nat) (s : State) : State :=
  if s.idle n then s else ((s.tellSpan n).modThr n (Thread.parkedIn (s.tellSpan n).beat.lbc)).abortDue n 7

/-! ### The report (R163, R446) -/

/-- The injection is used up, the fault is on SEQ's line, and the copy is SUSPECT. -/
def State.reportCheck (c : Nat) (f : FaultRec) (err : W32) (s : State) : State :=
  (((s.performInjection c).raiseNow f).putBit SEQ_CS_STAT_SUSPECT c true).setReg .SEQ_CS_ERR c 0 err

/-- A damaged word makes the machine check one fault of class C2 in SEQ for the four sites. -/
theorem State.machineCheck_eq {s : State} {c : Nat} {y : Nat × Nat × Nat × Bool} {code : Nat}
    (h : (match (s.clusterReads c).find? (fun x => x.2.2.1 != 0) with
      | some x => some (x, 0x0101)
      | none => ((s.clusterReads c).find? (fun x => x.2.2.2)).map (fun x => (x, 0x0102))) = some (y, code)) :
    ∃ f err, s.machineCheck c = each (clusterOf c) State.stopMember (s.reportCheck c f err) ∧
      f.sub = 1 ∧ f.cls = 2 ∧ f.code = code ∧ f.mask = BitVec.ofNat 32 (15 * 16 ^ c) := by
  unfold State.machineCheck
  extract_lets l bad
  have hbad : bad = some (y, code) := h
  clear_value bad
  subst hbad
  dsimp only
  exact ⟨⟨1, 2, code, _, _, _, none⟩, _, rfl, rfl, rfl, rfl, rfl⟩

section
variable (s : State) (c : Nat)

theorem State.useInjection_rest : s.useInjection.seq = s.seq ∧ s.useInjection.hsk = s.hsk ∧ s.useInjection.beat = s.beat := by
  unfold State.useInjection
  split
  · exact ⟨rfl, rfl, rfl⟩
  · exact ⟨State.setReg_seq .., State.putBit_hsk .., State.putBit_beat ..⟩

/-- An injection performed leaves the threads, the error lines and the beat. -/
theorem State.performInjection_rest : (s.performInjection c).seq.thr = s.seq.thr ∧ (s.performInjection c).hsk = s.hsk ∧
    (s.performInjection c).beat = s.beat := by
  obtain ⟨hseq, hhsk, hbeat⟩ := s.useInjection_rest
  unfold State.performInjection
  split
  · exact ⟨show s.useInjection.seq.thr = _ by rw [hseq], hhsk, hbeat⟩
  · exact ⟨rfl, rfl, rfl⟩

/-- The report of a machine check leaves the threads and the beat; its fault goes to the end of the error lines. -/
theorem State.reportCheck_spec (f : FaultRec) (err : W32) : (s.reportCheck c f err).seq.thr = s.seq.thr ∧ (s.reportCheck c f err).beat = s.beat ∧
    (s.reportCheck c f err).hsk.lines = s.hsk.lines ++ [(s.beat.lbc, f)] ∧ (s.reportCheck c f err).bitOf SEQ_CS_STAT_SUSPECT c = true := by
  obtain ⟨hthr, hhsk, hbeat⟩ := s.performInjection_rest c
  unfold State.reportCheck
  generalize s.performInjection c = u at hthr hhsk hbeat ⊢
  refine ⟨?_, ?_, ?_, ?_⟩
  · rw [State.setReg_seq, State.putBit_seq]
    exact hthr
  · rw [State.setReg_beat, State.putBit_beat]
    exact hbeat
  · rw [State.setReg_hsk, State.putBit_hsk, ← hhsk, ← hbeat]
    rfl
  · unfold State.bitOf
    rw [State.reg_setReg_stem _ _ _ _ _ _ (by decide)]
    exact State.bitOf_putBit _ _ _ _ (by decide)

end

section
variable (s : State) (n : Nat)

theorem State.tellSpan_rest : (s.tellSpan n).seq.thr = s.seq.thr ∧ (s.tellSpan n).regs = s.regs ∧ (s.tellSpan n).hsk = s.hsk ∧
    (s.tellSpan n).beat = s.beat := by
  unfold State.tellSpan when
  split
  · exact ⟨rfl, rfl, rfl, rfl⟩
  · exact ⟨rfl, rfl, rfl, rfl⟩

theorem State.abortDue_rest (reason : Nat) : (s.abortDue n reason).regs = s.regs ∧ (s.abortDue n reason).hsk = s.hsk ∧
    (s.abortDue n reason).beat = s.beat := by
  unfold State.abortDue
  split
  · exact ⟨rfl, rfl, rfl⟩
  · exact ⟨rfl, rfl, rfl⟩

theorem State.abortDue_other {m : Nat} (h : m ≠ n) (reason : Nat) : (s.abortDue n reason).thr m = s.thr m := by
  unfold State.abortDue
  split
  · rfl
  · exact s.thr_modThr_other h _

/-- The abort of a thread that is not idle stands by the next beat, and is all that is new of the thread. -/
theorem State.abortDue_stands {s : State} {n : Nat} (h : s.idle n = false) (reason : Nat) :
    ((s.abortDue n reason).thr n).abortsBy (s.beat.lbc + 1) = true ∧ ∃ a, (s.abortDue n reason).thr n = { s.thr n with abortAt := a } := by
  unfold State.abortDue
  rw [h, Bool.false_or]
  split
  · next ha => exact ⟨ha, (s.thr n).abortAt, rfl⟩
  · rw [State.thr_modThr_same]
    exact ⟨decide_eq_true (Nat.le_refl _), _, rfl⟩

theorem State.stopMember_idle {s : State} {n : Nat} (h : s.idle n = true) : s.stopMember n = s := if_pos h

theorem State.stopMember_busy {s : State} {n : Nat} (h : s.idle n = false) :
    s.stopMember n = ((s.tellSpan n).modThr n (Thread.parkedIn (s.tellSpan n).beat.lbc)).abortDue n 7 := if_neg (by simp [h])

/-- The stop of a thread leaves the registers, the error lines and the beat. -/
theorem State.stopMember_rest : (s.stopMember n).regs = s.regs ∧ (s.stopMember n).hsk = s.hsk ∧ (s.stopMember n).beat = s.beat := by
  cases h : s.idle n with
  | true =>
    rw [State.stopMember_idle h]
    exact ⟨rfl, rfl, rfl⟩
  | false =>
    obtain ⟨-, hregs, hhsk, hbeat⟩ := s.tellSpan_rest n
    obtain ⟨hregs', hhsk', hbeat'⟩ := ((s.tellSpan n).modThr n (Thread.parkedIn (s.tellSpan n).beat.lbc)).abortDue_rest n 7
    rw [State.stopMember_busy h]
    exact ⟨hregs'.trans hregs, hhsk'.trans hhsk, hbeat'.trans hbeat⟩

theorem State.stopMember_other {m : Nat} (h : m ≠ n) : (s.stopMember n).thr m = s.thr m := by
  cases hi : s.idle n with
  | true => rw [State.stopMember_idle hi]
  | false =>
    obtain ⟨hthr, -⟩ := s.tellSpan_rest n
    rw [State.stopMember_busy hi, State.abortDue_other _ _ h, State.thr_modThr_other _ h, State.thr_congr hthr]

/-- A thread that is not idle is parked, and aborts by the next beat. -/
theorem State.stopMember_stops {s : State} {n : Nat} (h : s.idle n = false) : ((s.stopMember n).thr n).parked = true ∧
    ((s.stopMember n).thr n).abortsBy (s.beat.lbc + 1) = true ∧ ((s.stopMember n).thr n).st = (s.thr n).st := by
  obtain ⟨hthr, -, -, hbeat⟩ := s.tellSpan_rest n
  have hself := (s.tellSpan n).thr_modThr_same n (Thread.parkedIn (s.tellSpan n).beat.lbc)
  rw [State.thr_congr hthr] at hself
  have hbusy : ((s.tellSpan n).modThr n (Thread.parkedIn (s.tellSpan n).beat.lbc)).idle n = false := by
    unfold State.idle at h ⊢
    rw [hself]
    exact h
  obtain ⟨hab, a, ha⟩ := State.abortDue_stands hbusy 7
  rw [State.stopMember_busy h]
  refine ⟨by rw [ha, hself]; rfl, ?_, by rw [ha, hself]; rfl⟩
  rw [← hbeat]
  exact hab

/-- A thread stopped in beat `b`: it is not idle, its engine is parked, and its site aborts by the next beat. -/
structure State.StoppedIn (b m : Nat) (s : State) : Prop where
  beat : s.beat.lbc = b
  busy : s.idle m = false
  parked : (s.thr m).parked = true
  aborts : (s.thr m).abortsBy (b + 1) = true

/-- The stop of the threads of a cluster stops those of them that are not idle. -/
theorem State.stopMembers_stops {m b : Nat} {l : List Nat} (hm : m ∈ l) (s : State) (hb : s.beat.lbc = b) (h : s.idle m = false) :
    (each l State.stopMember s).StoppedIn b m := by
  have hother {k : Nat} {t : State} (hk : m ≠ k) : (t.stopMember k).thr m = t.thr m := t.stopMember_other k hk
  have hbeat (k : Nat) (t : State) : (t.stopMember k).beat.lbc = t.beat.lbc := by
    obtain ⟨-, -, hb⟩ := t.stopMember_rest k
    rw [hb]
  have hidle {k : Nat} {t : State} (ht : t.idle m = false) : (t.stopMember k).idle m = false := by
    unfold State.idle at ht ⊢
    by_cases hk : m = k
    · subst hk
      rw [(State.stopMember_stops ht).2.2]
      exact ht
    · rw [hother hk]
      exact ht
  have hstops {t : State} (htb : t.beat.lbc = b) (hti : t.idle m = false) : (t.stopMember m).StoppedIn b m := by
    obtain ⟨hparked, habort, -⟩ := State.stopMember_stops hti
    exact ⟨(hbeat m t).trans htb, hidle hti, hparked, htb ▸ habort⟩
  refine each_reaches_from (P := fun t : State => t.beat.lbc = b ∧ t.idle m = false) (Q := State.StoppedIn b m) (fun k t ht => ?_) (fun k t ht => ?_)
    (fun t ht => ?_) hm s ⟨hb, h⟩
  · obtain ⟨htb, hti⟩ := ht
    exact ⟨(hbeat k t).trans htb, hidle hti⟩
  · by_cases hk : m = k
    · subst hk
      exact hstops ht.beat ht.busy
    · exact ⟨(hbeat k t).trans ht.beat, hidle ht.busy, by rw [hother hk]; exact ht.parked, by rw [hother hk]; exact ht.aborts⟩
  · obtain ⟨htb, hti⟩ := ht
    exact hstops htb hti

/-- A thread outside the cluster, and one that is idle, stays as it was. -/
theorem State.stopMembers_kept {m : Nat} {l : List Nat} (s : State) (h : m ∉ l ∨ s.idle m = true) : (each l State.stopMember s).thr m = s.thr m := by
  refine each_keeps_mem (P := fun t : State => t.thr m = s.thr m) l (fun k hk t ht => ?_) s rfl
  by_cases e : m = k
  · subst e
    have hidle : t.idle m = true := by
      unfold State.idle
      rw [ht]
      exact h.resolve_left fun hn => hn hk
    rw [State.stopMember_idle hidle, ht]
  · rw [State.stopMember_other _ _ e, ht]

theorem State.stopMembers_rest (l : List Nat) : (each l State.stopMember s).regs = s.regs ∧ (each l State.stopMember s).hsk = s.hsk :=
  each_keeps (P := fun t : State => t.regs = s.regs ∧ t.hsk = s.hsk) (fun k t ht => by
    obtain ⟨hregs, hhsk, -⟩ := t.stopMember_rest k
    obtain ⟨hr, hh⟩ := ht
    exact ⟨hregs.trans hr, hhsk.trans hh⟩) l ⟨rfl, rfl⟩

end

/-! ### What a machine check leaves -/

/-- A machine check of cluster `c` in state `s` leaves `v`: the copy is SUSPECT, its fault is on SEQ's line, and of the threads those of the
cluster that are not idle are stopped. -/
def State.Checked (c code : Nat) (s v : State) : Prop :=
  v.bitOf SEQ_CS_STAT_SUSPECT c = true ∧ ∃ f : FaultRec, v.hsk.lines = s.hsk.lines ++ [(s.beat.lbc, f)] ∧ f.sub = 1 ∧ f.cls = 2 ∧
    f.code = code ∧ f.mask = BitVec.ofNat 32 (15 * 16 ^ c) ∧
    ∀ m : Fin 32, (m.val / 4 = c → s.idle m.val = false → (v.thr m.val).parked = true ∧ (v.thr m.val).abortsBy (s.beat.lbc + 1) = true) ∧
      (m.val / 4 ≠ c ∨ s.idle m.val = true → v.thr m.val = s.thr m.val)

theorem State.machineCheck_checked {s : State} {c : Nat} {y : Nat × Nat × Nat × Bool} {code : Nat}
    (h : (match (s.clusterReads c).find? (fun x => x.2.2.1 != 0) with
      | some x => some (x, 0x0101)
      | none => ((s.clusterReads c).find? (fun x => x.2.2.2)).map (fun x => (x, 0x0102))) = some (y, code)) :
    State.Checked c code s (s.machineCheck c) := by
  obtain ⟨f, err, heq, hsub, hcls, hcode, hmask⟩ := State.machineCheck_eq h
  obtain ⟨hthr, hbeat, hlines, hsuspect⟩ := s.reportCheck_spec c f err
  obtain ⟨hregs, hhsk⟩ := (s.reportCheck c f err).stopMembers_rest (clusterOf c)
  have hidle (m : Nat) : (s.reportCheck c f err).idle m = s.idle m := by
    unfold State.idle
    rw [State.thr_congr hthr]
  rw [heq]
  refine ⟨?_, f, by rw [hhsk, hlines], hsub, hcls, hcode, hmask, fun m => ⟨fun hm hi => ?_, fun hk => ?_⟩⟩
  · unfold State.bitOf State.reg at hsuspect ⊢
    rw [hregs]
    exact hsuspect
  · have hstop := State.stopMembers_stops (mem_clusterOf.2 hm) _ (congrArg Beat.lbc hbeat) ((hidle m).trans hi)
    exact ⟨hstop.parked, hstop.aborts⟩
  · rw [State.stopMembers_kept _ (hk.imp (fun hne hmem => hne (mem_clusterOf.1 hmem)) (hidle m).trans), State.thr_congr hthr]

/-- A word whose parity fails is reported before an illegal one. -/
theorem State.machineCheck_parity {s : State} {c : Nat} (h : (s.clusterReads c).any (fun x => x.2.2.1 != 0) = true) :
    State.Checked c 0x0101 s (s.machineCheck c) := by
  obtain ⟨y, hy⟩ := Option.isSome_iff_exists.1 ((List.find?_isSome).2 (List.any_eq_true.1 h))
  exact State.machineCheck_checked (y := y) (by rw [hy])

theorem State.machineCheck_illegal {s : State} {c : Nat} (hp : (s.clusterReads c).any (fun x => x.2.2.1 != 0) = false)
    (h : (s.clusterReads c).any (fun x => x.2.2.2) = true) : State.Checked c 0x0102 s (s.machineCheck c) := by
  obtain ⟨y, hy⟩ := Option.isSome_iff_exists.1 ((List.find?_isSome).2 (List.any_eq_true.1 h))
  have hnone : (s.clusterReads c).find? (fun x => x.2.2.1 != 0) = none :=
    List.find?_eq_none.2 fun x hx => by simpa using List.any_eq_false.1 hp x hx
  exact State.machineCheck_checked (y := y) (by rw [hnone, hy]; rfl)

/-! ### The obligation -/

/-- Settles O53: one equation for each micro-op, and what a machine check leaves of the four threads of its cluster. That the words
of parked engines are not met is the model's choice (log entry 101). -/
theorem itemMicroOpsAct : Obligations.ItemMicroOpsAct := by
  unfold Obligations.ItemMicroOpsAct
  intro x s0
  refine ⟨exec_grSet, exec_grAdd, exec_mkSet, exec_sofSet, fun h => ⟨exec_pqPush_full h, exec_pqPush_none h, fun i hq hi => ?_⟩,
    fun h => ⟨exec_haltQ_full h, exec_haltQ h⟩, fun h => ⟨exec_arm_full h, fun _ => exec_arm h⟩,
    fun h => ⟨exec_armTo_none h, exec_armTo_full h, fun _ h0 hp => exec_armTo h h0 hp⟩, fun c hc hr hread => ?_, fun hr hread => ?_⟩
  · obtain ⟨v, e, hv, he⟩ := exec_pqPush_pushed h hq hi
    refine ⟨v, hv, he.serial, he.pendPad, e, he.queue, he.kind, he.id, he.timeoutPad, fun hj hs => he.takes ?_, fun hk => he.leaves ?_⟩
    · simp [ItemKind.marked, hj, hs]
    · rcases hk with hk | hk <;> simp [ItemKind.marked, hk]
  · obtain ⟨f, hf⟩ := exec_microOp hc
    exact (hf s0).trans (congrArg _ (State.micro_unread hr _ f hread))
  · have hall (hd : (s0.clusterReads (x.val / 4)).any (fun c => c.2.2.1 != 0 || c.2.2.2) = true) (c) (hc : c ∈ microOps x) :
        exec c.1 s0 = .next (s0.machineCheck (x.val / 4)) := by
      obtain ⟨f, hf⟩ := exec_microOp hc
      exact (hf s0).trans (congrArg _ (State.micro_damaged hr _ f hread hd))
    refine ⟨fun hp => ⟨_, hall ?_, State.machineCheck_parity hp⟩, fun hp hi => ⟨_, hall ?_, State.machineCheck_illegal hp hi⟩⟩
    · obtain ⟨y, hy, hbad⟩ := List.any_eq_true.1 hp
      exact List.any_eq_true.2 ⟨y, hy, by rw [hbad]; rfl⟩
    · obtain ⟨y, hy, hbad⟩ := List.any_eq_true.1 hi
      exact List.any_eq_true.2 ⟨y, hy, by rw [hbad, Bool.or_true]⟩

end Sys2Proof.Machine
end

section
/-! PROOFS. What a thread's decisions, and the release of its item, leave of the other threads, the groups and the span (R174, R180, R192,
R198). -/

namespace Sys2Proof.Machine

/-- From `s` to `t` thread `n` alone has changed, and not its state: the other threads, the groups, the span and the beat are as they
were. -/
structure State.Within (n : Nat) (s t : State) : Prop where
  others (m : Nat) (h : m ≠ n) : t.thr m = s.thr m
  st : (t.thr n).st = (s.thr n).st
  groups : t.seq.groups = s.seq.groups
  span : t.seq.span = s.seq.span
  beat : t.beat = s.beat

section
variable {n : Nat}

theorem State.Within.refl (s : State) : s.Within n s := ⟨fun _ _ => rfl, rfl, rfl, rfl, rfl⟩

theorem State.Within.trans {r s t : State} (h : r.Within n s) (k : s.Within n t) : r.Within n t :=
  ⟨fun m hm => (k.others m hm).trans (h.others m hm), k.st.trans h.st, k.groups.trans h.groups, k.span.trans h.span, k.beat.trans h.beat⟩

theorem State.Within.of_seq {s t : State} (h : t.seq = s.seq) (hb : t.beat = s.beat) : s.Within n t :=
  ⟨fun m _ => State.thr_congr (congrArg Pattern.thr h) m, congrArg Thread.st (State.thr_congr (congrArg Pattern.thr h) n), congrArg Pattern.groups h,
    congrArg Pattern.span h, hb⟩

theorem State.Within.modThr (s : State) {f : Thread → Thread} (h : (f (s.thr n)).st = (s.thr n).st) : s.Within n (s.modThr n f) :=
  ⟨fun _ hm => s.thr_modThr_other hm f, by rw [State.thr_modThr_same, h], rfl, rfl, rfl⟩

theorem State.Within.modPip (s : State) (ch : Nat) (f : Pip → Pip) : s.Within n (s.modPip ch f) := ⟨fun _ _ => rfl, rfl, rfl, rfl, rfl⟩

theorem State.Within.setReg (s : State) (st : Stem) (i w : Nat) (v : W32) : s.Within n (s.setReg st i w v) := State.Within.of_seq rfl rfl

theorem State.Within.putBit (s : State) (f : Field) (i : Nat) (b : Bool) : s.Within n (s.putBit f i b) := State.Within.setReg s ..

theorem State.Within.event (s : State) (e : Nat) : s.Within n (s.event e) := State.Within.of_seq (s.event_seq e) (s.event_beat e)

theorem State.Within.each {α : Type} {f : α → State → State} (hf : ∀ x (t : State), t.Within n (f x t)) (l : List α) (s : State) :
    s.Within n (each l f s) :=
  each_keeps (P := s.Within n) (fun x t h => h.trans (hf x t)) l (State.Within.refl s)

theorem State.Within.when {f : State → State} (hf : ∀ t : State, t.Within n (f t)) (c : Bool) (s : State) : s.Within n (when c f s) := by
  unfold Machine.when
  split
  · exact hf s
  · exact State.Within.refl s

theorem State.Within.setPad (s : State) (i : Nat) (p : Pad) : s.Within n (s.setPad n i p) := State.Within.modThr s rfl

theorem State.Within.clearSlot (s : State) (k : Nat) : s.Within n (s.clearSlot n k) := by
  unfold State.clearSlot State.setSlot
  exact State.Within.modThr s rfl

theorem State.Within.disarmAll (s : State) : s.Within n (s.disarmAll n) := State.Within.each (fun i t => State.Within.setPad t i _) _ s

theorem State.Within.slide (s : State) : s.Within n (s.slide n) := State.Within.modThr s rfl

/-! ### Pads armed and taken (R175, R180) -/

theorem State.Within.newPass (s : State) (item seg first passNo : Nat) (linked replay : Bool) :
    s.Within n (s.newPass n item seg first passNo linked replay).2 := by
  unfold State.newPass
  exact State.Within.modThr s (f := fun t => { t with passNo := t.passNo + 1, locks := if t.locks.contains seg then t.locks else t.locks ++ [seg] }) rfl

theorem State.Within.padChain (it : Item) (k : Nat) : ∀ (seg first passNo : Nat) (linked : Bool) (rows : Nat) (s : State),
    s.Within n (State.padChain n it seg first passNo linked rows k s).2.2 := by
  induction k with
  | zero => exact fun _ _ _ _ _ s => State.Within.refl s
  | succ k ih =>
    intro seg first passNo linked rows s
    have hnew := State.Within.newPass (n := n) s it.id seg first passNo linked false
    unfold State.padChain
    extract_lets r q own
    split
    · exact hnew
    · split
      · exact hnew.trans (ih ..)
      · exact hnew

theorem State.Within.fillPad (s : State) (i : Nat) (pad old : Pad) (it : Item) : s.Within n (s.fillPad n i pad old it) := by
  unfold State.fillPad
  extract_lets t q s₁
  split
  · exact (State.Within.setPad s i _).trans (State.Within.modThr _ rfl)
  · have hchain : s.Within n q.2.2 := State.Within.padChain it _ _ _ _ _ _ s
    have hpaid : q.2.2.Within n s₁ := State.Within.of_seq rfl rfl
    exact (hchain.trans hpaid).trans (State.Within.setPad s₁ i _)

theorem State.Within.armPad (s : State) (i target pc : Nat) (timeout : Bool) (w : W64) : s.Within n (s.armPad n i target pc timeout w) := by
  unfold State.armPad
  extract_lets t pi covered begun pad old s₁
  have hserial : s.Within n s₁ := State.Within.modThr s rfl
  split
  · have hparked : s.Within n (s.modThr n fun t => { t with parked := true }) := State.Within.modThr s rfl
    exact hparked.trans (State.Within.of_seq rfl rfl)
  · split
    · exact hserial.trans (State.Within.setPad s₁ i _)
    · split
      · exact hserial.trans (State.Within.setPad s₁ i _)
      · exact hserial.trans (State.Within.fillPad s₁ i _ _ _)

theorem State.Within.restore (s : State) (i : Nat) : s.Within n (s.restore n i) := by
  unfold State.restore
  extract_lets p s₁ used
  have hgrs : s.Within n s₁ := State.Within.each (fun x t => State.Within.setReg t ..) _ s
  exact (hgrs.trans (State.Within.modThr s₁ rfl)).trans (State.Within.slide _)

theorem State.Within.placeLanding (s : State) (i : Nat) : s.Within n (s.placeLanding n i) := by
  cases hl : (s.pad n i).landing with
  | none =>
    rw [State.placeLanding_none hl]
    exact State.Within.refl s
  | some it =>
    have hplaced : s.Within n (s.withLanding n i it) := by
      unfold State.withLanding
      exact (State.Within.setPad s i _).trans (State.Within.modThr _ rfl)
    rw [State.placeLanding_some hl]
    cases s.ownTimeout n i it with
    | none => exact hplaced
    | some j => exact hplaced.trans (State.Within.armPad ..)

theorem State.Within.takePad (s : State) (i : Nat) (no : Option Origin) : s.Within n (s.takePad n i no) := by
  have hrestored : s.Within n (s.padRestored n i) := by
    unfold State.padRestored
    exact (((State.Within.when (fun t => State.Within.clearSlot t _) _ s).trans (State.Within.disarmAll _)).trans (State.Within.restore _ i)).trans
      (State.Within.placeLanding _ i)
  rw [State.takePad_eq]
  generalize s.padRestored n i = u at hrestored ⊢
  exact hrestored.trans (State.Within.modThr u rfl)

/-! ### The decision of a beat (R173, R174) -/

theorem State.Within.requestEnds (s : State) (e : Nat) (l : List Nat) (stop : Bool) : s.Within n (s.requestEnds n e l stop) :=
  (State.Within.each (fun _ t => State.Within.modThr t rfl) l s).trans (State.Within.when (fun t => State.Within.modThr t rfl) stop _)

theorem State.Within.decideWait (s : State) (d : Nat) (t : Thread) : s.Within n (s.decideWait n d t) := by
  unfold State.decideWait
  split
  · exact State.Within.refl s
  · next it _ =>
    split
    · exact (State.Within.clearSlot s it.slot).trans (State.Within.modThr _ rfl)
    · exact State.Within.refl s

/-- In a beat in which a decision stands there is no other. -/
theorem State.decideBeat_or_open (s : State) (n : Nat) : s.decideBeat n = s ∨ s.Open n := by
  by_cases h : s.issuing n = false ∨ (s.thr n).abortsBy (s.beat.lbc + 1) = true ∨ (s.thr n).taken.isSome = true ∨ (s.thr n).stopAt.isSome = true
  · exact Or.inl (State.decideBeat_idle h)
  · simp only [not_or, Bool.not_eq_false, Bool.not_eq_true, Option.isSome_eq_false_iff, Option.isNone_iff_eq_none] at h
    obtain ⟨hissuing, habort, htaken, hstop⟩ := h
    exact Or.inr ⟨hissuing, habort, htaken, hstop⟩

theorem State.Within.decideBeat (s : State) : s.Within n (s.decideBeat n) := by
  rcases s.decideBeat_or_open n with h | h
  · rw [h]
    exact State.Within.refl s
  · have hseen : s.Within n (s.modThr n (Thread.withoutFails s.beat.lbc)) := State.Within.modThr s rfl
    rw [h.decideBeat_eq]
    dsimp only
    split
    · exact hseen.trans (State.Within.modThr _ rfl)
    · split
      · exact hseen.trans (State.Within.takePad ..)
      · exact (hseen.trans (State.Within.requestEnds ..)).trans (State.Within.decideWait ..)

/-! ### The limit of an item (R146, R174) -/

theorem State.thr_undecided {s t : State} {m : Nat} (h : t.thr m = s.thr m) (hb : t.beat = s.beat) : t.undecided m = s.undecided m := by
  unfold State.undecided State.issuing
  rw [h, hb]

theorem State.thr_headItem {s t : State} {m : Nat} (h : t.thr m = s.thr m) (hb : t.beat = s.beat) : t.headItem m = s.headItem m := by
  unfold State.headItem
  rw [h, hb]

theorem State.taken_of_undecided {s : State} {n : Nat} (h : s.undecided n = true) : (s.thr n).taken = none := by
  simp only [State.undecided, Bool.and_eq_true, Option.isNone_iff_eq_none] at h
  obtain ⟨⟨⟨⟨-, htaken⟩, -⟩, -⟩, -⟩ := h
  exact htaken

theorem State.takePad_isSome (s : State) (n i : Nat) (no : Option Origin) : ((s.takePad n i no).thr n).taken.isSome = true := by
  rw [State.takePad_eq, State.thr_modThr_same]
  rfl

section
variable {s : State} {k : ItemKind} {it : Item} (hit : s.headItem n = some it)
include hit

/-- Before its limit an item stays. -/
theorem State.expireItem_early (h : it.kind = k → ∀ e, (s.thr n).expires it = some e → s.beat.lbc + 1 < e) : s.expireItem n k = s := by
  unfold State.expireItem
  rw [hit]
  refine if_pos ?_
  by_cases hk : it.kind = k
  · cases hx : (s.thr n).expires it with
    | none => simp [hx]
    | some e => simp [hx, h hk e hx]
  · simp [hk]

/-- At the limit of an item the other decisions of the beat come first; where they leave its timeout, its pad is taken. -/
theorem State.expireItem_due {i e : Nat} (hi : s.issuing n = true) (hk : it.kind = k) (hp : it.timeoutPad = some i)
    (hx : (s.thr n).expires it = some e) (he : e ≤ s.beat.lbc + 1) :
    s.expireItem n k = if (s.decideBeat n).undecided n then (s.decideBeat n).takePad n i none else s.decideBeat n := by
  unfold State.expireItem
  rw [hit]
  dsimp only
  rw [hx, hk, hi]
  dsimp only
  rw [if_neg (by cases k <;> simp [he])]
  cases hu : (s.decideBeat n).undecided n with
  | true =>
    rw [State.decideBeat_headItem s n (State.taken_of_undecided hu), hit]
    simp [hp]
  | false =>
    simp only [Bool.false_eq_true, if_false]
    split <;> rfl

end

/-! ### The release of an item (R80, R192, R198) -/

theorem State.Within.itemOver (s : State) (it : Item) : s.Within n (s.itemOver n it) := by
  delta State.itemOver
  extract_lets t b late s₁ s₂
  have hleft : s.Within n s₁ := State.Within.modThr s rfl
  have hdropped : s₁.Within n s₂ := State.Within.each (fun i t => (State.Within.putBit t ..).trans (State.Within.setPad _ i _)) _ _
  refine (hleft.trans hdropped).trans (State.Within.each (fun i t => ?_) _ _)
  dsimp only
  split
  · split
    · exact State.Within.setPad t i _
    · exact State.Within.refl t
  · split
    · exact State.Within.refl t
    · split
      · exact State.Within.setPad t i _
      · exact State.Within.setPad t i _

theorem State.Within.release (s : State) (at_ : Nat) : s.Within n (s.release n at_) := by
  unfold State.release
  extract_lets t gone s₁ s₂
  have hcut : s.Within n s₁ := State.Within.each (fun ch t => State.Within.modPip t ch _) _ s
  have hover : s₁.Within n s₂ := by
    show s₁.Within n (match t.queue.head? with | some it => s₁.itemOver n it | none => s₁)
    split
    · exact State.Within.itemOver s₁ _
    · exact State.Within.refl s₁
  exact (hcut.trans hover).trans (State.Within.modThr s₂ rfl)

theorem State.release_next (s : State) (n at_ : Nat) : ((s.release n at_).thr n).next = at_ := by
  unfold State.release
  extract_lets t gone s₁ s₂
  rw [State.thr_modThr_same]

end

end Sys2Proof.Machine
end

section
/-! PROOFS. JOIN_RELEASE and JOIN_TIMEOUT (R192, R193). -/

namespace Sys2Proof.Machine

/-! ### The release of a group (R192) -/

/-- Every thread starts its next vector when it did. -/
def State.NextSame (s t : State) : Prop := ∀ m, (t.thr m).next = (s.thr m).next

theorem State.NextSame.trans {r s t : State} (h : r.NextSame s) (k : s.NextSame t) : r.NextSame t := fun m => (k m).trans (h m)

theorem State.NextSame.modThr (s : State) (n : Nat) {f : Thread → Thread} (h : ∀ t, (f t).next = t.next) : s.NextSame (s.modThr n f) := by
  intro m
  by_cases e : m = n
  · subst e
    rw [State.thr_modThr_same, h]
  · rw [State.thr_modThr_other _ e]

theorem State.NextSame.each {α : Type} {f : α → State → State} (hf : ∀ x (t : State), t.NextSame (f x t)) (l : List α) (s : State) :
    s.NextSame (each l f s) :=
  each_keeps (P := s.NextSame) (fun x t h => h.trans (hf x t)) l (fun _ => rfl)

theorem State.NextSame.alignItems (s : State) (l : List Nat) : s.NextSame (s.alignItems l) := by
  unfold State.alignItems
  exact State.NextSame.each (fun m t => State.NextSame.modThr t m (f := Thread.renumber _) fun _ => rfl) l s

theorem State.NextSame.rejoin (s : State) (a m : Nat) : s.NextSame (s.rejoin a m) := by
  unfold State.rejoin
  exact State.NextSame.modThr s m fun _ => rfl

theorem State.group_modGroup (s : State) (g : Nat) (f : Group → Group) : (s.modGroup g f).group g = f (s.group g) := Tab.get_set_same _ _ _ _

/-- The members of a JOIN leave it, each with its split undone. -/
def State.releaseAll (l : List Nat) (s : State) : State := each l (fun m s => (s.release m s.now).putBit SEQ_BR_STAT_SPLIT m false) s

/-- Every thread of the list has its next start at the boundary. -/
theorem State.releaseAll_next (s : State) {l : List Nat} {m : Nat} (hm : m ∈ l) : ((s.releaseAll l).thr m).next = s.now := by
  have hstep (k : Nat) (t : State) : t.Within k ((t.release k t.now).putBit SEQ_BR_STAT_SPLIT k false) :=
    (State.Within.release t t.now).trans (State.Within.putBit ..)
  have hown (t : State) : (((t.release m t.now).putBit SEQ_BR_STAT_SPLIT m false).thr m).next = t.now := by
    rw [State.thr_congr (congrArg Pattern.thr (State.putBit_seq ..)), State.release_next]
  have hnow {t : State} (ht : t.beat = s.beat) : t.now = s.now := by
    unfold State.now
    rw [ht]
  refine (each_reaches_from (P := fun t : State => t.beat = s.beat) (Q := fun t : State => t.beat = s.beat ∧ (t.thr m).next = s.now)
    (fun k t ht => (hstep k t).beat.trans ht) (fun k t ht => ?_) (fun t ht => ⟨(hstep m t).beat.trans ht, (hown t).trans (hnow ht)⟩) hm s rfl).2
  obtain ⟨hb, hn⟩ := ht
  refine ⟨(hstep k t).beat.trans hb, ?_⟩
  by_cases e : m = k
  · subst e
    exact (hown t).trans (hnow hb)
  · rw [(hstep k t).others m e, hn]

/-- A JOIN released: every member's next start is the boundary, and no member is split. -/
theorem State.releaseJoin_whole (s : State) (g : Nat) :
    (∀ m ∈ (s.group g).members, ((s.releaseJoin g).thr m).next = s.now) ∧ ((s.releaseJoin g).group g).splits = [] := by
  unfold State.releaseJoin
  extract_lets gr s₁ s₂ a
  refine ⟨fun m hm => ?_, ?_⟩
  · have haligned : s₁.NextSame s₂ := State.NextSame.alignItems s₁ gr.members
    have hrejoined : s₂.NextSame (each (gr.splits.filter (· != a)) (State.rejoin a) s₂) :=
      State.NextSame.each (fun k t => State.NextSame.rejoin t a k) _ s₂
    exact ((haligned.trans hrejoined) m).trans (s.releaseAll_next hm)
  · rw [State.group_modGroup]
    rfl

section
variable {s : State} (hr : s.running = true) {g : Fin 8} {m0 : Nat} {it : Item} (hm0 : (s.group g.val).members.head? = some m0)
  (hit : s.headItem m0 = some it)
include hr hm0 hit

/-- JOIN_RELEASE by what its first member waits at. -/
theorem exec_joinRelease : let ms := (s.group g.val).members
    exec (.joinRelease g) s = .next (if it.kind = .join ∧ (s.joined g.val it.pi).length = ms.length ∧
      ms.foldl (fun a m => max a ((s.thr m).arrived.getD 0)) 0 + 2 ≤ s.beat.lbc then s.releaseJoin g.val else s) := by
  refine (done_live hr _).trans (congrArg _ ?_)
  simp only [hm0, Option.bind_some, hit]

end

/-! ### The limit of a JOIN (R174, R193) -/

/-- A thread that waits at a JOIN leaves for its timeout target, where no other decision takes it elsewhere. -/
def State.leaveJoin (base m : Nat) (s : State) : State :=
  match (s.headItem m).bind Item.timeoutPad with
  | some i =>
    (if s.undecided m then ((s.modThr m fun t => { t with serial := base }).takePad m i none).event (848 + 4 * m + 3) else s).putBit
      SEQ_BR_STAT_SPLIT m false
  | none => s

theorem State.Within.leaveJoin (s : State) (base m : Nat) : s.Within m (s.leaveJoin base m) := by
  unfold State.leaveJoin
  split
  · split
    · exact (((State.Within.modThr s rfl).trans (State.Within.takePad ..)).trans (State.Within.event ..)).trans (State.Within.putBit ..)
    · exact State.Within.putBit ..
  · exact State.Within.refl s

/-- A pad taken is not taken again. -/
theorem State.leaveJoin_decided {s : State} {m : Nat} (h : (s.thr m).taken.isSome = true) (base : Nat) : (s.leaveJoin base m).thr m = s.thr m := by
  have hu : s.undecided m = false := Bool.eq_false_iff.2 fun e => by
    rw [State.taken_of_undecided e] at h
    exact absurd h (by decide)
  unfold State.leaveJoin
  rw [hu]
  split
  · exact State.thr_congr (congrArg Pattern.thr (State.putBit_seq ..)) m
  · rfl

theorem State.leaveJoin_takes {s : State} {m : Nat} (hu : s.undecided m = true) (hp : ((s.headItem m).bind Item.timeoutPad).isSome = true)
    (base : Nat) : ((s.leaveJoin base m).thr m).taken.isSome = true := by
  obtain ⟨i, hi⟩ := Option.isSome_iff_exists.1 hp
  unfold State.leaveJoin
  rw [hi, hu]
  dsimp only
  rw [if_pos rfl, State.thr_congr (congrArg Pattern.thr (State.putBit_seq ..)), State.thr_congr (congrArg Pattern.thr (State.event_seq ..))]
  exact State.takePad_isSome ..

/-- The threads that wait leave one after another. -/
def State.leaveAll (base : Nat) (l : List Nat) (s : State) : State := each l (State.leaveJoin base) s

theorem State.leaveAll_groups (s : State) (base : Nat) (l : List Nat) : (s.leaveAll base l).seq.groups = s.seq.groups :=
  each_keeps (P := fun t : State => t.seq.groups = s.seq.groups) (fun m t ht => (State.Within.leaveJoin t base m).groups.trans ht) l rfl

/-- A thread that no decision takes elsewhere leaves for its timeout target, whatever the others do. -/
theorem State.leaveAll_takes {s : State} {l : List Nat} {m : Nat} (hm : m ∈ l) (hu : s.undecided m = true)
    (hp : ((s.headItem m).bind Item.timeoutPad).isSome = true) (base : Nat) : ((s.leaveAll base l).thr m).taken.isSome = true := by
  have htaken (k : Nat) (t : State) (ht : (t.thr m).taken.isSome = true) : ((t.leaveJoin base k).thr m).taken.isSome = true := by
    by_cases e : m = k
    · subst e
      rwa [State.leaveJoin_decided ht]
    · rwa [(State.Within.leaveJoin t base k).others m e]
  have htakes {t : State} (ht : t.thr m = s.thr m) (hb : t.beat = s.beat) : ((t.leaveJoin base m).thr m).taken.isSome = true :=
    State.leaveJoin_takes ((State.thr_undecided ht hb).trans hu) (by rwa [State.thr_headItem ht hb]) base
  refine each_reaches_from (P := fun t : State => (t.thr m).taken.isSome = true ∨ (t.thr m = s.thr m ∧ t.beat = s.beat))
    (Q := fun t : State => (t.thr m).taken.isSome = true) (fun k t ht => ?_) htaken (fun t ht => ?_) hm s (Or.inr ⟨rfl, rfl⟩)
  · rcases ht with ht | ⟨ht, hb⟩
    · exact Or.inl (htaken k t ht)
    · have hin := State.Within.leaveJoin t base k
      by_cases e : m = k
      · subst e
        exact Or.inl (htakes ht hb)
      · exact Or.inr ⟨(hin.others m e).trans ht, hin.beat.trans hb⟩
  · rcases ht with ht | ⟨ht, hb⟩
    · exact htaken m t ht
    · exact htakes ht hb

/-- Those that leave a JOIN by its timeout are the group from then on. -/
theorem State.expireJoin_group {s : State} {n g : Nat} (hg : s.memberOf n = some g) (l : List Nat) :
    ((s.expireJoin n l).group g).members = l ∧ ((s.expireJoin n l).group g).splits = [] ∧
    ∀ m ∈ l, s.undecided m = true → ((s.headItem m).bind Item.timeoutPad).isSome = true → ((s.expireJoin n l).thr m).taken.isSome = true := by
  unfold State.expireJoin
  extract_lets base s₁
  have hleft : s₁ = s.leaveAll base l := rfl
  clear_value s₁ base
  subst hleft
  rw [State.memberOf_congr (s.leaveAll_groups base l), hg]
  dsimp only
  rw [State.group_modGroup]
  exact ⟨rfl, rfl, fun m hm hu hp => State.leaveAll_takes hm hu hp base⟩

section
variable {s : State} (hr : s.running = true) {x : Fin 32} {it : Item} (hit : s.headItem x.val = some it)
include hr hit

theorem exec_joinTimeout : exec (.joinTimeout x) s = .next (
    if !(it.kind == .join) || !(match (s.thr x.val).expires it with | some e => decide (e ≤ s.beat.lbc + 1) | none => false) ||
      (s.thr x.val).taken.isSome || !(s.issuing x.val) || s.allWait x.val it then s
    else
      let u := each (s.waitingWith x.val it) State.decideBeat s
      if u.undecided x.val then u.expireJoin x.val (s.waitingWith x.val it) else u) := by
  refine (done_live hr _).trans (congrArg _ ?_)
  unfold State.endJoin
  rw [hit] <;> rfl

/-- Nothing happens at a JOIN whose limit has not come, or that all have reached. -/
theorem exec_joinTimeout_stays (h : it.kind ≠ .join ∨ (s.thr x.val).expires it = none ∨ s.issuing x.val = false ∨ s.allWait x.val it = true) :
    exec (.joinTimeout x) s = .next s := by
  refine (exec_joinTimeout hr hit).trans (congrArg _ (if_pos ?_))
  rcases h with h | h | h | h <;> simp [h]

/-- At the limit of one of them, those that wait at a JOIN which not all have reached take the decisions of the beat, and then leave. -/
theorem exec_joinTimeout_due {g e : Nat} (hk : it.kind = .join) (hx : (s.thr x.val).expires it = some e) (he : e ≤ s.beat.lbc + 1)
    (ht : (s.thr x.val).taken = none) (hi : s.issuing x.val = true) (hg : s.memberOf x.val = some g)
    (hl : (s.joined g it.pi).length ≠ (s.group g).members.length) : exec (.joinTimeout x) s = .next (
      let u := each (s.joined g it.pi) State.decideBeat s
      if u.undecided x.val then u.expireJoin x.val (s.joined g it.pi) else u) := by
  have hwait : s.waitingWith x.val it = s.joined g it.pi := by
    unfold State.waitingWith
    rw [hg]
  have hall : s.allWait x.val it = false := by
    unfold State.allWait
    rw [hg]
    exact decide_eq_false hl
  refine (exec_joinTimeout hr hit).trans (congrArg _ ((if_neg ?_).trans ?_))
  · simp [hk, hx, he, ht, hi, hall]
  · rw [hwait]

end

theorem State.decideAll_groups (s : State) (l : List Nat) : (each l State.decideBeat s).seq.groups = s.seq.groups :=
  each_keeps (P := fun t : State => t.seq.groups = s.seq.groups) (fun _ t ht => (State.Within.decideBeat t).groups.trans ht) l rfl

end Sys2Proof.Machine
end

section
/-! PROOFS. SPANSYNC, the frames of a span and its links (R194, R196 to R200). -/

namespace Sys2Proof.Machine

/-! ### SPANSYNC_TIMEOUT of threads in no span (R146; log entry 83) -/

/-- Where one entry of a list is the only one whose change is not empty, before it and after it, its change is all of them. -/
theorem each_one {α : Type} {f : α → State → State} {a : α} {s : State} {l : List α} (hbefore : ∀ y ∈ l, y ≠ a → f y s = s)
    (hafter : ∀ y ∈ l, y ≠ a → f y (f a s) = f a s) (hl : l.Nodup) (hm : a ∈ l) : each l f s = f a s := by
  induction l with
  | nil => exact absurd hm List.not_mem_nil
  | cons y l ih =>
    obtain ⟨hy, hl⟩ := List.nodup_cons.1 hl
    rw [each_cons]
    by_cases e : y = a
    · subst e
      refine each_keeps_mem (P := fun t : State => t = f y s) l (fun z hz t ht => ?_) _ rfl
      rw [ht]
      exact hafter z (List.mem_cons_of_mem _ hz) fun e => hy (e ▸ hz)
    · rw [hbefore y List.mem_cons_self e]
      exact ih (fun z hz => hbefore z (List.mem_cons_of_mem _ hz)) (fun z hz => hafter z (List.mem_cons_of_mem _ hz)) hl
        ((List.mem_cons.1 hm).resolve_left (Ne.symm e))

/-- The limit of no SPANSYNC that thread `m` issues has come. -/
def State.Calm (s : State) (m : Nat) : Prop :=
  ∀ it e, s.headItem m = some it → it.kind = .spansync → (s.thr m).expires it = some e → s.beat.lbc + 1 < e

theorem State.Calm.stays {s : State} {m : Nat} (h : s.Calm m) : s.expireItem m .spansync = s := by
  cases hit : s.headItem m with
  | none =>
    unfold State.expireItem
    rw [hit]
    rfl
  | some it => exact State.expireItem_early hit fun hk e hx => h it e hit hk hx

theorem State.Calm.within {s t : State} {n m : Nat} (h : s.Calm m) (hin : s.Within n t) (hm : m ≠ n) : t.Calm m := by
  have hthr := hin.others m hm
  intro it e hit hk hx
  rw [State.thr_headItem hthr hin.beat] at hit
  rw [hthr] at hx
  rw [hin.beat]
  exact h it e hit hk hx

/-- The SPANSYNCs of threads in no span leave by their own limits. -/
def State.ownLimits (s : State) : State := each ((List.range 32).filter (fun n => !(s.inSpan n))) (fun n => State.expireItem n .spansync) s

/-- The SPANSYNC of the member site goes by what the members have sent. -/
def State.spanLimit (s : State) : State :=
  match s.spanSite with
  | none => s
  | some n =>
    match s.headItem n with
    | none => s
    | some it => if it.kind ≠ .spansync ∨ (s.thr n).arrived.isNone then s else (s.sendExpiry n it).leaveSpansync n it

theorem State.ownLimits_calm {s : State} (h : ∀ m, s.inSpan m = false → s.Calm m) : s.ownLimits = s := by
  refine each_keeps_mem (P := fun t : State => t = s) _ (fun m hm t ht => ?_) s rfl
  obtain ⟨-, hout⟩ := List.mem_filter.1 hm
  rw [ht]
  exact (h m (by simpa using hout)).stays

theorem State.ownLimits_one {s : State} {x : Fin 32} (hx : s.inSpan x.val = false) (hcalm : ∀ m, m ≠ x.val → s.Calm m)
    (hin : s.Within x.val (s.expireItem x.val .spansync)) : s.ownLimits = s.expireItem x.val .spansync :=
  each_one (fun y _ hy => (hcalm y hy).stays) (fun y _ hy => ((hcalm y hy).within hin hy).stays) (List.Nodup.filter _ List.nodup_range)
    (List.mem_filter.2 ⟨List.mem_range.2 x.isLt, by simp [hx]⟩)

/-- The member site goes by the registers of the span and the states of the threads. -/
theorem State.spanSite_within {s t : State} {n : Nat} (hin : s.Within n t) (hen : t.bitOf SEQ_SPAN_CFG_EN 0 = s.bitOf SEQ_SPAN_CFG_EN 0)
    (hsite : t.fieldOf SEQ_SPAN_CFG_SITE 0 = s.fieldOf SEQ_SPAN_CFG_SITE 0) : t.spanSite = s.spanSite := by
  have hst (m : Nat) : (t.thr m).st = (s.thr m).st := by
    by_cases e : m = n
    · subst e
      exact hin.st
    · rw [hin.others m e]
  unfold State.spanSite
  rw [hen, hsite]
  simp only [hst]

section
variable {s : State} (hr : s.running = true)
include hr

theorem exec_spansyncTimeout : exec .spansyncTimeout s = .next s.ownLimits.spanLimit := done_live hr _

theorem exec_spansyncTimeout_calm (hn : s.spanSite = none) (h : ∀ m, s.Calm m) : exec .spansyncTimeout s = .next s := by
  rw [exec_spansyncTimeout hr, State.ownLimits_calm fun m _ => h m]
  unfold State.spanLimit
  rw [hn]

/-- A SPANSYNC of a thread in no span leaves by its own limit, and by nothing else. -/
theorem exec_spansyncTimeout_own (hn : s.spanSite = none) {x : Fin 32} {it : Item} {i e : Nat} (hx : s.inSpan x.val = false)
    (hcalm : ∀ m, m ≠ x.val → s.Calm m) (hit : s.headItem x.val = some it) (hk : it.kind = .spansync) (hp : it.timeoutPad = some i)
    (hexp : (s.thr x.val).expires it = some e) (he : e ≤ s.beat.lbc + 1) (hi : s.issuing x.val = true) :
    exec .spansyncTimeout s = .next (if (s.decideBeat x.val).undecided x.val then (s.decideBeat x.val).takePad x.val i none
      else s.decideBeat x.val) := by
  have hdue := State.expireItem_due hit hi hk hp hexp he
  have hin : s.Within x.val (s.expireItem x.val .spansync) := by
    rw [hdue]
    split
    · exact (State.Within.decideBeat s).trans (State.Within.takePad ..)
    · exact State.Within.decideBeat s
  have hkept := State.expireItem_kept (Covers.refl _) (Kept.refl s) x.val .spansync
  have hsite : (s.expireItem x.val .spansync).spanSite = none :=
    (State.spanSite_within hin (hkept.bitOf _ (by decide) 0) (hkept.fieldOf _ (by decide) 0)).trans hn
  rw [exec_spansyncTimeout hr, State.ownLimits_one hx hcalm hin]
  unfold State.spanLimit
  rw [hsite, hdue]

/-! ### The member site (R194, R197, R200) -/

theorem exec_span_none (hn : s.spanSite = none) :
    exec .spansyncRelease s = .next s ∧ exec .spanKeepalive s = .next s ∧ ∀ m, exec (.spanLinkLate m) s = .next s := by
  refine ⟨(done_live hr _).trans ?_, (done_live hr _).trans ?_, fun m => (done_live hr _).trans ?_⟩ <;> rw [hn]

section
variable {n : Nat} (hn : s.spanSite = some n)
include hn

theorem exec_spanKeepalive : exec .spanKeepalive s =
    .next (if s.issuing n && decide (s.seq.span.sentAt + 16 ≤ s.beat.lbc) then s.spanPut (s.burstBeat n) 0 0 0 [] else s) := by
  refine (done_live hr _).trans ?_
  rw [hn]

theorem exec_spanLinkLate (m : BitVec 11) : exec (.spanLinkLate m) s =
    .next (if m.toNat ≠ s.fieldOf KLK_MOD_ID_ID 0 ∧ s.issuing n = true ∧
      ((s.seq.span.last.find? (fun x => x.1 == m.toNat)).map Prod.snd).getD (s.thr n).startBeat + s.lSpan ≤ s.beat.lbc then s.linkLate n m.toNat
      else s) := by
  refine (done_live hr _).trans ?_
  rw [hn]

/-! ### The SPANSYNC of the member site (R198, R199) -/

section
variable {it : Item} (hit : s.headItem n = some it) (hk : it.kind = .spansync) (ha : (s.thr n).arrived.isSome = true)
include hit hk ha

omit hr hn hit in
theorem State.spansync_arrived : ¬(it.kind ≠ .spansync ∨ (s.thr n).arrived.isNone = true) := by
  simp [hk, Option.isNone_eq_false_iff.2 ha]

theorem exec_spansyncRelease_unknown (hrel : s.spanRelease it.pi = none) : exec .spansyncRelease s = .next s := by
  refine (done_live hr _).trans ?_
  simp only [hn, hit, if_neg (State.spansync_arrived hk ha), hrel]

theorem exec_spansyncRelease {r : Nat} (hrel : s.spanRelease it.pi = some r) :
    exec .spansyncRelease s = .next (if r ≤ s.burstBeat n then (s.spanForget it.pi r).release n s.now else s) := by
  refine (done_live hr _).trans ?_
  simp only [hn, hit, if_neg (State.spansync_arrived hk ha), hrel]

theorem exec_spansyncTimeout_member (hcalm : ∀ m, m ≠ n → s.Calm m) : exec .spansyncTimeout s = .next ((s.sendExpiry n it).leaveSpansync n it) := by
  have hin : s.inSpan n = true := by
    unfold State.spanSite at hn
    dsimp only at hn
    split at hn
    · next h =>
      simp only [Bool.and_eq_true] at h
      obtain ⟨⟨hen, -⟩, -⟩ := h
      unfold State.inSpan
      rw [hen, Option.some.inj hn]
      exact beq_self_eq_true n
    · exact absurd hn nofun
  rw [exec_spansyncTimeout hr, State.ownLimits_calm fun m hm => hcalm m fun e => by rw [e, hin] at hm; exact absurd hm (by decide)]
  unfold State.spanLimit
  simp only [hn, hit, if_neg (State.spansync_arrived hk ha)]

end

end

end

/-- The member stays until the earliest expiry is known. -/
theorem State.leaveSpansync_unknown {s : State} {n : Nat} {it : Item} (h : s.spanExpiry it.pi = none) : s.leaveSpansync n it = s := by
  unfold State.leaveSpansync
  rw [h]

theorem State.leaveSpansync_known {s : State} {n e i : Nat} {it : Item} (h : s.spanExpiry it.pi = some e) (hp : it.timeoutPad = some i) :
    s.leaveSpansync n it =
      if e ≤ s.burstBeat n then (((s.spanForget it.pi e).event (848 + 4 * n + 3)).release n s.now).jumpAtEnd n i true else s := by
  unfold State.leaveSpansync
  rw [h, hp]

/-- An expiry sent changes neither the burst beat nor the boundary. -/
theorem State.sendExpiry_beats (s : State) (n : Nat) (it : Item) :
    (s.sendExpiry n it).burstBeat n = s.burstBeat n ∧ (s.sendExpiry n it).now = s.now := by
  unfold State.sendExpiry
  extract_lets me own sent
  unfold when
  split
  · exact ⟨rfl, rfl⟩
  · exact ⟨rfl, rfl⟩

/-! ### What the members have sent (R196, R198) -/

theorem le_foldl_max {l : List (Nat × Nat)} {a : Nat} : a ≤ l.foldl (fun m x => max m x.2) a ∧ ∀ x ∈ l, x.2 ≤ l.foldl (fun m x => max m x.2) a := by
  induction l generalizing a with
  | nil => exact ⟨Nat.le_refl a, by simp⟩
  | cons y l ih =>
    obtain ⟨ha, hl⟩ := ih (a := max a y.2)
    rw [List.foldl_cons]
    refine ⟨(Nat.le_max_left ..).trans ha, fun x hx => ?_⟩
    rcases List.mem_cons.1 hx with rfl | hx
    · exact (Nat.le_max_right ..).trans ha
    · exact hl x hx

/-- An arrival or a timeout that is heard comes after the SPANSYNC was last over. -/
theorem State.mem_spanHeard {s : State} {flag pi : Nat} {x : Nat × Nat} (h : x ∈ s.spanHeard flag pi) : s.spanLeft pi ≤ x.2 := by
  obtain ⟨c, hc, rfl⟩ := List.mem_map.1 h
  obtain ⟨-, hc⟩ := List.mem_filter.1 hc
  simp only [Bool.and_eq_true, decide_eq_true_eq] at hc
  obtain ⟨-, hbeat⟩ := hc
  exact hbeat

/-- A release comes after every arrival that it counts, and after the SPANSYNC was last over. -/
theorem State.spanRelease_after {s : State} {pi r : Nat} (h : s.spanRelease pi = some r) :
    s.spanLeft pi < r ∧ ∀ x ∈ s.spanHeard 1 pi, x.2 < r := by
  unfold State.spanRelease at h
  dsimp only at h
  split at h
  · next hall =>
    obtain ⟨-, hle⟩ := le_foldl_max (l := s.spanHeard 1 pi) (a := 0)
    have hr := Option.some.inj h
    have hlt : ∀ x ∈ s.spanHeard 1 pi, x.2 < r := fun x hx => by
      have := hle x hx
      omega
    refine ⟨?_, hlt⟩
    cases hl : s.spanHeard 1 pi with
    | nil =>
      rw [hl] at hall
      exact absurd hall (by simp [State.spanMembers])
    | cons x l =>
      have hx : x ∈ s.spanHeard 1 pi := by rw [hl]; exact List.mem_cons_self
      exact (State.mem_spanHeard hx).trans_lt (hlt x hx)
  · exact absurd h nofun

theorem State.spanLeft_spanForget (s : State) (pi b : Nat) : (s.spanForget pi b).spanLeft pi = b := by
  have hnone : (s.seq.span.left.filter (fun x => x.1 != pi)).find? (fun x => x.1 == pi) = none :=
    List.find?_eq_none.2 fun x hx => by simpa using (List.mem_filter.1 hx).2
  show ((((s.seq.span.left.filter (fun x => x.1 != pi)) ++ [(pi, b)]).find? (fun x => x.1 == pi)).map Prod.snd).getD 0 = b
  rw [List.find?_append, hnone]
  simp

/-- Once a SPANSYNC is released no arrival for it is left. -/
theorem State.spanHeard_spanForget {s : State} {pi r : Nat} (h : s.spanRelease pi = some r) : (s.spanForget pi r).spanHeard 1 pi = [] := by
  obtain ⟨hleft, hlt⟩ := State.spanRelease_after h
  refine List.eq_nil_iff_forall_not_mem.2 fun x hx => ?_
  have hge : r ≤ x.2 := (s.spanLeft_spanForget pi r) ▸ State.mem_spanHeard hx
  obtain ⟨c, hc, rfl⟩ := List.mem_map.1 hx
  obtain ⟨hmem, hc⟩ := List.mem_filter.1 hc
  simp only [Bool.and_eq_true] at hc
  obtain ⟨⟨hflag, hpi⟩, -⟩ := hc
  have hold : (c.member, c.beat) ∈ s.spanHeard 1 pi := List.mem_map.2 ⟨c, List.mem_filter.2 ⟨(List.mem_filter.1 hmem).1, by
    simp only [hflag, hpi, Bool.true_and, decide_eq_true_eq]
    exact hleft.le.trans hge⟩, rfl⟩
  exact absurd (hlt _ hold) (Nat.not_lt.2 hge)

/-- What is put in a frame is in what this module sends in its burst beat. -/
theorem State.spanPut_out (s : State) (b slots flags pi : Nat) (nos : List (Nat × Nat)) :
    (s.spanPut b slots flags pi nos).seq.span.out.any (fun c => c.member == s.fieldOf KLK_MOD_ID_ID 0 && c.beat == b) = true := by
  unfold State.spanPut
  extract_lets me d put
  show (put s.seq.span.out).any _ = true
  generalize s.seq.span.out = l
  by_cases h : l.any (fun c => c.member == me && c.beat == b) = true
  · have hput : put l = l.map (fun c => if c.member = me ∧ c.beat = b then c.join d else c) := if_pos h
    obtain ⟨c, hc, hmine⟩ := List.any_eq_true.1 h
    have hkeys : c.member = me ∧ c.beat = b := by simpa using hmine
    rw [hput]
    refine List.any_eq_true.2 ⟨c.join d, List.mem_map.2 ⟨c, hc, if_pos hkeys⟩, hmine⟩
  · have hput : put l = l ++ [d] := if_neg h
    rw [hput]
    exact List.any_eq_true.2 ⟨d, List.mem_append_right _ List.mem_cons_self, by simp [d, me]⟩

/-! ### Late links (R197, R200) -/

/-- A late link is a fault of class C2 in SEQ with no vector, unless an abort by that beat stands. -/
theorem State.linkLate_raises {s : State} {n m : Nat} (h : (s.thr n).abortsBy (s.beat.lbc + 2) = false) :
    (s.linkLate n m).hsk.lines = s.hsk.lines ++ [s.faultLine 1 2 0x010A (fld 31 16 (s.fieldOf SEQ_SPAN_CFG_SPAN 0) + fld 10 0 m)
      (BitVec.ofNat 32 (2 ^ n))] := by
  unfold State.linkLate
  rw [if_neg (by simp [h])]
  rfl

theorem State.linkLate_aborting {s : State} {n m : Nat} (h : (s.thr n).abortsBy (s.beat.lbc + 2) = true) : s.linkLate n m = s := if_pos h

/-! ### The obligation -/

/-- Settles O57: a JOIN's release and its timeout are followed through the threads of its group, and the SPANSYNC of a member through what the
members have sent. That the record of a late link has no vector is the model's choice (log entry 66), and so is that a SPANSYNC in no span
leaves by its own limit (log entry 83). -/
theorem joinsAndSpansRelease : Obligations.JoinsAndSpansRelease := by
  unfold Obligations.JoinsAndSpansRelease
  intro s hr calm
  refine ⟨fun g m0 it hm0 hit => ⟨fun hk hall hlast => ?_, fun hnot => ?_⟩, fun x it hit => ⟨fun g e hk hx he ht hi hg hl => ?_,
    exec_joinTimeout_stays hr hit⟩, fun hn => ?_, fun n hn => ⟨fun it hit hk ha => ⟨fun r hrel => ?_, exec_spansyncRelease_unknown hr hn hit hk ha, ?_⟩,
    fun hi hsent => ?_, fun hnot => ?_, fun m => ⟨fun hlate hab => ?_, fun hlate hab => ?_, fun hlate => ?_⟩⟩⟩
  · obtain ⟨hnext, hsplits⟩ := s.releaseJoin_whole g.val
    exact ⟨_, (exec_joinRelease hr hm0 hit).trans (congrArg _ (if_pos ⟨hk, hall, hlast⟩)), hnext, hsplits⟩
  · refine (exec_joinRelease hr hm0 hit).trans (congrArg _ (if_neg ?_))
    rintro ⟨hk, hall, hlast⟩
    exact hnot.elim (· hk) (·.elim (· hall) (Nat.not_lt.2 hlast))
  · have hdue := exec_joinTimeout_due hr hit hk hx he ht hi hg hl
    refine ⟨fun hu => hdue.trans (congrArg _ (if_neg (by rw [hu]; decide))), fun hu => ⟨_, hdue.trans (congrArg _ (if_pos hu)), ?_⟩⟩
    exact State.expireJoin_group ((State.memberOf_congr (s.decideAll_groups _) _).trans hg) _
  · obtain ⟨hrelease, hkeep, hlink⟩ := exec_span_none hr hn
    refine ⟨hrelease, hkeep, hlink, exec_spansyncTimeout_calm hr hn, fun x it i e hx hcalm hit hk hp hexp he hi => ?_⟩
    have hown := exec_spansyncTimeout_own hr hn hx hcalm hit hk hp hexp he hi
    exact ⟨fun hu => hown.trans (congrArg _ (if_pos hu)), fun hu => hown.trans (congrArg _ (if_neg (by rw [hu]; decide)))⟩
  · have hspan := exec_spansyncRelease hr hn hit hk ha hrel
    refine ⟨fun hle => ⟨_, hspan.trans (congrArg _ (if_pos hle)), State.release_next .., ?_⟩, fun hlt => hspan.trans (congrArg _ (if_neg (Nat.not_le.2 hlt)))⟩
    have hsent := (State.Within.release (n := n) (s.spanForget it.pi r) s.now).span
    unfold State.spanHeard State.spanLeft
    rw [hsent]
    exact State.spanHeard_spanForget hrel
  · intro own sent u hcalm
    obtain ⟨hbeat, hnow⟩ := s.sendExpiry_beats n it
    have hmember := exec_spansyncTimeout_member hr hn hit hk ha hcalm
    have hu : u = s.sendExpiry n it := rfl
    clear_value u
    subst hu
    refine ⟨fun hexp => by rw [hmember, State.leaveSpansync_unknown hexp], fun e i hexp hp => ?_⟩
    rw [hmember, State.leaveSpansync_known hexp hp, hbeat, hnow]
    exact ⟨fun hle => congrArg _ (if_pos hle), fun hlt => congrArg _ (if_neg (Nat.not_le.2 hlt))⟩
  · exact ⟨_, (exec_spanKeepalive hr hn).trans (congrArg _ (if_pos (by simp [hi, hsent]))), s.spanPut_out ..⟩
  · refine (exec_spanKeepalive hr hn).trans (congrArg _ (if_neg ?_))
    rcases hnot with h | h
    · simp [h]
    · simp [Nat.not_le.2 h]
  · exact ⟨_, _, (exec_spanLinkLate hr hn m).trans (congrArg _ (if_pos hlate)), State.linkLate_raises hab, rfl, rfl, rfl, rfl, rfl, rfl⟩
  · rw [exec_spanLinkLate hr hn m, if_pos hlate, State.linkLate_aborting hab]
  · exact (exec_spanLinkLate hr hn m).trans (congrArg _ (if_neg hlate))

end Sys2Proof.Machine
end
